-- ==== Sys2Proof/Word.lean ====
section
/-! DEFINITION. The word types of the controller: bytes, 32-bit registers, and what the environment's data is made of. -/

namespace Sys2Proof

/-- A byte (R2). -/
abbrev Byte := BitVec 8

/-- A register word (R387: registers are 32 bits wide). -/
abbrev W32 := BitVec 32

/-- A list of bytes, byte 0 first. -/
abbrev Bytes := List Byte

end Sys2Proof
end

