-- ==== Sys2Proof/Syntax.lean ====
section
/-! DEFINITION. The commands of the controller: one constructor per row of the opcode table, with what the environment
brings to it as operands. -/

namespace Sys2Proof

/-- The commands. -/
inductive Instr where
  /-- REGISTER_WRITE. A whole, aligned fabric write of `v` to the register at `off` (R9). -/
  | registerWrite (off : Nat) (v : W32)
  /-- WIDTH_REJECTED_ACCESS. An access that is not 32 bits, aligned, with all byte enables (R387). -/
  | widthRejectedAccess (off : Nat) (write : Bool)
  /-- RESERVED_OFFSET_ACCESS. A whole access to an offset at which no register is listed (R388). -/
  | reservedOffsetAccess (off : Nat) (write : Bool)
  /-- EXPERT_KEY_WRITE. A write to `ENS_EXPERT_KEY` (R12). -/
  | expertKeyWrite (v : W32)
  /-- IMG_LOAD. A write `v` to `ENS_IMG_CTRL` that sets LOAD (R56). -/
  | imgLoad (v : W32)
  /-- IMG_FETCH_DONE. The image fetch ends with the bytes read from DRAM; `resp` as for ENTRY_FETCH (R45). -/
  | imgFetchDone (data : Bytes) (resp : Nat)
  /-- IMG_VERIFY_DONE. The verification of the staged image ends (R46). -/
  | imgVerifyDone
  /-- IMG_APPLY. A write `v` to `ENS_IMG_CTRL` that sets APPLY (R51, R56). -/
  | imgApply (v : W32)
  /-- IMG_DISCARD. A write `v` to `ENS_IMG_CTRL` that sets DISCARD (R56). -/
  | imgDiscard (v : W32)
  /-- ROUTE_DRAIN_END. The drain of route `r` ends (R51, R52, R126). -/
  | routeDrainEnd (r : Nat)
  /-- DRAIN_LIMIT_EXPIRY. `DRAIN_LIMIT` runs out on route `r` (R52). -/
  | drainLimitExpiry (r : Nat)
  /-- SEAM_BOUNDARY_REACHED. Every pipeline stage stands at its envelope boundary (R53). -/
  | seamBoundaryReached
  /-- SEAM_TIMEOUT. The boundary wait of a seam runs out; the seam's measured length in CORE cycles (R53). -/
  | seamTimeout (cycles : Nat)
  /-- SEAM_COPY_DONE. The copy of the seam ends; the seam's measured length in CORE cycles (R53). -/
  | seamCopyDone (cycles : Nat)
  /-- DIE_GRANT. The arbitration of die `d` of route `r` grants one waiting operation, `us` µs into the die's rebuild window (R74, R305). -/
  | dieGrant (r : Nat) (d : Nat) (us : Nat)
  /-- MERGE_WAIT_EXPIRY. The merge wait of a die's first operation runs out (R67). -/
  | mergeWaitExpiry (r : Nat) (d : Nat)
  /-- BUS_GRANT. Route `r` picks the next eligible bus activity in the order of Table 3-3 (R65). -/
  | busGrant (r : Nat)
  /-- DATA_OUT_START. A data-out of die `d` may start, which was parked for `us` µs so far where it was parked (R18). -/
  | dataOutStart (r : Nat) (d : Nat) (us : Nat)
  /-- STATUS_POLL_DUE. A status poll of die `d` is made, and the die answers `status`; `us` is the array time of its operation so far
  (R75, R78, R305). -/
  | statusPollDue (r : Nat) (d : Nat) (status : Byte) (us : Nat)
  /-- RBN_RISE. R/B# of chip enable `ce` rises, and the enable's busy dies answer status bytes, in LUN order, each with its array time in
  µs (R78). -/
  | rbnRise (r : Nat) (ce : Nat) (status : List (Byte × Nat))
  /-- RBN_FAULT. R/B# of chip enable `ce` disagrees with the status reads (R78). -/
  | rbnFault (r : Nat) (ce : Nat)
  /-- DIE_OP_TIMEOUT. The operation timer of die `d` passes its limit (R79). -/
  | dieOpTimeout (r : Nat) (d : Nat)
  /-- WP_DRIVE_CHANGE. The drive of WP# of route `r` is decided anew (R76, R97). -/
  | wpDriveChange (r : Nat)
  /-- TEMP_READ_DUE. The temperature read of die `d` falls due, and the die answers `p1` (R95). -/
  | tempReadDue (r : Nat) (d : Nat) (p1 : Byte)
  /-- PROGRAM. PROGRAM descriptor `id` executes: `buf` is its payload buffer, `md` its metadata list (R235), `corr` how many units of
  both were corrected (R273). -/
  | program (id : Nat) (buf : Bytes) (md : Bytes) (corr : Nat := 0)
  /-- PROGRAM_STRIPE. PROGRAM_STRIPE descriptor `id` executes; buffers as PROGRAM's; `maps` holds, per layout, the 64-byte map line with
  the bit of its block (R88, R235, R286); `corr` as PROGRAM's; `lost` is the address of an uncorrectable unit of the map (R273). -/
  | programStripe (id : Nat) (buf : Bytes) (md : Bytes) (maps : List Bytes) (corr : Nat := 0) (lost : Option Nat := none)
  /-- ROW_MEMBER_PROGRAM_START. The program of member `m` of row `row` is put among the die's operations (R89, R93). -/
  | rowMemberProgramStart (row : Nat) (m : Nat)
  /-- ROW_COMPLETE. The last member of row `row` has ended (R90, R93). -/
  | rowComplete (row : Nat)
  /-- FLUSH_STRIPE. FLUSH_STRIPE descriptor `id` executes; `maps` holds, per layout, the 64-byte map line with the bit of its block (R92,
  R287); `corr` and `lost` as PROGRAM_STRIPE's. -/
  | flushStripe (id : Nat) (maps : List Bytes) (corr : Nat := 0) (lost : Option Nat := none)
  /-- GUARD_WAIT_EXPIRY. `GUARD_WAIT` runs out for the waiting program or erase `op` (R96). -/
  | guardWaitExpiry (op : Nat)
  /-- ERASE. ERASE descriptor `id` executes; `maps` holds, per layout, the 64-byte map line with the bit of its block (R100, R288); `corr`
  and `lost` as PROGRAM_STRIPE's. -/
  | erase (id : Nat) (maps : List Bytes) (corr : Nat := 0) (lost : Option Nat := none)
  /-- ERASE_BRACKET_STEP. The next step of the erase bracket of die `d` starts (R100). -/
  | eraseBracketStep (r : Nat) (d : Nat)
  /-- MIN_RUN_EXPIRY. `MIN_RUN` has passed since the program or erase of die `d` started or was resumed (R104). -/
  | minRunExpiry (r : Nat) (d : Nat)
  /-- RESUME_HELD_OPERATION. The held operation of die `d` is resumed (R105). -/
  | resumeHeldOperation (r : Nat) (d : Nat)
  /-- HOLD_MAX_EXPIRY. `HOLD_MAX` runs out for the held operation of die `d` (R105). -/
  | holdMaxExpiry (r : Nat) (d : Nat)
  /-- TRAINING_START. The training of route `r` starts (R117). -/
  | trainingStart (r : Nat)
  /-- TRAINING_STEP_DONE. A step of Table 5-3 of route `r` ends with what it found (R117). -/
  | trainingStepDone (r : Nat) (ok : Bool) (data : List Bytes)
  /-- VCCQ_GOOD_TIMEOUT. VCCQ of route `r` is not good within its limit (R117). -/
  | vccqGoodTimeout (r : Nat)
  /-- GUARDED_REERASE_RELEASE. The guard of route `r` ends and its guarded re-erases run (R111). -/
  | guardedReeraseRelease (r : Nat)
  /-- RECAL_NOW. A write of 1 to RECAL_NOW of route `r` (R119). -/
  | recalNow (r : Nat)
  /-- RECAL_PERIOD_EXPIRY. `RECAL_PERIOD` of route `r` runs out (R119). -/
  | recalPeriodExpiry (r : Nat)
  /-- RECAL_PHASE_DONE. A sweep phase of the recalibration of route `r` ends with the eye it found, the shift of its centre, and the bits
  on which DQX and the carrying lane disagreed (R120). -/
  | recalPhaseDone (r : Nat) (eye : Nat) (shift : Int) (disagree : Nat)
  /-- TRAINING_BURST. A read training burst of route `r` with its bit errors; `done` that it ends a sweep under R121, with the eye found
  and the shift of its centre (R121). -/
  | trainingBurst (r : Nat) (errors : Nat) (done : Bool) (eye : Nat) (shift : Int)
  /-- FORCE_GAP_EXPIRY. `FORCE_GAP` runs out on route `r` (R121). -/
  | forceGapExpiry (r : Nat)
  /-- TRAIN_ERR_WINDOW_END. The error window of route `r` ends (R124). -/
  | trainErrWindowEnd (r : Nat)
  /-- DOWN_REQ. A write of 1 to DOWN_REQ of route `r` (R126). -/
  | downReq (r : Nat)
  /-- MOD_PRESENT_CHANGE. The module present signal of route `r` changes (R113, R125). -/
  | modPresentChange (r : Nat) (present : Bool)
  /-- VCCQ_FAULT. VCCQ of route `r` faults (R125). -/
  | vccqFault (r : Nat)
  /-- SAFE_TO_REMOVE. VCCQ of route `r`, which DOWN_REQ took down, has fallen (R126). -/
  | safeToRemove (r : Nat)
  /-- ROUTE_REIMAGE. RE_IMAGE descriptor `id` executes (R58, R123, R301). -/
  | routeReimage (id : Nat)
  /-- ENVELOPE_RECEIVED. The envelope of job `job` has been received; `data` is what the whole data-out carries from its byte `skip` on (R140,
  R141). -/
  | envelopeReceived (job : Nat) (data : Bytes) (skip : Nat)
  /-- HEADER_RECEIVED. The 40-byte header transfer of job `job` ends (R145). -/
  | headerReceived (job : Nat) (data : Bytes)
  /-- DRIFT_ESTIMATE. The drift estimate of die `d`, word-line group `g` is made from its pilot pool (R152). -/
  | driftEstimate (r : Nat) (d : Nat) (g : Nat)
  /-- DECODER_CORE_FREE. Decoder core `core` is free and takes the next envelope (R170). -/
  | decoderCoreFree (core : Nat)
  /-- DECODE_DONE. The decode on core `core` ends after `iters` iterations with the word `word` (R157). -/
  | decodeDone (core : Nat) (iters : Nat) (word : Bytes)
  /-- DECODER_SELF_TEST_DUE. The self-test of core `core` is made (R171). -/
  | decoderSelfTestDue (core : Nat) (pass : Bool)
  /-- DECODER_CHECKER_FAULT. The checker of core `core` faults (R171). -/
  | decoderCheckerFault (core : Nat)
  /-- CALIBRATE. CALIBRATE descriptor `id` executes with its wordline list, `corr` units of it corrected (R162, R273). -/
  | calibrate (id : Nat) (list : Bytes) (corr : Nat := 0)
  /-- CALIBRATION_END. The reads of CALIBRATE `id` so far have ended: the sweep starts, or the result is decided (R163 to R165). -/
  | calibrationEnd (id : Nat)
  /-- GET_CAL. GET_CAL descriptor `id` executes (R168). -/
  | getCal (id : Nat)
  /-- SET_CAL. SET_CAL descriptor `id` executes with the record read from DRAM, `corr` units of it corrected (R168, R273). -/
  | setCal (id : Nat) (rec : Bytes) (corr : Nat := 0)
  /-- SCAN. SCAN descriptor `id` executes with its plan; `blocks` holds the blocks its item list names, each as die key times 65,536 plus
  block (R77, R174 to R178); `corr` counts the corrected units (R273). -/
  | scan (id : Nat) (plan : Bytes) (blocks : List Nat) (corr : Nat := 0)
  /-- SCAN_START. A scan slot is free for scan `id` (R194). -/
  | scanStart (id : Nat)
  /-- ITEM_FETCH. The next item of scan `id` arrives, `corr` units of it corrected (R179, R180, R273). -/
  | itemFetch (id : Nat) (item : Bytes) (corr : Nat := 0)
  /-- POSITION_ADMIT. The next position of scan `id` is admitted (R195). -/
  | positionAdmit (id : Nat)
  /-- LANE_EVALUATE_DONE. The lanes end position `pos` of scan `id` (R187). -/
  | laneEvaluateDone (id : Nat) (pos : Nat)
  /-- POSITION_RETIRE. The oldest position of scan `id` retires (R196). -/
  | positionRetire (id : Nat)
  /-- SCAN_END. Scan `id` has no more positions: its totals are written (R188, R193). -/
  | scanEnd (id : Nat)
  /-- LANE_SELF_TEST_DUE. The self-test of lane `lane` is made (R199). -/
  | laneSelfTestDue (lane : Nat) (pass : Bool)
  /-- LANE_FAULT. Lane `lane` faults (R199). -/
  | laneFault (lane : Nat)
  /-- SQ_DOORBELL. A doorbell write `v` of SQ `n`; `own` is unused where the queue needs no look (R206). -/
  | sqDoorbell (n : Nat) (v : W32) (own : Bool)
  /-- CQ_DOORBELL. A doorbell write `v` of CQ `n` (R207). -/
  | cqDoorbell (n : Nat) (v : W32)
  /-- ENTRY_FETCH. SQ `n`: where one `begins`, the fetch of its next entry; else the oldest fetch under way arrives with `bytes` and the
  response `resp`, 1 for a fabric error, 2 a corrected unit, 3 + u the uncorrectable unit u (R208, R209, R273). -/
  | entryFetch (n : Nat) (bytes : Bytes) (resp : Nat) (begins : Bool := false)
  /-- OWN_RECHECK_EXPIRY. The recheck of SQ `n`'s OWN flag is due and reads `bytes`; `resp` as for ENTRY_FETCH (R205). -/
  | ownRecheckExpiry (n : Nat) (bytes : Bytes) (resp : Nat)
  /-- ADMISSION. One ready descriptor is admitted (R210). -/
  | admission
  /-- COMPLETION_WRITE. The next completion of SQ `n` is written (R217). -/
  | completionWrite (n : Nat)
  /-- CQ_WRITE_ACK. The completion write of CQ `n` is acknowledged (R218). -/
  | cqWriteAck (n : Nat)
  /-- MAILBAG_TIMEOUT. The mailbag timeout of SQ `n` passes (R219). -/
  | mailbagTimeout (n : Nat)
  /-- CQ_WRITE_ERROR. The completion write of CQ `n` ends with a fabric error (R221). -/
  | cqWriteError (n : Nat)
  /-- CREATE_SQ. CREATE_SQ descriptor `id` executes (R222). -/
  | createSq (id : Nat)
  /-- CREATE_CQ. CREATE_CQ descriptor `id` executes (R222). -/
  | createCq (id : Nat)
  /-- DELETE_SQ. DELETE_SQ descriptor `id` executes (R223). -/
  | deleteSq (id : Nat)
  /-- SQ_DELETE_END. The deletion of SQ `n` ends (R223). -/
  | sqDeleteEnd (n : Nat)
  /-- DELETE_CQ. DELETE_CQ descriptor `id` executes (R224). -/
  | deleteCq (id : Nat)
  /-- RESUME_QUEUE. RESUME_QUEUE descriptor `id` executes (R213). -/
  | resumeQueue (id : Nat)
  /-- INVALIDATE_ENTRIES. INVALIDATE_ENTRIES descriptor `id` executes (R209). -/
  | invalidateEntries (id : Nat)
  /-- ADMIN_ENABLE. A write `v` to `ENS_Q_ADMIN_CFG` (R225). -/
  | adminEnable (v : W32)
  /-- ADMIN_RESUME. A write `v` to `ENS_Q_ADMIN_CFG` that sets RESUME (R213). -/
  | adminResume (v : W32)
  /-- READ. READ descriptor `id` executes (R17, R233). -/
  | read (id : Nat)
  /-- READ_HEADERS. READ_HEADERS descriptor `id` executes (R234). -/
  | readHeaders (id : Nat)
  /-- COPY. COPY descriptor `id` executes (R237). -/
  | copy (id : Nat)
  /-- DIAG_PING. DIAG PING descriptor `id` executes (R240). -/
  | diagPing (id : Nat)
  /-- DIAG_REG_SNAPSHOT. DIAG REG_SNAPSHOT descriptor `id` executes over its list of offsets, `corr` units of it corrected (R240, R273). -/
  | diagRegSnapshot (id : Nat) (list : Bytes) (corr : Nat := 0)
  /-- DIAG_NOTICE_TEST. DIAG NOTICE_TEST descriptor `id` executes (R240). -/
  | diagNoticeTest (id : Nat)
  /-- DIAG_RAW_READ. DIAG RAW_READ descriptor `id` executes (R240). -/
  | diagRawRead (id : Nat)
  /-- BUFFER_FAULT. A fabric error, or an uncorrectable unit at address `unit`, meets descriptor `id`'s buffers (R245, R273). -/
  | bufferFault (id : Nat) (unit : Option Nat := none)
  /-- SOURCE_FIRE. Notice source `src` fires (R249). -/
  | sourceFire (src : Nat)
  /-- LETTERBOX. A write `v` to the letterbox (R248). -/
  | letterbox (v : W32)
  /-- NOTICE_ARBITRATION. One arbitration of core `c` (R252, R255). -/
  | noticeArbitration (c : Nat)
  /-- NOTICE_ACCEPT. Core `c` accepts what stands presented (R254). -/
  | noticeAccept (c : Nat)
  /-- NOTICE_EOI. A write `v` to `ENS_NTC_EOI[c]` (R256). -/
  | noticeEoi (c : Nat) (v : W32)
  /-- NOTICE_FAST_EOI. A write `v` to `ENS_NTF_EOI[c]` (R256). -/
  | noticeFastEoi (c : Nat) (v : W32)
  /-- NOTICE_POP_END. The stack pop of core `c` ends; `parity` says that the new top has a parity error (R256, R257). -/
  | noticePopEnd (c : Nat) (parity : Bool := false)
  /-- STACK_RESET. A write `v` to `ENS_NTC_STACK_RESET` (R257). -/
  | stackReset (v : W32)
  /-- MOD_TIMER_EXPIRY. The hold limit of moderation group `g` passes (R258). -/
  | modTimerExpiry (g : Nat)
  /-- CORE_IDLE_CHANGE. The idle signal of core `c` becomes `idle` (R260). -/
  | coreIdleChange (c : Nat) (idle : Bool)
  /-- REDIRECT_TIMEOUT. The redirect timeout of pending source `src` passes (R260). -/
  | redirectTimeout (src : Nat)
  /-- WRITE_BACK. The oldest pending write-back of SRAM bank `bank` is made (R267). -/
  | writeBack (bank : Nat)
  /-- SCRUB_READ. The scrubber reads the next word of bank `bank`; `err` is the pattern of symbol errors that arose in it, `ms` the lap's
  wall-clock time so far (R271). -/
  | scrubRead (bank : Nat) (err : Nat) (ms : Nat)
  /-- SCRUB_DEADLINE. The scrubber of bank `bank` falls behind and takes a cycle; operands as SCRUB_READ (R271). -/
  | scrubDeadline (bank : Nat) (err : Nat) (ms : Nat)
  /-- RANGE_WALK_END. The walk of the oldest listed range ends (R278). -/
  | rangeWalkEnd
  /-- LOAD_PIGEONHOLE. LOAD_PIGEONHOLE descriptor `id` executes (R280). -/
  | loadPigeonhole (id : Nat)
  /-- LOCK_WAYS. LOCK_WAYS descriptor `id` executes (R280). -/
  | lockWays (id : Nat)
  /-- UNLOCK_WAYS. UNLOCK_WAYS descriptor `id` executes (R280). -/
  | unlockWays (id : Nat)
  /-- RECON_CONTEXT_TAKE. Job `job` takes a reconstruction context; `maps` holds, per layout, the 64-byte map line with the bit of its
  block; `err` says that a map read failed (R286, R291); `corr` and `lost` as PROGRAM_STRIPE's. -/
  | reconContextTake (job : Nat) (maps : List Bytes) (err : Bool) (corr : Nat := 0) (lost : Option Nat := none)
  /-- RECONSTRUCTION. The members of context `ctx` have ended: the reconstruction is solved (R289, R290). -/
  | reconstruction (ctx : Nat)
  /-- PATROL_ROUND_START. A patrol round starts, `sec` seconds after the previous one started (R294). -/
  | patrolRoundStart (sec : Nat)
  /-- PATROL_READ_DUE. The cursor of die `d` is due, `sec` seconds into the round (R294). -/
  | patrolReadDue (r : Nat) (d : Nat) (sec : Nat)
  /-- SPARE_AREA_WRITE. A write `v` to `ENS_FI_SPARE`, or to `ENS_FI_SPARE_RANGE` where `hi` is set (R296). -/
  | spareAreaWrite (hi : Bool) (v : W32)
  /-- DEAD_LETTER_WRITE. The oldest held letter is written to the dead-letter ring (R297). -/
  | deadLetterWrite
  /-- DL_HEAD_WRITE. A write `v` to `ENS_FI_DL_HEAD` (R297). -/
  | dlHeadWrite (v : W32)
  /-- DL_CFG_ENABLE. A write `v` to `ENS_FI_DL_CFG` (R297). -/
  | dlCfgEnable (v : W32)
  /-- DL_WRITE_RETRY. A letter write that failed is made again (R383). -/
  | dlWriteRetry
  /-- RETIRE_DIE. RETIRE_DIE descriptor `id` executes (R300). -/
  | retireDie (id : Nat)
  /-- REBUILD. REBUILD descriptor `id` executes (R302). -/
  | rebuild (id : Nat)
  /-- REBUILD_BASE_BLOCK. The next step of the rebuild of entry `entry`; `maps` holds, per layout, the 64-byte map line with the bit of
  its block; `err` says that a map read failed (R302, R383); `corr` and `lost` as PROGRAM_STRIPE's. -/
  | rebuildBaseBlock (entry : Nat) (maps : List Bytes) (err : Bool) (corr : Nat := 0) (lost : Option Nat := none)
  /-- REBUILD_WINDOW_END. A 10 ms accounting window of die `d` ends (R305). -/
  | rebuildWindowEnd (r : Nat) (d : Nat)
  /-- DEGRADED_CHANGE. The guarantees are decided anew (R307). -/
  | degradedChange
  /-- POSTMARK_TICK. One TIME cycle of the postmark counter (R310). -/
  | postmarkTick
  /-- PPS_EDGE. A 1PPS edge: its TAI second, the time unit's quality, and the ns since the previous valid edge (R312 to R315). -/
  | ppsEdge (tod : Nat) (tu : Nat) (gap : Nat)
  /-- STEP_PERMIT. A write `v` to `ENS_PM_CTRL` (R312). -/
  | stepPermit (v : W32)
  /-- HOLDOVER_EXPIRY. `HOLDOVER_LIMIT` runs out (R315). -/
  | holdoverExpiry
  /-- TIME_RESTART. The TIME clock starts again after `ticks` ticks of 1/32,768 s (R316). -/
  | timeRestart (ticks : Nat)
  /-- NOW_NS_READ. A read of `ENS_PM_NOW_NS` (R323). -/
  | nowNsRead
  /-- BEACON_DUE. A beacon falls due (R318). -/
  | beaconDue
  /-- PEER_READ_DUE. Peer slot `i` is read; `resp` as for ENTRY_FETCH (R319). -/
  | peerReadDue (i : Nat) (bytes : Bytes) (resp : Nat)
  /-- HOME_COMMIT. HOME_COMMIT descriptor `id` executes (R330). -/
  | homeCommit (id : Nat)
  /-- TWIN_SELECT. The twins are read in TRAIN: per twin the payloads of its envelopes 0 to 79 and of the commit envelope, an empty one
  where the envelope did not decode, no list at all where every page tests erased (R334). -/
  | twinSelect (a : List Bytes) (b : List Bytes)
  /-- SEAL_SET. SEAL_SET descriptor `id` executes with its credential, `corr` units of it corrected (R341, R273). -/
  | sealSet (id : Nat) (cred : Bytes) (corr : Nat := 0)
  /-- SEAL_UNLOCK. SEAL_UNLOCK descriptor `id` executes with its password, `corr` units of it corrected (R342, R273). -/
  | sealUnlock (id : Nat) (pw : Bytes) (corr : Nat := 0)
  /-- SEAL_LOCKOUT_EXPIRY. The lockout of seal `k` ends (R340). -/
  | sealLockoutExpiry (k : Nat)
  /-- MODE_REQUEST. A mode request `v`, from a register write or the power manager (R348). -/
  | modeRequest (v : W32) (pm : Bool)
  /-- PENDING_REQUEST_JUDGE. A held mode request is judged again (R349). -/
  | pendingRequestJudge
  /-- MODE_ENTERED. The change to the target mode completes (R350). -/
  | modeEntered
  /-- POWER_ON. The supply and reset conditions of BRINGUP are met (R373). -/
  | powerOn
  /-- BRINGUP_DONE. The self-tests of BRINGUP end: whether the checker test failed, the bad SRAM words with the mask of their bad macros,
  the failing decoder cores and the failing lanes (R171, R199, R272, R351). -/
  | bringupDone (checker : Bool) (bad : List (Nat × Nat)) (cores : List Nat) (lanes : List Nat)
  /-- TRAIN_DONE. Training, recovery and the twin restore end (R350). -/
  | trainDone
  /-- WAKE_TIMER_EXPIRY. `ENS_PWR_WAKE_TIMER` runs out (R353). -/
  | wakeTimerExpiry
  /-- WATCH_WAKE. A wake event of WATCH (R356). -/
  | watchWake (cause : Nat) (src : Nat)
  /-- SEAL_FUSE_COMMAND. A write `v` to `ENS_SEC_CTRL` that seals (R362). -/
  | sealFuseCommand (v : W32)
  /-- LOCKDOWN_COMMAND. A write `v` to `ENS_SEC_CTRL` that locks down (R368). -/
  | lockdownCommand (v : W32)
  /-- KEY_STORE_CHECK. The key store is checked (R368). -/
  | keyStoreCheck (mismatch : Bool)
  /-- TAMPER_ASSERT. The tamper input is asserted (R368). -/
  | tamperAssert
  /-- DBG_AUTH. A write `v` to `ENS_DBG_CTRL` that sets AUTH (R364). -/
  | dbgAuth (v : W32)
  /-- DBG_AUTH_DONE. The check of the debug token ends: its bytes and how their read ended (R364). -/
  | dbgAuthDone (token : Bytes) (resp : Nat)
  /-- DBG_END. A write `v` to `ENS_DBG_CTRL` that sets END (R365). -/
  | dbgEnd (v : W32)
  /-- DBG_SESSION_EXPIRY. The debug session's seconds run out (R365). -/
  | dbgSessionExpiry
  /-- DBG_LEVEL_WRITE. A write `v` to `ENS_DBG_CTRL` that gives LEVEL (R363). -/
  | dbgLevelWrite (v : W32)
  /-- DBG_WIN_DATA0_READ. A read of `ENS_DBG_WIN_DATA0` (R367). -/
  | dbgWinData0Read
  /-- DBG_WIN_DATA3_WRITE. A write `v` to `ENS_DBG_WIN_DATA3` (R367). -/
  | dbgWinData3Write (v : W32)
  /-- VIN_LEVEL_CHANGE. The filtered VIN_ENS crosses a level and stands at `uv` microvolts (R94, R373). -/
  | vinLevelChange (uv : Nat)
  /-- JUNCTION_SAMPLE. The eight junction sensors are sampled, each reading in degrees Celsius (R375). -/
  | junctionSample (readings : List Int)
  /-- RESET_ASSERT. A reset input changes: 0 RESET_N low, 1 SUPPLY_GOOD low, 2 RESET_N high, 3 SUPPLY_GOOD high, 4 a regulator out of
  regulation, 5 regulators in regulation (R373, R378). -/
  | resetAssert (kind : Nat)
  /-- XTAL_SILENT. The crystal shows no edges (R372). -/
  | xtalSilent
  /-- TIME_REF_SILENT. The time reference shows no edges (R372). -/
  | timeRefSilent
  /-- FAB_RESPONSE_TIMEOUT. A fabric response does not come (R372). -/
  | fabResponseTimeout
  /-- AGING_MEASURE. The replica-path monitor of island `i` measures margin `v` (R377). -/
  | agingMeasure (i : Nat) (v : Nat)
  /-- DRAM_PORT_STALL. DRAM port `port` stalls for longer than its buffer absorbs, with the mask of the routes whose traffic waits on it
  (R381). -/
  | dramPortStall (port : Nat) (routes : Nat)
  /-- PORT_BUFFER_HALF_EMPTY. The buffer of DRAM port `port` is half empty again (R381). -/
  | portBufferHalfEmpty (port : Nat)
  /-- DRAM_SR_RISE. The DRAM self-refresh signal rises (R382). -/
  | dramSrRise
  /-- SR_HOLD_EXPIRY. `SR_HOLD` runs out (R382). -/
  | srHoldExpiry
  /-- DRAM_SR_EXIT_ACK. The DRAM has left self-refresh (R382). -/
  | dramSrExitAck
  /-- ALIVE_TOGGLE. The alive signal toggles (R384). -/
  | aliveToggle
  /-- PPS_EDGE_MISSED. A time reference edge is missing (R315). -/
  | ppsEdgeMissed
  /-- CRYSTAL_EDGES_RETURN. The crystal's edges return (R372). -/
  | crystalEdgesReturn
  /-- FABRIC_WRITE_ACKNOWLEDGEMENT. The fabric acknowledges, or rejects, the oldest open write of a kind: 0 a stripe map line, 1 a dead
  letter, 2 a beacon, 3 an OWN-clearing write (R383). -/
  | fabricWriteAcknowledgement (kind : Nat) (ok : Bool)
  deriving DecidableEq, Repr

end Sys2Proof
end

