-- ==== Sys2Proof/Decode.lean ====
section
/-! DEFINITION. The reading of a table word. The opcode table gives no row any bits: the commands are register accesses and
events, and no word spells one. -/

namespace Sys2Proof

/-- The command that a word spells by the table's bits: none, since no row of the table has bits. -/
def decodeTableWord (_nbits _w : Nat) : Option Instr := none

end Sys2Proof
end

