-- ==== Sys2Proof/Machine/Bytes.lean ====
section
/-! DEFINITION. Bytes, bit fields, CRC-32C, serial numbers, and sparse tables in canonical form: the plain helpers every
other file of the machine is written over. -/

namespace Sys2Proof.Machine

/-- The value of a little-endian byte string (R6). -/
def leNat : Bytes → Nat
  | [] => 0
  | b :: bs => b.toNat + 256 * leNat bs

/-- The low `n` bytes of a value, little-endian (R6). -/
def leBytes : Nat → Nat → Bytes
  | 0, _ => []
  | n + 1, v => BitVec.ofNat 8 v :: leBytes n (v / 256)

/-- Bits [lo + w - 1 : lo] of a value (R5). -/
def bits (v lo w : Nat) : Nat := (v >>> lo) % 2 ^ w

/-- Bit `i` of a value (R5). -/
def bit (v i : Nat) : Bool := v.testBit i

/-- `v` with bits [lo + w - 1 : lo] replaced by the low `w` bits of `x`. -/
def setBits (v lo w x : Nat) : Nat :=
  v % 2 ^ lo + (x % 2 ^ w) * 2 ^ lo + v / 2 ^ (lo + w) * 2 ^ (lo + w)

/-- The byte string `bs` from byte `k`, `n` bytes long; bytes beyond the end read as zero. -/
def slice (bs : Bytes) (k n : Nat) : Bytes :=
  let t := (bs.drop k).take n
  t ++ List.replicate (n - t.length) 0

/-- The little-endian value of `n` bytes at offset `k`. -/
def field (bs : Bytes) (k n : Nat) : Nat := leNat (slice bs k n)

/-- Two's complement reading of the low `w` bits (R5). -/
def signed (w v : Nat) : Int := if bit v (w - 1) then (v % 2 ^ w : Nat) - (2 ^ w : Nat) else (v % 2 ^ w : Nat)

/-- Two's complement writing in `w` bits (R5). -/
def unsigned (w : Nat) (v : Int) : Nat := (v % (2 ^ w : Nat)).toNat

/-- `v` held to the range `lo` to `hi`. -/
def clampNat (lo hi v : Nat) : Nat := max lo (min hi v)

/-- `v` held to the range `lo` to `hi`. -/
def clampInt (lo hi v : Int) : Int := max lo (min hi v)

/-- The bit list of a value, bit 0 first. -/
def bitList : Nat → Nat → List Bool
  | 0, _ => []
  | n + 1, v => bit v 0 :: bitList n (v / 2)

/-- How many of the low `n` bits are ones. -/
def popcount (n v : Nat) : Nat := (bitList n v).countP id

/-- One byte of the CRC-32C register (R99): reflected, polynomial 0x82F6_3B78. -/
def crcBits : Nat → Nat → Nat
  | 0, c => c
  | n + 1, c => crcBits n (if bit c 0 then (c >>> 1) ^^^ 0x82F63B78 else c >>> 1)

/-- CRC-32C of a byte string: Castagnoli, reflected, initial value and final XOR 0xFFFF_FFFF (R99). -/
def crc32c (bs : Bytes) : Nat :=
  bs.foldl (fun c b => crcBits 8 (c ^^^ b.toNat)) 0xFFFFFFFF ^^^ 0xFFFFFFFF

/-- Serial-number order on `w`-bit generations (R320): `a` is later than `b`. -/
def serialLater (w a b : Nat) : Bool :=
  let d := (a + 2 ^ w - b % 2 ^ w) % 2 ^ w
  decide (1 ≤ d ∧ d < 2 ^ (w - 1))

/-- An event counter that wraps freely at 32 bits. -/
def wrapInc (w : W32) : W32 := w + 1

/-- A saturating increment of a `w`-bit counter. -/
def satInc (w v : Nat) : Nat := min (2 ^ w - 1) (v + 1)

/-- The positions below `n` at which `p` holds, ascending. -/
def idxWhere (n : Nat) (p : Nat → Bool) : List Nat := (List.range n).filter p

/-- The first position below `n` at which `p` holds. -/
def firstIdx (n : Nat) (p : Nat → Bool) : Option Nat := (List.range n).find? p

/-- The first position at or after `k`, going round modulo `n`, at which `p` holds: a rotating pointer's pick. -/
def rotateIdx (n k : Nat) (p : Nat → Bool) : Option Nat :=
  ((List.range n).map fun i => (k + i) % n).find? p

/-- The list with its element `k` replaced. -/
def setAt {α : Type} (l : List α) (k : Nat) (v : α) : List α := l.set k v

/-! Sparse tables. A table lists the entries that differ from the default of their key, keys strictly rising: equal
tables are equal data. -/

/-- A sparse table: key and value pairs. -/
abbrev Tbl (α : Type) := List (Nat × α)

/-- The value at key `k`: the listed one, else the default. -/
def tget {α : Type} (d : Nat → α) : Tbl α → Nat → α
  | [], k => d k
  | (j, v) :: t, k => if k = j then v else tget d t k

/-- The table without key `k`. -/
def terase {α : Type} (t : Tbl α) (k : Nat) : Tbl α := t.filter fun e => e.1 ≠ k

/-- The table with `v` put at key `k` in its place, keys rising; the default is not listed. Key `k` must not be listed before. -/
def tput {α : Type} [DecidableEq α] (d : Nat → α) : Tbl α → Nat → α → Tbl α
  | [], k, v => if v = d k then [] else [(k, v)]
  | (j, w) :: t, k, v =>
    if k < j then (if v = d k then (j, w) :: t else (k, v) :: (j, w) :: t) else (j, w) :: tput d t k v

/-- The table with the value at key `k` set: writing the default removes the entry. -/
def tset {α : Type} [DecidableEq α] (d : Nat → α) (t : Tbl α) (k : Nat) (v : α) : Tbl α := tput d (terase t k) k v

/-- The canonical form of a table: keys strictly rising, no entry equal to its default. -/
def Tbl.wf {α : Type} [DecidableEq α] (d : Nat → α) (t : Tbl α) : Bool :=
  (t.map Prod.fst).Pairwise (· < ·) ∧ ∀ e ∈ t, e.2 ≠ d e.1

end Sys2Proof.Machine
end

