-- ==== Sys2Proof/Machine/Codec.lean ====
section
/-! DEFINITION. The codes of the flash format and of the memories: the field GF(2^8), the header's Reed–Solomon code (R134),
the two-check-symbol code of SRAM words, DRAM units and stripes (R264, R284), the randomiser (R136), the pilots (R137), the
LDPC code (R138), the header fields (R132) and the whole envelope (R139). -/

namespace Sys2Proof.Machine

/-! The field GF(2^8) with x^8 + x^4 + x^3 + x^2 + 1 and α = 0x02 (R134). -/

/-- Multiplication by α. -/
def gx (a : Byte) : Byte := (a <<< 1) ^^^ (if a.msb then 0x1D else 0)

/-- Multiplication, by the bits of the second factor from the top. -/
def gmulN (a : Byte) (b : Nat) : Nat → Byte
  | 0 => 0
  | n + 1 => gx (gmulN a (b / 2) n) ^^^ (if bit b 0 then a else 0)

/-- Multiplication. -/
def gmul (a b : Byte) : Byte := gmulN a b.toNat 8

/-- The power `α^n`. -/
def gpow : Nat → Byte
  | 0 => 1
  | n + 1 => gx (gpow n)

/-- `α^n` with the exponent taken modulo 255. -/
def galpha (n : Nat) : Byte := gpow (n % 255)

/-- The exponent below 255 whose power of α is `a`, none for zero. -/
def glog (a : Byte) : Option Nat := firstIdx 255 fun n => gpow n = a

/-- The inverse (zero for zero). -/
def ginv (a : Byte) : Byte :=
  match glog a with
  | some n => galpha (255 - n)
  | none => 0

/-- Division. -/
def gdiv (a b : Byte) : Byte := gmul a (ginv b)

/-- The value of a polynomial, highest coefficient first. -/
def gevalHi (p : Bytes) (x : Byte) : Byte := p.foldl (fun acc c => gmul acc x ^^^ c) 0

/-- The value of a polynomial, lowest coefficient first. -/
def gevalLo (p : Bytes) (x : Byte) : Byte := p.foldr (fun c acc => gmul acc x ^^^ c) 0

/-! The header code RS(40, 30) (R134). -/

/-- The generator (x − α^0) … (x − α^9), highest coefficient first, its leading 1 left out. -/
def rsGenerator : Bytes :=
  (((List.range 10).foldl (fun g i =>
    List.zipWith (· ^^^ ·) (g ++ [0]) (0 :: g.map (gmul (galpha i)))) ([1] : Bytes))).tail

/-- The ten parity bytes of a 30-byte header content: header bytes 30 to 39 (R134). -/
def rsParity (content : Bytes) : Bytes :=
  content.foldl (fun rem b =>
    let f := b ^^^ rem.headD 0
    List.zipWith (· ^^^ ·) (rem.tail ++ [0]) (rsGenerator.map (gmul f))) (List.replicate 10 0)

/-- The ten syndromes of a 40-byte header, S0 first. -/
def rsSyndromes (h : Bytes) : Bytes := (List.range 10).map fun i => gevalHi h (galpha i)

/-- The state of the error locator search: locator, previous locator, length, gap, previous discrepancy. -/
structure BMState where
  c : Bytes
  b : Bytes
  l : Nat
  m : Nat
  d : Byte
  deriving DecidableEq, Repr

/-- The sum of two polynomials, lowest coefficient first. -/
def polyAdd : Bytes → Bytes → Bytes
  | [], q => q
  | p, [] => p
  | a :: p, b :: q => (a ^^^ b) :: polyAdd p q

/-- One step of the locator search on syndrome `n`. -/
def bmStep (syn : Bytes) (st : BMState) (n : Nat) : BMState :=
  let δ := (List.range (st.l + 1)).foldl
    (fun acc i => acc ^^^ gmul (st.c.getD i 0) (syn.getD (n - i) 0)) 0
  if δ = 0 then { st with m := st.m + 1 }
  else
    let c' := polyAdd st.c (List.replicate st.m 0 ++ st.b.map (gmul (gdiv δ st.d)))
    if 2 * st.l ≤ n then { c := c', b := st.c, l := n + 1 - st.l, m := 1, d := δ }
    else { st with c := c', m := st.m + 1 }

/-- What the header code's decoder answers (R134, R145). -/
inductive RsResult where
  | clean
  | corrected (header : Bytes) (bytes : Nat)
  | failed
  deriving DecidableEq, Repr

/-- Decode a 40-byte header: zero syndromes are clean, 1 to 5 wrong bytes are corrected, everything else fails (R134). -/
def rsDecode (h : Bytes) : RsResult :=
  let syn := rsSyndromes h
  if syn.all (· = 0) then .clean
  else
    let st := (List.range 10).foldl (bmStep syn) { c := [1], b := [1], l := 0, m := 1, d := 1 }
    let omega := ((List.range 10).map fun k =>
      (List.range (k + 1)).foldl (fun acc i => acc ^^^ gmul (st.c.getD i 0) (syn.getD (k - i) 0)) 0)
    let deriv := st.c.tail.mapIdx fun i c => if i % 2 = 0 then c else 0
    let pos := idxWhere 40 fun j => gevalLo st.c (galpha (255 - j)) = 0
    if st.l ≤ 5 ∧ pos.length = st.l then
      let h' := pos.foldl (fun acc j =>
        let xi := galpha (255 - j)
        let e := gmul (galpha j) (gdiv (gevalLo omega xi) (gevalLo deriv xi))
        acc.set (39 - j) (acc.getD (39 - j) 0 ^^^ e)) h
      if (rsSyndromes h').all (· = 0) then .corrected h' st.l else .failed
    else .failed

/-! The code with two check symbols (R264, R273, R284). A code word is a list of (power, symbol) pairs. -/

/-- The two syndromes of a code word. -/
def twoSyn (w : List (Nat × Byte)) : Byte × Byte :=
  w.foldl (fun s e => (s.1 ^^^ e.2, s.2 ^^^ gmul e.2 (galpha e.1))) (0, 0)

/-- The symbols missing at powers 1 and 0: the check symbols of a message. -/
def twoChecks (w : List (Nat × Byte)) : Byte × Byte :=
  let s := twoSyn w
  let p := gdiv (s.1 ^^^ s.2) (galpha 1 ^^^ 1)
  (p, s.1 ^^^ p)

/-- The symbols missing at two powers, from the syndromes of the rest. -/
def twoSolve (s : Byte × Byte) (p q : Nat) : Byte × Byte :=
  let e := gdiv (s.2 ^^^ gmul s.1 (galpha q)) (galpha p ^^^ galpha q)
  (e, s.1 ^^^ e)

/-- The powers of the stored symbols of a 16-byte unit: data byte j at x^(17 − j), c0 at x, c1 at 1 (R264). -/
def unitPower (symbol : Nat) : Nat := 17 - symbol

/-- The code word of a unit: 18 stored symbols and the six address bytes at x^18 to x^23 (R264). -/
def unitWord (addr : Nat) (stored : Bytes) : List (Nat × Byte) :=
  (stored.mapIdx fun j b => (unitPower j, b)) ++ ((leBytes 6 addr).mapIdx fun i b => (18 + i, b))

/-- The 18 stored symbols of 16 data bytes at an address (R264). -/
def unitEncode (addr : Nat) (data : Bytes) : Bytes :=
  let c := twoChecks (unitWord addr data)
  data ++ [c.1, c.2]

/-- What a read of a unit answers (R265): clean, corrected at a symbol, or uncorrectable with the position it named. -/
inductive UnitResult where
  | clean
  | corrected (symbol : Nat) (stored : Bytes)
  | uncorrectable (position : Option Nat)
  deriving DecidableEq, Repr

/-- The position an error locator names: stored symbols 0 to 17, address positions 18 to 23 (R265; log 9). -/
def unitLocate (s : Byte × Byte) : Option Nat :=
  if s.1 = 0 ∨ s.2 = 0 then none
  else match glog (gdiv s.2 s.1) with
    | some p => if p < 18 then some (17 - p) else if p < 24 then some p else none
    | none => none

/-- Decode a unit read at an address (R265). -/
def unitDecode (addr : Nat) (stored : Bytes) : UnitResult :=
  let s := twoSyn (unitWord addr stored)
  if s = (0, 0) then .clean
  else match unitLocate s with
    | some k => if k < 18 then .corrected k (stored.set k (stored.getD k 0 ^^^ s.1)) else .uncorrectable (some k)
    | none => .uncorrectable none

/-- Decode a unit of a bank whose macro `m` has failed: that symbol is rebuilt, every further error is uncorrectable (R270). -/
def unitDecodeErasure (addr m : Nat) (stored : Bytes) : UnitResult :=
  let s := twoSyn (unitWord addr stored)
  if s = (0, 0) then .clean
  else if s.2 = gmul s.1 (galpha (unitPower m)) then .corrected m (stored.set m (stored.getD m 0 ^^^ s.1))
  else .uncorrectable (unitLocate s)

/-! The randomiser (R136) and the pilots (R137). -/

/-- One step of the 32-bit register (R136). -/
def lfsrStep (s : Nat) : Nat :=
  let f := bits s 31 1 ^^^ bits s 21 1 ^^^ bits s 1 1 ^^^ bits s 0 1
  ((s <<< 1) ||| f) % 2 ^ 32

/-- `n` keystream bits, bit 0 the first (R136). -/
def keystream : Nat → Nat → Nat
  | 0, _ => 0
  | n + 1, s => bits s 31 1 + 2 * keystream n (lfsrStep s)

/-- The randomiser's seed of an envelope address, after its zero rule (R136). -/
def envSeed (addr : Nat) : Nat :=
  let c := crc32c (leBytes 6 addr)
  if c = 0 then 1 else c

/-- The 128 pilot values of an envelope address, pilot 0 in bit 0 (R137). -/
def pilotBits (addr : Nat) : Nat :=
  let seed := envSeed addr
  let ps := ((seed <<< 16 ||| seed >>> 16) % 2 ^ 32) ^^^ 0x50494C54
  let g := keystream 64 (if ps = 0 then 1 else ps)
  (List.range 64).foldl (fun acc m => acc + (if bit g m then 1 else 2) * 4 ^ m) 0

/-- The envelope bit of pilot `k` (R137). -/
def pilotPos (k : Nat) : Nat := 343 + 4565 * (k + 1) / 16

/-- The first body bit of the run of non-pilot bits that ends at pilot `k`. -/
def pilotRunStart : Nat → Nat
  | 0 => 344
  | k + 1 => pilotPos k + 1

/-- Put the 36,392 non-pilot body bits and the pilots in their places: the envelope's bits from bit 344 (R137, R138). -/
def spreadBody (body pil : Nat) : Nat :=
  ((List.range 128).foldl (fun (acc : Nat × Nat) k =>
    let n := pilotPos k - pilotRunStart k
    let at0 := pilotRunStart k - 344
    (acc.1 + bits body acc.2 n * 2 ^ at0 + bits pil k 1 * 2 ^ (at0 + n), acc.2 + n)) (0, 0)).1

/-- The non-pilot body bits of an envelope (R138). -/
def gatherBody (env : Nat) : Nat :=
  ((List.range 128).foldl (fun (acc : Nat × Nat) k =>
    let n := pilotPos k - pilotRunStart k
    (acc.1 + bits env (pilotRunStart k) n * 2 ^ acc.2, acc.2 + n)) (0, 0)).1

/-- The raw pilot bits of an envelope, pilot 0 in bit 0 (R144). -/
def gatherPilots (env : Nat) : Nat :=
  (List.range 128).foldl (fun acc k => acc + bits env (pilotPos k) 1 * 2 ^ k) 0

/-! The LDPC code (R138). -/

/-- The shift of the base matrix at block row `r` and block column `c`, none where the entry is zero (R138). -/
def ldpcShift (r c : Nat) : Option Nat :=
  if c < 130 then
    if (List.range 4).any (fun j => (c + 4 * j) % 15 = r) then some ((13 * (r + 1) * (c + 7) + 5 * r) % 256) else none
  else if c = 130 then
    if r = 0 ∨ r = 14 then some 1 else if r = 7 then some 0 else none
  else if r + 131 = c ∨ r + 130 = c then some 0 else none

/-- The 256-bit block `x` with bit t taken from bit (t + s) mod 256. -/
def rot256 (x s : Nat) : Nat := ((x >>> s) ||| (x <<< (256 - s))) % 2 ^ 256

/-- The XOR of block row `r` over the first `cols` block columns of a code word (R138). -/
def ldpcRow (cw cols r : Nat) : Nat :=
  (List.range cols).foldl (fun acc c =>
    match ldpcShift r c with
    | some s => acc ^^^ rot256 (bits cw (256 * c) 256) s
    | none => acc) 0

/-- The 3,840 parity bits of 33,280 information bits: column 130 from the sum of all rows, the rest by the staircase (R138). -/
def ldpcParity (info : Nat) : Nat :=
  let rows := (List.range 15).map (ldpcRow info 130)
  let p0 := rows.foldl (· ^^^ ·) 0
  let cols := (List.range 14).foldl (fun (acc : List Nat × Nat) r =>
    let own := rows.getD r 0 ^^^ (if r = 0 then rot256 p0 1 else if r = 7 then p0 else 0)
    (acc.1 ++ [own ^^^ acc.2], own ^^^ acc.2)) ([], 0)
  (p0 :: cols.1).foldr (fun b acc => b + 2 ^ 256 * acc) 0

/-- Every parity check of a 37,120-bit code word holds (R138, R157). -/
def ldpcOk (cw : Nat) : Bool := (List.range 15).all fun r => ldpcRow cw 145 r = 0

/-- The information bits of 40 header bytes and 4,096 payload bytes (Table 6-4). -/
def ldpcInfo (header payload : Bytes) : Nat := leNat header * 2 ^ 192 + leNat payload * 2 ^ 512

/-! The header's content fields (R132). -/

/-- The content fields of a header (Table 6-2). -/
structure Header where
  postmark : Nat := 0
  column : Nat := 0
  slab : Nat := 0
  origin : Nat := 0
  zmin : Nat := 0
  zmax : Nat := 0
  count : Nat := 0
  stripe : Nat := 0
  format : Nat := 0
  reserved : Nat := 0
  deriving DecidableEq, Repr

/-- The 30 content bytes of the fields (Table 6-2). -/
def Header.bytes (h : Header) : Bytes :=
  leBytes 30 (h.postmark % 2 ^ 80 + 2 ^ 80 * (h.column % 2 ^ 32) + 2 ^ 112 * (h.slab % 2 ^ 32) +
    2 ^ 144 * (h.origin % 2 ^ 18) + 2 ^ 162 * (h.zmin % 2 ^ 18) + 2 ^ 180 * (h.zmax % 2 ^ 18) +
    2 ^ 198 * (h.count % 2 ^ 11) + 2 ^ 209 * (h.stripe % 16) + 2 ^ 213 * (h.format % 8) +
    2 ^ 216 * (h.reserved % 2 ^ 24))

/-- The fields of 30 content bytes (Table 6-2). -/
def Header.parse (bs : Bytes) : Header :=
  let v := leNat (slice bs 0 30)
  { postmark := bits v 0 80, column := bits v 80 32, slab := bits v 112 32, origin := bits v 144 18,
    zmin := bits v 162 18, zmax := bits v 180 18, count := bits v 198 11, stripe := bits v 209 4,
    format := bits v 213 3, reserved := bits v 216 24 }

/-- Sample `i` of a column slab, as its raw 18 bits (R135). -/
def slabSample (payload : Bytes) (i : Nat) : Nat := bits (leNat payload) (18 * i) 18

/-- The value of a raw sample under a format: signed for format 2, unsigned otherwise (R135). -/
def sampleVal (format raw : Nat) : Int := if format = 2 then signed 18 raw else (raw : Int)

/-- Zone minimum and maximum of a slab's first `count` samples; both 0 for none and for format 0 (Table 6-3). -/
def zoneOf (format count : Nat) (payload : Bytes) : Nat × Nat :=
  if format = 0 ∨ count = 0 then (0, 0)
  else
    let vs := (List.range count).map fun i => sampleVal format (slabSample payload i)
    (unsigned 18 (vs.foldl min (vs.headD 0)), unsigned 18 (vs.foldl max (vs.headD 0)))

/-! The whole envelope (R129 to R131, R139). -/

/-- The frame mark as a 24-bit value (R131). -/
def frameMark : Nat := 0x3C4EB3

/-- The 4,608 bytes of an envelope with 30 content bytes and a payload, stored at an address (R139). -/
def envEncode (addr : Nat) (content payload : Bytes) : Bytes :=
  let header := content ++ rsParity content
  let ks := keystream 36840 (envSeed addr)
  let par := ldpcParity (ldpcInfo header payload) % 2 ^ 3624
  let body := spreadBody (leNat payload + 2 ^ 32768 * par) 0
  let hid := (leNat header + 2 ^ 320 * body) ^^^ ks
  let pilotMask := spreadBody 0 (2 ^ 128 - 1)
  let clear := hid - (hid &&& (2 ^ 320 * pilotMask))
  leBytes 4608 (frameMark + 2 ^ 24 * (clear + 2 ^ 320 * spreadBody 0 (pilotBits addr)))

/-- An envelope with its randomiser taken off: header and non-pilot body bits (R139). -/
def envDerandomise (addr : Nat) (raw : Bytes) : Nat × Nat :=
  let v := leNat raw
  let d := (v >>> 24) ^^^ keystream 36840 (envSeed addr)
  (bits d 0 320, gatherBody (d <<< 24))

/-- Bit `i` of some raw bytes. -/
def rawBit (raw : Bytes) (i : Nat) : Bool := bit (raw.getD (i / 8) 0).toNat (i % 8)

/-- Bit `i` of an envelope, from bit 24 on, with its randomiser taken off (R136, R139). -/
def clearBit (addr : Nat) (raw : Bytes) (i : Nat) : Bool := rawBit raw i != bit (keystream 36840 (envSeed addr)) (i - 24)

/-- The code word that an envelope's bits spell, its mark and pilots taken off and its randomiser undone, where they spell one (R137 to
R139, R157): as the 4,640 bytes of the whole code word. -/
def envWord (addr : Nat) (raw : Bytes) : Option Bytes :=
  let (h, b) := envDerandomise addr raw
  let info := h * 2 ^ 192 + b % 2 ^ 32768 * 2 ^ 512
  let p := ldpcParity info
  if p % 2 ^ 3624 = b >>> 32768 then some (leBytes 4640 (info + p * 2 ^ 33280)) else none

/-- A word is a code word of an envelope: the shortened bits are zero, every parity check holds, and so does the header's own code
(R138, R157). -/
def wordOk (word : Bytes) : Bool :=
  let cw := leNat (slice word 0 4640)
  bits cw 0 192 = 0 && ldpcOk cw && rsDecode (slice word 24 40) = .clean

/-- The word that decoding an envelope reaches (R139, R157): the code word that its own bits spell, else the one that the decoder is given
as having found. -/
def decodeWord (addr : Nat) (raw given : Bytes) : Bytes := (envWord addr raw).getD (slice given 0 4640)

/-- The 40 header bytes of an envelope read alone, with their randomiser taken off (R73, R136). -/
def headerDerandomise (addr : Nat) (raw : Bytes) : Bytes :=
  leBytes 40 (leNat (slice raw 0 40) ^^^ keystream 320 (envSeed addr))

/-- The zero bits among `8 n` raw bits (R142, R145). -/
def zeroBits (raw : Bytes) : Nat := (raw.map fun b => 8 - popcount 8 b.toNat).foldl (· + ·) 0

/-! The stripe code (R284, R285). -/

/-- The 4,123-byte stripe message of an envelope at position `q` (Table 13-1). -/
def stripeMessage (q : Nat) (content payload : Bytes) : Bytes :=
  if q < 14 then
    slice content 0 26 ++ [content.getD 26 0 &&& 0xE1] ++ payload
  else slice content 0 26 ++ [content.getD 27 0] ++ payload

/-- The content and payload that a stripe message stands for at position `q` (R285, R290). -/
def stripeEnvelope (q : Nat) (msg : Bytes) : Bytes × Bytes :=
  let b26 := msg.getD 26 0
  let pos : Byte := BitVec.ofNat 8 (2 * q)
  (slice msg 0 26 ++ (if q < 14 then [(b26 &&& 0xE1) ||| pos, 0, 0, 0] else [pos, b26, 0, 0]), slice msg 27 4096)

/-- Solve the messages missing at positions `p` and `q` from the others, byte by byte; a single missing one is given twice
(R284, R290). -/
def stripeSolve (others : List (Nat × Bytes)) (p q : Nat) : Bytes × Bytes :=
  let pairs := (List.range 4123).map fun k =>
    let s := twoSyn (others.map fun m => (15 - m.1, m.2.getD k 0))
    if p = q then (s.1, s.1) else twoSolve s (15 - p) (15 - q)
  (pairs.map Prod.fst, pairs.map Prod.snd)

/-- All 16 messages of a stripe satisfy both equations (R284). -/
def stripeHolds (all : List (Nat × Bytes)) : Bool :=
  (List.range 4123).all fun k => twoSyn (all.map fun m => (15 - m.1, m.2.getD k 0)) = (0, 0)

end Sys2Proof.Machine
end

