-- ==== Sys2Proof/Config.lean ====
section
/-! DEFINITION. What the spec fixes only by naming an outside standard, and the free values: opaque constants, so that
no proof can see a value of them. -/

namespace Sys2Proof.Config

/-- SHA-384 of a byte string (R39, R40, R364). The spec names the function and does not define it (log 4). -/
opaque sha384 : Bytes → Bytes

/-- SHA-256 of a byte string (R339). Named by the spec, not defined there (log 4). -/
opaque sha256 : Bytes → Bytes

/-- ECDSA P-384 verification of (key, digest, r, s) (R39, R364). Named by the spec, not defined there (log 4). -/
opaque ecdsaP384 : Bytes → Bytes → Bytes → Bytes → Bool

/-- The entropy source's `n`-th 32-bit draw (R339, R364, R392): a free value (log 5). -/
opaque entropy : Nat → W32

/-- Whether the exact quotient `n / d` is rounded up where the spec states no rounding (R310, R313, R323): a free value (log 6). -/
opaque roundUp : Int → Int → Bool

/-- What a read of an address the spec leaves without content returns: a free value (log 7). -/
opaque freeByte : Nat → Byte

/-- What the queue store keeps in an SRAM word, which no table of the spec lays out (Table 12-2): 1 an entry cache copy, 2 program
staging, 3 content whose loss is MEM_FATAL, 4 the same which the debug window never shows (R337, R366), 5 read output staging, else nothing
but perhaps a tag. A free value (log 10). -/
opaque sramHolds : Nat → Nat

/-- Which submission queue or envelope a word of the entry cache, of output staging or of the sorting floor belongs to: a free value
(log 10). -/
opaque sramIndex : Nat → Nat

/-- The queue store word that holds the valid, locked and pending bits in the tag of pigeonhole line `16 * set + way`, which no table of the
spec lays out (R275): a free value (log 10). -/
opaque tagWord : Nat → Nat

/-- The byte at a DRAM address that a write of a part of its 16-byte unit is merged with (R273), by how many pieces were written before:
a free value (log 100). -/
opaque dramByte : Nat → Nat → Byte

/-- What a debug window read of an SRAM word returns whose contents the spec does not lay out: a free value (log 10). -/
opaque sramWord : Nat → Nat → Nat

/-- The balance point of a threshold for which a sweep has no pilot in one of the two states beside it (R164): a free value (log 11). -/
opaque balanceFree : Nat → Option Int

/-- The feature address (0) and parameters P1 to P4 (1 to 4) of the SET FEATURES that selects NV-LPDDR4, by protocol and bus rate (R60,
Table 5-3 step 4): the dies' standard gives them, and the spec does not state them. A free value (log 88). -/
opaque interfaceFeature : Nat → Nat → Nat → Byte

end Sys2Proof.Config
end

