-- ==== Sys2Proof/Machine/RegMap.lean ====
section
/-! DEFINITION. The register map: every register of Tables 18-2 to 18-18 with its offset, its reset value and its access
masks (R9, R388, R392), and every field of the chapters' field tables by name. -/

namespace Sys2Proof.Machine

/-- One row of the register map: `count` registers from offset `first`, 4 bytes apart, each with the whole reset word and,
for every access code of Table 0-2 that stores or acts, the mask of the bits that have it. Bits in no mask are RO. -/
structure RegRow where
  first : Nat
  count : Nat
  reset : Nat
  rw : Nat := 0
  w1c : Nat := 0
  w1s : Nat := 0
  wo : Nat := 0
  rwx : Nat := 0
  rwl : Nat := 0
  deriving DecidableEq, Repr

/-- A register field: the offset of its register, its lowest bit and its width (R5). -/
structure Field where
  off : Nat
  lo : Nat
  width : Nat
  deriving DecidableEq, Repr

/-- Registers at offsets 0x0000 to 0x0FFF: identity, mode and error log (Table 18-2). -/
def regPage0 : List RegRow := [  { first := 0x0, count := 1, reset := 0x55010f32 },
  { first := 0x4, count := 1, reset := 0x1 },
  { first := 0x8, count := 1, reset := 0x0, rw := 0x1f },
  { first := 0xc, count := 1, reset := 0xc8a2420 },
  { first := 0x10, count := 1, reset := 0x0 },
  { first := 0x14, count := 1, reset := 0x0, w1c := 0xf },
  { first := 0x18, count := 1, reset := 0x0, wo := 0xffffffff },
  { first := 0x1c, count := 1, reset := 0x0 },
  { first := 0x20, count := 1, reset := 0x0 },
  { first := 0x24, count := 1, reset := 0xf, rw := 0xf }]

/-- Registers at offsets 0x1000 to 0x1FFF: structure image (Table 18-4). -/
def regPage1 : List RegRow := [  { first := 0x1000, count := 1, reset := 0x0, w1s := 0x7 },
  { first := 0x1004, count := 1, reset := 0x0, rw := 0xffffffc0 },
  { first := 0x1008, count := 1, reset := 0x0, rw := 0xffff },
  { first := 0x100c, count := 1, reset := 0x0, rw := 0x7ffff },
  { first := 0x1010, count := 1, reset := 0x0 },
  { first := 0x1014, count := 1, reset := 0x0 },
  { first := 0x1018, count := 1, reset := 0x0 },
  { first := 0x101c, count := 1, reset := 0x0 },
  { first := 0x1020, count := 12, reset := 0x0 },
  { first := 0x1050, count := 1, reset := 0x14, rwx := 0x7ff }]

/-- Registers at offsets 0x2000 to 0x2FFF: notice office (Table 18-5). -/
def regPage2 : List RegRow := [  { first := 0x2000, count := 1, reset := 0x190, rwl := 0x1ffff },
  { first := 0x2004, count := 1, reset := 0x0, rw := 0xffffc000 },
  { first := 0x2008, count := 1, reset := 0x0, rw := 0xffff },
  { first := 0x200c, count := 1, reset := 0x0, rw := 0xff },
  { first := 0x2010, count := 1, reset := 0x0, wo := 0xff },
  { first := 0x2014, count := 1, reset := 0x0 },
  { first := 0x2020, count := 8, reset := 0x0, wo := 0xffffffff },
  { first := 0x2040, count := 8, reset := 0x0 },
  { first := 0x2080, count := 8, reset := 0x0, rw := 0xffffffff },
  { first := 0x20a0, count := 8, reset := 0xffffffff, rw := 0xffffffff },
  { first := 0x20c0, count := 8, reset := 0x0 },
  { first := 0x2104, count := 15, reset := 0x1401, rw := 0x3fffff },
  { first := 0x2200, count := 1, reset := 0x0, rwx := 0x7 },
  { first := 0x2400, count := 1, reset := 0x2018, rw := 0x3fe0, rwl := 0x1f },
  { first := 0x2404, count := 63, reset := 0x2000, rw := 0x3fe0, rwl := 0x1f },
  { first := 0x2500, count := 192, reset := 0x2000, rw := 0x3fff },
  { first := 0x2800, count := 256, reset := 0x0, rw := 0xffff }]

/-- Registers at offsets 0x3000 to 0x3FFF: fast notices (Table 18-5). -/
def regPage3 : List RegRow := [  { first := 0x3000, count := 1, reset := 0x0, rw := 0xffffffc0 },
  { first := 0x3004, count := 1, reset := 0x0, rw := 0xffff },
  { first := 0x3020, count := 8, reset := 0x0 },
  { first := 0x3040, count := 8, reset := 0x0, wo := 0xffffffff },
  { first := 0x3060, count := 8, reset := 0x0 }]

/-- Registers at offsets 0x4000 to 0x4FFF: letterbox (Table 18-5). -/
def regPage4 : List RegRow := [  { first := 0x4000, count := 1, reset := 0x0, wo := 0xffffffff }]

/-- Registers at offsets 0x5000 to 0x5FFF: postmarks (Table 18-6). -/
def regPage5 : List RegRow := [  { first := 0x5000, count := 1, reset := 0xfc, rw := 0xfe, w1s := 0x1 },
  { first := 0x5004, count := 1, reset := 0x0 },
  { first := 0x5008, count := 1, reset := 0x0, w1c := 0x3f },
  { first := 0x500c, count := 1, reset := 0x0 },
  { first := 0x5010, count := 1, reset := 0x0 },
  { first := 0x5014, count := 1, reset := 0x0 },
  { first := 0x5018, count := 1, reset := 0x0 },
  { first := 0x501c, count := 1, reset := 0x0 },
  { first := 0x5020, count := 1, reset := 0x0 },
  { first := 0x5024, count := 1, reset := 0x0 },
  { first := 0x5030, count := 1, reset := 0x0, rw := 0xffffffc0 },
  { first := 0x5034, count := 1, reset := 0x0, rw := 0xffff },
  { first := 0x5038, count := 1, reset := 0x780c8, rw := 0x78001 },
  { first := 0x503c, count := 1, reset := 0x0 },
  { first := 0x5040, count := 1, reset := 0x0, w1c := 0xf },
  { first := 0x5044, count := 1, reset := 0x0 },
  { first := 0x5080, count := 16, reset := 0x0, rw := 0xffffffc1 },
  { first := 0x50c0, count := 16, reset := 0x0, rw := 0xffff },
  { first := 0x5100, count := 1, reset := 0x1910464, rwx := 0x3ffffff },
  { first := 0x5104, count := 1, reset := 0x3e840e10, rwx := 0xffffffff }]

/-- Registers at offsets 0x6000 to 0x6FFF: queue engine (Table 18-7). -/
def regPage6 : List RegRow := [  { first := 0x6000, count := 1, reset := 0x1c64, rw := 0x1fff },
  { first := 0x6004, count := 1, reset := 0x0 },
  { first := 0x6008, count := 1, reset := 0x0, w1c := 0x7 },
  { first := 0x600c, count := 1, reset := 0x20000 },
  { first := 0x6020, count := 1, reset := 0x0, rw := 0xffffffc0 },
  { first := 0x6024, count := 1, reset := 0x0, rw := 0xffff },
  { first := 0x6028, count := 1, reset := 0x0, rw := 0xffffffc0 },
  { first := 0x602c, count := 1, reset := 0x0, rw := 0xffff },
  { first := 0x6030, count := 1, reset := 0x110, rw := 0x3fffd, w1s := 0x2 },
  { first := 0x6040, count := 1, reset := 0x0 },
  { first := 0x6044, count := 1, reset := 0x0 },
  { first := 0x6048, count := 1, reset := 0x0 },
  { first := 0x6080, count := 32, reset := 0x0 },
  { first := 0x6100, count := 32, reset := 0x0 },
  { first := 0x6180, count := 1, reset := 0x0, rw := 0x7ff },
  { first := 0x6184, count := 1, reset := 0x0 },
  { first := 0x6188, count := 1, reset := 0x0 },
  { first := 0x618c, count := 1, reset := 0x0 },
  { first := 0x6200, count := 1, reset := 0x24, rwx := 0x3f }]

/-- Registers at offsets 0x7000 to 0x7FFF: memory integrity (Table 18-8). -/
def regPage7 : List RegRow := [  { first := 0x7000, count := 1, reset := 0xff, rw := 0xff },
  { first := 0x7004, count := 1, reset := 0x1000 },
  { first := 0x7008, count := 1, reset := 0x0, w1c := 0x7f },
  { first := 0x700c, count := 1, reset := 0x0 },
  { first := 0x7010, count := 1, reset := 0x0 },
  { first := 0x7014, count := 1, reset := 0x0 },
  { first := 0x7018, count := 1, reset := 0x0 },
  { first := 0x701c, count := 1, reset := 0x0 },
  { first := 0x7020, count := 1, reset := 0x0 },
  { first := 0x7024, count := 1, reset := 0x0 },
  { first := 0x7028, count := 1, reset := 0x0 },
  { first := 0x702c, count := 1, reset := 0x0 },
  { first := 0x7030, count := 1, reset := 0x0 },
  { first := 0x7034, count := 1, reset := 0x0 },
  { first := 0x7040, count := 8, reset := 0x0 },
  { first := 0x7100, count := 48, reset := 0x0 },
  { first := 0x7200, count := 1, reset := 0x611, rw := 0x7ff },
  { first := 0x7204, count := 1, reset := 0x0 },
  { first := 0x7208, count := 1, reset := 0x0, w1c := 0x3 },
  { first := 0x720c, count := 1, reset := 0x0 },
  { first := 0x7210, count := 1, reset := 0x0 },
  { first := 0x7214, count := 1, reset := 0x0 },
  { first := 0x7218, count := 1, reset := 0x0 },
  { first := 0x7220, count := 1, reset := 0x0, rw := 0x1ff },
  { first := 0x7224, count := 1, reset := 0x0 },
  { first := 0x7300, count := 1, reset := 0x20, rwx := 0x3f },
  { first := 0x7304, count := 1, reset := 0x0, rwx := 0x3fffffff },
  { first := 0x7308, count := 1, reset := 0x0, rwx := 0x3 }]

/-- Registers at offsets 0x8000 to 0x8FFF: flash integrity, suspension and recovery (Tables 18-9, 18-10). -/
def regPage8 : List RegRow := [  { first := 0x8000, count := 1, reset := 0xfff, rw := 0xfff },
  { first := 0x8004, count := 1, reset := 0x0 },
  { first := 0x8008, count := 1, reset := 0x0, w1c := 0x3ff },
  { first := 0x8010, count := 1, reset := 0x0, rw := 0xfffff001 },
  { first := 0x8014, count := 1, reset := 0x0, rw := 0xffff },
  { first := 0x8020, count := 1, reset := 0x0, rw := 0xffffffc0 },
  { first := 0x8024, count := 1, reset := 0x0, rw := 0xffff },
  { first := 0x8028, count := 1, reset := 0x48, rw := 0x3f },
  { first := 0x802c, count := 1, reset := 0x0, rw := 0xffff },
  { first := 0x8030, count := 1, reset := 0x0 },
  { first := 0x8040, count := 1, reset := 0x0, rw := 0x3ff },
  { first := 0x8044, count := 1, reset := 0x0, rw := 0xffffffff },
  { first := 0x8048, count := 1, reset := 0x0 },
  { first := 0x8060, count := 1, reset := 0x0 },
  { first := 0x8064, count := 1, reset := 0x0 },
  { first := 0x8080, count := 1, reset := 0x0 },
  { first := 0x8084, count := 1, reset := 0x0 },
  { first := 0x8088, count := 1, reset := 0x0 },
  { first := 0x808c, count := 1, reset := 0x0 },
  { first := 0x8090, count := 1, reset := 0x0 },
  { first := 0x8094, count := 1, reset := 0x0 },
  { first := 0x8098, count := 1, reset := 0x0 },
  { first := 0x80c0, count := 1, reset := 0x0 },
  { first := 0x80c4, count := 1, reset := 0x0, rw := 0xfff },
  { first := 0x80c8, count := 1, reset := 0x0 },
  { first := 0x80cc, count := 1, reset := 0x0 },
  { first := 0x8100, count := 16, reset := 0x0 },
  { first := 0x8140, count := 16, reset := 0x0 },
  { first := 0x8180, count := 16, reset := 0x0 },
  { first := 0x8200, count := 1, reset := 0x2034, rwx := 0x1ffff },
  { first := 0x8e00, count := 1, reset := 0x1c3c51, rw := 0x1fffff },
  { first := 0x8e04, count := 1, reset := 0x903264, rwx := 0xffffff },
  { first := 0x8e10, count := 1, reset := 0xc0000800, rw := 0xffffffff },
  { first := 0x8e14, count := 1, reset := 0x0 },
  { first := 0x8e18, count := 1, reset := 0x0 },
  { first := 0x8e1c, count := 1, reset := 0x0, w1c := 0x7 },
  { first := 0x8e20, count := 16, reset := 0x0 }]

/-- Registers at offsets 0x9000 to 0x9FFF: read channel and envelopes (Tables 18-11, 18-12). -/
def regPage9 : List RegRow := [  { first := 0x9000, count := 1, reset := 0x1ff, rw := 0x1ff },
  { first := 0x9004, count := 1, reset := 0x244 },
  { first := 0x9008, count := 1, reset := 0x0, w1c := 0x3f },
  { first := 0x900c, count := 1, reset := 0x140a1100, rw := 0x1fffffff },
  { first := 0x9010, count := 1, reset := 0x4, rw := 0xf },
  { first := 0x9020, count := 1, reset := 0x0 },
  { first := 0x9024, count := 1, reset := 0x0 },
  { first := 0x9028, count := 1, reset := 0x0 },
  { first := 0x902c, count := 1, reset := 0x0 },
  { first := 0x9030, count := 1, reset := 0x0 },
  { first := 0x9034, count := 1, reset := 0x0 },
  { first := 0x9040, count := 8, reset := 0x0, rwl := 0x3fffffff },
  { first := 0x9060, count := 1, reset := 0x0, rwl := 0xffffff },
  { first := 0x9080, count := 1, reset := 0x0, rw := 0xfff },
  { first := 0x9084, count := 1, reset := 0x0 },
  { first := 0x90c0, count := 16, reset := 0x0 },
  { first := 0x9100, count := 4, reset := 0x0 },
  { first := 0x9120, count := 3, reset := 0x0 },
  { first := 0x9200, count := 1, reset := 0x5763f9, rwx := 0x1ffffff },
  { first := 0x9204, count := 1, reset := 0x4657d5, rwx := 0x1ffffff },
  { first := 0x9208, count := 1, reset := 0x454b92, rwx := 0x1ffffff },
  { first := 0x920c, count := 1, reset := 0x343f4f, rwx := 0x1ffffff },
  { first := 0x9210, count := 1, reset := 0x33b70d, rwx := 0x1ffffff },
  { first := 0x9214, count := 1, reset := 0x232ecb, rwx := 0x1ffffff },
  { first := 0x9218, count := 1, reset := 0x22aa8a, rwx := 0x1ffffff },
  { first := 0x921c, count := 1, reset := 0x122248, rwx := 0x1ffffff },
  { first := 0x9220, count := 1, reset := 0x180a794, rwx := 0xfffffff },
  { first := 0x9224, count := 1, reset := 0x8a0, rwx := 0x3fff },
  { first := 0x9e00, count := 1, reset := 0x80200, rw := 0x1ff1fff },
  { first := 0x9e04, count := 1, reset := 0x0 },
  { first := 0x9e08, count := 1, reset := 0x0 },
  { first := 0x9e0c, count := 1, reset := 0x0 },
  { first := 0x9e10, count := 1, reset := 0x0 },
  { first := 0x9e14, count := 1, reset := 0x0 },
  { first := 0x9e20, count := 1, reset := 0x203, rwx := 0xff7 }]

/-- Registers at offsets 0xa000 to 0xaFFF: sorting office (Table 18-13). -/
def regPage10 : List RegRow := [  { first := 0xa000, count := 1, reset := 0xf, rw := 0xf },
  { first := 0xa004, count := 1, reset := 0x1440 },
  { first := 0xa008, count := 1, reset := 0x0, w1c := 0xf },
  { first := 0xa00c, count := 2, reset := 0x0 },
  { first := 0xa020, count := 1, reset := 0x0 },
  { first := 0xa024, count := 1, reset := 0x0 },
  { first := 0xa028, count := 1, reset := 0x0 },
  { first := 0xa02c, count := 1, reset := 0x0 },
  { first := 0xa030, count := 1, reset := 0x0 },
  { first := 0xa034, count := 1, reset := 0x0 },
  { first := 0xa038, count := 1, reset := 0x0 },
  { first := 0xa100, count := 32, reset := 0x0 },
  { first := 0xa200, count := 1, reset := 0x3ffc28, rwx := 0x3fffff }]

/-- Registers at offsets 0xb000 to 0xbFFF: home blocks and seals (Table 18-14). -/
def regPage11 : List RegRow := [  { first := 0xb000, count := 1, reset := 0x0 },
  { first := 0xb004, count := 1, reset := 0x0 },
  { first := 0xb008, count := 1, reset := 0x7e00000, rw := 0x7e00000, rwl := 0x1fffff },
  { first := 0xb00c, count := 1, reset := 0x0, w1c := 0x3f },
  { first := 0xb010, count := 1, reset := 0x0 },
  { first := 0xb040, count := 1, reset := 0x0, rwx := 0x3 },
  { first := 0xb100, count := 1, reset := 0x40 },
  { first := 0xb104, count := 1, reset := 0x0, rw := 0x3f },
  { first := 0xb108, count := 1, reset := 0x0 },
  { first := 0xb10c, count := 1, reset := 0x0 },
  { first := 0xb110, count := 1, reset := 0x0 },
  { first := 0xb114, count := 1, reset := 0x0 },
  { first := 0xb118, count := 1, reset := 0x0 },
  { first := 0xb120, count := 4, reset := 0x0 }]

/-- Registers at offsets 0xc000 to 0xcFFF: power, write guard and boundary (Tables 18-10, 18-15, 18-16). -/
def regPage12 : List RegRow := [  { first := 0xc000, count := 1, reset := 0x1, rw := 0x3 },
  { first := 0xc004, count := 1, reset := 0x2a },
  { first := 0xc008, count := 1, reset := 0xff, rw := 0xff },
  { first := 0xc00c, count := 1, reset := 0x0 },
  { first := 0xc010, count := 1, reset := 0x0, rw := 0xffffffff },
  { first := 0xc040, count := 1, reset := 0x0, rwx := 0x3 },
  { first := 0xc100, count := 1, reset := 0x1f0a00, rw := 0x1fffff },
  { first := 0xc104, count := 1, reset := 0x0 },
  { first := 0xc108, count := 1, reset := 0x0, w1c := 0x1f },
  { first := 0xc10c, count := 1, reset := 0xa, rwx := 0x7ff },
  { first := 0xc200, count := 1, reset := 0x0 },
  { first := 0xc204, count := 1, reset := 0x0 },
  { first := 0xc208, count := 1, reset := 0xff91, rw := 0xffff },
  { first := 0xc20c, count := 1, reset := 0x0, w1c := 0xff },
  { first := 0xc210, count := 1, reset := 0x0 },
  { first := 0xc220, count := 4, reset := 0x0 },
  { first := 0xc230, count := 1, reset := 0x0 },
  { first := 0xc234, count := 1, reset := 0x0 },
  { first := 0xc238, count := 1, reset := 0x0 },
  { first := 0xc280, count := 1, reset := 0x190329b, rwx := 0x3ffffff }]

/-- Registers at offsets 0xd000 to 0xdFFF: security and debug (Table 18-15). -/
def regPage13 : List RegRow := [  { first := 0xd000, count := 1, reset := 0x0 },
  { first := 0xd004, count := 1, reset := 0x0, wo := 0xffffffff },
  { first := 0xd008, count := 1, reset := 0x0, w1c := 0xf },
  { first := 0xd010, count := 1, reset := 0xf0, rw := 0xfc, w1s := 0x3 },
  { first := 0xd014, count := 1, reset := 0x0, rw := 0xffffffc0 },
  { first := 0xd018, count := 1, reset := 0x0, rw := 0xffff },
  { first := 0xd01c, count := 1, reset := 0x0 },
  { first := 0xd020, count := 8, reset := 0x0 },
  { first := 0xd040, count := 1, reset := 0x0, rw := 0x7fffff },
  { first := 0xd044, count := 4, reset := 0x0, rw := 0xffffffff }]

/-- Registers at offsets 0x10000 to 0x10FFF: SQ doorbells (Table 18-7). -/
def regPage16 : List RegRow := [  { first := 0x10000, count := 1024, reset := 0x0, wo := 0xffffffff }]

/-- Registers at offsets 0x11000 to 0x11FFF: CQ doorbells (Table 18-7). -/
def regPage17 : List RegRow := [  { first := 0x11000, count := 1024, reset := 0x0, wo := 0xffffffff }]

/-- Registers at offsets 0x20000 to 0x20FFF: route block (Tables 18-17, 18-18), as laid out for route 0. -/
def regPage32 : List RegRow := [  { first := 0x20000, count := 1, reset := 0x6, rw := 0x7 },
  { first := 0x20004, count := 1, reset := 0x0 },
  { first := 0x20008, count := 1, reset := 0x0, w1c := 0x1f },
  { first := 0x2000c, count := 1, reset := 0x1f, rw := 0x1f },
  { first := 0x20010, count := 1, reset := 0x140428, rw := 0xffffff },
  { first := 0x20014, count := 1, reset := 0x0, rw := 0xffffffff },
  { first := 0x20040, count := 16, reset := 0x0 },
  { first := 0x20080, count := 1, reset := 0x0 },
  { first := 0x20084, count := 1, reset := 0x0 },
  { first := 0x20088, count := 1, reset := 0x0 },
  { first := 0x2008c, count := 1, reset := 0x0 },
  { first := 0x20090, count := 1, reset := 0x0 },
  { first := 0x20094, count := 1, reset := 0x0 },
  { first := 0x20098, count := 1, reset := 0x0 },
  { first := 0x20100, count := 1, reset := 0x40002, rwx := 0x7ffff },
  { first := 0x20400, count := 1, reset := 0xfc, rw := 0xfc, w1s := 0x3 },
  { first := 0x20404, count := 1, reset := 0x30f0000 },
  { first := 0x20408, count := 1, reset := 0x0, w1c := 0x3f },
  { first := 0x2040c, count := 1, reset := 0x0, rw := 0xffff },
  { first := 0x20410, count := 1, reset := 0x0 },
  { first := 0x20414, count := 1, reset := 0xf83c, rw := 0xfff },
  { first := 0x20440, count := 8, reset := 0x0 },
  { first := 0x20460, count := 1, reset := 0x30000 },
  { first := 0x20500, count := 36, reset := 0x0 },
  { first := 0x20600, count := 1, reset := 0x641010, rwx := 0xffff3f }]

/-- The rows of the 4 KiB page `p` of the window; the 32 route blocks share one layout (R388). -/
def regPageRows (p : Nat) : List RegRow :=
  match p with
  | 0 => regPage0
  | 1 => regPage1
  | 2 => regPage2
  | 3 => regPage3
  | 4 => regPage4
  | 5 => regPage5
  | 6 => regPage6
  | 7 => regPage7
  | 8 => regPage8
  | 9 => regPage9
  | 10 => regPage10
  | 11 => regPage11
  | 12 => regPage12
  | 13 => regPage13
  | 16 => regPage16
  | 17 => regPage17
  | p => if 32 ≤ p ∧ p < 64 then regPage32 else []

/-- The offset within the page layout: a route block's offset is read as route 0's (R388). -/
def regLayoutOffset (off : Nat) : Nat :=
  if 0x20000 ≤ off ∧ off < 0x40000 then 0x20000 + off % 0x1000 else off

/-- The map row that lists the register at `off`, if any: without one the offset is reserved (R388). -/
def regRow? (off : Nat) : Option RegRow :=
  let o := regLayoutOffset off
  (regPageRows (off / 0x1000)).find? (fun r => decide (r.first ≤ o ∧ o < r.first + 4 * r.count ∧ o % 4 = 0))

/-- The reset word of the register at `off` (R392); the entries "fuses", "entropy" and "cause" are read elsewhere. -/
def regReset (off : Nat) : W32 :=
  match regRow? off with
  | some r => BitVec.ofNat 32 r.reset
  | none => 0

/-! ### Register offsets and fields by name

The index of an array of registers is taken within the array, so that no name reaches a register of another group. -/

namespace R
def ID : Nat := 0x0
def MODE : Nat := 0x4
def MODE_REQ : Nat := 0x8
def CAPS : Nat := 0xc
def ERR_ADDR : Nat := 0x10
def ERR_CAUSE : Nat := 0x14
def EXPERT_KEY : Nat := 0x18
def ORIGIN : Nat := 0x1c
def ERR_COUNT : Nat := 0x20
def ERR_EN : Nat := 0x24
def IMG_CTRL : Nat := 0x1000
def IMG_ADDR_LO : Nat := 0x1004
def IMG_ADDR_HI : Nat := 0x1008
def IMG_LEN : Nat := 0x100c
def IMG_STATUS : Nat := 0x1010
def IMG_GEN : Nat := 0x1014
def IMG_SEAM_TIME : Nat := 0x1018
def IMG_KEYS : Nat := 0x101c
def IMG_DIGEST (i : Nat) : Nat := 0x1020 + 4 * (i % 12)
def IMG_POLICY_X : Nat := 0x1050
def NTC_CFG : Nat := 0x2000
def NTC_VBASE_LO : Nat := 0x2004
def NTC_VBASE_HI : Nat := 0x2008
def NTC_SLEEP : Nat := 0x200c
def NTC_STACK_RESET : Nat := 0x2010
def NTC_STRANDED : Nat := 0x2014
def NTC_EOI (i : Nat) : Nat := 0x2020 + 4 * (i % 8)
def NTC_CORE (i : Nat) : Nat := 0x2040 + 4 * (i % 8)
def NTC_PEND (i : Nat) : Nat := 0x2080 + 4 * (i % 8)
def NTC_MASK (i : Nat) : Nat := 0x20a0 + 4 * (i % 8)
def NTC_ACTIVE (i : Nat) : Nat := 0x20c0 + 4 * (i % 8)
def NTC_MOD (g : Nat) : Nat := 0x2100 + 4 * (g % 16)
def NTC_X : Nat := 0x2200
def NTC_ISRC (i : Nat) : Nat := 0x2400 + 4 * (i % 256)
def NTC_LSRC (s : Nat) : Nat := 0x2400 + 4 * (s % 256)
def NTC_LOST (i : Nat) : Nat := 0x2800 + 4 * (i % 256)
def NTF_VBASE_LO : Nat := 0x3000
def NTF_VBASE_HI : Nat := 0x3004
def NTF_SRC (i : Nat) : Nat := 0x3020 + 4 * (i % 8)
def NTF_EOI (i : Nat) : Nat := 0x3040 + 4 * (i % 8)
def NTF_FAULT (i : Nat) : Nat := 0x3060 + 4 * (i % 8)
def LETTERBOX : Nat := 0x4000
def PM_CTRL : Nat := 0x5000
def PM_STATUS : Nat := 0x5004
def PM_EVENT : Nat := 0x5008
def PM_NOW_NS : Nat := 0x500c
def PM_NOW_SEC_LO : Nat := 0x5010
def PM_NOW_SEC_HI : Nat := 0x5014
def PM_ERR : Nat := 0x5018
def PM_FREQ : Nat := 0x501c
def PM_SLEW : Nat := 0x5020
def PM_GEN_LOG : Nat := 0x5024
def PM_BCN_LO : Nat := 0x5030
def PM_BCN_HI : Nat := 0x5034
def PM_BCN_CFG : Nat := 0x5038
def PM_BCN_SEQ : Nat := 0x503c
def PM_BCN_EVENT : Nat := 0x5040
def PM_PEER_STATUS : Nat := 0x5044
def PM_PEER_LO (i : Nat) : Nat := 0x5080 + 4 * (i % 16)
def PM_PEER_HI (i : Nat) : Nat := 0x50c0 + 4 * (i % 16)
def PM_X : Nat := 0x5100
def PM_HOLD_X : Nat := 0x5104
def Q_CTRL : Nat := 0x6000
def Q_STATUS : Nat := 0x6004
def Q_EVENT : Nat := 0x6008
def Q_PR : Nat := 0x600c
def Q_ADMIN_SQ_LO : Nat := 0x6020
def Q_ADMIN_SQ_HI : Nat := 0x6024
def Q_ADMIN_CQ_LO : Nat := 0x6028
def Q_ADMIN_CQ_HI : Nat := 0x602c
def Q_ADMIN_CFG : Nat := 0x6030
def Q_DB_LOG : Nat := 0x6040
def Q_DB_COUNT : Nat := 0x6044
def Q_STOP_LOG : Nat := 0x6048
def Q_STOPPED (i : Nat) : Nat := 0x6080 + 4 * (i % 32)
def Q_CQ_FAULT (i : Nat) : Nat := 0x6100 + 4 * (i % 32)
def Q_SEL : Nat := 0x6180
def Q_VIEW_A : Nat := 0x6184
def Q_VIEW_B : Nat := 0x6188
def Q_VIEW_C : Nat := 0x618c
def Q_X : Nat := 0x6200
def MI_CTRL : Nat := 0x7000
def MI_STATUS : Nat := 0x7004
def MI_EVENT : Nat := 0x7008
def MI_CNT_CORR : Nat := 0x700c
def MI_CNT_UNCORR : Nat := 0x7010
def MI_CNT_DRAM_CORR : Nat := 0x7014
def MI_CNT_DRAM_UNCORR : Nat := 0x7018
def MI_CNT_FORCED : Nat := 0x701c
def MI_LAST_ERR : Nat := 0x7020
def MI_DRAM_ERR_LO : Nat := 0x7024
def MI_DRAM_ERR_HI : Nat := 0x7028
def MI_LAP_LAST : Nat := 0x702c
def MI_LAP_COUNT : Nat := 0x7030
def MI_BIST : Nat := 0x7034
def MI_MACRO_LOG (i : Nat) : Nat := 0x7040 + 4 * (i % 8)
def MI_FWD (i : Nat) : Nat := 0x7100 + 4 * (i % 48)
def MI_PH_CTRL : Nat := 0x7200
def MI_PH_STATUS : Nat := 0x7204
def MI_PH_EVENT : Nat := 0x7208
def MI_PH_CNT_HIT : Nat := 0x720c
def MI_PH_CNT_MISS : Nat := 0x7210
def MI_PH_CNT_DISCARDED : Nat := 0x7214
def MI_PH_CNT_LOCKED_DROPPED : Nat := 0x7218
def MI_PH_SEL : Nat := 0x7220
def MI_PH_VIEW : Nat := 0x7224
def MI_X : Nat := 0x7300
def MI_INJECT_X : Nat := 0x7304
def MI_PH_X : Nat := 0x7308
def FI_CTRL : Nat := 0x8000
def FI_STATUS : Nat := 0x8004
def FI_EVENT : Nat := 0x8008
def FI_SMAP_LO : Nat := 0x8010
def FI_SMAP_HI : Nat := 0x8014
def FI_DL_LO : Nat := 0x8020
def FI_DL_HI : Nat := 0x8024
def FI_DL_CFG : Nat := 0x8028
def FI_DL_HEAD : Nat := 0x802c
def FI_DL_TAIL : Nat := 0x8030
def FI_SPARE : Nat := 0x8040
def FI_SPARE_RANGE : Nat := 0x8044
def FI_SPARE_CURSOR : Nat := 0x8048
def FI_ROUND_COUNT : Nat := 0x8060
def FI_ROUND_LAST : Nat := 0x8064
def FI_CNT_PAGES : Nat := 0x8080
def FI_CNT_FULL : Nat := 0x8084
def FI_CNT_WEAK : Nat := 0x8088
def FI_CNT_RECON_OK : Nat := 0x808c
def FI_CNT_RECON_FAIL : Nat := 0x8090
def FI_CNT_RELOCATED : Nat := 0x8094
def FI_CNT_LOST : Nat := 0x8098
def FI_POISON : Nat := 0x80c0
def FI_POISON_SEL : Nat := 0x80c4
def FI_POISON_VIEW_LO : Nat := 0x80c8
def FI_POISON_VIEW_HI : Nat := 0x80cc
def FI_STALE (i : Nat) : Nat := 0x8100 + 4 * (i % 16)
def FI_COA_A (i : Nat) : Nat := 0x8140 + 4 * (i % 16)
def FI_COA_B (i : Nat) : Nat := 0x8180 + 4 * (i % 16)
def FI_X : Nat := 0x8200
def FI_SUSP : Nat := 0x8e00
def FI_SUSP_X : Nat := 0x8e04
def FI_REC_CTRL : Nat := 0x8e10
def FI_REC_COUNT : Nat := 0x8e14
def FI_REC_PENDING : Nat := 0x8e18
def FI_REC_EVENT : Nat := 0x8e1c
def FI_REC_LOG (i : Nat) : Nat := 0x8e20 + 4 * (i % 16)
def RC_CTRL : Nat := 0x9000
def RC_STATUS : Nat := 0x9004
def RC_EVENT : Nat := 0x9008
def RC_PILOT : Nat := 0x900c
def RC_SOFT : Nat := 0x9010
def RC_CNT_FIRST : Nat := 0x9020
def RC_CNT_ADJUSTED : Nat := 0x9024
def RC_CNT_SOFT : Nat := 0x9028
def RC_CNT_UNCORR : Nat := 0x902c
def RC_CNT_LADDER : Nat := 0x9030
def RC_CNT_DISCARD : Nat := 0x9034
def RC_CELL (i : Nat) : Nat := 0x9040 + 4 * (i % 8)
def RC_CELL_BITS : Nat := 0x9060
def RC_CAL_SEL : Nat := 0x9080
def RC_CAL_RESULT : Nat := 0x9084
def RC_CAL_VIEW (i : Nat) : Nat := 0x90c0 + 4 * (i % 16)
def RC_DRIFT_VIEW (i : Nat) : Nat := 0x9100 + 4 * (i % 4)
def RC_CORE_FAIL (i : Nat) : Nat := 0x9120 + 4 * (i % 3)
def RC_LLR_X (i : Nat) : Nat := 0x9200 + 4 * (i % 8)
def RC_DEC_X : Nat := 0x9220
def RC_CAL_X : Nat := 0x9224
def RC_ENV_CTRL : Nat := 0x9e00
def RC_ENV_CNT_ERASED : Nat := 0x9e04
def RC_ENV_CNT_SHIFTED : Nat := 0x9e08
def RC_ENV_CNT_MISSED : Nat := 0x9e0c
def RC_ENV_CNT_LOST : Nat := 0x9e10
def RC_ENV_CNT_MISDELIVERED : Nat := 0x9e14
def RC_ENV_X : Nat := 0x9e20
def SO_CTRL : Nat := 0xa000
def SO_STATUS : Nat := 0xa004
def SO_EVENT : Nat := 0xa008
def SO_LANE_FAIL (i : Nat) : Nat := 0xa00c + 4 * (i % 2)
def SO_CNT_SCANS : Nat := 0xa020
def SO_CNT_POSITIONS : Nat := 0xa024
def SO_CNT_ZONE_SKIP : Nat := 0xa028
def SO_CNT_WINDOW_SKIP : Nat := 0xa02c
def SO_CNT_EVALUATED : Nat := 0xa030
def SO_CNT_HEADER_AGG : Nat := 0xa034
def SO_CNT_FAILING : Nat := 0xa038
def SO_FLOOR (i : Nat) : Nat := 0xa100 + 4 * (i % 32)
def SO_X : Nat := 0xa200
def HB_STATUS : Nat := 0xb000
def HB_GEN : Nat := 0xb004
def HB_CFG : Nat := 0xb008
def HB_EVENT : Nat := 0xb00c
def HB_COMMIT_TIME : Nat := 0xb010
def HB_X : Nat := 0xb040
def SEAL_CFG : Nat := 0xb100
def SEAL_SEL : Nat := 0xb104
def SEAL_VIEW : Nat := 0xb108
def SEAL_FIRST_LO : Nat := 0xb10c
def SEAL_FIRST_HI : Nat := 0xb110
def SEAL_LAST_LO : Nat := 0xb114
def SEAL_LAST_HI : Nat := 0xb118
def SEAL_LIVE (i : Nat) : Nat := 0xb120 + 4 * (i % 4)
def PWR_CTRL : Nat := 0xc000
def PWR_STATUS : Nat := 0xc004
def PWR_DRAM_KEEP : Nat := 0xc008
def PWR_WAKE : Nat := 0xc00c
def PWR_WAKE_TIMER : Nat := 0xc010
def PWR_X : Nat := 0xc040
def PWR_WG_CTRL : Nat := 0xc100
def PWR_WG_STATUS : Nat := 0xc104
def PWR_WG_EVENT : Nat := 0xc108
def PWR_WG_X : Nat := 0xc10c
def PWR_VIN : Nat := 0xc200
def PWR_TEMP : Nat := 0xc204
def PWR_TEMP_CFG : Nat := 0xc208
def PWR_BND_EVENT : Nat := 0xc20c
def PWR_RESET : Nat := 0xc210
def PWR_AGING (i : Nat) : Nat := 0xc220 + 4 * (i % 4)
def PWR_DRAM : Nat := 0xc230
def PWR_CNT_STALL : Nat := 0xc234
def PWR_CNT_HELD : Nat := 0xc238
def PWR_BND_X : Nat := 0xc280
def SEC_STATUS : Nat := 0xd000
def SEC_CTRL : Nat := 0xd004
def SEC_EVENT : Nat := 0xd008
def DBG_CTRL : Nat := 0xd010
def DBG_TOKEN_LO : Nat := 0xd014
def DBG_TOKEN_HI : Nat := 0xd018
def DBG_REMAIN : Nat := 0xd01c
def DBG_NONCE (i : Nat) : Nat := 0xd020 + 4 * (i % 8)
def DBG_WIN_ADDR : Nat := 0xd040
def DBG_WIN_DATA (i : Nat) : Nat := 0xd044 + 4 * (i % 4)
def DB_SQ (i : Nat) : Nat := 0x10000 + 4 * i
def DB_CQ (i : Nat) : Nat := 0x11000 + 4 * i
def RT_CTRL (r : Nat) : Nat := 0x20000 + 0x1000 * r
def RT_STATUS (r : Nat) : Nat := 0x20004 + 0x1000 * r
def RT_EVENT (r : Nat) : Nat := 0x20008 + 0x1000 * r
def RT_EVENT_EN (r : Nat) : Nat := 0x2000c + 0x1000 * r
def RT_POLL (r : Nat) : Nat := 0x20010 + 0x1000 * r
def RT_VCMD (r : Nat) : Nat := 0x20014 + 0x1000 * r
def RT_DIE (r i : Nat) : Nat := 0x20040 + 0x1000 * r + 4 * (i % 16)
def RT_CNT_READ (r : Nat) : Nat := 0x20080 + 0x1000 * r
def RT_CNT_MPLANE (r : Nat) : Nat := 0x20084 + 0x1000 * r
def RT_CNT_CACHE (r : Nat) : Nat := 0x20088 + 0x1000 * r
def RT_CNT_PROGRAM (r : Nat) : Nat := 0x2008c + 0x1000 * r
def RT_CNT_ERASE (r : Nat) : Nat := 0x20090 + 0x1000 * r
def RT_CNT_SUSPEND (r : Nat) : Nat := 0x20094 + 0x1000 * r
def RT_CNT_PARKED (r : Nat) : Nat := 0x20098 + 0x1000 * r
def RT_SEQ_X (r : Nat) : Nat := 0x20100 + 0x1000 * r
def RT_PHY_CTRL (r : Nat) : Nat := 0x20400 + 0x1000 * r
def RT_PHY_STATUS (r : Nat) : Nat := 0x20404 + 0x1000 * r
def RT_PHY_EVENT (r : Nat) : Nat := 0x20408 + 0x1000 * r
def RT_XRATE (r : Nat) : Nat := 0x2040c + 0x1000 * r
def RT_TRAIN_ERR (r : Nat) : Nat := 0x20410 + 0x1000 * r
def RT_RECAL (r : Nat) : Nat := 0x20414 + 0x1000 * r
def RT_LANE (r i : Nat) : Nat := 0x20440 + 0x1000 * r + 4 * (i % 9)
def RT_DESKEW (r i : Nat) : Nat := 0x20500 + 0x1000 * r + 4 * (i % 36)
def RT_PHY_X (r : Nat) : Nat := 0x20600 + 0x1000 * r
end R

namespace F
def ID_DEVICE : Field := ⟨R.ID, 0, 16⟩
def ID_STEP : Field := ⟨R.ID, 16, 8⟩
def ID_VENDOR : Field := ⟨R.ID, 24, 8⟩
def MODE_MODE : Field := ⟨R.MODE, 0, 4⟩
def MODE_PREV : Field := ⟨R.MODE, 4, 4⟩
def MODE_SAFE_CAUSE : Field := ⟨R.MODE, 8, 4⟩
def MODE_CHANGING : Field := ⟨R.MODE, 12, 1⟩
def MODE_QUIESCED : Field := ⟨R.MODE, 13, 1⟩
def MODE_WOKE : Field := ⟨R.MODE, 14, 1⟩
def MODE_REQ_MODE : Field := ⟨R.MODE_REQ, 0, 4⟩
def MODE_REQ_ACK_LOSS : Field := ⟨R.MODE_REQ, 4, 1⟩
def MODE_REQ_RESULT : Field := ⟨R.MODE_REQ, 8, 4⟩
def MODE_REQ_PENDING : Field := ⟨R.MODE_REQ, 12, 1⟩
def MODE_REQ_SOURCE : Field := ⟨R.MODE_REQ, 13, 1⟩
def CAPS_ROUTES : Field := ⟨R.CAPS, 0, 6⟩
def CAPS_DIES : Field := ⟨R.CAPS, 6, 5⟩
def CAPS_DEC_CORES : Field := ⟨R.CAPS, 11, 7⟩
def CAPS_SO_LANES : Field := ⟨R.CAPS, 18, 6⟩
def CAPS_MODES : Field := ⟨R.CAPS, 24, 4⟩
def ERR_ADDR_OFFSET : Field := ⟨R.ERR_ADDR, 0, 20⟩
def ERR_ADDR_WRITE : Field := ⟨R.ERR_ADDR, 20, 1⟩
def ERR_ADDR_KIND : Field := ⟨R.ERR_ADDR, 21, 3⟩
def ERR_CAUSE_WIDTH : Field := ⟨R.ERR_CAUSE, 0, 1⟩
def ERR_CAUSE_RESERVED : Field := ⟨R.ERR_CAUSE, 1, 1⟩
def ERR_CAUSE_LOCKED : Field := ⟨R.ERR_CAUSE, 2, 1⟩
def ERR_CAUSE_REFUSED : Field := ⟨R.ERR_CAUSE, 3, 1⟩
def EXPERT_KEY_KEY : Field := ⟨R.EXPERT_KEY, 0, 32⟩
def ORIGIN_ORIGIN : Field := ⟨R.ORIGIN, 0, 18⟩
def ERR_COUNT_COUNT : Field := ⟨R.ERR_COUNT, 0, 32⟩
def ERR_EN_EN : Field := ⟨R.ERR_EN, 0, 4⟩
def IMG_CTRL_LOAD : Field := ⟨R.IMG_CTRL, 0, 1⟩
def IMG_CTRL_APPLY : Field := ⟨R.IMG_CTRL, 1, 1⟩
def IMG_CTRL_DISCARD : Field := ⟨R.IMG_CTRL, 2, 1⟩
def IMG_ADDR_LO_ADDR : Field := ⟨R.IMG_ADDR_LO, 6, 26⟩
def IMG_ADDR_HI_ADDR : Field := ⟨R.IMG_ADDR_HI, 0, 16⟩
def IMG_LEN_LEN : Field := ⟨R.IMG_LEN, 0, 19⟩
def IMG_STATUS_STATE : Field := ⟨R.IMG_STATUS, 0, 3⟩
def IMG_STATUS_CAUSE : Field := ⟨R.IMG_STATUS, 8, 8⟩
def IMG_STATUS_SECTION : Field := ⟨R.IMG_STATUS, 16, 8⟩
def IMG_STATUS_ACTIVE : Field := ⟨R.IMG_STATUS, 24, 1⟩
def IMG_GEN_GEN : Field := ⟨R.IMG_GEN, 0, 32⟩
def IMG_SEAM_TIME_LAST : Field := ⟨R.IMG_SEAM_TIME, 0, 20⟩
def IMG_KEYS_FUSED : Field := ⟨R.IMG_KEYS, 0, 4⟩
def IMG_KEYS_REVOKED : Field := ⟨R.IMG_KEYS, 4, 4⟩
def IMG_KEYS_SLOT : Field := ⟨R.IMG_KEYS, 8, 2⟩
def IMG_DIGEST_BYTES (i : Nat) : Field := ⟨R.IMG_DIGEST i, 0, 32⟩
def IMG_POLICY_X_DRAIN_LIMIT : Field := ⟨R.IMG_POLICY_X, 0, 10⟩
def IMG_POLICY_X_SKIP_ROLLBACK : Field := ⟨R.IMG_POLICY_X, 10, 1⟩
def NTC_CFG_FALLBACK : Field := ⟨R.NTC_CFG, 0, 3⟩
def NTC_CFG_REDIRECT : Field := ⟨R.NTC_CFG, 3, 14⟩
def NTC_VBASE_LO_ADDR : Field := ⟨R.NTC_VBASE_LO, 14, 18⟩
def NTC_VBASE_HI_ADDR : Field := ⟨R.NTC_VBASE_HI, 0, 16⟩
def NTC_SLEEP_CORES : Field := ⟨R.NTC_SLEEP, 0, 8⟩
def NTC_STACK_RESET_CORES : Field := ⟨R.NTC_STACK_RESET, 0, 8⟩
def NTC_STRANDED_COUNT : Field := ⟨R.NTC_STRANDED, 0, 32⟩
def NTC_EOI_SOURCE (i : Nat) : Field := ⟨R.NTC_EOI i, 0, 8⟩
def NTC_EOI_MBZ (i : Nat) : Field := ⟨R.NTC_EOI i, 8, 24⟩
def NTC_CORE_DEPTH (i : Nat) : Field := ⟨R.NTC_CORE i, 0, 5⟩
def NTC_CORE_TOP (i : Nat) : Field := ⟨R.NTC_CORE i, 5, 8⟩
def NTC_CORE_LEVEL (i : Nat) : Field := ⟨R.NTC_CORE i, 13, 5⟩
def NTC_CORE_FROZEN (i : Nat) : Field := ⟨R.NTC_CORE i, 18, 1⟩
def NTC_CORE_IDLE (i : Nat) : Field := ⟨R.NTC_CORE i, 19, 1⟩
def NTC_CORE_SLEEPING (i : Nat) : Field := ⟨R.NTC_CORE i, 20, 1⟩
def NTC_CORE_PRESENTING (i : Nat) : Field := ⟨R.NTC_CORE i, 21, 1⟩
def NTC_CORE_PRESENTED (i : Nat) : Field := ⟨R.NTC_CORE i, 22, 8⟩
def NTC_PEND_BITS (i : Nat) : Field := ⟨R.NTC_PEND i, 0, 32⟩
def NTC_MASK_BITS (i : Nat) : Field := ⟨R.NTC_MASK i, 0, 32⟩
def NTC_ACTIVE_BITS (i : Nat) : Field := ⟨R.NTC_ACTIVE i, 0, 32⟩
def NTC_MOD_COUNT (i : Nat) : Field := ⟨R.NTC_MOD i, 0, 8⟩
def NTC_MOD_TIMER (i : Nat) : Field := ⟨R.NTC_MOD i, 8, 14⟩
def NTC_X_IDLE_BYPASS_OFF : Field := ⟨R.NTC_X, 0, 1⟩
def NTC_X_REDIRECT_OFF : Field := ⟨R.NTC_X, 1, 1⟩
def NTC_X_STACK_CHECK_OFF : Field := ⟨R.NTC_X, 2, 1⟩
def NTC_ISRC_TARGET (i : Nat) : Field := ⟨R.NTC_ISRC i, 0, 3⟩
def NTC_ISRC_FAST (i : Nat) : Field := ⟨R.NTC_ISRC i, 3, 1⟩
def NTC_ISRC_EN (i : Nat) : Field := ⟨R.NTC_ISRC i, 4, 1⟩
def NTC_ISRC_WATCH (i : Nat) : Field := ⟨R.NTC_ISRC i, 5, 1⟩
def NTC_ISRC_GROUP (i : Nat) : Field := ⟨R.NTC_ISRC i, 6, 4⟩
def NTC_ISRC_PRIO (i : Nat) : Field := ⟨R.NTC_ISRC i, 10, 4⟩
def NTC_LSRC_TARGET (i : Nat) : Field := ⟨R.NTC_LSRC i, 0, 3⟩
def NTC_LSRC_FAST (i : Nat) : Field := ⟨R.NTC_LSRC i, 3, 1⟩
def NTC_LSRC_EN (i : Nat) : Field := ⟨R.NTC_LSRC i, 4, 1⟩
def NTC_LSRC_WATCH (i : Nat) : Field := ⟨R.NTC_LSRC i, 5, 1⟩
def NTC_LSRC_GROUP (i : Nat) : Field := ⟨R.NTC_LSRC i, 6, 4⟩
def NTC_LSRC_PRIO (i : Nat) : Field := ⟨R.NTC_LSRC i, 10, 4⟩
def NTC_LOST_COUNT (i : Nat) : Field := ⟨R.NTC_LOST i, 0, 16⟩
def NTF_VBASE_LO_ADDR : Field := ⟨R.NTF_VBASE_LO, 6, 26⟩
def NTF_VBASE_HI_ADDR : Field := ⟨R.NTF_VBASE_HI, 0, 16⟩
def NTF_SRC_SOURCE (i : Nat) : Field := ⟨R.NTF_SRC i, 0, 8⟩
def NTF_SRC_VALID (i : Nat) : Field := ⟨R.NTF_SRC i, 8, 1⟩
def NTF_EOI_SOURCE (i : Nat) : Field := ⟨R.NTF_EOI i, 0, 8⟩
def NTF_EOI_MBZ (i : Nat) : Field := ⟨R.NTF_EOI i, 8, 24⟩
def NTF_FAULT_CAUSE (i : Nat) : Field := ⟨R.NTF_FAULT i, 0, 2⟩
def NTF_FAULT_NAMED (i : Nat) : Field := ⟨R.NTF_FAULT i, 2, 8⟩
def NTF_FAULT_TOP (i : Nat) : Field := ⟨R.NTF_FAULT i, 10, 8⟩
def LETTERBOX_VALUE : Field := ⟨R.LETTERBOX, 0, 32⟩
def PM_CTRL_STEP_PERMIT : Field := ⟨R.PM_CTRL, 0, 1⟩
def PM_CTRL_PERMIT_ALWAYS : Field := ⟨R.PM_CTRL, 1, 1⟩
def PM_CTRL_EVENT_EN : Field := ⟨R.PM_CTRL, 2, 6⟩
def PM_STATUS_QUALITY : Field := ⟨R.PM_STATUS, 0, 2⟩
def PM_STATUS_TU_QUALITY : Field := ⟨R.PM_STATUS, 2, 2⟩
def PM_STATUS_SLEWING : Field := ⟨R.PM_STATUS, 4, 1⟩
def PM_STATUS_REFUSING : Field := ⟨R.PM_STATUS, 5, 1⟩
def PM_EVENT_LOCKED : Field := ⟨R.PM_EVENT, 0, 1⟩
def PM_EVENT_LOCK_LOST : Field := ⟨R.PM_EVENT, 1, 1⟩
def PM_EVENT_STEP : Field := ⟨R.PM_EVENT, 2, 1⟩
def PM_EVENT_STEP_REFUSED : Field := ⟨R.PM_EVENT, 3, 1⟩
def PM_EVENT_HOLDOVER_END : Field := ⟨R.PM_EVENT, 4, 1⟩
def PM_EVENT_GEN_STALE : Field := ⟨R.PM_EVENT, 5, 1⟩
def PM_NOW_NS_VALUE : Field := ⟨R.PM_NOW_NS, 0, 32⟩
def PM_NOW_SEC_LO_SECONDS : Field := ⟨R.PM_NOW_SEC_LO, 0, 32⟩
def PM_NOW_SEC_HI_SECONDS : Field := ⟨R.PM_NOW_SEC_HI, 0, 16⟩
def PM_ERR_NS : Field := ⟨R.PM_ERR, 0, 32⟩
def PM_FREQ_PPB : Field := ⟨R.PM_FREQ, 0, 32⟩
def PM_SLEW_NS : Field := ⟨R.PM_SLEW, 0, 32⟩
def PM_GEN_LOG_KIND : Field := ⟨R.PM_GEN_LOG, 0, 2⟩
def PM_GEN_LOG_COUNT : Field := ⟨R.PM_GEN_LOG, 16, 16⟩
def PM_BCN_LO_ADDR : Field := ⟨R.PM_BCN_LO, 6, 26⟩
def PM_BCN_HI_ADDR : Field := ⟨R.PM_BCN_HI, 0, 16⟩
def PM_BCN_CFG_EN : Field := ⟨R.PM_BCN_CFG, 0, 1⟩
def PM_BCN_CFG_PERIOD : Field := ⟨R.PM_BCN_CFG, 1, 14⟩
def PM_BCN_CFG_EVENT_EN : Field := ⟨R.PM_BCN_CFG, 15, 4⟩
def PM_BCN_SEQ_SEQ : Field := ⟨R.PM_BCN_SEQ, 0, 32⟩
def PM_BCN_EVENT_PEER_LAPSE : Field := ⟨R.PM_BCN_EVENT, 0, 1⟩
def PM_BCN_EVENT_PEER_BACK : Field := ⟨R.PM_BCN_EVENT, 1, 1⟩
def PM_BCN_EVENT_ORIGIN_CLASH : Field := ⟨R.PM_BCN_EVENT, 2, 1⟩
def PM_BCN_EVENT_BEACON_FAIL : Field := ⟨R.PM_BCN_EVENT, 3, 1⟩
def PM_PEER_STATUS_LAPSED : Field := ⟨R.PM_PEER_STATUS, 0, 16⟩
def PM_PEER_STATUS_CLASH : Field := ⟨R.PM_PEER_STATUS, 16, 16⟩
def PM_PEER_LO_EN (i : Nat) : Field := ⟨R.PM_PEER_LO i, 0, 1⟩
def PM_PEER_LO_ADDR (i : Nat) : Field := ⟨R.PM_PEER_LO i, 6, 26⟩
def PM_PEER_HI_ADDR (i : Nat) : Field := ⟨R.PM_PEER_HI i, 0, 16⟩
def PM_X_LOCK_NS : Field := ⟨R.PM_X, 0, 10⟩
def PM_X_KP_SHIFT : Field := ⟨R.PM_X, 10, 4⟩
def PM_X_KI_SHIFT : Field := ⟨R.PM_X, 14, 4⟩
def PM_X_FREQ_MAX : Field := ⟨R.PM_X, 18, 8⟩
def PM_HOLD_X_HOLD_MAX : Field := ⟨R.PM_HOLD_X, 0, 16⟩
def PM_HOLD_X_LOCK_COUNT : Field := ⟨R.PM_HOLD_X, 16, 4⟩
def PM_HOLD_X_STEP_MIN : Field := ⟨R.PM_HOLD_X, 20, 12⟩
def Q_CTRL_MAILBAG_TIMEOUT : Field := ⟨R.Q_CTRL, 0, 10⟩
def Q_CTRL_EVENT_EN : Field := ⟨R.Q_CTRL, 10, 3⟩
def Q_STATUS_SQ_COUNT : Field := ⟨R.Q_STATUS, 0, 11⟩
def Q_STATUS_CQ_COUNT : Field := ⟨R.Q_STATUS, 11, 11⟩
def Q_EVENT_DB_IGNORED : Field := ⟨R.Q_EVENT, 0, 1⟩
def Q_EVENT_QUEUE_STOP : Field := ⟨R.Q_EVENT, 1, 1⟩
def Q_EVENT_CQ_FAULT : Field := ⟨R.Q_EVENT, 2, 1⟩
def Q_PR_HELD : Field := ⟨R.Q_PR, 0, 13⟩
def Q_PR_QUOTA_SUM : Field := ⟨R.Q_PR, 13, 13⟩
def Q_ADMIN_SQ_LO_ADDR : Field := ⟨R.Q_ADMIN_SQ_LO, 6, 26⟩
def Q_ADMIN_SQ_HI_ADDR : Field := ⟨R.Q_ADMIN_SQ_HI, 0, 16⟩
def Q_ADMIN_CQ_LO_ADDR : Field := ⟨R.Q_ADMIN_CQ_LO, 6, 26⟩
def Q_ADMIN_CQ_HI_ADDR : Field := ⟨R.Q_ADMIN_CQ_HI, 0, 16⟩
def Q_ADMIN_CFG_EN : Field := ⟨R.Q_ADMIN_CFG, 0, 1⟩
def Q_ADMIN_CFG_RESUME : Field := ⟨R.Q_ADMIN_CFG, 1, 1⟩
def Q_ADMIN_CFG_SQ_LOG2 : Field := ⟨R.Q_ADMIN_CFG, 2, 4⟩
def Q_ADMIN_CFG_CQ_LOG2 : Field := ⟨R.Q_ADMIN_CFG, 6, 4⟩
def Q_ADMIN_CFG_NOTICE : Field := ⟨R.Q_ADMIN_CFG, 10, 8⟩
def Q_DB_LOG_VALUE : Field := ⟨R.Q_DB_LOG, 0, 17⟩
def Q_DB_LOG_QUEUE : Field := ⟨R.Q_DB_LOG, 17, 10⟩
def Q_DB_LOG_KIND : Field := ⟨R.Q_DB_LOG, 27, 1⟩
def Q_DB_LOG_CAUSE : Field := ⟨R.Q_DB_LOG, 28, 2⟩
def Q_DB_COUNT_COUNT : Field := ⟨R.Q_DB_COUNT, 0, 32⟩
def Q_STOP_LOG_SLOT : Field := ⟨R.Q_STOP_LOG, 0, 16⟩
def Q_STOP_LOG_QUEUE : Field := ⟨R.Q_STOP_LOG, 16, 10⟩
def Q_STOP_LOG_CAUSE : Field := ⟨R.Q_STOP_LOG, 26, 3⟩
def Q_STOPPED_SQ (i : Nat) : Field := ⟨R.Q_STOPPED i, 0, 32⟩
def Q_CQ_FAULT_CQ (i : Nat) : Field := ⟨R.Q_CQ_FAULT i, 0, 32⟩
def Q_SEL_QUEUE : Field := ⟨R.Q_SEL, 0, 10⟩
def Q_SEL_KIND : Field := ⟨R.Q_SEL, 10, 1⟩
def Q_VIEW_A_HEAD : Field := ⟨R.Q_VIEW_A, 0, 16⟩
def Q_VIEW_A_TAIL : Field := ⟨R.Q_VIEW_A, 16, 16⟩
def Q_VIEW_B_COUNT : Field := ⟨R.Q_VIEW_B, 0, 17⟩
def Q_VIEW_B_LINK : Field := ⟨R.Q_VIEW_B, 17, 10⟩
def Q_VIEW_B_STATE : Field := ⟨R.Q_VIEW_B, 27, 3⟩
def Q_VIEW_C_QUOTA : Field := ⟨R.Q_VIEW_C, 0, 9⟩
def Q_VIEW_C_LOG2LEN : Field := ⟨R.Q_VIEW_C, 9, 4⟩
def Q_VIEW_C_NOTICE : Field := ⟨R.Q_VIEW_C, 13, 8⟩
def Q_VIEW_C_PHASE : Field := ⟨R.Q_VIEW_C, 21, 1⟩
def Q_X_PREFETCH : Field := ⟨R.Q_X, 0, 5⟩
def Q_X_ADMIN_FIRST : Field := ⟨R.Q_X, 5, 1⟩
def MI_CTRL_SCRUB_EN : Field := ⟨R.MI_CTRL, 0, 1⟩
def MI_CTRL_EVENT_EN : Field := ⟨R.MI_CTRL, 1, 7⟩
def MI_STATUS_FWD_USED : Field := ⟨R.MI_STATUS, 0, 6⟩
def MI_STATUS_SPARES_LEFT : Field := ⟨R.MI_STATUS, 6, 7⟩
def MI_STATUS_MACROS_FAILED : Field := ⟨R.MI_STATUS, 13, 11⟩
def MI_EVENT_UNCORR : Field := ⟨R.MI_EVENT, 0, 1⟩
def MI_EVENT_FWD_ADD : Field := ⟨R.MI_EVENT, 1, 1⟩
def MI_EVENT_FWD_FULL : Field := ⟨R.MI_EVENT, 2, 1⟩
def MI_EVENT_MACRO_FAIL : Field := ⟨R.MI_EVENT, 3, 1⟩
def MI_EVENT_LAP_LATE : Field := ⟨R.MI_EVENT, 4, 1⟩
def MI_EVENT_DRAM_UNCORR : Field := ⟨R.MI_EVENT, 5, 1⟩
def MI_EVENT_MEM_FATAL : Field := ⟨R.MI_EVENT, 6, 1⟩
def MI_CNT_CORR_COUNT : Field := ⟨R.MI_CNT_CORR, 0, 32⟩
def MI_CNT_UNCORR_COUNT : Field := ⟨R.MI_CNT_UNCORR, 0, 32⟩
def MI_CNT_DRAM_CORR_COUNT : Field := ⟨R.MI_CNT_DRAM_CORR, 0, 32⟩
def MI_CNT_DRAM_UNCORR_COUNT : Field := ⟨R.MI_CNT_DRAM_UNCORR, 0, 32⟩
def MI_CNT_FORCED_COUNT : Field := ⟨R.MI_CNT_FORCED, 0, 32⟩
def MI_LAST_ERR_WORD : Field := ⟨R.MI_LAST_ERR, 0, 23⟩
def MI_LAST_ERR_SYMBOL : Field := ⟨R.MI_LAST_ERR, 23, 5⟩
def MI_LAST_ERR_UNCORR : Field := ⟨R.MI_LAST_ERR, 28, 1⟩
def MI_DRAM_ERR_LO_ADDR : Field := ⟨R.MI_DRAM_ERR_LO, 0, 32⟩
def MI_DRAM_ERR_HI_ADDR : Field := ⟨R.MI_DRAM_ERR_HI, 0, 12⟩
def MI_LAP_LAST_MS : Field := ⟨R.MI_LAP_LAST, 0, 32⟩
def MI_LAP_COUNT_COUNT : Field := ⟨R.MI_LAP_COUNT, 0, 32⟩
def MI_BIST_DONE : Field := ⟨R.MI_BIST, 0, 1⟩
def MI_BIST_PASS : Field := ⟨R.MI_BIST, 1, 1⟩
def MI_BIST_CHECKER_FAIL : Field := ⟨R.MI_BIST, 2, 1⟩
def MI_BIST_FORWARDED : Field := ⟨R.MI_BIST, 3, 6⟩
def MI_BIST_MACROS : Field := ⟨R.MI_BIST, 9, 11⟩
def MI_MACRO_LOG_BANK (i : Nat) : Field := ⟨R.MI_MACRO_LOG i, 0, 11⟩
def MI_MACRO_LOG_MACRO (i : Nat) : Field := ⟨R.MI_MACRO_LOG i, 11, 5⟩
def MI_MACRO_LOG_VALID (i : Nat) : Field := ⟨R.MI_MACRO_LOG i, 16, 1⟩
def MI_FWD_WORD (i : Nat) : Field := ⟨R.MI_FWD i, 0, 23⟩
def MI_FWD_SPARE (i : Nat) : Field := ⟨R.MI_FWD i, 23, 6⟩
def MI_FWD_VALID (i : Nat) : Field := ⟨R.MI_FWD i, 29, 1⟩
def MI_PH_CTRL_ALLOC_EN : Field := ⟨R.MI_PH_CTRL, 0, 1⟩
def MI_PH_CTRL_STREAM_RUN : Field := ⟨R.MI_PH_CTRL, 1, 8⟩
def MI_PH_CTRL_EVENT_EN : Field := ⟨R.MI_PH_CTRL, 9, 2⟩
def MI_PH_STATUS_EPOCH : Field := ⟨R.MI_PH_STATUS, 0, 16⟩
def MI_PH_STATUS_RANGES : Field := ⟨R.MI_PH_STATUS, 16, 4⟩
def MI_PH_STATUS_LOCKED_EMPTY : Field := ⟨R.MI_PH_STATUS, 20, 12⟩
def MI_PH_EVENT_LOCKED_EMPTY : Field := ⟨R.MI_PH_EVENT, 0, 1⟩
def MI_PH_EVENT_RANGE_WAIT : Field := ⟨R.MI_PH_EVENT, 1, 1⟩
def MI_PH_CNT_HIT_COUNT : Field := ⟨R.MI_PH_CNT_HIT, 0, 32⟩
def MI_PH_CNT_MISS_COUNT : Field := ⟨R.MI_PH_CNT_MISS, 0, 32⟩
def MI_PH_CNT_DISCARDED_COUNT : Field := ⟨R.MI_PH_CNT_DISCARDED, 0, 32⟩
def MI_PH_CNT_LOCKED_DROPPED_COUNT : Field := ⟨R.MI_PH_CNT_LOCKED_DROPPED, 0, 32⟩
def MI_PH_SEL_SET : Field := ⟨R.MI_PH_SEL, 0, 9⟩
def MI_PH_VIEW_LOCKED : Field := ⟨R.MI_PH_VIEW, 0, 16⟩
def MI_PH_VIEW_VALID : Field := ⟨R.MI_PH_VIEW, 16, 16⟩
def MI_X_WRITEBACK_OFF : Field := ⟨R.MI_X, 0, 1⟩
def MI_X_FORWARD_OFF : Field := ⟨R.MI_X, 1, 1⟩
def MI_X_ERASURE_OFF : Field := ⟨R.MI_X, 2, 1⟩
def MI_X_MACRO_THRESH : Field := ⟨R.MI_X, 3, 3⟩
def MI_INJECT_X_WORD : Field := ⟨R.MI_INJECT_X, 0, 23⟩
def MI_INJECT_X_SYMBOL : Field := ⟨R.MI_INJECT_X, 23, 5⟩
def MI_INJECT_X_PAIR : Field := ⟨R.MI_INJECT_X, 28, 1⟩
def MI_INJECT_X_ARM : Field := ⟨R.MI_INJECT_X, 29, 1⟩
def MI_PH_X_STREAM_OFF : Field := ⟨R.MI_PH_X, 0, 1⟩
def MI_PH_X_NO_PROGRAM_ALLOC : Field := ⟨R.MI_PH_X, 1, 1⟩
def FI_CTRL_PATROL_EN : Field := ⟨R.FI_CTRL, 0, 1⟩
def FI_CTRL_RELOCATE_EN : Field := ⟨R.FI_CTRL, 1, 1⟩
def FI_CTRL_EVENT_EN : Field := ⟨R.FI_CTRL, 2, 10⟩
def FI_STATUS_DEG_CAUSE : Field := ⟨R.FI_STATUS, 0, 4⟩
def FI_STATUS_PATROL_PAUSED : Field := ⟨R.FI_STATUS, 4, 1⟩
def FI_STATUS_POISON_DIRTY : Field := ⟨R.FI_STATUS, 5, 1⟩
def FI_STATUS_REBUILDS : Field := ⟨R.FI_STATUS, 6, 5⟩
def FI_EVENT_DIE_RETIRED : Field := ⟨R.FI_EVENT, 0, 1⟩
def FI_EVENT_REBUILD_DONE : Field := ⟨R.FI_EVENT, 1, 1⟩
def FI_EVENT_REBUILD_FAIL : Field := ⟨R.FI_EVENT, 2, 1⟩
def FI_EVENT_ROUND_DONE : Field := ⟨R.FI_EVENT, 3, 1⟩
def FI_EVENT_ROUND_LATE : Field := ⟨R.FI_EVENT, 4, 1⟩
def FI_EVENT_RECON_FAIL : Field := ⟨R.FI_EVENT, 5, 1⟩
def FI_EVENT_SPARE_FULL : Field := ⟨R.FI_EVENT, 6, 1⟩
def FI_EVENT_POISON_FULL : Field := ⟨R.FI_EVENT, 7, 1⟩
def FI_EVENT_DL_FULL : Field := ⟨R.FI_EVENT, 8, 1⟩
def FI_EVENT_STALL : Field := ⟨R.FI_EVENT, 9, 1⟩
def FI_SMAP_LO_EN : Field := ⟨R.FI_SMAP_LO, 0, 1⟩
def FI_SMAP_LO_ADDR : Field := ⟨R.FI_SMAP_LO, 12, 20⟩
def FI_SMAP_HI_ADDR : Field := ⟨R.FI_SMAP_HI, 0, 16⟩
def FI_DL_LO_ADDR : Field := ⟨R.FI_DL_LO, 6, 26⟩
def FI_DL_HI_ADDR : Field := ⟨R.FI_DL_HI, 0, 16⟩
def FI_DL_CFG_EN : Field := ⟨R.FI_DL_CFG, 0, 1⟩
def FI_DL_CFG_LOG2 : Field := ⟨R.FI_DL_CFG, 1, 5⟩
def FI_DL_CFG_PHASE : Field := ⟨R.FI_DL_CFG, 6, 1⟩
def FI_DL_CFG_HELD : Field := ⟨R.FI_DL_CFG, 7, 5⟩
def FI_DL_HEAD_HEAD : Field := ⟨R.FI_DL_HEAD, 0, 16⟩
def FI_DL_TAIL_TAIL : Field := ⟨R.FI_DL_TAIL, 0, 16⟩
def FI_SPARE_ROUTE : Field := ⟨R.FI_SPARE, 0, 5⟩
def FI_SPARE_DIE : Field := ⟨R.FI_SPARE, 5, 4⟩
def FI_SPARE_VALID : Field := ⟨R.FI_SPARE, 9, 1⟩
def FI_SPARE_RANGE_FIRST : Field := ⟨R.FI_SPARE_RANGE, 0, 16⟩
def FI_SPARE_RANGE_LAST : Field := ⟨R.FI_SPARE_RANGE, 16, 16⟩
def FI_SPARE_CURSOR_BLOCK : Field := ⟨R.FI_SPARE_CURSOR, 0, 16⟩
def FI_SPARE_CURSOR_PAGE : Field := ⟨R.FI_SPARE_CURSOR, 16, 12⟩
def FI_SPARE_CURSOR_FULL : Field := ⟨R.FI_SPARE_CURSOR, 28, 1⟩
def FI_ROUND_COUNT_COUNT : Field := ⟨R.FI_ROUND_COUNT, 0, 32⟩
def FI_ROUND_LAST_SECONDS : Field := ⟨R.FI_ROUND_LAST, 0, 32⟩
def FI_CNT_PAGES_COUNT : Field := ⟨R.FI_CNT_PAGES, 0, 32⟩
def FI_CNT_FULL_COUNT : Field := ⟨R.FI_CNT_FULL, 0, 32⟩
def FI_CNT_WEAK_COUNT : Field := ⟨R.FI_CNT_WEAK, 0, 32⟩
def FI_CNT_RECON_OK_COUNT : Field := ⟨R.FI_CNT_RECON_OK, 0, 32⟩
def FI_CNT_RECON_FAIL_COUNT : Field := ⟨R.FI_CNT_RECON_FAIL, 0, 32⟩
def FI_CNT_RELOCATED_COUNT : Field := ⟨R.FI_CNT_RELOCATED, 0, 32⟩
def FI_CNT_LOST_COUNT : Field := ⟨R.FI_CNT_LOST, 0, 32⟩
def FI_POISON_COUNT : Field := ⟨R.FI_POISON, 0, 13⟩
def FI_POISON_SEL_INDEX : Field := ⟨R.FI_POISON_SEL, 0, 12⟩
def FI_POISON_VIEW_LO_ADDR : Field := ⟨R.FI_POISON_VIEW_LO, 0, 32⟩
def FI_POISON_VIEW_HI_ADDR : Field := ⟨R.FI_POISON_VIEW_HI, 0, 16⟩
def FI_POISON_VIEW_HI_VALID : Field := ⟨R.FI_POISON_VIEW_HI, 16, 1⟩
def FI_STALE_DIES (i : Nat) : Field := ⟨R.FI_STALE i, 0, 32⟩
def FI_COA_A_SRC_ROUTE (i : Nat) : Field := ⟨R.FI_COA_A i, 0, 5⟩
def FI_COA_A_SRC_DIE (i : Nat) : Field := ⟨R.FI_COA_A i, 5, 4⟩
def FI_COA_A_TGT_ROUTE (i : Nat) : Field := ⟨R.FI_COA_A i, 9, 5⟩
def FI_COA_A_TGT_DIE (i : Nat) : Field := ⟨R.FI_COA_A i, 14, 4⟩
def FI_COA_A_STATE (i : Nat) : Field := ⟨R.FI_COA_A i, 18, 2⟩
def FI_COA_B_BLOCK (i : Nat) : Field := ⟨R.FI_COA_B i, 0, 16⟩
def FI_COA_B_LOST (i : Nat) : Field := ⟨R.FI_COA_B i, 16, 16⟩
def FI_X_REBUILD_CTX : Field := ⟨R.FI_X, 0, 4⟩
def FI_X_SAMPLE_SHIFT : Field := ⟨R.FI_X, 4, 3⟩
def FI_X_DECODE_RBER : Field := ⟨R.FI_X, 7, 8⟩
def FI_X_PACE_OFF : Field := ⟨R.FI_X, 15, 1⟩
def FI_X_RECON_CHECK_OFF : Field := ⟨R.FI_X, 16, 1⟩
def FI_SUSP_EN : Field := ⟨R.FI_SUSP, 0, 1⟩
def FI_SUSP_ERASE_MIN_RUN : Field := ⟨R.FI_SUSP, 1, 9⟩
def FI_SUSP_PROG_MIN_RUN : Field := ⟨R.FI_SUSP, 10, 8⟩
def FI_SUSP_REC_EVENT_EN : Field := ⟨R.FI_SUSP, 18, 3⟩
def FI_SUSP_X_ERASE_HOLD_MAX : Field := ⟨R.FI_SUSP_X, 0, 8⟩
def FI_SUSP_X_PROG_HOLD_MAX : Field := ⟨R.FI_SUSP_X, 8, 8⟩
def FI_SUSP_X_ERASE_LIMIT : Field := ⟨R.FI_SUSP_X, 16, 5⟩
def FI_SUSP_X_PROG_LIMIT : Field := ⟨R.FI_SUSP_X, 21, 3⟩
def FI_REC_CTRL_GREY_LO : Field := ⟨R.FI_REC_CTRL, 0, 16⟩
def FI_REC_CTRL_GREY_HI : Field := ⟨R.FI_REC_CTRL, 16, 16⟩
def FI_REC_COUNT_LOST : Field := ⟨R.FI_REC_COUNT, 0, 10⟩
def FI_REC_COUNT_INCOMPLETE : Field := ⟨R.FI_REC_COUNT, 10, 10⟩
def FI_REC_COUNT_GREY : Field := ⟨R.FI_REC_COUNT, 20, 12⟩
def FI_REC_PENDING_COUNT : Field := ⟨R.FI_REC_PENDING, 0, 11⟩
def FI_REC_EVENT_LEDGER_LOST : Field := ⟨R.FI_REC_EVENT, 0, 1⟩
def FI_REC_EVENT_RECOVERED : Field := ⟨R.FI_REC_EVENT, 1, 1⟩
def FI_REC_EVENT_OVERFLOW : Field := ⟨R.FI_REC_EVENT, 2, 1⟩
def FI_REC_LOG_BLOCK (i : Nat) : Field := ⟨R.FI_REC_LOG i, 0, 16⟩
def FI_REC_LOG_DIE (i : Nat) : Field := ⟨R.FI_REC_LOG i, 16, 4⟩
def FI_REC_LOG_ROUTE (i : Nat) : Field := ⟨R.FI_REC_LOG i, 20, 5⟩
def FI_REC_LOG_KIND (i : Nat) : Field := ⟨R.FI_REC_LOG i, 25, 2⟩
def FI_REC_LOG_REERASED (i : Nat) : Field := ⟨R.FI_REC_LOG i, 27, 1⟩
def RC_CTRL_PILOT_EN : Field := ⟨R.RC_CTRL, 0, 1⟩
def RC_CTRL_SOFT_EN : Field := ⟨R.RC_CTRL, 1, 1⟩
def RC_CTRL_DEEP_EN : Field := ⟨R.RC_CTRL, 2, 1⟩
def RC_CTRL_EVENT_EN : Field := ⟨R.RC_CTRL, 3, 6⟩
def RC_STATUS_CORES_OK : Field := ⟨R.RC_STATUS, 0, 7⟩
def RC_STATUS_SPARES_LEFT : Field := ⟨R.RC_STATUS, 7, 3⟩
def RC_STATUS_SHORT : Field := ⟨R.RC_STATUS, 10, 1⟩
def RC_EVENT_CAL_DONE : Field := ⟨R.RC_EVENT, 0, 1⟩
def RC_EVENT_CAL_DISAGREE : Field := ⟨R.RC_EVENT, 1, 1⟩
def RC_EVENT_DRIFT_LIMIT : Field := ⟨R.RC_EVENT, 2, 1⟩
def RC_EVENT_CORE_SUBST : Field := ⟨R.RC_EVENT, 3, 1⟩
def RC_EVENT_DECODER_SHORT : Field := ⟨R.RC_EVENT, 4, 1⟩
def RC_EVENT_CELL_MAP_BAD : Field := ⟨R.RC_EVENT, 5, 1⟩
def RC_PILOT_GAIN : Field := ⟨R.RC_PILOT, 0, 10⟩
def RC_PILOT_STEP_MAX : Field := ⟨R.RC_PILOT, 10, 4⟩
def RC_PILOT_DRIFT_MAX : Field := ⟨R.RC_PILOT, 14, 7⟩
def RC_PILOT_PLAUSIBLE : Field := ⟨R.RC_PILOT, 21, 8⟩
def RC_SOFT_SOFT_STEP : Field := ⟨R.RC_SOFT, 0, 4⟩
def RC_CNT_FIRST_COUNT : Field := ⟨R.RC_CNT_FIRST, 0, 32⟩
def RC_CNT_ADJUSTED_COUNT : Field := ⟨R.RC_CNT_ADJUSTED, 0, 32⟩
def RC_CNT_SOFT_COUNT : Field := ⟨R.RC_CNT_SOFT, 0, 32⟩
def RC_CNT_UNCORR_COUNT : Field := ⟨R.RC_CNT_UNCORR, 0, 32⟩
def RC_CNT_LADDER_COUNT : Field := ⟨R.RC_CNT_LADDER, 0, 32⟩
def RC_CNT_DISCARD_COUNT : Field := ⟨R.RC_CNT_DISCARD, 0, 32⟩
def RC_CELL_TYPE (i : Nat) : Field := ⟨R.RC_CELL i, 0, 30⟩
def RC_CELL_BITS_BITS : Field := ⟨R.RC_CELL_BITS, 0, 24⟩
def RC_CAL_SEL_ROUTE : Field := ⟨R.RC_CAL_SEL, 0, 5⟩
def RC_CAL_SEL_DIE : Field := ⟨R.RC_CAL_SEL, 5, 4⟩
def RC_CAL_SEL_GROUP : Field := ⟨R.RC_CAL_SEL, 9, 3⟩
def RC_CAL_RESULT_ROUTE : Field := ⟨R.RC_CAL_RESULT, 0, 5⟩
def RC_CAL_RESULT_DIE : Field := ⟨R.RC_CAL_RESULT, 5, 4⟩
def RC_CAL_RESULT_GROUP : Field := ⟨R.RC_CAL_RESULT, 9, 3⟩
def RC_CAL_RESULT_OUTCOME : Field := ⟨R.RC_CAL_RESULT, 12, 2⟩
def RC_CAL_RESULT_CAUSE : Field := ⟨R.RC_CAL_RESULT, 14, 3⟩
def RC_CAL_RESULT_THRESH : Field := ⟨R.RC_CAL_RESULT, 17, 4⟩
def RC_CAL_RESULT_DIFF : Field := ⟨R.RC_CAL_RESULT, 21, 8⟩
def RC_CAL_VIEW_BYTES (i : Nat) : Field := ⟨R.RC_CAL_VIEW i, 0, 32⟩
def RC_DRIFT_VIEW_DRIFT (i : Nat) : Field := ⟨R.RC_DRIFT_VIEW i, 0, 32⟩
def RC_CORE_FAIL_FAILED (i : Nat) : Field := ⟨R.RC_CORE_FAIL i, 0, 32⟩
def RC_LLR_X_HARD (i : Nat) : Field := ⟨R.RC_LLR_X i, 0, 5⟩
def RC_LLR_X_L3 (i : Nat) : Field := ⟨R.RC_LLR_X i, 5, 5⟩
def RC_LLR_X_L2 (i : Nat) : Field := ⟨R.RC_LLR_X i, 10, 5⟩
def RC_LLR_X_L1 (i : Nat) : Field := ⟨R.RC_LLR_X i, 15, 5⟩
def RC_LLR_X_L0 (i : Nat) : Field := ⟨R.RC_LLR_X i, 20, 5⟩
def RC_DEC_X_HARD_ITER : Field := ⟨R.RC_DEC_X, 0, 6⟩
def RC_DEC_X_SOFT_ITER : Field := ⟨R.RC_DEC_X, 6, 6⟩
def RC_DEC_X_ST_PERIOD : Field := ⟨R.RC_DEC_X, 12, 8⟩
def RC_DEC_X_MIN_PILOTS : Field := ⟨R.RC_DEC_X, 20, 7⟩
def RC_DEC_X_PILOT_STEP_OFF : Field := ⟨R.RC_DEC_X, 27, 1⟩
def RC_CAL_X_HALF_WIDTH : Field := ⟨R.RC_CAL_X, 0, 6⟩
def RC_CAL_X_SWEEP_STEP : Field := ⟨R.RC_CAL_X, 6, 4⟩
def RC_CAL_X_MIN_WORDLINES : Field := ⟨R.RC_CAL_X, 10, 4⟩
def RC_ENV_CTRL_ERASED_MAX : Field := ⟨R.RC_ENV_CTRL, 0, 13⟩
def RC_ENV_CTRL_HDR_ERASED_MAX : Field := ⟨R.RC_ENV_CTRL, 16, 9⟩
def RC_ENV_CNT_ERASED_COUNT : Field := ⟨R.RC_ENV_CNT_ERASED, 0, 32⟩
def RC_ENV_CNT_SHIFTED_COUNT : Field := ⟨R.RC_ENV_CNT_SHIFTED, 0, 32⟩
def RC_ENV_CNT_MISSED_COUNT : Field := ⟨R.RC_ENV_CNT_MISSED, 0, 32⟩
def RC_ENV_CNT_LOST_COUNT : Field := ⟨R.RC_ENV_CNT_LOST, 0, 32⟩
def RC_ENV_CNT_MISDELIVERED_COUNT : Field := ⟨R.RC_ENV_CNT_MISDELIVERED, 0, 32⟩
def RC_ENV_X_MARK_TOL : Field := ⟨R.RC_ENV_X, 0, 3⟩
def RC_ENV_X_MISDELIVER_MIN : Field := ⟨R.RC_ENV_X, 4, 7⟩
def RC_ENV_X_PILOT_CHECK_OFF : Field := ⟨R.RC_ENV_X, 11, 1⟩
def SO_CTRL_EVENT_EN : Field := ⟨R.SO_CTRL, 0, 4⟩
def SO_STATUS_ACTIVE : Field := ⟨R.SO_STATUS, 0, 5⟩
def SO_STATUS_LANES_OK : Field := ⟨R.SO_STATUS, 5, 6⟩
def SO_STATUS_SPARES_LEFT : Field := ⟨R.SO_STATUS, 11, 2⟩
def SO_STATUS_SHORT : Field := ⟨R.SO_STATUS, 13, 1⟩
def SO_STATUS_WAITING : Field := ⟨R.SO_STATUS, 14, 10⟩
def SO_EVENT_LANE_SUBST : Field := ⟨R.SO_EVENT, 0, 1⟩
def SO_EVENT_LANE_SHORT : Field := ⟨R.SO_EVENT, 1, 1⟩
def SO_EVENT_SATURATED : Field := ⟨R.SO_EVENT, 2, 1⟩
def SO_EVENT_SCAN_WAIT : Field := ⟨R.SO_EVENT, 3, 1⟩
def SO_LANE_FAIL_FAILED (i : Nat) : Field := ⟨R.SO_LANE_FAIL i, 0, 32⟩
def SO_CNT_SCANS_COUNT : Field := ⟨R.SO_CNT_SCANS, 0, 32⟩
def SO_CNT_POSITIONS_COUNT : Field := ⟨R.SO_CNT_POSITIONS, 0, 32⟩
def SO_CNT_ZONE_SKIP_COUNT : Field := ⟨R.SO_CNT_ZONE_SKIP, 0, 32⟩
def SO_CNT_WINDOW_SKIP_COUNT : Field := ⟨R.SO_CNT_WINDOW_SKIP, 0, 32⟩
def SO_CNT_EVALUATED_COUNT : Field := ⟨R.SO_CNT_EVALUATED, 0, 32⟩
def SO_CNT_HEADER_AGG_COUNT : Field := ⟨R.SO_CNT_HEADER_AGG, 0, 32⟩
def SO_CNT_FAILING_COUNT : Field := ⟨R.SO_CNT_FAILING, 0, 32⟩
def SO_FLOOR_SLOTS (i : Nat) : Field := ⟨R.SO_FLOOR i, 0, 14⟩
def SO_FLOOR_FREE (i : Nat) : Field := ⟨R.SO_FLOOR i, 14, 14⟩
def SO_X_ZONE_SKIP_OFF : Field := ⟨R.SO_X, 0, 1⟩
def SO_X_HEADER_AGG_OFF : Field := ⟨R.SO_X, 1, 1⟩
def SO_X_ST_PERIOD : Field := ⟨R.SO_X, 2, 8⟩
def SO_X_ADMIT_AHEAD : Field := ⟨R.SO_X, 10, 12⟩
def HB_STATUS_USED : Field := ⟨R.HB_STATUS, 0, 2⟩
def HB_STATUS_OUTCOME : Field := ⟨R.HB_STATUS, 2, 3⟩
def HB_STATUS_OTHER : Field := ⟨R.HB_STATUS, 5, 3⟩
def HB_STATUS_ACTIVE : Field := ⟨R.HB_STATUS, 8, 2⟩
def HB_STATUS_BAD_RECORDS : Field := ⟨R.HB_STATUS, 10, 10⟩
def HB_STATUS_BUSY : Field := ⟨R.HB_STATUS, 20, 1⟩
def HB_GEN_GEN : Field := ⟨R.HB_GEN, 0, 32⟩
def HB_CFG_SLC_PREFIX : Field := ⟨R.HB_CFG, 0, 8⟩
def HB_CFG_SLC_PAGES : Field := ⟨R.HB_CFG, 8, 13⟩
def HB_CFG_EVENT_EN : Field := ⟨R.HB_CFG, 21, 6⟩
def HB_EVENT_COMMIT_DONE : Field := ⟨R.HB_EVENT, 0, 1⟩
def HB_EVENT_COMMIT_FAIL : Field := ⟨R.HB_EVENT, 1, 1⟩
def HB_EVENT_TWIN_ISSUE : Field := ⟨R.HB_EVENT, 2, 1⟩
def HB_EVENT_LOST : Field := ⟨R.HB_EVENT, 3, 1⟩
def HB_EVENT_SEAL_FAIL : Field := ⟨R.HB_EVENT, 4, 1⟩
def HB_EVENT_SEAL_LOCKOUT : Field := ⟨R.HB_EVENT, 5, 1⟩
def HB_COMMIT_TIME_SECONDS : Field := ⟨R.HB_COMMIT_TIME, 0, 32⟩
def HB_X_SINGLE_TWIN : Field := ⟨R.HB_X, 0, 1⟩
def HB_X_LOCKOUT_OFF : Field := ⟨R.HB_X, 1, 1⟩
def SEAL_CFG_SIZE : Field := ⟨R.SEAL_CFG, 0, 7⟩
def SEAL_CFG_USED : Field := ⟨R.SEAL_CFG, 7, 7⟩
def SEAL_SEL_INDEX : Field := ⟨R.SEAL_SEL, 0, 6⟩
def SEAL_VIEW_COMMITTED : Field := ⟨R.SEAL_VIEW, 0, 2⟩
def SEAL_VIEW_LIVE : Field := ⟨R.SEAL_VIEW, 2, 2⟩
def SEAL_VIEW_FAILURES : Field := ⟨R.SEAL_VIEW, 4, 8⟩
def SEAL_VIEW_LOCKOUT : Field := ⟨R.SEAL_VIEW, 12, 17⟩
def SEAL_FIRST_LO_ADDR : Field := ⟨R.SEAL_FIRST_LO, 0, 32⟩
def SEAL_FIRST_HI_ADDR : Field := ⟨R.SEAL_FIRST_HI, 0, 16⟩
def SEAL_LAST_LO_ADDR : Field := ⟨R.SEAL_LAST_LO, 0, 32⟩
def SEAL_LAST_HI_ADDR : Field := ⟨R.SEAL_LAST_HI, 0, 16⟩
def SEAL_LIVE_STATES (i : Nat) : Field := ⟨R.SEAL_LIVE i, 0, 32⟩
def PWR_CTRL_DB_WAKE : Field := ⟨R.PWR_CTRL, 0, 1⟩
def PWR_CTRL_WAKE_TO : Field := ⟨R.PWR_CTRL, 1, 1⟩
def PWR_STATUS_CORE : Field := ⟨R.PWR_STATUS, 0, 2⟩
def PWR_STATUS_DEC : Field := ⟨R.PWR_STATUS, 2, 2⟩
def PWR_STATUS_SRAM : Field := ⟨R.PWR_STATUS, 4, 2⟩
def PWR_DRAM_KEEP_SEGMENTS : Field := ⟨R.PWR_DRAM_KEEP, 0, 8⟩
def PWR_WAKE_CAUSE : Field := ⟨R.PWR_WAKE, 0, 3⟩
def PWR_WAKE_SOURCE : Field := ⟨R.PWR_WAKE, 3, 8⟩
def PWR_WAKE_TIMER_SECONDS : Field := ⟨R.PWR_WAKE_TIMER, 0, 32⟩
def PWR_X_HOLD_DEC_ON : Field := ⟨R.PWR_X, 0, 1⟩
def PWR_X_WATCH_STOP_IMAGE : Field := ⟨R.PWR_X, 1, 1⟩
def PWR_WG_CTRL_TEMP_FA : Field := ⟨R.PWR_WG_CTRL, 0, 8⟩
def PWR_WG_CTRL_TEMP_PERIOD : Field := ⟨R.PWR_WG_CTRL, 8, 8⟩
def PWR_WG_CTRL_EVENT_EN : Field := ⟨R.PWR_WG_CTRL, 16, 5⟩
def PWR_WG_STATUS_HOLD : Field := ⟨R.PWR_WG_STATUS, 0, 32⟩
def PWR_WG_EVENT_VIN_LOW : Field := ⟨R.PWR_WG_EVENT, 0, 1⟩
def PWR_WG_EVENT_TEMP : Field := ⟨R.PWR_WG_EVENT, 1, 1⟩
def PWR_WG_EVENT_TRAIN_ERR : Field := ⟨R.PWR_WG_EVENT, 2, 1⟩
def PWR_WG_EVENT_SENSOR_FAULT : Field := ⟨R.PWR_WG_EVENT, 3, 1⟩
def PWR_WG_EVENT_GUARDED_FAIL : Field := ⟨R.PWR_WG_EVENT, 4, 1⟩
def PWR_WG_X_GUARD_WAIT : Field := ⟨R.PWR_WG_X, 0, 10⟩
def PWR_WG_X_IGNORE_TEMP : Field := ⟨R.PWR_WG_X, 10, 1⟩
def PWR_VIN_MV : Field := ⟨R.PWR_VIN, 0, 12⟩
def PWR_TEMP_JUNCTION : Field := ⟨R.PWR_TEMP, 0, 9⟩
def PWR_TEMP_FAULT_MASK : Field := ⟨R.PWR_TEMP, 9, 8⟩
def PWR_TEMP_CFG_HIGH : Field := ⟨R.PWR_TEMP_CFG, 0, 8⟩
def PWR_TEMP_CFG_EVENT_EN : Field := ⟨R.PWR_TEMP_CFG, 8, 8⟩
def PWR_BND_EVENT_VIN_HIGH : Field := ⟨R.PWR_BND_EVENT, 0, 1⟩
def PWR_BND_EVENT_TEMP_HIGH : Field := ⟨R.PWR_BND_EVENT, 1, 1⟩
def PWR_BND_EVENT_TEMP_CRIT : Field := ⟨R.PWR_BND_EVENT, 2, 1⟩
def PWR_BND_EVENT_SENSOR_FAULT : Field := ⟨R.PWR_BND_EVENT, 3, 1⟩
def PWR_BND_EVENT_AGING_WARN : Field := ⟨R.PWR_BND_EVENT, 4, 1⟩
def PWR_BND_EVENT_XTAL_FAIL : Field := ⟨R.PWR_BND_EVENT, 5, 1⟩
def PWR_BND_EVENT_SR_HOLD : Field := ⟨R.PWR_BND_EVENT, 6, 1⟩
def PWR_BND_EVENT_FAB_TIMEOUT : Field := ⟨R.PWR_BND_EVENT, 7, 1⟩
def PWR_RESET_CAUSE : Field := ⟨R.PWR_RESET, 0, 2⟩
def PWR_AGING_MARGIN (i : Nat) : Field := ⟨R.PWR_AGING i, 0, 10⟩
def PWR_AGING_FRESH (i : Nat) : Field := ⟨R.PWR_AGING i, 10, 10⟩
def PWR_DRAM_SR : Field := ⟨R.PWR_DRAM, 0, 1⟩
def PWR_DRAM_HOLDING : Field := ⟨R.PWR_DRAM, 1, 1⟩
def PWR_CNT_STALL_COUNT : Field := ⟨R.PWR_CNT_STALL, 0, 32⟩
def PWR_CNT_HELD_COUNT : Field := ⟨R.PWR_CNT_HELD, 0, 32⟩
def PWR_BND_X_TEMP_CRIT : Field := ⟨R.PWR_BND_X, 0, 8⟩
def PWR_BND_X_AGING_MIN : Field := ⟨R.PWR_BND_X, 8, 10⟩
def PWR_BND_X_FAB_TIMEOUT : Field := ⟨R.PWR_BND_X, 18, 8⟩
def SEC_STATUS_STATE : Field := ⟨R.SEC_STATUS, 0, 2⟩
def SEC_STATUS_DEBUG : Field := ⟨R.SEC_STATUS, 2, 2⟩
def SEC_STATUS_EXPERT_OPEN : Field := ⟨R.SEC_STATUS, 4, 1⟩
def SEC_STATUS_LOCK_CAUSE : Field := ⟨R.SEC_STATUS, 5, 2⟩
def SEC_STATUS_AUTH_FAILS : Field := ⟨R.SEC_STATUS, 7, 3⟩
def SEC_STATUS_DBG_KEY : Field := ⟨R.SEC_STATUS, 10, 1⟩
def SEC_CTRL_COMMAND : Field := ⟨R.SEC_CTRL, 0, 32⟩
def SEC_EVENT_AUTH_OK : Field := ⟨R.SEC_EVENT, 0, 1⟩
def SEC_EVENT_AUTH_FAIL : Field := ⟨R.SEC_EVENT, 1, 1⟩
def SEC_EVENT_SESSION_END : Field := ⟨R.SEC_EVENT, 2, 1⟩
def SEC_EVENT_LOCKDOWN : Field := ⟨R.SEC_EVENT, 3, 1⟩
def DBG_CTRL_AUTH : Field := ⟨R.DBG_CTRL, 0, 1⟩
def DBG_CTRL_END : Field := ⟨R.DBG_CTRL, 1, 1⟩
def DBG_CTRL_LEVEL : Field := ⟨R.DBG_CTRL, 2, 2⟩
def DBG_CTRL_EVENT_EN : Field := ⟨R.DBG_CTRL, 4, 4⟩
def DBG_TOKEN_LO_ADDR : Field := ⟨R.DBG_TOKEN_LO, 6, 26⟩
def DBG_TOKEN_HI_ADDR : Field := ⟨R.DBG_TOKEN_HI, 0, 16⟩
def DBG_REMAIN_SECONDS : Field := ⟨R.DBG_REMAIN, 0, 32⟩
def DBG_NONCE_BYTES (i : Nat) : Field := ⟨R.DBG_NONCE i, 0, 32⟩
def DBG_WIN_ADDR_WORD : Field := ⟨R.DBG_WIN_ADDR, 0, 23⟩
def DBG_WIN_DATA_BYTES (i : Nat) : Field := ⟨R.DBG_WIN_DATA i, 0, 32⟩
def RT_CTRL_POLL_ONLY (r : Nat) : Field := ⟨R.RT_CTRL r, 0, 1⟩
def RT_CTRL_CACHE_EN (r : Nat) : Field := ⟨R.RT_CTRL r, 1, 1⟩
def RT_CTRL_MULTIPLANE_EN (r : Nat) : Field := ⟨R.RT_CTRL r, 2, 1⟩
def RT_STATUS_STATE (r : Nat) : Field := ⟨R.RT_STATUS r, 0, 2⟩
def RT_STATUS_PROTOCOL (r : Nat) : Field := ⟨R.RT_STATUS r, 2, 1⟩
def RT_STATUS_RBN_FALLBACK (r : Nat) : Field := ⟨R.RT_STATUS r, 3, 1⟩
def RT_STATUS_WP (r : Nat) : Field := ⟨R.RT_STATUS r, 4, 1⟩
def RT_STATUS_FAULT_MASK (r : Nat) : Field := ⟨R.RT_STATUS r, 16, 16⟩
def RT_EVENT_TIMEOUT (r : Nat) : Field := ⟨R.RT_EVENT r, 0, 1⟩
def RT_EVENT_RBN_FAULT (r : Nat) : Field := ⟨R.RT_EVENT r, 1, 1⟩
def RT_EVENT_DIE_FAULT (r : Nat) : Field := ⟨R.RT_EVENT r, 2, 1⟩
def RT_EVENT_PROTOCOL_ERR (r : Nat) : Field := ⟨R.RT_EVENT r, 3, 1⟩
def RT_EVENT_PARAM_MISMATCH (r : Nat) : Field := ⟨R.RT_EVENT r, 4, 1⟩
def RT_EVENT_EN_EN (r : Nat) : Field := ⟨R.RT_EVENT_EN r, 0, 5⟩
def RT_POLL_FIRST_PCT (r : Nat) : Field := ⟨R.RT_POLL r, 0, 8⟩
def RT_POLL_INTERVAL (r : Nat) : Field := ⟨R.RT_POLL r, 8, 8⟩
def RT_POLL_LONG_INTERVAL (r : Nat) : Field := ⟨R.RT_POLL r, 16, 8⟩
def RT_VCMD_PROG_SUSPEND (r : Nat) : Field := ⟨R.RT_VCMD r, 0, 8⟩
def RT_VCMD_ERASE_SUSPEND (r : Nat) : Field := ⟨R.RT_VCMD r, 8, 8⟩
def RT_VCMD_RESUME (r : Nat) : Field := ⟨R.RT_VCMD r, 16, 8⟩
def RT_VCMD_THRESH_FA (r : Nat) : Field := ⟨R.RT_VCMD r, 24, 8⟩
def RT_DIE_STATE (r i : Nat) : Field := ⟨R.RT_DIE r i, 0, 4⟩
def RT_DIE_HELD (r i : Nat) : Field := ⟨R.RT_DIE r i, 4, 2⟩
def RT_DIE_SUSPENDS (r i : Nat) : Field := ⟨R.RT_DIE r i, 8, 4⟩
def RT_DIE_BLOCK_GROUP (r i : Nat) : Field := ⟨R.RT_DIE r i, 12, 3⟩
def RT_DIE_TIMEOUTS (r i : Nat) : Field := ⟨R.RT_DIE r i, 16, 8⟩
def RT_DIE_FAULT_CAUSE (r i : Nat) : Field := ⟨R.RT_DIE r i, 24, 4⟩
def RT_CNT_READ_COUNT (r : Nat) : Field := ⟨R.RT_CNT_READ r, 0, 32⟩
def RT_CNT_MPLANE_COUNT (r : Nat) : Field := ⟨R.RT_CNT_MPLANE r, 0, 32⟩
def RT_CNT_CACHE_COUNT (r : Nat) : Field := ⟨R.RT_CNT_CACHE r, 0, 32⟩
def RT_CNT_PROGRAM_COUNT (r : Nat) : Field := ⟨R.RT_CNT_PROGRAM r, 0, 32⟩
def RT_CNT_ERASE_COUNT (r : Nat) : Field := ⟨R.RT_CNT_ERASE r, 0, 32⟩
def RT_CNT_SUSPEND_COUNT (r : Nat) : Field := ⟨R.RT_CNT_SUSPEND r, 0, 32⟩
def RT_CNT_PARKED_COUNT (r : Nat) : Field := ⟨R.RT_CNT_PARKED r, 0, 32⟩
def RT_SEQ_X_TMO_MULT (r : Nat) : Field := ⟨R.RT_SEQ_X r, 0, 4⟩
def RT_SEQ_X_MERGE_WAIT (r : Nat) : Field := ⟨R.RT_SEQ_X r, 4, 8⟩
def RT_SEQ_X_CACHE_SERIES_MAX (r : Nat) : Field := ⟨R.RT_SEQ_X r, 12, 7⟩
def RT_PHY_CTRL_DOWN_REQ (r : Nat) : Field := ⟨R.RT_PHY_CTRL r, 0, 1⟩
def RT_PHY_CTRL_RECAL_NOW (r : Nat) : Field := ⟨R.RT_PHY_CTRL r, 1, 1⟩
def RT_PHY_CTRL_EVENT_EN (r : Nat) : Field := ⟨R.RT_PHY_CTRL r, 2, 6⟩
def RT_PHY_STATUS_RATE (r : Nat) : Field := ⟨R.RT_PHY_STATUS r, 0, 13⟩
def RT_PHY_STATUS_DFE_ON (r : Nat) : Field := ⟨R.RT_PHY_STATUS r, 13, 1⟩
def RT_PHY_STATUS_MOD_PRESENT (r : Nat) : Field := ⟨R.RT_PHY_STATUS r, 14, 1⟩
def RT_PHY_STATUS_VCCQ_GOOD (r : Nat) : Field := ⟨R.RT_PHY_STATUS r, 15, 1⟩
def RT_PHY_STATUS_RELIEF_POS (r : Nat) : Field := ⟨R.RT_PHY_STATUS r, 16, 4⟩
def RT_PHY_STATUS_RELIEF_CARRYING (r : Nat) : Field := ⟨R.RT_PHY_STATUS r, 20, 1⟩
def RT_PHY_STATUS_RETIRED (r : Nat) : Field := ⟨R.RT_PHY_STATUS r, 21, 1⟩
def RT_PHY_STATUS_SAFE_TO_REMOVE (r : Nat) : Field := ⟨R.RT_PHY_STATUS r, 22, 1⟩
def RT_PHY_STATUS_DOWN_CAUSE (r : Nat) : Field := ⟨R.RT_PHY_STATUS r, 23, 3⟩
def RT_PHY_EVENT_LANE_RETIRED (r : Nat) : Field := ⟨R.RT_PHY_EVENT r, 0, 1⟩
def RT_PHY_EVENT_RECAL_FAIL (r : Nat) : Field := ⟨R.RT_PHY_EVENT r, 1, 1⟩
def RT_PHY_EVENT_ROUTE_DOWN (r : Nat) : Field := ⟨R.RT_PHY_EVENT r, 2, 1⟩
def RT_PHY_EVENT_XRATE_REFUSED (r : Nat) : Field := ⟨R.RT_PHY_EVENT r, 3, 1⟩
def RT_PHY_EVENT_MOD_CHANGE (r : Nat) : Field := ⟨R.RT_PHY_EVENT r, 4, 1⟩
def RT_PHY_EVENT_TRAIN_FAIL (r : Nat) : Field := ⟨R.RT_PHY_EVENT r, 5, 1⟩
def RT_XRATE_FA (r : Nat) : Field := ⟨R.RT_XRATE r, 0, 8⟩
def RT_XRATE_VALUE (r : Nat) : Field := ⟨R.RT_XRATE r, 8, 8⟩
def RT_TRAIN_ERR_COUNT (r : Nat) : Field := ⟨R.RT_TRAIN_ERR r, 0, 16⟩
def RT_TRAIN_ERR_LAST (r : Nat) : Field := ⟨R.RT_TRAIN_ERR r, 16, 16⟩
def RT_RECAL_PERIOD (r : Nat) : Field := ⟨R.RT_RECAL r, 0, 8⟩
def RT_RECAL_TEMP_STEP (r : Nat) : Field := ⟨R.RT_RECAL r, 8, 4⟩
def RT_RECAL_LANE (r : Nat) : Field := ⟨R.RT_RECAL r, 12, 4⟩
def RT_RECAL_COUNT (r : Nat) : Field := ⟨R.RT_RECAL r, 16, 16⟩
def RT_LANE_OFFSET (r i : Nat) : Field := ⟨R.RT_LANE r i, 0, 8⟩
def RT_LANE_EYE (r i : Nat) : Field := ⟨R.RT_LANE r i, 8, 8⟩
def RT_LANE_STATE (r i : Nat) : Field := ⟨R.RT_LANE r i, 16, 2⟩
def RT_LANE_DFE (r i : Nat) : Field := ⟨R.RT_LANE r i, 18, 6⟩
def RT_LANE_FAILS (r i : Nat) : Field := ⟨R.RT_LANE r i, 24, 8⟩
def RT_DESKEW_READ (r i : Nat) : Field := ⟨R.RT_DESKEW r i, 0, 7⟩
def RT_DESKEW_WRITE (r i : Nat) : Field := ⟨R.RT_DESKEW r i, 8, 7⟩
def RT_PHY_X_MIN_EYE (r : Nat) : Field := ⟨R.RT_PHY_X r, 0, 6⟩
def RT_PHY_X_SAMPLES (r : Nat) : Field := ⟨R.RT_PHY_X r, 8, 8⟩
def RT_PHY_X_FORCE_GAP (r : Nat) : Field := ⟨R.RT_PHY_X r, 16, 8⟩
end F

end Sys2Proof.Machine
end

