-- ==== Sys2Proof/Machine/State.lean ====
section
/-! DEFINITION. The state of the controller as plain data, the reasons a step can stop, and the state after reset. -/

namespace Sys2Proof.Machine

/-- Why a step stops with a fault: no command does. -/
inductive Fault where
  deriving DecidableEq, Repr

/-- Why a step is refused. -/
inductive Refusal where
  /-- The row has no meaning yet; raised only by a refused arm of the dispatch. Safe. -/
  | notModelled (mnemonic : String)
  deriving DecidableEq, Repr

/-- What leaves the block (R371), in order. A die command carries its command bytes and, in order, the page addresses and columns
that it names; `train` is the training sequence of a step of Table 5-3 on a chip enable, as the dies' standard gives it (Table 3-1); while
`routePower` is off the route's outputs are driven low (R114). A DRAM write is one piece of R380 with the sideband symbols of its 16-byte
units (R273), at port `FAB0` or `FAB1` by bit 9 of its address (R383). -/
inductive Output where
  | regData (off : Nat) (v : W32)
  | regError (off : Nat)
  | dieCmd (r d : Nat) (cmd : Bytes) (addrs : List Nat)
  | dieData (r d plane : Nat) (data : Bytes)
  | fabWrite (addr : Nat) (data side : Bytes)
  | present (c vec : Nat) (fast : Bool)
  | withdraw (c : Nat)
  | pmWake (c : Nat)
  | dramKeep (segments : Nat)
  | alive (level : Bool)
  | relief (r v : Nat)
  | routePower (r : Nat) (on : Bool)
  | train (r ce step : Nat)
  deriving DecidableEq, Repr

/-! ### Fuses, boundary, mode, security -/

/-- The fuses (R362, R40, R43, R364, R377); what a part's fuses hold is log 3. -/
structure Fuses where
  sealBlown : Bool := false
  keys : List Bytes := [[], [], [], []]
  revoked : Nat := 0
  origin : Nat := 0
  dbgKey : Bytes := []
  fresh : List Nat := [0, 0, 0, 0]
  deriving DecidableEq, Repr

/-- Supply, sensors, clocks and the DRAM ports as the controller sees them (R372, R373, R375, R381, R382, R384): `critRun` and
`coolMs` count samples, `stalled` holds per port the mask of the routes whose credits are paused. -/
structure Bnd where
  vinUv : Nat := 1800000
  vinLow : Bool := false
  vinHigh : Bool := false
  critRun : Nat := 0
  coolMs : Nat := 0
  wasBelow : Bool := true
  xtalOk : Bool := true
  timeRefOk : Bool := true
  stalled : List Nat := [0, 0]
  held : List Output := []
  alive : Bool := false
  supplyGood : Bool := true
  resetN : Bool := true
  railsGood : Bool := true
  deriving DecidableEq, Repr

/-- A mode request as it crossed (R348). -/
structure ModeReq where
  mode : Nat
  ackLoss : Bool
  pm : Bool
  deriving DecidableEq, Repr

/-- The mode controller beside `ENS_MODE` and `ENS_MODE_REQ` (R346 to R353). -/
structure ModeCtl where
  target : Option Nat := none
  beforeQuiesce : Nat := 4
  held : Option ModeReq := none
  watchImage : Bool := false
  keptDigest : Bytes := []
  deriving DecidableEq, Repr

/-- Expert access, the debug session and the lockdown latch beside `ENS_SEC_STATUS` (R12, R362 to R368). -/
structure Sec where
  nonceFrom : Option Nat := some 0
  heldWrites : List (Nat × W32) := []
  deriving DecidableEq, Repr

/-! ### Structure image -/

/-- A geometry class (Table 2-3). -/
structure Geo where
  blocks : Nat := 0
  pages : Nat := 0
  planes : Nat := 1
  ext : Nat := 0
  tR : Nat := 0
  tProg : Nat := 0
  tBers : Nat := 0
  low : Int := 0
  high : Int := 0
  deriving DecidableEq, Repr

/-- A ROUTE section (Table 2-3). -/
structure RouteCfg where
  dies : Nat := 0
  rate : Nat := 0
  relief : Nat := 0
  errLimit : Nat := 0
  classes : Nat := 0
  deriving DecidableEq, Repr

/-- The fields of a structure image (Tables 2-1 and 2-3). -/
structure ImgCfg where
  gen : Nat := 0
  slot : Nat := 0
  factory : Bool := false
  mask : Nat := 0
  geos : List Geo := []
  routes : List RouteCfg := []
  cores : List Nat := []
  floor : List Nat := []
  layouts : List (List Nat) := []
  maxSq : Nat := 64
  maxCq : Nat := 64
  quota : Nat := 16
  maxRing : Nat := 12
  notices : Bytes := []
  mapOrder : Nat := 0
  tol : Nat := 3
  floorShare : Nat := 20
  round : Nat := 168
  lap : Nat := 3600
  origin : Nat := 0
  beacon : Nat := 100
  stepPermit : Nat := 0
  deriving DecidableEq, Repr

/-- Staging, the active image and an apply in progress (R45, R51 to R58). The MAINT-class fields of a route take effect with
its re-image: `eff` holds the route values in force. -/
structure Img where
  staging : Bytes := []
  active : Bytes := []
  cfg : ImgCfg := {}
  effMask : Nat := 0
  eff : List RouteCfg := List.replicate 32 {}
  draining : List Nat := []
  boundary : Bool := false
  deriving DecidableEq, Repr

/-! ### Notice office -/

/-- One core's side of the notice office (R251 to R257, R260). -/
structure NtcCore where
  stack : List (Nat × Nat) := []
  frozen : Bool := false
  idle : Bool := false
  popping : Bool := false
  presented : Option Nat := none
  fast : Bool := false
  deriving DecidableEq, Repr

/-- The notice office beside its registers (R249 to R260). -/
structure Ntc where
  cores : Tbl NtcCore := []
  counts : Tbl Nat := []
  timing : List Nat := []
  released : List Nat := []
  redirected : List Nat := []
  stranded : List Nat := []
  zeroTarget : Nat := 0
  deriving DecidableEq, Repr

/-! ### Postmarks -/

/-- A peer slot's last sequence and its run of reads without a new one (R319). -/
structure Peer where
  seq : Option Nat := none
  misses : Nat := 0
  deriving DecidableEq, Repr

/-- The postmark counter and its discipline (R310 to R316): seconds, nanoseconds and a 32-bit fraction; `f` and `r` in
2^-15 ppb; the remaining slew in 2^-32 ns. -/
structure Pm where
  sec : Nat := 0
  ns : Nat := 0
  frac : Nat := 0
  own : Nat := 0
  f : Int := 0
  r : Int := 0
  slew : Nat := 0
  lockRun : Nat := 0
  refusing : Bool := false
  firstEdge : Bool := true
  stepNs : Nat := 0
  peers : Tbl Peer := []
  deriving DecidableEq, Repr

/-! ### Queues -/

/-- A fetched entry: its slot, its bytes, and the stop cause 5 or 6 of a failed fetch (R208, R212). -/
structure Cached where
  slot : Nat
  bytes : Bytes
  bad : Nat := 0
  deriving DecidableEq, Repr

/-- A submission queue (R203 to R223). `batches` are the handed-over runs, oldest first: stamp and slots not yet admitted; `order` the
descriptors that hold an entry, in ring order; `fetching` the fetches under way for the slots behind the cached ones, `stale` the slots of
those before them whose data is discarded (R209); `mailHeld` what is left to write of a closed batch (R219), `closedAt` when a timeout
closed it and `frontAt` when the present front of `order` became the next to write, as numbers of `State.fresh` (R217); `skip` the SQs
that were stopped when the present head became the head (R214). -/
structure SQ where
  base : Nat := 0
  k : Nat := 4
  cq : Nat := 0
  quota : Nat := 16
  head : Nat := 0
  tail : Nat := 0
  count : Nat := 0
  cache : List Cached := []
  fetching : Nat := 0
  stale : List Nat := []
  ownWait : Bool := false
  stopped : Bool := false
  deleting : Bool := false
  batches : List (Nat × Nat) := []
  order : List Nat := []
  mailHeld : Nat := 0
  closedAt : Nat := 0
  frontAt : Nat := 0
  skip : List Nat := []
  deriving DecidableEq, Repr

/-- A completion queue (R203, R215 to R221). `batch` is the SQ of which a batch is being written (R219); `inflight` is the write not yet
acknowledged: the SQ, whether a notice follows it, its address and its bytes (R218, R383). -/
structure CQ where
  base : Nat := 0
  k : Nat := 4
  notice : Nat := 0
  head : Nat := 0
  tail : Nat := 0
  phase : Bool := true
  fault : Bool := false
  batch : Option Nat := none
  inflight : Option (Nat × Bool × Nat × Bytes) := none
  deriving DecidableEq, Repr

/-- The queue engine beside its registers (R202 to R225); `owns` are the SQs of the OWN-clearing writes that are not acknowledged yet,
oldest first (R217, R383). -/
structure Qe where
  sqs : Tbl (Option SQ) := []
  cqs : Tbl (Option CQ) := []
  ptr : Nat := 1
  stamp : Nat := 0
  owns : List Nat := []
  deriving DecidableEq, Repr

/-! ### Descriptors and envelope work -/

/-- What one envelope of a descriptor ended with: status, outcome code and header content (R232). -/
structure EnvRes where
  status : Nat
  outcome : Nat := 7
  content : Bytes := []
  payload : Bytes := []
  deriving DecidableEq, Repr

/-- An admitted descriptor from admission until its completion is written (R210, R217, R228 to R243). `gone` are the
dies served as retired ones at its admission (R303), `pages` the pages still to program, `doneAt` when its status was decided, as a
number of `State.fresh` (R217); `tol`, `share` and `limits` (the greatest numbers of
queues, the longest ring and the default quota) are those of the image in force at its admission (R55); `late` is what the checks of R84 gave
a PROGRAM or PROGRAM_STRIPE, whose metadata is checked before them (R230); `epoch` the range epoch of its lookups (R279). -/
structure Desc where
  id : Nat
  sq : Nat
  bytes : Bytes
  admitNs : Nat
  started : Bool := false
  status : Option Nat := none
  count : Nat := 0
  results : List (Option EnvRes) := []
  pages : List (Nat × List Bytes) := []
  gone : List Nat := []
  handed : Nat := 0
  doneAt : Nat := 0
  bufferFault : Bool := false
  guarded : Bool := false
  tol : Nat := 3
  share : List Nat := []
  limits : List Nat := []
  late : Option Nat := none
  epoch : Nat := 0
  mapWait : Bool := false
  deriving DecidableEq, Repr

/-- Where an envelope's outcome goes: an entry of a descriptor, a stream of a scan's position, a member of a reconstruction,
patrol, a slot of a rebuild, a whole raw page (R240), or the `k`-th read of a calibration (R163). -/
inductive Dest where
  | desc (id i : Nat)
  | scan (id pos stream : Nat)
  | member (ctx m : Nat)
  | patrol
  | rebuild (entry slot : Nat)
  | raw (id : Nat)
  | cal (id k : Nat)
  deriving DecidableEq, Repr

/-- Who asked for a die operation: a submission queue's descriptor (0 is the admin queue), or the controller (R74, R397). -/
inductive Origin where
  | queue (sq : Nat)
  | patrol
  | rebuild
  | recovery
  | relocation
  deriving DecidableEq, Repr

/-- Where an envelope job stands: its read waits for the die, is in the die, was received and waits for a core, decodes, waits
for the choice of its ladder step, waits for a reconstruction context, or is in one. -/
inductive JobPhase where
  | waitDie
  | inDie
  | received
  | decoding (core : Nat)
  | ladderWait
  | waitCtx
  | inCtx
  deriving DecidableEq, Repr

/-- One envelope being read (R17, R141, R159): its address, where its outcome goes and how far it has come. `ord` is its place
in admission order (R77); `rd` the array read that brought it and `centre` the thresholds of that read; `reads` the raw
envelopes held, the centre read first; `issued` the thresholds of its last array read; `regs` the read channel's registers as they stood
when its read was issued (`State.rcRegs`); `why` the status it ends with where nothing covers it; `llr` the LLR table of its
decode (R156); `outIn` that it holds an output staging credit of its route (R18); `hdrDone` that its header is in and its requester has
not decided on it yet; `again` that the envelope is taken again after its stored copy was lost (R268). -/
structure Job where
  id : Nat
  ord : Nat
  addr : Nat
  dest : Dest
  origin : Origin
  phase : JobPhase := .waitDie
  header : Bool := false
  ladder : Bool := true
  recon : Bool := true
  phUse : Bool := false
  step : Nat := 0
  tries : Nat := 0
  epoch : Nat := 0
  offGroup : Bool := false
  adjusted : Bool := false
  moved : Bool := false
  estWait : Bool := false
  rd : Nat := 0
  issued : List Int := []
  centre : List Int := []
  regs : List (Nat × Nat) := []
  rber : Nat := 0
  reads : List Bytes := []
  why : Nat := 0x010
  decIn : Bool := false
  outIn : Bool := false
  content : Option Bytes := none
  hdrOutcome : Nat := 7
  hdrDone : Bool := false
  llr : Nat := 3
  again : Bool := false
  deriving DecidableEq, Repr

/-! ### Dies and routes -/

/-- What a program or erase is for, and where its outcome goes. `eraseAhead` is a re-erase ahead of the program with that number
(R110), `eraseGuarded` one of R111. -/
inductive Purpose where
  | progDesc (id : Nat)
  | progRow (row member : Nat)
  | progSpare
  | progRebuild (entry : Nat)
  | progHome
  | eraseDesc (id : Nat)
  | eraseAhead (op : Nat)
  | eraseGuarded
  | eraseSpare
  | eraseRebuild (entry : Nat)
  | eraseHome
  deriving DecidableEq, Repr

/-- A die operation (R63, R67, R100). `cls` is 1 read, 2 program, 3 erase; `ord` its place in admission order (R77); `pages` are
the page addresses on the bus (block addresses for an erase) in plane order; `base` the thresholds of a read that is not taken
at the live values, `version` the threshold version it is taken at; `step` the bracket step of an erase: 0 not begun, 1 INTENT, 2
erase, 3 DONE, 5 to 7 the ledger switch's INTENT, erase and DONE, 8 and 9 the erases of a lost ledger's two blocks; `running` that the
step's command is under way; `erased` that the erase's own status has been taken; `switch` that it re-erases the standby ledger block
of a switch (R108). `polled`, `vcmd`, `susp` and `suspX` are POLL_ONLY, `ENS_RT_VCMD`, `ENS_FI_SUSP` and `ENS_FI_SUSP_X` as they stood
when it started (R81). -/
structure DieOp where
  id : Nat
  ord : Nat
  cls : Nat
  origin : Origin
  pages : List Nat
  purpose : List Purpose := []
  jobs : List Nat := []
  data : List Bytes := []
  base : Option (List Int) := none
  version : Nat := 0
  join : Bool := true
  step : Nat := 0
  running : Bool := false
  noLedger : Bool := false
  failed : Bool := false
  erased : Bool := false
  switch : Bool := false
  polled : Bool := false
  vcmd : Nat := 0
  susp : Nat := 0
  suspX : Nat := 0
  rangeWait : Bool := false
  mapWait : Bool := false
  recovery : Bool := false
  suspends : Nat := 0
  merging : Bool := false
  guardWait : Bool := false
  deriving DecidableEq, Repr

/-- The bus activity a die waits for (Table 3-3). -/
inductive BusAct where
  | suspend
  | resume
  | reset
  | feature (group : Nat) (vals : List Int)
  | temp
  | read
  | cacheRead
  | cacheEnd
  | header
  | dataOut
  | progData (plane : Nat)
  | confirm
  | eraseCmd
  deriving DecidableEq, Repr

/-- The erase-intent ledger of a die as the controller keeps it (R98 to R102): which block of the pair is active (0 is B - 1), its
next free page, the generation of the die's last entry, whether TRAIN must treat it as lost, and whether the two blocks of a lost one
are still to be erased (R109). -/
structure Ledger where
  active : Nat := 0
  next : Nat := 0
  gen : Nat := 0
  lost : Bool := false
  due : Bool := false
  deriving DecidableEq, Repr

/-- One die beside `ENS_RT_DIE[d]` (R62 to R79, R94, R95, R149): the operation in it, the page a cache series loads next, the
suspended operation, the job whose transfer runs (`moving`) with those that follow it in the same data-out (`run`), the data-out's first
envelope and its number of envelopes (R140), `ENS_RC_ENV_CTRL` and `ENS_RC_ENV_X` as they stood when the transfer started (R146, R147),
the thresholds last written, its last temperature, and the rebuild time of
its present window in µs (R305), and whether it becomes RETIRED once the operation in it has ended (R300). `tempDue` is the answer of a
temperature read that has fallen due and `tempSince` its turn on the bus, `tempRun` that of the one under way (R95). -/
structure Die where
  op : Option DieOp := none
  next : Option DieOp := none
  held : Option DieOp := none
  moving : Option Nat := none
  run : List Nat := []
  runAt : Nat := 0
  runLen : Nat := 0
  envCtrl : Nat := 0
  envX : Nat := 0
  parked : Bool := false
  ready : Bool := false
  series : Nat := 0
  want : Option BusAct := none
  since : Nat := 0
  ptrs : List Nat := [0, 0, 0]
  minRun : Bool := false
  holdMax : Bool := false
  written : List Int := []
  ledger : Ledger := {}
  temp : Option Int := none
  tempOut : Bool := false
  tempBad : Bool := false
  tempDue : Option Byte := none
  tempSince : Nat := 0
  tempRun : Option Byte := none
  rebuilt : Nat := 0
  retiring : Bool := false
  deriving DecidableEq, Repr

/-- A route's recalibration pass (R119 to R121): its lane, the phase (0 the lane's start waits for a gap on the bus, 1 A, 2 C, 3 bursts
alone), and MIN_EYE as it stood when the running sweep started (R128). -/
structure Recal where
  lane : Nat := 0
  phase : Nat := 0
  minEye : Nat := 16
  deriving DecidableEq, Repr

/-- One route beside its registers (R61 to R79, R117 to R126). `train` is the step of Table 5-3 that runs, 0 for none: 16 to 18 are
steps 6 to 8 at the full rate, 26 to 28 those repeated at 3600 MT/s, 12 the ledger scan, 13 the re-erases of R110. `overRuns`: 1 the
monitor's pass runs, 2 it ended in this window, 3 the window after it runs. `minEye` is MIN_EYE as it stood when the running step started
(R128), `resetBad` the dies whose RESET timed out in this training (R79), `before` the image values in force, and whether they populate
the route, until its re-image completes (R58). -/
structure Route where
  train : Nat := 0
  minEye : Nat := 16
  resetBad : List Nat := []
  before : Option (RouteCfg × Bool) := none
  reimage : Option Nat := none
  retrain : Bool := false
  recal : Option Recal := none
  passTemp : Int := 0
  burst : Bool := false
  overRuns : Nat := 0
  drainDown : Bool := false
  drainImage : Bool := false
  drainRetrain : Bool := false
  drained : Bool := false
  deriving DecidableEq, Repr

/-- An open stripe row (R88 to R93). `filled` are the data positions in order: content fields and payload; `waits` the
descriptors that complete with the row, each with its count; `members` each member's status once taken; `due` the descriptor that
filled it last. -/
structure Row where
  id : Nat
  layout : Nat
  base : Nat
  page : Nat
  opener : Nat
  filled : List (Bytes × Bytes) := []
  waits : List (Nat × Nat) := []
  started : List Nat := []
  members : List (Nat × Nat) := []
  mapAck : Bool := true
  due : Nat := 0
  deriving DecidableEq, Repr

/-- The sequencers' common state: waiting operations in admission order, `ahead` the programs that wait for a re-erase ahead of them
(R110), `staging` the read output staging credits of a route (R18: the spec gives no number, log 79), open rows, the incomplete-erase
set with the blocks that TRAIN left there, and running numbers. -/
structure Seq where
  dies : Tbl Die := []
  routes : Tbl Route := []
  waiting : List DieOp := []
  ahead : List DieOp := []
  staging : Nat := 32
  jobs : List Job := []
  rows : List Row := []
  incomplete : List Nat := []
  fromTrain : List Nat := []
  overflow : Bool := false
  scanned : List Nat := []
  nextId : Nat := 1
  deriving DecidableEq, Repr

/-! ### Read channel -/

/-- One read of a calibration (R163): the page, its sample wordline, page type and sweep offset (none for a centre read), and the raw
page as far as it is in; `erased` says that an envelope of it tested erased. -/
structure CalRead where
  page : Nat
  line : Nat
  ptype : Nat
  off : Option Int
  raw : Bytes := []
  erased : Bool := false
  deriving DecidableEq, Repr

/-- A calibration in progress (R162 to R166): its die, group, live values and read channel registers when it started, the sample wordlines
that remain, the reads, the tolerance at its admission, and the status a failed read ends it with. -/
structure Cal where
  desc : Nat
  die : Nat
  group : Nat
  live : List Int
  regs : List (Nat × Nat) := []
  lines : List (Nat × Nat)
  sweeping : Bool := false
  reads : List CalRead := []
  tol : Nat := 0
  bad : Option Nat := none
  deriving DecidableEq, Repr

/-- The pilots of one array read (R151): the read, its die, group, page type and threshold version, the read channel's registers when it
was issued, per pooled envelope its address and raw pilots, and whether its last envelope has been received. -/
structure Pool where
  rd : Nat
  die : Nat
  group : Nat
  ptype : Nat
  version : Nat
  regs : List (Nat × Nat) := []
  pilots : List (Nat × Nat) := []
  closed : Bool := false
  deriving DecidableEq, Repr

/-- The read channel beside its registers (R149 to R171). Records, drift and versions are keyed 8 (16 r + d) + g; `era` counts the changes
of every group's live values at once. -/
structure Rc where
  records : Tbl Bytes := []
  drift : Tbl (List Int) := []
  versions : Tbl Nat := []
  era : Nat := 0
  pools : List Pool := []
  retired : List Nat := []
  subst : List Nat := []
  cores : Tbl (Option Nat) := []
  corePtr : Nat := 0
  cut : List Nat := []
  decQueue : List Nat := []
  cals : List Cal := []
  badModel : List Nat := []
  deriving DecidableEq, Repr

/-! ### Sorting office -/

/-- One position of a scan (R179 to R196): its key is 2^32 times the item index plus the envelope index. `res` holds each stream's
final read, `hdrs` its header outcome (R145, R232) and content. `outcome`: 0 undecided, 1 skipped by zone or count 0, 2 by the
window, 3 erased, 4 aggregated from the header, 5 evaluated, 6 failing, 7 waiting for its lane. `taken` slots are held. -/
structure Position where
  key : Nat
  item : Nat
  env : Nat
  addrs : List Nat
  route : Nat := 0
  last : Bool := false
  admitted : Bool := false
  res : List (Option EnvRes) := []
  hdrs : List (Option (Nat × Bytes)) := []
  outcome : Nat := 0
  status : Nat := 0
  cause : Nat := 0
  failAt : Nat := 0
  rows : List Nat := []
  taken : Nat := 0
  deriving DecidableEq, Repr

/-- An admitted SCAN (R174 to R198): its plan, output buffer and capacity, the floor shares at its admission (R395), where it starts, the
blocks its items name, `ENS_SO_X` as it stood at the start, the positions not retired, and what it has written and counted. `sat` holds
the saturation flags of Table 8-6, `seen` the statuses that count (R193), `fail` the first failure, `stop` where it stopped. -/
structure Scan where
  id : Nat
  plan : Bytes
  buffer : Nat
  capacity : Nat
  share : List Nat := []
  first : Nat × Nat := (0, 0)
  blocks : List Nat := []
  active : Bool := false
  x : Nat := 0
  nextItem : Nat := 0
  positions : List Position := []
  out : Nat := 64
  records : Nat := 0
  tally : List Nat := [0, 0, 0, 0, 0, 0, 0]
  recon : Nat := 0
  rows : Nat := 0
  count : Nat := 0
  sum : Int := 0
  sumSq : Nat := 0
  minMax : Option (Int × Int) := none
  sat : Nat := 0
  seen : List Nat := []
  fail : Option Nat := none
  partialEnd : Bool := false
  stop : Option (Nat × Nat) := none
  deriving DecidableEq, Repr

/-- The sorting office beside its registers (R194 to R199): `requests` are the (route, scan) pairs that wait for shared slots, oldest
first; `laneOf` the spare or other lane that serves the routes of a retired one. -/
structure So where
  scans : List Scan := []
  requests : List (Nat × Nat) := []
  laneBad : List Nat := []
  laneOf : Tbl Nat := []
  deriving DecidableEq, Repr

/-! ### Memories -/

/-- A pigeonhole line (R275): one that is not valid keeps what its words held. -/
structure Line where
  addr : Nat := 0
  content : Bytes := []
  payload : Bytes := []
  valid : Bool := false
  waiting : Bool := false
  locked : Bool := false
  epoch : Nat := 0
  used : Nat := 0
  deriving DecidableEq, Repr

/-- A listed range (R278): its dies and their blocks, none for whole dies. -/
structure Range where
  epoch : Nat
  dies : List Nat
  blocks : Option (List Nat)
  walked : Bool := false
  deriving DecidableEq, Repr

/-- The pigeonholes (R275 to R280); `streams` holds per die the last page and the run of R277. -/
structure Ph where
  lines : Tbl Line := []
  epoch : Nat := 0
  ranges : List Range := []
  streams : Tbl (Nat × Nat) := []
  clock : Nat := 0
  deriving DecidableEq, Repr

/-- SRAM at the symbol level (R263 to R272): words the debug window wrote outside the pigeonholes, the error patterns (18
symbols) in stored words and in spares, pending write-backs (word, symbol, what miscorrection left in the data), positions
cured by a write-back, hard faults, each bank's failed macro, the scrub cursors with the banks that ended the lap, the SQs
whose lost cache copies are being fetched again, and whether a sorting floor slot has been used since the self-test (R272). -/
structure Mi where
  data : Tbl (Option Nat) := []
  err : Tbl Nat := []
  spareErr : Tbl Nat := []
  backs : List (Nat × Nat × Nat) := []
  cured : List (Nat × Nat) := []
  hard : List (Nat × Nat) := []
  failed : Tbl (Option Nat) := []
  cursors : Tbl Nat := []
  lapBanks : List Nat := []
  redo : List Nat := []
  floorUsed : Bool := false
  deriving DecidableEq, Repr

/-! ### Flash integrity -/

/-- A member's contribution to a reconstruction (R289). -/
inductive Member where
  | erased
  | present (message : Bytes)
  | lost
  deriving DecidableEq, Repr

/-- A reconstruction context (R291). -/
structure Ctx where
  id : Nat
  job : Nat
  layout : Nat
  target : Nat
  position : Nat
  results : List (Option Member) := []
  forRebuild : Bool := false
  deriving DecidableEq, Repr

/-- A patrol or rebuild finding whose letter is not made yet (R295, R299): its status, the reconstruction's code and missing members,
the header content known, the payload to relocate, the letter's kind once decided (0 before), its new address, the round, and
whether its poison entry falls away (a ledger or home block). -/
structure Finding where
  addr : Nat
  byRebuild : Bool
  status : Nat
  code : Nat := 0
  missing : Nat := 0
  content : Option Bytes := none
  payload : Bytes := []
  kind : Nat := 0
  newAddr : Nat := 0
  ready : Bool := false
  round : Nat := 0
  deriving DecidableEq, Repr

/-- A running rebuild (R302 to R305): its entry, source and target, the entry's word before, the base block and the next one,
those skipped for a failed map read, whether its blocks are erased, whether work is out, the covering layout, the row page and its
slots as reconstructed (status, content, payload). -/
structure Rebuild where
  entry : Nat
  source : Nat
  target : Nat
  inPlace : Bool
  previous : Nat
  base : Nat := 0
  after : Nat := 0
  redo : List Nat := []
  erased : Bool := false
  busy : Nat := 0
  layout : Option Nat := none
  page : Nat := 0
  slots : List (Option (Nat × Bytes × Bytes)) := []
  deriving DecidableEq, Repr

/-- Flash integrity beside its registers (R286 to R307). `cursors` are the dies' patrol positions in the round, `erasedSeen` how many
envelopes of a die's last patrol page tested erased; `rounds` that a round has been started, `relocating` that a relocation is out;
`letters` wait without their phase; `writing` a letter write that is out, `dlFailed` one that failed; `mapWrites` the descriptors whose
map line writes are out, oldest first. -/
structure Fi where
  poison : List Nat := []
  cursors : Tbl Nat := []
  erasedSeen : Tbl Nat := []
  roundOn : Bool := false
  rounds : Bool := false
  relocating : Bool := false
  ctxs : List Ctx := []
  findings : List Finding := []
  letters : List Bytes := []
  dlBase : Nat := 0
  dlK : Nat := 4
  writing : Bool := false
  dlFailed : Bool := false
  seq : Nat := 0
  mapWrites : List Nat := []
  rebuilds : List Rebuild := []
  deriving DecidableEq, Repr

/-! ### Home blocks and seals -/

/-- A seal: its table entry (Table 15-4), its live state and its lockout seconds (R337 to R342). -/
structure Seal where
  state : Nat := 0
  fails : Nat := 0
  changes : Nat := 0
  first : Nat := 0
  last : Nat := 0
  salt : Bytes := []
  hash : Bytes := []
  live : Nat := 0
  lockout : Nat := 0
  deriving DecidableEq, Repr

/-- A commit in progress (R330): its descriptor (none for one the controller makes itself), twin, generation, payloads and next
page, the seal entry that takes effect with it, the poison set it records, and whether its erase has passed. -/
structure Commit where
  desc : Option Nat
  twin : Nat
  gen : Nat
  payloads : List Bytes
  page : Nat := 0
  newSeal : Option (Nat × Seal) := none
  poison : List Nat := []
  erased : Bool := false
  deriving DecidableEq, Repr

/-- Home blocks and seals beside their registers (R325 to R343). -/
structure Hb where
  genA : Option Nat := none
  genB : Option Nat := none
  commit : Option Commit := none
  imgGen : Option Nat := none
  seals : Tbl Seal := []
  deriving DecidableEq, Repr

/-- The state of the controller: the queue of waiting commands, the register file, the free-value counter (the model's own,
log 5), what has left the block, and every subsystem. -/
structure State where
  pending : List Instr := []
  regs : Tbl W32 := []
  freeCtr : Nat := 8
  out : List Output := []
  fuses : Fuses := {}
  bnd : Bnd := {}
  mode : ModeCtl := {}
  sec : Sec := {}
  img : Img := {}
  ntc : Ntc := {}
  pm : Pm := {}
  q : Qe := {}
  descs : List Desc := []
  seq : Seq := {}
  rc : Rc := {}
  so : So := {}
  ph : Ph := {}
  mi : Mi := {}
  fi : Fi := {}
  hb : Hb := {}
  deriving DecidableEq, Repr

/-- The machine right after reset: BRINGUP just entered from OFF by a cold start, every register at its reset value
(R392), nothing in memory, nothing waiting (log 2). -/
def State.reset : State := {}

end Sys2Proof.Machine
end

