-- ==== Sys2Proof/Machine/Ops.lean ====
section
/-! DEFINITION. The named operations over the state: register access, the error log, events and notices, the fabric, the
postmark, dies, routes and their helpers. -/

namespace Sys2Proof.Machine

/-- Bool as a one-bit number. -/
def b2n (b : Bool) : Nat := if b then 1 else 0

/-! ### Registers -/

/-- The stored word of the register at `off`. -/
def State.getR (s : State) (off : Nat) : W32 := tget regReset s.regs off

/-- Store a whole register word. -/
def State.setR (s : State) (off : Nat) (w : W32) : State := { s with regs := tset regReset s.regs off w }

/-- A register field. -/
def State.getF (s : State) (f : Field) : Nat := bits (s.getR f.off).toNat f.lo f.width

/-- A field of a register word that was kept. -/
def Field.of (f : Field) (w : Nat) : Nat := bits w f.lo f.width

/-- Store a register field, the register's other bits kept. -/
def State.setF (s : State) (f : Field) (v : Nat) : State :=
  s.setR f.off (BitVec.ofNat 32 (setBits (s.getR f.off).toNat f.lo f.width v))

/-- Count one event in a 32-bit counter that wraps freely. -/
def State.bump (s : State) (off : Nat) : State := s.setR off (s.getR off + 1)

/-- Add to a 32-bit counter that wraps freely. -/
def State.bumpBy (s : State) (off n : Nat) : State := s.setR off (s.getR off + BitVec.ofNat 32 n)

/-- Count one event in a saturating field. -/
def State.satF (s : State) (f : Field) : State := s.setF f (satInc f.width (s.getF f))

/-- Bit `i` of the register array whose first word is at `base`, 32 bits a word and at most 1,024 bits. -/
def State.getBit (s : State) (base i : Nat) : Bool := bit (s.getR (base + 4 * (i / 32 % 32))).toNat (i % 32)

/-- Set or clear bit `i` of a register array. -/
def State.setBit (s : State) (base i : Nat) (b : Bool) : State :=
  s.setF ⟨base + 4 * (i / 32 % 32), i % 32, 1⟩ (b2n b)

/-- Let a value leave the block. -/
def State.emit (s : State) (o : Output) : State := { s with out := s.out ++ [o] }

/-- The pieces of a DRAM transfer: at most 512 bytes each, none across a 512-byte boundary (R380). -/
def dramPieces : Nat → Nat → Bytes → List (Nat × Bytes)
  | 0, _, _ => []
  | n + 1, addr, data =>
    if data = [] then []
    else
      let k := 512 - addr % 512
      (addr, data.take k) :: dramPieces n (addr + k) (data.drop k)

/-- A DRAM transfer's pieces, in ascending order. -/
def piecesOf (addr : Nat) (data : Bytes) : List (Nat × Bytes) := dramPieces (data.length / 512 + 2) addr data

/-- The sideband of a piece (R273): c0 and c1 of each 16-byte unit it touches, a part of a unit merged with what the unit holds. -/
def dramSide (n addr : Nat) (data : Bytes) : Bytes :=
  let first := addr / 16
  ((List.range ((addr + data.length + 15) / 16 - first)).map fun i =>
    let unit := (List.range 16).map fun j =>
      let a := 16 * (first + i) + j
      if addr ≤ a then data.getD (a - addr) (Config.dramByte a n) else Config.dramByte a n
    (unitEncode (first + i) unit).drop 16).flatten

/-- The pieces written or held so far. -/
def State.pieces (s : State) : Nat := s.out.length + s.bnd.held.length

/-- Write one piece to engine DRAM: held at the port while DRAM_SR is high (R382), counted in CNT_HELD. -/
def State.fabPiece (s : State) (p : Nat × Bytes) : State :=
  let o : Output := .fabWrite p.1 p.2 (dramSide s.pieces p.1 p.2)
  if s.getF F.PWR_DRAM_SR = 1 then
    ({ s with bnd := { s.bnd with held := s.bnd.held ++ [o] } }.setF F.PWR_DRAM_HOLDING 1).bump R.PWR_CNT_HELD
  else s.emit o

/-- A write to engine DRAM, piece by piece (R380). -/
def State.fab (s : State) (addr : Nat) (data : Bytes) : State := (piecesOf addr data).foldl State.fabPiece s

/-- The current mode code (Table 16-1). -/
def State.modeNow (s : State) : Nat := s.getF F.MODE_MODE

/-- The mode writes completions: every mode with the CORE island clocked but HALT (R357), and no SAFE-entry exception. -/
def State.writesOut (s : State) : Bool := !([0, 7, 8, 9].contains s.modeNow)

/-- The decoding and scan stages go on: a mode that writes, but not SAFE (R353, R357, R358). -/
def State.pipeRuns (s : State) : Bool := s.writesOut && s.modeNow ≠ 10

/-- An image apply is at its seam (R53). -/
def State.inSeam (s : State) : Bool := s.getF F.IMG_STATUS_STATE = 5

/-- The decoder cores, sorting lanes and the stripe engine take up a new envelope: not while a seam waits for its boundary (R53). -/
def State.stagesTake (s : State) : Bool := s.pipeRuns && !s.inSeam

/-- They work at all: in a seam up to the boundary only. -/
def State.stagesRun (s : State) : Bool := s.pipeRuns && !(s.inSeam && s.img.boundary)

/-- The security state (R362) and the debug level (R363). -/
def State.secState (s : State) : Nat := s.getF F.SEC_STATUS_STATE

/-- The debug level: 0 NONE, 1 OBSERVE, 2 INTRUSIVE. -/
def State.dbgLevel (s : State) : Nat := s.getF F.SEC_STATUS_DEBUG

/-- Expert access is open (R12). -/
def State.expertOpen (s : State) : Bool := s.getF F.SEC_STATUS_EXPERT_OPEN = 1

/-- A free 32-bit draw of the entropy source; the counter moves on. -/
def State.draw (s : State) : W32 × State := (Config.entropy s.freeCtr, { s with freeCtr := s.freeCtr + 1 })

/-! ### The notice office's state (R246 to R260) -/

/-- The configuration word of a source: `ENS_NTC_ISRC` below 64, `ENS_NTC_LSRC` from 64, both at 0x2400 + 4 s. -/
def srcField (src lo w : Nat) : Field := ⟨0x2400 + 4 * (src % 256), lo, w⟩

/-- A source is fast: source 0 always (Table 11-1). -/
def State.srcFast (s : State) (src : Nat) : Bool := src = 0 || s.getF (srcField src 3 1) = 1

/-- A source is enabled: source 0 always (R247). -/
def State.srcEn (s : State) (src : Nat) : Bool := src = 0 || s.getF (srcField src 4 1) = 1

/-- A source's level: 16 for the fast class, else its priority (R251). -/
def State.srcLevel (s : State) (src : Nat) : Nat := if s.srcFast src then 16 else s.getF (srcField src 10 4)

/-- A source's target core: the faulting core for source 0 (R257). -/
def State.srcTarget (s : State) (src : Nat) : Nat := if src = 0 then s.ntc.zeroTarget else s.getF (srcField src 0 3)

/-- A source is in the AON watch subset. -/
def State.srcWatch (s : State) (src : Nat) : Bool := s.getF (srcField src 5 1) = 1

/-- A source's moderation group: 0 for every fast source (R258). -/
def State.srcGroup (s : State) (src : Nat) : Nat := if s.srcFast src then 0 else s.getF (srcField src 6 4)

/-- A source is pending. -/
def State.srcPend (s : State) (src : Nat) : Bool := s.getBit (R.NTC_PEND 0) src

/-- A source is active. -/
def State.srcActive (s : State) (src : Nat) : Bool := s.getBit (R.NTC_ACTIVE 0) src

/-- One core's side of the notice office. -/
def State.core (s : State) (c : Nat) : NtcCore := tget (fun _ => {}) s.ntc.cores c

/-- Store one core's side of the notice office. -/
def State.setCore (s : State) (c : Nat) (k : NtcCore) : State :=
  { s with ntc := { s.ntc with cores := tset (fun _ => {}) s.ntc.cores c k } }

/-- Core `c` sleeps: its SLEEP bit is set and its idle signal is high (R260). -/
def State.sleeps (s : State) (c : Nat) : Bool := bit (s.getR R.NTC_SLEEP).toNat c && (s.core c).idle

/-- The core a pending source is delivered to (R260). -/
def State.delivery (s : State) (src : Nat) : Nat :=
  if s.sleeps (s.srcTarget src) ∧ s.srcWatch src = false ∧ src ∈ s.ntc.redirected ∧ s.getF F.NTC_X_REDIRECT_OFF = 0 then
    s.getF F.NTC_CFG_FALLBACK
  else s.srcTarget src

/-- A source is on the stack of some core. -/
def State.onStack (s : State) (src : Nat) : Bool := (List.range 8).any fun c => (s.core c).stack.any fun e => e.1 = src

/-- The held sources delivered to core `c` are released, its idle signal being high (R258). -/
def State.releaseIdle (s : State) (c : Nat) : State :=
  if (s.core c).idle ∧ s.getF F.NTC_X_IDLE_BYPASS_OFF = 0 then
    let held := (List.range 256).filter fun x => s.srcPend x && s.delivery x = c && !s.ntc.released.contains x
    { s with ntc := { s.ntc with released := s.ntc.released ++ held } }
  else s

/-- Redirected sources whose target and fallback both sleep stay pending, each counted once (R260). -/
def State.strand (s : State) : State :=
  if s.sleeps (s.getF F.NTC_CFG_FALLBACK) then
    (s.ntc.redirected.filter fun x => s.srcPend x && !s.srcWatch x && s.sleeps (s.srcTarget x) && !s.ntc.stranded.contains x).foldl
      (fun s x => ({ s with ntc := { s.ntc with stranded := s.ntc.stranded ++ [x] } } : State).bump R.NTC_STRANDED) s
  else s

/-- Release every held source of a group: its count and timer restart (R258). -/
def State.releaseGroup (s : State) (g : Nat) : State :=
  let srcs := (List.range 256).filter fun x => s.srcPend x && s.srcGroup x = g && !s.ntc.released.contains x
  { s with ntc := { s.ntc with released := s.ntc.released ++ srcs, counts := tset (fun _ => 0) s.ntc.counts g 0,
                               timing := s.ntc.timing.filter (· ≠ g) } }

/-- Count a fire of a pending source in its group, and release what that releases (R258). -/
def State.moderate (s : State) (src : Nat) : State :=
  let g := s.srcGroup src
  if g = 0 then s
  else
    let n := tget (fun _ => 0) s.ntc.counts g + 1
    let s := { s with ntc := { s.ntc with counts := tset (fun _ => 0) s.ntc.counts g n,
                                          timing := if s.ntc.timing.contains g then s.ntc.timing else s.ntc.timing ++ [g] } }
    if max 1 (s.getF (F.NTC_MOD_COUNT g)) ≤ n then s.releaseGroup g
    else if (s.core (s.delivery src)).idle ∧ s.getF F.NTC_X_IDLE_BYPASS_OFF = 0 ∧ src ∉ s.ntc.released then
      { s with ntc := { s.ntc with released := s.ntc.released ++ [src] } }
    else s

/-- The watcher raises the wake request for a sleeping target of a watched pending source (R260). -/
def State.watchWake (s : State) (src : Nat) : State :=
  if s.srcPend src ∧ s.srcWatch src ∧ s.sleeps (s.srcTarget src) then s.emit (.pmWake (s.srcTarget src)) else s

/-- Move the state to QUIESCE as a HOLD wake does (R353): the cause is recorded and the change is asked for. -/
def State.holdWake (s : State) (cause src : Nat) : State :=
  if s.modeNow = 7 ∧ s.mode.target = none then
    ((({ s with mode := { s.mode with target := some 6 } }.setF F.MODE_CHANGING 1).setF F.PWR_WAKE_CAUSE cause).setF
      F.PWR_WAKE_SOURCE src)
  else s

/-- A source fires (R249): it becomes pending, merges, is lost, or is dropped. Sources 19 to 31 never fire (Table 11-1). -/
def State.fire (s : State) (src : Nat) : State :=
  if 256 ≤ src ∨ (19 ≤ src ∧ src ≤ 31) ∨ s.srcEn src = false then s
  else if s.srcActive src then s.satF (F.NTC_LOST_COUNT src)
  else if s.srcPend src then s.moderate src
  else
    let s := (s.setBit (R.NTC_PEND 0) src true).moderate src
    let s := s.watchWake src
    if s.srcWatch src then s.holdWake 2 src else s

/-! ### Events (R246, R10) -/

/-- The enable bit and the notice source of event bit `i` of the event register at `off`. -/
def eventEnable (off i : Nat) : Option (Field × Nat) :=
  if off = R.ERR_CAUSE then some (⟨R.ERR_EN, i, 1⟩, 18)
  else if off = R.PM_EVENT then some (⟨R.PM_CTRL, 2 + i, 1⟩, 13)
  else if off = R.PM_BCN_EVENT then some (⟨R.PM_BCN_CFG, 15 + i, 1⟩, 14)
  else if off = R.Q_EVENT then some (⟨R.Q_CTRL, 10 + i, 1⟩, 6)
  else if off = R.MI_EVENT then some (⟨R.MI_CTRL, 1 + i, 1⟩, 9)
  else if off = R.MI_PH_EVENT then some (⟨R.MI_PH_CTRL, 9 + i, 1⟩, 10)
  else if off = R.FI_EVENT then some (⟨R.FI_CTRL, 2 + i, 1⟩, 12)
  else if off = R.FI_REC_EVENT then some (⟨R.FI_SUSP, 18 + i, 1⟩, 4)
  else if off = R.RC_EVENT then some (⟨R.RC_CTRL, 3 + i, 1⟩, 7)
  else if off = R.SO_EVENT then some (⟨R.SO_CTRL, F.SO_CTRL_EVENT_EN.lo + i, 1⟩, 8)
  else if off = R.HB_EVENT then some (⟨R.HB_CFG, 21 + i, 1⟩, 15)
  else if off = R.PWR_WG_EVENT then some (⟨R.PWR_WG_CTRL, 16 + i, 1⟩, 3)
  else if off = R.PWR_BND_EVENT then some (⟨R.PWR_TEMP_CFG, 8 + i, 1⟩, if i < 6 then 2 else 17)
  else if off = R.SEC_EVENT then some (⟨R.DBG_CTRL, 4 + i, 1⟩, 16)
  else if 0x20000 ≤ off ∧ off < 0x40000 then
    let r := (off - 0x20000) / 0x1000
    if off = R.RT_EVENT r then some (⟨R.RT_EVENT_EN r, i, 1⟩, 32 + r)
    else if off = R.RT_PHY_EVENT r then some (⟨R.RT_PHY_CTRL r, 2 + i, 1⟩, 32 + r)
    else none
  else none

/-- Set an event bit; where it changes from 0 to 1 and is enabled, its source fires (R246). -/
def State.raise (s : State) (f : Field) : State :=
  let was := s.getF f
  let s := s.setF f 1
  match eventEnable f.off f.lo with
  | some (en, src) => if was = 0 ∧ s.getF en = 1 then s.fire src else s
  | none => s

/-- The source that an event bit fires if it is set now. -/
def State.rising (s : State) (f : Field) : Option Nat :=
  (eventEnable f.off f.lo).bind fun e => if s.getF f = 0 ∧ s.getF e.1 = 1 then some e.2 else none

/-- Set several event bits of one cycle: each source of theirs fires once (R246). -/
def State.raiseAll (s : State) (fs : List Field) : State :=
  ((fs.filterMap s.rising).eraseDups).foldl State.fire (fs.foldl (fun s f => s.setF f 1) s)

/-- Log a register access (R389): kind 1 WIDTH, 2 RESERVED, 3 LOCKED, 4 REFUSED. -/
def State.logErr (s : State) (kind off : Nat) (write : Bool) : State :=
  let s := s.setR R.ERR_ADDR (BitVec.ofNat 32 (off % 2 ^ 20 + 2 ^ 20 * b2n write + 2 ^ 21 * kind))
  let s := s.bump R.ERR_COUNT
  s.raise ⟨R.ERR_CAUSE, kind - 1, 1⟩

/-- Ignore a write and log it as REFUSED. -/
def State.refuse (s : State) (off : Nat) : State := s.logErr 4 off true

/-! ### Postmarks (R310, R311) -/

/-- The quality the counter carries (R315): the lower of its own state and the time unit's. -/
def State.pmQuality (s : State) : Nat :=
  let rank (q : Nat) : Nat := if q = 0 then 0 else if q = 1 then 1 else if q = 2 then 2 else 3
  let own := s.pm.own
  let tu := s.getF F.PM_STATUS_TU_QUALITY
  if own = 0 then 0 else if rank tu < rank own then max 1 tu else own

/-- The 80-bit postmark (Table 6-2): seconds, nanoseconds, quality. -/
def State.postmark (s : State) : Nat := s.pm.sec * 2 ^ 32 + s.pm.ns * 4 + s.pmQuality

/-- The counter in nanoseconds. -/
def State.nowNs (s : State) : Nat := s.pm.sec * 1000000000 + s.pm.ns

/-! ### The structure image in force -/

/-- A route's values in force (R58). -/
def State.routeCfg (s : State) (r : Nat) : RouteCfg := s.img.eff.getD r {}

/-- Route `r` is populated. -/
def State.routeOn (s : State) (r : Nat) : Bool := r < 32 && bit s.img.effMask r

/-- Die key: 16 r + d. -/
def dieKey (r d : Nat) : Nat := 16 * r + d

/-- The die with key `k` is populated (R16). -/
def State.dieOn (s : State) (k : Nat) : Bool := s.routeOn (k / 16) && bit (s.routeCfg (k / 16)).dies (k % 16)

/-- The class number of die `k`. -/
def State.dieClass (s : State) (k : Nat) : Nat := bits (s.routeCfg (k / 16)).classes (4 * (k % 16)) 4

/-- The geometry of die `k`. -/
def State.geo (s : State) (k : Nat) : Geo := s.img.cfg.geos.getD (s.dieClass k) {}

/-! Envelope addresses (R15). -/

/-- The die key of an envelope address. -/
def addrDie (a : Nat) : Nat := bits a 30 9

/-- The block of an envelope address. -/
def addrBlock (a : Nat) : Nat := bits a 14 16

/-- The page of an envelope address. -/
def addrPage (a : Nat) : Nat := bits a 2 12

/-- The envelope in its page. -/
def addrEnv (a : Nat) : Nat := bits a 0 2

/-- The envelope address of its parts. -/
def mkAddr (k b p e : Nat) : Nat := k * 2 ^ 30 + b * 2 ^ 14 + p * 4 + e

/-- The plane of a block on die `k` (R61). -/
def State.planeOf (s : State) (k b : Nat) : Nat := b % max 1 (s.geo k).planes

/-! ### Dies and routes -/

/-- The die with key `k`. -/
def State.die (s : State) (k : Nat) : Die := tget (fun _ => {}) s.seq.dies k

/-- Store a die. -/
def State.setDie (s : State) (k : Nat) (d : Die) : State :=
  { s with seq := { s.seq with dies := tset (fun _ => {}) s.seq.dies k d } }

/-- The route `r`. -/
def State.route (s : State) (r : Nat) : Route := tget (fun _ => {}) s.seq.routes r

/-- Store a route. -/
def State.setRoute (s : State) (r : Nat) (x : Route) : State :=
  { s with seq := { s.seq with routes := tset (fun _ => {}) s.seq.routes r x } }

/-- A die's state code (Table 3-2). -/
def State.dieSt (s : State) (k : Nat) : Nat := s.getF (F.RT_DIE_STATE (k / 16) (k % 16))

/-- A number in admission order. -/
def State.fresh (s : State) : Nat × State :=
  (s.seq.nextId, { s with seq := { s.seq with nextId := s.seq.nextId + 1 } })

/-- A temperature read that is due on a die becomes eligible for the bus now that the die is IDLE (R95). -/
def State.tempTurn (s : State) (k : Nat) : State :=
  if (s.die k).tempDue.isSome then
    let (n, s) := s.fresh
    s.setDie k { s.die k with tempSince := n }
  else s

/-- Move a die to a state of Table 3-2: one that was retired with an operation in it becomes RETIRED where it would become IDLE
(R300). -/
def State.setDieSt (s : State) (k v : Nat) : State :=
  if v = 1 ∧ (s.die k).retiring then (s.setDie k { s.die k with retiring := false }).setF (F.RT_DIE_STATE (k / 16) (k % 16)) 9
  else (if v = 1 then s.tempTurn k else s).setF (F.RT_DIE_STATE (k / 16) (k % 16)) v

/-- The die is RETIRED, or will be once the operation in it has ended (R300). -/
def State.retired (s : State) (k : Nat) : Bool := s.dieSt k = 9 || (s.die k).retiring

/-- The image values of a route that descriptors are checked by (R16, R58): those before a re-image until it completes. -/
def State.checkCfg (s : State) (r : Nat) : RouteCfg × Bool := (s.route r).before.getD (s.routeCfg r, s.routeOn r)

/-- An address is in range (R16). -/
def State.inRange (s : State) (a : Nat) : Bool :=
  let k := addrDie a
  let c := s.checkCfg (k / 16)
  let g := s.img.cfg.geos.getD (bits c.1.classes (4 * (k % 16)) 4) {}
  a < 2 ^ 39 && c.2 && bit c.1.dies (k % 16) && addrBlock a < g.blocks && addrPage a < g.pages

/-- A route's state: 0 DOWN, 1 TRAINING, 2 UP, 3 DRAINING. -/
def State.routeSt (s : State) (r : Nat) : Nat := s.getF (F.RT_STATUS_STATE r)

/-- A route carries traffic: UP or DRAINING. -/
def State.routeUp (s : State) (r : Nat) : Bool := 2 ≤ s.routeSt r

/-- The die is stale (R301). -/
def State.stale (s : State) (k : Nat) : Bool := s.getBit (R.FI_STALE 0) k

/-- The die is served as a retired die: RETIRED, FAULT or stale (R80, R300, R301). -/
def State.dieGone (s : State) (k : Nat) : Bool := s.dieSt k = 8 || s.retired k || s.stale k

/-- The array has an operation: READ_BUSY, CACHE_BUSY, PROGRAM_BUSY, ERASE_BUSY or CONTROL_BUSY. -/
def State.dieBusy (s : State) (k : Nat) : Bool := [2, 3, 5, 6, 7].contains (s.dieSt k)

/-- The change-of-address entry of a source, active ones only (R303). -/
def State.coaOf (s : State) (k : Nat) : Option Nat :=
  firstIdx 16 fun i => s.getF (F.FI_COA_A_STATE i) = 3 ∧
    dieKey (s.getF (F.FI_COA_A_SRC_ROUTE i)) (s.getF (F.FI_COA_A_SRC_DIE i)) = k

/-- The die an access of source die `k` goes to on the bus (R303). -/
def State.busDie (s : State) (k : Nat) : Nat :=
  match s.coaOf k with
  | some i => dieKey (s.getF (F.FI_COA_A_TGT_ROUTE i)) (s.getF (F.FI_COA_A_TGT_DIE i))
  | none => k

/-- Let a die wait for a bus activity, with its turn among those of one row (R65). -/
def State.want (s : State) (k : Nat) (act : BusAct) : State :=
  let (n, s) := s.fresh
  s.setDie k { s.die k with want := some act, since := n }

/-- The write guard holds on route `r` (R94). -/
def State.guardHolds (s : State) (r : Nat) : Bool := bit (s.getR R.PWR_WG_STATUS).toNat r

/-- A program has been granted die `k` and its data-in has not begun (R76, R96). -/
def State.programWaits (s : State) (k : Nat) : Bool :=
  s.dieSt k = 1 && (s.die k).want = some (.progData 0) && (s.die k).op.any fun o => o.cls = 2

/-- The route's dies whose array runs a program or erase, a held one and one whose data-in has begun included (R76, R97). -/
def State.writesBusy (s : State) (r : Nat) : Bool :=
  (List.range 16).any fun d => let k := dieKey r d
    s.dieSt k = 5 || s.dieSt k = 6 || (s.die k).held.isSome ||
      ((s.die k).op.any (fun o => decide (2 ≤ o.cls)) && !s.programWaits k && (s.dieSt k = 1 || s.dieSt k = 7))

/-- WP# may be high: UP, no guard, not draining for a seam or re-image (R76), and a mode that drives it (R353, R358). -/
def State.wpAllowed (s : State) (r : Nat) : Bool :=
  s.routeSt r = 2 && !s.guardHolds r && s.modeNow ≠ 7 && s.modeNow ≠ 10

/-- Decide the level on WP# anew: it is lowered only while no program or erase is busy on the route (R76). -/
def State.driveWp (s : State) (r : Nat) : State :=
  if s.wpAllowed r then s.setF (F.RT_STATUS_WP r) 1
  else if s.routeSt r = 0 ∨ s.writesBusy r = false then s.setF (F.RT_STATUS_WP r) 0
  else s

/-- The conditions of R94 that hold on route `r`. -/
def State.guardCauses (s : State) (r : Nat) : Bool × Bool × Bool × Bool :=
  let ks := ((List.range 16).map (dieKey r)).filter fun k => s.dieOn k && s.dieSt k ≠ 8 && !s.retired k
  (s.bnd.vinLow, ks.any (fun k => (s.die k).tempOut) && s.getF F.PWR_WG_X_IGNORE_TEMP = 0, ks.any (fun k => (s.die k).tempBad),
    decide ((s.routeCfg r).errLimit < s.getF (F.RT_TRAIN_ERR_LAST r)))

/-- A program that was granted a die of a guarded route and whose data-in has not begun waits again, as one that the guard holds
(R76, R96). -/
def State.guardReturn (s : State) (k : Nat) : State :=
  match (s.die k).op with
  | some o =>
    if s.programWaits k ∧ s.guardHolds (k / 16) then
      let s := s.setDie k { s.die k with op := none, want := none }
      { s with seq := { s.seq with waiting := s.seq.waiting ++ [{ o with guardWait := true }] } }
    else s
  | none => s

/-- Decide the write guard of every route anew, and WP# with it (R94, R97). -/
def State.guardUpdate (s : State) : State :=
  (List.range 32).foldl (fun s r =>
    let c := s.guardCauses r
    let holds := c.1 || c.2.1 || c.2.2.1 || c.2.2.2
    let s := s.setF ⟨R.PWR_WG_STATUS, r, 1⟩ (b2n holds)
    (if holds then (List.range 16).foldl (fun s d => s.guardReturn (dieKey r d)) s else s).driveWp r) s

/-! ### The incomplete-erase set (R106, R110) -/

/-- Die key and block of a block, as one number. -/
def blockKey (k b : Nat) : Nat := k * 65536 + b

/-- Insert into an ascending list without repeats. -/
def insertAsc (l : List Nat) (x : Nat) : List Nat := l.filter (· < x) ++ [x] ++ l.filter (x < ·)

/-- Put blocks into the incomplete-erase set, 1,024 at most (R110). -/
def State.addIncomplete (s : State) (bs : List Nat) : State :=
  let l := bs.foldl insertAsc s.seq.incomplete
  let s := { s with seq := { s.seq with incomplete := l.take 1024, overflow := s.seq.overflow || decide (1024 < l.length) } }
  s.setF F.FI_REC_PENDING_COUNT s.seq.incomplete.length

/-- Take a block out of the incomplete-erase set (R111). -/
def State.dropIncomplete (s : State) (b : Nat) : State :=
  let s := { s with seq := { s.seq with incomplete := s.seq.incomplete.filter (· ≠ b),
                                        fromTrain := s.seq.fromTrain.filter (· ≠ b) } }
  s.setF F.FI_REC_PENDING_COUNT s.seq.incomplete.length

/-! ### Pigeonholes (R275 to R280) -/

/-- The line at set `st`, way `w`. -/
def State.line (s : State) (st w : Nat) : Line := tget (fun _ => {}) s.ph.lines (16 * st + w)

/-- Store a line. -/
def State.setLine (s : State) (st w : Nat) (l : Line) : State :=
  { s with ph := { s.ph with lines := tset (fun _ => {}) s.ph.lines (16 * st + w) l } }

/-- The set of an address (R275). -/
def phSet (a : Nat) : Nat := crc32c (leBytes 6 a) % 384

/-- A range covers an address (R278). -/
def Range.covers (r : Range) (a : Nat) : Bool :=
  r.dies.contains (addrDie a) && (match r.blocks with | none => true | some bs => bs.contains (addrBlock a))

/-- The way whose readable line holds an address, none inside a listed range (R275, R278). -/
def State.phFind (s : State) (a : Nat) : Option Nat :=
  if s.ph.ranges.any (·.covers a) then none
  else firstIdx 16 fun w => (s.line (phSet a) w).valid && !(s.line (phSet a) w).waiting && (s.line (phSet a) w).addr = a

/-- A line that is locked and holds nothing. -/
def Line.lockedEmpty (l : Line) : Bool := l.locked && !l.valid

/-- Show the locked-empty ways and the listed ranges, eight at most, in `ENS_MI_PH_STATUS` (R281). -/
def State.phCount (s : State) : State :=
  (s.setF F.MI_PH_STATUS_LOCKED_EMPTY ((s.ph.lines.filter fun e => e.2.lockedEmpty).length)).setF F.MI_PH_STATUS_RANGES
    (min 8 s.ph.ranges.length)

/-- Drop a line: a locked one becomes locked-empty, counted and raised (R278). -/
def State.phDrop (s : State) (st w : Nat) : State :=
  let l := s.line st w
  if l.valid then
    let s := s.setLine st w { l with valid := false, waiting := false }
    if l.locked then ((s.bump R.MI_PH_CNT_LOCKED_DROPPED).phCount).raise F.MI_PH_EVENT_LOCKED_EMPTY else s
  else s

/-- The victim way of a set (R275): lowest invalid, neither locked nor pending; else the least recently used not locked. -/
def State.phVictim (s : State) (st : Nat) : Option Nat :=
  match firstIdx 16 fun w => !(s.line st w).valid && !(s.line st w).locked with
  | some w => some w
  | none =>
    let free := (List.range 16).filter fun w => !(s.line st w).locked
    free.foldl (fun best w => match best with
      | none => some w
      | some b => if (s.line st w).used < (s.line st b).used then some w else some b) none

/-- The first SRAM word of a line (R275). -/
def lineWord (st w : Nat) : Nat := 0x400000 + 4096 * st + 256 * w

/-- Whole words are written with new check symbols: no stored error, no write-back and nothing the debug window wrote is left in
them (R267). -/
def State.wordsRewritten (s : State) (w n : Nat) : State :=
  { s with mi := { s.mi with err := s.mi.err.filter (fun e => e.1 < w || w + n ≤ e.1),
                             spareErr := s.mi.spareErr.filter (fun e => e.1 < w || w + n ≤ e.1),
                             backs := s.mi.backs.filter (fun e => e.1 < w || w + n ≤ e.1),
                             data := s.mi.data.filter (fun e => e.1 < w || w + n ≤ e.1) } }

/-- A word is written anew with what it held: no stored error and no write-back is left in it (R266, R267). -/
def State.wordsKept (s : State) (w : Nat) : State :=
  { s with mi := { s.mi with err := s.mi.err.filter (·.1 ≠ w), spareErr := s.mi.spareErr.filter (·.1 ≠ w),
                             backs := s.mi.backs.filter (·.1 ≠ w) } }

/-- Install a line (R276, R279): dropped where a later range covers it; a pending line is a program's. Answers whether it stands. -/
def State.phInstall (s : State) (a epoch : Nat) (content payload : Bytes) (waiting : Bool) : State × Bool :=
  if s.getF F.MI_PH_CTRL_ALLOC_EN = 0 then (s, false)
  else if s.ph.ranges.any (fun r => r.covers a && serialLater 16 r.epoch epoch) then (s.bump R.MI_PH_CNT_DISCARDED, false)
  else
    let st := phSet a
    let old := firstIdx 16 fun w => (s.line st w).valid && (s.line st w).addr = a
    match (match old with | some w => some w | none => s.phVictim st) with
    | some w =>
      let s := (s.wordsRewritten (lineWord st w) 256).setLine st w
        { addr := a, content := content, payload := payload, valid := true, waiting := waiting, locked := (s.line st w).locked,
          epoch := epoch, used := s.ph.clock + 1 }
      (({ s with ph := { s.ph with clock := s.ph.clock + 1 } } : State), true)
    | none => (s, false)

/-- Enter a range with a new epoch (R278 step 1). -/
def State.phRange (s : State) (dies : List Nat) (blocks : Option (List Nat)) : State :=
  let e := (s.ph.epoch + 1) % 65536
  let s : State := { s with ph := { s.ph with epoch := e, ranges := s.ph.ranges ++ [{ epoch := e, dies := dies, blocks := blocks }] } }
  (s.setF F.MI_PH_STATUS_EPOCH e).phCount

/-! ### The checks of an envelope before its die (R17) -/

/-- A home block: block 0 of die 0 on route 0 or 1 (R325). -/
def homeBlock (a : Nat) : Bool := addrBlock a = 0 && (addrDie a = 0 || addrDie a = 16)

/-- A command sequence leaves for die `k`, the SLC byte before it where it addresses a home block (R61, R325). -/
def State.cmd (s : State) (k : Nat) (pages : List Nat) (bytes addrs : List Nat) : State :=
  let p := s.getF F.HB_CFG_SLC_PREFIX
  let pre := if pages.any homeBlock ∧ p ≠ 0 then [p] else []
  s.emit (.dieCmd (k / 16) (k % 16) ((pre ++ bytes).map (BitVec.ofNat 8)) addrs)

/-- The ledger scan and the choice of a twin read pages of a block of die `k` (R108, R109, R334): each is an array read, counted, and its
data-out. -/
def State.scanReads (s : State) (k b : Nat) (pages : List Nat) : State :=
  pages.foldl (fun s p =>
    let a := mkAddr k b p 0
    ((s.cmd k [a] [0x00, 0x30] [a]).bump (R.RT_CNT_READ (k / 16))).cmd k [a] [0x06, 0xE0] [a, 0]) s

/-- An address as the bus sees it: a source with an active change of address goes to its target, but for a home block (R303,
R326). -/
def State.busAddr (s : State) (a : Nat) : Nat := if homeBlock a then a else s.busDie (addrDie a) * 2 ^ 30 + a % 2 ^ 30

/-- A held erase of the block, or the block in the incomplete-erase set (R106). -/
def State.erasePending (s : State) (a : Nat) : Bool :=
  let b := s.busAddr a
  s.seq.incomplete.contains (blockKey (addrDie b) (addrBlock b)) ||
    (match (s.die (addrDie b)).held with
      | some o => o.cls = 3 && o.pages.any fun p => addrBlock p = addrBlock b
      | none => false)

/-- Some live seal that covers an address forbids the access (R338): a write from READ_ONLY on, a read from NO_ACCESS on. -/
def State.sealForbids (s : State) (a : Nat) (write : Bool) : Bool :=
  s.hb.seals.any fun e => e.2.state ≠ 0 && e.2.first ≤ a && a ≤ e.2.last && (e.2.live = 3 || (write && e.2.live = 2))

/-- Steps 2 to 4 of R17: the status that decides the envelope, if one does. -/
def State.preCheck (s : State) (a : Nat) : Option Nat :=
  if s.sealForbids a false then some 0x030
  else if s.fi.poison.contains a then some 0x011
  else if s.erasePending a then some 0x020
  else none

/-! ### The decoder pool's size (R169, R171) -/

/-- A decoder core works: one of the 64, or a spare in use, not retired. -/
def State.coreWorks (s : State) (c : Nat) : Bool := (c < 64 || s.rc.subst.contains c) && !s.rc.retired.contains c

/-- The working cores. -/
def State.coresWorking (s : State) : Nat := (List.range 68).countP s.coreWorks

/-- The cores a route is guaranteed: the image's, less what a short pool took (R169, R171). -/
def State.guarantee (s : State) (r : Nat) : Nat := s.img.cfg.cores.getD r 0 - s.rc.cut.count r

/-- The guarantees of the 32 routes together. -/
def State.guaranteeSum (s : State) : Nat := ((List.range 32).map s.guarantee).sum

/-- Take one core from the guarantee of the highest-numbered route that has one (R171). -/
def State.cutOne (s : State) : State :=
  match ((List.range 32).filter fun r => decide (0 < s.guarantee r)).getLast? with
  | some r => { s with rc := { s.rc with cut := s.rc.cut ++ [r] } }
  | none => s

/-- With too few working cores the guarantees shrink (R171). -/
def State.poolShort (s : State) : State :=
  let n := s.guaranteeSum - s.coresWorking
  if n = 0 then s else (((List.range n).foldl (fun s _ => s.cutOne) s).setF F.RC_STATUS_SHORT 1).raise F.RC_EVENT_DECODER_SHORT

/-- New guarantees are in force: they are cut anew where the working cores do not suffice (R171). -/
def State.poolFit (s : State) : State :=
  (({ s with rc := { s.rc with cut := [] } } : State).setF F.RC_STATUS_SHORT 0).poolShort

/-! ### DRAM units (R273) -/

/-- A corrected unit of a DRAM read. -/
def State.dramCorrected (s : State) : State := s.bump R.MI_CNT_DRAM_CORR

/-- A DRAM read in which `corr` units were corrected. -/
def State.dramReads (s : State) (corr : Nat) : State := s.bumpBy R.MI_CNT_DRAM_CORR corr

/-- An uncorrectable unit of a DRAM read at fabric address `addr`. -/
def State.dramUncorr (s : State) (addr : Nat) : State :=
  (((s.bump R.MI_CNT_DRAM_UNCORR).setR R.MI_DRAM_ERR_LO (BitVec.ofNat 32 (addr / 16))).setR R.MI_DRAM_ERR_HI
    (BitVec.ofNat 32 (addr / 2 ^ 36 % 2 ^ 12))).raise F.MI_EVENT_DRAM_UNCORR

/-! ### The sorting floor's slots (R194 to R196) -/

/-- The slots a scan holds on route `r`. -/
def Scan.takenOn (c : Scan) (r : Nat) : Nat := (c.positions.map fun p => if p.route = r then p.taken else 0).sum

/-- The slots of route `r` in use. -/
def State.slotsUsed (s : State) (r : Nat) : Nat := (s.so.scans.map fun c => c.takenOn r).sum

/-- Show the slots of some routes that are not taken (Table 8-12): none while their use exceeds a share that was lowered (R395). -/
def State.floorShow (s : State) (rs : List Nat) : State :=
  rs.eraseDups.foldl (fun s r => s.setF (F.SO_FLOOR_FREE r) (s.getF (F.SO_FLOOR_SLOTS r) - s.slotsUsed r)) s

/-! ### Queues, jobs and descriptors -/

/-- SQ `n`, if it exists. -/
def State.sq (s : State) (n : Nat) : Option SQ := tget (fun _ => none) s.q.sqs n

/-- Store SQ `n`, or delete it. -/
def State.setSq (s : State) (n : Nat) (q : Option SQ) : State :=
  { s with q := { s.q with sqs := tset (fun _ => none) s.q.sqs n q } }

/-- The slots of a ring. -/
def SQ.size (q : SQ) : Nat := 2 ^ q.k

/-- The slots of the fetches under way behind the cached ones. -/
def SQ.fetchSlots (q : SQ) : List Nat := (List.range q.fetching).map fun i => (q.head + q.cache.length + i) % q.size

/-- The cached copies of an SQ are dropped, and what is being fetched is discarded when it arrives (R209, R212, R223). -/
def SQ.dropCopies (q : SQ) : SQ := { q with cache := [], ownWait := false, fetching := 0, stale := q.stale ++ q.fetchSlots }

/-- SQ `n` is being deleted (R223). -/
def State.sqLeaving (s : State) (n : Nat) : Bool := (s.sq n).any (·.deleting)

/-- The job with a number. -/
def State.job? (s : State) (id : Nat) : Option Job := s.seq.jobs.find? (·.id = id)

/-- Replace a job. -/
def State.setJob (s : State) (j : Job) : State :=
  { s with seq := { s.seq with jobs := s.seq.jobs.map fun x => if x.id = j.id then j else x } }

/-- Forget a job. -/
def State.dropJob (s : State) (id : Nat) : State :=
  { s with seq := { s.seq with jobs := s.seq.jobs.filter (·.id ≠ id) } }

/-- The descriptor with a number. -/
def State.desc? (s : State) (id : Nat) : Option Desc := s.descs.find? (·.id = id)

/-- Replace a descriptor. -/
def State.setDesc (s : State) (d : Desc) : State :=
  { s with descs := s.descs.map fun x => if x.id = d.id then d else x }

/-- The opcode of a descriptor. -/
def Desc.op (d : Desc) : Nat := field d.bytes 0 1

/-- A descriptor finishes with a status and a result count (R214); the first status stands. A buffer fault decides over any
other status (R245). -/
def State.finish (s : State) (id status count : Nat) : State :=
  match s.desc? id with
  | some d => match d.status with
    | none =>
      let (n, s) := s.fresh
      s.setDesc { d with status := some (if d.bufferFault then 0x043 else status), count := count, pages := [], doneAt := n }
    | some _ => s
  | none => s

/-- What one event finishes is finished at one time: every status decided since number `n` was the next one counts as decided then (R217). -/
def State.together (s : State) (n : Nat) : State :=
  { s with descs := s.descs.map fun d => if n ≤ d.doneAt then { d with doneAt := n } else d }

/-- An admin descriptor is the one that executes: admitted, not started, the oldest unfinished one (R239). -/
def State.adminDesc (s : State) (id op : Nat) : Option Desc :=
  match s.descs.find? fun d => d.sq = 0 && d.status.isNone with
  | some d => if d.id = id ∧ d.op = op ∧ d.started = false then some d else none
  | none => none

/-- Put a die operation among those that wait (R74). -/
def State.enqueue (s : State) (o : DieOp) : State := { s with seq := { s.seq with waiting := s.seq.waiting ++ [o] } }

end Sys2Proof.Machine
end

