-- ==== Sys2Proof/Machine/Flags.lean ====
section
/-! DEFINITION. Status codes, their classes and how they combine (Tables 1-7 and 10-6, R243). -/

namespace Sys2Proof.Machine

namespace St
def ok : Nat := 0x000
def adjusted : Nat := 0x001
def soft : Nat := 0x002
def reconstructed : Nat := 0x003
def erased : Nat := 0x004
def uncorrectable : Nat := 0x010
def poisoned : Nat := 0x011
def misdelivered : Nat := 0x012
def frameLost : Nat := 0x013
def erasePending : Nat := 0x020
def writeGuarded : Nat := 0x021
def sealedRegion : Nat := 0x030
def sealLockedOut : Nat := 0x031
def malformed : Nat := 0x040
def queueStopped : Nat := 0x041
def wrongMode : Nat := 0x042
def bufferFault : Nat := 0x043
def programFail : Nat := 0x050
def eraseFail : Nat := 0x051
def routeDown : Nat := 0x060
def dieRetired : Nat := 0x061
def timeout : Nat := 0x070
def aborted : Nat := 0x080
def calDisagree : Nat := 0x090
def partialScan : Nat := 0x0A0
end St

/-- The status class (Table 1-7): 0 success, 1 success-with-reconstruction, 2 failure. -/
def statusClass (st : Nat) : Nat :=
  if st = St.reconstructed then 1
  else if [St.ok, St.adjusted, St.soft, St.erased, St.partialScan].contains st then 0 else 2

/-- A failure-class status. -/
def isFailure (st : Nat) : Bool := statusClass st = 2

/-- The status of a descriptor over its envelopes' statuses, in envelope order (R243). -/
def combineStatus (l : List Nat) : Nat :=
  match l.find? isFailure with
  | some st => st
  | none =>
    if l.contains St.reconstructed then St.reconstructed
    else if l.contains St.soft then St.soft
    else if l.contains St.adjusted then St.adjusted
    else if l.contains St.ok then St.ok
    else St.erased

/-- How many statuses lie in a success class (Table 10-1, READ). -/
def countGood (l : List Nat) : Nat := l.countP fun st => !isFailure st

/-- The 16 bytes of a completion (Table 10-5). -/
def completionBytes (cmd head count ns status sq : Nat) (phase : Bool) : Bytes :=
  leBytes 2 cmd ++ leBytes 2 head ++ leBytes 4 (count % 2 ^ 32) ++ leBytes 4 (min ns (2 ^ 32 - 1)) ++
    leBytes 2 (status % 2 ^ 12) ++ leBytes 2 (sq % 2 ^ 10 + 2 ^ 15 * b2n phase)

/-- A 32-byte header list entry or READ_HEADERS record (R232). -/
def headerEntry (r : EnvRes) : Bytes :=
  slice (if r.outcome = 2 ∨ r.outcome = 3 ∨ r.outcome = 7 then [] else r.content) 0 30 ++
    leBytes 2 (r.status % 2 ^ 12 + 2 ^ 12 * r.outcome)

end Sys2Proof.Machine
end

