-- ==== Sys2Proof/Machine/Operands.lean ====
section
/-! DEFINITION. Descriptor operands: opcodes, fields and the checks made before any die is touched (R16, R17, R83, R84, R88,
R90, R228 to R240). -/

namespace Sys2Proof.Machine

/-- The opcodes of I/O submission queues (Table 10-1). -/
def ioOps : List Nat := [0x01, 0x02, 0x03, 0x04, 0x05, 0x06, 0x07, 0x08]

/-- The opcodes of the admin queue (Table 10-1). -/
def adminOps : List Nat :=
  [0x40, 0x41, 0x42, 0x43, 0x44, 0x45, 0x48, 0x49, 0x4A, 0x50, 0x51, 0x52, 0x58, 0x59, 0x5A, 0x60, 0x61, 0x62, 0x70]

/-- The modes in which an opcode executes (Tables 10-1 and 10-4); an unlisted DIAG subcode passes everywhere (R230). -/
def opModes (op sub : Nat) : List Nat :=
  if op = 0x58 ∨ op = 0x62 then [11]
  else if op = 0x70 then (if sub = 3 then [4, 5, 11] else if sub < 3 then [4, 5, 11, 10] else List.range 16)
  else [4, 5, 11]

/-- The bytes of a descriptor that an opcode uses besides bytes 0 to 3, as (first, length) (Tables 10-2, 10-3, 10-4). -/
def opBytes (op sub : Nat) : List (Nat × Nat) :=
  match op with
  | 0x01 => [(4, 1), (8, 12), (20, 8), (28, 8)]
  | 0x02 => [(4, 1), (8, 12), (20, 8)]
  | 0x03 => [(8, 12), (20, 8), (32, 16)]
  | 0x04 => [(4, 1), (6, 2), (8, 12), (20, 8), (28, 8), (36, 8)]
  | 0x05 => [(4, 4), (8, 12), (20, 8), (28, 8), (36, 8)]
  | 0x06 => [(8, 12)]
  | 0x07 => [(4, 1), (8, 12), (20, 8)]
  | 0x08 => [(5, 1), (8, 8)]
  | 0x40 => [(4, 4), (8, 8), (16, 1), (18, 2)]
  | 0x41 => [(4, 2), (8, 8), (16, 2)]
  | 0x42 => [(4, 2)]
  | 0x43 => [(4, 2)]
  | 0x44 => [(4, 3)]
  | 0x45 => [(4, 2)]
  | 0x48 => [(4, 1), (8, 12)]
  | 0x49 => [(4, 4)]
  | 0x4A => [(4, 4)]
  | 0x50 => [(4, 1), (8, 12), (20, 8)]
  | 0x51 => [(4, 1), (8, 8), (20, 8)]
  | 0x52 => [(4, 1), (8, 8), (20, 8)]
  | 0x58 => [(4, 2), (8, 8), (20, 16)]
  | 0x59 => [(4, 2), (20, 8)]
  | 0x60 => [(8, 8)]
  | 0x61 => [(4, 1), (8, 8), (20, 8)]
  | 0x62 => [(4, 1)]
  | 0x70 => match sub with
    | 1 => [(4, 1), (16, 20)]
    | 2 => [(4, 1), (6, 2)]
    | 3 => [(4, 2), (8, 8), (20, 8)]
    | _ => [(4, 1)]
  | _ => []

/-- Every reserved byte of bytes 4 to 63 is zero (R229). -/
def reservedZero (b : Bytes) : Bool :=
  let used := opBytes (field b 0 1) (field b 4 1)
  (List.range 64).all fun i => i < 4 || used.any (fun u => u.1 ≤ i && i < u.1 + u.2) || b.getD i 0 = 0

/-- A pointer field: bits [63:48] and [5:0] zero; a required one is not zero (R229). -/
def pointerOk (b : Bytes) (off : Nat) (required : Bool) : Bool :=
  let v := field b off 8
  v < 2 ^ 48 && v % 64 = 0 && (!required || v ≠ 0)

/-- A value in a range, both ends included. -/
def inside (lo hi v : Nat) : Bool := lo ≤ v && v ≤ hi

/-- A run of envelopes in range and in one block (R16). -/
def State.runOk (s : State) (first n : Nat) : Bool :=
  s.inRange first && s.inRange (first + n - 1) && first / 2 ^ 14 = (first + n - 1) / 2 ^ 14

/-- The die of a descriptor is the target of a change-of-address entry (R303). -/
def State.isTarget (s : State) (k : Nat) : Bool :=
  (List.range 16).any fun i => (s.getF (F.FI_COA_A_STATE i) = 2 ∨ s.getF (F.FI_COA_A_STATE i) = 3) ∧
    dieKey (s.getF (F.FI_COA_A_TGT_ROUTE i)) (s.getF (F.FI_COA_A_TGT_DIE i)) = k ∧
    dieKey (s.getF (F.FI_COA_A_SRC_ROUTE i)) (s.getF (F.FI_COA_A_SRC_DIE i)) ≠ k

/-- A block that only the controller may write: the ledger pair and the home blocks (R98, R236, R325). -/
def State.reservedBlock (s : State) (k b : Nat) : Bool :=
  (s.geo k).blocks ≤ b + 2 || (b = 0 && (k = 0 || k = 16))

/-- A die field: block, page and envelope zero, populated (R238). -/
def State.dieFieldOk (s : State) (v : Nat) : Bool := v < 2 ^ 39 && v % 2 ^ 30 = 0 && s.dieOn (addrDie v)

/-- The members of a stripe layout, as die keys. -/
def State.layout (s : State) (j : Nat) : List Nat := s.img.cfg.layouts.getD j []

/-- The fields of a row address against a layout (R88, R89, R231, R236). -/
def State.rowOk (s : State) (j v : Nat) : Bool :=
  let ms := s.layout j
  let b := addrBlock v
  let n := (s.geo (ms.headD 0)).planes
  j < s.img.cfg.layouts.length && v < 2 ^ 30 && v % 4 = 0 && b % max 1 n = 0 &&
    ms.all fun k => (s.geo k).planes = n && b + n ≤ (s.geo k).blocks && addrPage v < (s.geo k).pages &&
      (List.range n).all fun i => !s.reservedBlock k (b + i)

/-- The open row of a layout, base block and page. -/
def State.rowFind (s : State) (j b p : Nat) : Option Row :=
  s.seq.rows.find? fun r => r.layout = j && r.base = b && r.page = p

/-- The data positions of a row (R90). -/
def State.rowSize (s : State) (j : Nat) : Nat := 14 * 4 * (s.geo ((s.layout j).headD 0)).planes

/-- The field checks of a descriptor: check 2 of R230, as far as the descriptor's own bytes and the image decide it. -/
def State.fieldsOk (s : State) (b : Bytes) (expert : Bool) : Bool :=
  let op := field b 0 1
  let first := field b 8 8
  let count := field b 16 4
  let f4 := field b 4 1
  let target a := s.isTarget (addrDie a)
  reservedZero b && match op with
  | 0x01 => f4 < 8 && (f4 = 0 || expert) && inside 1 16384 count && s.runOk first count && !target first &&
      pointerOk b 20 true && pointerOk b 28 false
  | 0x02 => f4 < 2 && inside 1 16384 count && s.runOk first count && !target first && pointerOk b 20 true
  | 0x03 => pointerOk b 8 true && count % 64 = 0 && pointerOk b 20 true
  | 0x04 => inside 4 16384 count && count % 4 = 0 && first % 4 = 0 && s.runOk first count && !target first &&
      !s.reservedBlock (addrDie first) (addrBlock first) && pointerOk b 20 true && pointerOk b 28 false &&
      (if field b 28 8 = 0 then f4 ≤ 2 && (if f4 = 0 then field b 6 2 = 0 else field b 6 2 ≤ 1820)
       else f4 = 0 && field b 6 2 = 0 && field b 36 8 = 0)
  | 0x05 => s.rowOk (field b 5 1) first && 1 ≤ count && pointerOk b 20 true && pointerOk b 28 false &&
      (if field b 28 8 = 0 then f4 ≤ 2 && (if f4 = 0 then field b 6 2 = 0 else field b 6 2 ≤ 1820)
       else f4 = 0 && field b 6 2 = 0 && field b 36 8 = 0)
  | 0x06 => first % 2 ^ 14 = 0 && s.inRange first && !target first && count = 1 &&
      !s.reservedBlock (addrDie first) (addrBlock first)
  | 0x07 => f4 < 2 && inside 4 64 count && count % 4 = 0 && s.runOk first count && !target first &&
      (let dst := field b 20 8
       dst % 4 = 0 && s.runOk dst count && !target dst && !s.reservedBlock (addrDie dst) (addrBlock dst) &&
         dst / 2 ^ 14 ≠ first / 2 ^ 14)
  | 0x08 => s.rowOk (field b 5 1) first
  | 0x40 => pointerOk b 8 true
  | 0x41 => pointerOk b 8 true
  | 0x42 => inside 1 1023 (field b 4 2)
  | 0x43 => inside 1 1023 (field b 4 2)
  | 0x44 => inside 1 1023 (field b 4 2) && field b 6 1 < 2
  | 0x45 => inside 1 1023 (field b 4 2) || field b 4 2 = 0xFFFF
  | 0x48 => f4 < 2 && inside 1 256 count && s.runOk first count && !target first
  | 0x49 => (field b 4 2 < 384 || field b 4 2 = 0xFFFF) && field b 6 2 ≠ 0
  | 0x4A => (field b 4 2 < 384 || field b 4 2 = 0xFFFF) && field b 6 2 ≠ 0
  | 0x50 => f4 < 8 && s.dieFieldOk first && !target first && inside 1 255 count && pointerOk b 20 true
  | 0x51 => f4 ≠ 0 && s.dieFieldOk first && !target first && pointerOk b 20 true
  | 0x52 => f4 < 8 && s.dieFieldOk first && !target first && pointerOk b 20 true
  | 0x58 => f4 < 64 && field b 5 1 < 4 && s.inRange first && s.inRange (field b 28 8) && first ≤ field b 28 8 &&
      pointerOk b 20 true
  | 0x59 => f4 < 64 && inside 1 3 (field b 5 1) && pointerOk b 20 true
  | 0x5A => true
  | 0x60 => s.dieFieldOk first
  | 0x61 => f4 < 2 && s.dieFieldOk first && (if f4 = 1 then s.dieFieldOk (field b 20 8) else field b 20 8 = 0)
  | 0x62 => f4 < 32
  | 0x70 => (match f4 with
    | 0 => true
    | 1 => inside 1 1024 count && pointerOk b 20 true && pointerOk b 28 true
    | 2 => inside 64 255 (field b 6 2)
    | 3 => expert && field b 5 1 < 2 && first % 4 = 0 && s.inRange first && !target first && pointerOk b 20 true
    | _ => false)
  | _ => false

/-- Some live seal forbids a write of any envelope in a run (R84, R338). -/
def State.sealForbidsRun (s : State) (first n : Nat) : Bool :=
  s.hb.seals.any fun e => e.2.state ≠ 0 && e.2.first < first + n && first ≤ e.2.last && 2 ≤ e.2.live

/-- The die check of a write (R84 step 3). -/
def State.writeDie (s : State) (k : Nat) : Option Nat :=
  let k := s.busDie k
  if s.dieGone k then some St.dieRetired
  else if !s.routeUp (k / 16) then some St.routeDown
  else none

/-- Check 3 of R230 for writes (R84 steps 2 and 3). A row's members' seals are checked for the blocks of the row. -/
def State.writeCheck (s : State) (b : Bytes) : Option Nat :=
  let op := field b 0 1
  let first := field b 8 8
  let count := field b 16 4
  if op = 0x04 then
    if s.sealForbidsRun first count then some St.sealedRegion else s.writeDie (addrDie first)
  else if op = 0x06 then
    if s.sealForbidsRun first (2 ^ 14) then some St.sealedRegion else s.writeDie (addrDie first)
  else if op = 0x07 then
    if s.sealForbidsRun (field b 20 8) count then some St.sealedRegion else none
  else if op = 0x05 then
    let ms := s.layout (field b 5 1)
    let n := (s.geo (ms.headD 0)).planes
    if ms.any (fun k => (List.range n).any fun i => s.sealForbidsRun (mkAddr k (addrBlock first + i) (addrPage first) 0) 4) then
      some St.sealedRegion
    else none
  else none

/-- A descriptor whose check 2 ends with its metadata, which is read after admission: PROGRAM and PROGRAM_STRIPE (R230, R235). -/
def checksLate (b : Bytes) : Bool := field b 0 1 = 0x04 || field b 0 1 = 0x05

/-- In LOCKDOWN a seal command is refused without a look at its password (R366, R368): the mode, which is SAFE then, does not refuse it
before that (DEDUCED, log 112). -/
def State.sealsShut (s : State) (op : Nat) : Bool := s.secState = 3 && (op = 0x58 || op = 0x59)

/-- The status with which an admitted descriptor completes at once, none where it goes on (R230, R368). -/
def State.admitStatus (s : State) (b : Bytes) (expert : Bool) : Option Nat :=
  let shut := s.sealsShut (field b 0 1)
  if !shut && !(opModes (field b 0 1) (field b 4 1)).contains s.modeNow then some St.wrongMode
  else if !s.fieldsOk b expert then some St.malformed
  else if shut then some St.sealedRegion
  else if checksLate b then none
  else s.writeCheck b

/-- The stop cause of Table 9-1 of an entry of SQ `n`, 0 for none (R212). -/
def State.entryCause (s : State) (n : Nat) (e : Cached) : Nat :=
  let op := field e.bytes 0 1
  let flags := field e.bytes 1 1
  if e.bad = 5 then 5
  else if !(ioOps.contains op || adminOps.contains op) then 1
  else if flags % 16 ≠ 0 then 2
  else if bit flags 4 && !(s.expertOpen && s.secState ≠ 3) then 3
  else if (n = 0) ≠ adminOps.contains op then 4
  else e.bad

end Sys2Proof.Machine
end

