-- ==== Sys2Proof/Machine/Plan.lean ====
section
/-! DEFINITION. Scan plans: their checks, the header tests, predicates, records, and the end of a scan (R174 to R193, R197). -/

namespace Sys2Proof.Machine

/-! ### The plan (R174 to R178) -/

/-- The stream count. -/
def planN (p : Bytes) : Nat := field p 5 1

/-- A flag: 0 ZONE_SKIP, 1 WINDOW, 2 FAIL_SKIP, 3 HEADER_AGG. -/
def planFlag (p : Bytes) (i : Nat) : Bool := bit (field p 9 1) i

/-- The output kind: 0 SLABS, 1 BITMAP, 2 COMPACT, 3 AGGREGATE. -/
def planOut (p : Bytes) : Nat := field p 13 1

/-- The item count. -/
def planItems (p : Bytes) : Nat := field p 16 4

/-- The format of stream `i`. -/
def planFormat (p : Bytes) (i : Nat) : Nat := field p (64 + 16 * i + 4) 1

/-- The postmark bounds without their quality bits. -/
def planStart (p : Bytes) : Nat := field p 24 10 / 4 * 4

/-- The end of the window without its quality bits. -/
def planEnd (p : Bytes) : Nat := field p 34 10 / 4 * 4

/-- A SCAN reads header-first (R182). -/
def planHeaderFirst (p : Bytes) : Bool := planFlag p 0 || planFlag p 1 || planFlag p 3

/-- A predicate: its stream, operation, INVERT and constants (R175). -/
def planPred (p : Bytes) (k : Nat) : Nat × Nat × Bool × Nat × Nat :=
  let e := slice p (128 + 16 * k) 16
  (field e 0 1, field e 1 1 % 16, bit (field e 1 1) 7, field e 4 4, field e 8 4)

/-- A constant of a predicate of a format (R176). -/
def predConst (format v : Nat) : Int := if format = 2 then signed 32 v else (v : Int)

/-- A constant lies in its format's sample range. -/
def constOk (format v : Nat) : Bool :=
  let x := predConst format v
  if format = 2 then decide (-(2 ^ 17) ≤ x ∧ x < 2 ^ 17) else decide (v < 2 ^ 18)

/-- A predicate passes the checks of R175 and R176. -/
def predOk (p : Bytes) (k : Nat) : Bool :=
  let e := slice p (128 + 16 * k) 16
  let (st, op, inv, a, b) := planPred p k
  let fmt := planFormat p st
  field e 2 2 = 0 && field e 12 4 = 0 && bits (field e 1 1) 4 3 = 0 && match op with
  | 0 => st = 0 && !inv && a = 0 && b = 0
  | 4 => decide (st < planN p) && constOk fmt a && constOk fmt b && decide (predConst fmt a ≤ predConst fmt b)
  | 5 => decide (st < planN p) && decide (a < 2 ^ 18) && b = 0
  | 6 => decide (st < planN p) && decide (a < 256) && decide (b < 256)
  | 7 => decide (st < planN p) && a = 0 && b = 0
  | _ => decide (op ≤ 3) && decide (st < planN p) && constOk fmt a && b = 0

/-- A stream entry passes the checks of R174 and R175. -/
def streamOk (p : Bytes) (i : Nat) : Bool :=
  let e := slice p (64 + 16 * i) 16
  if planN p ≤ i then e.all (· = 0)
  else (field e 4 1 = 1 || field e 4 1 = 2) && field e 5 1 < 2 && (slice e 6 10).all (· = 0)

/-- The smallest capacity of a plan (R178, R190). -/
def planCapacity (p : Bytes) : Nat :=
  match planOut p with
  | 0 => 128 + 4096 * planN p
  | 1 => 64 + 320
  | 2 => 128 + (1820 * 4 * (planN p + 1) + 63) / 64 * 64
  | _ => 192

/-- The plan's own checks (R174 to R178). -/
def planOk (p : Bytes) : Bool :=
  slice p 0 5 = [0x45, 0x4E, 0x53, 0x50, 1] && (1 ≤ planN p && planN p ≤ 4) && field p 6 2 = 0 && field p 8 1 < 128 &&
    field p 9 1 < 16 && (!planFlag p 1 || (field p 10 1 < 4 && decide (planStart p < planEnd p))) && field p 11 1 < planN p &&
    field p 12 1 < 2 && planOut p < 4 && field p 14 2 = 0 && (1 ≤ planItems p && planItems p ≤ 16777216) && field p 44 4 = 0 &&
    field p 56 8 = 0 && (field p 48 8 ≠ 0 && field p 48 8 < 2 ^ 48 && field p 48 8 % 64 = 0) &&
    (!planFlag p 3 || planOut p = 3) && (field p 12 1 = 1 || planN p = 1) && (List.range 4).all (streamOk p) &&
    (List.range 8).all (predOk p)

/-- Where a continuation token starts, none where it is not valid (R197). -/
def tokenStart (p tok : Bytes) : Option (Nat × Nat) :=
  if (slice tok 0 16).all (· = 0) then some (0, 0)
  else if field tok 8 4 = crc32c (slice p 0 256) ∧ field tok 12 4 = 0 ∧ field tok 0 4 < planItems p then
    some (field tok 0 4, field tok 4 4)
  else none

/-! ### Items (R179, R180) -/

/-- The addresses of an item, and whether its own bytes, apart from the addresses' ranges, are wrong. -/
def itemAddrs (p item : Bytes) : List Nat × Bool :=
  if field p 12 1 = 0 then
    let a := field item 0 8
    let n := field item 8 4
    let good := 1 ≤ n ∧ n ≤ 16384
    let bad := ¬good ∨ field item 12 4 ≠ 0 ∨ 2 ^ 48 ≤ a ∨ 2 ^ 14 < a % 2 ^ 14 + n
    ((List.range (if good then n else 1)).map (a + ·), decide bad)
  else
    let n := planN p
    ((List.range n).map fun i => field item (8 * i) 8, (slice item (8 * n) (32 - 8 * n)).any (· ≠ 0))

/-! ### The tree (R177) and the zone values (R184) -/

/-- The root of the tree over eight inputs; `join true` is OR. -/
def treeRoot {α : Type} (tree : Nat) (join : Bool → α → α → α) (l : List (Option α)) : Option α :=
  let node (i : Nat) (x y : Option α) : Option α := match x, y with
    | none, y => y
    | x, none => x
    | some a, some b => some (join (bit tree i) a b)
  let leaf (k : Nat) : Option α := (l.getD k none)
  let low (i : Nat) : Option α := node i (leaf (2 * i)) (leaf (2 * i + 1))
  node 6 (node 4 (low 0) (low 1)) (node 5 (low 2) (low 3))

/-- A predicate's zone value (Table 8-3): 0 NEVER, 1 MAYBE, 2 ALWAYS. -/
def zonePred (op : Nat) (lo hi a b : Int) : Nat :=
  match op with
  | 1 => if a < lo ∨ hi < a then 0 else if lo = a ∧ hi = a then 2 else 1
  | 2 => if a ≤ lo then 0 else if hi < a then 2 else 1
  | 3 => if a < lo then 0 else if hi ≤ a then 2 else 1
  | 4 => if hi < a ∨ b < lo then 0 else if a ≤ lo ∧ hi ≤ b then 2 else 1
  | 7 => 2
  | _ => 1

/-- The zone value of a position from its streams' headers (R184); an absent root is ALWAYS. -/
def zoneValue (p : Bytes) (hs : List Header) : Nat :=
  let leaf (k : Nat) : Option Nat :=
    let (st, op, inv, a, b) := planPred p k
    if op = 0 then none
    else
      let fmt := planFormat p st
      let h := hs.getD st {}
      let v := zonePred op (sampleVal fmt h.zmin) (sampleVal fmt h.zmax) (predConst fmt a) (predConst fmt b)
      some (if inv then 2 - v else v)
  (treeRoot (field p 8 1) (fun or x y => if or then max x y else min x y) ((List.range 8).map leaf)).getD 2

/-- A predicate on one row (Table 8-2), before INVERT. -/
def rowPred (op fmt raw status a b : Nat) : Bool :=
  let x := sampleVal fmt raw
  match op with
  | 1 => x = predConst fmt a
  | 2 => x < predConst fmt a
  | 3 => x ≤ predConst fmt a
  | 4 => predConst fmt a ≤ x && x ≤ predConst fmt b
  | 5 => raw &&& a ≠ 0
  | 6 => status &&& a = b
  | _ => true

/-- A row qualifies (R177, R187); `pays` are the streams' payloads. -/
def rowQualifies (p : Bytes) (pays : List Bytes) (i : Nat) : Bool :=
  let leaf (k : Nat) : Option Bool :=
    let (st, op, inv, a, b) := planPred p k
    if op = 0 then none
    else
      let pay := pays.getD st []
      some (rowPred op (planFormat p st) (slabSample pay i) (field pay 4095 1) a b != inv)
  (treeRoot (field p 8 1) (fun or x y => if or then x || y else x && y) ((List.range 8).map leaf)).getD true

/-! ### The header tests (R182 to R186) -/

/-- What is known of a stream of a position. -/
inductive Head where
  | pending
  | erased
  | failed (status : Nat)
  | undecoded
  | known (content : Bytes)
  deriving DecidableEq, Repr

/-- What is known of stream `i` of a position: its final read, else its header. -/
def Position.head (p : Position) (i : Nat) : Head :=
  match p.res.getD i none with
  | some r => if r.status = St.erased then .erased else if isFailure r.status then .failed r.status else .known r.content
  | none => match p.hdrs.getD i none with
    | some (2, _) => .erased
    | some (3, _) => .undecoded
    | some (_, c) => .known c
    | none => .pending

/-- The exception cause of a stream's header against the plan, 0 for none (R185). -/
def alignCause (p : Bytes) (i : Nat) (h h0 : Header) : Nat :=
  let e := slice p (64 + 16 * i) 16
  if bit (field e 5 1) 0 ∧ h.column ≠ field e 0 4 then 1
  else if h.format ≠ field e 4 1 then 2
  else if i ≠ 0 ∧ h.slab ≠ h0.slab then 3
  else if i ≠ 0 ∧ h.count ≠ h0.count then 4
  else if 1820 < h.count then 6
  else 0

/-- What the header tests decide: an outcome as a position carries it (0: a payload is needed first; 7: rows are evaluated), with
status, cause and stream of a failure. -/
structure Verdict where
  outcome : Nat
  status : Nat := 0
  cause : Nat := 0
  stream : Nat := 0
  deriving DecidableEq, Repr

/-- The first stream, in stream order, that fails or is not decoded (R182, R185, R192). -/
def alignGo (p : Bytes) (h0 : Header) : List (Nat × Head) → Option Verdict
  | [] => none
  | (i, .failed st) :: _ => some { outcome := 6, status := st, stream := i }
  | (i, .erased) :: _ => some { outcome := 6, status := St.malformed, cause := 4, stream := i }
  | (i, .undecoded) :: _ => some { outcome := 0, stream := i }
  | (i, .pending) :: _ => some { outcome := 0, stream := i }
  | (i, .known c) :: l =>
    let k := alignCause p i (Header.parse c) h0
    if k ≠ 0 then some { outcome := 6, status := St.malformed, cause := k, stream := i } else alignGo p h0 l

/-- A failing stream among some. -/
def failedHead : List (Nat × Head) → Option Verdict
  | [] => none
  | (i, .failed st) :: _ => some { outcome := 6, status := st, stream := i }
  | _ :: l => failedHead l

/-- The header tests of a position (R182 to R186), `x` being `ENS_SO_X`. -/
def headerTests (p : Bytes) (x : Nat) (heads : List Head) : Verdict :=
  let l := heads.mapIdx fun i h => (i, h)
  if heads.headD .pending = .erased then (failedHead l).getD { outcome := 3 }
  else
    let hs := heads.map fun h => (match h with | .known c => Header.parse c | _ => {})
    let h0 := hs.headD {}
    match alignGo p h0 l with
    | some v => v
    | none =>
      let t := h0.postmark / 4 * 4
      if planFlag p 1 && !(decide (planStart p ≤ t) && decide (t < planEnd p) && decide (field p 10 1 ≤ h0.postmark % 4)) then
        { outcome := 2 }
      else if h0.count = 0 ∨ (planFlag p 0 ∧ bit x 0 = false ∧ zoneValue p hs = 0) then { outcome := 1 }
      else if planFlag p 3 && !bit x 0 && !bit x 1 && zoneValue p hs = 2 then { outcome := 4 }
      else { outcome := 7 }

/-! ### Records (R188 to R191) -/

/-- The 64 bytes of a record header (Table 8-5). -/
def recordHead (type n cls cause len addr item env rows status : Nat) (content : Bytes) : Bytes :=
  leBytes 1 type ++ leBytes 1 n ++ leBytes 1 cls ++ leBytes 1 cause ++ leBytes 4 len ++ leBytes 8 addr ++ leBytes 4 item ++
    leBytes 4 env ++ leBytes 2 rows ++ leBytes 2 (status % 2 ^ 12) ++ slice content 0 30 ++ List.replicate 6 0

/-- A payload of a stream of a position. -/
def Position.payload (p : Position) (i : Nat) : Bytes := ((p.res.getD i none).map EnvRes.payload).getD []

/-- The body of a record (R190). -/
def recordBody (plan : Bytes) (p : Position) : Bytes :=
  let n := planN plan
  match planOut plan with
  | 0 => ((List.range n).map fun i => slice (p.payload i) 0 4096).flatten
  | 1 => leBytes 256 (p.rows.foldl (fun m i => m + 2 ^ i) 0)
  | _ =>
    let row (i : Nat) : Bytes := leBytes 4 i ++ ((List.range n).map fun k =>
      leBytes 4 (unsigned 32 (sampleVal (planFormat plan k) (slabSample (p.payload k) i)))).flatten
    let b := (p.rows.map row).flatten
    b ++ List.replicate ((64 - b.length % 64) % 64) 0

/-- The record of an evaluated position with qualifying rows. -/
def positionRecord (plan : Bytes) (p : Position) : Bytes :=
  let body := recordBody plan p
  let cls := if p.res.any fun r => (match r with | some e => e.status = St.reconstructed | none => false) then 1 else 0
  let content := match p.head 0 with | .known c => c | _ => []
  recordHead (planOut plan + 1) (planN plan) cls 0 (64 + body.length) (p.addrs.headD 0) p.item p.env p.rows.length 0 content ++ body

/-- The exception record of a failing position (Table 8-5): its content is that of the failing envelope where it decoded. -/
def exceptionRecord (plan : Bytes) (p : Position) : Bytes :=
  let content := match p.head p.failAt with | .known c => c | _ => []
  recordHead 4 (planN plan) 2 p.cause 64 (p.addrs.getD p.failAt 0) p.item p.env 0 p.status content

/-- A position's partial under AGGREGATE: count, sum, sum of squares, and minimum and maximum (R186, R191). -/
def positionPartial (plan : Bytes) (p : Position) : Nat × Int × Nat × Option (Int × Int) :=
  let st := field plan 11 1
  let fmt := planFormat plan st
  if p.outcome = 4 then
    let h := match p.head st with | .known c => Header.parse c | _ => {}
    (h.count, 0, 0, some (sampleVal fmt h.zmin, sampleVal fmt h.zmax))
  else
    let vs := p.rows.map fun i => sampleVal fmt (slabSample (p.payload st) i)
    let sums := !planFlag plan 3
    (vs.length, if sums then vs.sum else 0, if sums then ((vs.map fun v => v * v).sum).toNat else 0,
      match vs with | [] => none | v :: l => some (l.foldl min v, l.foldl max v))

/-- Fold a partial into the totals (R191). -/
def Scan.fold (c : Scan) (part : Nat × Int × Nat × Option (Int × Int)) : Scan :=
  let (n, x, xx, mm) := part
  let count := c.count + n
  let sum := c.sum + x
  let sumSq := c.sumSq + xx
  let cs := bit c.sat 3 || decide (2 ^ 64 ≤ count)
  let ss := bit c.sat 1 || decide (2 ^ 63 ≤ sum ∨ sum < -(2 ^ 63))
  let qs := bit c.sat 2 || decide (2 ^ 80 ≤ sumSq)
  { c with
    count := if bit c.sat 3 then c.count else min (2 ^ 64 - 1) count
    sum := if bit c.sat 1 then c.sum else clampInt (-(2 ^ 63)) (2 ^ 63 - 1) sum
    sumSq := if bit c.sat 2 then c.sumSq else min (2 ^ 80 - 1) sumSq
    minMax := match c.minMax, mm with | none, m => m | m, none => m | some a, some b => some (min a.1 b.1, max a.2 b.2)
    sat := 2 * (if ss then 1 else 0) + 4 * (if qs then 1 else 0) + 8 * (if cs then 1 else 0) }

/-- The aggregate record (Table 8-6). -/
def Scan.aggregate (c : Scan) : Bytes :=
  let noSum := planFlag c.plan 3
  let mm := c.minMax.getD (0, 0)
  let empty := c.count = 0
  leBytes 1 5 ++ leBytes 1 (field c.plan 11 1) ++ leBytes 1 (c.sat + (if empty then 1 else 0) + (if noSum then 16 else 0)) ++ [0] ++
    leBytes 4 64 ++ leBytes 8 c.count ++ leBytes 8 (unsigned 64 (if noSum then 0 else c.sum)) ++
    leBytes 4 (if empty then 0 else unsigned 32 mm.1) ++ leBytes 4 (if empty then 0 else unsigned 32 mm.2) ++
    leBytes 10 (if noSum then 0 else c.sumSq) ++ List.replicate 22 0

/-- The first position that has not retired (R188, R245): none at the end of the plan. -/
def Scan.unretired (c : Scan) : Option (Nat × Nat) :=
  match c.positions with
  | p :: _ => some (p.item, p.env)
  | [] => if c.nextItem < planItems c.plan then some (c.nextItem, if c.nextItem = c.first.1 then c.first.2 else 0) else none

/-- The token bytes of a position (R197). -/
def tokenBytes (plan : Bytes) (t : Option (Nat × Nat)) : Bytes :=
  match t with
  | some (i, e) => leBytes 4 i ++ leBytes 4 e ++ leBytes 4 (crc32c (slice plan 0 256)) ++ List.replicate 4 0
  | none => List.replicate 16 0

/-- The summary (Table 8-4). -/
def Scan.summary (c : Scan) : Bytes :=
  leBytes 4 c.records ++ leBytes 4 c.out ++ (c.tally.map (leBytes 4)).flatten ++ leBytes 4 c.recon ++ leBytes 8 c.rows ++
    tokenBytes c.plan (match c.stop with | some t => some t | none => c.unretired)

/-! ### The end of a scan (R188, R191, R193) -/

/-- The status of a scan that ends by itself (R193). -/
def Scan.endStatus (c : Scan) : Nat :=
  match c.fail with
  | some st => st
  | none =>
    if c.partialEnd then St.partialScan
    else if c.seen.contains St.reconstructed then St.reconstructed
    else if c.seen.contains St.soft then St.soft
    else if c.seen.contains St.adjusted then St.adjusted
    else St.ok

/-- Show the active and waiting scans (Table 8-12). -/
def State.scanShow (s : State) : State :=
  (s.setF F.SO_STATUS_ACTIVE (s.so.scans.countP (·.active))).setF F.SO_STATUS_WAITING
    (min 1023 (s.so.scans.countP fun c => !c.active))

/-- A SCAN completes, and is counted (Table 8-12). -/
def State.scanFinish (s : State) (id st count : Nat) : State := (s.bump R.SO_CNT_SCANS).finish id st count

/-- The summary of a SCAN whose plan was never read: nothing retired, and its own token (R188, R245). -/
def unreadSummary (d : Desc) : Bytes :=
  leBytes 4 0 ++ leBytes 4 64 ++ List.replicate 40 0 ++ slice d.bytes 32 16

/-- A SCAN whose plan was never read writes its summary where its buffer holds one (R188). -/
def State.summaryUnread (s : State) (d : Desc) : State :=
  if 64 ≤ field d.bytes 16 4 then s.fab (field d.bytes 20 8) (unreadSummary d) else s

/-- A scan ends: the aggregate record after the last record, but not after a buffer fault (R245), then the summary; its
slots go back and its descriptor finishes with a status. -/
def State.closeScan (s : State) (c : Scan) (st : Nat) (fault : Bool) : State :=
  let agg := planOut c.plan = 3 ∧ fault = false
  let s := if agg then s.fab (c.buffer + c.out) c.aggregate else s
  let c : Scan := if agg then { c with out := c.out + 64, records := c.records + 1 } else c
  let s := s.fab c.buffer c.summary
  let s : State := { s with so := { s.so with scans := s.so.scans.filter fun x => x.id ≠ c.id,
                                              requests := s.so.requests.filter fun x => x.2 ≠ c.id } }
  (s.scanShow.floorShow (c.positions.map Position.route)).scanFinish c.id st c.records

end Sys2Proof.Machine
end

