-- ==== Sys2Proof/Machine/Safe.lean ====
section
/-! DEFINITION. Entering a mode and entering SAFE: what every unit that can cause SAFE shares (R12, R346, R358, R361). -/

namespace Sys2Proof.Machine

/-- The power islands of a mode (Table 16-5): 0 off, 1 gated or in retention, 2 on. -/
def State.islands (s : State) (m : Nat) : State :=
  let off := m = 0 ∨ m = 8
  let core := if off then 0 else if m = 7 then 1 else 2
  let dec := if off then 0 else if m = 7 then (if s.getF F.PWR_X_HOLD_DEC_ON = 1 then 2 else 1) else if m = 2 ∨ m = 10 then 1 else 2
  ((s.setF F.PWR_STATUS_CORE core).setF F.PWR_STATUS_DEC dec).setF F.PWR_STATUS_SRAM core

/-- The states of `ENS_IMG_STATUS.STATE` (R44): 0 EMPTY, 1 FETCHING, 2 VERIFYING, 3 STAGED, 4 DRAINING, 5 SEAM, 6 APPLIED,
7 REJECTED. Outside them a cause and the section at fault are shown for REJECTED alone. -/
def State.imgState (s : State) (st cause sec : Nat) : State :=
  let s := ((s.setF F.IMG_STATUS_STATE st).setF F.IMG_STATUS_CAUSE cause).setF F.IMG_STATUS_SECTION sec
  let s : State := if st = 0 ∨ st = 6 ∨ st = 7 then { s with img := { s.img with staging := [] } } else s
  if st = 6 ∨ st = 7 then s.fire 5 else s

/-- The routes of an abandoned or ended apply carry traffic again, under the values in force (R52, R53), but for one
that drains for a DOWN_REQ or a retrain as well (R124, R126). -/
def State.drainRelease (s : State) : State :=
  let s := s.img.draining.foldl (fun s r =>
    let x := s.route r
    let s := s.setRoute r { x with drainImage := false, drained := false }
    if s.routeSt r = 3 ∧ ¬(x.drainDown ∨ x.drainRetrain ∨ x.retrain) then s.setF (F.RT_STATUS_STATE r) 2 else s) s
  (({ s with img := { s.img with draining := [], boundary := false } }) : State).guardUpdate

/-- A mode that honours no LOAD empties staging (R50): a fetch, a verification, a staged image or an apply in progress is gone. A seam that
ends so is recorded, with a time that no rule gives (R53; log 93). -/
def State.emptyStaging (s : State) : State :=
  let st := s.getF F.IMG_STATUS_STATE
  let s : State := { s with img := { s.img with staging := [] } }
  if 1 ≤ st ∧ st ≤ 3 then s.imgState 0 0 0
  else if st = 4 then s.drainRelease.imgState 0 0 0
  else if st = 5 then
    let (v, s) := s.draw
    ((s.setF F.IMG_SEAM_TIME_LAST v.toNat).drainRelease).imgState 0 0 0
  else s

/-- The mode becomes `m` (R12, R350): PREV is the mode before, expert access closes, no change is in progress, and a mode that
honours no LOAD empties staging (R50). The MODE source fires (Table 11-1). -/
def State.setMode (s : State) (m : Nat) : State :=
  let s := (s.setF F.MODE_PREV s.modeNow).setF F.MODE_MODE m
  let s := if m = 10 then s else s.setF F.MODE_SAFE_CAUSE 0
  let s := (s.setF F.MODE_CHANGING 0).setF F.SEC_STATUS_EXPERT_OPEN 0
  let s : State := { s with mode := { s.mode with target := none } }
  let s := if [2, 4, 5, 11].contains m then s else s.emptyStaging
  (s.islands m).guardUpdate.fire 1

/-- What an operation is for, and for a re-erase what the program that stands aside for it is for (R110). -/
def State.purposes (s : State) (o : DieOp) : List Purpose :=
  o.purpose ++ (s.seq.ahead.filter fun a => o.purpose.contains (.eraseAhead a.id)).flatMap DieOp.purpose

/-- An operation in a die works for a descriptor. -/
def State.opServes (s : State) (o : DieOp) (id : Nat) : Bool :=
  (s.purposes o).any (fun p => match p with
    | .progDesc i => i = id
    | .eraseDesc i => i = id
    | .progRow r _ => s.seq.rows.any fun x => x.id = r && x.waits.any fun w => w.1 = id
    | .progHome => s.hb.commit.any fun c => c.desc = some id
    | .eraseHome => s.hb.commit.any fun c => c.desc = some id
    | _ => false) ||
    o.jobs.any fun j => (match s.job? j with
      | some x => (match x.dest with
        | .desc i _ => i = id
        | .scan i _ _ => i = id
        | .raw i => i = id
        | .cal i _ => i = id
        | _ => false)
      | none => false)

/-- Some operation of a descriptor is in a die. -/
def State.descInDie (s : State) (id : Nat) : Bool :=
  s.seq.dies.any fun e => (e.2.op.any fun o => s.opServes o id) || (e.2.next.any fun o => s.opServes o id) ||
    (e.2.held.any fun o => s.opServes o id)

/-- What a descriptor has counted so far (R398): good envelopes of a READ, records of a READ_HEADERS, else its running count. -/
def Desc.doneCount (d : Desc) : Nat :=
  if d.op = 0x01 then d.results.countP fun r => (match r with | some e => !isFailure e.status | none => false)
  else if d.op = 0x02 then d.results.countP Option.isSome
  else d.count

/-- In SAFE, every admitted descriptor completes ABORTED once its die operations have ended (R358 step 4); a SCAN writes its summary
(R188). -/
def State.safeAbort (s : State) : State :=
  ((s.descs.filter fun d => d.status.isNone && !s.descInDie d.id).foldl (fun s d =>
    match s.so.scans.find? (·.id = d.id) with
    | some c => s.closeScan c St.aborted false
    | none => if d.op = 0x03 then (s.summaryUnread d).scanFinish d.id St.aborted 0 else s.finish d.id St.aborted d.doneCount) s).together
    s.seq.nextId

/-- A row has a member's program in a die. -/
def State.rowInDie (s : State) (row : Nat) : Bool :=
  s.seq.dies.any fun e => [e.2.op, e.2.next, e.2.held].any fun o => o.any fun o => (s.purposes o).any fun p => match p with
    | .progRow r _ => r = row
    | _ => false

/-- SAFE settles what an ended operation leaves: its descriptors complete ABORTED, and a row no die works for is gone. -/
def State.safeSettle (s : State) : State :=
  if s.modeNow = 10 then
    let s := s.safeAbort
    { s with seq := { s.seq with rows := s.seq.rows.filter fun r => s.rowInDie r.id } }
  else s

/-- What SAFE leaves of the work on a die (R358): an operation none of whose commands has been issued goes, and so does page data
that is not being transferred; what the array runs goes on to its end. -/
def State.safeDie (s : State) (k : Nat) : State :=
  let d := s.die k
  let only (o : DieOp) : DieOp := { o with jobs := o.jobs.filter fun j => d.moving = some j || d.run.contains j }
  let idle : Die := { d with op := none, next := none, want := none, parked := false, ready := false, series := 0 }
  match s.dieSt k with
  | 1 => s.setDie k idle
  | 3 => s.setDie k { d with op := d.op.map only, want := none }
  | 4 => if d.moving.isNone then (s.setDie k idle).setDieSt k 1 else s.setDie k { d with op := d.op.map only, next := none, want := none }
  | _ => if d.want = some .suspend then s.setDie k { d with want := none } else s

/-- The re-erase that a program stands aside for is in a die. -/
def State.aheadInDie (s : State) (o : DieOp) : Bool :=
  s.seq.dies.any fun e => [e.2.op, e.2.held].any fun x => x.any fun x => x.purpose.contains (.eraseAhead o.id)

/-- A job is in an operation that is in a die. -/
def State.jobInDie (s : State) (j : Job) : Bool :=
  s.seq.dies.any fun e => [e.2.op, e.2.next].any fun o => o.any fun o => o.jobs.contains j.id

/-- Record how a calibration ended in `ENS_RC_CAL_RESULT` (R165): outcome 1 stored, 2 rejected, 3 aborted. -/
def State.calResult (s : State) (k g outcome cause thresh diff : Nat) : State :=
  s.setR R.RC_CAL_RESULT (BitVec.ofNat 32 (k / 16 + 2 ^ 5 * (k % 16) + 2 ^ 9 * g + 2 ^ 12 * outcome + 2 ^ 14 * cause + 2 ^ 17 * thresh +
    2 ^ 21 * min 255 diff))

/-- On entry to SAFE (R358): nothing that waits starts any more, what is decoded or held for a descriptor is dropped, admitted
descriptors complete ABORTED, and WP# falls on every route whose programs and erases have ended. The first cause stays; a requested
change that is under way gives way to it (R349, Table 16-3). -/
def State.enterSafe (s : State) (cause : Nat) : State :=
  if s.modeNow = 10 ∨ s.modeNow = 0 then s
  else
    let s := if s.mode.target.isSome then s.setF F.MODE_REQ_RESULT 5 else s
    let s := (s.setF F.MODE_SAFE_CAUSE cause).setMode 10
    let s := (s.seq.dies.map Prod.fst).foldl State.safeDie s
    let s := s.rc.cals.foldl (fun s c => s.calResult c.die c.group 3 0 0 0) s
    let s := if s.hb.commit.isSome then s.raise F.HB_EVENT_COMMIT_FAIL else s
    let s : State := { s with
      seq := { s.seq with waiting := [], jobs := s.seq.jobs.filter s.jobInDie, ahead := s.seq.ahead.filter s.aheadInDie }
      rc := { s.rc with cores := s.rc.cores.map fun e => (e.1, none), decQueue := [], cals := [] }
      so := { s.so with requests := [] }
      fi := { s.fi with ctxs := [] }
      hb := { s.hb with commit := none } }
    let s := s.setF F.HB_STATUS_BUSY 0
    s.safeSettle

/-- Unrecoverable memory loss (R268, R273): MEM_FATAL is raised and the controller enters SAFE with cause 5. -/
def State.memFatal (s : State) : State := (s.raise F.MI_EVENT_MEM_FATAL).enterSafe 5

/-- The origin identity in force (R43): the fuses' when they hold one, else the image's. -/
def State.originId (s : State) : Nat := if s.fuses.origin ≠ 0 then s.fuses.origin else s.getF F.ORIGIN_ORIGIN

end Sys2Proof.Machine
end

