-- ==== Sys2Proof/Machine/Postmark.lean ====
section
/-! DEFINITION. The postmark counter, its discipline and quality, beacons and peers (R310 to R321). -/

namespace Sys2Proof.Machine

/-- The TIME domain runs: its reference ticks and its island is on (R361, R372). -/
def State.timeRuns (s : State) : Bool := s.bnd.timeRefOk && s.modeNow ≠ 0 && s.modeNow ≠ 8

/-- A quotient whose rounding the spec leaves open (log 6). -/
def roundDiv (n d : Int) : Int := n / d + (if n % d ≠ 0 ∧ Config.roundUp n d then 1 else 0)

/-- Show the counter's quality, slew and refusal in the registers and raise what changed since `old` (R315). -/
def State.pmRefresh (s : State) (old : Nat) : State :=
  let q := s.pmQuality
  let s := (s.setF F.PM_STATUS_QUALITY q).setF F.PM_STATUS_SLEWING (b2n (s.pm.slew ≠ 0))
  let s := (s.setF F.PM_STATUS_REFUSING (b2n s.pm.refusing)).setR R.PM_SLEW
    (BitVec.ofNat 32 (min (2 ^ 32 - 1) (roundDiv s.pm.slew (2 ^ 32)).toNat))
  let s := s.setR R.PM_FREQ (BitVec.ofInt 32 (roundDiv s.pm.f 32768))
  let s := if q = 3 ∧ old ≠ 3 then s.raise F.PM_EVENT_LOCKED else s
  let s := if old = 3 ∧ q ≠ 3 then s.raise F.PM_EVENT_LOCK_LOST else s
  if old = 2 ∧ q = 1 then s.raise F.PM_EVENT_HOLDOVER_END else s

/-- Move the counter on by an amount in 2^-32 ns (R310): nanoseconds roll at 10^9, seconds hold at all ones (R322). -/
def Pm.advance (p : Pm) (by_ : Nat) : Pm :=
  let t := p.ns * 2 ^ 32 + p.frac + by_
  let sec := p.sec + t / (10 ^ 9 * 2 ^ 32)
  let t := t % (10 ^ 9 * 2 ^ 32)
  if 2 ^ 48 ≤ sec then p else { p with sec := sec, ns := t / 2 ^ 32, frac := t % 2 ^ 32 }

/-- The counter's own state after a valid edge, or when a slew ends (Table 14-2). -/
def State.pmOwn (s : State) : State :=
  let n := let c := s.getF F.PM_HOLD_X_LOCK_COUNT; if c = 0 then 1 else c
  let own := if s.pm.own = 0 ∨ s.pm.refusing then s.pm.own
    else if n ≤ s.pm.lockRun ∧ s.pm.slew = 0 then 3
    else if s.pm.own = 3 then 2
    else s.pm.own
  { s with pm := { s.pm with own := own } }

/-- POSTMARK_TICK (R310, R313, R314): one TIME cycle; a step decided at the last edge is made first, and a slew falls by 1 ns
for every 1,000 ns advanced. -/
def execPostmarkTick (s : State) : Host.Outcome State Fault Refusal :=
  if s.timeRuns = false then .next s
  else
    let old := s.pmQuality
    let p : Pm := { s.pm.advance (s.pm.stepNs * 2 ^ 32) with stepNs := 0 }
    if p.slew ≠ 0 then
      let adv := (roundDiv (2 ^ 35 * 999) 1000).toNat
      let p : Pm := { p.advance adv with slew := p.slew - (roundDiv adv 1000).toNat }
      .next (({ s with pm := p } : State).pmOwn.pmRefresh old)
    else
      let adv := (2 ^ 35 + roundDiv (p.r * 2 ^ 20) (10 ^ 9)).toNat
      .next { s with pm := p.advance adv }

/-- The loop of R313 for an error of `e` ns, in 2^-15 ppb. -/
def State.pmLoop (s : State) (e : Int) : Int × Int :=
  let lim : Int := max 1 (s.getF F.PM_X_FREQ_MAX) * 1000 * 32768
  let f := clampInt (-lim) lim (s.pm.f + e * 2 ^ (15 - s.getF F.PM_X_KI_SHIFT))
  (f, clampInt (-lim) lim (f + e * 2 ^ (15 - s.getF F.PM_X_KP_SHIFT)))

/-- A valid edge at TAI second `tod` is applied by the first matching row of Table 14-1 (R312). -/
def State.pmEdge (s : State) (tod : Nat) : State :=
  let e : Int := (tod * 10 ^ 9 : Nat) - (s.nowNs : Int)
  let lock : Int := max 1 (s.getF F.PM_X_LOCK_NS)
  let stepMin : Int := max 1 (s.getF F.PM_HOLD_X_STEP_MIN) * 1000
  let s := s.setR R.PM_ERR (BitVec.ofInt 32 (clampInt (-(2 ^ 31)) (2 ^ 31 - 1) e))
  let run := if -lock ≤ e ∧ e ≤ lock then s.pm.lockRun + 1 else 0
  let big := e < -(10 ^ 9) ∨ 10 ^ 9 < e
  let always := s.getF F.PM_CTRL_PERMIT_ALWAYS = 1
  let permit := s.getF F.PM_CTRL_STEP_PERMIT = 1
  if s.pm.own = 0 then
    { s with pm := { s.pm with sec := tod, ns := 0, frac := 0, own := 1, lockRun := run, firstEdge := true, refusing := false } }
  else if big ∧ !always ∧ !permit then
    let first := s.pm.refusing = false
    let s : State := { s with pm := { s.pm with own := 1, lockRun := 0, r := s.pm.f, refusing := true, firstEdge := false } }
    if first then s.raise F.PM_EVENT_STEP_REFUSED else s
  else
    let s := if big ∧ !always then s.setF F.PM_CTRL_STEP_PERMIT 0 else s
    let s : State := { s with pm := { s.pm with lockRun := run, refusing := false, firstEdge := false } }
    if stepMin < e then
      (({ s with pm := { s.pm with stepNs := e.toNat, slew := 0 } } : State)).raise F.PM_EVENT_STEP
    else if e < -stepMin ∨ (s.pm.slew ≠ 0 ∧ e < -lock) then
      { s with pm := { s.pm with slew := (-e).toNat * 2 ^ 32 } }
    else
      let (f, r) := s.pmLoop e
      { s with pm := { s.pm with slew := 0, f := f, r := r } }

/-- PPS_EDGE (R312 to R315): an edge that shows TAI second `tod` and the time unit's quality `tu`, `gap` ns after the previous
valid edge. -/
def execPpsEdge (tod tu gap : Nat) (s : State) : Host.Outcome State Fault Refusal :=
  if s.timeRuns = false ∨ 4 ≤ tu ∨ 2 ^ 48 ≤ tod then .next s
  else
    let old := s.pmQuality
    let s := s.setF F.PM_STATUS_TU_QUALITY tu
    let valid := tu ≠ 0 ∧ (s.pm.firstEdge ∨ (999000000 ≤ gap ∧ gap ≤ 1001000000))
    if valid then .next ((s.pmEdge tod).pmOwn.pmRefresh old) else .next (s.pmRefresh old)

/-- PPS_EDGE_MISSED (R313, R315): no valid edge came; the counter holds over at f, and a locked one is locked no more. -/
def execPpsEdgeMissed (s : State) : Host.Outcome State Fault Refusal :=
  if s.timeRuns = false then .next s
  else
    let old := s.pmQuality
    .next (({ s with pm := { s.pm with lockRun := 0, r := s.pm.f, own := if s.pm.own = 3 then 2 else s.pm.own } } : State).pmRefresh old)

/-- HOLDOVER_EXPIRY (R315): HOLD_MAX has passed since LOCKED was lost. -/
def execHoldoverExpiry (s : State) : Host.Outcome State Fault Refusal :=
  if s.pm.own ≠ 2 then .next s
  else
    let old := s.pmQuality
    .next (({ s with pm := { s.pm with own := 1 } } : State).pmRefresh old)

/-- A write to `ENS_PM_CTRL`: the W1S permit sets, the other fields take the value. -/
def State.pmCtrlWrite (s : State) (v : Nat) : State :=
  let s := if bit v 0 then s.setF F.PM_CTRL_STEP_PERMIT 1 else s
  s.setF ⟨R.PM_CTRL, 1, 7⟩ (bits v 1 7)

/-- The TIME domain stops (R316). -/
def State.timeStop (s : State) : State :=
  if s.bnd.timeRefOk then { s with bnd := { s.bnd with timeRefOk := false } } else s

/-- NOW_NS_READ (R323): the read latches the whole counter and returns postmark bits [31:0]. -/
def State.nowNsRead (s : State) : State :=
  let p := s.postmark
  let s := s.setR R.PM_NOW_NS (BitVec.ofNat 32 p)
  let s := (s.setR R.PM_NOW_SEC_LO (BitVec.ofNat 32 (p / 2 ^ 32))).setR R.PM_NOW_SEC_HI (BitVec.ofNat 32 (p / 2 ^ 64))
  s.emit (.regData R.PM_NOW_NS (BitVec.ofNat 32 p))

/-- NOW_NS_READ (R323, R390). -/
def execNowNsRead (s : State) : Host.Outcome State Fault Refusal :=
  if s.modeNow = 0 ∨ s.modeNow = 8 then .next s else .next s.nowNsRead

/-- The 32 bytes of a beacon (Table 14-4). -/
def State.beacon (s : State) (seq : Nat) : Bytes :=
  let body := [0x45#8, 0x4E#8, 0x53#8, 0x42#8] ++ leBytes 4 s.originId ++ leBytes 4 seq ++ leBytes 10 s.postmark ++
    leBytes 1 s.modeNow ++ leBytes 1 (b2n (s.pm.slew ≠ 0) + 2 * b2n (s.getF F.PM_STATUS_TU_QUALITY = 3)) ++
    leBytes 4 (s.getR R.IMG_GEN).toNat
  body ++ leBytes 4 (crc32c body)

/-- Beacons and peer reads are on, and FAB and TIME run (R318). -/
def State.beaconsOn (s : State) : Bool := s.getF F.PM_BCN_CFG_EN = 1 && s.timeRuns

/-- BEACON_DUE (R318): the next beacon is written. -/
def execBeaconDue (s : State) : Host.Outcome State Fault Refusal :=
  if s.beaconsOn = false then .next s
  else
    let s := s.bump R.PM_BCN_SEQ
    .next (s.fab (s.getF F.PM_BCN_LO_ADDR * 64 + s.getF F.PM_BCN_HI_ADDR * 2 ^ 32) (s.beacon (s.getR R.PM_BCN_SEQ).toNat))

/-- A peer's record is valid: magic and CRC (R319). -/
def peerValid (b : Bytes) : Bool :=
  slice b 0 4 = [0x45#8, 0x4E#8, 0x53#8, 0x42#8] && field b 28 4 = crc32c (slice b 0 28)

/-- One read of peer slot `i` (R319): `ok` is false for a read without a record. -/
def State.peerRead (s : State) (i : Nat) (b : Bytes) (ok : Bool) : State :=
  let p := tget (fun _ => ({} : Peer)) s.pm.peers i
  let put (s : State) (p : Peer) : State := { s with pm := { s.pm with peers := tset (fun _ => ({} : Peer)) s.pm.peers i p } }
  let valid := ok && peerValid b
  let fresh := valid && p.seq ≠ some (field b 8 4)
  let lapsed := bit (s.getR R.PM_PEER_STATUS).toNat i
  let s := if valid ∧ field b 4 4 = s.originId then
      (s.setF ⟨R.PM_PEER_STATUS, 16 + i, 1⟩ 1).raise F.PM_BCN_EVENT_ORIGIN_CLASH else s
  if fresh then
    let s := put s { seq := some (field b 8 4), misses := 0 }
    if lapsed then (s.setF ⟨R.PM_PEER_STATUS, i, 1⟩ 0).raise F.PM_BCN_EVENT_PEER_BACK else s
  else
    let s := put s { p with misses := min 3 (p.misses + 1) }
    if 3 ≤ p.misses + 1 ∧ lapsed = false then (s.setF ⟨R.PM_PEER_STATUS, i, 1⟩ 1).raise F.PM_BCN_EVENT_PEER_LAPSE else s

/-- Log a stale comparison of a kind (R321): 1 image, 2 home block, 3 ledger. -/
def State.genStale (s : State) (kind : Nat) : State :=
  ((s.setF F.PM_GEN_LOG_KIND kind).satF F.PM_GEN_LOG_COUNT).raise F.PM_EVENT_GEN_STALE

/-- Two 32-bit generations lie exactly 2^31 apart (R320, R321). -/
def genApart (a b : Nat) : Bool := (a + 2 ^ 32 - b % 2 ^ 32) % 2 ^ 32 = 2 ^ 31

end Sys2Proof.Machine
end

