-- ==== Sys2Proof/Machine/Image.lean ====
section
/-! DEFINITION. The structure image: its form, its checks in the order of Table 2-5, loading and applying it (R35 to R58, R247,
R283, R395, R396). -/

namespace Sys2Proof.Machine

/-! ### The form of an image -/

/-- A section table entry: index, type, instance, offset, length (R38). -/
structure ImgSec where
  idx : Nat
  type : Nat
  inst : Nat
  off : Nat
  len : Nat
  deriving DecidableEq, Repr

/-- The section table of an image. -/
def imgSecs (b : Bytes) : List ImgSec :=
  (List.range (field b 16 2)).map fun i =>
    let e := 64 + 16 * i
    { idx := i, type := field b e 2, inst := field b (e + 2) 2, off := field b (e + 4) 4, len := field b (e + 8) 4 }

/-- The bytes of the section of a type and instance. -/
def imgSec (b : Bytes) (type inst : Nat) : Option (Nat × Bytes) :=
  ((imgSecs b).find? fun e => e.type = type && e.inst = inst).map fun e => (e.idx, slice b e.off e.len)

/-- The bytes of a section, empty where it is absent. -/
def imgBytes (b : Bytes) (type inst : Nat) : Bytes := ((imgSec b type inst).map Prod.snd).getD []

/-- The index of a section, 0xFF where it is absent. -/
def imgIdx (b : Bytes) (type inst : Nat) : Nat := ((imgSec b type inst).map Prod.fst).getD 0xFF

/-- A section's length obeys the rule of its type (Table 2-2). -/
def secLenOk (type len : Nat) : Bool :=
  match type with
  | 1 => len = 16
  | 2 => len % 32 = 0 && inside 32 256 len
  | 3 => len = 32
  | 4 => len = 96
  | 5 => len % 32 = 0 && inside 32 2048 len
  | 6 => len = 16
  | 7 => len = 72
  | 8 => len = 16
  | 9 => len = 16
  | _ => false

/-- A section entry by itself and against the earlier ones (R38, R41): of two at fault together the later is the one named (DESIGN CHOICE,
log 90). -/
def secOk (b : Bytes) (e : ImgSec) : Bool :=
  let all := imgSecs b
  field b (64 + 16 * e.idx + 12) 4 = 0 && secLenOk e.type e.len && (if e.type = 3 then e.inst < 32 else e.inst = 0xFFFF) &&
    e.off % 8 = 0 && 64 + 16 * all.length ≤ e.off && e.off + e.len ≤ b.length - 200 &&
    (all.take e.idx).all fun f => (f.off + f.len ≤ e.off || e.off + e.len ≤ f.off) && (f.type ≠ e.type || f.inst ≠ e.inst)

/-- The ROUTES mask of an image. -/
def imgMask (b : Bytes) : Nat := field (imgBytes b 1 0xFFFF) 0 4

/-- Cause 0x09: the entry at fault, 0xFF where none is named (R37 to R41). Table 2-5 names no cause for a section count out of its range or
for flag bits that are not zero: they are found here too (DESIGN CHOICE, log 89); so is the order of these checks (log 90). -/
def imgTableFault (b : Bytes) : Option Nat :=
  let n := field b 16 2
  if !inside 9 64 n || field b 18 2 / 2 ≠ 0 || (slice b 28 36).any (· ≠ 0) || (slice b (b.length - 200 + 97) 7).any (· ≠ 0) then some 0xFF
  else match (imgSecs b).find? fun e => !secOk b e with
    | some e => some e.idx
    | none =>
      if [1, 2, 4, 5, 6, 7, 8, 9].any fun t => (imgSec b t 0xFFFF).isNone then some 0xFF
      else match (imgSecs b).find? fun e => e.type = 3 && !bit (imgMask b) e.inst with
        | some e => some e.idx
        | none => if (List.range 32).any fun r => bit (imgMask b) r && (imgSec b 3 r).isNone then some 0xFF else none

/-- All bytes of a range are zero. -/
def zeroRange (b : Bytes) (k n : Nat) : Bool := (slice b k n).all (· = 0)

/-- A geometry class is in range (Table 2-3). -/
def geoOk (g : Bytes) : Bool :=
  inside 1 65536 (field g 0 4) && inside 1 4096 (field g 4 2) && [1, 2, 4].contains (field g 6 1) && field g 7 1 ≤ 1 &&
    1 ≤ field g 8 2 && 1 ≤ field g 10 2 && 1 ≤ field g 12 2 &&
    (let lo := signed 8 (field g 14 1); let hi := signed 8 (field g 15 1)
     decide (-40 ≤ lo ∧ lo ≤ 127 ∧ -40 ≤ hi ∧ lo < hi)) && zeroRange g 16 16

/-- A ROUTE section is in range (Table 2-3). -/
def routeSecOk (r : Nat) (b : Bytes) : Bool :=
  let dies := field b 0 2
  dies ≠ 0 && (2 ≤ r || bit dies 0) && inside 200 4800 (field b 2 2) && field b 2 2 % 200 = 0 && field b 4 1 ≤ 2 &&
    field b 5 1 = 0 && 1 ≤ field b 6 2 &&
    ((List.range 16).all fun d => let c := bits (field b 8 8) (4 * d) 4; c < 8 && (bit dies d || c = 0)) && zeroRange b 16 16

/-- A section's fields lie in their ranges (cause 0x0A, Table 2-3). -/
def secFieldsOk (img : Bytes) (e : ImgSec) : Bool :=
  let b := slice img e.off e.len
  match e.type with
  | 1 => bit (field b 0 4) 0 && bit (field b 0 4) 1 && zeroRange b 4 12
  | 2 => (List.range (e.len / 32)).all fun k => geoOk (slice b (32 * k) 32)
  | 3 => routeSecOk e.inst b
  | 4 => (List.range 32).all fun r => field b r 1 ≤ 8 && field b (32 + 2 * r) 2 ≤ 1024 && (bit (imgMask img) r || field b r 1 = 0)
  | 5 => (List.range (e.len / 2)).all fun k => field b (2 * k) 2 < 512
  | 6 => inside 1 1023 (field b 0 2) && inside 1 1023 (field b 2 2) && inside 1 256 (field b 4 2) && inside 4 16 (field b 6 1) &&
      zeroRange b 7 9
  | 7 => ((List.range 64).all fun x => field b x 1 < 32 && ((x ≠ 0 && !inside 19 31 x) || field b x 1 = 0)) && field b 64 1 < 8 &&
      field b 65 1 = 0 && inside 1 10000 (field b 66 2) && zeroRange b 68 4
  | 8 => field b 0 1 < 4 && inside 1 15 (field b 1 1) && inside 5 50 (field b 2 1) && field b 3 1 = 0 && inside 1 8760 (field b 4 2) &&
      inside 60 65535 (field b 6 2) && zeroRange b 8 8
  | 9 => field b 0 4 < 2 ^ 18 && inside 10 10000 (field b 4 2) && field b 6 1 < 2 && zeroRange b 7 9
  | _ => false

/-- A geometry class of its 32 bytes. -/
def geoParse (g : Bytes) : Geo :=
  { blocks := field g 0 4, pages := field g 4 2, planes := field g 6 1, ext := field g 7 1, tR := field g 8 2, tProg := field g 10 2,
    tBers := field g 12 2, low := signed 8 (field g 14 1), high := signed 8 (field g 15 1) }

/-- A ROUTE section of its 32 bytes. -/
def routeParse (b : Bytes) : RouteCfg :=
  { dies := field b 0 2, rate := field b 2 2, relief := field b 4 1, errLimit := field b 6 2, classes := field b 8 8 }

/-- The fields of an image. -/
def imgParse (b : Bytes) : ImgCfg :=
  let g := imgBytes b 2 0xFFFF
  let pool := imgBytes b 4 0xFFFF
  let st := imgBytes b 5 0xFFFF
  let q := imgBytes b 6 0xFFFF
  let it := imgBytes b 8 0xFFFF
  let tm := imgBytes b 9 0xFFFF
  { gen := field b 12 4, slot := field b 24 4, factory := bit (field b 18 2) 0, mask := imgMask b,
    geos := (List.range (g.length / 32)).map fun k => geoParse (slice g (32 * k) 32),
    routes := (List.range 32).map fun r => if bit (imgMask b) r then routeParse (imgBytes b 3 r) else {},
    cores := (List.range 32).map fun r => field pool r 1, floor := (List.range 32).map fun r => field pool (32 + 2 * r) 2,
    layouts := (List.range (st.length / 32)).map fun j => (List.range 16).map fun m => field st (32 * j + 2 * m) 2,
    maxSq := field q 0 2, maxCq := field q 2 2, quota := field q 4 2, maxRing := field q 6 1, notices := imgBytes b 7 0xFFFF,
    mapOrder := field it 0 1, tol := field it 1 1, floorShare := field it 2 1, round := field it 4 2, lap := field it 6 2,
    origin := field tm 0 4, beacon := field tm 4 2, stepPermit := field tm 6 1 }

/-! ### Consistency -/

/-- A die is populated by an image. -/
def ImgCfg.dieOn (c : ImgCfg) (k : Nat) : Bool := bit c.mask (k / 16) && bit (c.routes.getD (k / 16) {}).dies (k % 16)

/-- The class number a route gives a die. -/
def RouteCfg.cls (r : RouteCfg) (d : Nat) : Nat := bits r.classes (4 * d) 4

/-- The geometry an image gives a die. -/
def ImgCfg.geo (c : ImgCfg) (k : Nat) : Geo := c.geos.getD ((c.routes.getD (k / 16) {}).cls (k % 16)) {}

/-- The placement rules of a layout (R283). -/
def ImgCfg.layoutOk (c : ImgCfg) (ms : List Nat) : Bool :=
  let g := c.geo (ms.headD 0)
  ms.length = 16 && ms.eraseDups.length = 16 && ms.all c.dieOn &&
    ((List.range 32).all fun r => ms.countP (fun k => k / 16 = r) ≤ 2) &&
    ms.all fun k => (c.geo k).planes = g.planes && (c.geo k).pages = g.pages

/-- The numbers of the existing I/O queues of a table. -/
def ioNums {α : Type} (t : Tbl (Option α)) : List Nat := (t.filter fun e => e.1 ≠ 0 && e.2.isSome).map Prod.fst

/-- The limits of R395 against the queues that exist. -/
def State.limitsOk (s : State) (c : ImgCfg) : Bool :=
  !([4, 5, 11].contains s.modeNow) ||
    (((ioNums s.q.sqs).all (· ≤ c.maxSq)) && ((ioNums s.q.cqs).all (· ≤ c.maxCq)) &&
      (s.q.sqs.all fun e => e.1 = 0 || e.2.all fun q => q.k ≤ c.maxRing) &&
      (s.q.cqs.all fun e => e.1 = 0 || e.2.all fun q => q.k ≤ c.maxRing))

/-- Cause 0x0B: the section at fault (Table 2-5), in an order that no rule gives (DESIGN CHOICE, log 90). -/
def State.imgInconsistent (s : State) (b : Bytes) (c : ImgCfg) : Option Nat :=
  let routes := (List.range 32).filter (bit c.mask)
  let dies (r : Nat) : List Nat := (List.range 16).filter (bit (c.routes.getD r {}).dies)
  match routes.find? fun r => (dies r).any fun d => c.geos.length ≤ (c.routes.getD r {}).cls d with
  | some r => some (imgIdx b 3 r)
  | none => match routes.find? fun r => decide (3600 < (c.routes.getD r {}).rate) && (dies r).any fun d => (c.geo (dieKey r d)).ext = 0 with
    | some r => some (imgIdx b 3 r)
    | none =>
      if c.layouts.any fun l => !c.layoutOk l then some (imgIdx b 5 0xFFFF)
      else if 64 < c.cores.sum ∨ 1024 < c.floor.sum then some (imgIdx b 4 0xFFFF)
      else if s.limitsOk c = false then some (imgIdx b 6 0xFFFF)
      else none

/-- The generation rule of R47 in service; SKIP_ROLLBACK counts in OPEN only. -/
def State.imgLater (s : State) (b : Bytes) (c : ImgCfg) : Bool :=
  !([4, 5, 11].contains s.modeNow) || s.getF F.IMG_STATUS_ACTIVE = 0 ||
    (s.getF F.IMG_POLICY_X_SKIP_ROLLBACK = 1 && s.secState = 0) || serialLater 32 c.gen s.img.cfg.gen ||
    (c.gen = s.img.cfg.gen && Config.sha384 b = Config.sha384 s.img.active)

/-! ### Service classes -/

/-- The dies of either image use a class. -/
def classUsed (o n : ImgCfg) (k : Nat) : Bool :=
  [o, n].any fun c => (List.range 512).any fun d => c.dieOn d && (c.routes.getD (d / 16) {}).cls (d % 16) = k

/-- A route's MAINT-class fields differ. -/
def maintDiffers (o n : ImgCfg) (r : Nat) : Bool :=
  let a := o.routes.getD r {}
  let b := n.routes.getD r {}
  bit o.mask r ≠ bit n.mask r || a.dies ≠ b.dies || a.rate ≠ b.rate || a.classes ≠ b.classes

/-- A route's ROUTE-class fields differ. -/
def routeDiffers (o n : ImgCfg) (r : Nat) : Bool :=
  let a := o.routes.getD r {}
  let b := n.routes.getD r {}
  a.relief ≠ b.relief || a.errLimit ≠ b.errLimit

/-- The mode forbids a changed field (R51 step 1, R58): an IMAGE-class field, or a MAINT-class field outside MAINT or of a
route that is not down. -/
def State.imgForbidden (s : State) (n : ImgCfg) : Bool :=
  let o := s.img.cfg
  n.mapOrder ≠ o.mapOrder || n.origin ≠ o.origin || n.layouts.take o.layouts.length ≠ o.layouts ||
    ((List.range 8).any fun k => classUsed o n k && o.geos[k]? ≠ n.geos[k]?) ||
    (List.range 32).any fun r => maintDiffers o n r && (s.modeNow ≠ 11 || s.routeSt r ≠ 0)

/-! ### Verification -/

/-- The slot of a key is fused. -/
def State.slotFused (s : State) (k : Nat) : Bool := s.fuses.keys.getD k [] ≠ []

/-- OPEN with no slot fused (R40). -/
def State.noKeys (s : State) : Bool := s.secState = 0 && s.fuses.keys.all (· = [])

/-- The first failing check of Table 2-5 from LENGTH on, with the section at fault. LEN is the register as it stands when the fetch, and then
the verification, ends: no rule says when it is taken (DESIGN CHOICE, log 91). -/
def State.imgVerify (s : State) (b : Bytes) : Option (Nat × Nat) :=
  let len := s.getF F.IMG_LEN_LEN
  let hl := field b 8 4
  let slot := field b 24 4
  let t := b.length - 200
  let key := slice b t 97
  let c := imgParse b
  if !inside 368 262144 len || len % 8 ≠ 0 || hl ≠ len then some (0x02, 0xFF)
  else if slice b 0 4 ≠ [0x45#8, 0x4E#8, 0x53#8, 0x49#8] ∨ field b 6 2 ≠ 64 then some (0x03, 0xFF)
  else if field b 4 2 ≠ 1 then some (0x04, 0xFF)
  else if field b 20 4 ≠ 0x0F32 then some (0x05, 0xFF)
  else if 3 < slot ∨ bit s.fuses.revoked slot ∨ (!s.noKeys ∧ !s.slotFused slot) then some (0x06, 0xFF)
  else if !s.noKeys ∧ Config.sha384 key ≠ s.fuses.keys.getD slot [] then some (0x07, 0xFF)
  else if !Config.ecdsaP384 key (Config.sha384 (b.take (t + 104))) (slice b (t + 104) 48) (slice b (t + 152) 48) ∨
      (bit (field b 18 2) 0 ∧ s.secState ≠ 0) then some (0x08, 0xFF)
  else match imgTableFault b with
    | some i => some (0x09, i)
    | none => match (imgSecs b).find? fun e => !secFieldsOk b e with
      | some e => some (0x0A, e.idx)
      | none => match s.imgInconsistent b c with
        | some i => some (0x0B, i)
        | none =>
          if (if s.fuses.origin ≠ 0 then c.origin ≠ 0 && c.origin ≠ s.fuses.origin else c.origin = 0) then
            some (0x0C, imgIdx b 9 0xFFFF)
          else if s.imgLater b c = false then some (0x0D, 0xFF)
          else if [4, 5, 11].contains s.modeNow && s.imgForbidden c then some (0x0E, 0xFF)
          else none

/-- Reject with a cause and section, logging a stale generation (R45, R47, R321). -/
def State.imgReject (s : State) (c : ImgCfg) (cause sec : Nat) : State :=
  let s := if cause = 0x0D ∧ genApart c.gen s.img.cfg.gen then s.genStale 1 else s
  s.imgState 7 cause sec

/-- The modes that honour LOAD and APPLY (R50). -/
def State.imgMode (s : State) : Bool := [2, 4, 5, 11].contains s.modeNow

/-- A LOAD (R50, R56): SECURITY before MODE, and a state in which it is ignored. -/
def State.imgLoad (s : State) : State :=
  let st := s.getF F.IMG_STATUS_STATE
  if s.secState = 3 then s.imgState 7 0x0F 0xFF
  else if [1, 2, 4, 5].contains st then s.refuse R.IMG_CTRL
  else if s.imgMode = false then s.imgState 7 0x0E 0xFF
  else ({ s with img := { s.img with staging := [] }, mode := { s.mode with watchImage := false } }).imgState 1 0 0

/-- IMG_FETCH_DONE (R45, R273), with LEN as it stands now (DESIGN CHOICE, log 91). -/
def execImgFetchDone (data : Bytes) (resp : Nat) (s : State) : Host.Outcome State Fault Refusal :=
  if s.getF F.IMG_STATUS_STATE ≠ 1 then .next s
  else if resp = 1 then .next (s.imgState 7 0x01 0xFF)
  else if 3 ≤ resp then
    .next (s.dramUncorr (s.getF F.IMG_ADDR_LO_ADDR * 64 + s.getF F.IMG_ADDR_HI_ADDR * 2 ^ 32 + 16 * (resp - 3))).memFatal
  else
    let s := if resp = 2 then s.dramCorrected else s
    let s : State := { s with img := { s.img with staging := slice data 0 (min 262144 (s.getF F.IMG_LEN_LEN)) } }
    .next (s.imgState 2 0 0)

/-! ### Applying -/

/-- A digest word of `ENS_IMG_DIGEST` (R44): byte 4i in bits [31:24]. -/
def beWord (b : Bytes) (i : Nat) : Nat := leNat (slice b (4 * i) 4).reverse

/-- Load the notice fields that differ from the old image, or all of them (R247, R259). -/
def State.applyNotices (s : State) (o n : Bytes) (full : Bool) : State :=
  let differs (k w : Nat) : Bool := full || field o k w ≠ field n k w
  let s := (List.range 64).foldl (fun s x => if x ≠ 0 ∧ differs x 1 then s.setF (srcField x 0 5) (field n x 1) else s) s
  let s := if differs 64 1 then s.setF F.NTC_CFG_FALLBACK (field n 64 1) else s
  if differs 66 2 then s.setF F.NTC_CFG_REDIRECT (field n 66 2) else s

/-- Load the sorting floor shares (R194): slots in use stay taken (R395). -/
def State.applyFloor (s : State) (c : ImgCfg) : State :=
  ((List.range 32).foldl (fun s r => s.setF (F.SO_FLOOR_SLOTS r) (14 * c.floor.getD r 0)) s).floorShow (List.range 32)

/-- The MAINT-class fields of a route in force differ from an image's (R58). -/
def State.maintPending (s : State) (n : ImgCfg) (r : Nat) : Bool :=
  let a := s.routeCfg r
  let b := n.routes.getD r {}
  bit s.img.effMask r ≠ bit n.mask r || a.dies ≠ b.dies || a.rate ≠ b.rate || a.classes ≠ b.classes

/-- A route's values in force after an apply in service (R58): MAINT-class changes wait for the re-image. -/
def effRoute (old new : RouteCfg) (maint : Bool) : RouteCfg :=
  if maint then { old with relief := new.relief, errLimit := new.errLimit } else new

/-- Copy the staged image into the live tables (R51, R53 step 3, R396). -/
def State.imgActivate (s : State) : State :=
  let b := s.img.staging
  let n := imgParse b
  let o := s.img.cfg
  let full := s.getF F.IMG_STATUS_ACTIVE = 0 ∨ s.modeNow = 2
  let eff := (List.range 32).map fun r => effRoute (s.routeCfg r) (n.routes.getD r {}) (!full && s.maintPending n r)
  let effMask := (List.range 32).foldl (fun m r =>
    if !full && s.maintPending n r then m else setBits m r 1 (b2n (bit n.mask r))) s.img.effMask
  let s : State := { s with img := { s.img with active := b, cfg := n, eff := eff, effMask := effMask, draining := [], boundary := false } }
  let s := s.setR R.IMG_GEN (BitVec.ofNat 32 n.gen)
  let d := Config.sha384 b
  let s := (List.range 12).foldl (fun s i => s.setR (R.IMG_DIGEST i) (BitVec.ofNat 32 (beWord d i))) s
  let s := s.setF F.IMG_KEYS_SLOT n.slot
  let s := s.setF F.ORIGIN_ORIGIN (if s.fuses.origin ≠ 0 then s.fuses.origin else n.origin)
  let s := ((s.applyNotices o.notices n.notices full).applyFloor n).poolFit
  let s := s.setF F.PM_BCN_CFG_PERIOD n.beacon
  let s := if full ∨ o.stepPermit ≠ n.stepPermit then s.setF F.PM_CTRL_PERMIT_ALWAYS n.stepPermit else s
  (s.setF F.IMG_STATUS_ACTIVE 1).guardUpdate

/-- Start the seam (R53 step 1). -/
def State.seamStart (s : State) : State :=
  ({ s with img := { s.img with boundary := false } }).imgState 5 0 0

/-- IMG_VERIFY_DONE (R45, R46, R356): STAGED, or REJECTED with the first failing check. After a wake from WATCH the image is
applied at once where its digest is the kept one, else it is rejected; no table names that cause, which is a free value. -/
def execImgVerifyDone (s : State) : Host.Outcome State Fault Refusal :=
  if s.getF F.IMG_STATUS_STATE ≠ 2 then .next s
  else match s.imgVerify s.img.staging with
    | some (cause, sec) =>
      let s : State := { s with mode := { s.mode with watchImage := false } }
      .next (s.imgReject (imgParse s.img.staging) cause sec)
    | none =>
      if s.mode.watchImage then
        if Config.sha384 s.img.staging = s.mode.keptDigest then .next (s.imgState 3 0 0).seamStart
        else
          let (v, s) := s.draw
          .next (({ s with mode := { s.mode with watchImage := false } }).imgState 7 (v.toNat % 256) 0xFF)
      else .next (s.imgState 3 0 0)

/-- Routes whose ROUTE-class fields change drain (R51 step 2): an UP one reads DRAINING. -/
def State.drainStart (s : State) (rs : List Nat) : State :=
  let s := rs.foldl (fun s r => (s.setRoute r { s.route r with drainImage := true, drained := false }).setF (F.RT_STATUS_STATE r) 3) s
  (({ s with img := { s.img with draining := rs } }).imgState 4 0 0).guardUpdate

/-- An APPLY (R47, R50, R51, R56, R396). With nothing staged it is ignored and logged in every mode, R56 before R50 (DESIGN CHOICE, log 24):
only LOCKDOWN goes before. Every populated route whose ROUTE-class fields change drains, one that drains already with them. -/
def State.imgApply (s : State) : State :=
  let b := s.img.staging
  let n := imgParse b
  if s.secState = 3 then s.imgState 7 0x0F 0xFF
  else if s.getF F.IMG_STATUS_STATE ≠ 3 then s.refuse R.IMG_CTRL
  else if s.imgMode = false then s.imgState 7 0x0E 0xFF
  else if s.modeNow = 2 then s.seamStart
  else if s.limitsOk n = false then s.imgState 7 0x0B (imgIdx b 6 0xFFFF)
  else if s.imgLater b n = false then s.imgReject n 0x0D 0xFF
  else if s.imgForbidden n then s.imgState 7 0x0E 0xFF
  else if n.gen = s.img.cfg.gen ∧ Config.sha384 b = Config.sha384 s.img.active then s.imgState 6 0 0
  else
    let rs := (List.range 32).filter fun r => routeDiffers s.img.cfg n r && s.routeOn r && s.routeUp r
    if rs = [] then s.seamStart else s.drainStart rs

/-- A DISCARD (R56). -/
def State.imgDiscard (s : State) : State :=
  match s.getF F.IMG_STATUS_STATE with
  | 4 => s.drainRelease.imgState 7 0 0xFF
  | 5 => s
  | 0 => s
  | 6 => s
  | _ => s.imgState 0 0 0

/-- A write to `ENS_IMG_CTRL` (R56): more than one command bit is refused as a whole. -/
def State.imgCtrlWrite (s : State) (v : Nat) : State :=
  match v % 8 with
  | 0 => s
  | 1 => s.imgLoad
  | 2 => s.imgApply
  | 4 => s.imgDiscard
  | _ => s.refuse R.IMG_CTRL

/-- SEAM_BOUNDARY_REACHED (R53 step 2): no decoder core has an envelope any more. -/
def execSeamBoundaryReached (s : State) : Host.Outcome State Fault Refusal :=
  if s.inSeam ∧ s.modeNow ≠ 2 ∧ (s.rc.cores.all fun e => e.2.isNone) then .next { s with img := { s.img with boundary := true } } else .next s

/-- The seam is abandoned (R53): the old image stays in force. -/
def State.seamAbandon (s : State) (cycles : Nat) : State :=
  (s.setF F.IMG_SEAM_TIME_LAST cycles).drainRelease.imgState 7 0x10 0xFF

/-- The copy of a seam ends: the new image is in force. In IMAGE nothing was paused, and no seam is recorded. -/
def State.seamCopied (s : State) (cycles : Nat) : State :=
  let rs := s.img.draining
  let image := s.modeNow = 2
  let s := s.imgActivate
  let s : State := { s with img := { s.img with draining := rs } }
  let s := s.drainRelease
  (if image then s else s.setF F.IMG_SEAM_TIME_LAST cycles).imgState 6 0 0

end Sys2Proof.Machine
end

