-- ==== Sys2Proof/Machine/Thresholds.lean ====
section
/-! DEFINITION. The cell model, calibration records, live thresholds, and the pilot drift estimate (R148 to R154, R167). -/

namespace Sys2Proof.Machine

/-! ### The cell model (R148) -/

/-- The bits per cell of a class as written: 5 to 7 act as 0. -/
def State.cellBitsRaw (s : State) (c : Nat) : Nat :=
  let b := bits (s.getF F.RC_CELL_BITS_BITS) (3 * c) 3
  if 4 < b then 0 else b

/-- The bits per cell of a class, 0 for no cell model. -/
def State.cellBits (s : State) (c : Nat) : Nat := if s.rc.badModel.contains c then 0 else s.cellBitsRaw c

/-- The bits per cell of a die's class. -/
def State.dieBits (s : State) (k : Nat) : Nat := s.cellBits (s.dieClass k)

/-- The page type of threshold `j` of a class, j from 1. -/
def State.thrType (s : State) (c j : Nat) : Nat := bits (s.getF (F.RC_CELL_TYPE c)) (2 * j - 2) 2

/-- What a cell in state `st` stores for page type `t`: 1 XOR the parity of the thresholds of the type at or below the state. -/
def State.stateBit (s : State) (c st t : Nat) : Bool :=
  ((List.range st).countP fun i => s.thrType c (i + 1) = t) % 2 = 0

/-- The state whose stored bits are those given per page type. -/
def State.stateOf (s : State) (c b : Nat) (f : Nat → Bool) : Option Nat :=
  firstIdx (2 ^ b) fun st => (List.range b).all fun t => s.stateBit c st t = f t

/-- A class passes the checks of R148. -/
def State.modelOk (s : State) (c : Nat) : Bool :=
  let b := s.cellBitsRaw c
  let n := 2 ^ b - 1
  inside 1 4 b && ((List.range b).all fun t => (List.range n).any fun i => s.thrType c (i + 1) = t) &&
    ((List.range n).all fun i => decide (s.thrType c (i + 1) < b)) &&
    decide (((List.range (2 ^ b)).map fun st => (List.range b).map fun t => s.stateBit c st t).Nodup)

/-! ### Records and live values (R149, R150, R167) -/

/-- The block group of a block on die `k` (R150). -/
def State.groupOf (s : State) (k b : Nat) : Nat := b / max 1 (((s.geo k).blocks + 7) / 8)

/-- The key of a record: 128 r + 8 d + g. -/
def recKey (k g : Nat) : Nat := 8 * k + g

/-- A record of its first 60 bytes, with its CRC (Table 7-4). -/
def recSeal (b : Bytes) : Bytes := slice b 0 60 ++ leBytes 4 (crc32c (slice b 0 60))

/-- The default record of a group (R167). -/
def State.defaultRecord (s : State) (x : Nat) : Bytes :=
  recSeal ([1, 0] ++ leBytes 1 (x / 128) ++ leBytes 1 (x / 8 % 16 + 16 * (x % 8)) ++ List.replicate 34 0 ++
    leBytes 1 (s.dieBits (x / 8)) ++ List.replicate 21 0)

/-- The record of a group: the stored one, else the default. -/
def State.record (s : State) (x : Nat) : Bytes :=
  match tget (fun _ => []) s.rc.records x with
  | [] => s.defaultRecord x
  | b => b

/-- The drift values of a group, thresholds 1 to 15. -/
def State.drift (s : State) (x : Nat) : List Int :=
  tget (fun _ => List.replicate 15 0) s.rc.drift x

/-- A group has a drift value that is not zero, at a threshold of a page type. -/
def State.drifted (s : State) (x t : Nat) : Bool :=
  (List.range 15).any fun i => (s.drift x).getD i 0 ≠ 0 && s.thrType (s.dieClass (x / 8)) (i + 1) = t

/-- The live values of a group (R149): 0 where no threshold is written or the class has no cell model. -/
def State.live (s : State) (k g : Nat) : List Int :=
  let n := 2 ^ s.dieBits k - 1
  if s.getF (F.RT_VCMD_THRESH_FA (k / 16)) = 0 then List.replicate 15 0
  else (List.range 15).map fun i =>
    if i < n then clampInt (-128) 127 (signed 8 (field (s.record (recKey k g)) (4 + i) 1) + (s.drift (recKey k g)).getD i 0) else 0

/-- The threshold version of a group (R154). -/
def State.version (s : State) (x : Nat) : Nat := s.rc.era + tget (fun _ => 0) s.rc.versions x

/-- The live values of a group change: its version moves on (R154). -/
def State.bumpVersion (s : State) (x : Nat) : State :=
  { s with rc := { s.rc with versions := tset (fun _ => 0) s.rc.versions x (tget (fun _ => 0) s.rc.versions x + 1) } }

/-- Set a group's drift values. -/
def State.setDrift (s : State) (x : Nat) (l : List Int) : State :=
  { s with rc := { s.rc with drift := tset (fun _ => List.replicate 15 0) s.rc.drift x l } }

/-- Store a record with the group's drift at 0 and a new version (R165, R168). -/
def State.setRecord (s : State) (x : Nat) (b : Bytes) : State :=
  (({ s with rc := { s.rc with records := tset (fun _ => []) s.rc.records x b } } : State).setDrift x
    (List.replicate 15 0)).bumpVersion x

/-- The page type of a page on die `k`. -/
def State.pageType (s : State) (k p : Nat) : Nat := if s.dieBits k = 0 then 0 else p % s.dieBits k

/-! ### The registers that govern a read or a calibration (R172, R173) -/

/-- The read channel's registers that govern a read or a calibration, as they stand when it starts: a later write does not reach it (the
registers of chapter 7). What counts as one read is log 94. -/
def State.rcRegs (s : State) : List (Nat × Nat) :=
  ([R.RC_CTRL, R.RC_PILOT, R.RC_SOFT, R.RC_DEC_X, R.RC_CAL_X] ++ (List.range 8).map R.RC_LLR_X).map fun off => (off, (s.getR off).toNat)

/-- A field of the registers that were kept; one not kept is read as it stands. -/
def State.keptF (s : State) (regs : List (Nat × Nat)) (f : Field) : Nat :=
  match regs.find? (·.1 = f.off) with
  | some e => f.of e.2
  | none => s.getF f

/-- The live values of every group may have changed: every version moves on (R154), and no estimate of a read made before is made. -/
def State.bumpAll (s : State) : State :=
  { s with rc := { s.rc with era := s.rc.era + 1, pools := [] } }

/-! ### The drift estimate (R151 to R154) -/

/-- A quotient rounded half away from zero. -/
def roundHalf (n : Int) (d : Nat) : Int :=
  if d = 0 then 0 else if 0 ≤ n then (2 * n + d) / (2 * d) else -((2 * (-n) + d) / (2 * d))

/-- The value that every page of a wordline stores at pilot `i` of an envelope: page type `t` of the address's wordline. -/
def pilotAt (b addr t i : Nat) : Bool :=
  let page := addrPage addr
  bit (pilotBits (addr - 4 * page + 4 * (page / b * b + t))) i

/-- The pilots of a pool as (state, read bit). -/
def State.poolCells (s : State) (p : Pool) : List (Nat × Bool) :=
  let c := s.dieClass p.die
  let b := s.dieBits p.die
  p.pilots.flatMap fun e => (List.range 128).filterMap fun i =>
    (s.stateOf c b fun t => pilotAt b e.1 t i).map fun st => (st, bit e.2 i)

/-- Counts of R152 at a threshold `j` of page type `t`: lo, hi, up and dn. -/
def State.thrCounts (s : State) (c t j : Nat) (cells : List (Nat × Bool)) : Nat × Nat × Nat × Nat :=
  let above (e : Nat × Bool) : Bool := e.2 = s.stateBit c j t
  let n := 2 ^ s.cellBits c - 1
  let lo := if 2 ≤ j ∧ s.thrType c (j - 1) = t then [] else cells.filter fun e => e.1 = j - 1
  let hi := if j + 1 ≤ n ∧ s.thrType c (j + 1) = t then [] else cells.filter fun e => e.1 = j
  (lo.length, hi.length, lo.countP above, hi.countP fun e => !above e)

/-- The delta of each threshold of a page type (R152), 0 for the others. -/
def State.deltas (s : State) (regs : List (Nat × Nat)) (c t : Nat) (cells : List (Nat × Bool)) : List Int :=
  let minP := clampNat 8 127 (s.keptF regs F.RC_DEC_X_MIN_PILOTS)
  let gain := max 16 (s.keptF regs F.RC_PILOT_GAIN)
  let step : Int := max 1 (s.keptF regs F.RC_PILOT_STEP_MAX)
  (List.range 15).map fun i =>
    let j := i + 1
    if 2 ^ s.cellBits c - 1 < j ∨ s.thrType c j ≠ t then 0
    else
      let (lo, hi, up, dn) := s.thrCounts c t j cells
      if lo + hi < minP then 0 else clampInt (-step) step (roundHalf ((gain : Int) * ((up : Int) - dn)) (lo + hi))

/-- rber_q of some pilots of a page type (R152). -/
def State.rberQ (s : State) (c t : Nat) (cells : List (Nat × Bool)) : Nat :=
  (roundHalf (1024 * (cells.countP fun e => e.2 ≠ s.stateBit c e.1 t : Nat)) cells.length).toNat

/-- rber_q of one envelope's own pilots (R156). -/
def State.envRber (s : State) (k addr pil : Nat) : Nat :=
  let cells := s.poolCells { rd := 0, die := k, group := 0, ptype := 0, version := 0, pilots := [(addr, pil)] }
  s.rberQ (s.dieClass k) (s.pageType k (addrPage addr)) cells

/-- The LLR table of an rber_q (Table 7-2). -/
def llrBand (q : Nat) : Nat :=
  if q ≤ 3 then 0 else if q ≤ 7 then 1 else if q ≤ 15 then 2 else if q ≤ 31 then 3 else if q ≤ 47 then 4
  else if q ≤ 63 then 5 else if q ≤ 95 then 6 else 7

/-- Apply the estimate of a pool (R153, R154): whether it stands with a delta that is not zero. -/
def State.applyEstimate (s : State) (p : Pool) : Bool × State :=
  let c := s.dieClass p.die
  let x := recKey p.die p.group
  let cells := s.poolCells p
  if cells = [] then (false, s)
  else if s.keptF p.regs F.RC_PILOT_PLAUSIBLE < s.rberQ c p.ptype cells ∨ p.version ≠ s.version x then
    (false, s.bump R.RC_CNT_DISCARD)
  else
    let ds := s.deltas p.regs c p.ptype cells
    let mx : Int := max 1 (s.keptF p.regs F.RC_PILOT_DRIFT_MAX)
    let old := s.drift x
    let new := (List.range 15).map fun i => if 2 ^ s.cellBits c - 1 < i + 1 ∨ s.thrType c (i + 1) ≠ p.ptype then old.getD i 0
      else clampInt (-mx) mx (old.getD i 0 + ds.getD i 0)
    let moved := ds.any (· ≠ 0)
    if new = old then (moved, s)
    else
      let s := (s.setDrift x new).bumpVersion x
      let hit := (List.range 15).any fun i => new.getD i 0 ≠ old.getD i 0 && (new.getD i 0 = mx || new.getD i 0 = -mx)
      (moved, if hit then s.raise F.RC_EVENT_DRIFT_LIMIT else s)

end Sys2Proof.Machine
end

