-- ==== Sys2Proof/Machine/Seq.lean ====
section
/-! DEFINITION. The sequencers' shared operations: what waits for a die, hazards, joining, the erase-intent ledger, and the
bus (R61 to R79, R96 to R105). -/

namespace Sys2Proof.Machine

/-! ### What may be issued -/

/-- The sequencers issue die commands: a serving mode or QUIESCE, outside a seam (R52 to R54, R352, R357, R358). -/
def State.issues (s : State) : Bool := [4, 5, 6, 11].contains s.modeNow && s.getF F.IMG_STATUS_STATE ≠ 5

/-- An operation of the controller's own that yields to every queue (R74, R397). -/
def DieOp.yields (o : DieOp) : Bool := o.origin = .patrol || o.origin = .relocation

/-- Two operations share a block. -/
def DieOp.shares (a b : DieOp) : Bool := a.pages.any fun p => b.pages.any fun q => p / 2 ^ 14 = q / 2 ^ 14

/-- An operation reads a ledger block of its die (R100). -/
def State.readsLedger (s : State) (o : DieOp) : Bool :=
  o.cls = 1 && o.pages.any fun p => decide ((s.geo (addrDie p)).blocks ≤ addrBlock p + 2)

/-- The block number of the active (0) or standby (1) block of a die's ledger pair. -/
def State.ledgerBlock (s : State) (k which : Nat) : Nat := (s.geo k).blocks - 1 - ((s.die k).ledger.active + which) % 2

/-- The ledger block that a step of a bracket erases: the standby one in a switch (R102), B − 1 and B − 2 for a lost ledger (R109). -/
def State.ledgerErased (s : State) (k step : Nat) : Option Nat :=
  if step = 6 then some (s.ledgerBlock k 1) else if step = 8 then some ((s.geo k).blocks - 1)
  else if step = 9 then some ((s.geo k).blocks - 2) else none

/-- The blocks that an operation in die `k` touches now: those an erase command of its bracket names, else its own (R102, R103, R109). -/
def State.touched (s : State) (k : Nat) (o : DieOp) : List Nat :=
  match (if o.cls = 3 then s.ledgerErased k o.step else none) with
  | some b => [mkAddr k b 0 0]
  | none => o.pages

/-- Two operations on one die keep admission order (R77, R100): one writes, and they share a block or one erases and the other
reads the ledger pair. -/
def State.conflict (s : State) (a b : DieOp) : Bool :=
  (a.cls ≠ 1 || b.cls ≠ 1) && (a.shares b || (a.cls = 3 && s.readsLedger b) || (b.cls = 3 && s.readsLedger a))

/-- `a` stands before `b` in admission order; patrol work stands where it is granted (R292). -/
def DieOp.before (a b : DieOp) : Bool :=
  if b.yields then !a.yields || decide (a.id < b.id)
  else !a.yields && (decide (a.ord < b.ord) || (a.ord = b.ord && decide (a.id < b.id)))

/-- The die an operation is for. -/
def DieOp.die (o : DieOp) : Nat := addrDie (o.pages.headD 0)

/-- The operations that are in die `k`. -/
def State.inDie (s : State) (k : Nat) : List DieOp :=
  [(s.die k).op, (s.die k).next, (s.die k).held].filterMap id

/-- The operations that wait for die `k`. -/
def State.waitingFor (s : State) (k : Nat) : List DieOp := s.seq.waiting.filter fun o => o.die = k

/-- The block of a page address on the bus. -/
def busBlock (p : Nat) : Nat := p / 2 ^ 14

/-- An admitted descriptor that has not put its operations among those that wait will read, or with `write` set write, the block
of page `p` (R77): it keeps its place in admission order. A SCAN's blocks are those its item list names. -/
def State.claims (s : State) (d : Desc) (write : Bool) (p : Nat) : Bool :=
  let b := d.bytes
  let at_ (off : Nat) : Bool := busBlock (s.busAddr (field b off 8)) = busBlock p
  let dieAt : Bool := s.busDie (addrDie (field b 8 8)) = addrDie p
  d.status.isNone && match d.op with
  | 0x01 => !write && !d.started && at_ 8
  | 0x02 => !write && !d.started && at_ 8
  | 0x48 => !write && !d.started && at_ 8
  | 0x70 => !write && !d.started && field b 4 1 = 3 && at_ 8
  | 0x03 => !write && (!d.started || s.so.scans.any fun c => c.id = d.id && c.blocks.any fun x =>
      busBlock (s.busAddr (mkAddr (x / 65536) (x % 65536) 0 0)) = busBlock p)
  | 0x50 => !write && !d.started && dieAt
  | 0x04 => write && !d.started && at_ 8
  | 0x06 => write && !d.started && at_ 8
  | 0x07 => (!write && !d.started && at_ 8) || (write && d.pages.isEmpty && at_ 20)
  | 0x05 => write && !d.started && (s.layout (field b 5 1)).any fun k =>
      busBlock (s.busAddr (mkAddr k (addrBlock (field b 8 8)) 0 0)) / 4 = busBlock p / 4
  | 0x08 => write && !d.started && (s.layout (field b 5 1)).any fun k =>
      busBlock (s.busAddr (mkAddr k (addrBlock (field b 8 8)) 0 0)) / 4 = busBlock p / 4
  | 0x5A => write && !d.started && homeBlock p
  | 0x58 => write && !d.started && homeBlock p
  | _ => false

/-- The position of a member in a stripe (R89). -/
def posOf (m slot : Nat) : Nat := (m + 16 - slot % 16) % 16

/-- Every envelope of member `m`'s slots can be encoded (R89, R93): its data are in, and all of a stripe's for a parity slot. -/
def State.memberReady (s : State) (r : Row) (m : Nat) : Bool :=
  (List.range (4 * max 1 (s.geo ((s.layout r.layout).headD 0)).planes)).all fun slot =>
    let q := posOf m slot
    decide ((if q < 14 then 14 * slot + q + 1 else 14 * slot + 14) ≤ r.filled.length)

/-- A row's member that can be programmed, and whose program is not among those that wait, will write the block of page `p` (R77,
R93). -/
def State.rowClaims (s : State) (r : Row) (p : Nat) : Bool :=
  let ms := s.layout r.layout
  let n := max 1 (s.geo (ms.headD 0)).planes
  (List.range 16).any fun m => !r.started.contains m && s.memberReady r m &&
    (List.range n).any fun i => busBlock (s.busAddr (mkAddr (ms.getD m 0) (r.base + i) 0 0)) = busBlock p

/-- Something admitted before an operation keeps a place on a block of it that its own operations do not hold yet (R77). -/
def State.placed (s : State) (o : DieOp) : Bool :=
  !o.yields && (s.descs.any (fun d => decide (d.id < o.ord) && o.pages.any fun p =>
      s.claims d true p || (o.cls ≠ 1 && s.claims d false p)) ||
    s.seq.rows.any fun r => decide (r.due < o.ord) && o.pages.any (s.rowClaims r))

/-- An operation is bound behind another by the block hazard rule (R77). -/
def State.blocked (s : State) (o : DieOp) : Bool :=
  (s.inDie o.die).any (s.conflict o) || ((s.waitingFor o.die).any fun a => a.id ≠ o.id && a.before o && s.conflict a o) ||
    s.placed o

/-- An operation touches the block of a suspended one on its die (R63, R103). -/
def State.touchesHeld (s : State) (o : DieOp) : Bool :=
  (s.die o.die).held.any fun h => o.shares { h with pages := s.touched o.die h }

/-- Work of the controller's own runs in the mode (Table 16-1, R111, R294, R305). -/
def State.originRuns (s : State) (o : DieOp) : Bool :=
  match o.origin with
  | .queue _ => true
  | .rebuild => [4, 5, 11].contains s.modeNow
  | .recovery => [4, 5, 11].contains s.modeNow
  | _ => s.modeNow = 4 || s.modeNow = 5

/-- An operation may start on its die now, the die being able to take one (R63, R76, R77, R100). -/
def State.eligible (s : State) (o : DieOp) : Bool :=
  !s.blocked o && !o.rangeWait && !o.mapWait && s.originRuns o &&
    (if o.cls = 1 then !s.touchesHeld o
     else (s.die o.die).held.isNone && (s.guardHolds (o.die / 16) || s.getF (F.RT_STATUS_WP (o.die / 16)) = 1))

/-- A read made for a descriptor of an I/O submission queue (R103). -/
def DieOp.queueRead (o : DieOp) : Bool :=
  o.cls = 1 && (match o.origin with | .queue n => n ≠ 0 | _ => false)

/-! ### Arbitration (R74, R305, R397) -/

/-- The queue number an operation takes part in the rotation with. -/
def DieOp.queue (o : DieOp) : Option Nat := match o.origin with | .queue n => some n | _ => none

/-- The first of a list in admission order. -/
def firstOp (l : List DieOp) : Option DieOp :=
  l.foldl (fun best o => match best with | none => some o | some b => if o.before b then some o else some b) none

/-- The pick within a class (R74, R111, R305): recovery erases and rebuild below its share first, then the rotation over queue
numbers, then rebuild, then patrol; with the pointer after it. -/
def State.pickClass (s : State) (k cls : Nat) (below : Bool) : Option (DieOp × Option Nat) :=
  let l := (s.waitingFor k).filter fun o => o.cls = cls && s.eligible o
  let ptr := (s.die k).ptrs.getD (cls - 1) 0
  match firstOp (l.filter fun o => o.origin = .recovery) with
  | some o => some (o, none)
  | none => match (if below then firstOp (l.filter fun o => o.origin = .rebuild) else none) with
    | some o => some (o, none)
    | none => match rotateIdx 1024 ptr fun n => l.any fun o => o.queue = some n with
      | some n => (firstOp (l.filter fun o => o.queue = some n)).map fun o => (o, some ((n + 1) % 1024))
      | none => match firstOp (l.filter fun o => o.origin = .rebuild) with
        | some o => some (o, none)
        | none => (firstOp (l.filter DieOp.yields)).map fun o => (o, none)

/-- The pick for a die: reads before programs before erases (R74). -/
def State.pickOp (s : State) (k : Nat) (below : Bool) : Option (DieOp × Option Nat) :=
  match s.pickClass k 1 below with
  | some x => some x
  | none => match s.pickClass k 2 below with
    | some x => some x
    | none => s.pickClass k 3 below

/-- Take an operation from those that wait. -/
def State.unwait (s : State) (id : Nat) : State :=
  { s with seq := { s.seq with waiting := s.seq.waiting.filter (·.id ≠ id) } }

/-! ### Multi-plane joining (R67) -/

/-- The planes an operation occupies. -/
def State.planes (s : State) (o : DieOp) : List Nat := o.pages.map fun p => s.planeOf (addrDie p) (addrBlock p)

/-- A block is in the incomplete-erase set: a program of it waits for its re-erase (R110). -/
def State.mustReerase (s : State) (page : Nat) : Bool := s.seq.incomplete.contains (blockKey (addrDie page) (addrBlock page))

/-- `c` may join `o` (R67): one class, one page number for reads and programs, distinct planes, neither bound by a hazard. A recovery
erase has a bracket of its own (R110, R111). -/
def State.joins (s : State) (o c : DieOp) : Bool :=
  s.getF (F.RT_CTRL_MULTIPLANE_EN (o.die / 16)) = 1 && c.id ≠ o.id && c.die = o.die && c.cls = o.cls && c.join && o.join &&
    s.eligible c && (c.cls = 3 || addrPage (c.pages.headD 0) = addrPage (o.pages.headD 0)) && !c.recovery && !o.recovery &&
    !(c.cls = 2 && c.pages.any s.mustReerase) && !(o.pages ++ c.pages).any homeBlock && (s.planes c).all fun p => !(s.planes o).contains p

/-- Insert by a key, equal keys in the order they came. -/
def insertBy {α : Type} (f : α → Nat) (x : α) : List α → List α
  | [] => [x]
  | y :: l => if f x < f y then x :: y :: l else y :: insertBy f x l

/-- Sort by a key. -/
def sortBy {α : Type} (f : α → Nat) (l : List α) : List α := l.foldl (fun acc x => insertBy f x acc) []

/-- The jobs of one operation in the order of their transfers: ascending plane, then ascending envelope (R66, R73). -/
def State.sortJobs (s : State) (l : List Nat) : List Nat :=
  sortBy (fun j => match s.job? j with
    | some x => let b := s.busAddr x.addr; 4 * s.planeOf (addrDie b) (addrBlock b) + addrEnv b
    | none => 0) l

/-- Two operations as one, in plane order (R66, R68). -/
def State.merge (s : State) (o c : DieOp) : DieOp :=
  let pl (p : Nat) : Nat := s.planeOf (addrDie p) (addrBlock p)
  let parts := sortBy (fun (e : Nat × Option Purpose × Option Bytes) => pl e.1)
    ((o.pages ++ c.pages).mapIdx fun i p => (p, (o.purpose ++ c.purpose)[i]?, (o.data ++ c.data)[i]?))
  { o with pages := parts.map Prod.fst, purpose := parts.filterMap (·.2.1), data := parts.filterMap (·.2.2),
           jobs := s.sortJobs (o.jobs ++ c.jobs) }

/-- Join everything that may be joined to `o`, in admission order. -/
def State.joinAll (s : State) (o : DieOp) : DieOp × State :=
  (s.waitingFor o.die).foldl (fun (acc : DieOp × State) c =>
    if acc.2.joins acc.1 c then (acc.2.merge acc.1 c, acc.2.unwait c.id) else acc) (o, s)

/-! ### Thresholds before a read (R149) -/

/-- The group of a read: that of its lowest-numbered block (R150). -/
def State.opGroup (s : State) (o : DieOp) : Nat :=
  s.groupOf o.die (o.pages.foldl (fun m p => min m (addrBlock p)) (addrBlock (o.pages.headD 0)))

/-- The thresholds a read needs: its own, else the live values of its group; none for a home block (R326). -/
def State.opThresholds (s : State) (o : DieOp) : List Int :=
  match o.base with
  | some b => b
  | none => if o.pages.any homeBlock then List.replicate 15 0 else s.live o.die (s.opGroup o)

/-- A die's thresholds as last written. -/
def Die.thresholds (d : Die) : List Int := if d.written = [] then List.replicate 15 0 else d.written

/-- A feature access must come before a read: other thresholds, or another group's (R149). -/
def State.needsFeature (s : State) (o : DieOp) : Bool :=
  let k := o.die
  s.getF (F.RT_VCMD_THRESH_FA (k / 16)) ≠ 0 && s.dieBits k ≠ 0 &&
    ((s.die k).thresholds ≠ s.opThresholds o ||
      (o.base.isNone && s.getF (F.RT_DIE_BLOCK_GROUP (k / 16) (k % 16)) ≠ s.opGroup o))

/-- The bus activity an operation that a die has been granted begins with. -/
def State.firstAct (s : State) (o : DieOp) : BusAct :=
  if o.cls = 1 then if s.needsFeature o then .feature (s.opGroup o) (s.opThresholds o) else .read else .progData 0

/-! ### The erase-intent ledger (R98 to R102) -/

/-- The page of four envelopes at a page address. -/
def pageEncode (page : Nat) (envs : List (Bytes × Bytes)) : Bytes :=
  (envs.mapIdx fun e x => envEncode (page + e) x.1 x.2).flatten

/-- The content of an envelope the controller makes itself: format 0, count 0 (R92, R98). -/
def State.ownContent (s : State) (column slab stripe : Nat) : Bytes :=
  Header.bytes { postmark := s.postmark, column := column, slab := slab, origin := s.originId, stripe := stripe }

/-- A filler envelope (R92): its slab sequence is a free value, since no rule states it. -/
def State.filler (s : State) (stripe : Nat) : (Bytes × Bytes) × State :=
  let (v, s) := s.draw
  ((s.ownContent 0xFFFFFFFF v.toNat stripe, List.replicate 4096 0), s)

/-- A ledger entry (Table 4-1). -/
def State.ledgerEntry (s : State) (type mask flags gen : Nat) (blocks : List Nat) : Bytes :=
  let b : Bytes := [0x45, 0x4C, 0x44, 0x47] ++ leBytes 1 type ++ leBytes 1 mask ++ leBytes 1 flags ++ [0] ++ leBytes 4 gen ++
    (blocks.map (leBytes 2)).flatten ++ leBytes 10 s.postmark ++ List.replicate 30 0
  b ++ leBytes 4 (crc32c b)

/-- The page of a ledger entry (R98): four envelopes, each with the entry; their slab sequences are free values. -/
def State.ledgerPage (s : State) (page : Nat) (entry : Bytes) : Bytes × State :=
  let (v, s) := s.draw
  let payload := entry ++ List.replicate 4032 0
  (pageEncode page ((List.range 4).map fun e => (s.ownContent 0xFFFFFFFE ((v.toNat + e) % 2 ^ 32) 0, payload)), s)

/-- The plane mask and block fields of an erase (Table 4-1). -/
def State.eraseFields (s : State) (o : DieOp) : Nat × List Nat :=
  let of (i : Nat) : Option Nat := (o.pages.map addrBlock).find? fun b => s.planeOf o.die b = i
  ((List.range 4).foldl (fun m i => m + if (of i).isSome then 2 ^ i else 0) 0, (List.range 4).map fun i => (of i).getD 0xFFFF)

/-- The step after `step` of an erase's bracket on die `k` (R100 to R102, R108, R109): none at its end. The re-erase of a switch's
standby block is the rest of that switch; it has an INTENT of its own where a page is free for it. -/
def State.nextStep (s : State) (k : Nat) (o : DieOp) : Option Nat :=
  let free := (s.geo k).pages - (s.die k).ledger.next
  if o.noLedger then
    if o.switch then (if o.step = 5 then some 6 else none)
    else if o.step ≤ 1 ∨ 5 ≤ o.step then some 2 else none
  else match o.step with
    | 0 => some (if (s.die k).ledger.due then 8 else if o.switch then (if free = 0 then 6 else 5) else if free < 3 then 5 else 1)
    | 1 => some 2
    | 2 => some 3
    | 5 => some 6
    | 6 => some 7
    | 7 => if o.switch then none else some 1
    | 8 => some 9
    | 9 => some 1
    | _ => none

/-- The ledger program of a bracket step: its page, entry type, flags and fields. -/
def State.ledgerStep (s : State) (k : Nat) (o : DieOp) (step : Nat) : Nat × Nat × Nat × Nat × List Nat :=
  let l := (s.die k).ledger
  let standby := s.ledgerBlock k 1
  let sw : DieOp := { o with pages := [mkAddr k standby 0 0] }
  if step = 5 then let f := s.eraseFields sw; (mkAddr k (s.ledgerBlock k 0) l.next 0, 1, 1 + 2 * b2n o.switch, f.1, f.2)
  else if step = 7 then
    let f := s.eraseFields sw
    (mkAddr k standby 0 0, 2, 1 + 2 * b2n o.switch + 4 * b2n o.failed, f.1, f.2)
  else
    let f := s.eraseFields o
    (mkAddr k (s.ledgerBlock k 0) l.next 0, if step = 1 then 1 else 2, 2 * b2n o.recovery + (if step = 3 then 4 * b2n o.failed else 0),
      f.1, f.2)

/-- The range invalidation of an erase is issued: findings of its blocks that have no letter yet are dropped, those that patrol's
reads of the blocks may still give among them (R299). -/
def State.eraseRange (s : State) (k : Nat) (blocks : List Nat) : State :=
  let s := s.phRange [k] (some blocks)
  let hit (a : Nat) : Bool := addrDie a = k && blocks.contains (addrBlock a)
  { s with fi := { s.fi with findings := s.fi.findings.filter fun f => !hit f.addr },
           seq := { s.seq with jobs := s.seq.jobs.map fun (j : Job) => if j.dest = .patrol ∧ hit j.addr then { j with recon := false } else j } }

/-- The die whose addresses go to die `k` on the bus: the source of an active change of address to it, else itself (R303). -/
def State.logicalDie (s : State) (k : Nat) : Nat :=
  match firstIdx 16 fun i => s.getF (F.FI_COA_A_STATE i) = 3 ∧
      dieKey (s.getF (F.FI_COA_A_TGT_ROUTE i)) (s.getF (F.FI_COA_A_TGT_DIE i)) = k with
  | some i => dieKey (s.getF (F.FI_COA_A_SRC_ROUTE i)) (s.getF (F.FI_COA_A_SRC_DIE i))
  | none => k

/-- Start a step of an erase bracket (R100, R102): a ledger program's data-in, or the erase command. The erase of a ledger block issues
its range invalidation first, and waits where the list of ranges is full (R100, R278). -/
def State.startStep (s : State) (k : Nat) (o : DieOp) (step : Nat) : State :=
  let d := s.die k
  if step = 2 then
    let o : DieOp := { o with step := step, running := true, failed := false }
    (s.setDie k { d with op := some o }).want k .eraseCmd
  else match s.ledgerErased k step with
  | some b =>
    if 8 ≤ s.ph.ranges.length then s.raise F.MI_PH_EVENT_RANGE_WAIT
    else
      let s := s.eraseRange (s.logicalDie k) [b]
      let o : DieOp := { o with step := step, running := true, failed := false }
      (s.setDie k { s.die k with op := some o }).want k .eraseCmd
  | none =>
    let (page, type, flags, mask, blocks) := s.ledgerStep k o step
    let gen := (d.ledger.gen + 1) % 2 ^ 32
    let (data, s) := s.ledgerPage page (s.ledgerEntry type mask flags gen blocks)
    let l : Ledger := if step = 7 then { d.ledger with active := 1 - d.ledger.active, next := 1, gen := gen }
      else { d.ledger with next := d.ledger.next + 1, gen := gen }
    let o : DieOp := { o with step := step, running := true, data := [page].map fun _ => data }
    (s.setDie k { d with op := some o, ledger := l }).want k (.progData 0)

/-! ### Erases (R100, R278, R299) -/

/-- The pages name the standby ledger block of their die: its re-erase is the rest of a ledger switch (R108). -/
def State.isStandby (s : State) (pages : List Nat) : Bool :=
  match pages with
  | [p] => addrBlock p = s.ledgerBlock (addrDie p) 1
  | _ => false

/-- Put an erase of blocks of logical die `k` among those that wait, its range invalidation first; with eight ranges listed it
waits for one to leave (R100, R278). -/
def State.enqueueErase (s : State) (k : Nat) (blocks : List Nat) (purpose : Purpose) (origin : Origin) (ord : Nat)
    (recovery : Bool) : State :=
  let bus := blocks.map fun b => s.busAddr (mkAddr k b 0 0)
  let full := decide (8 ≤ s.ph.ranges.length)
  let s := if full then s.raise F.MI_PH_EVENT_RANGE_WAIT else s.eraseRange k blocks
  let (id, s) := s.fresh
  s.enqueue { id := id, ord := if ord = 0 then id else ord, cls := 3, origin := origin, purpose := blocks.map fun _ => purpose,
              pages := bus, rangeWait := full, recovery := recovery, switch := recovery && s.isStandby bus,
              join := !(blocks.any fun b => homeBlock (mkAddr k b 0 0)) }

/-- Erases that waited for a place in the list of ranges enter their ranges, oldest first (R278). -/
def State.rangesGo (s : State) : State :=
  s.seq.waiting.foldl (fun s o =>
    if o.rangeWait ∧ s.ph.ranges.length < 8 then
      let s := s.eraseRange (s.logicalDie o.die) (o.pages.map addrBlock)
      { s with seq := { s.seq with waiting := s.seq.waiting.map fun (x : DieOp) => if x.id = o.id then { x with rangeWait := false } else x } }
    else s) s

/-- Every line that a range covers is dropped. -/
def State.phWalk (s : State) (r : Range) : State :=
  (s.ph.lines.filter fun e => e.2.valid && r.covers e.2.addr).foldl (fun s e => s.phDrop (e.1 / 16) (e.1 % 16)) s

/-- A descriptor's envelopes may be installed (R276): a READ without NO_PIGEONHOLE, a COPY or a LOAD_PIGEONHOLE. -/
def Desc.fills (d : Desc) : Bool := (d.op = 0x01 && !bit (field d.bytes 4 1) 0) || d.op = 0x07 || d.op = 0x48

/-- A fill that started before an epoch and may still install (R278, R279): an admitted descriptor's, whose reads have not begun; a
job's; or a program's line that waits for its page. -/
def State.openFill (s : State) (epoch : Nat) : Bool :=
  (s.descs.any fun d => d.fills && !d.started && d.status.isNone && d.results.any Option.isNone && serialLater 16 epoch d.epoch) ||
    s.seq.jobs.any (fun j => j.phUse && serialLater 16 epoch j.epoch) ||
    s.ph.lines.any fun e => e.2.valid && e.2.waiting && serialLater 16 epoch e.2.epoch

/-- The walk of the oldest range that was not walked ends; ranges leave the list once walked with no earlier fill open (R278). -/
def State.rangeWalkEnd (s : State) : State :=
  let s := match s.ph.ranges.find? fun r => !r.walked with
    | some r =>
      let s := s.phWalk r
      { s with ph := { s.ph with ranges := s.ph.ranges.map fun (x : Range) => if x.epoch = r.epoch then { x with walked := true } else x } }
    | none => s
  let s : State := { s with ph := { s.ph with ranges := s.ph.ranges.filter fun r => !(r.walked && !s.openFill r.epoch) } }
  s.phCount

/-- RANGE_WALK_END (R278): a walk ends, ranges leave the list, and erases that waited for a place enter theirs. -/
def execRangeWalkEnd (s : State) : Host.Outcome State Fault Refusal := .next s.rangeWalkEnd.rangesGo

/-! ### Reads -/

/-- A new job, not yet in an operation (R17). -/
def State.addJob (s : State) (j : Job) : State := { s with seq := { s.seq with jobs := s.seq.jobs ++ [j] } }

/-- The die of an address cannot be read: retired, in FAULT, stale or a change-of-address source that the descriptor still
reconstructs; or its route is down (R17 step 6, R80, R300, R301, R303). `act` says the change of address holds for it. A retired die of
a route that is down gives ROUTE_DOWN: R17 orders the two nowhere (DESIGN CHOICE, log 80). -/
def State.unreadable (s : State) (a : Nat) (act : Bool) : Option Nat :=
  let k := if act then s.busDie (addrDie a) else addrDie a
  if s.routeSt (k / 16) < 2 then some St.routeDown
  else if act = false ∨ s.dieGone k then some St.dieRetired
  else none

/-- New jobs take numbers in order. -/
def State.makeJobs (s : State) : List Job → List Job × State
  | [] => ([], s)
  | j :: l =>
    let (id, s) := s.fresh
    let (r, s) := s.makeJobs l
    ({ j with id := id, epoch := s.ph.epoch } :: r, s)

/-! ### The register of a die (R64) -/

/-- No job of the die's operation needs its register any more. -/
def Die.spent (d : Die) : Bool := (d.op.all fun o => o.jobs.isEmpty) && d.moving.isNone

/-- A die whose register is no longer needed and that has no series open becomes IDLE (R64). -/
def State.release (s : State) (k : Nat) : State :=
  let d := s.die k
  if s.dieSt k = 4 ∧ d.spent ∧ d.next.isNone then
    (s.setDie k { d with op := none, parked := false, ready := false, series := 0, want := none }).setDieSt k 1
  else s

/-- The array read `rd` has handed over its last envelope: its pool is closed, an empty one forgotten (R151). -/
def State.closePool (s : State) (rd : Nat) : State :=
  let l := s.rc.pools.map fun (p : Pool) => if p.rd = rd then { p with closed := true } else p
  { s with rc := { s.rc with pools := l.filter fun p => p.rd ≠ rd || p.pilots ≠ [] } }

/-- The next header transfer or nothing of the operation whose register is loaded. -/
def State.headerJob (s : State) (k : Nat) : Option Job :=
  ((s.die k).op.map fun o => o.jobs.filterMap s.job?).getD [] |>.find? fun j => j.header && !j.hdrDone && j.phase = .inDie

/-- After a transfer or a status: header transfers go on (R73). -/
def State.wantHeader (s : State) (k : Nat) : State :=
  if (s.die k).want.isNone ∧ (s.die k).moving.isNone ∧ (s.dieSt k = 4 ∨ (s.dieSt k = 3 ∧ (s.die k).ready)) ∧ (s.headerJob k).isSome then
    s.want k .header
  else s

/-- A job leaves the data-out of its die: the envelope after it is the one that is received next (R140). -/
def Die.moves (d : Die) (id : Nat) : Die :=
  if d.moving = some id then { d with moving := d.run.head?, run := d.run.tail } else { d with run := d.run.filter (· ≠ id) }

/-- A job gives up its place in its die's register. -/
def State.jobLeavesDie (s : State) (j : Job) : State :=
  let k := addrDie (s.busAddr j.addr)
  let d := s.die k
  let out (o : DieOp) : DieOp := { o with jobs := o.jobs.filter (· ≠ j.id) }
  let s := s.setDie k { d.moves j.id with op := d.op.map out, next := d.next.map out }
  let s : State := { s with seq := { s.seq with waiting := (s.seq.waiting.map fun o => if o.cls = 1 then out o else o).filter fun o =>
    o.cls ≠ 1 || !o.jobs.isEmpty } }
  let s := match d.op with
    | some o => if o.cls = 1 ∧ (out o).jobs.isEmpty then s.closePool o.id else s
    | none => s
  (s.release k).wantHeader k

/-- The whole envelopes still to transfer of the operation whose register is loaded, in the order of their transfers (R66, R73). -/
def State.wholeJobs (s : State) (k : Nat) : List Job :=
  if (s.headerJob k).isSome then []
  else (((s.die k).op.map fun o => o.jobs.filterMap s.job?).getD []).filter fun j => !j.header && j.phase = .inDie

/-- Those of `l` that follow `j` without a gap in its page. -/
def State.runAfter (s : State) (j : Job) : List Job → List Job
  | [] => []
  | x :: l => if s.busAddr x.addr / 4 = s.busAddr j.addr / 4 ∧ addrEnv x.addr = addrEnv j.addr + 1 then x :: s.runAfter x l else []

/-! ### Page reads (R66, R73, R77) -/

/-- The scan a job reads for. -/
def Job.scan? (j : Job) : Option Nat :=
  match j.dest with
  | .scan id _ _ => some id
  | _ => none

/-- A page read of scan `id` that still takes jobs of page `p`: its register has not been released (R73). -/
def State.sharedBy (s : State) (id p : Nat) (o : DieOp) : Bool :=
  o.cls = 1 && o.join && o.base.isNone && o.pages.contains p && (o.jobs.filterMap s.job?).any fun j => j.scan? = some id

/-- Jobs join the page read that is in die `k`: they are what its other jobs of the page are. -/
def State.joinInDie (s : State) (k p : Nat) (o : DieOp) (js : List Job) : State :=
  let d := s.die k
  let first := d.op.any fun x => x.id = o.id
  let put (x : DieOp) : DieOp := if x.id = o.id then { x with jobs := s.sortJobs (x.jobs ++ js.map (·.id)) } else x
  let like := (o.jobs.filterMap s.job?).find? fun j => 4 * (s.busAddr j.addr / 4) = p
  let s := js.foldl (fun s j => s.setJob (match like with
    | some x => { j with rd := x.rd, issued := x.issued, regs := x.regs, offGroup := x.offGroup, adjusted := x.adjusted,
                         phase := if first ∧ (s.dieSt k = 3 ∨ s.dieSt k = 4) then .inDie else .waitDie }
    | none => j)) s
  (s.setDie k { s.die k with op := d.op.map put, next := d.next.map put }).wantHeader k

/-- One page's jobs are put into a page read: one of the same scan that still takes them, else a new one (R73). -/
def State.enqueueRead (s : State) (p : Nat) (js : List Job) (base : Option (List Int)) (join : Bool) : State :=
  match js with
  | [] => s
  | j :: _ =>
    let k := addrDie p
    let may (o : DieOp) : Bool := base.isNone && join && j.scan?.any fun id => s.sharedBy id p o
    match s.seq.waiting.find? may with
    | some o =>
      { s with seq := { s.seq with waiting := s.seq.waiting.map fun (x : DieOp) =>
        if x.id = o.id then { x with jobs := s.sortJobs (x.jobs ++ js.map (·.id)) } else x } }
    | none => match ([(s.die k).op, (s.die k).next].filterMap id).find? may with
      | some o => s.joinInDie k p o js
      | none =>
        let (id, s) := s.fresh
        s.enqueue { id := id, ord := j.ord, cls := 1, origin := j.origin, pages := [p], jobs := s.sortJobs (js.map (·.id)), base := base,
                    join := join && !homeBlock p }

/-- Put the page reads of some jobs among the operations that wait: one single-plane read a page. A job whose die cannot be read waits
for a reconstruction instead, and so does one of the dies that were `gone` at admission. -/
def State.enqueueReads (s : State) (jobs : List Job) (base : Option (List Int)) (join : Bool) (gone : List Nat) :
    State :=
  let act (j : Job) : Bool := !gone.contains (addrDie j.addr)
  let s := jobs.foldl (fun s j => s.addJob (match s.unreadable j.addr (act j) with
    | some st => { j with phase := .waitCtx, why := st }
    | none => { j with phase := .waitDie })) s
  let go := jobs.filter fun j => (s.unreadable j.addr (act j)).isNone
  let pages := (go.map fun j => j.addr / 4).eraseDups
  pages.foldl (fun s p => s.enqueueRead (s.busAddr (4 * p)) (go.filter fun j => j.addr / 4 = p) base join) s

/-! ### Credits (R18, R169) -/

/-- The decoder input credits of route `r` (R169, R171). -/
def State.decoderCredits (s : State) (r : Nat) : Nat := min 20 (4 + 2 * s.img.cfg.cores.getD r 0)

/-- The output staging credits of route `r` that are taken (R18). -/
def State.stagingTaken (s : State) (r : Nat) : Nat :=
  s.seq.jobs.countP fun j => j.outIn && addrDie (s.busAddr j.addr) / 16 = r

/-- The decoder input credits of route `r` that are taken. -/
def State.creditsTaken (s : State) (r : Nat) : Nat :=
  s.seq.jobs.countP fun j => j.decIn && addrDie (s.busAddr j.addr) / 16 = r

end Sys2Proof.Machine
end

