-- ==== Sys2Proof/Machine/Ladder.lean ====
section
/-! DEFINITION. The retry ladder's reads and the decoder pool's queue (R151, R156 to R161, R169 to R171). -/

namespace Sys2Proof.Machine

/-- The die whose thresholds an address is read with. -/
def State.jobDie (s : State) (j : Job) : Nat := addrDie (s.busAddr j.addr)

/-- The page type of a job's page. -/
def State.jobType (s : State) (j : Job) : Nat := s.pageType (s.jobDie j) (addrPage j.addr)

/-- A step of the ladder applies to a job (Table 7-3). -/
def State.stepApplies (s : State) (j : Job) (m : Nat) : Bool :=
  j.ladder && !homeBlock j.addr && match m with
  | 1 => s.dieBits (s.jobDie j) ≠ 0 && (j.offGroup || j.moved) && s.keptF j.regs F.RC_DEC_X_PILOT_STEP_OFF = 0
  | 2 => s.keptF j.regs F.RC_CTRL_SOFT_EN = 1
  | 3 => s.keptF j.regs F.RC_CTRL_DEEP_EN = 1
  | _ => false

/-- The next step of a job's ladder, 4 where no other applies (Table 7-3). -/
def State.nextLadder (s : State) (j : Job) : Nat :=
  (([1, 2, 3].filter fun m => decide (j.step < m)).find? (s.stepApplies j)).getD 4

/-- The offsets of the six further reads of a soft read, in units of δ (R158). -/
def softOffsets : List Int := [-3, -2, -1, 1, 2, 3]

/-- The thresholds of the `i`-th further read of a soft read at ladder step `m` (R158). -/
def State.softBase (s : State) (j : Job) (m i : Nat) : List Int :=
  let k := s.jobDie j
  let δ : Int := max 1 (s.keptF j.regs F.RC_SOFT_SOFT_STEP) * (if m = 3 then 2 else 1)
  let n := 2 ^ s.dieBits k - 1
  (List.range 15).map fun x =>
    let v := j.centre.getD x 0
    if x < n ∧ s.thrType (s.dieClass k) (x + 1) = s.jobType j then clampInt (-128) 127 (v + softOffsets.getD i 0 * δ) else v

/-- A ladder array read of a job's page: it serves every envelope of the page that waits at the same step for the same
thresholds (R160). -/
def State.ladderRead (s : State) (j : Job) (base : Option (List Int)) : State :=
  let page := s.busAddr (4 * (j.addr / 4))
  let same (o : DieOp) : Bool := o.cls = 1 && !o.join && o.pages = [page] && o.base = base && o.origin = j.origin &&
    o.jobs.all fun x => (match s.job? x with | some y => y.step = j.step && y.reads.length = j.reads.length | none => false)
  let s := s.setJob { j with phase := .waitDie, tries := 0 }
  match s.seq.waiting.find? same with
  | some o => { s with seq := { s.seq with waiting := s.seq.waiting.map fun (x : DieOp) =>
      if x.id = o.id then { x with jobs := sortBy (fun i => match s.job? i with | some y => addrEnv y.addr | none => 0) (x.jobs ++ [j.id]) }
      else x } }
  | none =>
    let (id, s) := s.fresh
    s.enqueue { id := id, ord := j.ord, cls := 1, origin := j.origin, pages := [page], jobs := [j.id], base := base, join := false }

/-- Begin ladder step `m` (R159): step 1 reads at the live values, steps 2 and 3 read around the centre. -/
def State.startLadder (s : State) (j : Job) (m : Nat) : State :=
  if m = 1 then s.ladderRead { j with step := 1 } none
  else
    let j : Job := { j with step := m, reads := j.reads.take 1 }
    s.ladderRead j (some (s.softBase j m 0))

/-- A job is handed to the stripe engine: it returns its decoder input credit (R18, Table 7-3 step 4). -/
def State.toContext (s : State) (j : Job) (why : Nat) : State :=
  s.setJob { j with phase := .waitCtx, why := why, decIn := false }

/-- A received envelope waits for a decoder core (R170). -/
def State.toDecoder (s : State) (j : Job) : State :=
  let s := s.setJob { j with phase := .received }
  { s with rc := { s.rc with decQueue := s.rc.decQueue ++ [j.id] } }

/-! ### The decoder pool (R169 to R171) -/

/-- The job on a core. -/
def State.coreJob (s : State) (c : Nat) : Option Nat := tget (fun _ => none) s.rc.cores c

/-- Put a job on a core, or free it. -/
def State.setCoreJob (s : State) (c : Nat) (j : Option Nat) : State :=
  { s with rc := { s.rc with cores := tset (fun _ => none) s.rc.cores c j } }

/-- The route a job's envelope came over. -/
def State.jobRoute (s : State) (j : Job) : Nat := s.jobDie j / 16

/-- The cores that work for route `r`. -/
def State.coresFor (s : State) (r : Nat) : Nat :=
  s.rc.cores.countP fun e => (match e.2.bind s.job? with | some j => s.jobRoute j = r | none => false)

/-- The envelopes that wait for a core, oldest first. -/
def State.decWaiting (s : State) : List Job := s.rc.decQueue.filterMap s.job?

/-- The route a free core serves next (R170). -/
def State.decodeRoute (s : State) : Option Nat :=
  let waits (r : Nat) : Bool := s.decWaiting.any fun j => s.jobRoute j = r
  match rotateIdx 32 s.rc.corePtr fun r => waits r && decide (s.coresFor r < s.guarantee r) with
  | some r => some r
  | none => rotateIdx 32 s.rc.corePtr waits

/-- A free core takes its next envelope (R156, R170): the LLR table is that of the band of the envelope's own pilots. -/
def State.coreTake (s : State) (c : Nat) : State :=
  match s.decodeRoute with
  | none => s
  | some r => match s.decWaiting.find? fun j => s.jobRoute j = r with
    | none => s
    | some j =>
      let t := if s.dieBits (s.jobDie j) = 0 then 3 else llrBand j.rber
      let s := (s.setJob { j with phase := .decoding c, llr := t }).setCoreJob c (some j.id)
      { s with rc := { s.rc with decQueue := s.rc.decQueue.filter (· ≠ j.id), corePtr := (r + 1) % 32 } }

/-- The most iterations of a decode (R157). -/
def State.iterLimit (s : State) (j : Job) : Nat :=
  max 1 (s.keptF j.regs (if 2 ≤ j.step then F.RC_DEC_X_SOFT_ITER else F.RC_DEC_X_HARD_ITER))

/-- The centre read that a decode takes its signs from, as it was received. -/
def Job.centreRaw (j : Job) : Bytes := j.reads.headD []

/-- The magnitude of bit `i` of an envelope in its decoder input (R156, R158): HARD of its LLR table for a hard decode; after the seven
reads of a soft read, L0 to L3 by how many of them agree with the centre read. -/
def State.llrMagnitude (s : State) (j : Job) (i : Nat) : Nat :=
  let t := j.llr
  if j.reads.length < 7 then s.keptF j.regs (F.RC_LLR_X_HARD t)
  else
    let m := j.reads.countP fun r => rawBit r i = rawBit j.centreRaw i
    s.keptF j.regs (if m - 4 = 0 then F.RC_LLR_X_L0 t else if m - 4 = 1 then F.RC_LLR_X_L1 t else if m - 4 = 2 then F.RC_LLR_X_L2 t
      else F.RC_LLR_X_L3 t)

/-- The decoder's input for bit `i` of an envelope (R139, R156, R158): its read value with the randomiser taken off, as a sign (positive
for 0), times its magnitude. What the decoder makes of its input is flash contents (R29, log 12). -/
def State.llr (s : State) (j : Job) (i : Nat) : Int :=
  (if clearBit j.addr j.centreRaw i then -1 else 1) * (s.llrMagnitude j i : Int)

/-- A decode succeeds with the word it reaches (R157): within its limit the word satisfies every check, its shortened bits are zero, and
its header passes the header code. An envelope whose bits spell a code word needs no iteration. -/
def State.decodeOk (s : State) (j : Job) (iters : Nat) (word : Bytes) : Bool :=
  (decide (iters ≤ s.iterLimit j) || (envWord j.addr j.centreRaw).isSome) && wordOk (decodeWord j.addr j.centreRaw word)

/-- The status of a successful decode (R155, R159). -/
def Job.okStatus (j : Job) : Nat :=
  if j.step = 0 then (if j.adjusted then St.adjusted else St.ok) else if j.step = 1 then St.adjusted else St.soft

/-- Count the outcome of a successful decode (R172). -/
def State.countDecode (s : State) (j : Job) : State :=
  let s := if j.step = 0 then s.bump R.RC_CNT_FIRST else s
  if j.okStatus = St.adjusted then s.bump R.RC_CNT_ADJUSTED
  else if j.okStatus = St.soft then s.bump R.RC_CNT_SOFT else s

/-! ### Taking an envelope back -/

/-- A job is withdrawn: it leaves its die, the decoder's queue and its core. -/
def State.withdraw (s : State) (j : Job) : State :=
  let s := s.jobLeavesDie j
  let s := match j.phase with
    | .decoding c => s.setCoreJob c none
    | _ => s
  ({ s with rc := { s.rc with decQueue := s.rc.decQueue.filter (· ≠ j.id) } } : State).dropJob j.id

/-- A job is withdrawn with the context it holds and the members read for it. -/
def State.cancelJob (s : State) (j : Job) : State :=
  let mine := (s.fi.ctxs.filter fun c => c.job = j.id).map Ctx.id
  let members := s.seq.jobs.filter fun x => match x.dest with | .member c _ => mine.contains c | _ => false
  let s := members.foldl State.withdraw s
  ({ s with fi := { s.fi with ctxs := s.fi.ctxs.filter fun c => c.job ≠ j.id } } : State).withdraw j

/-- The jobs of a descriptor. -/
def Job.serves (j : Job) (id : Nat) : Bool :=
  match j.dest with
  | .desc i _ => i = id
  | .scan i _ _ => i = id
  | .raw i => i = id
  | .cal i _ => i = id
  | _ => false

end Sys2Proof.Machine
end

