-- ==== Sys2Proof/Machine/Memory.lean ====
section
/-! DEFINITION. SRAM words, their symbol code and hard faults, the scrubber, the self-test, and the pigeonholes' own commands
(R263 to R280). -/

namespace Sys2Proof.Machine

/-! ### Reading a word -/

/-- The forwarding entry of a word (R269). -/
def State.fwdOf (s : State) (w : Nat) : Option Nat :=
  firstIdx 48 fun i => s.getF (F.MI_FWD_VALID i) = 1 && s.getF (F.MI_FWD_WORD i) = w

/-- The error pattern in the stored symbols of a word, or of its spare. -/
def State.wordErr (s : State) (w : Nat) : Nat :=
  if (s.fwdOf w).isSome then tget (fun _ => 0) s.mi.spareErr w else tget (fun _ => 0) s.mi.err w

/-- Set the error pattern of a word, or of its spare. -/
def State.setWordErr (s : State) (w e : Nat) : State :=
  if (s.fwdOf w).isSome then { s with mi := { s.mi with spareErr := tset (fun _ => 0) s.mi.spareErr w e } }
  else { s with mi := { s.mi with err := tset (fun _ => 0) s.mi.err w e } }

/-- The pattern of an armed injection at a word (R282). -/
def State.injection (s : State) (w : Nat) : Nat :=
  if s.getF F.MI_INJECT_X_ARM = 1 ∧ s.getF F.MI_INJECT_X_WORD = w then
    let k := min 17 (s.getF F.MI_INJECT_X_SYMBOL)
    if s.getF F.MI_INJECT_X_PAIR = 1 then 0xFF * 2 ^ (8 * k) + 0xFF * 2 ^ (8 * ((k + 1) % 18)) else 0xFF * 2 ^ (8 * k)
  else 0

/-- What the code answers for an error pattern (R265, R270): the outcome depends on the errors alone, the code being linear. -/
def decodeErr (failed : Option Nat) (e : Nat) : UnitResult :=
  match failed with
  | some m => unitDecodeErasure 0 m (leBytes 18 e)
  | none => unitDecode 0 (leBytes 18 e)

/-- XOR a 16-byte value into a payload at word `i`. -/
def xorWord (bs : Bytes) (i v : Nat) : Bytes :=
  bs.mapIdx fun j b => if 16 * i ≤ j ∧ j < 16 * i + 16 then b ^^^ BitVec.ofNat 8 (v / 2 ^ (8 * (j - 16 * i))) else b

/-- Put what miscorrection left into the stored data of a word. -/
def State.wordMiscorrect (s : State) (w v : Nat) : State :=
  if v = 0 then s
  else if 0x400000 ≤ w ∧ w < 0x580000 then
    let st := (w - 0x400000) / 4096
    let way := w % 4096 / 256
    let l := s.line st way
    s.setLine st way { l with payload := xorWord l.payload (w % 256) v }
  else match tget (fun _ => none) s.mi.data w with
    | some d => { s with mi := { s.mi with data := tset (fun _ => none) s.mi.data w (some (d ^^^ v)) } }
    | none => s

/-- Put a word into the forwarding table, or re-point its entry to another spare (R269): the corrected word is copied there, with what
miscorrection left in it. -/
def State.forward (s : State) (w rest : Nat) : State :=
  if s.getF F.MI_X_FORWARD_OFF = 1 then s
  else
    let left := s.getF F.MI_STATUS_SPARES_LEFT
    match (match s.fwdOf w with | some i => some i | none => firstIdx 48 fun i => s.getF (F.MI_FWD_VALID i) = 0) with
    | some i =>
      if left = 0 then s.raise F.MI_EVENT_FWD_FULL
      else
        let new := s.getF (F.MI_FWD_VALID i) = 0
        let s := s.setR (R.MI_FWD i) (BitVec.ofNat 32 (w + (64 - left) * 2 ^ 23 + 2 ^ 29))
        let s := s.setF F.MI_STATUS_SPARES_LEFT (left - 1)
        let s := if new then s.setF F.MI_STATUS_FWD_USED (s.getF F.MI_STATUS_FWD_USED + 1) else s
        let s : State := { s with mi := { s.mi with spareErr := tset (fun _ => 0) s.mi.spareErr w 0,
                                                    backs := s.mi.backs.filter fun b => b.1 ≠ w,
                                                    cured := s.mi.cured.filter fun c => c.1 ≠ w } }
        (s.wordMiscorrect w rest).raise F.MI_EVENT_FWD_ADD
    | none => s.raise F.MI_EVENT_FWD_FULL

/-- Log a failed macro in the first free register of `ENS_MI_MACRO_LOG` (R270). -/
def State.logMacro (s : State) (bank m : Nat) : State :=
  match firstIdx 8 fun i => s.getF (F.MI_MACRO_LOG_VALID i) = 0 with
  | some i => s.setR (R.MI_MACRO_LOG i) (BitVec.ofNat 32 (bank + m * 2 ^ 11 + 2 ^ 16))
  | none => s

/-- Mark macro `m` of a bank failed (R270). -/
def State.markMacro (s : State) (bank m : Nat) : State :=
  let s : State := { s with mi := { s.mi with failed := tset (fun _ => none) s.mi.failed bank (some m) } }
  (s.setF F.MI_STATUS_MACROS_FAILED (s.getF F.MI_STATUS_MACROS_FAILED + 1)).logMacro bank m

/-- The threshold of R270. -/
def State.macroThresh (s : State) : Nat := clampNat 2 7 (s.getF F.MI_X_MACRO_THRESH)

/-- A hard fault of a word in macro `m`, whose corrected value keeps `rest` of a miscorrection (R269, R270). -/
def State.hardFault (s : State) (w m rest : Nat) : State :=
  let spare := (s.fwdOf w).isSome
  let s := s.forward w rest
  if spare ∨ s.mi.hard.contains (w, m) then s
  else
    let s : State := { s with mi := { s.mi with hard := s.mi.hard ++ [(w, m)] } }
    let n := s.mi.hard.countP fun h => h.1 / 4096 = w / 4096 && h.2 = m
    if s.macroThresh ≤ n ∧ (tget (fun _ => none) s.mi.failed (w / 4096)).isNone then
      (s.markMacro (w / 4096) m).raise F.MI_EVENT_MACRO_FAIL
    else s

/-- Record a correction or failure of a word (R265, R268). -/
def State.logWord (s : State) (w sym : Nat) (bad : Bool) : State :=
  s.setR R.MI_LAST_ERR (BitVec.ofNat 32 (w + sym * 2 ^ 23 + 2 ^ 28 * b2n bad))

/-! ### Recovery (R268, Table 12-2) -/

/-- A job as it begins, its envelope to be taken again. -/
def Job.afresh (j : Job) : Job :=
  { id := 0, ord := j.ord, addr := j.addr, dest := j.dest, origin := j.origin, header := j.header, ladder := j.ladder, recon := j.recon,
    phUse := j.phUse, again := true }

/-- An envelope is read from its die again, every partial result of it gone (R27, R268). -/
def State.readAgain (s : State) (j : Job) : State :=
  let gone := match j.dest with
    | .desc id _ => ((s.desc? id).map Desc.gone).getD []
    | .scan id _ _ => ((s.desc? id).map Desc.gone).getD []
    | _ => []
  let (jobs, s) := s.makeJobs [j.afresh]
  s.enqueueReads jobs none true gone

/-- A stream of a position of a scan whose payload lies in a sorting floor slot. -/
structure FloorHeld where
  id : Nat
  key : Nat
  stream : Nat
  addr : Nat
  deriving DecidableEq, Repr

/-- The payloads that lie in sorting floor slots: those of positions that are not decided yet, or whose rows are evaluated. -/
def State.floorHeld (s : State) : List FloorHeld :=
  s.so.scans.flatMap fun c => c.positions.flatMap fun p =>
    if p.taken = 0 ∨ ¬[0, 5, 7].contains p.outcome then []
    else (idxWhere p.addrs.length fun i => (p.res.getD i none).any fun r => !isFailure r.status && r.status ≠ St.erased).map fun i =>
      ⟨c.id, p.key, i, p.addrs.getD i 0⟩

/-- The payload of a slot is there again, or gone with all that was made of it. -/
def State.floorPut (s : State) (h : FloorHeld) (r : Option EnvRes) : State :=
  let put (p : Position) : Position := { p with res := p.res.set h.stream r, outcome := if r.isNone then 0 else p.outcome,
                                                rows := if r.isNone then [] else p.rows }
  { s with so := { s.so with scans := s.so.scans.map fun c => if c.id ≠ h.id then c else
      { c with positions := c.positions.map fun p => if p.key = h.key then put p else p } } }

/-- A word of a sorting floor slot is lost: its envelope is taken again from the pigeonholes or the die; where it is being taken again, that
is the second loss. Which of the slots in use the word lies in is a free value (log 10). -/
def State.floorLost (s : State) (w : Nat) : State :=
  let held := s.floorHeld
  let busy := s.seq.jobs.countP fun j => j.again && (match j.dest with | .scan _ _ _ => true | _ => false)
  match held[Config.sramIndex w % max 1 (held.length + busy)]? with
  | none => if busy = 0 then s else s.memFatal
  | some h => match s.phFind h.addr with
    | some v =>
      let l := s.line (phSet h.addr) v
      (s.floorPut h (some { status := 0, outcome := 4, content := l.content, payload := l.payload })).bump R.MI_PH_CNT_HIT
    | none =>
      let sq := ((s.desc? h.id).map Desc.sq).getD 0
      ((s.floorPut h none).bump R.MI_PH_CNT_MISS).readAgain
        { id := 0, ord := h.id, addr := h.addr, dest := .scan h.id h.key h.stream, origin := .queue sq }

/-- The envelopes that have a place in read output staging and have reached the decoder pool (R18). -/
def State.stagedJobs (s : State) : List Job :=
  s.seq.jobs.filter fun j => j.outIn && j.phase ≠ .waitDie && j.phase ≠ .inDie

/-- A word of read output staging is lost: its envelope is taken again from the die; where it is being taken again, that is the second
loss. Which envelope's it is is a free value (log 10). -/
def State.stagingLost (s : State) (w : Nat) : State :=
  match s.stagedJobs[Config.sramIndex w % max 1 s.stagedJobs.length]? with
  | none => s
  | some j => if j.again then s.memFatal else (s.cancelJob j).readAgain j

/-- A word of the entry cache is lost: the copies of its SQ are dropped and fetched again; a loss among those that are being fetched again
is the second one. Which SQ's it is is a free value (log 10). -/
def State.cacheLost (s : State) (w : Nat) : State :=
  let n := Config.sramIndex w % 1024
  if s.mi.redo.contains n then s.memFatal
  else
    let s : State := { s with q := { s.q with sqs := s.q.sqs.map fun e => if e.1 = n then (e.1, e.2.map SQ.dropCopies) else e } }
    { s with mi := { s.mi with redo := s.mi.redo ++ [n] } }

/-- The pigeonhole line whose tag's state bits lie in a word (R275). -/
def tagLine (w : Nat) : Option Nat := firstIdx (384 * 16) fun x => Config.tagWord x = w

/-- Recover from an uncorrectable word by what it holds (Table 12-2). Program staging is fetched and encoded again from its buffers, which
leaves the same bytes in it (log 10). -/
def State.recoverWord (s : State) (w : Nat) : State :=
  if w < 0x400000 then (s.wordsRewritten w 1).floorLost w
  else if w < 0x580000 then s.phDrop ((w - 0x400000) / 4096) (w % 4096 / 256)
  else match tagLine w with
    | some x => (s.wordsRewritten w 1).phDrop (x / 16) (x % 16)
    | none => match Config.sramHolds w with
      | 1 => (s.wordsRewritten w 1).cacheLost w
      | 2 => s.wordsRewritten w 1
      | 3 => s.memFatal
      | 4 => s.memFatal
      | 5 => (s.wordsRewritten w 1).stagingLost w
      | _ => s

/-! ### Reading -/

/-- An injection is armed at a word. -/
def State.armedAt (s : State) (w : Nat) : Bool := s.getF F.MI_INJECT_X_ARM = 1 && s.getF F.MI_INJECT_X_WORD = w

/-- Read a word after decoding (R265, R267 to R270): whether it is usable, what miscorrection left in its data, and the state. -/
def State.readWord (s : State) (w : Nat) : Bool × Nat × State :=
  let e := s.wordErr w ^^^ s.injection w
  let s := if s.armedAt w then s.setF F.MI_INJECT_X_ARM 0 else s
  let failed := if (s.fwdOf w).isSome ∨ s.getF F.MI_X_ERASURE_OFF = 1 then none else tget (fun _ => none) s.mi.failed (w / 4096)
  match decodeErr failed e with
  | .clean => (true, 0, s)
  | .corrected k st =>
    let rest := field st 0 16
    let s := (s.bump R.MI_CNT_CORR).logWord w k false
    let s : State := if s.getF F.MI_X_WRITEBACK_OFF = 1 ∨ s.mi.backs.any (·.1 = w) then s
      else { s with mi := { s.mi with backs := s.mi.backs ++ [(w, k, rest)] } }
    let s := if s.mi.cured.contains (w, k) ∧ failed ≠ some k then s.hardFault w k rest else s
    (true, rest, s)
  | .uncorrectable p =>
    let s := ((s.bump R.MI_CNT_UNCORR).logWord w (p.getD 31) true).raise F.MI_EVENT_UNCORR
    (false, 0, s.recoverWord w)

/-- The words among `ws` whose read finds an error. -/
def State.faulty (s : State) (ws : Nat → Bool) : List Nat :=
  ((s.mi.err.map Prod.fst ++ s.mi.spareErr.map Prod.fst ++
    (if s.getF F.MI_INJECT_X_ARM = 1 then [s.getF F.MI_INJECT_X_WORD] else [])).filter ws).eraseDups

/-- A lookup in set `st` reads the tags of its ways: a line whose tag is lost is dropped (Table 12-2). -/
def State.readTags (s : State) (st : Nat) : State :=
  (s.faulty fun w => (List.range 16).any fun way => Config.tagWord (16 * st + way) = w).foldl (fun s w => (s.readWord w).2.2) s

/-- Write a part of a word (R266): it is read and corrected, `merge` puts the new bytes in, and the whole word is written with new check
symbols. Where it is uncorrectable nothing is written. -/
def State.mergeWord (s : State) (w : Nat) (merge : State → State) : State :=
  let (good, rest, s) := s.readWord w
  if good then merge ((s.wordMiscorrect w rest).wordsKept w) else s

/-- Read every word of a line that carries an error: the payload as read, none where a word was uncorrectable. -/
def State.readLine (s : State) (st w : Nat) : Option Bytes × State :=
  let base := lineWord st w
  (s.faulty fun x => decide (base ≤ x ∧ x < base + 256)).foldl (fun (acc : Option Bytes × State) x =>
    let (good, r, s') := acc.2.readWord x
    ((if good then acc.1.map fun b => xorWord b (x - base) r else none), s')) (some (s.line st w).payload, s)

/-! ### The checks of an envelope before its die (R17 step 5) -/

/-- Step 5 of R17: the pigeonholes are looked up, and a line that holds the envelope decides it and counts as used (R275). -/
def State.phLook (s : State) (a : Nat) : Option EnvRes × State :=
  let s := s.readTags (phSet a)
  match s.phFind a with
  | some w =>
    let l := s.line (phSet a) w
    match s.readLine (phSet a) w with
    | (some payload, s) =>
      let s := (s.setLine (phSet a) w { l with used := s.ph.clock + 1 }).bump R.MI_PH_CNT_HIT
      (some { status := 0, outcome := 4, content := l.content, payload := payload },
        { s with ph := { s.ph with clock := s.ph.clock + 1 } })
    | (none, s) => (none, s.bump R.MI_PH_CNT_MISS)
  | none => (none, s.bump R.MI_PH_CNT_MISS)

/-- Steps 2 to 5 of R17, the last where `look` is set. -/
def State.envCheck (s : State) (a : Nat) (look : Bool) : Option EnvRes × State :=
  match s.preCheck a with
  | some st => (some { status := st }, s)
  | none => if look then s.phLook a else (none, s)

/-- The checks of a run of envelopes, in order. -/
def State.envChecks (s : State) (look : Bool) : List Nat → List (Option EnvRes) × State
  | [] => ([], s)
  | a :: l =>
    let (r, s) := s.envCheck a look
    let (rs, s) := s.envChecks look l
    (r :: rs, s)

/-! ### Write-back and the scrubber (R267, R271) -/

/-- WRITE_BACK (R267): the oldest pending write-back of a bank. -/
def execWriteBack (bank : Nat) (s : State) : Host.Outcome State Fault Refusal :=
  match s.mi.backs.find? fun b => b.1 / 4096 = bank with
  | none => .next s
  | some (w, k, rest) =>
    let s := (s.setWordErr w 0).wordMiscorrect w rest
    .next { s with mi := { s.mi with backs := s.mi.backs.filter fun b => b.1 ≠ w,
                                     cured := (s.mi.cured.filter fun c => c.1 ≠ w) ++ [(w, k)] } }

/-- The CORE island is clocked. -/
def State.coreRuns (s : State) : Bool := !([0, 7, 8].contains s.modeNow)

/-- The bank of the 64 spares and the 48 entries of the forwarding table (R269, R271). -/
def spareBank : Nat := 1536

/-- The words of a bank that the scrubber reads. -/
def bankWords (bank : Nat) : Nat := if bank = spareBank then 112 else 4096

/-- The word that a spare holds. -/
def State.spareOf (s : State) (i : Nat) : Option Nat :=
  (firstIdx 48 fun x => s.getF (F.MI_FWD_VALID x) = 1 && s.getF (F.MI_FWD_SPARE x) = i).map fun x => s.getF (F.MI_FWD_WORD x)

/-- The scrubber reads a word in which errors have arisen (R271): from then on an error in it is found anew. -/
def State.scrubWord (s : State) (w err : Nat) : State :=
  let s := s.setWordErr w (s.wordErr w ^^^ err % 2 ^ 144)
  let (_, _, s) := s.readWord w
  if s.mi.backs.any (·.1 = w) then s else { s with mi := { s.mi with cured := s.mi.cured.filter fun c => c.1 ≠ w } }

/-- The scrubber reads a free spare or an entry of the forwarding table, which stand under no word address: the address logged is a free
value. It is written back at once; an entry that is lost is live structure (log 101). -/
def State.scrubSpare (s : State) (i err : Nat) : State :=
  let (v, s) := s.draw
  match decodeErr none (err % 2 ^ 144) with
  | .clean => s
  | .corrected k _ => (s.bump R.MI_CNT_CORR).logWord (v.toNat % 2 ^ 23) k false
  | .uncorrectable p =>
    let s := ((s.bump R.MI_CNT_UNCORR).logWord (v.toNat % 2 ^ 23) (p.getD 31) true).raise F.MI_EVENT_UNCORR
    if 64 ≤ i ∧ s.getF (F.MI_FWD_VALID (i - 64)) = 1 then s.memFatal else s

/-- The scrubber reads the next word of a bank (R271); the lap ends when every bank has finished its words. -/
def State.scrub (s : State) (bank err ms : Nat) : State :=
  let i := tget (fun _ => 0) s.mi.cursors bank
  let s := if bank < spareBank then s.scrubWord (4096 * bank + i) err
    else match (if i < 64 then s.spareOf i else none) with
      | some w => s.scrubWord w err
      | none => s.scrubSpare i err
  let s : State := { s with mi := { s.mi with cursors := tset (fun _ => 0) s.mi.cursors bank ((i + 1) % bankWords bank) } }
  if i + 1 < bankWords bank then s
  else
    let s : State := { s with mi := { s.mi with lapBanks := insertAsc s.mi.lapBanks bank } }
    if s.mi.lapBanks.length < 1537 then s
    else
      let s : State := { s with mi := { s.mi with lapBanks := [] } }
      let s := (s.setR R.MI_LAP_LAST (BitVec.ofNat 32 ms)).bump R.MI_LAP_COUNT
      if s.img.cfg.lap * 1000 < ms then s.raise F.MI_EVENT_LAP_LATE else s

/-- The scrubber may read in a bank. -/
def State.scrubs (s : State) (bank : Nat) : Bool :=
  s.getF F.MI_CTRL_SCRUB_EN = 1 && s.coreRuns && decide (bank ≤ spareBank)

/-- SCRUB_READ (R271). -/
def execScrubRead (bank err ms : Nat) (s : State) : Host.Outcome State Fault Refusal :=
  .next (if s.scrubs bank then s.scrub bank err ms else s)

/-- SCRUB_DEADLINE (R271): a forced cycle, counted. -/
def execScrubDeadline (bank err ms : Nat) (s : State) : Host.Outcome State Fault Refusal :=
  .next (if s.scrubs bank then (s.bump R.MI_CNT_FORCED).scrub bank err ms else s)

/-! ### The self-test (R272) -/

/-- The macros an 18-bit mask names. -/
def maskMacros (m : Nat) : List Nat := idxWhere 18 (bit m)

/-- The self-test over the words that the pattern test found bad, each with the mask of its bad macros (R272, Table 12-3). -/
def State.selfTest (s : State) (checker : Bool) (bad : List (Nat × Nat)) : State :=
  let hard := bad.flatMap fun b => (maskMacros b.2).map fun m => (b.1, m)
  let banks := (bad.map fun b => b.1 / 4096).eraseDups
  let s : State := { s with mi := { ({} : Mi) with hard := hard } }
  let s := banks.foldl (fun s k =>
    match firstIdx 18 fun m => decide (s.macroThresh ≤ hard.countP fun h => h.1 / 4096 = k && h.2 = m) with
    | some m => (s.markMacro k m).raise F.MI_EVENT_MACRO_FAIL
    | none => s) s
  let need := bad.filter fun b => (maskMacros b.2).any fun m => some m ≠ tget (fun _ => none) s.mi.failed (b.1 / 4096)
  let s := (need.take 48).foldl (fun s b => s.forward b.1 0) s
  let s := ((s.setF F.MI_BIST_FORWARDED (min 48 need.length)).setF F.MI_BIST_MACROS (s.getF F.MI_STATUS_MACROS_FAILED)).setF
    F.MI_BIST_CHECKER_FAIL (b2n checker)
  let s := if 48 < need.length then s.raise F.MI_EVENT_FWD_FULL else s
  let s : State := { s with ph := {} }
  (s.setF F.MI_BIST_DONE 1).setF F.MI_BIST_PASS (b2n (!checker && decide (need.length ≤ 48)))

/-! ### Pigeonhole commands (R280) -/

/-- The sets a set field names. -/
def waySets (v : Nat) : List Nat := if v = 0xFFFF then List.range 384 else [v]

/-- Write the state bits in the tag of way `w` of set `st`: a part of its word (R266, R275). -/
def State.tagBits (s : State) (st w : Nat) (f : Line → Line) : State :=
  s.mergeWord (Config.tagWord (16 * st + w)) fun s => s.setLine st w (f (s.line st w))

/-- Set or clear the locked bit of the masked ways of some sets. -/
def State.setLocks (s : State) (sets : List Nat) (mask : Nat) (b : Bool) : State :=
  (sets.foldl (fun s st => (idxWhere 16 (bit mask)).foldl (fun s w => s.tagBits st w fun l => { l with locked := b }) s) s).phCount

/-- LOCK_WAYS (R280): refused whole where it would leave more than 8 locked ways in a set. -/
def execLockWays (id : Nat) (s : State) : Host.Outcome State Fault Refusal :=
  match s.adminDesc id 0x49 with
  | none => .next s
  | some d =>
    let sets := waySets (field d.bytes 4 2)
    let mask := field d.bytes 6 2
    if sets.all fun st => (idxWhere 16 fun w => bit mask w || (s.line st w).locked).length ≤ 8 then
      .next ((s.setLocks sets mask true).finish id 0 0)
    else .next (s.finish id St.malformed 0)

/-- UNLOCK_WAYS (R280). -/
def execUnlockWays (id : Nat) (s : State) : Host.Outcome State Fault Refusal :=
  match s.adminDesc id 0x4A with
  | none => .next s
  | some d => .next ((s.setLocks (waySets (field d.bytes 4 2)) (field d.bytes 6 2) false).finish id 0 0)

end Sys2Proof.Machine
end

