-- ==== Sys2Proof/Machine/Integrity.lean ====
section
/-! DEFINITION. Flash integrity's shared operations: coverage, reconstruction, the poison set, findings, letters, relocation,
retirement and the DEGRADED conditions (R286 to R307). -/

namespace Sys2Proof.Machine

/-! ### The stripe map (R286 to R288) -/

/-- The base block of a block, and the number of its map bit (R286). -/
def State.mapIdx (s : State) (j b : Nat) : Nat := b / max 1 (s.geo ((s.layout j).headD 0)).planes

/-- The bit of a block in a 64-byte line of layout `j`'s map. -/
def lineBit (line : Bytes) (i : Nat) : Bool := bit (line.getD (i / 8 % 64) 0).toNat (i % 8)

/-- The fabric address of the map line that holds bit `i` of layout `j` (R286). -/
def State.mapLineAddr (s : State) (j i : Nat) : Nat :=
  s.getF F.FI_SMAP_LO_ADDR * 4096 + s.getF F.FI_SMAP_HI_ADDR * 2 ^ 32 + 8192 * j + 64 * (i / 512)

/-- The stripe map is in use. -/
def State.mapOn (s : State) : Bool := s.getF F.FI_SMAP_LO_EN = 1

/-- Layout `j` covers block `b` of die `k` (R286). -/
def State.covers (s : State) (maps : List Bytes) (k b j : Nat) : Bool :=
  s.mapOn && (s.layout j).contains k && lineBit (maps.getD j []) (s.mapIdx j b)

/-- The layout that covers block `b` of die `k`, the lowest-numbered one. -/
def State.coveredBy (s : State) (maps : List Bytes) (k b : Nat) : Option Nat :=
  firstIdx s.img.cfg.layouts.length (s.covers maps k b)

/-- Write a map line with bit `i` set or cleared (R286). -/
def State.writeMapLine (s : State) (maps : List Bytes) (j i : Nat) (b : Bool) : State :=
  let line := slice (maps.getD j []) 0 64
  let n := i / 8 % 64
  s.fab (s.mapLineAddr j i) (line.set n (BitVec.ofNat 8 (setBits (line.getD n 0).toNat (i % 8) 1 (b2n b))))

/-! ### The poison set (R298) -/

/-- Store the poison set: its count is shown and POISON_DIRTY is set. -/
def State.setPoison (s : State) (l : List Nat) : State :=
  if l = s.fi.poison then s
  else
    let s : State := { s with fi := { s.fi with poison := l } }
    (s.setF F.FI_POISON_COUNT l.length).setF F.FI_STATUS_POISON_DIRTY 1

/-- An erase of blocks of logical die `k` passes: their poison entries go (R298). -/
def State.poisonErased (s : State) (k : Nat) (blocks : List Nat) : State :=
  s.setPoison (s.fi.poison.filter fun a => !(addrDie a = k && blocks.contains (addrBlock a)))

/-! ### Letters (R297) -/

/-- The slots of the dead-letter ring that hold letters firmware has not released. -/
def State.dlUnreleased (s : State) : Nat :=
  (s.getF F.FI_DL_TAIL_TAIL + 2 ^ s.fi.dlK - s.getF F.FI_DL_HEAD_HEAD % 2 ^ s.fi.dlK) % 2 ^ s.fi.dlK

/-- The ring is full. -/
def State.dlFull (s : State) : Bool := decide (2 ^ s.fi.dlK - 1 ≤ s.dlUnreleased)

/-- Show how many letters are held. -/
def State.dlShow (s : State) : State := s.setF F.FI_DL_CFG_HELD s.fi.letters.length

/-- A finding in a ledger or home block makes no poison entry (R295). -/
def State.poisons (s : State) (f : Finding) : Bool := f.kind = 1 && !s.reservedBlock (addrDie f.addr) (addrBlock f.addr)

/-- The 64 bytes of a finding's letter, without its phase (Table 13-4). -/
def State.letterBytes (s : State) (f : Finding) : Bytes :=
  let h := Header.parse (f.content.getD [])
  leBytes 1 f.kind ++ leBytes 1 (if f.byRebuild then 2 else 1) ++ leBytes 2 (f.status % 2 ^ 12 + 2 ^ 12 * (f.code % 8)) ++
    leBytes 4 s.fi.seq ++ leBytes 8 f.addr ++ leBytes 8 (if f.kind = 2 then f.newAddr else 0) ++ leBytes 4 h.column ++
    leBytes 4 h.slab ++ leBytes 10 h.postmark ++ leBytes 1 (b2n f.content.isSome + 2 * b2n (s.poisons f)) ++
    leBytes 1 f.missing ++ leBytes 10 s.postmark ++ List.replicate 2 0 ++ leBytes 4 f.round ++ List.replicate 4 0

/-- Make a finding's letter: it joins the holding store, and a LOST one poisons its address (R295, R297, R298). -/
def State.makeLetter (s : State) (f : Finding) : State :=
  let s : State := { s with fi := { s.fi with letters := s.fi.letters ++ [s.letterBytes f], seq := (s.fi.seq + 1) % 2 ^ 32,
                                              findings := s.fi.findings.erase f } }
  let s := if s.poisons f then s.setPoison (insertAsc s.fi.poison f.addr) else s
  (if f.kind = 1 then s.bump R.FI_CNT_LOST else s).dlShow

/-- Make the letters of the findings that are ready, in order; patrol and rebuild pause where one has no room (R297, R298). -/
def State.lettersGo (s : State) : State :=
  let (stop, s) := (s.fi.findings.filter (·.ready)).foldl (fun (acc : Bool × State) f =>
    let s := acc.2
    if acc.1 then acc
    else if 16 ≤ s.fi.letters.length then (true, if s.dlFull then s.raise F.FI_EVENT_DL_FULL else s)
    else if s.poisons f ∧ 4096 ≤ s.fi.poison.length ∧ s.fi.poison.contains f.addr = false then (true, s.raise F.FI_EVENT_POISON_FULL)
    else (false, s.makeLetter f)) (false, s)
  let s := s.setF F.FI_STATUS_PATROL_PAUSED (b2n stop)
  if stop ∧ s.fi.rebuilds ≠ [] then s.raise F.FI_EVENT_STALL else s

/-- Replace the first finding equal to `f`. -/
def State.setFinding (s : State) (f g : Finding) : State :=
  { s with fi := { s.fi with findings := s.fi.findings.map fun x => if x = f then g else x } }

/-! ### Relocation (R296) -/

/-- The die of the spare area. -/
def State.spareDie (s : State) : Nat := dieKey (s.getF F.FI_SPARE_ROUTE) (s.getF F.FI_SPARE_DIE)

/-- The spare area is usable for a finding. -/
def State.spareOk (s : State) : Bool :=
  s.getF F.FI_CTRL_RELOCATE_EN = 1 && s.getF F.FI_SPARE_VALID = 1 && s.getF F.FI_SPARE_CURSOR_FULL = 0

/-- The cursor's page address. -/
def State.spareAddr (s : State) : Nat :=
  mkAddr s.spareDie (s.getF F.FI_SPARE_CURSOR_BLOCK) (s.getF F.FI_SPARE_CURSOR_PAGE) 0

/-- The cursor moves on past a page that was programmed (R296). -/
def State.spareAdvance (s : State) : State :=
  let p := s.getF F.FI_SPARE_CURSOR_PAGE + 1
  if p < (s.geo s.spareDie).pages then s.setF F.FI_SPARE_CURSOR_PAGE p
  else if s.getF F.FI_SPARE_CURSOR_BLOCK < s.getF F.FI_SPARE_RANGE_LAST then
    (s.setF F.FI_SPARE_CURSOR_PAGE 0).setF F.FI_SPARE_CURSOR_BLOCK (s.getF F.FI_SPARE_CURSOR_BLOCK + 1)
  else (s.setF F.FI_SPARE_CURSOR_FULL 1).raise F.FI_EVENT_SPARE_FULL

/-- Header content with another stripe position (R237, R296). -/
def withStripe (content : Bytes) (q : Nat) : Bytes :=
  Header.bytes { Header.parse content with stripe := q }

/-- Put the program of the relocation at the cursor among those that wait (R296, R397). -/
def State.relocateProgram (s : State) (f : Finding) : State :=
  let page := s.spareAddr
  let s := s.setFinding f { f with newAddr := page }
  let (f1, s) := s.filler 0
  let (f2, s) := s.filler 0
  let (f3, s) := s.filler 0
  let (id, s) := s.fresh
  s.enqueue { id := id, ord := id, cls := 2, origin := .relocation, pages := [s.busAddr page], purpose := [.progSpare], join := false,
              data := [pageEncode page [(withStripe (f.content.getD []) 0, f.payload), f1, f2, f3]] }

/-- The oldest finding to relocate starts, once no other relocation is out: the cursor's block is erased first where the cursor
has just entered it. A spare die that may not be written makes it a request (R84, R296). -/
def State.relocateGo (s : State) : State :=
  if s.fi.relocating then s
  else match s.fi.findings.find? fun f => f.kind = 2 && !f.ready with
    | none => s
    | some f =>
      let k := s.busDie s.spareDie
      if s.spareOk = false ∨ s.routeSt (k / 16) < 2 ∨ s.dieGone k then (s.setFinding f { f with kind := 3, ready := true }).lettersGo
      else
        let s : State := { s with fi := { s.fi with relocating := true } }
        if s.getF F.FI_SPARE_CURSOR_PAGE = 0 then
          (s.setFinding f { f with newAddr := s.spareAddr }).enqueueErase s.spareDie [s.getF F.FI_SPARE_CURSOR_BLOCK] .eraseSpare
            .relocation 0 false
        else s.relocateProgram f

/-- The erase or program of a relocation ends with a status (R296). -/
def State.relocateDone (s : State) (erase : Bool) (st : Nat) : State :=
  let f := s.fi.findings.find? fun f => f.kind = 2 && !f.ready
  if erase ∧ st = St.ok ∧ f.isSome then
    match f with
    | some f => if f.newAddr = s.spareAddr then s.relocateProgram f
      else ({ s with fi := { s.fi with relocating := false } } : State).relocateGo
    | none => s
  else
    let addr := (f.map Finding.newAddr).getD 0
    let s : State := { s with fi := { s.fi with relocating := false } }
    let s := if erase ∨ st = St.writeGuarded ∨ addr ≠ s.spareAddr then s else s.spareAdvance
    match f with
    | none => s.relocateGo
    | some f =>
      if erase ∨ st ≠ St.ok then (s.setFinding f { f with kind := 3, ready := true }).lettersGo.relocateGo
      else ((s.setFinding f { f with ready := true }).bump R.FI_CNT_RELOCATED).lettersGo.relocateGo

/-- A finding whose reconstruction has been decided, or that no stripe covers, is handled (R295). -/
def State.settle (s : State) (f : Finding) (good : Bool) : State :=
  if good ∧ s.spareOk ∧ f.content.isSome then
    let f : Finding := { f with kind := 2 }
    ({ s with fi := { s.fi with findings := s.fi.findings ++ [f] } } : State).relocateGo
  else
    let f : Finding := { f with kind := if good then 3 else 1, ready := true }
    ({ s with fi := { s.fi with findings := s.fi.findings ++ [f] } } : State).lettersGo

/-! ### Reconstruction (R289 to R291) -/

/-- The slot of an address in its row, and the position of member `m` there (R289). -/
def State.slotOf (s : State) (j a : Nat) : Nat := 4 * (addrBlock a % max 1 (s.geo ((s.layout j).headD 0)).planes) + addrEnv a

/-- How a member's read classes it (R289). -/
def memberOf (q status : Nat) (content payload : Bytes) : Member :=
  if status = St.erased then .erased
  else
    let h := Header.parse content
    if !isFailure status && h.stripe = q && h.column ≠ 0xFFFFFFFC then .present (stripeMessage q content payload) else .lost

/-- What a reconstruction decides: status, code, missing members, content and payload (Table 13-2). `ms` lists every member's
position with what its read gave, the target's included. -/
def reconstruct (q : Nat) (ms : List (Nat × Member)) (noCheck : Bool) : Nat × Nat × Nat × Bytes × Bytes :=
  let others := ms.filter fun e => e.1 ≠ q
  let known := others.filterMap fun e => (match e.2 with | .present m => some (e.1, m) | _ => none)
  let missing := ((List.range 16).filter fun p => !(known.map Prod.fst).contains p)
  if others.all (fun e => e.2 = .erased) then (St.erased, 1, 0, [], List.replicate 4096 0)
  else if 2 < missing.length then (St.uncorrectable, 2, missing.length, [], List.replicate 4096 0)
  else
    let p := (missing.filter (· ≠ q)).headD q
    let msg := (stripeSolve known q p).1
    let r := stripeEnvelope q msg
    if p = q ∧ noCheck = false ∧ stripeHolds (known ++ [(q, msg)]) = false then
      (St.uncorrectable, 3, missing.length, [], List.replicate 4096 0)
    else (St.reconstructed, 1, missing.length, r.1, r.2)

/-- The context with a number. -/
def State.ctx? (s : State) (id : Nat) : Option Ctx := s.fi.ctxs.find? (·.id = id)

/-- Record a member of a context. -/
def State.memberDone (s : State) (id m : Nat) (r : Member) : State :=
  { s with fi := { s.fi with ctxs := s.fi.ctxs.map fun (c : Ctx) => if c.id = id then { c with results := c.results.set m (some r) } else c } }

/-- The reads of a context's members begin (R289): each member is decided by the poison set, a pending erase, a pigeonhole line or
its die, and no seal is looked at (R338). -/
def State.memberReads (s : State) (c : Ctx) (j : Job) : State :=
  let ms := s.layout c.layout
  let slot := s.slotOf c.layout c.target
  let (jobs, s) := (List.range 16).foldl (fun (acc : List Job × State) m =>
    let s := acc.2
    let a := mkAddr (ms.getD m 0) (addrBlock c.target) (addrPage c.target) (addrEnv c.target)
    let q := posOf m slot
    if q = c.position then acc
    else if s.fi.poison.contains a ∨ s.erasePending a then (acc.1, s.memberDone c.id m .lost)
    else match s.phLook a with
      | (some r, s) => (acc.1, s.memberDone c.id m (memberOf q r.status r.content r.payload))
      | (none, s) =>
        if (s.unreadable a true).isSome then (acc.1, s.memberDone c.id m .lost)
        else (acc.1 ++ [{ id := 0, ord := j.ord, addr := a, dest := .member c.id m, origin := j.origin, recon := false }], s)) ([], s)
  let (jobs, s) := s.makeJobs jobs
  s.enqueueReads jobs none true []

/-- Some queue descriptor's envelope waits for a context. -/
def State.queueWaitsCtx (s : State) : Bool :=
  s.seq.jobs.any fun x => x.phase = .waitCtx && (match x.dest with | .patrol => false | .rebuild _ _ => false | _ => true)

/-- Some envelope of patrol waits for a context. -/
def State.patrolWaitsCtx (s : State) : Bool :=
  s.seq.jobs.any fun x => x.phase = .waitCtx && (match x.dest with | .patrol => true | _ => false)

/-- A context is free for a job (R291): `REBUILD_CTX` are reserved for rebuild, of the others queues go before patrol. Beyond those reserved
rebuild takes one that neither asks for, and with none reserved it competes for every one (R309; log 105). -/
def State.ctxFree (s : State) (j : Job) : Bool :=
  let keep := min 8 (s.getF F.FI_X_REBUILD_CTX)
  let reb := s.fi.ctxs.countP (·.forRebuild)
  let rest := s.fi.ctxs.length - reb
  decide (s.fi.ctxs.length < 16) && match j.dest with
  | .rebuild _ _ => keep = 0 || decide (reb < keep) || !(s.queueWaitsCtx || s.patrolWaitsCtx)
  | .patrol => decide (rest < 16 - keep) && !s.queueWaitsCtx
  | _ => decide (rest < 16 - keep)

/-- A job takes a context for layout `l` and its member reads begin (R291). -/
def State.takeContext (s : State) (j : Job) (l : Nat) : State :=
  let m := ((firstIdx 16 fun i => (s.layout l).getD i 512 = addrDie j.addr)).getD 0
  let (id, s) := s.fresh
  let forReb := match j.dest with | .rebuild _ _ => true | _ => false
  let c : Ctx := { id := id, job := j.id, layout := l, target := j.addr, position := posOf m (s.slotOf l j.addr),
                   results := (List.replicate 16 none).set m (some .lost), forRebuild := forReb }
  let s := s.setJob { j with phase := .inCtx }
  ({ s with fi := { s.fi with ctxs := s.fi.ctxs ++ [c] } } : State).memberReads c j

/-! ### Patrol (R292 to R294) -/

/-- Patrol may go on: a mode it runs in, enabled, letters and poison not held up (R294, R297). -/
def State.patrolRuns (s : State) : Bool :=
  (s.modeNow = 4 || s.modeNow = 5) && s.getF F.IMG_STATUS_STATE ≠ 5 && s.getF F.FI_DL_CFG_EN = 1 &&
    s.getF F.FI_CTRL_PATROL_EN = 1 && s.getF F.FI_STATUS_PATROL_PAUSED = 0 && s.mode.target.isNone

/-- A die is visited by the patrol round (R292): the source of an active change of address through its entry. -/
def State.patrolled (s : State) (k : Nat) : Bool :=
  let b := s.busDie k
  s.dieOn k && s.routeSt (b / 16) = 2 && !s.dieGone b && s.dieOn b &&
    !(List.range 16).any fun i => s.getF (F.FI_COA_A_STATE i) = 3 ∧
      dieKey (s.getF (F.FI_COA_A_TGT_ROUTE i)) (s.getF (F.FI_COA_A_TGT_DIE i)) = k

/-! ### Dies out of service -/

/-- The whole range of some dies, and of every source that an active change of address sends to one of them, is invalidated as one range
(R279, R303). -/
def State.dieRanges (s : State) (ks : List Nat) : State := s.phRange (ks ++ ks.map s.logicalDie).eraseDups none

/-- The conditions of Table 13-5. -/
def State.degCause (s : State) : Nat :=
  let routes := (List.range 32).filter s.routeOn
  let dies := (List.range 512).filter s.dieOn
  b2n (routes.any fun r => s.routeSt r = 0) +
    2 * b2n (dies.any fun k => s.dieSt k = 8 || s.stale k ||
      (s.retired k && !(s.busDie k ≠ k && !s.dieGone (s.busDie k) && s.routeUp (s.busDie k / 16)))) +
    4 * b2n (s.fi.rebuilds ≠ []) + 8 * b2n (routes.any fun r => s.routeUp r && (s.getF (F.RT_PHY_STATUS_RETIRED r) = 1 || s.getF (F.RT_LANE_STATE r 8) = 2))

end Sys2Proof.Machine
end

