-- ==== Sys2Proof/Machine/Home.lean ====
section
/-! DEFINITION. Home blocks and seals: twins, commits, the choice at start-up, passwords and lockouts (R325 to R343). -/

namespace Sys2Proof.Machine

/-! ### Twins (R325, R326) -/

/-- The die of a twin: 0 is A, on route 0; 1 is B, on route 1. -/
def twinDie (t : Nat) : Nat := 16 * t

/-- The pages of a twin (R325). -/
def State.twinPages (s : State) (t : Nat) : Nat :=
  if s.getF F.HB_CFG_SLC_PAGES ≠ 0 then s.getF F.HB_CFG_SLC_PAGES
  else (s.geo (twinDie t)).pages / max 1 (s.dieBits (twinDie t))

/-- Why a twin is unavailable: its route, its die, its pages (R325, R331). -/
def State.twinGone (s : State) (t : Nat) : Option Nat :=
  if s.routeUp t = false then some St.routeDown
  else if s.dieOn (twinDie t) = false ∨ s.dieSt (twinDie t) = 8 ∨ s.retired (twinDie t) then some St.dieRetired
  else if s.twinPages t < 21 then some St.malformed
  else none

/-- The content of a home envelope's header (R326, R329). -/
def State.homeContent (s : State) (slab : Nat) : Bytes := s.ownContent 0xFFFFFFFD slab 0

/-! ### The snapshot (R327 to R330) -/

/-- A 512-bit die mask. -/
def dieMask (p : Nat → Bool) : Bytes :=
  (List.range 64).map fun i => BitVec.ofNat 8 ((List.range 8).foldl (fun m b => m + if p (8 * i + b) then 2 ^ b else 0) 0)

/-- A seal's table entry (Table 15-4). -/
def Seal.bytes (x : Seal) : Bytes :=
  let b := leBytes 1 x.state ++ [0] ++ leBytes 2 x.fails ++ leBytes 4 x.changes ++ leBytes 8 x.first ++ leBytes 8 x.last ++
    slice x.salt 0 16 ++ slice x.hash 0 32 ++ List.replicate 52 0
  b ++ leBytes 4 (crc32c b)

/-- A seal of its table entry. -/
def Seal.parse (b : Bytes) : Seal :=
  if field b 0 1 % 4 = 0 then {}
  else { state := field b 0 1 % 4, fails := field b 2 2, changes := field b 4 4, first := field b 8 6, last := field b 16 6,
         salt := slice b 24 16, hash := slice b 40 32, live := field b 0 1 % 4 }

/-- Seal `k`. -/
def State.seal (s : State) (k : Nat) : Seal := tget (fun _ => {}) s.hb.seals k

/-- Store a seal. -/
def State.setSeal (s : State) (k : Nat) (x : Seal) : State :=
  { s with hb := { s.hb with seals := tset (fun _ => {}) s.hb.seals k x } }

/-- A change-of-address entry as HOME_COMMIT records it (R306): a running rebuild's in its previous state. -/
def State.coaRecord (s : State) (i : Nat) : Nat :=
  let w := match s.fi.rebuilds.find? (·.entry = i) with | some r => r.previous | none => (s.getR (R.FI_COA_A i)).toNat
  if bits w 18 2 = 3 then bits w 0 20 else 0

/-- The summary's payload (Table 15-2). -/
def State.summary (s : State) (t gen : Nat) : Bytes :=
  let b : Bytes := [0x45, 0x4E, 0x53, 0x48, 1] ++ leBytes 1 t ++ [0, 0] ++ leBytes 4 gen ++ leBytes 4 s.originId ++
    leBytes 4 s.img.cfg.gen ++ slice (Config.sha384 s.img.active) 0 48 ++ leBytes 10 s.postmark ++ [0, 0] ++
    dieMask s.retired ++ dieMask s.stale ++ ((List.range 16).map fun i => leBytes 8 (s.coaRecord i)).flatten ++
    leBytes 2 s.fi.poison.length
  let b := slice b 0 4092
  b ++ leBytes 4 (crc32c b)

/-- The poison set in ascending order. -/
def State.poisonSorted (s : State) : List Nat := s.fi.poison.foldl insertAsc []

/-- The payloads of the 80 data envelopes (Table 15-1). -/
def State.twinPayloads (s : State) (t gen : Nat) (new : Option (Nat × Seal)) : List Bytes :=
  let sealOf (k : Nat) : Seal := match new with | some (i, x) => if i = k then x else s.seal k | none => s.seal k
  let table := ((List.range 64).map fun k => (sealOf k).bytes).flatten
  let pois := slice ((s.poisonSorted.map (leBytes 8)).flatten) 0 32768
  let recs := ((List.range 4096).map s.record).flatten
  [s.summary t gen] ++ (List.range 2).map (fun i => slice table (4096 * i) 4096) ++
    (List.range 8).map (fun i => slice pois (4096 * i) 4096) ++ (List.range 64).map (fun i => slice recs (4096 * i) 4096) ++
    List.replicate 5 (List.replicate 4096 0)

/-- The commit envelope's payload (Table 15-3): its postmark is the one its summary carries, that of the commit (log 107). -/
def commitPayload (t gen : Nat) (payloads : List Bytes) : Bytes :=
  let b : Bytes := [0x45, 0x4E, 0x53, 0x43, 1] ++ leBytes 1 t ++ [0, 0] ++ leBytes 4 gen ++ leBytes 4 (crc32c payloads.flatten) ++
    slice (payloads.headD []) 68 10 ++ List.replicate 34 0
  b ++ leBytes 4 (crc32c b) ++ List.replicate 4032 0

/-! ### Committing (R330 to R332) -/

/-- The twin a commit writes (R330, R331): the inactive one, or with SINGLE_TWIN the active one where the other is unavailable. -/
def State.commitTwin (s : State) : Nat :=
  let other := if s.getF F.HB_STATUS_ACTIVE = 1 then 1 else 0
  if (s.twinGone other).isSome ∧ s.getF F.HB_X_SINGLE_TWIN = 1 ∧ s.getF F.HB_STATUS_ACTIVE ≠ 0 then 1 - other else other

/-- The generation a commit takes (R330). -/
def State.commitGen (s : State) : Nat :=
  match s.hb.genA, s.hb.genB with
  | some a, some b => ((if serialLater 32 b a then b else a) + 1) % 2 ^ 32
  | some a, none => (a + 1) % 2 ^ 32
  | none, some b => (b + 1) % 2 ^ 32
  | none, none => 1

/-- A commit ends without a swap (R331, R332). -/
def State.commitFail (s : State) (c : Commit) (st : Nat) : State :=
  let s := (({ s with hb := { s.hb with commit := none } } : State).setF F.HB_STATUS_BUSY 0).raise F.HB_EVENT_COMMIT_FAIL
  match c.desc with
  | some id => s.finish id st 0
  | none => s

/-- The next page of a commit is put among the operations that wait (R330 steps 3 and 4). -/
def State.commitPage (s : State) (c : Commit) : State :=
  let page := mkAddr (twinDie c.twin) 0 c.page 0
  let ord := c.desc.getD 0
  let put (s : State) (envs : List (Bytes × Bytes)) : State :=
    let (id, s) := s.fresh
    s.enqueue { id := id, ord := ord, cls := 2, origin := .queue 0, pages := [page], purpose := [.progHome], join := false,
                data := [pageEncode page envs] }
  match s.writeDie (twinDie c.twin) with
  | some st => s.commitFail c st
  | none =>
    if c.page < 20 then
      put s ((List.range 4).map fun e => (s.homeContent (4 * c.page + e), c.payloads.getD (4 * c.page + e) []))
    else
      let com := (s.homeContent 80, commitPayload c.twin c.gen c.payloads)
      let (f1, s) := s.filler 0
      let (f2, s) := s.filler 0
      let (f3, s) := s.filler 0
      put s [com, f1, f2, f3]

/-- Start a commit (R330 steps 1 and 2, R331), with a new seal entry in its snapshot where one is given (R341). -/
def State.commitStart (s : State) (id : Nat) (new : Option (Nat × Seal)) : State :=
  let t := s.commitTwin
  match s.twinGone t with
  | some st => (s.raise F.HB_EVENT_COMMIT_FAIL).finish id st 0
  | none =>
    let gen := s.commitGen
    let c : Commit := { desc := some id, twin := t, gen := gen, payloads := s.twinPayloads t gen new, newSeal := new,
                        poison := s.fi.poison }
    let s := ({ s with hb := { s.hb with commit := some c } } : State).setF F.HB_STATUS_BUSY 1
    match s.desc? id with
    | some d => (s.setDesc { d with started := true }).enqueueErase (twinDie t) [0] .eraseHome (.queue 0) id false
    | none => s

/-- The swap of a commit whose last page passed (R330 step 5). -/
def State.commitSwap (s : State) (c : Commit) : State :=
  let s : State := { s with hb := { s.hb with commit := none, genA := if c.twin = 0 then some c.gen else s.hb.genA,
                                              genB := if c.twin = 1 then some c.gen else s.hb.genB } }
  let s := ((s.setF F.HB_STATUS_BUSY 0).setF F.HB_STATUS_ACTIVE (c.twin + 1)).setF F.HB_GEN_GEN c.gen
  let s := s.setF F.HB_COMMIT_TIME_SECONDS (field (c.payloads.headD []) 72 4)
  let s := if c.poison = s.fi.poison then s.setF F.FI_STATUS_POISON_DIRTY 0 else s
  let s := match c.newSeal with
    | some (k, x) => s.setSeal k { x with live := x.state }
    | none => s
  let s := s.raise F.HB_EVENT_COMMIT_DONE
  match c.desc with
  | some id => s.finish id St.ok 0
  | none => s

/-- The erase or a page of a commit ends with a status (R330, R331). -/
def State.homeDone (s : State) (erase : Bool) (st : Nat) : State :=
  match s.hb.commit with
  | none => s
  | some c =>
    if st ≠ St.ok then s.commitFail c st
    else if erase then
      let c : Commit := { c with erased := true }
      ({ s with hb := { s.hb with commit := some c, genA := if c.twin = 0 then none else s.hb.genA,
                                  genB := if c.twin = 1 then none else s.hb.genB } } : State).commitPage c
    else if c.page < 20 then
      let c : Commit := { c with page := c.page + 1 }
      ({ s with hb := { s.hb with commit := some c } } : State).commitPage c
    else s.commitSwap c

/-- HOME_COMMIT (R330, R331). -/
def execHomeCommit (id : Nat) (s : State) : Host.Outcome State Fault Refusal :=
  match s.adminDesc id 0x5A with
  | none => .next s
  | some _ => .next (s.commitStart id none)

/-! ### Choosing a twin at start-up (R334 to R336) -/

/-- How a twin's envelopes class it: 0 valid, or the code of `ENS_HB_STATUS.OTHER` (R334). -/
def State.twinClass (s : State) (t : Nat) (l : List Bytes) : Nat :=
  let com := l.getD 80 []
  let sum := l.headD []
  let gen := field com 8 4
  if (s.twinGone t).isSome then 4
  else if l = [] then 1
  else if com = [] ∨ slice com 0 5 ≠ [0x45, 0x4E, 0x53, 0x43, 1] ∨ field com 5 1 ≠ t ∨ field com 60 4 ≠ crc32c (slice com 0 60) then 2
  else if (l.take 80).any (· = []) ∨ field com 12 4 ≠ crc32c ((l.take 80).map fun b => slice b 0 4096).flatten ∨
      slice sum 0 5 ≠ [0x45, 0x4E, 0x53, 0x48, 1] ∨ field sum 5 1 ≠ t ∨ field sum 8 4 ≠ gen ∨
      field sum 4092 4 ≠ crc32c (slice sum 0 4092) then 3
  else if field sum 12 4 % 2 ^ 18 ≠ s.originId then 6
  else 0

/-- A calibration record passes the checks of R168 for index `x`. -/
def State.recordOk (s : State) (x : Nat) (b : Bytes) : Bool :=
  field b 0 1 = 1 && field b 60 4 = crc32c (slice b 0 60) && field b 2 1 % 32 = x / 128 && field b 2 1 / 32 = 0 &&
    field b 3 1 = x / 8 % 16 + 16 * (x % 8) && field b 38 1 = s.dieBits (x / 8)

/-- Restore what a twin holds (R336, R340). -/
def State.restore (s : State) (l : List Bytes) : State :=
  let sum := l.headD []
  let table := slice (l.getD 1 []) 0 4096 ++ slice (l.getD 2 []) 0 4096
  let s := (List.range 64).foldl (fun s k =>
    let x := Seal.parse (slice table (128 * k) 128)
    s.setSeal k (if x.state = 0 then {} else { x with fails := max x.fails 4, lockout := (s.seal k).lockout })) s
  let pois := ((l.drop 3).take 8).flatten
  let s : State := { s with fi := { s.fi with poison := (List.range (min 4096 (field sum 336 2))).map fun i => field pois (8 * i) 6 } }
  let s := s.setF F.FI_POISON_COUNT s.fi.poison.length
  let recs := ((l.drop 11).take 64).flatten
  let s := (List.range 4096).foldl (fun s x =>
    let b := slice recs (64 * x) 64
    let s := s.setDrift x (List.replicate 15 0)
    if s.recordOk x b then
      { s with rc := { s.rc with records := tset (fun _ => []) s.rc.records x (if b = s.defaultRecord x then [] else b) } }
    else ({ s with rc := { s.rc with records := tset (fun _ => []) s.rc.records x [] } } : State).satF F.HB_STATUS_BAD_RECORDS) s
  let s := (List.range 512).foldl (fun s k =>
    if s.dieOn k then
      let s := if bit (field sum (80 + k / 8) 1) (k % 8) then s.setDieSt k 9 else s
      if bit (field sum (144 + k / 8) 1) (k % 8) then s.setBit (R.FI_STALE 0) k true else s
    else s) s
  (List.range 16).foldl (fun s i =>
    let v := field sum (208 + 8 * i) 8
    if bits v 18 2 = 3 then s.setR (R.FI_COA_A i) (BitVec.ofNat 32 (v % 2 ^ 20)) else s) s

/-- Use twin `t`: it becomes active and its contents are restored (R335, R336). -/
def State.twinUse (s : State) (t : Nat) (l : List Bytes) (other : Nat) : State :=
  let gen := field (l.getD 80 []) 8 4
  let s := ((s.setF F.HB_STATUS_USED (t + 1)).setF F.HB_STATUS_OUTCOME 1).setF F.HB_STATUS_OTHER other
  let s := ((s.setF F.HB_STATUS_ACTIVE (t + 1)).setF F.HB_GEN_GEN gen).setF F.HB_COMMIT_TIME_SECONDS (field (l.headD []) 72 4)
  let s : State := { s with hb := { s.hb with imgGen := some (field (l.headD []) 16 4) } }
  let s := s.restore l
  if other ≠ 0 then s.raise F.HB_EVENT_TWIN_ISSUE else s

/-- The choice of a twin (R335). -/
def State.twinChoose (s : State) (a b : List Bytes) : State :=
  let ca := s.twinClass 0 a
  let cb := s.twinClass 1 b
  let ga := field (a.getD 80 []) 8 4
  let gb := field (b.getD 80 []) 8 4
  let s : State := { s with hb := { s.hb with genA := if ca = 0 then some ga else none, genB := if cb = 0 then some gb else none } }
  if ca = 0 ∧ cb = 0 then
    if genApart gb ga then (s.genStale 2).twinUse 0 a 5
    else if serialLater 32 gb ga then s.twinUse 1 b 0
    else if ga = gb then (s.twinUse 0 a 0).raise F.HB_EVENT_TWIN_ISSUE
    else s.twinUse 0 a 0
  else if ca = 0 then s.twinUse 0 a cb
  else if cb = 0 then s.twinUse 1 b ca
  else
    let s := s.setF F.HB_STATUS_OTHER cb
    if ca = 4 ∧ cb = 4 then (s.setF F.HB_STATUS_OUTCOME 4).raiseAll [F.HB_EVENT_TWIN_ISSUE, F.HB_EVENT_LOST]
    else if (ca = 4 ∨ ca = 1) ∧ (cb = 4 ∨ cb = 1) then (s.setF F.HB_STATUS_OUTCOME 2).raise F.HB_EVENT_TWIN_ISSUE
    else (s.setF F.HB_STATUS_OUTCOME 3).raiseAll [F.HB_EVENT_TWIN_ISSUE, F.HB_EVENT_LOST]

/-- The pages of twin `t` that the choice reads (R334): none of one that is unavailable, every page of an empty one, else those that hold
its envelopes. `l` is what its envelopes decode to, in index order, an empty item for one that does not decode; nothing for an empty twin
(log 113). -/
def State.twinScan (s : State) (t : Nat) (l : List Bytes) : List Nat :=
  if (s.twinGone t).isSome then [] else if l = [] then List.range (s.twinPages t) else List.range 21

/-- TWIN_SELECT (R334 to R336): in TRAIN, once routes 0 and 1 have ended theirs, the twins are read and one is chosen. -/
def execTwinSelect (a b : List Bytes) (s : State) : Host.Outcome State Fault Refusal :=
  let ready := (List.range 2).all fun r => !s.routeOn r || s.seq.scanned.contains r
  .next (if s.modeNow = 3 ∧ s.getF F.HB_STATUS_OUTCOME = 0 ∧ ready then
      ((s.twinChoose a b).scanReads (twinDie 0) 0 (s.twinScan 0 a)).scanReads (twinDie 1) 0 (s.twinScan 1 b)
    else s)

/-! ### Seals (R339 to R342) -/

/-- The bytes of a password field beyond its length are zero, and its length lies in the range. -/
def passwordOk (b : Bytes) (zeroOk : Bool) : Bool :=
  let n := field b 0 1
  (inside 8 64 n || (zeroOk && n = 0)) && ((slice b (1 + n) (64 - n)).all (· = 0))

/-- A password matches a seal (R339). -/
def Seal.accepts (x : Seal) (b : Bytes) : Bool := Config.sha256 (x.salt ++ slice b 1 (field b 0 1)) = x.hash

/-- A password check failed (R340): counted, and from the fifth failure on the seal is locked out. -/
def State.sealFail (s : State) (k : Nat) : State :=
  let x := s.seal k
  let n := satInc 8 x.fails
  let locks := decide (5 ≤ n) && !(s.getF F.HB_X_LOCKOUT_OFF = 1 && s.secState = 0)
  let s := (s.setSeal k { x with fails := n, lockout := if locks then min 65536 (2 ^ (n - 4)) else 0 }).raise F.HB_EVENT_SEAL_FAIL
  if locks then s.raise F.HB_EVENT_SEAL_LOCKOUT else s

/-- Seal `k` is locked out (R340): LOCKOUT_OFF lifts that in OPEN (R345). -/
def State.sealLocked (s : State) (k : Nat) : Bool :=
  (s.seal k).lockout ≠ 0 && !(s.getF F.HB_X_LOCKOUT_OFF = 1 && s.secState = 0)

/-- A fresh 16-byte salt (R339). -/
def State.drawSalt (s : State) : Bytes × State :=
  let (a, s) := s.draw
  let (b, s) := s.draw
  let (c, s) := s.draw
  let (d, s) := s.draw
  (leBytes 4 a.toNat ++ leBytes 4 b.toNat ++ leBytes 4 c.toNat ++ leBytes 4 d.toNat, s)

/-- SEAL_SET (R340, R341) with its 130-byte credential block. -/
def execSealSet (id : Nat) (cred : Bytes) (s : State) (corr : Nat := 0) : Host.Outcome State Fault Refusal :=
  match s.adminDesc id 0x58 with
  | none => .next s
  | some d =>
    let k := field d.bytes 4 1
    let x := s.seal k
    let cur := slice cred 0 65
    let new := slice cred 65 65
    let s := s.dramReads corr
    if !passwordOk cur true || !passwordOk new false || decide (x.state = 0) ≠ decide (field cur 0 1 = 0) then
      .next (s.finish id St.malformed 0)
    else if s.sealLocked k then .next (s.finish id St.sealLockedOut 0)
    else if x.state ≠ 0 && !x.accepts cur then .next ((s.sealFail k).finish id St.sealedRegion 0)
    else
      let s := if x.state ≠ 0 then s.setSeal k { x with fails := 0 } else s
      let (salt, s) := s.drawSalt
      let st := field d.bytes 5 1
      let y : Seal := if st = 0 then {} else
        { state := st, changes := (x.changes + 1) % 2 ^ 32, first := field d.bytes 8 6, last := field d.bytes 28 6, salt := salt,
          hash := Config.sha256 (salt ++ slice new 1 (field new 0 1)), live := st }
      .next (s.commitStart id (some (k, y)))

/-- SEAL_UNLOCK (R340, R342) with its 65-byte password block. -/
def execSealUnlock (id : Nat) (pw : Bytes) (s : State) (corr : Nat := 0) : Host.Outcome State Fault Refusal :=
  match s.adminDesc id 0x59 with
  | none => .next s
  | some d =>
    let k := field d.bytes 4 1
    let x := s.seal k
    let s := s.dramReads corr
    if !passwordOk (slice pw 0 65) false || x.state = 0 then .next (s.finish id St.malformed 0)
    else if s.sealLocked k then .next (s.finish id St.sealLockedOut 0)
    else if !x.accepts (slice pw 0 65) then .next ((s.sealFail k).finish id St.sealedRegion 0)
    else .next ((s.setSeal k { x with fails := 0, live := field d.bytes 5 1 }).finish id St.ok 0)

/-- SEAL_LOCKOUT_EXPIRY (R340): the lockout of seal `k` ends. -/
def execSealLockoutExpiry (k : Nat) (s : State) : Host.Outcome State Fault Refusal :=
  .next (if k < 64 then s.setSeal k { s.seal k with lockout := 0 } else s)

end Sys2Proof.Machine
end

