-- ==== Sys2Proof/Machine/Writes.lean ====
section
/-! DEFINITION. Programs, copies, erases and stripe rows: how their pages reach the dies and what their outcomes do (R83 to R93,
R101, R110, R133, R235, R237, R276, R277, R287, R288). -/

namespace Sys2Proof.Machine

/-! ### Encoding (R20, R133, R235, R276, R277) -/

/-- The metadata of envelope `i` of a PROGRAM or PROGRAM_STRIPE: column, slab sequence, format, count, and whether its list entry's
zero bytes are zero (R235). -/
def metaOf (d md : Bytes) (i : Nat) : Nat × Nat × Nat × Nat × Bool :=
  if field d 28 8 = 0 then (field d 36 4, (field d 40 4 + i) % 2 ^ 32, field d 4 1, field d 6 2, true)
  else
    let e := slice md (16 * i) 16
    (field e 0 4, field e 4 4, field e 8 1, field e 10 2, field e 9 1 = 0 && field e 12 4 = 0)

/-- The checks of Table 6-3 on envelope `i` (R133, R235). -/
def metaOk (d md : Bytes) (i : Nat) : Bool :=
  let (_, _, fmt, cnt, z) := metaOf d md i
  z && decide (fmt ≤ 2) && (if fmt = 0 then cnt = 0 else decide (cnt ≤ 1820))

/-- The header content of envelope `i` at stripe position `q` (Table 6-3). -/
def State.progContent (s : State) (d md payload : Bytes) (i q : Nat) : Bytes :=
  let (col, slab, fmt, cnt, _) := metaOf d md i
  let z := zoneOf fmt cnt payload
  Header.bytes { postmark := s.postmark, column := col, slab := slab, origin := s.originId, zmin := z.1, zmax := z.2, count := cnt,
                 stripe := q, format := fmt }

/-- The sequential-stream detector sees a program of page `p` of block `b` (R277): whether the page allocates lines. A page that several
descriptors fill is one program, decided when it is first met. -/
def State.streamPage (s : State) (k b p : Nat) : Bool × State :=
  let at_ := b * 4096 + p
  let (last, run) := tget (fun _ => (0, 0)) s.ph.streams k
  let run := if run ≠ 0 ∧ at_ = last then run else if run ≠ 0 ∧ at_ = last + 1 ∧ p ≠ 0 then run + 1 else 1
  let stop := max 1 (s.getF F.MI_PH_CTRL_STREAM_RUN) < run ∧ s.getF F.MI_PH_X_STREAM_OFF = 0
  (!decide stop && s.getF F.MI_PH_X_NO_PROGRAM_ALLOC = 0,
    { s with ph := { s.ph with streams := tset (fun _ => (0, 0)) s.ph.streams k (at_, run) } })

/-- Allocate the pending lines of some envelopes of a page as they are encoded (R20, R276, R277): `b` is the block that names the page's
program, the base block of a multi-plane one. -/
def State.allocPage (s : State) (page b : Nat) (envs : List (Nat × Bytes × Bytes)) : State :=
  let (go, s) := s.streamPage (addrDie page) b (addrPage page)
  if go then envs.foldl (fun s e => (s.phInstall e.1 s.ph.epoch e.2.1 e.2.2 true).1) s else s

/-- The pending line of an address becomes readable, or is dropped (R20, R86). -/
def State.lineEnds (s : State) (a : Nat) (good : Bool) : State :=
  match firstIdx 16 fun w => (s.line (phSet a) w).valid && (s.line (phSet a) w).waiting && (s.line (phSet a) w).addr = a with
  | some w => if good then s.tagBits (phSet a) w fun l => { l with waiting := false } else s.phDrop (phSet a) w
  | none => s

/-- The pending lines of a page's four envelopes end. -/
def State.pageLines (s : State) (page : Nat) (good : Bool) : State :=
  (List.range 4).foldl (fun s e => s.lineEnds (page + e) good) s

/-! ### Re-erases ahead of programs (R110) -/

/-- The first page of a descriptor's or row's program whose block must be re-erased before it (R110). -/
def State.firstReerase (s : State) (o : DieOp) : Option Nat :=
  if o.purpose.any (fun p => match p with | .progDesc _ => true | .progRow _ _ => true | _ => false) then o.pages.find? s.mustReerase
  else none

/-- A program stands aside for the re-erase of the block of page `p` (R110). -/
def State.eraseAhead (s : State) (o : DieOp) (p : Nat) : State :=
  let s : State := { s with seq := { s.seq with ahead := s.seq.ahead ++ [o] } }
  s.enqueueErase (s.logicalDie (addrDie p)) [addrBlock p] (.eraseAhead o.id) o.origin o.ord true

/-- Put a program among the operations that wait, a re-erase of its block first where one is due (R110). -/
def State.enqueueProg (s : State) (o : DieOp) : State :=
  match s.firstReerase o with
  | some p => s.eraseAhead o p
  | none => s.enqueue o

/-! ### PROGRAM and COPY (R235, R237) -/

/-- The status a PROGRAM or COPY whose pages all passed completes with. -/
def Desc.goodStatus (d : Desc) : Nat :=
  if d.op = 0x07 then combineStatus (d.results.filterMap fun r => r.map EnvRes.status) else St.ok

/-- A PROGRAM or COPY ends: the lines of the pages that were not programmed are dropped. -/
def State.progEnd (s : State) (d : Desc) (st : Nat) : State :=
  (d.pages.foldl (fun s p => s.pageLines p.1 false) s).finish d.id st d.count

/-- The next page of a PROGRAM or COPY is put among the operations that wait (R84 step 3, R110, R235). -/
def State.startProg (s : State) (id : Nat) : State :=
  match s.desc? id with
  | none => s
  | some d => match d.status, d.pages with
    | some _, _ => s
    | none, [] => s.finish id d.goodStatus d.count
    | none, (page, data) :: _ => if d.bufferFault then s.progEnd d St.bufferFault else match s.writeDie (addrDie page) with
      | some st => s.progEnd d st
      | none =>
        let (n, s) := s.fresh
        s.enqueueProg { id := n, ord := d.id, cls := 2, origin := .queue d.sq, pages := [s.busAddr page], purpose := [.progDesc id],
                        data := data }

/-- A page of a PROGRAM or COPY ends with a status (R86, R235). -/
def State.progDone (s : State) (id st : Nat) : State :=
  match s.desc? id with
  | none => s
  | some d => match d.status, d.pages with
    | none, (page, _) :: rest =>
      if st = St.ok then
        let s := s.pageLines page true
        let s := s.setDesc { d with count := d.count + 4, pages := rest }
        if d.bufferFault then s.finish id St.bufferFault (d.count + 4)
        else if s.modeNow = 10 then s else s.startProg id
      else s.progEnd d st
    | _, _ => s

/-- The pages of a program: four envelopes each, allocated and encoded at their addresses. -/
def State.encodePages (s : State) (first : Nat) (envs : List (Bytes × Bytes)) : List (Nat × List Bytes) × State :=
  (List.range (envs.length / 4)).foldl (fun (acc : List (Nat × List Bytes) × State) i =>
    let page := first + 4 * i
    let es := (envs.drop (4 * i)).take 4
    let s := acc.2.allocPage page (addrBlock page) (es.mapIdx fun e x => (page + e, x.1, x.2))
    (acc.1 ++ [(page, [pageEncode page es])], s)) ([], s)

/-- PROGRAM (R84, R133, R230, R235). -/
def execProgram (id : Nat) (buf md : Bytes) (s : State) (corr : Nat := 0) : Host.Outcome State Fault Refusal :=
  match s.desc? id with
  | none => .next s
  | some d =>
    if d.op ≠ 0x04 ∨ d.started ∨ d.status.isSome then .next s
    else
      let n := field d.bytes 16 4
      let s := s.dramReads corr
      if !(List.range n).all (metaOk d.bytes md) then .next (s.finish id St.malformed 0)
      else if d.late.isSome then .next (s.finish id (d.late.getD 0) 0)
      else
        let envs := (List.range n).map fun i =>
          let p := slice buf (4096 * i) 4096
          (s.progContent d.bytes md p i 0, p)
        let (pages, s) := s.encodePages (field d.bytes 8 8) envs
        .next ((s.setDesc { d with started := true, pages := pages }).startProg id)

/-- The source stage of a COPY has ended (R237): it fails with the first envelope that is erased or failed, or its destination is
built and its pages start. -/
def State.copySources (s : State) (d : Desc) : State :=
  let rs := d.results.filterMap id
  match rs.find? fun r => isFailure r.status || r.status = St.erased with
  | some r => s.finish d.id r.status 0
  | none =>
    let fresh := bit (field d.bytes 4 1) 0
    let envs := rs.map fun r =>
      let h := Header.parse r.content
      ((if fresh then { h with stripe := 0, postmark := s.postmark } else { h with stripe := 0 }).bytes, r.payload)
    let (pages, s) := s.encodePages (field d.bytes 20 8) envs
    (s.setDesc { d with pages := pages }).startProg d.id

/-! ### ERASE (R100, R101, R288) -/

/-- An uncorrectable unit of a stripe map read, which is no buffer's: it is recorded, and the operation fails with MEM_FATAL (R273, log
102). -/
def State.mapLost (s : State) (lost : Option Nat) : State := match lost with | some a => (s.dramUncorr a).memFatal | none => s

/-- ERASE (R100 step 1, R286, R288): the bits of the layouts that cover the block are cleared in the map, the range is
invalidated, and the bracket waits for its die. -/
def execErase (id : Nat) (maps : List Bytes) (s : State) (corr : Nat := 0) (lost : Option Nat := none) : Host.Outcome State Fault Refusal :=
  match s.desc? id with
  | none => .next s
  | some d =>
    if d.op ≠ 0x06 ∨ d.started ∨ d.status.isSome then .next s
    else if lost.isSome then .next (s.mapLost lost)
    else
      let s := s.dramReads corr
      let a := field d.bytes 8 8
      let k := addrDie a
      let b := addrBlock a
      match s.writeDie k with
      | some st => .next (s.finish id st 0)
      | none =>
        let js := (List.range s.img.cfg.layouts.length).filter (s.covers maps k b)
        let s := js.foldl (fun s j => s.writeMapLine maps j (s.mapIdx j b) false) s
        let s := s.setDesc { d with started := true, mapWait := !js.isEmpty }
        let s := s.enqueueErase k [b] (.eraseDesc id) (.queue d.sq) id false
        .next { s with fi := { s.fi with mapWrites := s.fi.mapWrites ++ js.map fun _ => id },
                       seq := { s.seq with waiting := s.seq.waiting.map fun (o : DieOp) =>
                         if o.purpose = [.eraseDesc id] then { o with mapWait := !js.isEmpty } else o } }

/-! ### Stripe rows (R88 to R93, R287) -/

/-- The address of slot `s` of member `m` of a row (R89). -/
def State.rowSlot (s : State) (r : Row) (m slot : Nat) : Nat :=
  mkAddr ((s.layout r.layout).getD m 0) (r.base + slot / 4) r.page (slot % 4)

/-- The address of data position `i` of a row, in filling order (R89, R90). -/
def State.rowAddr (s : State) (r : Row) (i : Nat) : Nat :=
  let slot := i / 14
  s.rowSlot r ((i % 14 + slot) % 16) slot

/-- The planes of a row's members. -/
def State.rowPlanes (s : State) (j : Nat) : Nat := max 1 (s.geo ((s.layout j).headD 0)).planes

/-- The row with a number. -/
def State.row? (s : State) (id : Nat) : Option Row := s.seq.rows.find? (·.id = id)

/-- Replace a row. -/
def State.setRow (s : State) (r : Row) : State :=
  { s with seq := { s.seq with rows := s.seq.rows.map fun x => if x.id = r.id then r else x } }

/-- Another layout with a member of layout `j` holds the base block's bit (R287). -/
def State.rowClash (s : State) (maps : List Bytes) (j b : Nat) : Bool :=
  (List.range s.img.cfg.layouts.length).any fun i => i ≠ j && (s.layout j).any fun k => s.covers maps k b i

/-- Append envelopes to a row: their lines are allocated (R20, R90, R277). The row's place in admission order is that of the
descriptor that filled it last (R77). -/
def State.rowAppend (s : State) (r : Row) (envs : List (Bytes × Bytes)) (alloc : Bool) (due : Nat) : State :=
  let n := r.filled.length
  let s := s.setRow { r with filled := r.filled ++ envs, due := due }
  if alloc then
    let es := envs.mapIdx fun i e => (s.rowAddr r (n + i), e.1, e.2)
    let pages := (es.map fun e => e.1 / 4).eraseDups
    pages.foldl (fun s p => s.allocPage (4 * p) r.base (es.filter fun e => e.1 / 4 = p)) s
  else s

/-- Fill a row's free positions with fillers (R92): how many. -/
def State.rowFlush (s : State) (r : Row) (due : Nat) : Nat × State :=
  let n := s.rowSize r.layout - r.filled.length
  let (envs, s) := (List.range n).foldl (fun (acc : List (Bytes × Bytes) × State) i =>
    let (f, s) := acc.2.filler ((r.filled.length + i) % 14)
    (acc.1 ++ [f], s)) ([], s)
  (n, s.rowAppend r envs false due)

/-- The rows that an SQ opened and that are not full are flushed while it is being deleted (R92, R223 step 2), a row that an admitted
PROGRAM_STRIPE of the SQ still has to fill once that has run. -/
def State.flushLeaving (s : State) (n due : Nat) : State :=
  if s.sqLeaving n = false then s
  else
    let fills (r : Row) (d : Desc) : Bool := d.sq = n && d.op = 0x05 && !d.started && d.status.isNone && field d.bytes 5 1 = r.layout &&
      addrBlock (field d.bytes 8 8) = r.base && addrPage (field d.bytes 8 8) = r.page
    (s.seq.rows.filter fun r => r.opener = n && decide (r.filled.length < s.rowSize r.layout) && !s.descs.any (fills r)).foldl
      (fun s r => (s.rowFlush r due).2) s

/-- PROGRAM_STRIPE (R88, R90, R133, R230, R235, R286, R287). While the map write that opens its row is out, it does not go on. -/
def execProgramStripe (id : Nat) (buf md : Bytes) (maps : List Bytes) (s : State) (corr : Nat := 0) (lost : Option Nat := none) :
    Host.Outcome State Fault Refusal :=
  match s.desc? id with
  | none => .next s
  | some d =>
    if d.op ≠ 0x05 ∨ d.started ∨ d.status.isSome then .next s
    else
      let n := field d.bytes 16 4
      let j := field d.bytes 5 1
      let a := field d.bytes 8 8
      let old := s.rowFind j (addrBlock a) (addrPage a)
      let used := match old with | some r => r.filled.length | none => 0
      if old.any fun r => !r.mapAck then .next s
      else if s.mapOn ∧ lost.isSome then .next (s.mapLost lost)
      else
      let s := s.dramReads corr
      if s.mapOn = false ∨ s.rowClash maps j (addrBlock a) ∨ s.rowSize j < used + n ∨
          !(List.range n).all (metaOk d.bytes md) then .next ((s.finish id St.malformed 0).flushLeaving d.sq id)
      else if d.late.isSome then .next ((s.finish id (d.late.getD 0) 0).flushLeaving d.sq id)
      else
        let (r, s) := match old with
          | some r => (r, s)
          | none =>
            let (rid, s) := s.fresh
            let i := s.mapIdx j (addrBlock a)
            let isSet := lineBit (maps.getD j []) i
            let s := if isSet then s else s.writeMapLine maps j i true
            let r : Row := { id := rid, layout := j, base := addrBlock a, page := addrPage a, opener := d.sq, mapAck := isSet }
            (r, { s with seq := { s.seq with rows := s.seq.rows ++ [r] },
                         fi := { s.fi with mapWrites := if isSet then s.fi.mapWrites else s.fi.mapWrites ++ [id] } })
        let r : Row := { r with waits := r.waits ++ [(id, n)] }
        let envs := (List.range n).map fun i =>
          let p := slice buf (4096 * i) 4096
          (s.progContent d.bytes md p i ((used + i) % 14), p)
        .next (((s.setDesc { d with started := true }).rowAppend r envs true id).flushLeaving d.sq id)

/-- FLUSH_STRIPE (R92, R93, R287). -/
def execFlushStripe (id : Nat) (maps : List Bytes) (s : State) (corr : Nat := 0) (lost : Option Nat := none) : Host.Outcome State Fault Refusal :=
  match s.desc? id with
  | none => .next s
  | some d =>
    if d.op ≠ 0x08 ∨ d.started ∨ d.status.isSome then .next s
    else
      let j := field d.bytes 5 1
      let a := field d.bytes 8 8
      if (s.rowFind j (addrBlock a) (addrPage a)).any fun r => !r.mapAck then .next s
      else if s.mapOn ∧ lost.isSome then .next (s.mapLost lost)
      else
      let s := s.dramReads corr
      if s.mapOn = false ∨ s.rowClash maps j (addrBlock a) then .next (s.finish id St.malformed 0)
      else match s.rowFind j (addrBlock a) (addrPage a) with
        | none => .next (s.finish id St.ok 0)
        | some r =>
          let n := s.rowSize j - r.filled.length
          let (_, s) := (s.setDesc { d with started := true }).rowFlush { r with waits := r.waits ++ [(id, n)] } id
          .next s

/-- The 16 envelopes of a stripe's slot: its data positions, then P and Q (R89, R284, R285). -/
def stripeSlot (data : List (Bytes × Bytes)) : List (Bytes × Bytes) :=
  let known := data.mapIdx fun q e => (q, stripeMessage q e.1 e.2)
  let pq := stripeSolve known 14 15
  data ++ [stripeEnvelope 14 pq.1, stripeEnvelope 15 pq.2]

/-- The encoded pages of a member of a full row, in plane order (R89, R284, R285). -/
def State.memberPages (s : State) (r : Row) (m : Nat) : List Bytes :=
  let n := s.rowPlanes r.layout
  (List.range n).map fun i =>
    pageEncode (s.rowSlot r m (4 * i)) ((List.range 4).map fun e =>
      let slot := 4 * i + e
      (stripeSlot ((r.filled.drop (14 * slot)).take 14)).getD (posOf m slot) ([], []))

/-- Record a member's status (R93): the lines of the envelopes that lie on it become readable or are dropped (R20, R86). -/
def State.rowMemberDone (s : State) (row m st : Nat) : State :=
  match s.row? row with
  | some r =>
    if r.members.any (·.1 = m) then s
    else
      let s := (List.range (s.rowPlanes r.layout)).foldl (fun s i => s.pageLines (mkAddr ((s.layout r.layout).getD m 0) (r.base + i) r.page 0)
        (st = St.ok)) s
      s.setRow { r with members := r.members ++ [(m, st)] }
  | none => s

/-- Why a member's program cannot be made (R93, R304): its die or route, or its die is the source of a running rebuild. -/
def State.memberGone (s : State) (k : Nat) : Option Nat :=
  if s.fi.rebuilds.any fun r => r.source = k then some St.dieRetired else s.writeDie k

/-- Put the program of member `m` of a row among the operations that wait (R93, R110). -/
def State.startMember (s : State) (r : Row) (m : Nat) : State :=
  let k := (s.layout r.layout).getD m 0
  let n := s.rowPlanes r.layout
  match s.memberGone k with
  | some st => s.rowMemberDone r.id m st
  | none =>
    let (id, s) := s.fresh
    s.enqueueProg { id := id, ord := r.due, cls := 2, origin := .queue r.opener,
                    pages := (List.range n).map fun i => s.busAddr (mkAddr k (r.base + i) r.page 0),
                    purpose := (List.range n).map fun _ => .progRow r.id m, data := s.memberPages r m }

/-- ROW_MEMBER_PROGRAM_START (R93): every slot of member `m` can be encoded and the row's map bit stands. -/
def execRowMemberProgramStart (row m : Nat) (s : State) : Host.Outcome State Fault Refusal :=
  match s.row? row with
  | none => .next s
  | some r =>
    if 16 ≤ m ∨ r.started.contains m ∨ r.mapAck = false ∨ s.memberReady r m = false ∨ s.modeNow = 10 then .next s
    else
      let r : Row := { r with started := r.started ++ [m] }
      .next ((s.setRow r).startMember r m)

/-- ROW_COMPLETE (R93): the status of every member's program has been taken. -/
def execRowComplete (row : Nat) (s : State) : Host.Outcome State Fault Refusal :=
  match s.row? row with
  | none => .next s
  | some r =>
    if r.members.length < 16 then .next s
    else
      let bad := (List.range 16).filterMap fun m => (r.members.find? (·.1 = m)).bind fun e => if e.2 ≠ St.ok then some e.2 else none
      let st := bad.headD St.ok
      let s := (r.waits.foldl (fun s w => match s.desc? w.1 with
        | some d => s.finish w.1 st (if st = St.ok ∨ d.op = 0x08 then w.2 else 0)
        | none => s) s).together s.seq.nextId
      .next { s with seq := { s.seq with rows := s.seq.rows.filter fun x => x.id ≠ r.id } }

/-! ### Re-erases (R110, R111) -/

/-- A program ends that stood aside: its descriptors and members fail with the status of the re-erase (R110). -/
def State.aheadFailed (s : State) (o : DieOp) (st : Nat) : State :=
  o.purpose.eraseDups.foldl (fun s p => match p with
    | .progDesc id => s.progDone id st
    | .progRow row m => s.rowMemberDone row m st
    | _ => s) s

/-- The program `op` stands aside no more. -/
def State.aheadLeaves (s : State) (op : Nat) : State :=
  { s with seq := { s.seq with ahead := s.seq.ahead.filter (·.id ≠ op) } }

/-- The re-erase ahead of program `op` ends with a status (R110): the program goes on, or fails. -/
def State.aheadDone (s : State) (op st : Nat) : State :=
  match s.seq.ahead.find? (·.id = op) with
  | some o =>
    let s := s.aheadLeaves op
    let faulted := o.purpose.any fun p => match p with | .progDesc id => (s.desc? id).any Desc.bufferFault | _ => false
    if faulted then s.aheadFailed o St.bufferFault else if st = St.ok then s.enqueueProg o else s.aheadFailed o st
  | none => s

/-- GUARDED_REERASE_RELEASE (R111): the blocks of route `r` that TRAIN left in the incomplete-erase set are re-erased once its
guard holds no more. -/
def execGuardedReeraseRelease (r : Nat) (s : State) : Host.Outcome State Fault Refusal :=
  if s.guardHolds r ∨ !([4, 5, 11].contains s.modeNow) ∨ s.routeSt r ≠ 2 then .next s
  else
    let due := s.seq.fromTrain.filter fun b => b / 65536 / 16 = r
    let s : State := { s with seq := { s.seq with fromTrain := s.seq.fromTrain.filter fun b => !due.contains b } }
    .next (due.foldl (fun s b => s.enqueueErase (b / 65536) [b % 65536] .eraseGuarded .recovery 0 true) s)

end Sys2Proof.Machine
end

