-- ==== Sys2Proof/Machine/Sorting.lean ====
section
/-! DEFINITION. The sorting office: starting scans, fetching items, admitting, testing, evaluating and retiring positions, and lanes
(R174 to R201). -/

namespace Sys2Proof.Machine

/-- The scan with a number. -/
def State.scan? (s : State) (id : Nat) : Option Scan := s.so.scans.find? (·.id = id)

/-- Replace a scan. -/
def State.setScan (s : State) (c : Scan) : State :=
  { s with so := { s.so with scans := s.so.scans.map fun x => if x.id = c.id then c else x } }

/-- Replace a position of a scan. -/
def Scan.setPos (c : Scan) (p : Position) : Scan :=
  { c with positions := c.positions.map fun x => if x.key = p.key then p else x }

/-! ### Starting (R174, R178, R194) -/

/-- The scans that are active. -/
def State.activeScans (s : State) : Nat := s.so.scans.countP (·.active)

/-- SCAN (R174 to R178, R194, R197): the plan, the descriptor's scan fields and the token are checked; with 16 scans active it
waits. -/
def execScan (id : Nat) (plan : Bytes) (blocks : List Nat) (s : State) (corr : Nat := 0) : Host.Outcome State Fault Refusal :=
  match s.desc? id with
  | none => .next s
  | some d =>
    if d.op ≠ 0x03 ∨ d.started ∨ d.status.isSome then .next s
    else
      let p := slice plan 0 256
      let s := s.dramReads corr
      match (if planOk p ∧ planCapacity p ≤ field d.bytes 16 4 then tokenStart p (slice d.bytes 32 16) else none) with
      | none => .next (s.scanFinish id St.malformed 0)
      | some first =>
        let go := decide (s.activeScans < 16) && s.so.scans.all (·.active)
        let c : Scan := { id := id, plan := p, buffer := field d.bytes 20 8, capacity := field d.bytes 16 4, share := d.share, first := first,
                          blocks := blocks, active := go, x := (s.getR R.SO_X).toNat, nextItem := first.1 }
        let s := s.setDesc { d with started := true }
        let s : State := { s with so := { s.so with scans := s.so.scans ++ [c] } }
        .next (if go then s.scanShow else s.scanShow.raise F.SO_EVENT_SCAN_WAIT)

/-- SCAN_START (R194): the waiting scan that is first in admission order starts once one of the 16 places is free. -/
def execScanStart (id : Nat) (s : State) : Host.Outcome State Fault Refusal :=
  match s.scan? id with
  | none => .next s
  | some c =>
    let first := !(s.so.scans.any fun x => !x.active && x.id < c.id)
    if c.active ∨ 16 ≤ s.activeScans ∨ first = false then .next s
    else .next (s.setScan { c with active := true, x := (s.getR R.SO_X).toNat }).scanShow

/-! ### Items (R179, R180) -/

/-- The positions of a fetched item: all failing with MALFORMED and cause 5 where the item fails (R180), by the floor share at the SCAN's
admission (R395). A ROW names its first stream whose address is out of range (R192). -/
def State.itemPositions (s : State) (c : Scan) (item : Bytes) : List Position :=
  let (as, bad) := itemAddrs c.plan item
  let run := field c.plan 12 1 = 0
  let n := if run then as.length else 1
  let e0 := if c.nextItem = c.first.1 then c.first.2 else 0
  let r := as.headD 0 / 2 ^ 34 % 32
  let bad := match firstIdx as.length fun i => !s.inRange (as.getD i 0) with
    | some i => some (if run then 0 else i)
    | none => if bad ∨ c.share.getD r 0 < 5 ∨ n ≤ e0 then some 0 else none
  let m := max n (e0 + 1)
  (List.range (m - e0)).map fun i =>
    let e := e0 + i
    let base : Position := { key := 2 ^ 32 * c.nextItem + e, item := c.nextItem, env := e, addrs := [], route := r,
                             last := decide (c.nextItem + 1 = planItems c.plan ∧ m ≤ e + 1) }
    match bad with
    | some k => { base with addrs := [as.getD (if run then min e (as.length - 1) else k) 0], outcome := 6, status := St.malformed,
                            cause := 5 }
    | none => let addrs := if run then [as.getD e 0] else as
              { base with addrs := addrs, res := addrs.map fun _ => none, hdrs := addrs.map fun _ => none }

/-- ITEM_FETCH (R179, R180, R197): the next item of a scan arrives and is checked. -/
def execItemFetch (id : Nat) (item : Bytes) (s : State) (corr : Nat := 0) : Host.Outcome State Fault Refusal :=
  match s.scan? id with
  | none => .next s
  | some c =>
    if c.active = false ∨ c.stop.isSome ∨ planItems c.plan ≤ c.nextItem ∨ s.pipeRuns = false then .next s
    else .next ((s.dramReads corr).setScan { c with positions := c.positions ++ s.itemPositions c item, nextItem := c.nextItem + 1 })

/-! ### Slots and admission (R194, R195, R201) -/

/-- The shared slots of route `r` in use. -/
def State.sharedUsed (s : State) (r : Nat) : Nat := (s.so.scans.map fun c => c.takenOn r - 4).sum

/-- All slots of a position can be taken at once (R194, R195): from the scan's reserve of 4, else shared ones in the order of the
requests. None is taken while the route's use exceeds a share that was lowered (R395). -/
def State.slotsFit (s : State) (c : Scan) (p : Position) : Bool :=
  let own := c.takenOn p.route
  let more := (own + p.addrs.length - 4) - (own - 4)
  let first := match (s.so.requests.filter fun q => q.1 = p.route).head? with
    | some q => decide (q.2 = c.id)
    | none => true
  decide (s.slotsUsed p.route ≤ 14 * s.img.cfg.floor.getD p.route 0) &&
    (more = 0 || (first && decide (more + s.sharedUsed p.route ≤ 14 * s.img.cfg.floor.getD p.route 0 - 64)))

/-- The next position of each driving route, in plan order, that `ADMIT_AHEAD` lets in (R195, R201). -/
def Scan.candidates (c : Scan) : List Position :=
  let ahead (r : Nat) : Nat := c.positions.countP fun p => p.route = r && p.admitted
  let open_ := c.positions.filter fun p => !p.admitted && p.outcome = 0
  (open_.filter fun p => !(open_.any fun q => q.route = p.route && q.key < p.key)).filter fun p =>
    decide (ahead p.route < max 4 (bits c.x 10 12))

/-- Slots of the sorting floor are in use: what their words hold is no longer what was there before (R272, R367). -/
def State.useFloor (s : State) : State :=
  { s with mi := { s.mi with floorUsed := true, data := s.mi.data.filter (0x400000 ≤ ·.1) } }

/-- The reads of an admitted position begin (R17, R182). -/
def State.positionReads (s : State) (c : Scan) (p : Position) : State :=
  let s := s.useFloor
  let (rs, s) := s.envChecks true p.addrs
  let p : Position := { p with admitted := true, taken := p.addrs.length, res := rs }
  let s := (s.setScan (c.setPos p)).floorShow [p.route]
  let sq := match s.desc? c.id with | some d => d.sq | none => 0
  let jobs := (p.addrs.mapIdx fun i a => (i, a)).filterMap fun e =>
    if (rs.getD e.1 none).isSome then none
    else some ({ id := 0, ord := c.id, addr := e.2, dest := .scan c.id p.key e.1, origin := .queue sq,
                 header := planHeaderFirst c.plan } : Job)
  let (jobs, s) := s.makeJobs jobs
  s.enqueueReads jobs none true (match s.desc? c.id with | some d => d.gone | none => [])

/-! ### The header tests (R182, R183) -/

/-- The jobs of a position. -/
def State.positionJobs (s : State) (id key : Nat) : List Job :=
  s.seq.jobs.filter fun j => match j.dest with | .scan i k _ => i = id && k = key | _ => false

/-- The slots of a position go back to its route. -/
def State.releasePosition (s : State) (c : Scan) (p : Position) : State :=
  (s.setScan (c.setPos { p with taken := 0 })).floorShow [p.route]

/-- Let the payloads of some streams be transferred (R73 step 5, R182, R183 step 5). -/
def State.wantPayloads (s : State) (js : List Job) : State :=
  js.foldl (fun s j => if j.header ∧ j.hdrDone then s.setJob { j with header := false } else s) s

/-- Go on with a position once every stream of it has its header or its outcome (R182 to R186). A stream that fails decides once the payloads
asked for before it in stream order are in: the first failing stream is the one named (R192). -/
def State.positionStep (s : State) (id key : Nat) : State :=
  match s.scan? id with
  | none => s
  | some c => match c.positions.find? (·.key = key) with
    | none => s
    | some p =>
      let heads := (List.range p.addrs.length).map p.head
      if p.outcome ≠ 0 ∨ heads.contains .pending then s
      else
        let v := headerTests c.plan c.x heads
        let js := s.positionJobs id key
        let stream (j : Job) : Nat := match j.dest with | .scan _ _ i => i | _ => 0
        if v.outcome = 0 then s.wantPayloads (js.filter fun j => heads.getD (stream j) .pending = .undecoded)
        else if v.outcome = 7 ∧ (p.res.any Option.isNone) then s.wantPayloads js
        else if v.outcome = 6 ∧ (js.any fun j => decide (stream j < v.stream) && !j.header) then s
        else
          let p : Position := { p with outcome := v.outcome, status := v.status, cause := v.cause, failAt := v.stream }
          let s := js.foldl State.cancelJob (s.setScan (c.setPos p))
          if v.outcome ≤ 4 then match s.scan? id with | some c => s.releasePosition c p | none => s else s

/-- POSITION_ADMIT (R17, R195): the first position in plan order whose slots can be taken is admitted; where none fits, the requests
are noted in order. -/
def execPositionAdmit (id : Nat) (s : State) : Host.Outcome State Fault Refusal :=
  match s.scan? id with
  | none => .next s
  | some c =>
    if c.active = false ∨ c.stop.isSome ∨ s.issues = false then .next s
    else match c.candidates.find? (s.slotsFit c) with
      | some p =>
        let s : State := { s with so := { s.so with requests := s.so.requests.filter fun q => q ≠ (p.route, id) } }
        .next ((s.positionReads c p).positionStep id p.key)
      | none =>
        let new := (c.candidates.map fun p => (p.route, id)).filter fun q => !s.so.requests.contains q
        .next { s with so := { s.so with requests := s.so.requests ++ new } }

/-- A stream's header has been read (R145, R182): its outcome and content. -/
def State.scanHeader (s : State) (id key i code : Nat) (content : Bytes) : State :=
  match s.scan? id with
  | none => s
  | some c => match c.positions.find? (·.key = key) with
    | none => s
    | some p => (s.setScan (c.setPos { p with hdrs := p.hdrs.set i (some (code, content)) })).positionStep id key

/-- A stream's read has ended. -/
def State.scanResult (s : State) (id key i : Nat) (r : EnvRes) : State :=
  match s.scan? id with
  | none => s
  | some c => match c.positions.find? (·.key = key) with
    | none => s
    | some p => (s.setScan (c.setPos { p with res := p.res.set i (some r) })).positionStep id key

/-! ### Lanes, retirement and the end (R187, R192, R196, R198, R199) -/

/-- LANE_EVALUATE_DONE (R187, R199): the rows of a position, all of whose payloads are in, have been tested. -/
def execLaneEvaluateDone (id pos : Nat) (s : State) : Host.Outcome State Fault Refusal :=
  match s.scan? id with
  | none => .next s
  | some c => match c.positions.find? (·.key = pos) with
    | none => .next s
    | some p =>
      if p.outcome ≠ 7 ∨ s.stagesRun = false then .next s
      else
        let pays := (List.range p.addrs.length).map p.payload
        let n := match p.head 0 with | .known h => (Header.parse h).count | _ => 0
        .next (s.setScan (c.setPos { p with outcome := 5, rows := idxWhere n (rowQualifies c.plan pays) }))

/-- The counter of an outcome (Table 8-12). -/
def outcomeCounter (o : Nat) : Option Nat :=
  match o with
  | 1 => some R.SO_CNT_ZONE_SKIP
  | 2 => some R.SO_CNT_WINDOW_SKIP
  | 4 => some R.SO_CNT_HEADER_AGG
  | 5 => some R.SO_CNT_EVALUATED
  | 6 => some R.SO_CNT_FAILING
  | _ => none

/-- The place of an outcome in the summary's counts, positions decided being place 0 (Table 8-4). -/
def tallyAt (o : Nat) : Nat := match o with | 1 => 1 | 2 => 2 | 3 => 3 | 5 => 4 | 4 => 5 | _ => 6

/-- Nothing of a scan that has stopped is read or evaluated any more (R198). -/
def State.discardScan (s : State) (c : Scan) : State :=
  let js := s.seq.jobs.filter fun j => match j.dest with | .scan i _ _ => i = c.id | _ => false
  let s := js.foldl State.cancelJob s
  (s.setScan { c with positions := c.positions.map fun p => { p with taken := 0 } }).floorShow (c.positions.map Position.route)

/-- The oldest position of a scan retires (R192, R196, R198). -/
def State.retirePosition (s : State) (c : Scan) (p : Position) : State :=
  let agg := planOut c.plan = 3
  let cap := c.capacity - (if agg then 64 else 0)
  let failing := p.outcome = 6
  let record : Option Bytes := if failing then some (exceptionRecord c.plan p)
    else if p.outcome = 5 ∧ ¬agg ∧ p.rows ≠ [] then some (positionRecord c.plan p) else none
  let fits := match record with | some b => decide (c.out + b.length ≤ cap) | none => true
  let ends := failing ∧ planFlag c.plan 2 = false
  if fits = false ∧ ¬ends then s.discardScan { c with stop := some (p.item, p.env), partialEnd := true }
  else
    let (s, c) : State × Scan := match record with
      | some b => if fits then (s.fab (c.buffer + c.out) b, { c with out := c.out + b.length, records := c.records + 1 }) else (s, c)
      | none => (s, c)
    let s := s.bump R.SO_CNT_POSITIONS
    let s := match outcomeCounter p.outcome with | some off => s.bump off | none => s
    let i := tallyAt p.outcome
    let sts := p.res.filterMap fun r => r.map EnvRes.status
    let rows := if p.outcome = 4 then (match p.head 0 with | .known h => (Header.parse h).count | _ => 0) else p.rows.length
    let tally := (c.tally.set 0 (c.tally.getD 0 0 + 1)).set i (c.tally.getD i 0 + 1)
    let c : Scan := { c with positions := c.positions.filter fun x => x.key ≠ p.key, tally := tally,
                             recon := c.recon + sts.count St.reconstructed,
                             seen := if p.outcome = 4 ∨ p.outcome = 5 then (c.seen ++ sts).eraseDups else c.seen,
                             fail := if failing ∧ c.fail.isNone then some p.status else c.fail, rows := c.rows + rows }
    let (s, c) : State × Scan := if agg ∧ (p.outcome = 4 ∨ p.outcome = 5) then
        let c' := c.fold (positionPartial c.plan p)
        (if c'.sat = c.sat then s else s.raise F.SO_EVENT_SATURATED, c')
      else (s, c)
    let s := if ends then s.discardScan { c with stop := some (p.item, p.env) }
      else if (p.outcome = 4 ∨ p.outcome = 5) ∧ field c.plan 20 4 ≠ 0 ∧ field c.plan 20 4 ≤ c.rows ∧ p.last = false ∧ 0 < rows then
        s.discardScan { c with stop := c.unretired, partialEnd := true }
      else s.setScan c
    s.floorShow [p.route]

/-- POSITION_RETIRE (R196): the oldest position of a scan retires once its outcome is final. -/
def execPositionRetire (id : Nat) (s : State) : Host.Outcome State Fault Refusal :=
  match s.scan? id with
  | none => .next s
  | some c => match c.positions with
    | [] => .next s
    | p :: _ =>
      if c.stop.isSome ∨ p.outcome = 0 ∨ p.outcome = 7 ∨ s.pipeRuns = false then .next s
      else .next (s.retirePosition c p)

/-- SCAN_END (R188, R191, R193, R245): a scan that has stopped, or has no more positions, writes its aggregate record and its
summary, and completes. -/
def execScanEnd (id : Nat) (s : State) : Host.Outcome State Fault Refusal :=
  match s.scan? id with
  | none => .next s
  | some c =>
    if s.pipeRuns = false ∨ (c.stop.isNone ∧ (c.positions ≠ [] ∨ c.nextItem < planItems c.plan)) ∨ c.active = false then .next s
    else
      let fault := match s.desc? id with | some d => d.bufferFault | none => false
      .next (s.closeScan c c.endStatus fault)

/-! ### Lanes (R199) -/

/-- A lane works. -/
def State.laneWorks (s : State) (l : Nat) : Bool := decide (l < 34) && !s.so.laneBad.contains l

/-- The lane that evaluates the positions of driving route `r` (R199). -/
def State.laneOf (s : State) (r : Nat) : Nat := tget id s.so.laneOf r

/-- The routes a lane serves. -/
def State.laneRoutes (s : State) (l : Nat) : List Nat := (List.range 32).filter fun r => s.laneOf r = l

/-- Give the routes of a lane to another one. -/
def State.moveLane (s : State) (l m : Nat) : State :=
  (s.laneRoutes l).foldl (fun s r => { s with so := { s.so with laneOf := tset id s.so.laneOf r m } }) s

/-- The spare lanes that work and serve no route. -/
def State.spareLanes (s : State) : List Nat := [32, 33].filter fun l => s.laneWorks l && (s.laneRoutes l).isEmpty

/-- A lane is retired (R199): a spare takes its routes, or the next working lane above it. -/
def State.laneRetire (s : State) (l : Nat) : State :=
  if s.laneWorks l = false then s
  else
    let s : State := { s with so := { s.so with laneBad := insertAsc s.so.laneBad l } }
    let s := s.setF ⟨R.SO_LANE_FAIL (l / 32), l % 32, 1⟩ 1
    let s := if (s.laneRoutes l).isEmpty then s
      else match s.spareLanes with
        | m :: _ => (s.moveLane l m).raise F.SO_EVENT_LANE_SUBST
        | [] => match rotateIdx 34 (l + 1) s.laneWorks with
          | some m => (s.moveLane l m).raise F.SO_EVENT_LANE_SHORT
          | none => s
    let s := (s.setF F.SO_STATUS_LANES_OK ((List.range 34).countP s.laneWorks)).setF F.SO_STATUS_SPARES_LEFT s.spareLanes.length
    s.setF F.SO_STATUS_SHORT (b2n ((List.range 34).any fun m => decide (2 ≤ (s.laneRoutes m).length)))

/-- LANE_SELF_TEST_DUE (R199): the known-answer test of an idle lane. -/
def execLaneSelfTestDue (lane : Nat) (pass : Bool) (s : State) : Host.Outcome State Fault Refusal :=
  .next (if pass ∨ s.pipeRuns = false then s else s.laneRetire lane)

/-- LANE_FAULT (R199): a lane's parity checker faults. -/
def execLaneFault (lane : Nat) (s : State) : Host.Outcome State Fault Refusal := .next (s.laneRetire lane)

end Sys2Proof.Machine
end

