-- ==== Sys2Proof/Machine/Outcome.lean ====
section
/-! DEFINITION. What the outcome of an envelope, a program or an erase does to the descriptor, row, position, reconstruction or finding
it was made for; dies going out of service (R79, R80, R86, R93, R101, R159, R231 to R245, R279, R295, R300). -/

namespace Sys2Proof.Machine

/-! ### Envelopes of descriptors (R232 to R234, R237, R243, R280) -/

/-- 4,096 zero bytes. -/
def zeroPayload : Bytes := List.replicate 4096 0

/-- The payload slot of a READ's envelope (R233): the payload of every envelope that has one, else zeros. -/
def EnvRes.slot (r : EnvRes) : Bytes :=
  if isFailure r.status ∨ r.status = St.erased then zeroPayload else slice r.payload 0 4096

/-- The payload and list entry of envelope `i` of a READ or READ_HEADERS are written (R231, R232). -/
def State.writeEnv (s : State) (d : Desc) (i : Nat) (r : EnvRes) : State :=
  if d.op = 0x01 then
    let s := s.fab (field d.bytes 20 8 + 4096 * i) r.slot
    if field d.bytes 28 8 = 0 then s else s.fab (field d.bytes 28 8 + 32 * i) (headerEntry r)
  else if d.op = 0x02 then s.fab (field d.bytes 20 8 + 32 * i) (headerEntry r)
  else s

/-- Install a line into a locked way (R280): over a locked copy, else into the lowest locked-empty way, where an unlocked copy is
dropped. -/
def State.phInstallLocked (s : State) (a epoch : Nat) (content payload : Bytes) : State × Bool :=
  if s.getF F.MI_PH_CTRL_ALLOC_EN = 0 then (s, false)
  else if s.ph.ranges.any (fun r => r.covers a && serialLater 16 r.epoch epoch) then (s.bump R.MI_PH_CNT_DISCARDED, false)
  else
    let st := phSet a
    let put (s : State) (w : Nat) : State × Bool :=
      let s := (s.wordsRewritten (lineWord st w) 256).setLine st w
        { addr := a, content := content, payload := payload, valid := true, locked := true, epoch := epoch, used := s.ph.clock + 1 }
      (({ s with ph := { s.ph with clock := s.ph.clock + 1 } } : State).phCount, true)
    let holds (w : Nat) (l : Bool) : Bool := (s.line st w).valid && (s.line st w).locked = l && (s.line st w).addr = a
    match firstIdx 16 fun w => holds w true with
    | some w => put s w
    | none => match firstIdx 16 fun w => (s.line st w).lockedEmpty with
      | none => (s, false)
      | some w => match firstIdx 16 fun w => holds w false with
        | some v => put (s.phDrop st v) w
        | none => put s w

/-- A descriptor's envelope may be installed (R276): from a READ without NO_PIGEONHOLE, a COPY or a LOAD_PIGEONHOLE, completed OK,
OK_PILOT_ADJUSTED or OK_SOFT. -/
def Desc.installs (d : Desc) (r : EnvRes) : Bool :=
  [St.ok, St.adjusted, St.soft].contains r.status && d.fills

/-- Install an envelope for a descriptor, and whether its line stands (R276, R279, R280). -/
def State.fillInstall (s : State) (d : Desc) (a epoch : Nat) (r : EnvRes) : State × Bool :=
  if d.installs r then
    if d.op = 0x48 ∧ bit (field d.bytes 4 1) 0 then s.phInstallLocked a epoch r.content r.payload
    else s.phInstall a epoch r.content r.payload false
  else (s, false)

/-- A descriptor whose every envelope has its outcome finishes (R237, R243, Table 10-1). -/
def State.descCheck (s : State) (id : Nat) : State :=
  match s.desc? id with
  | none => s
  | some d =>
    if d.status.isSome ∨ d.started = false ∨ d.results.any Option.isNone then s
    else
      let sts := d.results.filterMap fun r => r.map EnvRes.status
      match d.op with
      | 0x01 => s.finish id (combineStatus sts) (countGood sts)
      | 0x02 => s.finish id (combineStatus sts) sts.length
      | 0x48 => s.finish id (combineStatus sts) d.count
      | 0x07 => s.copySources d
      | _ => s

/-- An envelope of a descriptor has its outcome: its buffers are written, its line is installed, and the descriptor finishes with
its last one. After a buffer fault nothing more is written (R245). -/
def State.descResult (s : State) (id i a epoch : Nat) (r : EnvRes) : State :=
  match s.desc? id with
  | none => s
  | some d =>
    if d.status.isSome ∨ d.bufferFault then s
    else
      let (s, stands) := (s.writeEnv d i r).fillInstall d a epoch r
      let d : Desc := { d with results := d.results.set i (some r), count := if d.op = 0x48 ∧ stands then d.count + 1 else d.count }
      (s.setDesc d).descCheck id

/-! ### Every envelope's outcome -/

/-- A slot of a rebuild's row page has been reconstructed (R302 step 2): one that failed is written as a void envelope, with a LOST
letter and a poison entry. -/
def State.rebuildSlot (s : State) (entry slot : Nat) (j : Job) (r : EnvRes) (code missing : Nat) : State :=
  let s : State := { s with fi := { s.fi with rebuilds := s.fi.rebuilds.map fun (x : Rebuild) =>
    if x.entry = entry then { x with slots := x.slots.set slot (some (r.status, r.content, r.payload)), busy := x.busy - 1 } else x } }
  if isFailure r.status then
    let f : Finding := { addr := j.addr, byRebuild := true, status := r.status, code := code, missing := missing, kind := 1,
                         ready := true, round := s.getF F.FI_ROUND_COUNT_COUNT }
    ({ s with fi := { s.fi with findings := s.fi.findings ++ [f] } } : State).lettersGo
  else s

/-- A reconstruction for a finding of patrol has been decided, or no stripe covers it (code 0): the finding is handled (R295), unless an
erase's range invalidation has dropped it (R299). -/
def State.patrolFinding (s : State) (j : Job) (r : EnvRes) (code missing : Nat) : State :=
  let f : Finding := { addr := j.addr, byRebuild := false, status := j.why, code := code, missing := missing,
                       content := if code = 1 then (if r.content = [] then none else some r.content) else j.content,
                       payload := r.payload, round := s.getF F.FI_ROUND_COUNT_COUNT }
  if j.recon then s.settle f (code = 1) else s

/-- Record a member read by its number in its context (R289). -/
def State.memberResult (s : State) (c m : Nat) (r : EnvRes) : State :=
  match s.ctx? c with
  | some x => s.memberDone c m (memberOf (posOf m (s.slotOf x.layout x.target)) r.status r.content r.payload)
  | none => s

/-- A calibration cannot read a page: it will end with a status (R163). -/
def State.calBad (s : State) (id st : Nat) : State :=
  { s with rc := { s.rc with cals := s.rc.cals.map fun (c : Cal) => if c.desc = id ∧ c.bad.isNone then { c with bad := some st } else c } }

/-- An envelope has its final outcome: its job ends, and whoever asked for it is told. `code` and `missing` are a reconstruction's
(Table 13-2), 0 without one. -/
def State.jobFinal (s : State) (j : Job) (r : EnvRes) (code missing : Nat) : State :=
  let s := s.withdraw j
  match j.dest with
  | .desc id i => s.descResult id i j.addr j.epoch r
  | .scan id key i => s.scanResult id key i r
  | .member c m => s.memberResult c m r
  | .patrol => if r.status = St.soft then s.bump R.FI_CNT_WEAK else s
  | .rebuild e slot => s.rebuildSlot e slot j r code missing
  | .raw id => s.finish id r.status (b2n (!isFailure r.status))
  | .cal id _ => if isFailure r.status then s.calBad id r.status else s

/-- An envelope ends with a failure status that no reconstruction follows (Tables 6-5 and 7-3, R79): patrol's becomes a finding, which
a stripe may still decide (R293, R295). -/
def State.jobFailed (s : State) (j : Job) (st : Nat) : State :=
  match j.dest with
  | .patrol => if j.recon then (s.jobLeavesDie j).toContext j st else s.withdraw j
  | _ => s.jobFinal j { status := st } 0 0

/-- The die or route of an envelope is out of service (R17 step 6, R162, R233, R234, R240, R289): it waits for a reconstruction, unless
its requester has none. A patrol read is dropped: its die is visited no more (R292). -/
def State.jobUnread (s : State) (j : Job) (st : Nat) : State :=
  match j.dest with
  | .patrol => s.withdraw j
  | .member _ _ => s.jobFailed j st
  | .raw _ => s.jobFailed j st
  | .cal _ _ => s.jobFailed j st
  | _ => if j.recon then (s.jobLeavesDie j).toContext j st else s.jobFailed j st

/-! ### The retry ladder (R159 to R161) -/

/-- A ladder array read of a job, where its die can still be read. -/
def State.ladderTry (s : State) (j : Job) (base : Option (List Int)) : State :=
  match s.unreadable j.addr true with
  | some st => s.jobUnread j st
  | none => s.ladderRead j base

/-- A job's present ladder step has failed: it takes the next one that applies, or step 4 (Table 7-3). A member is lost there (R289),
and NO_RECON ends with UNCORRECTABLE (R233). -/
def State.ladderGo (s : State) (j : Job) : State :=
  let m := s.nextLadder j
  if m < 4 then
    match s.unreadable j.addr true with
    | some st => s.jobUnread j st
    | none => s.startLadder j m
  else match j.dest with
    | .member _ _ => s.jobFailed j St.uncorrectable
    | _ =>
      let s := s.bump R.RC_CNT_UNCORR
      if j.recon then s.toContext j St.uncorrectable else s.jobFailed j St.uncorrectable

/-- A decode fails (R157, R159): after step 0 the next step waits for the drift estimate of its array read, where one will be made. -/
def State.decodeFailed (s : State) (j : Job) : State :=
  if j.step = 0 ∧ j.offGroup = false ∧ s.rc.pools.any (·.rd = j.rd) then
    s.setJob { j with phase := .ladderWait, estWait := true }
  else s.ladderGo j

/-! ### Programs and erases (R86, R93, R101, R110, R111, R298) -/

/-- A rebuild's program or erase ends (R302): a failure ends the rebuild, whose entry returns to its previous state. -/
def State.rebuildDone (s : State) (entry st : Nat) : State :=
  match s.fi.rebuilds.find? (·.entry = entry) with
  | none => s
  | some x =>
    if st = St.ok then
      { s with fi := { s.fi with rebuilds := s.fi.rebuilds.map fun (y : Rebuild) => if y.entry = entry then { y with busy := y.busy - 1 } else y } }
    else
      let mine (j : Job) : Bool := match j.dest with | .rebuild e _ => e = entry | _ => false
      let s := (s.seq.jobs.filter mine).foldl State.cancelJob s
      let s : State := { s with fi := { s.fi with rebuilds := s.fi.rebuilds.filter fun y => y.entry ≠ entry },
                                seq := { s.seq with waiting := s.seq.waiting.filter fun o => !(o.purpose.any fun p =>
                                  p = .progRebuild entry || p = .eraseRebuild entry) } }
      let s := s.setR (R.FI_COA_A entry) (BitVec.ofNat 32 x.previous)
      (s.setF F.FI_STATUS_REBUILDS s.fi.rebuilds.length).raise F.FI_EVENT_REBUILD_FAIL

/-- What an operation was for learns its status. -/
def State.purposeDone (s : State) (st : Nat) (p : Purpose) : State :=
  match p with
  | .progDesc id => s.progDone id st
  | .progRow row m => s.rowMemberDone row m st
  | .progSpare => s.relocateDone false st
  | .progRebuild e => s.rebuildDone e st
  | .progHome => s.homeDone false st
  | .eraseDesc id => s.finish id st (b2n (st = St.ok))
  | .eraseAhead op => s.aheadDone op st
  | .eraseGuarded => s
  | .eraseSpare => s.relocateDone true st
  | .eraseRebuild e => s.rebuildDone e st
  | .eraseHome => s.homeDone true st

/-- In SAFE only what a descriptor has done is kept for its ABORTED completion (R358, R398). -/
def State.safePurpose (s : State) (st : Nat) (p : Purpose) : State :=
  match p with
  | .progDesc id => match s.desc? id with
    | some d => match d.pages with
      | (page, _) :: rest =>
        let s := s.pageLines page (st = St.ok)
        if st = St.ok then s.setDesc { d with count := d.count + 4, pages := rest } else s
      | [] => s
    | none => s
  | .eraseDesc id => match s.desc? id with
    | some d => if st = St.ok then s.setDesc { d with count := 1 } else s
    | none => s
  | .eraseAhead op => s.aheadLeaves op
  | .progRow row m => if st = St.ok then s.rowMemberDone row m st else s
  | _ => s

/-- An operation that was not run, or whose end has been taken, tells every purpose of it. -/
def State.tellPurposes (s : State) (o : DieOp) (st : Nat) : State :=
  if s.modeNow = 10 then (o.purpose.eraseDups.foldl (fun s p => s.safePurpose st p) s).safeSettle
  else (o.purpose.eraseDups.foldl (fun s p => s.purposeDone st p) s).together s.seq.nextId

/-- A re-erase of a logged block has passed (R112). -/
def State.logReerased (s : State) (b : Nat) : State :=
  (List.range 16).foldl (fun s i =>
    let k := dieKey (s.getF (F.FI_REC_LOG_ROUTE i)) (s.getF (F.FI_REC_LOG_DIE i))
    if s.getF (F.FI_REC_LOG_KIND i) ≠ 0 ∧ blockKey k (s.getF (F.FI_REC_LOG_BLOCK i)) = b then s.setF (F.FI_REC_LOG_REERASED i) 1 else s) s

/-- What an erase's status does to its blocks: one that passed clears their poison entries and takes them out of the incomplete-erase
set (R111, R298), and the recovery erases that wait for them with them; one that timed out puts them there (R101). -/
def State.eraseEffects (s : State) (o : DieOp) (st : Nat) : State :=
  let keys := o.pages.map fun p => blockKey (addrDie p) (addrBlock p)
  if st = St.ok then
    let s := s.setPoison (s.fi.poison.filter fun a => !(o.pages.any fun p => busBlock (s.busAddr a) = busBlock p))
    let s : State := { s with seq := { s.seq with waiting := s.seq.waiting.filter fun x => !(x.origin = .recovery && x.shares o) } }
    keys.foldl (fun s b => let s := s.dropIncomplete b; if o.recovery then s.logReerased b else s) s
  else if st = St.timeout then s.addIncomplete keys
  else s

/-- A program or an erase bracket in a die has ended with a status. -/
def State.writeEnded (s : State) (o : DieOp) (st : Nat) : State :=
  (if o.cls = 3 then s.eraseEffects o st else s).tellPurposes o st

/-! ### Ledgers and temperatures (R94, R101) -/

/-- A ledger program failed or timed out (R101): the erase goes on without ledger entries. -/
def State.ledgerLost (s : State) (k : Nat) : State :=
  let d := s.die k
  (s.setDie k { d with ledger := { d.ledger with lost := true } }).raise F.FI_REC_EVENT_LEDGER_LOST

/-- A die's temperature reading is taken (R94): its conditions begin or end, and the guard follows. A sensor fault lies outside every
window as well. -/
def State.takeTemp (s : State) (k : Nat) (t : Int) : State :=
  let d := s.die k
  let g := s.geo k
  let bad := decide (t < -55 ∨ 175 < t)
  let out := if t < g.low ∨ g.high < t ∨ bad then true else if g.low + 2 ≤ t ∧ t ≤ g.high - 2 then false else d.tempOut
  let s := s.setDie k { d with temp := some t, tempOut := out, tempBad := bad }
  let s := if bad then s.raise F.PWR_WG_EVENT_SENSOR_FAULT else s
  let s := if out ∧ d.tempOut = false then s.raise F.PWR_WG_EVENT_TEMP else s
  s.guardUpdate

/-! ### Dies and routes out of service (R79, R80, R279, R300) -/

/-- Operations that cannot be run any more: reads wait for a reconstruction, programs and erases end with the status. -/
def State.dropOps (s : State) (l : List DieOp) (st : Nat) : State :=
  (l.foldl (fun s o => if o.cls = 1 then (o.jobs.filterMap s.job?).foldl (fun s j => s.jobUnread j st) (s.closePool o.id) else s.tellPurposes o st)
    s).together s.seq.nextId

/-- Everything that waits for die `k`, and a suspended operation, ends; with `all` set, what is in the die as well (R80, R300). -/
def State.dieDrop (s : State) (k st : Nat) (all : Bool) : State :=
  let d := s.die k
  let waiting := s.waitingFor k
  let inside_ := if all then [d.op, d.next].filterMap id else []
  let held := d.held.toList
  let s : State := { s with seq := { s.seq with waiting := s.seq.waiting.filter fun o => o.die ≠ k } }
  let d : Die := if all then { d with op := none, next := none, held := none, moving := none, run := [], parked := false, ready := false,
                                      series := 0, want := none, minRun := false, holdMax := false, tempDue := none, tempRun := none }
    else { d with held := none, minRun := false, holdMax := false }
  let s := (s.setDie k d).setF (F.RT_DIE_HELD (k / 16) (k % 16)) 0
  s.dropOps (inside_ ++ held ++ waiting) st

/-- A die enters FAULT with a cause (R79, R80, R279). -/
def State.dieFault (s : State) (k cause : Nat) : State :=
  let s := (s.setDieSt k 8).setF (F.RT_DIE_FAULT_CAUSE (k / 16) (k % 16)) cause
  let s := s.raise (F.RT_EVENT_DIE_FAULT (k / 16))
  ((s.dieRanges [k]).dieDrop k St.dieRetired true).guardUpdate

end Sys2Proof.Machine
end

