-- ==== Sys2Proof/Machine/Sequencer.lean ====
section
/-! DEFINITION. The sequencers: granting dies, cache series, suspension, and what goes on the bus (R61 to R74, R96, R97, R103 to R105,
R149, R397). -/

namespace Sys2Proof.Machine

/-! ### Suspend and resume (R97, R103 to R105) -/

/-- A queue read waits for die `k` to a block that the operation does not touch now (R103, R105); a read of the ledger pair waits for
an erase bracket to end (R100). -/
def State.queueReadWaits (s : State) (k : Nat) (o : DieOp) : Bool :=
  (s.waitingFor k).any fun x => x.queueRead && !x.shares { o with pages := s.touched k o } && !(o.cls = 3 && s.readsLedger x)

/-- The suspend byte of an operation's kind, as it stood when the operation started (R81). -/
def DieOp.suspendByte (o : DieOp) : Nat :=
  if o.cls = 2 then bits o.vcmd (F.RT_VCMD_PROG_SUSPEND 0).lo 8 else bits o.vcmd (F.RT_VCMD_ERASE_SUSPEND 0).lo 8

/-- The suspend limit of an operation's kind (Table 4-4), as it stood when the operation started. -/
def DieOp.suspendLimit (o : DieOp) : Nat :=
  if o.cls = 2 then clampNat 1 4 (bits o.suspX F.FI_SUSP_X_PROG_LIMIT.lo F.FI_SUSP_X_PROG_LIMIT.width)
  else clampNat 1 16 (bits o.suspX F.FI_SUSP_X_ERASE_LIMIT.lo F.FI_SUSP_X_ERASE_LIMIT.width)

/-- A suspend is due on die `k` but for the minimum run time (R97, R103): the die programs, or runs an erase command itself. -/
def State.suspendDue (s : State) (k : Nat) : Bool :=
  match (s.die k).op with
  | some o => (s.dieSt k = 5 || (s.dieSt k = 6 && (o.step = 2 || (s.ledgerErased k o.step).isSome))) && o.running &&
      (s.die k).want.isNone && o.suspendByte ≠ 0 && bits o.susp F.FI_SUSP_EN.lo 1 = 1 && s.queueReadWaits k o &&
      decide (o.suspends < o.suspendLimit) && !s.guardHolds (k / 16)
  | none => false

/-- A held operation is to be resumed now that its die is IDLE (R97, R105). -/
def State.resumeDue (s : State) (k : Nat) : Bool :=
  match (s.die k).held with
  | some o => (s.die k).holdMax || s.guardHolds (k / 16) || s.modeNow = 10 || !s.queueReadWaits k o
  | none => false

/-! ### Granting a die (R67, R74, R96) -/

/-- Route `r` takes new die operations: they are issued, and it is UP and not draining (R52). -/
def State.grants (s : State) (r : Nat) : Bool := s.issues && s.routeSt r = 2

/-- A granted read waits for a joining plane (R67, R82). -/
def State.mergeWaits (s : State) (o : DieOp) : Bool :=
  o.cls = 1 && o.join && s.getF (F.RT_SEQ_X_MERGE_WAIT (o.die / 16)) ≠ 0 && s.getF (F.RT_CTRL_MULTIPLANE_EN (o.die / 16)) = 1 &&
    decide (o.pages.length < (s.geo o.die).planes)

/-- An operation starts: it takes with it the register values that govern it (R81, the registers of chapter 4). -/
def State.opStarts (s : State) (o : DieOp) : DieOp :=
  let r := o.die / 16
  { o with merging := false, guardWait := false, polled := s.getF (F.RT_CTRL_POLL_ONLY r) = 1, vcmd := (s.getR (R.RT_VCMD r)).toNat,
           susp := (s.getR R.FI_SUSP).toNat, suspX := (s.getR R.FI_SUSP_X).toNat }

/-- An operation that die `k` has been granted begins, with what may be joined to it: an erase with its bracket, a read or program
with its first bus activity. SUSPENDS keeps the count of the last program or erase until the next one starts (R81 says only whose count
it is while one is held or current: DESIGN CHOICE, log 81). -/
def State.startOp (s : State) (k : Nat) (o : DieOp) : State :=
  let (o, s) := s.joinAll (s.opStarts o)
  let s := s.setDie k { s.die k with op := some o, minRun := false }
  let s := if o.cls = 1 then s else s.setF (F.RT_DIE_SUSPENDS (k / 16) (k % 16)) 0
  if o.cls = 3 then (s.setDieSt k 6).startStep k o ((s.nextStep k o).getD 2) else s.want k (s.firstAct o)

/-- The pointer of a class moves on (R74). -/
def State.movePtr (s : State) (k cls : Nat) (ptr : Option Nat) : State :=
  match ptr with
  | some p => let d := s.die k; s.setDie k { d with ptrs := d.ptrs.set (cls - 1) p }
  | none => s

/-- Grant die `k` to an operation. -/
def State.grantOp (s : State) (k : Nat) (o : DieOp) (ptr : Option Nat) : State :=
  let s := (s.unwait o.id).movePtr k o.cls ptr
  if s.mergeWaits o then s.setDie k { s.die k with op := some { o with merging := true } } else s.startOp k o

/-- The write guard holds an operation that would have been granted: its wait has begun (R96). -/
def State.guardHold (s : State) (o : DieOp) : State :=
  { s with seq := { s.seq with waiting := s.seq.waiting.map fun (x : DieOp) => if x.id = o.id then { x with guardWait := true } else x } }

/-- Rebuild's time on die `k` is below its share of the `us` elapsed in the window (R305). -/
def State.belowShare (s : State) (k us : Nat) : Bool := decide ((s.die k).rebuilt * 100 < s.img.cfg.floorShare * us)

/-- Grant an IDLE die that holds no operation: a held one that is due goes first (R74, R105). A program whose block joined the
incomplete-erase set while it waited gives way to the re-erase ahead of it (R110). -/
def State.grantIdle (s : State) (k us : Nat) : State :=
  if s.resumeDue k then s
  else match s.pickOp k (s.belowShare k us) with
    | none => s
    | some (o, ptr) =>
      if o.cls ≠ 1 ∧ s.guardHolds (k / 16) then s.guardHold o
      else match (if o.cls = 2 then s.firstReerase o else none) with
        | some p => (s.unwait o.id).eraseAhead o p
        | none => s.grantOp k o ptr

/-! ### Cache series (R69 to R71) -/

/-- The descriptor or scan that alone asked for a read. -/
def State.opOwner (s : State) (o : DieOp) : Option Nat :=
  match (o.jobs.filterMap s.job?).map fun j => (match j.dest with | .desc i _ => some i | .scan i _ _ => some i | _ => none) with
  | [] => none
  | x :: l => if l.all (· = x) then x else none

/-- The pages a cache series may have (R82). -/
def State.seriesMax (s : State) (r : Nat) : Nat := clampNat 1 64 (s.getF (F.RT_SEQ_X_CACHE_SERIES_MAX r))

/-- The page the series ends with so far. -/
def Die.last (d : Die) : Option DieOp := match d.next with | some o => some o | none => d.op

/-- The read that extends die `k`'s series, or opens one, with what is joined to it (R69, R71): the next grant of the die, from the same
descriptor or scan, on the same planes, with no threshold write before it. A read of another queue that wins the rotation ends the
series although a page of it is admitted (log 82). -/
def State.extension (s : State) (k us : Nat) : Option (DieOp × Option Nat × State) :=
  let d := s.die k
  let r := k / 16
  match d.last with
  | none => none
  | some o =>
    if s.dieSt k ≠ 4 ∨ d.want.isSome ∨ d.moving.isSome ∨ s.getF (F.RT_CTRL_CACHE_EN r) = 0 ∨ s.grants r = false ∨ o.join = false ∨
        (d.next.isSome ∧ d.spent = false) ∨ s.seriesMax r ≤ max 1 d.series ∨ s.resumeDue k ∨ d.tempDue.isSome ∨
        ((s.waitingFor k).any fun x => decide (x.cls ≠ 1)) then none
    else match s.pickOp k (s.belowShare k us) with
      | none => none
      | some (c, ptr) =>
        if c.cls ≠ 1 ∨ c.join = false ∨ c.base.isSome ∨ s.needsFeature c ∨ s.opOwner c = none ∨ s.opOwner c ≠ s.opOwner o then none
        else
          let (c', s') := (s.unwait c.id).joinAll c
          let same (x : DieOp) : Bool := sortBy id (s.planes x) = sortBy id (s.planes o)
          if same c' then some (c', ptr, s') else if same c then some (c, ptr, s.unwait c.id) else none

/-- An array read is committed to its thresholds: its jobs take its number, the thresholds and what they mean for their status (R151,
R154, R155, R158), and at ladder step 0 the registers that govern the read (R172, R173). -/
def State.readStamp (s : State) (k : Nat) (o : DieOp) : DieOp × State :=
  let g := s.opGroup o
  let d := s.die k
  let s := (o.jobs.filterMap s.job?).foldl (fun s j =>
    if o.base.isSome then s
    else
      let off := decide (s.groupOf k (addrBlock (s.busAddr j.addr)) ≠ g)
      s.setJob { j with rd := o.id, issued := d.thresholds, regs := if j.step = 0 then s.rcRegs else j.regs, offGroup := off,
                        adjusted := !off && s.dieBits k ≠ 0 && s.drifted (recKey k g) (s.jobType j) }) s
  ({ o with version := s.version (recKey k g) }, s)

/-- Grant the next page of a cache series, or close the series (R71): its next page is loaded and nothing extends it. -/
def State.extendSeries (s : State) (k us : Nat) : State :=
  match s.extension k us with
  | none =>
    let d := s.die k
    if s.dieSt k = 4 ∧ d.next.isSome ∧ d.spent ∧ d.want.isNone then s.want k .cacheEnd else s
  | some (c, ptr, s) =>
    let (c, s) := s.readStamp k (s.opStarts c)
    let d := s.die k
    let d : Die := if d.next.isSome then { d with op := d.next, next := some c } else { d with next := some c }
    ((s.setDie k { d with series := max 1 d.series + 1 }).movePtr k 1 ptr).want k .cacheRead

/-- DIE_GRANT (R63, R67, R69, R71, R74, R96, R97, R103, R305): one arbitration of die `d`, `us` µs into its accounting window. -/
def execDieGrant (r d us : Nat) (s : State) : Host.Outcome State Fault Refusal :=
  let k := dieKey r d
  let x := s.die k
  if s.dieSt k = 1 then .next (if s.grants r ∧ x.op.isNone ∧ x.want.isNone then s.grantIdle k us else s)
  else if s.grants r ∧ s.suspendDue k ∧ x.minRun then .next (s.want k .suspend)
  else .next (s.extendSeries k us)

/-- MERGE_WAIT_EXPIRY (R67, R82): the granted read begins with what arrived meanwhile. -/
def execMergeWaitExpiry (r d : Nat) (s : State) : Host.Outcome State Fault Refusal :=
  let k := dieKey r d
  match (s.die k).op with
  | some o => .next (if o.merging ∧ s.grants r then s.startOp k o else s)
  | none => .next s

/-- MIN_RUN_EXPIRY (R104): the operation has run its minimum time; a suspend that waited for it is raised. -/
def execMinRunExpiry (r d : Nat) (s : State) : Host.Outcome State Fault Refusal :=
  let k := dieKey r d
  match (s.die k).op with
  | some o =>
    if o.running ∧ (s.dieSt k = 5 ∨ s.dieSt k = 6) then
      let s := s.setDie k { s.die k with minRun := true }
      .next (if s.suspendDue k ∧ s.grants r then s.want k .suspend else s)
    else .next s
  | none => .next s

/-- Raise the resume of a held operation on an IDLE die (R97, R105): not in a seam, in HALT or in a mode without die work. -/
def State.raiseResume (s : State) (k : Nat) : State :=
  let d := s.die k
  if s.dieSt k = 1 ∧ d.op.isNone ∧ d.want.isNone ∧ s.resumeDue k ∧ (s.issues ∨ s.modeNow = 10) then s.want k .resume else s

/-- RESUME_HELD_OPERATION (R97, R105). -/
def execResumeHeldOperation (r d : Nat) (s : State) : Host.Outcome State Fault Refusal := .next (s.raiseResume (dieKey r d))

/-- HOLD_MAX_EXPIRY (R105): the hold has reached its longest time. -/
def execHoldMaxExpiry (r d : Nat) (s : State) : Host.Outcome State Fault Refusal :=
  let k := dieKey r d
  if (s.die k).held.isSome then .next ((s.setDie k { s.die k with holdMax := true }).raiseResume k) else .next s

/-- ERASE_BRACKET_STEP (R100, R102): the next step of an erase bracket starts after the one before it has ended. -/
def execEraseBracketStep (r d : Nat) (s : State) : Host.Outcome State Fault Refusal :=
  let k := dieKey r d
  match (s.die k).op with
  | some o =>
    if s.dieSt k = 6 ∧ o.running = false ∧ (s.die k).want.isNone ∧ (s.issues ∨ s.modeNow = 10) then
      match s.nextStep k o with
      | some n => .next (s.startStep k o n)
      | none => .next s
    else .next s
  | none => .next s

/-! ### The bus (R61, R65, R66) -/

/-- The row of Table 3-3 of a bus activity. -/
def BusAct.row : BusAct → Nat
  | .suspend => 1
  | .resume => 1
  | .reset => 1
  | .feature _ _ => 3
  | .temp => 3
  | .read => 4
  | .cacheRead => 4
  | .cacheEnd => 4
  | .header => 5
  | .dataOut => 6
  | .progData _ => 7
  | .confirm => 8
  | .eraseCmd => 8

/-- A bus activity begins a die operation: none does while its route drains (R52). -/
def State.beginsOp (s : State) (k : Nat) (a : BusAct) : Bool :=
  match a with
  | .feature _ _ => true
  | .temp => true
  | .read => true
  | .suspend => true
  | .progData 0 => s.dieSt k = 1
  | _ => false

/-- The modes in which die temperatures are read (R95). -/
def State.tempRuns (s : State) : Bool := [3, 4, 5, 6, 11].contains s.modeNow && s.getF F.IMG_STATUS_STATE ≠ 5

/-- A bus activity may go on the bus now: in SAFE only what ends an operation in a die (R358), in TRAIN only temperature reads (R95). A
program's data-in does not begin with WP# low (R76). -/
def State.mayIssue (s : State) (k : Nat) (a : BusAct) : Bool :=
  if a = .temp then s.tempRuns && s.routeSt (k / 16) = 2
  else if s.programWaits k ∧ s.getF (F.RT_STATUS_WP (k / 16)) = 0 then false
  else if s.modeNow = 10 then a = .resume || a = .reset || s.dieSt k = 6
  else s.issues && (s.routeSt (k / 16) = 2 || (s.routeSt (k / 16) = 3 && !s.beginsOp k a))

/-- A transfer runs on the bus of route `r` (R66). -/
def State.busBusy (s : State) (r : Nat) : Bool :=
  (List.range 16).any fun d => let x := s.die (dieKey r d); x.moving.isSome && x.want.isNone

/-- A temperature read of die `k` is due and the die can take it (R63, R95): it is IDLE with nothing suspended. -/
def State.tempWaits (s : State) (k : Nat) : Bool :=
  s.dieSt k = 1 && (s.die k).tempDue.isSome && (s.die k).held.isNone && (s.die k).want ≠ some .reset

/-- What die `k` waits for on the bus, each with its turn. -/
def State.waitsFor (s : State) (k : Nat) : List (Nat × BusAct) :=
  let d := s.die k
  ((if d.tempRun.isSome then [] else d.want.toList).map fun a => (d.since, a)).filter (fun e => s.mayIssue k e.2) ++
    (if s.tempWaits k ∧ s.mayIssue k .temp then [(d.tempSince, .temp)] else [])

/-- The pick of the bus (R65): the row of Table 3-3, then the die that became eligible first, then the die number. -/
def State.busPick (s : State) (r : Nat) : Option (Nat × BusAct) :=
  let l := (List.range 16).flatMap fun d => (s.waitsFor (dieKey r d)).map fun e => (dieKey r d, e)
  (l.foldl (fun best e => match best with
    | none => some e
    | some b => if e.2.2.row < b.2.2.row ∨ (e.2.2.row = b.2.2.row ∧ e.2.1 < b.2.1) then some e else some b)
    (none : Option (Nat × Nat × BusAct))).map fun e => (e.1, e.2.2)

/-- The bytes of a read of several planes: `x` for each extra plane, the last command `y` (Table 3-1). -/
def planeBytes (first x y n : Nat) : List Nat := (List.replicate (n - 1) [first, x]).flatten ++ [first, y]

/-- The page a program of die `k` writes next: a plane's page, or the ledger's page of an erase bracket. -/
def State.progPage (s : State) (k : Nat) (o : DieOp) (i : Nat) : Nat :=
  if o.cls = 3 then mkAddr k (s.ledgerBlock k 0) ((s.die k).ledger.next - 1) 0 else o.pages.getD i 0

/-- Count an array read (Table 3-6), and one of the retry ladder (R172). -/
def State.countRead (s : State) (r : Nat) (o : DieOp) : State :=
  let s := s.bump (R.RT_CNT_READ r)
  let s := if (o.jobs.filterMap s.job?).any fun j => decide (0 < j.step) then s.bump R.RC_CNT_LADDER else s
  if 2 ≤ o.pages.length then s.bump (R.RT_CNT_MPLANE r) else s

/-- The feature writes of a die's thresholds (R149) from feature address `fa` on: four offsets an address. -/
def State.featureWrites (s : State) (k fa : Nat) (vals : List Int) : State :=
  (List.range ((2 ^ s.dieBits k - 1 + 3) / 4)).foldl (fun s i =>
    (s.cmd k [] [0xD5] [fa + i]).emit
      (.dieData (k / 16) (k % 16) 0 ((List.range 4).map fun p => BitVec.ofInt 8 (vals.getD (4 * i + p) 0)))) s

/-- The envelopes of a calibration page that have been received. -/
def State.calReceived (s : State) (id n : Nat) : Nat :=
  match (s.rc.cals.find? (·.desc = id)).bind fun c => c.reads[n]? with
  | some x => x.raw.length / 4608
  | none => 0

/-- The envelope of its page that a job's data-out starts with: a raw page is moved whole (R240), a calibration page from its first
envelope not received on (R143). -/
def State.runStart (s : State) (j : Job) : Nat :=
  match j.dest with
  | .raw _ => 0
  | .cal id n => s.calReceived id n
  | _ => addrEnv (s.busAddr j.addr)

/-- The page and column at which a job's data-out starts in its die's register (R61, R140). -/
def State.jobColumn (s : State) (j : Job) : List Nat := [4 * (s.busAddr j.addr / 4), 4608 * s.runStart j]

/-- The envelopes of a data-out that starts with job `j` and goes on with those of `run` (R140). -/
def State.runEnvs (s : State) (j : Job) (run : List Nat) : Nat :=
  match j.dest with
  | .raw _ => 4
  | .cal id n => 4 - s.calReceived id n
  | _ => 1 + run.length

/-- The bytes that a die's data-out carries (R140): its envelopes and two guard bytes, up to column 18,431 at most. -/
def Die.runBytes (d : Die) : Nat := min (4608 * d.runLen + 2) (18432 - 4608 * d.runAt)

/-- A transfer starts on die `k`: the registers of Tables 6-7 and 6-8 that govern it are kept (R146, R147). -/
def State.transfer (s : State) (d : Die) : Die :=
  { d with envCtrl := (s.getR R.RC_ENV_CTRL).toNat, envX := (s.getR R.RC_ENV_X).toNat }

/-- A data-out goes on the bus (R61, R140). -/
def State.busDataOut (s : State) (k : Nat) (d : Die) : State :=
  match d.moving.bind s.job? with
  | some j => (s.cmd k [(s.jobColumn j).getD 0 0] [0x06, 0xE0] (s.jobColumn j)).setDie k
      { s.transfer d with runAt := s.runStart j, runLen := s.runEnvs j d.run }
  | none => s

/-- SUSPEND of a running program or erase (R104). -/
def State.busSuspend (s : State) (r k : Nat) (d : Die) (o : DieOp) : State :=
  let o : DieOp := { o with suspends := o.suspends + 1 }
  let s := (s.cmd k [] [o.suspendByte] []).bump (R.RT_CNT_SUSPEND r)
  ((s.setDie k { d with op := some o }).setF (F.RT_DIE_SUSPENDS r (k % 16)) (min 15 o.suspends)).setDieSt k 7

/-- RESUME of the held operation (R105, Table 3-5 step 11). -/
def State.busResume (s : State) (r k : Nat) (d : Die) : State :=
  match d.held with
  | some o =>
    let s := s.cmd k [] [bits o.vcmd (F.RT_VCMD_RESUME r).lo 8] []
    let s := s.setDie k { d with op := some o, held := none, minRun := false, holdMax := false }
    (s.setF (F.RT_DIE_HELD r (k % 16)) 0).setDieSt k (if o.cls = 2 then 5 else 6)
  | none => s

/-- The thresholds of group `g` are written to die `k` (R149). -/
def State.busFeature (s : State) (r k g fa : Nat) (vals : List Int) : State :=
  (((s.featureWrites k fa vals).setDie k { s.die k with written := vals }).setF (F.RT_DIE_BLOCK_GROUP r (k % 16)) g).setDieSt k 7

/-- The feature address of a die's thresholds: that of the operation in it. -/
def Die.threshFa (d : Die) : Nat := (d.op.map fun o => bits o.vcmd (F.RT_VCMD_THRESH_FA 0).lo 8).getD 0

/-- A temperature read of die `k` goes on the bus (R95). -/
def State.busTemp (s : State) (k : Nat) (d : Die) : State :=
  ((s.cmd k [] [0xD4] [s.getF F.PWR_WG_CTRL_TEMP_FA]).setDie k { d with tempDue := none, tempRun := d.tempDue }).setDieSt k 7

/-- The commands of an array read (R64, Table 3-1). -/
def State.busRead (s : State) (r k : Nat) (o : DieOp) : State :=
  let (o, s) := s.readStamp k { o with running := true }
  let s := s.cmd k o.pages (planeBytes 0x00 0x32 0x30 o.pages.length) o.pages
  ((s.setDie k { s.die k with op := some o, ready := false }).countRead r o).setDieSt k 2

/-- The commands of the next read of a cache series (R66). -/
def State.busCacheRead (s : State) (r k : Nat) (d : Die) (p : DieOp) : State :=
  match d.next with
  | some o =>
    let o : DieOp := { o with running := true }
    let seq := p.pages.map (· + 4) = o.pages ∧ p.pages.map busBlock = o.pages.map busBlock
    let s := if seq then s.cmd k o.pages [0x31] [] else s.cmd k o.pages (planeBytes 0x00 0x32 0x31 o.pages.length) o.pages
    (((s.setDie k { s.die k with next := some o, ready := false }).countRead r o).bump (R.RT_CNT_CACHE r)).setDieSt k 3
  | none => s

/-- The header of a loaded register goes out first (R19). -/
def State.busHeader (s : State) (k : Nat) (d : Die) : State :=
  match s.headerJob k with
  | some j =>
    let c := s.jobColumn j
    (s.cmd k [c.getD 0 0] [0x06, 0xE0] [c.getD 0 0, c.getD 1 0 + 3]).setDie k { s.transfer d with moving := some j.id }
  | none => s

/-- The data of one plane of a program (R73). -/
def State.busProgData (s : State) (r k i : Nat) (o : DieOp) : State :=
  let page := s.progPage k o i
  let s := (s.cmd k [page] [0x80] [page]).emit (.dieData r (k % 16) i (o.data.getD i []))
  if i + 1 < o.data.length then (s.emit (.dieCmd r (k % 16) [0x11] [])).want k (.progData (i + 1)) else s.want k .confirm

/-- The confirm of a program (R73). -/
def State.busConfirm (s : State) (r k : Nat) (o : DieOp) : State :=
  let s := (s.emit (.dieCmd r (k % 16) [0x10] [])).bump (R.RT_CNT_PROGRAM r)
  let s := if 2 ≤ o.data.length then s.bump (R.RT_CNT_MPLANE r) else s
  let s := s.setDie k { s.die k with op := some { o with running := true }, minRun := false }
  if o.cls = 2 then s.setDieSt k 5 else s

/-- The commands of an erase (R73). -/
def State.busErase (s : State) (r k : Nat) (o : DieOp) : State :=
  let ps := s.touched k o
  let s := (s.cmd k ps (planeBytes 0x60 0xD1 0xD0 ps.length) ps).bump (R.RT_CNT_ERASE r)
  let s := if 2 ≤ ps.length then s.bump (R.RT_CNT_MPLANE r) else s
  s.setDie k { s.die k with minRun := false }

/-- Carry out a bus activity of die `k` (R61, R65). A read whose live values changed since its die was granted is preceded by a
feature access of its own (R149). READ CACHE END is no cache-read command: CNT_CACHE does not count it (DESIGN CHOICE, log 83). -/
def State.busAct (s : State) (r k : Nat) (d : Die) (a : BusAct) : State :=
  match a, d.op with
  | .reset, _ => if s.dieSt k = 8 then s.cmd k [] [0xFA] [] else (s.cmd k [] [0xFA] []).setDieSt k 7
  | .suspend, some o => s.busSuspend r k d o
  | .resume, _ => s.busResume r k d
  | .feature g vals, _ => s.busFeature r k g d.threshFa vals
  | .temp, _ => s.busTemp k d
  | .read, some o =>
    if s.needsFeature o then s.busFeature r k (s.opGroup o) d.threshFa (s.opThresholds o) else s.busRead r k o
  | .cacheRead, some p => s.busCacheRead r k d p
  | .cacheEnd, _ =>
    ((s.cmd k [] [0x3F] []).setDie k { d with op := d.next, next := none, ready := false, series := 0 }).setDieSt k 3
  | .header, some _ => s.busHeader k d
  | .dataOut, some _ => s.busDataOut k d
  | .progData i, some o => s.busProgData r k i o
  | .confirm, some o => s.busConfirm r k o
  | .eraseCmd, some o => s.busErase r k o
  | _, none => s

/-- The activity that a die wants, which it then wants no more; a temperature read leaves what it wants. -/
def State.busDo (s : State) (k : Nat) (a : BusAct) : State :=
  let s := if a = .temp then s else s.setDie k { s.die k with want := none }
  s.busAct (k / 16) k (s.die k) a

/-! ### Relief select writes (R115, R116, R119, R120) -/

/-- The smallest eye a lane may have, held to its range (R128). -/
def State.minEye (s : State) (r : Nat) : Nat := clampNat 4 48 (s.getF (F.RT_PHY_X_MIN_EYE r))

/-- The relief carrier is free: neither standing in for a lane nor retired. -/
def State.reliefFree (s : State) (r : Nat) : Bool := s.getF (F.RT_LANE_STATE r 8) = 3

/-- A lane is recalibrated through the relief carrier (R120), else on training bursts (R121). -/
def State.reliefServes (s : State) (r : Nat) : Bool := (s.routeCfg r).relief ≠ 0 && s.reliefFree r

/-- The relief select write (R115, R116). -/
def State.reliefSelect (s : State) (r v : Nat) : State :=
  (s.emit (.relief r v)).setF (F.RT_PHY_STATUS_RELIEF_POS r) (if v = 0xAF then 0xF else v % 16)

/-- A pass moves on: the route is UP, and neither a seam, a drain nor a retrain holds it (R119); in HOLD its clock stands. -/
def State.recalRuns (s : State) (r : Nat) : Bool := s.routeSt r = 2 && s.getF F.IMG_STATUS_STATE ≠ 5 && s.modeNow ≠ 7

/-- Nothing runs on the bus of route `r`: the gap in which the relief switch and the carrying pad may change (R116). -/
def State.busGap (s : State) (r : Nat) : Bool := !s.busBusy r && !(s.route r).burst

/-- The lane of a pass that waits for a gap begins (R116, R119, R120). -/
def State.reliefGo (s : State) (r : Nat) : State :=
  match (s.route r).recal with
  | some c =>
    if c.phase = 0 ∧ s.recalRuns r ∧ s.busGap r then
      let s := s.setF (F.RT_LANE_STATE r c.lane) 1
      if s.reliefServes r then
        (s.reliefSelect r (0xA0 + c.lane)).setRoute r { s.route r with recal := some { c with phase := 1, minEye := s.minEye r } }
      else s.setRoute r { s.route r with recal := some { c with phase := 3, minEye := s.minEye r } }
    else s
  | none => s

/-- BUS_GRANT (R61, R64, R65, R66, R70, R71, R73, R116, R149, R325): the bus of route `r`, when free, carries out one activity, a relief
select write that waited for the gap before it. -/
def execBusGrant (r : Nat) (s : State) : Host.Outcome State Fault Refusal :=
  if s.routeUp r = false ∨ s.busGap r = false then .next s
  else
  let s := s.reliefGo r
  match s.busPick r with
    | some (k, a) => .next (s.busDo k a)
    | none => .next s

/-! ### Data-out (R18, R19, R169) -/

/-- A job's data-out needs a decoder input credit that it does not hold: raw pages go past the decoder. -/
def Job.needsCredit (j : Job) : Bool :=
  !j.decIn && (match j.dest with | .raw _ => false | .cal _ _ => false | _ => true)

/-- A stalled DRAM port has paused the route's credits (R381). -/
def State.creditsPaused (s : State) (r : Nat) : Bool := s.bnd.stalled.any fun m => bit m r

/-- A job's data-out needs a credit of its route's output staging that it does not hold: reads take one, scans have their floor slot and
reconstruction members their context (R18, R291); raw pages pass both stages by (log 35). -/
def Job.needsOut (j : Job) : Bool :=
  !j.outIn && (match j.dest with | .scan _ _ _ => false | .member _ _ => false | .raw _ => false | .cal _ _ => false | _ => true)

/-- The credits that a job's data-out still needs are to be had on route `r` (R18, R169, R381). -/
def State.creditsFree (s : State) (r : Nat) (j : Job) : Bool :=
  !((j.needsCredit && (decide (s.decoderCredits r ≤ s.creditsTaken r) || s.creditsPaused r)) ||
    (j.needsOut && (decide (s.seq.staging ≤ s.stagingTaken r) || s.creditsPaused r)))

/-- A job takes the credits its data-out needs. -/
def State.takeCredits (s : State) (j : Job) : State := s.setJob { j with decIn := j.decIn || j.needsCredit, outIn := j.outIn || j.needsOut }

/-- The envelopes after the first of a data-out that have their credits as well, in order: they go in the same data-out (R140; that a
data-out takes all the envelopes it can is log 95). -/
def State.runTake (s : State) (r : Nat) : List Job → List Nat × State
  | [] => ([], s)
  | j :: l =>
    if s.creditsFree r j then
      let (ids, s) := (s.takeCredits j).runTake r l
      (j.id :: ids, s)
    else ([], s)

/-- DATA_OUT_START (R18, R19, R140, R169, R381): the next envelopes of a loaded register take their credits and wait for the bus as one
data-out, or their die is parked; `us` is how long it was parked. -/
def execDataOutStart (r d us : Nat) (s : State) : Host.Outcome State Fault Refusal :=
  let k := dieKey r d
  let x := s.die k
  let loaded := s.dieSt k = 4 || (s.dieSt k = 3 && x.ready)
  if s.issues = false ∨ s.routeUp r = false ∨ loaded = false ∨ x.want.isSome ∨ x.moving.isSome then .next s
  else match s.wholeJobs k with
    | [] => .next s
    | j :: l =>
      if s.creditsFree r j = false then .next (s.setDie k { x with parked := true })
      else
        let s := if x.parked then s.bumpBy (R.RT_CNT_PARKED r) us else s
        let (run, s) := (s.takeCredits j).runTake r (s.runAfter j l)
        .next ((s.setDie k { s.die k with parked := false, moving := some j.id, run := run }).want k .dataOut)

end Sys2Proof.Machine
end

