-- ==== Sys2Proof/Machine/DieEnd.lean ====
section
/-! DEFINITION. Watching the dies: status, R/B#, timeouts, the write guard's waits, WP# and the die temperatures (R75 to R79, R86, R94 to
R97, R101, R104). -/

namespace Sys2Proof.Machine

/-! ### The end of an array operation (R75, R86, R101, R104) -/

/-- A successful operation clears the die's TIMEOUTS (R79). -/
def State.clearTimeouts (s : State) (k : Nat) : State := s.setF (F.RT_DIE_TIMEOUTS (k / 16) (k % 16)) 0

/-- The array time of a rebuild's operation counts in its die's window (R305). -/
def State.accountRebuild (s : State) (k : Nat) (o : DieOp) (us : Nat) : State :=
  if o.origin = .rebuild then s.setDie k { s.die k with rebuilt := (s.die k).rebuilt + us } else s

/-- In SAFE a loaded register is let go and its descriptors end (R358). -/
def State.safeRelease (s : State) (k : Nat) : State :=
  if s.modeNow = 10 then
    let ids := (s.inDie k).flatMap DieOp.jobs
    let s := (ids.filterMap s.job?).foldl (fun s j => s.dropJob j.id) s
    let d := s.die k
    ((s.setDie k { d with op := none, next := none, want := none, moving := none, run := [], parked := false, ready := false, series := 0 }).setDieSt
      k 1).safeSettle
  else s

/-- A read's jobs are in the register. -/
def State.jobsLoaded (s : State) (o : DieOp) : State :=
  (o.jobs.filterMap s.job?).foldl (fun s j => s.setJob { j with phase := .inDie }) s

/-- An array read has ended (R64, R73, R75): its register is loaded, and goes at once where nothing needs it any more. -/
def State.readEnded (s : State) (k us : Nat) : State :=
  match (s.die k).op with
  | some o =>
    let s := ((s.accountRebuild k o us).clearTimeouts k).jobsLoaded o
    let s := (s.setDie k { s.die k with ready := true }).setDieSt k 4
    let s := if o.jobs.isEmpty then s.closePool o.id else s
    ((s.safeRelease k).release k).wantHeader k
  | none => s.setDieSt k 1

/-- The status of a program or erase from its status byte (R76, R86, R101): FAIL, or WP_n at 0. -/
def badStatus (st : Nat) : Bool := bit st 0 || !bit st 7

/-- WP_n at 0 raises PROTOCOL_ERR (R76). -/
def State.wpCheck (s : State) (k st : Nat) : State := if bit st 7 then s else s.raise (F.RT_EVENT_PROTOCOL_ERR (k / 16))

/-- The die leaves its program or erase. -/
def State.leaveOp (s : State) (k : Nat) : State :=
  (s.setDie k { s.die k with op := none, want := none, minRun := false }).setDieSt k 1

/-- The status an erase completes with (R101): that of its erase command where it has been taken, else `st`. -/
def DieOp.eraseStatus (o : DieOp) (st : Nat) : Nat := if o.erased then (if o.failed then St.eraseFail else St.ok) else st

/-- An erase bracket has ended on die `k`: the die is IDLE and the erase has its status (R100 step 5, R101). -/
def State.bracketEnd (s : State) (k : Nat) (o : DieOp) : State :=
  let s := s.leaveOp k
  let s := if o.erased ∧ o.failed = false then s.clearTimeouts k else s
  (s.writeEnded o (o.eraseStatus St.timeout)).driveWp (k / 16)

/-- The steps that end with the status of the erase the bracket is for: its own erase command, or the standby block's for the re-erase of
a switch (R100, R108). -/
def DieOp.eraseStep (o : DieOp) : Bool := o.step = 2 || (o.switch && o.step = 6)

/-- A step of an erase bracket has ended with a status byte (R100 to R102, R109). A standby block whose erase shows FAIL still becomes the
active block, with FAILED in its DONE: no rule names another course (DESIGN CHOICE, log 84). -/
def State.stepEnded (s : State) (k : Nat) (o : DieOp) (st : Nat) : State :=
  let s := s.wpCheck k st
  let bad := badStatus st
  let erase := o.step = 2 ∨ (s.ledgerErased k o.step).isSome
  let (o, s) : DieOp × State :=
    if erase then ({ o with failed := bad, running := false, erased := o.erased || o.eraseStep },
      if o.step = 9 then s.setDie k { s.die k with ledger := {} } else s)
    else if bad then ({ o with noLedger := true, running := false }, s.ledgerLost k)
    else ({ o with running := false }, s)
  let s := s.setDie k { s.die k with op := some o, want := none, minRun := false }
  match s.nextStep k o with
  | some _ => s
  | none => s.bracketEnd k o

/-- A program has ended with a status byte (R76, R86). -/
def State.programEnded (s : State) (k : Nat) (o : DieOp) (st : Nat) : State :=
  let s := (s.wpCheck k st).leaveOp k
  let s := if badStatus st then s else s.clearTimeouts k
  (s.writeEnded o (if badStatus st then St.programFail else St.ok)).driveWp (k / 16)

/-- A control operation has ended (R95, R104, R149): a temperature read, a reset, the thresholds of a read, a suspend, or the reset inside
a bracket. -/
def State.controlEnded (s : State) (k : Nat) : State :=
  let d := s.die k
  match d.tempRun, d.op with
  | some p1, _ => (((s.setDie k { d with tempRun := none }).clearTimeouts k).setDieSt k 1).takeTemp k (signed 8 p1.toNat)
  | none, none => (s.setDieSt k 1)
  | none, some o =>
    if o.cls = 1 then
      if s.modeNow = 10 then s.safeRelease k else (s.setDieSt k 1).want k .read
    else if o.running then
      let s := s.setDie k { d with op := none, held := some o, minRun := false, holdMax := false }
      ((s.setF (F.RT_DIE_HELD (k / 16) (k % 16)) (o.cls - 1)).setDieSt k 1).raiseResume k
    else
      let s := s.setDieSt k 6
      match s.nextStep k o with
      | some _ => s
      | none => s.bracketEnd k o

/-- A status byte of a busy die is read, `us` µs after its command (R75): RDY and ARDY end its operation, RDY alone lets a cache page be
transferred. -/
def State.pollDie (s : State) (k st us : Nat) : State :=
  let d := s.die k
  let rdy := bit st 6
  let done := rdy && bit st 5
  match s.dieSt k with
  | 2 => if done ∧ d.want.isNone then s.readEnded k us else s
  | 3 =>
    if done then
      let s := match d.last with | some o => s.accountRebuild k o us | none => s
      let s := match d.last with | some o => (s.clearTimeouts k).jobsLoaded o | none => s
      let s := (s.setDie k { s.die k with ready := true }).setDieSt k 4
      ((s.safeRelease k).release k).wantHeader k
    else if rdy then (s.setDie k { d with ready := true }).wantHeader k
    else s
  | 5 => match d.op with
    | some o => if done ∧ d.want ≠ some .reset then (s.accountRebuild k o us).programEnded k o st else s
    | none => s
  | 6 => match d.op with
    | some o =>
      if done ∧ o.running ∧ (d.want.isNone ∨ d.want = some .suspend) then (s.accountRebuild k o us).stepEnded k o st else s
    | none => s
  | 7 => if done ∧ (d.want.isNone ∨ d.tempRun.isSome) then s.controlEnded k else s
  | _ => s

/-- A status poll of die `k` goes on the bus, and its answer is taken (R61, R75). -/
def State.poll (s : State) (k st us : Nat) : State := (s.cmd k [] [0x78] []).pollDie k st us

/-- Status is read on route `r` (R65, R353, R357, R358): it is up, the sequencers issue or let what is in dies end (in TRAIN the
temperature reads of R95), and the bus carries neither a transfer nor an eligible activity of row 1 of Table 3-3. -/
def State.polls (s : State) (r : Nat) : Bool :=
  s.routeUp r && [3, 4, 5, 6, 9, 10, 11].contains s.modeNow && s.busGap r &&
    (match s.busPick r with | some (_, a) => a.row ≠ 1 | none => true)

/-- The busy dies of chip enable `ce` of a route. -/
def State.busyOf (s : State) (r ce : Nat) : List Nat :=
  ((List.range 4).map fun i => dieKey r (4 * ce + i)).filter s.dieBusy

/-- Die `k` is watched by status polls alone (R78): as POLL_ONLY stood when the operation in it started (R81), or after an RBN_FAULT. -/
def State.pollOnly (s : State) (k : Nat) : Bool :=
  s.getF (F.RT_STATUS_RBN_FALLBACK (k / 16)) = 1 ||
    (match (if (s.die k).tempRun.isSome then none else (s.die k).last) with
      | some o => o.polled
      | none => s.getF (F.RT_CTRL_POLL_ONLY (k / 16)) = 1)

/-- STATUS_POLL_DUE (R75, R78, R86, R101, R104): a poll of a busy die falls due. With R/B# in use and one busy die on its chip enable,
none is issued. -/
def execStatusPollDue (r d : Nat) (status : Byte) (us : Nat) (s : State) : Host.Outcome State Fault Refusal :=
  let k := dieKey r d
  if s.polls r = false ∨ s.dieBusy k = false then .next s
  else if s.pollOnly k = false ∧ s.busyOf r (d / 4) = [k] then .next s
  else .next (s.poll k status.toNat us)

/-- RBN_RISE (R78): R/B# of a chip enable rises; each of its busy dies that does not go by polls alone is polled, in order, and answers
with a status byte and the time since its command. -/
def execRbnRise (r ce : Nat) (rises : List (Byte × Nat)) (s : State) : Host.Outcome State Fault Refusal :=
  if s.polls r = false ∨ 4 ≤ ce then .next s
  else .next ((((s.busyOf r ce).filter fun k => !s.pollOnly k).zip rises).foldl (fun s e => s.poll e.1 e.2.1.toNat e.2.2) s)

/-- RBN_FAULT (R78): R/B# stayed low while polls showed every die of the chip enable complete. -/
def execRbnFault (r ce : Nat) (s : State) : Host.Outcome State Fault Refusal :=
  if s.polls r = false ∨ s.getF (F.RT_CTRL_POLL_ONLY r) = 1 ∨ s.getF (F.RT_STATUS_RBN_FALLBACK r) = 1 ∨ 4 ≤ ce ∨ s.busyOf r ce ≠ [] then
    .next s
  else .next ((s.setF (F.RT_STATUS_RBN_FALLBACK r) 1).raise (F.RT_EVENT_RBN_FAULT r))

/-! ### Timeouts (R79) -/

/-- A die's timer runs: its command is under way, and neither a seam, nor HALT, nor a page parked for credits stops it (R19, R79). -/
def State.timerRuns (s : State) (k : Nat) : Bool :=
  let d := s.die k
  s.routeUp (k / 16) && [3, 4, 5, 6, 10, 11].contains s.modeNow && s.getF F.IMG_STATUS_STATE ≠ 5 && d.want ≠ some .reset && !d.parked &&
    (match s.dieSt k with
      | 2 => true
      | 3 => true
      | 5 => true
      | 6 => d.op.any fun o => o.running && (d.want.isNone || d.want = some .suspend)
      | 7 => true
      | _ => false)

/-- Every envelope of an operation completes with TIMEOUT (R79). -/
def State.readTimedOut (s : State) (o : DieOp) : State :=
  ((o.jobs.filterMap s.job?).foldl (fun s j => s.jobFailed j St.timeout) (s.closePool o.id)).together s.seq.nextId

/-- What a die held goes, before its operation's end is told: it waits for RESET LUN. -/
def State.clearDie (s : State) (k : Nat) : State :=
  let d := s.die k
  s.setDie k { d with op := none, next := none, moving := none, run := [], parked := false, ready := false, series := 0, want := none,
                      minRun := false }

/-- What the operation of die `k` leaves when it times out (R79, R86, R101). A ledger program that times out lets the erase go on; the
erase of a ledger switch leaves the standby block incomplete, and the erase goes on without ledger entries. -/
def State.opTimedOut (s : State) (k : Nat) : State :=
  let d := s.die k
  match d.op with
  | none => s
  | some o =>
    if o.cls = 1 then
      let s := if s.dieSt k = 7 then s.setDie k { d with written := [999] } else s
      let s := s.clearDie k
      if s.modeNow = 10 then ((([some o, d.next].filterMap id).flatMap DieOp.jobs).foldl (fun s j => s.dropJob j) s).safeSettle
      else ([some o, d.next].filterMap id).foldl State.readTimedOut s
    else if o.cls = 2 then (s.clearDie k).writeEnded o St.timeout
    else if o.eraseStep then (s.clearDie k).writeEnded o St.timeout
    else
      let s := if o.step = 6 then s.addIncomplete [blockKey k (s.ledgerBlock k 1)] else s
      let o : DieOp := { o with noLedger := true, running := false }
      (s.setDie k { d with op := some o, want := none, minRun := false }).ledgerLost k

/-- A temperature read that times out (R79, R95): it has no envelopes; an operation that the die had been granted waits again. -/
def State.tempTimedOut (s : State) (k : Nat) : State :=
  let d := s.die k
  let s := s.setDie k { d with tempRun := none, op := none, want := none }
  { s with seq := { s.seq with waiting := s.seq.waiting ++ d.op.toList } }

/-- The RESET of a die of a route that is being trained runs (R79): step 3 of Table 5-3 is where it is made. -/
def State.resetRuns (s : State) (k : Nat) : Bool :=
  let x := s.route (k / 16)
  x.train = 3 && !x.resetBad.contains k && (s.dieSt k = 7 || s.dieSt k = 8)

/-- A RESET of training has timed out: the die is in FAULT and takes no part in it. -/
def State.resetFailed (s : State) (k : Nat) : State :=
  let r := k / 16
  (if (s.route r).train = 3 then s.setRoute r { s.route r with resetBad := (s.route r).resetBad ++ [k] } else s).dieFault k 1

/-- DIE_OP_TIMEOUT (R19, R79, R80, R86, R101, R279): the timer of die `d` exceeds its limit. A reset that times out, or a third timeout
in a row, puts the die into FAULT; else it waits for RESET LUN. -/
def execDieOpTimeout (r d : Nat) (s : State) : Host.Outcome State Fault Refusal :=
  let k := dieKey r d
  if s.timerRuns k = false ∧ s.resetRuns k = false then .next s
  else
    let x := s.die k
    let isReset := s.resetRuns k ∨ s.dieSt k = 7 ∧ x.tempRun.isNone ∧ (x.op.all fun o => decide (2 ≤ o.cls) && !o.running)
    let n := satInc 8 (s.getF (F.RT_DIE_TIMEOUTS r d))
    let s := (s.raise (F.RT_EVENT_TIMEOUT r)).setF (F.RT_DIE_TIMEOUTS r d) n
    let gone (s : State) : State := match (s.die k).op with
      | some o => (s.clearDie k).writeEnded o (o.eraseStatus St.timeout)
      | none => s
    if isReset then .next ((gone s).resetFailed k)
    else
      let s := if x.tempRun.isSome then s.tempTimedOut k else s.opTimedOut k
      let s := if 3 ≤ n then (gone s).dieFault k 3 else s
      .next (s.want k .reset)

/-! ### The write guard's waits, WP# and temperatures (R76, R94 to R97) -/

/-- A guarded operation has waited its longest (R96): every envelope of it completes WRITE_GUARDED. A recovery erase waits on, in the
set TRAIN left (R110, R111), and a rebuild's has no limit (R302). -/
def State.guardExpired (s : State) (o : DieOp) : State :=
  if o.origin = .rebuild then s
  else
    let s := s.unwait o.id
    if o.purpose.contains .eraseGuarded then
      { s with seq := { s.seq with fromTrain := o.pages.foldl (fun l p => insertAsc l (blockKey (addrDie p) (addrBlock p))) s.seq.fromTrain } }
    else (s.tellPurposes o St.writeGuarded).raise F.PWR_WG_EVENT_GUARDED_FAIL

/-- GUARD_WAIT_EXPIRY (R96, R296, R332): the guard still holds `GUARD_WAIT` after operation `op` would have been granted. -/
def execGuardWaitExpiry (op : Nat) (s : State) : Host.Outcome State Fault Refusal :=
  match s.seq.waiting.find? (·.id = op) with
  | some o => .next (if o.guardWait ∧ s.guardHolds (o.die / 16) ∧ s.issues then s.guardExpired o else s)
  | none => .next s

/-- WP_DRIVE_CHANGE (R76, R97): the level on WP# of route `r` is decided anew. -/
def execWpDriveChange (r : Nat) (s : State) : Host.Outcome State Fault Refusal := .next (if r < 32 then s.driveWp r else s)

/-- What a die reads as its temperature while `TEMP_FA` is 0: the junction temperature, and with no sensor left a reading out of every
range (R95). -/
def State.junctionReading (s : State) : Int := if s.getF F.PWR_TEMP_FAULT_MASK = 255 then 511 else signed 9 (s.getF F.PWR_TEMP_JUNCTION)

/-- TEMP_READ_DUE (R65, R94, R95): the temperature read of die `d` falls due, and `p1` is what the die will answer: it waits for the die to
be IDLE and for the bus. While `TEMP_FA` is 0 the junction temperature is the reading. -/
def execTempReadDue (r d : Nat) (p1 : Byte) (s : State) : Host.Outcome State Fault Refusal :=
  let k := dieKey r d
  if s.dieOn k = false ∨ s.routeSt r ≠ 2 ∨ s.tempRuns = false then .next s
  else if s.getF F.PWR_WG_CTRL_TEMP_FA = 0 then .next (s.takeTemp k s.junctionReading)
  else .next ((s.setDie k { s.die k with tempDue := some p1 }).tempTurn k)

end Sys2Proof.Machine
end

