-- ==== Sys2Proof/Machine/ReadChannel.lean ====
section
/-! DEFINITION. The read channel: received envelopes and headers, drift estimates, and the decoder pool (R140 to R147, R151 to R161,
R169 to R171, R293). -/

namespace Sys2Proof.Machine

/-! ### Table 6-5 -/

/-- Count events of the training error monitor: held while the route is not up (R124). -/
def State.trainErr (s : State) (r n : Nat) : State :=
  if s.routeUp r ∧ (s.route r).retrain = false ∧ (s.route r).drainRetrain = false then
    s.setF (F.RT_TRAIN_ERR_COUNT r) (min 65535 (s.getF (F.RT_TRAIN_ERR_COUNT r) + n))
  else s

/-- The bits in which the 24 bits at a place differ from the frame mark. -/
def markDiff (data : Bytes) (at_ : Nat) : Nat := popcount 24 (leNat (slice data at_ 3) ^^^ frameMark)

/-- Where an envelope's frame mark is taken to be (Table 6-5 steps 2 and 3), `x` being `ENS_RC_ENV_X`: its expected place, else the first
candidate, in ascending bit difference, whose header decodes. -/
def alignAt (x addr : Nat) (data : Bytes) (lead : Nat) : Option Nat :=
  let tol := min 6 (F.RC_ENV_X_MARK_TOL.of x)
  if markDiff data lead ≤ tol then some lead
  else
    let cands := ([-1, 1, -2, 2] : List Int).filterMap fun o =>
      let p := (lead : Int) + o
      if 0 ≤ p ∧ p + 4608 ≤ data.length ∧ markDiff data p.toNat ≤ tol then some p.toNat else none
    (sortBy (markDiff data) cands).find? fun p => decide (rsDecode (headerDerandomise addr (slice data (p + 3) 40)) ≠ .failed)

/-- The erased test of an envelope (R142), `ctrl` being `ENS_RC_ENV_CTRL`. -/
def envErased (ctrl : Nat) (raw : Bytes) : Bool := decide (zeroBits raw ≤ F.RC_ENV_CTRL_ERASED_MAX.of ctrl)

/-- The misdelivery test of an envelope's raw pilots (R144), `x` being `ENS_RC_ENV_X`. -/
def misdelivered (x addr pil : Nat) : Bool :=
  F.RC_ENV_X_PILOT_CHECK_OFF.of x = 0 &&
    decide (clampNat 16 64 (F.RC_ENV_X_MISDELIVER_MIN.of x) < popcount 128 (pil ^^^ pilotBits addr))

/-- An envelope is aligned at another place than it was expected at: counted (Table 6-5 step 3). -/
def State.countShift (s : State) (r : Nat) : State := (s.bump R.RC_ENV_CNT_SHIFTED).trainErr r 1

/-- A transfer of an envelope in which no place qualifies: counted (Table 6-5 step 4). -/
def State.countMiss (s : State) (r : Nat) : State := (s.bump R.RC_ENV_CNT_MISSED).trainErr r 1

/-- What is left of a die's run after an envelope of it was given up goes in a new data-out, from the next envelope on (R143). -/
def State.runGoesOn (s : State) (k : Nat) : State :=
  if (s.die k).moving.isSome ∧ (s.die k).want.isNone then s.want k .dataOut else s

/-- No place qualifies (R143): the transfer is made again from this envelope to the end of its run, twice at most, its credits kept; then
the envelope is lost, and the run goes on with the next. A ladder step has failed instead (R141). -/
def State.envMissed (s : State) (k : Nat) (j : Job) : State :=
  let s := s.countMiss (k / 16)
  if j.tries < 2 then (s.setJob { j with tries := j.tries + 1 }).want k .dataOut
  else if 0 < j.step then ((s.jobLeavesDie j).ladderGo j).runGoesOn k
  else ((s.bump R.RC_ENV_CNT_LOST).jobFailed j St.frameLost).runGoesOn k

/-- An envelope tests erased (Table 6-5 step 1); of a patrol page it is noted (R292). -/
def State.envEmpty (s : State) (j : Job) : State :=
  let s := s.bump R.RC_ENV_CNT_ERASED
  let k := addrDie j.addr
  let s : State := if j.dest = .patrol then
      { s with fi := { s.fi with erasedSeen := tset (fun _ => 0) s.fi.erasedSeen k (tget (fun _ => 0) s.fi.erasedSeen k + 1) } }
    else s
  s.jobFinal j { status := St.erased, outcome := 2 } 0 0

/-! ### Pilots and patrol's tests (R151, R156, R293) -/

/-- The pilots of an envelope join the pool of its array read (R151): taken at the live values, of the group the die holds. -/
def State.poolAdd (s : State) (k : Nat) (o : DieOp) (j : Job) (pil : Nat) : State :=
  if o.base.isSome ∨ j.offGroup ∨ s.dieBits k = 0 ∨ s.keptF j.regs F.RC_CTRL_PILOT_EN = 0 ∨ homeBlock j.addr then s
  else if s.rc.pools.any (·.rd = o.id) then
    { s with rc := { s.rc with pools := s.rc.pools.map fun (p : Pool) =>
      if p.rd = o.id then { p with pilots := p.pilots ++ [(j.addr, pil)] } else p } }
  else
    let p : Pool := { rd := o.id, die := k, group := s.opGroup o, ptype := s.jobType j, version := o.version, regs := j.regs,
                      pilots := [(j.addr, pil)] }
    { s with rc := { s.rc with pools := s.rc.pools ++ [p] } }

/-- The header content of a whole envelope where its RS code decodes. -/
def envHeader (addr : Nat) (raw : Bytes) : Option Bytes :=
  let h := leBytes 40 (envDerandomise addr raw).1
  match rsDecode h with
  | .clean => some (slice h 0 30)
  | .corrected h' _ => some (slice h' 0 30)
  | .failed => none

/-- Patrol decodes an envelope in full (R293): a sample, one with many raw errors, or one whose header fails. -/
def State.patrolFull (s : State) (j : Job) : Bool :=
  (s.getF F.FI_ROUND_COUNT_COUNT + addrPage j.addr + addrEnv j.addr) % 2 ^ s.getF F.FI_X_SAMPLE_SHIFT = 0 ||
    (s.dieBits (s.jobDie j) ≠ 0 && decide (s.getF F.FI_X_DECODE_RBER < j.rber)) || j.content.isNone

/-- The centre read of an envelope is in: it goes to the decoder, or patrol is done with it (R141 step 5, R293). -/
def State.centreIn (s : State) (k : Nat) (o : DieOp) (j : Job) (raw : Bytes) : State :=
  let pil := gatherPilots (leNat raw)
  let s := (s.poolAdd k o j pil).jobLeavesDie j
  let j : Job := { j with reads := [raw], centre := j.issued, rber := s.envRber k j.addr pil, tries := 0 }
  if j.dest = .patrol ∧ j.step = 0 then
    let j : Job := { j with content := envHeader j.addr raw }
    if s.patrolFull j then (s.bump R.FI_CNT_FULL).toDecoder j else s.withdraw j
  else s.toDecoder j

/-- A further read of a soft read is in (R158): with six of them the soft decode waits for a core, else the next one is made. -/
def State.softIn (s : State) (j : Job) (raw : Bytes) : State :=
  let s := s.jobLeavesDie j
  let j : Job := { j with reads := j.reads ++ [raw], tries := 0 }
  if 7 ≤ j.reads.length then s.toDecoder j else (s.setJob j).ladderTry j (some (s.softBase j j.step (j.reads.length - 1)))

/-- A whole envelope is received (Table 6-5, R140, R141), `data` being the bytes of the data-out that brought it: its mark is expected by the
column count alone. A ladder read takes steps 2 to 4 alone. -/
def State.envIn (s : State) (k : Nat) (o : DieOp) (j : Job) (data : Bytes) : State :=
  let d := s.die k
  let lead := 4608 * (addrEnv j.addr - d.runAt)
  if j.step = 0 ∧ envErased d.envCtrl (slice data lead 4608) then s.envEmpty j
  else match alignAt d.envX j.addr data lead with
    | none => s.envMissed k j
    | some p =>
      let s := if p = lead then s else s.countShift (k / 16)
      let raw := slice data p 4608
      if j.step = 0 ∧ misdelivered d.envX j.addr (gatherPilots (leNat raw)) then
        (s.bump R.RC_ENV_CNT_MISDELIVERED).jobFailed j St.misdelivered
      else if o.base.isSome then s.softIn j raw
      else s.centreIn k o j raw

/-! ### Raw pages (R163, R240) -/

/-- A RAW_READ's page is in: it is written as it was read. -/
def State.rawIn (s : State) (j : Job) (id : Nat) (data : Bytes) : State :=
  match s.desc? id with
  | some d => (if d.bufferFault then s else s.fab (field d.bytes 20 8) (slice data 0 18432)).jobFinal j { status := St.ok } 0 0
  | none => s.withdraw j

/-- 4,608 zero bytes, in place of an envelope that a calibration read could not take. -/
def zeroEnvelope : Bytes := List.replicate 4608 0

/-- Envelopes of a calibration page are received one after the other by Table 6-5 (R141), from the data-out of die `d` with bytes `data`:
what they add to the raw page, and the envelope in which no place qualifies, if one ends them. -/
def State.calEnvs (s : State) (k : Nat) (d : Die) (j : Job) (id : Nat) (data : Bytes) : List Nat → Bytes → State × Bytes × Option Nat
  | [], acc => (s, acc, none)
  | e :: es, acc =>
    let lead := 4608 * (e - d.runAt)
    let a := 4 * (j.addr / 4) + e
    if envErased d.envCtrl (slice data lead 4608) then (s.bump R.RC_ENV_CNT_ERASED).calEnvs k d j id data es (acc ++ slice data lead 4608)
    else match alignAt d.envX a data lead with
      | none => (s.countMiss (k / 16), acc, some e)
      | some p =>
        let s := if p = lead then s else s.countShift (k / 16)
        if misdelivered d.envX a (gatherPilots (leNat (slice data p 4608))) then
          ((s.bump R.RC_ENV_CNT_MISDELIVERED).calBad id St.misdelivered).calEnvs k d j id data es (acc ++ zeroEnvelope)
        else s.calEnvs k d j id data es (acc ++ slice data p 4608)

/-- The raw page of read `n` of a calibration, as far as it is in; `new` bytes join it. -/
def State.calPut (s : State) (id n : Nat) (new : Bytes) (erased : Bool) : State :=
  let put (c : Cal) : Cal := match c.reads[n]? with
    | some x => { c with reads := c.reads.set n { x with raw := x.raw ++ new, erased := x.erased || erased } }
    | none => c
  { s with rc := { s.rc with cals := s.rc.cals.map fun c => if c.desc = id then put c else c } }

/-- A data-out of a calibration page is in (R141, R143, R163). A missed envelope is transferred again, with those after it, twice at most;
then it is lost, the calibration with it, and the page goes on with the next envelope. -/
def State.calIn (s : State) (k : Nat) (j : Job) (id n : Nat) (data : Bytes) : State :=
  let d := s.die k
  let es := (List.range 4).drop d.runAt
  let (s, new, miss) := s.calEnvs k d j id data es []
  let s := s.calPut id n new (es.any fun e => envErased d.envCtrl (slice data (4608 * (e - d.runAt)) 4608))
  match miss with
  | none => s.withdraw j
  | some e =>
    let tries := if e = d.runAt then j.tries else 0
    if tries < 2 then (s.setJob { j with tries := tries + 1 }).want k .dataOut
    else
      let s := (((s.bump R.RC_ENV_CNT_LOST).calBad id St.frameLost).calPut id n zeroEnvelope false).setJob { j with tries := 0 }
      if e = 3 then s.withdraw j else s.want k .dataOut

/-- The `n` bytes that a transfer carries, of which `data` gives those from byte `skip` on; a byte not given is zero. -/
def carried (n skip : Nat) (data : Bytes) : Bytes :=
  let x := List.replicate (min skip n) 0 ++ slice data 0 n
  slice x 0 n ++ List.replicate (n - x.length) 0

/-- ENVELOPE_RECEIVED (R140 to R144, R151, R158, R163, R240, R293): job `job` of a data-out has been received; `data` is what the whole
data-out carries from its byte `skip` on, the same for each of its envelopes (log 95). -/
def execEnvelopeReceived (job : Nat) (data : Bytes) (skip : Nat) (s : State) : Host.Outcome State Fault Refusal :=
  match s.job? job with
  | none => .next s
  | some j =>
    let k := s.jobDie j
    let d := s.die k
    if d.moving ≠ some job ∨ d.want.isSome ∨ j.header ∨ s.routeUp (k / 16) = false then .next s
    else if s.modeNow = 10 then .next ((s.jobLeavesDie j).dropJob job).safeSettle
    else if s.pipeRuns = false then .next s
    else
      let data := carried d.runBytes skip data
      match j.dest, d.op with
      | .raw id, _ => .next (s.rawIn j id data)
      | .cal id n, _ => .next (s.calIn k j id n data)
      | _, some o => .next (s.envIn k o j data)
      | _, none => .next s

/-! ### Headers (R145, R182, R234) -/

/-- The outcome code and content of a header that was read alone (R145, R232), `ctrl` being `ENS_RC_ENV_CTRL`. -/
def headerCode (ctrl addr : Nat) (raw : Bytes) : Nat × Bytes :=
  if zeroBits (slice raw 0 40) ≤ min 319 (F.RC_ENV_CTRL_HDR_ERASED_MAX.of ctrl) then (2, [])
  else
    let h := headerDerandomise addr (slice raw 0 40)
    match rsDecode h with
    | .clean => (0, slice h 0 30)
    | .corrected h' _ => (1, slice h' 0 30)
    | .failed => (3, [])

/-- A header's outcome goes to its requester (R182, R234): an undecodable one is read whole where READ_HEADERS has RECOVER. -/
def State.headerIn (s : State) (j : Job) (code : Nat) (content : Bytes) : State :=
  match j.dest with
  | .scan id key i => (s.setJob { j with hdrDone := true, hdrOutcome := code }).scanHeader id key i code content
  | .desc id _ =>
    let recover : Bool := match s.desc? id with | some d => bit (field d.bytes 4 1) 0 | none => false
    if code = 3 ∧ recover then s.setJob { j with header := false }
    else s.jobFinal j { status := if code = 2 then St.erased else if code = 3 then St.uncorrectable else St.ok, outcome := code,
                        content := content } 0 0
  | _ => s.setJob { j with header := false }

/-- HEADER_RECEIVED (R73, R145): the header transfer of a job ends. -/
def execHeaderReceived (job : Nat) (data : Bytes) (s : State) : Host.Outcome State Fault Refusal :=
  match s.job? job with
  | none => .next s
  | some j =>
    let k := s.jobDie j
    let d := s.die k
    if d.moving ≠ some job ∨ d.want.isSome ∨ j.header = false ∨ j.hdrDone ∨ s.routeUp (k / 16) = false then .next s
    else if s.modeNow = 10 then .next ((s.jobLeavesDie j).dropJob job).safeSettle
    else if s.pipeRuns = false then .next s
    else
      let c := headerCode d.envCtrl j.addr data
      .next (((s.setDie k { d with moving := none }).headerIn j c.1 c.2).wantHeader k)

/-! ### Drift estimates (R151 to R154, R159) -/

/-- What an estimate means for the jobs of its array read: those that failed already go on with their ladders. -/
def State.estimateTold (s : State) (rd : Nat) (moved : Bool) : State :=
  let js := s.seq.jobs.filter fun j => j.rd = rd && j.step = 0
  let s := js.foldl (fun s j => s.setJob { j with moved := moved, estWait := false }) s
  (js.filter (·.estWait)).foldl (fun s j => match s.job? j.id with | some x => s.ladderGo x | none => s) s

/-- DRIFT_ESTIMATE (R151 to R154): the oldest closed pool of a die and group gives its estimate. -/
def execDriftEstimate (r d g : Nat) (s : State) : Host.Outcome State Fault Refusal :=
  let k := dieKey r d
  match s.rc.pools.find? fun p => p.closed && p.die = k && p.group = g with
  | none => .next s
  | some p =>
    if s.pipeRuns = false then .next s
    else
      let (moved, s) := s.applyEstimate p
      .next (({ s with rc := { s.rc with pools := s.rc.pools.filter (·.rd ≠ p.rd) } } : State).estimateTold p.rd moved)

/-! ### The decoder pool (R156, R157, R169 to R171) -/

/-- DECODER_CORE_FREE (R53, R170). -/
def execDecoderCoreFree (core : Nat) (s : State) : Host.Outcome State Fault Refusal :=
  .next (if s.stagesTake ∧ s.coreWorks core ∧ (s.coreJob core).isNone then s.coreTake core else s)

/-- DECODE_DONE (R139, R155, R157, R159): the decode on a core ends. An envelope whose bits spell a code word gives that one; else `word` is
the word reached after `iters` iterations, which flash contents decide (R29). -/
def execDecodeDone (core iters : Nat) (word : Bytes) (s : State) : Host.Outcome State Fault Refusal :=
  match (s.coreJob core).bind s.job? with
  | none => .next s
  | some j =>
    if s.pipeRuns = false then .next s
    else
      let s := s.setCoreJob core none
      if s.decodeOk j iters word then
        let word := decodeWord j.addr j.centreRaw word
        .next ((s.countDecode j).jobFinal j { status := j.okStatus, outcome := 4, content := slice word 24 30,
                                              payload := slice word 64 4096 } 0 0)
      else .next (s.decodeFailed { j with phase := .received })

/-- The unused spares: cores 64 to 67 neither in use nor retired (R171). -/
def State.spareCores (s : State) : List Nat := [64, 65, 66, 67].filter fun c => !s.rc.subst.contains c && !s.rc.retired.contains c

/-- A core is retired (R27, R171): the envelope it held is decoded again from its start, and the lowest-numbered unused spare takes its
place. -/
def State.coreRetire (s : State) (c : Nat) : State :=
  if s.rc.retired.contains c then s
  else
    let worked := s.coreWorks c
    let s : State := match (s.coreJob c).bind s.job? with
      | some j => let s := (s.setJob { j with phase := .received }).setCoreJob c none
                  { s with rc := { s.rc with decQueue := j.id :: s.rc.decQueue } }
      | none => s
    let s : State := { s with rc := { s.rc with retired := insertAsc s.rc.retired c } }
    let s := s.setF ⟨R.RC_CORE_FAIL (c / 32), c % 32, 1⟩ 1
    let s := if worked = false then s
      else match s.spareCores with
        | m :: _ => ({ s with rc := { s.rc with subst := insertAsc s.rc.subst m } } : State).raise F.RC_EVENT_CORE_SUBST
        | [] => s.poolShort
    (s.setF F.RC_STATUS_CORES_OK (68 - s.rc.retired.length)).setF F.RC_STATUS_SPARES_LEFT s.spareCores.length

/-- DECODER_SELF_TEST_DUE (R171): the known-answer decode of an idle working core. -/
def execDecoderSelfTestDue (core : Nat) (pass : Bool) (s : State) : Host.Outcome State Fault Refusal :=
  .next (if pass ∨ s.pipeRuns = false ∨ s.coreWorks core = false ∨ (s.coreJob core).isSome then s else s.coreRetire core)

/-- DECODER_CHECKER_FAULT (R171): the parity checker of a working core faults. -/
def execDecoderCheckerFault (core : Nat) (s : State) : Host.Outcome State Fault Refusal :=
  .next (if s.coreRuns ∧ s.coreWorks core then s.coreRetire core else s)

end Sys2Proof.Machine
end

