-- ==== Sys2Proof/Machine/Calibration.lean ====
section
/-! DEFINITION. Calibration by valley search, and the calibration record commands (R162 to R168). -/

namespace Sys2Proof.Machine

/-! ### The reads of a calibration (R162, R163) -/

/-- The sample wordlines of a CALIBRATE: block and wordline (Table 10-3). -/
def calList (n : Nat) (list : Bytes) : List (Nat × Nat) := (List.range n).map fun i => (field list (4 * i) 2, field list (4 * i + 2) 2)

/-- Each wordline lies in the group and the geometry, and none repeats (Table 10-3). -/
def State.calListOk (s : State) (k g : Nat) (l : List (Nat × Nat)) : Bool :=
  l.all (fun w => decide (w.1 < (s.geo k).blocks) && s.groupOf k w.1 = g && decide ((w.2 + 1) * max 1 (s.dieBits k) ≤ (s.geo k).pages)) &&
    decide l.Nodup

/-- The thresholds of a calibration read: the live values, those of the swept page type moved by its offset. -/
def State.calBase (s : State) (c : Cal) (x : CalRead) : List Int :=
  (List.range 15).map fun i =>
    let v := c.live.getD i 0
    match x.off with
    | some o => if i < 2 ^ s.dieBits c.die - 1 ∧ s.thrType (s.dieClass c.die) (i + 1) = x.ptype then clampInt (-128) 127 (v + o) else v
    | none => v

/-- Ask for the reads of a calibration from number `n` on. -/
def State.calReads (s : State) (c : Cal) (n : Nat) : State :=
  ((c.reads.mapIdx fun i x => (i, x)).drop n).foldl (fun s e =>
    let (jobs, s) := s.makeJobs [{ id := 0, ord := c.desc, addr := e.2.page, dest := .cal c.desc e.1, origin := .queue 0, ladder := false,
                                   recon := false }]
    s.enqueueReads jobs (some (s.calBase c e.2)) false []) s

/-- The fewest wordlines of a calibration (R162), by the registers as they stood when it started. -/
def State.calMin (s : State) (regs : List (Nat × Nat)) : Nat := max 1 (s.keptF regs F.RC_CAL_X_MIN_WORDLINES)

/-- A CALIBRATE is rejected (R162, R165): nothing changes. -/
def State.calReject (s : State) (id k g cause thresh diff : Nat) : State :=
  let s : State := { s with rc := { s.rc with cals := s.rc.cals.filter (·.desc ≠ id) } }
  ((s.calResult k g 2 cause thresh diff).raise F.RC_EVENT_CAL_DISAGREE).finish id St.calDisagree 0

/-- CALIBRATE (R162, R163): the checks, and the centre reads of every sample wordline. -/
def execCalibrate (id : Nat) (list : Bytes) (s : State) (corr : Nat := 0) : Host.Outcome State Fault Refusal :=
  match s.adminDesc id 0x50 with
  | none => .next s
  | some d =>
    let src := addrDie (field d.bytes 8 8)
    let k := s.busDie src
    let g := field d.bytes 4 1
    let l := calList (field d.bytes 16 4) list
    let b := s.dieBits k
    let s := s.dramReads corr
    if s.calListOk k g l = false then .next (s.finish id St.malformed 0)
    else if s.dieGone k then .next ((s.calResult k g 3 0 0 0).finish id St.dieRetired 0)
    else if s.routeUp (k / 16) = false then .next ((s.calResult k g 3 0 0 0).finish id St.routeDown 0)
    else if b = 0 then .next (s.calReject id k g 4 0 0)
    else
      let ls := l.filter fun w => !s.erasePending (mkAddr src w.1 0 0)
      if ls.length < s.calMin [] then .next (s.calReject id k g 3 0 0)
      else
        let reads := (ls.mapIdx fun i w => (List.range b).map fun t =>
          ({ page := mkAddr src w.1 (w.2 * b + t) 0, line := i, ptype := t, off := none } : CalRead)).flatten
        let c : Cal := { desc := id, die := k, group := g, live := s.live k g, regs := s.rcRegs, lines := ls, reads := reads, tol := d.tol }
        let s : State := { s.setDesc { d with started := true } with rc := { s.rc with cals := s.rc.cals ++ [c] } }
        .next (s.calReads c 0)

/-- The raw page of a wordline and page type at a sweep offset; none is the centre read. -/
def Cal.rawAt (c : Cal) (line t : Nat) (off : Option Int) : Bytes :=
  ((c.reads.find? fun x => x.line = line && x.ptype = t && x.off = off).map CalRead.raw).getD []

/-- The pilot cells of a raw calibration page: state and read bit (R163). -/
def State.calPilots (s : State) (c : Cal) (x : CalRead) : List (Nat × Bool) :=
  s.poolCells { rd := 0, die := c.die, group := c.group, ptype := x.ptype, version := 0,
                pilots := (List.range 4).map fun e => (x.page + e, gatherPilots (leNat (slice x.raw (4608 * e) 4608))) }

/-- A centre read drops its wordline (R162): an envelope tests erased, or too many pilots err. -/
def State.calDrops (s : State) (c : Cal) (x : CalRead) : Bool :=
  x.erased ||
    decide (s.keptF c.regs F.RC_PILOT_PLAUSIBLE < s.rberQ (s.dieClass c.die) x.ptype (s.calPilots c x))

/-- The step of a calibration's sweep (R163). -/
def State.sweepStep (s : State) (regs : List (Nat × Nat)) : Nat := clampNat 1 8 (s.keptF regs F.RC_CAL_X_SWEEP_STEP)

/-- The sweep positions from −H to +H (R163). -/
def State.sweepOffsets (s : State) (regs : List (Nat × Nat)) : List Int :=
  let h := clampNat 8 63 (s.keptF regs F.RC_CAL_X_HALF_WIDTH)
  let st := s.sweepStep regs
  (List.range (2 * h / st + 1)).map fun i => (st * i : Nat) - (h : Int)

/-- The sample wordlines that remain, by their centre reads. -/
def Cal.lineNos (c : Cal) : List Nat := ((c.reads.filter fun x => x.off.isNone).map CalRead.line).eraseDups

/-- The centre reads are in (R162, R163): the remaining wordlines are swept, page type by page type. -/
def State.calSweep (s : State) (c : Cal) : State :=
  let bad := (c.reads.filter (s.calDrops c)).map CalRead.line
  let centre := c.reads.filter fun x => !bad.contains x.line
  let lines := (centre.map CalRead.line).eraseDups
  if lines.length < s.calMin c.regs then s.calReject c.desc c.die c.group 3 0 0
  else match (c.reads.head?.bind fun x => s.unreadable x.page true) with
    | some st => s.calBad c.desc st
    | none =>
      let sweep := (List.range (s.dieBits c.die)).flatMap fun t => (s.sweepOffsets c.regs).flatMap fun o =>
        (centre.filter fun x => x.ptype = t).map fun x => { x with off := some o, raw := [], erased := false }
      let c : Cal := { c with sweeping := true, reads := centre ++ sweep }
      ({ s with rc := { s.rc with cals := s.rc.cals.map fun x => if x.desc = c.desc then c else x } } : State).calReads c centre.length

/-! ### The two results (R163, R164) -/

/-- The data cells of a page (R163): neither pilots nor frame marks. -/
def calDataCells : List Nat :=
  (List.range 147456).filter fun i => decide (24 ≤ i % 36864) && !((List.range 128).any fun k => pilotPos k = i % 36864)

/-- The count of a sweep interval at threshold `j` of page type `t` (R163). -/
def State.calCount (s : State) (c : Cal) (t j : Nat) (o o' : Int) : Nat :=
  let cls := s.dieClass c.die
  let b := s.dieBits c.die
  ((c.lineNos).map fun w => calDataCells.countP fun i =>
    (match s.stateOf cls b fun x => rawBit (c.rawAt w x none) i with
      | some st => st + 1 = j || st = j
      | none => false) && rawBit (c.rawAt w t (some o)) i != rawBit (c.rawAt w t (some o')) i).sum

/-- The index of the valley among the interior intervals (R164): the least three-interval sum, ties by the offset nearest 0, then the
lower one. -/
def valleyIdx (os : List Int) (h : List Nat) : Option Nat :=
  let n := h.length
  let h3 (i : Nat) : Nat := h.getD (i - 1) 0 + h.getD i 0 + h.getD (i + 1) 0
  let o (i : Nat) : Int := os.getD i 0
  ((List.range n).filter fun i => decide (1 ≤ i ∧ i + 2 ≤ n)).foldl (fun best i => match best with
    | none => some i
    | some b => if h3 i < h3 b ∨ (h3 i = h3 b ∧ (o i).natAbs < (o b).natAbs) then some i else some b) none

/-- The data result of a threshold (R164), none at the edge of the sweep. -/
def valley (os : List Int) (step : Nat) (h : List Nat) : Option Int :=
  match valleyIdx os h with
  | some i => if i = 1 ∨ i + 2 = h.length then none else some (os.getD i 0 + (step / 2 : Nat))
  | none => none

/-- The balance point of `f`, given as numerators over one common denominator (R164), none at the edge of the sweep. -/
def balance (os : List Int) (step : Nat) (f : List Int) : Option Int :=
  match firstIdx f.length fun i => f.getD i 0 ≤ 0 with
  | none => none
  | some 0 => none
  | some (i + 1) =>
    let a := f.getD i 0
    let d := a - f.getD (i + 1) 0
    some (roundHalf (os.getD i 0 * d + step * a) d.toNat)

/-- The pilot result of a threshold `j` of page type `t` (R152, R164); where no pilot is in one of the two states the spec states none: a
free value. -/
def State.calBalance (s : State) (c : Cal) (t j : Nat) : Option Int :=
  let cls := s.dieClass c.die
  let counts := (s.sweepOffsets c.regs).map fun o =>
    s.thrCounts cls t j ((c.reads.filter fun x => x.ptype = t && x.off = some o).flatMap (s.calPilots c))
  let (lo, hi, _, _) := counts.headD (0, 0, 0, 0)
  if lo = 0 ∨ hi = 0 then Config.balanceFree (s.freeCtr + j)
  else
    balance (s.sweepOffsets c.regs) (s.sweepStep c.regs)
      (counts.map fun x => (x.2.2.1 * hi : Nat) - (x.2.2.2 * lo : Nat))

/-- Both results of every threshold of the class (R163, R164): number, data and pilot result. -/
def State.calResults (s : State) (c : Cal) : List (Nat × Option Int × Option Int) :=
  let cls := s.dieClass c.die
  let os := s.sweepOffsets c.regs
  (List.range (2 ^ s.dieBits c.die - 1)).map fun i =>
    let j := i + 1
    let t := s.thrType cls j
    let h := (os.zip os.tail).map fun e => s.calCount c t j e.1 e.2
    (j, valley os (s.sweepStep c.regs) h, s.calBalance c t j)

/-! ### The agreement test (R165) -/

/-- The mean of both results, a half rounded toward the data result. -/
def calMean (vd vp : Int) : Int := if (vd + vp) % 2 = 0 then (vd + vp) / 2 else if vp < vd then (vd + vp + 1) / 2 else (vd + vp) / 2

/-- The record a calibration stores (R165, Table 7-4); a die whose temperature has not been read gives a free value. -/
def State.calRecord (s : State) (c : Cal) (vs : List Int) (diff : Nat) : Bytes :=
  let old := s.record (recKey c.die c.group)
  let centre := c.reads.filter fun x => x.off.isNone
  let errs := (centre.map fun x => (s.calPilots c x).countP fun e => e.2 ≠ s.stateBit (s.dieClass c.die) e.1 x.ptype).sum
  let all := (centre.map fun x => (s.calPilots c x).length).sum
  let temp := match (s.die c.die).temp with
    | some t => leBytes 1 (unsigned 8 t)
    | none => [Config.freeByte s.freeCtr]
  let offs := (List.range 15).map fun i => BitVec.ofNat 8 (if i < vs.length then
    unsigned 8 (clampInt (-128) 127 (c.live.getD i 0 + vs.getD i 0)) else 0)
  recSeal ([1, 1] ++ leBytes 1 (c.die / 16) ++ leBytes 1 (c.die % 16 + 16 * c.group) ++ offs ++ [0] ++ leBytes 10 s.postmark ++ temp ++
    leBytes 1 (llrBand (roundHalf (1024 * (errs : Int)) all).toNat) ++ leBytes 4 ((field old 32 4 + 1) % 2 ^ 32) ++ leBytes 1 (min 255 diff) ++
    leBytes 1 c.lineNos.length ++ leBytes 1 (s.dieBits c.die) ++ List.replicate 21 0)

/-- The sweep is in: the agreement test decides (R165). -/
def State.calDecide (s : State) (c : Cal) : State :=
  let rs := s.calResults c
  let diffs := rs.filterMap fun e => (match e.2.1, e.2.2 with | some a, some b => some (e.1, (a - b).natAbs) | _, _ => none)
  let worst := diffs.foldl (fun (m : Nat × Nat) e => if m.2 < e.2 ∨ m.1 = 0 then e else m) (0, 0)
  let s' : State := { s with freeCtr := s.freeCtr + 16 }
  match rs.find? fun e => e.2.1.isNone || e.2.2.isNone with
  | some e => s'.calReject c.desc c.die c.group 2 e.1 worst.2
  | none =>
    if c.tol < worst.2 then s'.calReject c.desc c.die c.group 1 worst.1 worst.2
    else
      let vs := rs.map fun e => calMean (e.2.1.getD 0) (e.2.2.getD 0)
      let s' := s'.setRecord (recKey c.die c.group) (s.calRecord c vs worst.2)
      let s' : State := { s' with rc := { s'.rc with cals := s'.rc.cals.filter (·.desc ≠ c.desc) } }
      ((s'.calResult c.die c.group 1 0 worst.1 worst.2).raise F.RC_EVENT_CAL_DONE).finish c.desc St.ok c.lineNos.length

/-- A calibration ends with the status of a read that failed (R79, R80, R166): nothing changes. -/
def State.calAbort (s : State) (c : Cal) (st : Nat) : State :=
  let js := s.seq.jobs.filter fun j => match j.dest with | .cal i _ => i = c.desc | _ => false
  let s := js.foldl State.withdraw s
  let s : State := { s with rc := { s.rc with cals := s.rc.cals.filter (·.desc ≠ c.desc) } }
  (s.calResult c.die c.group 3 0 0 0).finish c.desc st 0

/-- CALIBRATION_END (R162 to R166): the reads asked for so far have ended. -/
def execCalibrationEnd (id : Nat) (s : State) : Host.Outcome State Fault Refusal :=
  match s.rc.cals.find? (·.desc = id) with
  | none => .next s
  | some c =>
    if s.pipeRuns = false then .next s
    else match c.bad with
      | some st => .next (s.calAbort c st)
      | none =>
        if c.reads.any (fun x => decide (x.raw.length < 18432)) then .next s
        else .next (if c.sweeping then s.calDecide c else s.calSweep c)

/-! ### Records (R168) -/

/-- GET_CAL (R168): the records of the named groups, in ascending order. -/
def execGetCal (id : Nat) (s : State) : Host.Outcome State Fault Refusal :=
  match s.adminDesc id 0x51 with
  | none => .next s
  | some d =>
    let k := addrDie (field d.bytes 8 8)
    let gs := idxWhere 8 (bit (field d.bytes 4 1))
    let s := (gs.mapIdx fun i g => (i, g)).foldl (fun s e => s.fab (field d.bytes 20 8 + 64 * e.1) (s.record (recKey k e.2))) s
    .next (s.finish id St.ok gs.length)

/-- SET_CAL (R168): a record that passes every check is stored, its source 2. -/
def execSetCal (id : Nat) (rec : Bytes) (s : State) (corr : Nat := 0) : Host.Outcome State Fault Refusal :=
  match s.adminDesc id 0x52 with
  | none => .next s
  | some d =>
    let x := recKey (addrDie (field d.bytes 8 8)) (field d.bytes 4 1)
    let b := slice rec 0 64
    let s := s.dramReads corr
    if s.recordOk x b then .next ((s.setRecord x (recSeal (b.set 1 2))).finish id St.ok 0) else .next (s.finish id St.malformed 0)

end Sys2Proof.Machine
end

