-- ==== Sys2Proof/Machine/Faults.lean ====
section
/-! DEFINITION. Failed buffer accesses (R245, R383). -/

namespace Sys2Proof.Machine

/-- Operations of a descriptor that wait for a die do not start any more (R245). -/
def State.dropDescOps (s : State) (id : Nat) : State :=
  let mine (o : DieOp) : Bool := (s.purposes o).any fun p => p = .progDesc id || p = .eraseDesc id
  let inDie (o : DieOp) : Bool := s.aheadInDie o
  { s with seq := { s.seq with waiting := s.seq.waiting.filter fun o => !mine o,
                               ahead := s.seq.ahead.filter fun o => !mine o || inDie o } }

/-- A buffer access of a descriptor that is no started SCAN has failed: it completes BUFFER_FAULT once nothing of it is in a die. -/
def State.descFault (s : State) (d : Desc) : State :=
  let s := (s.seq.jobs.filter fun j => j.serves d.id).foldl State.cancelJob s
  let s := s.dropDescOps d.id
  if d.op = 0x03 then (s.summaryUnread d).scanFinish d.id St.bufferFault 0
  else if s.descInDie d.id then s
  else if d.op = 0x04 ∨ d.op = 0x07 then s.progEnd d St.bufferFault
  else (s.finish d.id St.bufferFault d.doneCount).flushLeaving d.sq d.id

/-- A buffer access of a started SCAN has failed (R188, R245): its positions from the oldest unretired one on write nothing. -/
def State.scanFault (s : State) (c : Scan) : State :=
  if c.active = false then s.closeScan c St.bufferFault true
  else if c.stop.isSome then s
  else s.discardScan { c with stop := c.unretired }

/-- A buffer access of a descriptor has failed (R245). -/
def State.bufferFault (s : State) (id : Nat) : State :=
  match s.desc? id with
  | none => s
  | some d =>
    if d.status.isSome ∨ d.bufferFault then s
    else
      let d : Desc := { d with bufferFault := true }
      let s := s.setDesc d
      match s.so.scans.find? (·.id = id) with
      | some c => s.scanFault c
      | none => s.descFault d

/-- Opcodes whose buffers have all been read once they have started: no access of them is left that could fail. -/
def buffersRead (d : Desc) : Bool := d.started && !([0x01, 0x02, 0x03, 0x04, 0x07, 0x70].contains d.op)

/-- BUFFER_FAULT (R245, R273, R383): a buffer access of a descriptor fails; an uncorrectable unit is recorded. -/
def execBufferFault (id : Nat) (s : State) (unit : Option Nat := none) : Host.Outcome State Fault Refusal :=
  match s.desc? id with
  | some d => .next (if buffersRead d ∨ s.writesOut = false then s
      else (match unit with | some a => s.dramUncorr a | none => s).bufferFault id)
  | none => .next s

end Sys2Proof.Machine
end

