-- ==== Sys2Proof/Machine/FlashIntegrity.lean ====
section
/-! DEFINITION. Reconstruction, patrol, dead letters, retirement, rebuild and the DEGRADED conditions (R286 to R309, R383). -/

namespace Sys2Proof.Machine

/-! ### Reconstruction (R286, R289 to R291) -/

/-- Skip a rebuild's base block after a failed map read: it is done again one base block later (R383). -/
def Rebuild.skip (x : Rebuild) (n last : Nat) : Rebuild :=
  let x : Rebuild := { x with erased := false, busy := 0, layout := none, page := 0, slots := [] }
  if x.after < last then { x with base := x.after, after := x.after + n, redo := x.redo ++ [x.base] }
  else match x.redo ++ [x.base] with
    | b :: l => { x with base := b, redo := l }
    | [] => x

/-- The blocks that a rebuild of source die `k` covers: 0 to B − 3 (R302). -/
def State.rebuildLast (s : State) (k : Nat) : Nat := (s.geo k).blocks - 2

/-- The planes of a die, one at least. -/
def State.planesOf (s : State) (k : Nat) : Nat := max 1 (s.geo k).planes

/-- The rebuild of an entry. -/
def State.rebuild? (s : State) (entry : Nat) : Option Rebuild := s.fi.rebuilds.find? (·.entry = entry)

/-- Replace a rebuild. -/
def State.setRebuild (s : State) (x : Rebuild) : State :=
  { s with fi := { s.fi with rebuilds := s.fi.rebuilds.map fun y => if y.entry = x.entry then x else y } }

/-- The jobs that reconstruct a rebuild's slots are taken back. -/
def State.dropRebuildJobs (s : State) (entry : Nat) : State :=
  (s.seq.jobs.filter fun j => match j.dest with | .rebuild e _ => e = entry | _ => false).foldl State.cancelJob s

/-- A map read for a rebuild has failed (R383). -/
def State.rebuildSkip (s : State) (entry : Nat) : State :=
  match s.rebuild? entry with
  | some x => (s.dropRebuildJobs entry).setRebuild (x.skip (s.planesOf x.source) (s.rebuildLast x.source))
  | none => s

/-- The stripe map cannot be read for a job (R383). -/
def State.mapUnread (s : State) (j : Job) : State :=
  match j.dest with
  | .patrol => s.withdraw j
  | .rebuild e _ => s.rebuildSkip e
  | .desc id _ => s.bufferFault id
  | .scan id _ _ => s.bufferFault id
  | _ => s.jobFailed j j.why

/-- No stripe covers a job's envelope: it ends with the status it came with (R17 step 6, Table 7-3, R295). -/
def State.uncovered (s : State) (j : Job) : State :=
  match j.dest with
  | .patrol => (s.withdraw j).patrolFinding j { status := j.why } 0 0
  | _ => s.jobFinal j { status := j.why } 0 0

/-- RECON_CONTEXT_TAKE (R286, R291, R383): a job that waits for a reconstruction finds its cover and takes a context. -/
def execReconContextTake (job : Nat) (maps : List Bytes) (err : Bool) (s : State) (corr : Nat := 0) (lost : Option Nat := none) :
    Host.Outcome State Fault Refusal :=
  match s.job? job with
  | none => .next s
  | some j =>
    if j.phase ≠ .waitCtx ∨ s.stagesTake = false then .next s
    else if j.recon = false then .next (match j.dest with | .patrol => s.withdraw j | _ => s.jobFailed j j.why)
    else if s.mapOn ∧ err then .next (s.mapUnread j)
    else if s.mapOn ∧ lost.isSome then .next (s.mapLost lost)
    else
    let s := if s.mapOn then s.dramReads corr else s
    match s.coveredBy maps (addrDie j.addr) (addrBlock j.addr) with
      | none => .next (s.uncovered j)
      | some l => .next (if s.ctxFree j then s.takeContext j l else s)

/-- Count a reconstruction for any requester (Table 13-7). -/
def State.countRecon (s : State) (code : Nat) : State :=
  if code = 1 then s.bump R.FI_CNT_RECON_OK else (s.bump R.FI_CNT_RECON_FAIL).raise F.FI_EVENT_RECON_FAIL

/-- RECONSTRUCTION (R289, R290, Table 13-2): every member has ended. -/
def execReconstruction (ctx : Nat) (s : State) : Host.Outcome State Fault Refusal :=
  match s.ctx? ctx with
  | none => .next s
  | some c => match s.job? c.job with
    | none => .next s
    | some j =>
      if c.results.any Option.isNone ∨ s.stagesRun = false then .next s
      else
        let slot := s.slotOf c.layout c.target
        let ms := (List.range 16).map fun m => (posOf m slot, (c.results.getD m none).getD .lost)
        let (st, code, missing, content, payload) := reconstruct c.position ms (s.getF F.FI_X_RECON_CHECK_OFF = 1)
        let s : State := { s with fi := { s.fi with ctxs := s.fi.ctxs.filter (·.id ≠ ctx) } }
        let s := s.countRecon code
        let r : EnvRes := { status := st, outcome := if st = St.reconstructed then 4 else if st = St.erased then 2 else 7,
                            content := content, payload := payload }
        .next (match j.dest with
          | .patrol => (s.withdraw j).patrolFinding j r code missing
          | _ => s.jobFinal j r code missing)

/-! ### Patrol (R292 to R294) -/

/-- The page positions of a die. -/
def State.pagePositions (s : State) (k : Nat) : Nat := (s.geo k).blocks * (s.geo k).pages

/-- The cursor of a die: the number of its next page position. -/
def State.cursor (s : State) (k : Nat) : Nat := tget (fun _ => 0) s.fi.cursors k

/-- Move a die's cursor, with nothing of a page seen yet. -/
def State.setCursor (s : State) (k i : Nat) : State :=
  { s with fi := { s.fi with cursors := tset (fun _ => 0) s.fi.cursors k i, erasedSeen := tset (fun _ => 0) s.fi.erasedSeen k 0 } }

/-- The seconds of the round target. -/
def State.roundSeconds (s : State) : Nat := s.img.cfg.round * 3600

/-- PATROL_ROUND_START (R294): the first round, or the later of the last one's end and one target after its start. -/
def execPatrolRoundStart (sec : Nat) (s : State) : Host.Outcome State Fault Refusal :=
  if s.patrolRuns ∧ s.fi.roundOn = false ∧ (s.fi.rounds = false ∨ s.getF F.FI_X_PACE_OFF = 1 ∨ s.roundSeconds ≤ sec) then
    .next { s with fi := { s.fi with roundOn := true, rounds := true, cursors := [], erasedSeen := [] } }
  else .next s

/-- Patrol passes over a block (R292): its erase waits, runs or is held, or has not completed. -/
def State.patrolSkips (s : State) (k b : Nat) : Bool :=
  let p := s.busAddr (mkAddr k b 0 0)
  s.erasePending p ||
    ((s.inDie (addrDie p)) ++ (s.waitingFor (addrDie p))).any fun o => o.cls = 3 && o.pages.any fun q => busBlock q = busBlock p

/-- A patrol read of a die is out. -/
def State.patrolOut (s : State) (k : Nat) : Bool :=
  s.seq.jobs.any fun j => j.dest = .patrol && addrDie j.addr = k && j.step = 0 && (j.phase = .waitDie || j.phase = .inDie)

/-- The read of page position `i` of a die (R292): one single-plane array read for the envelopes not poisoned. -/
def State.patrolRead (s : State) (k i : Nat) : State :=
  let p := (s.geo k).pages
  let page := mkAddr k (i / p) (i % p) 0
  let as := ((List.range 4).map (page + ·)).filter fun a => !s.fi.poison.contains a
  let s := s.setCursor k (i + 1)
  if as = [] then s
  else
    let (ord, s) := s.fresh
    let (jobs, s) := s.makeJobs (as.map fun a => ({ id := 0, ord := ord, addr := a, dest := .patrol, origin := .patrol } : Job))
    (s.bump R.FI_CNT_PAGES).enqueueReads jobs none false []

/-- What a die's patrol does next, `sec` seconds into the round: positions that are passed over go at once, a page is read when it is
due. -/
def State.patrolStep (s : State) (k sec : Nat) : State :=
  let i := s.cursor k
  let n := s.pagePositions k
  let p := max 1 (s.geo k).pages
  if n ≤ i ∨ s.patrolOut k then s
  else if 4 ≤ tget (fun _ => 0) s.fi.erasedSeen k then s.setCursor k (if i % p = 0 then i else (i / p + 1) * p)
  else if s.patrolSkips k (i / p) then s.setCursor k ((i / p + 1) * p)
  else if s.getF F.FI_X_PACE_OFF = 1 ∨ i * s.roundSeconds ≤ sec * n then s.patrolRead k i
  else s

/-- The round ends once every visited die's cursor has reached its end (R294). -/
def State.roundCheck (s : State) (sec : Nat) : State :=
  if (List.range 512).all fun k => !s.patrolled k || decide (s.pagePositions k ≤ s.cursor k) then
    let s : State := { s with fi := { s.fi with roundOn := false } }
    let s := ((s.setR R.FI_ROUND_LAST (BitVec.ofNat 32 sec)).bump R.FI_ROUND_COUNT).raise F.FI_EVENT_ROUND_DONE
    if s.roundSeconds < sec then s.raise F.FI_EVENT_ROUND_LATE else s
  else s

/-- PATROL_READ_DUE (R292, R294): the cursor of a die is looked at. -/
def execPatrolReadDue (r d sec : Nat) (s : State) : Host.Outcome State Fault Refusal :=
  let k := dieKey r d
  if s.patrolRuns = false ∨ s.fi.roundOn = false then .next s
  else .next ((if s.patrolled k then s.patrolStep k sec else s).roundCheck sec)

/-! ### The spare area (R296) -/

/-- A write to `ENS_FI_SPARE` or `ENS_FI_SPARE_RANGE`: the cursor goes to the first block, page 0. -/
def State.spareWrite (s : State) (hi : Bool) (v : Nat) : State :=
  let s := if hi then s.setR R.FI_SPARE_RANGE (BitVec.ofNat 32 v) else s.setR R.FI_SPARE (BitVec.ofNat 32 (v % 2 ^ 10))
  s.setR R.FI_SPARE_CURSOR (BitVec.ofNat 32 (s.getF F.FI_SPARE_RANGE_FIRST))

/-! ### The dead-letter ring (R297, R383) -/

/-- A letter as it is written: with the phase of the present pass (Table 13-4). -/
def State.letterOut (s : State) (b : Bytes) : Bytes :=
  b.set 3 (BitVec.ofNat 8 (setBits (b.getD 3 0).toNat 7 1 (s.getF F.FI_DL_CFG_PHASE)))

/-- Write the oldest held letter into the ring's next slot. -/
def State.letterWrite (s : State) : State :=
  match s.fi.letters with
  | b :: _ => s.fab (s.fi.dlBase + 64 * s.getF F.FI_DL_TAIL_TAIL) (s.letterOut b)
  | [] => s

/-- DEAD_LETTER_WRITE (R297): the oldest held letter goes to the ring where a slot is free and no write is out. -/
def execDeadLetterWrite (s : State) : Host.Outcome State Fault Refusal :=
  if s.getF F.FI_DL_CFG_EN = 1 ∧ s.fi.letters ≠ [] ∧ s.fi.writing = false ∧ s.dlFull = false ∧ s.writesOut then
    .next { s.letterWrite with fi := { s.fi with writing := true } }
  else .next s

/-- The letter that is out is visible: its slot is taken, source 11 is raised, and findings may be waiting for its place (R297). -/
def State.letterAck (s : State) : State :=
  let t := s.getF F.FI_DL_TAIL_TAIL + 1
  let wrap := decide (2 ^ s.fi.dlK ≤ t)
  let s : State := { s with fi := { s.fi with letters := s.fi.letters.drop 1, writing := false, dlFailed := false } }
  let s := s.setF F.FI_DL_TAIL_TAIL (if wrap then 0 else t)
  let s := if wrap then s.setF F.FI_DL_CFG_PHASE (1 - s.getF F.FI_DL_CFG_PHASE) else s
  (s.dlShow.fire 11).lettersGo

/-- DL_WRITE_RETRY (R383): 1 ms after a letter's write has failed, it is made again. -/
def execDlWriteRetry (s : State) : Host.Outcome State Fault Refusal :=
  if s.fi.writing ∧ s.fi.dlFailed ∧ s.writesOut then .next { s.letterWrite with fi := { s.fi with dlFailed := false } } else .next s

/-- A write to `ENS_FI_DL_HEAD` (R216, R297): slots are released, or the write is ignored and logged. -/
def State.dlHeadWrite (s : State) (v : Nat) : State :=
  let n := 2 ^ s.fi.dlK
  if n ≤ v ∨ s.dlUnreleased < (v + n - s.getF F.FI_DL_HEAD_HEAD % n) % n then s.refuse R.FI_DL_HEAD
  else (s.setF F.FI_DL_HEAD_HEAD v).lettersGo

/-- A write to `ENS_FI_DL_CFG` (R297): EN takes the base and k where it is set, and is cleared only while no letter is held. -/
def State.dlCfgWrite (s : State) (v : Nat) : State :=
  let was := s.getF F.FI_DL_CFG_EN = 1
  let s := s.setF F.FI_DL_CFG_LOG2 (bits v 1 5)
  if bit v 0 ∧ ¬was then
    let base := s.getF F.FI_DL_LO_ADDR * 64 + s.getF F.FI_DL_HI_ADDR * 2 ^ 32
    let s : State := { s with fi := { s.fi with dlBase := base, dlK := clampNat 4 16 (bits v 1 5) } }
    (((s.setF F.FI_DL_CFG_EN 1).setF F.FI_DL_CFG_PHASE 1).setR R.FI_DL_HEAD 0).setR R.FI_DL_TAIL 0
  else if bit v 0 = false ∧ was then
    if s.fi.letters = [] then s.setF F.FI_DL_CFG_EN 0 else s.refuse R.FI_DL_CFG
  else s

/-! ### Acknowledgements (R286, R297, R318, R383) -/

/-- Every map line that a descriptor changed is written: its row's members, or its erase, go on (R286). -/
def State.mapDone (s : State) (id : Nat) : State :=
  if s.fi.mapWrites.contains id then s
  else
    let s : State := { s with seq := { s.seq with
      waiting := s.seq.waiting.map fun (o : DieOp) => if o.purpose.contains (.eraseDesc id) then { o with mapWait := false } else o
      rows := s.seq.rows.map fun (r : Row) => if r.mapAck = false ∧ r.waits.any (·.1 = id) then { r with mapAck := true } else r } }
    match s.desc? id with
    | some d => s.setDesc { d with mapWait := false }
    | none => s

/-- A map line's write has failed (R286): the descriptor completes BUFFER_FAULT, its row is not opened, its erase does not start. -/
def State.mapFailed (s : State) (id : Nat) : State :=
  let rows := s.seq.rows.filter fun r => r.mapAck = false && r.waits.any (·.1 = id)
  let s := rows.foldl (fun s r => (List.range r.filled.length).foldl (fun s i => s.lineEnds (s.rowAddr r i) false) s) s
  let s : State := { s with seq := { s.seq with rows := s.seq.rows.filter fun r => !rows.any (·.id = r.id) },
                            fi := { s.fi with mapWrites := s.fi.mapWrites.filter (· ≠ id) } }
  (s.dropDescOps id).finish id St.bufferFault 0

/-- FABRIC_WRITE_ACKNOWLEDGEMENT (R286, R297, R318, R383). -/
def execFabricWriteAcknowledgement (kind : Nat) (ok : Bool) (s : State) : Host.Outcome State Fault Refusal :=
  match kind with
  | 0 => match s.fi.mapWrites with
    | [] => .next s
    | id :: l => .next (if ok then ({ s with fi := { s.fi with mapWrites := l } } : State).mapDone id else s.mapFailed id)
  | 1 =>
    if s.fi.writing = false ∨ s.fi.dlFailed then .next s
    else .next (if ok then s.letterAck else { s with fi := { s.fi with dlFailed := true } })
  | 3 => .next { s with q := { s.q with owns := s.q.owns.tail } }
  | _ => .next (if ok then s else s.raise F.PM_BCN_EVENT_BEACON_FAIL)

/-! ### Retiring dies (R239, R300) -/

/-- A die is retired (R300): what is in it ends, everything else for it is served as for a retired die. -/
def State.retire (s : State) (k : Nat) : State :=
  let busy := s.dieSt k ≠ 0 ∧ s.dieSt k ≠ 8 ∧ (s.dieSt k ≠ 1 ∨ (s.die k).op.isSome)
  let s := if busy then s.setDie k { s.die k with retiring := true } else s.setDieSt k 9
  (((s.dieRanges [k]).dieDrop k St.dieRetired false).guardUpdate).raise F.FI_EVENT_DIE_RETIRED

/-- RETIRE_DIE (R239, R300): a die that is already retired stays as it is. -/
def execRetireDie (id : Nat) (s : State) : Host.Outcome State Fault Refusal :=
  match s.adminDesc id 0x60 with
  | none => .next s
  | some d =>
    let k := addrDie (field d.bytes 8 8)
    .next ((if s.retired k then s else s.retire k).finish id St.ok 0)

/-! ### Rebuilding dies (R302 to R305) -/

/-- The source or the target die of an entry. -/
def State.coaSrc (s : State) (i : Nat) : Nat := dieKey (s.getF (F.FI_COA_A_SRC_ROUTE i)) (s.getF (F.FI_COA_A_SRC_DIE i))

/-- The target die of an entry. -/
def State.coaTgt (s : State) (i : Nat) : Nat := dieKey (s.getF (F.FI_COA_A_TGT_ROUTE i)) (s.getF (F.FI_COA_A_TGT_DIE i))

/-- The word of a change-of-address entry (Table 13-7). -/
def coaWord (source target st : Nat) : W32 :=
  BitVec.ofNat 32 (source / 16 + 2 ^ 5 * (source % 16) + 2 ^ 9 * (target / 16) + 2 ^ 14 * (target % 16) + 2 ^ 18 * st)

/-- The entry a rebuild takes: the source's active one, else the lowest free one (R302; log 106). -/
def State.rebuildEntry (s : State) (source : Nat) : Option Nat :=
  match s.coaOf source with
  | some i => some i
  | none => firstIdx 16 fun i => s.getF (F.FI_COA_A_STATE i) = 0

/-- The source may be rebuilt to a target (R302): RETIRED without an active entry, or with one whose target is out of service. -/
def State.sourceOk (s : State) (k : Nat) : Bool :=
  match s.coaOf k with
  | some i => s.retired (s.coaTgt i) || s.dieSt (s.coaTgt i) = 8
  | none => s.retired k

/-- A die may be the target of a rebuild of `source` (R302). -/
def State.targetOk (s : State) (source target : Nat) : Bool :=
  s.dieOn target && s.dieSt target = 1 && s.dieClass target = s.dieClass source &&
    !(s.img.cfg.layouts.any fun l => l.contains target) && target ≠ 0 && target ≠ 16 && target ≠ source &&
    !((List.range 16).any fun i => 2 ≤ s.getF (F.FI_COA_A_STATE i) && s.coaTgt i = target)

/-- The checks of R302: the entry of a rebuild that may start. -/
def State.rebuildCheck (s : State) (toTarget : Bool) (source target : Nat) : Option Nat :=
  if s.mapOn = false ∨ s.getF F.FI_DL_CFG_EN = 0 ∨ s.fi.rebuilds.any (fun x => x.source = source) then none
  else if (if toTarget then s.sourceOk source && s.targetOk source target else s.stale source) then s.rebuildEntry source
  else none

/-- REBUILD (R239, R302): the rebuild is accepted and started. -/
def execRebuild (id : Nat) (s : State) : Host.Outcome State Fault Refusal :=
  match s.adminDesc id 0x61 with
  | none => .next s
  | some d =>
    let source := addrDie (field d.bytes 8 8)
    let toTarget := bit (field d.bytes 4 1) 0
    let target := if toTarget then addrDie (field d.bytes 20 8) else source
    match s.rebuildCheck toTarget source target with
    | none => .next (s.finish id St.malformed 0)
    | some i =>
      let x : Rebuild := { entry := i, source := source, target := target, inPlace := !toTarget,
                           previous := (s.getR (R.FI_COA_A i)).toNat, after := s.planesOf source }
      let s := (s.setR (R.FI_COA_A i) (coaWord source target (if toTarget then 2 else 1))).setR (R.FI_COA_B i) 0
      let s : State := { s with fi := { s.fi with rebuilds := s.fi.rebuilds ++ [x] } }
      let s := if s.getF F.FI_STATUS_PATROL_PAUSED = 1 then s.raise F.FI_EVENT_STALL else s
      .next ((s.setF F.FI_STATUS_REBUILDS s.fi.rebuilds.length).finish id St.ok 0)

/-- Rebuild goes on (R297, R298, R305): its modes, outside a seam, with no letter held up. -/
def State.rebuildRuns (s : State) : Bool :=
  [4, 5, 11].contains s.modeNow && s.getF F.IMG_STATUS_STATE ≠ 5 && s.getF F.FI_DL_CFG_EN = 1 && s.getF F.FI_STATUS_PATROL_PAUSED = 0

/-- The erases of a rebuild's present base block, each a list of blocks: the leftover blocks and a home twin's neighbours singly. -/
def State.rebuildErases (s : State) (x : Rebuild) : List (List Nat) :=
  let n := s.planesOf x.source
  let last := s.rebuildLast x.source
  if last < x.base + n then (List.range (last - x.base)).map fun i => [x.base + i]
  else if x.inPlace ∧ x.base = 0 ∧ (x.source = 0 ∨ x.source = 16) then (List.range (n - 1)).map fun i => [i + 1]
  else [(List.range n).map (x.base + ·)]

/-- The erases of a rebuild never join one another: single ones stay single (R302). -/
def State.unjoin (s : State) (entry : Nat) : State :=
  let off (o : DieOp) : DieOp := if o.purpose.contains (.eraseRebuild entry) then { o with join := false } else o
  { s with seq := { s.seq with waiting := s.seq.waiting.map off } }

/-- Step 1 of a base block (R302). -/
def State.rebuildErase (s : State) (x : Rebuild) : State :=
  let es := s.rebuildErases x
  let s := s.setRebuild { x with erased := true, busy := es.length }
  (es.foldl (fun s bs => s.enqueueErase x.target bs (.eraseRebuild x.entry) .rebuild 0 false) s).unjoin x.entry

/-- The rebuild is done (R303): an in-place source stops being stale, a target entry becomes active. -/
def State.activate (s : State) (x : Rebuild) : State :=
  let s := if x.inPlace then (s.setBit (R.FI_STALE 0) x.source false).setR (R.FI_COA_A x.entry) 0
    else s.setF (F.FI_COA_A_STATE x.entry) 3
  let s : State := { s with fi := { s.fi with rebuilds := s.fi.rebuilds.filter (·.entry ≠ x.entry) } }
  (s.setF F.FI_STATUS_REBUILDS s.fi.rebuilds.length).raise F.FI_EVENT_REBUILD_DONE

/-- Step 5 of a base block (R302): the next base block, one that was skipped first (R383), or the end. -/
def State.rebuildNext (s : State) (x : Rebuild) : State :=
  let n := s.planesOf x.source
  let y : Rebuild := { x with erased := false, busy := 0, layout := none, page := 0, slots := [] }
  match x.redo with
  | b :: l => (s.setRebuild { y with base := b, redo := l }).setF (F.FI_COA_B_BLOCK x.entry) b
  | [] =>
    let s := s.setF (F.FI_COA_B_BLOCK x.entry) x.after
    if x.after < s.rebuildLast x.source then s.setRebuild { y with base := x.after, after := x.after + n } else s.activate x

/-- Step 2 of a base block (R302): the slots of its next row page are reconstructed. -/
def State.rebuildPage (s : State) (x : Rebuild) (l : Nat) : State :=
  let n := 4 * s.planesOf x.source
  let s := s.setRebuild { x with layout := some l, slots := List.replicate n none, busy := n }
  let (ord, s) := s.fresh
  let (jobs, s) := s.makeJobs ((List.range n).map fun i =>
    ({ id := 0, ord := ord, addr := mkAddr x.source (x.base + i / 4) x.page (i % 4), dest := .rebuild x.entry i, origin := .rebuild,
       phase := .waitCtx, why := St.dieRetired } : Job))
  jobs.foldl State.addJob s

/-- The envelope written into a slot (R92, R302 step 4): what was reconstructed, a filler, or a void envelope, whose slab sequence is a
free value. -/
def State.rebuildEnv (s : State) (q : Nat) (r : Option (Nat × Bytes × Bytes)) : (Bytes × Bytes) × State :=
  match r with
  | some (st, content, payload) =>
    if st = St.erased then s.filler q
    else if isFailure st then
      let (v, s) := s.draw
      ((s.ownContent 0xFFFFFFFC v.toNat q, zeroPayload), s)
    else ((content, payload), s)
  | none => s.filler q

/-- Step 4 of a base block (R302): the row page is programmed across the planes. -/
def State.rebuildProgram (s : State) (x : Rebuild) (l : Nat) : State :=
  let n := s.planesOf x.source
  let m := ((firstIdx 16 fun i => (s.layout l).getD i 512 = x.source)).getD 0
  let (envs, s) := (x.slots.mapIdx fun i r => (i, r)).foldl (fun (acc : List (Bytes × Bytes) × State) e =>
    let (v, s) := acc.2.rebuildEnv (posOf m e.1) e.2
    (acc.1 ++ [v], s)) ([], s)
  let lost := x.slots.countP fun r => r.any fun e => isFailure e.1
  let s := s.setF (F.FI_COA_B_LOST x.entry) (min 65535 (s.getF (F.FI_COA_B_LOST x.entry) + lost))
  let s := s.setRebuild { x with page := x.page + 1, slots := [], busy := 1 }
  let (id, s) := s.fresh
  s.enqueue { id := id, ord := id, cls := 2, origin := .rebuild, join := false,
              pages := (List.range n).map fun i => mkAddr x.target (x.base + i) x.page 0,
              purpose := (List.range n).map fun _ => .progRebuild x.entry,
              data := (List.range n).map fun i => pageEncode (mkAddr x.source (x.base + i) x.page 0) ((envs.drop (4 * i)).take 4) }

/-- A rebuild whose erases are done decides what its base block needs (R302 steps 2 to 5). -/
def State.rebuildGo (s : State) (x : Rebuild) (maps : List Bytes) (err : Bool) : State :=
  match x.layout with
  | none =>
    if x.inPlace ∧ x.base = 0 ∧ (x.source = 0 ∨ x.source = 16) then s.rebuildNext x
    else if s.mapOn ∧ err then s.rebuildSkip x.entry
    else match s.coveredBy maps x.source x.base with
      | some l => if x.base + s.planesOf x.source ≤ s.rebuildLast x.source then s.rebuildPage x l else s.rebuildNext x
      | none => s.rebuildNext x
  | some l =>
    if x.slots = [] then if x.page < (s.geo x.source).pages then s.rebuildPage x l else s.rebuildNext x
    else if x.slots.all fun r => r.any fun e => decide (e.1 = St.erased) then s.rebuildNext x
    else s.rebuildProgram x l

/-- REBUILD_BASE_BLOCK (R302, R303, R305, R383): the next step of a rebuild that has no work out. -/
def execRebuildBaseBlock (entry : Nat) (maps : List Bytes) (err : Bool) (s : State) (corr : Nat := 0) (lost : Option Nat := none) :
    Host.Outcome State Fault Refusal :=
  match s.rebuild? entry with
  | none => .next s
  | some x =>
    if s.rebuildRuns = false ∨ x.busy ≠ 0 then .next s
    else if x.erased ∧ s.mapOn ∧ err = false ∧ lost.isSome then .next (s.mapLost lost)
    else .next (if x.erased then (if s.mapOn then s.dramReads corr else s).rebuildGo x maps err else s.rebuildErase x)

/-- REBUILD_WINDOW_END (R305): the accounting of a die starts anew. -/
def execRebuildWindowEnd (r d : Nat) (s : State) : Host.Outcome State Fault Refusal :=
  .next (s.setDie (dieKey r d) { s.die (dieKey r d) with rebuilt := 0 })

/-! ### DEGRADED (R307) -/

/-- The conditions of Table 13-5 are shown, and SERVICE and DEGRADED change with them (R307). -/
def State.degradedGo (s : State) : State :=
  let c := s.degCause
  let s := s.setF F.FI_STATUS_DEG_CAUSE c
  if s.mode.target.isSome then s
  else if s.modeNow = 4 ∧ c ≠ 0 then s.setMode 5
  else if s.modeNow = 5 ∧ c = 0 then s.setMode 4
  else s

/-- DEGRADED_CHANGE (R307). -/
def execDegradedChange (s : State) : Host.Outcome State Fault Refusal := .next s.degradedGo

end Sys2Proof.Machine
end

