-- ==== Sys2Proof/Machine/Queue.lean ====
section
/-! DEFINITION. The queue engine: doorbells, entry fetch, admission, completions, queue creation and deletion (R202 to R225). -/

namespace Sys2Proof.Machine

/-! ### Queues -/

/-- CQ `n`, if it exists. -/
def State.cq (s : State) (n : Nat) : Option CQ := tget (fun _ => none) s.q.cqs n

/-- Store CQ `n`, or delete it. -/
def State.setCq (s : State) (n : Nat) (c : Option CQ) : State :=
  { s with q := { s.q with cqs := tset (fun _ => none) s.q.cqs n c } }

/-- The slots of a ring. -/
def CQ.size (c : CQ) : Nat := 2 ^ c.k

/-- The unreleased completions of a CQ (R216). -/
def CQ.unreleased (c : CQ) : Nat := (c.tail + c.size - c.head % c.size) % c.size

/-- The SQs that are stopped. -/
def State.stoppedSqs (s : State) : List Nat :=
  (s.q.sqs.filter fun e => (match e.2 with | some q => q.stopped | none => false)).map Prod.fst

/-- The SQs bound to CQ `c`. -/
def State.boundSqs (s : State) (c : Nat) : List Nat :=
  (s.q.sqs.filter fun e => (match e.2 with | some q => q.cq = c | none => false)).map Prod.fst

/-- The poste restante entries held across all queues (R220). -/
def State.entriesHeld (s : State) : Nat :=
  (s.q.sqs.map fun e => (match e.2 with | some q => q.order.length | none => 0)).sum

/-- The sum of quotas, the admin SQ's 16 included (R220). -/
def State.quotaSum (s : State) : Nat :=
  16 + (s.q.sqs.map fun e => if e.1 = 0 then 0 else (match e.2 with | some q => q.quota | none => 0)).sum

/-- The mode admits descriptors of SQ `n` (Table 16-1, R347); nothing is admitted during a change of mode or a seam. -/
def State.admits (s : State) (n : Nat) : Bool :=
  s.mode.target.isNone && s.getF F.IMG_STATUS_STATE ≠ 5 &&
    ([4, 5, 11].contains s.modeNow || (s.modeNow = 10 && n = 0))

/-! ### Doorbells (R206, R216) -/

/-- Log an ignored doorbell write (R206). -/
def State.dbIgnored (s : State) (n kind cause v : Nat) : State :=
  let s := s.setR R.Q_DB_LOG (BitVec.ofNat 32 (v % 2 ^ 17 + n % 1024 * 2 ^ 17 + kind * 2 ^ 27 + cause * 2 ^ 28))
  (s.bump R.Q_DB_COUNT).raise F.Q_EVENT_DB_IGNORED

/-- A tail doorbell that takes effect (R206): `own` is the OWN bit of the head slot, looked at only by an advance of 0 into
an empty ring. -/
def State.sqDoor (s : State) (n v : Nat) (own : Bool) : State :=
  match s.sq n with
  | none => s.dbIgnored n 0 3 v
  | some q =>
    if q.deleting then s.dbIgnored n 0 3 v
    else if q.size ≤ v then s.dbIgnored n 0 1 v
    else
      let adv := (v + q.size - q.tail) % q.size
      if q.size - q.count < adv then s.dbIgnored n 0 2 v
      else
        let slots := if adv ≠ 0 then adv else if q.count = 0 ∧ own then q.size else 0
        if slots = 0 then s.setSq n (some { q with tail := v })
        else
          let q : SQ := { q with tail := v, count := q.count + slots, batches := q.batches ++ [(s.q.stamp, slots)],
                                 skip := if q.count = 0 then s.stoppedSqs else q.skip }
          let s := s.setSq n (some q)
          { s with q := { s.q with stamp := s.q.stamp + 1 } }

/-- A head doorbell that takes effect (R216). -/
def State.cqDoor (s : State) (n v : Nat) : State :=
  match s.cq n with
  | none => s.dbIgnored n 1 3 v
  | some c =>
    if c.size ≤ v then s.dbIgnored n 1 1 v
    else if c.unreleased < (v + c.size - c.head) % c.size then s.dbIgnored n 1 2 v
    else s.setCq n (some { c with head := v })

/-- Where a doorbell write goes first (R54, R353, R358, R391): held in HOLD and in a seam, where in HOLD it also wakes; refused
in SAFE but for queue 0; unanswered in OFF and WATCH. The second component says whether the write takes effect now. -/
def State.doorGate (s : State) (off n : Nat) (v : W32) : State × Bool :=
  if s.modeNow = 0 ∨ s.modeNow = 8 then (s, false)
  else if s.modeNow = 10 ∧ n ≠ 0 then (s.refuse off, false)
  else if s.modeNow = 7 then
    let s : State := { s with sec := { s.sec with heldWrites := s.sec.heldWrites ++ [(off, v)] } }
    (if s.getF F.PWR_CTRL_DB_WAKE = 1 then s.holdWake 4 0 else s, false)
  else if s.getF F.IMG_STATUS_STATE = 5 then
    ({ s with sec := { s.sec with heldWrites := s.sec.heldWrites ++ [(off, v)] } }, false)
  else (s, true)

/-- A write to `ENS_DB_SQ[n]`. -/
def State.sqDoorWrite (s : State) (n : Nat) (v : W32) (own : Bool) : State :=
  let (s, go) := s.doorGate (R.DB_SQ n) n v
  if go then s.sqDoor n v.toNat own else s

/-- A write to `ENS_DB_CQ[n]`. -/
def State.cqDoorWrite (s : State) (n : Nat) (v : W32) : State :=
  let (s, go) := s.doorGate (R.DB_CQ n) n v
  if go then s.cqDoor n v.toNat else s

/-- SQ_DOORBELL (R206, R207). -/
def execSqDoorbell (n : Nat) (v : W32) (own : Bool) (s : State) : Host.Outcome State Fault Refusal :=
  .next (if n < 1024 then s.sqDoorWrite n v own else s)

/-- CQ_DOORBELL (R207, R216). -/
def execCqDoorbell (n : Nat) (v : W32) (s : State) : Host.Outcome State Fault Refusal :=
  .next (if n < 1024 then s.cqDoorWrite n v else s)

/-! ### Entry fetch (R205, R208) -/

/-- The descriptors of an SQ that are cached or being fetched. -/
def SQ.ahead (q : SQ) : Nat := q.cache.length + q.fetching

/-- The descriptors cached or being fetched across all SQs. -/
def State.cachedCount (s : State) : Nat :=
  (s.q.sqs.map fun e => (match e.2 with | some q => q.ahead | none => 0)).sum

/-- One more entry of SQ `n` may be fetched (R205, R208). -/
def State.fetches (s : State) (n : Nat) (q : SQ) : Bool :=
  s.admits n && !q.stopped && !q.deleting && decide (q.ahead < q.count) && decide (q.ahead < clampNat 1 16 (s.getF F.Q_X_PREFETCH)) &&
    decide (s.cachedCount < 2048)

/-- What the DRAM answers to an entry's read counts (R273): 2 a corrected unit, from 3 on the uncorrectable unit. -/
def State.entryResp (s : State) (addr resp : Nat) : State :=
  if 3 ≤ resp then s.dramUncorr (addr + 16 * (resp - 3)) else if resp = 2 then s.dramCorrected else s

/-- An entry read from the slot after the cached ones joins the cache, a failed one with its cause; an entry with OWN at 0 sets the queue
waiting, and what is being fetched behind it is fetched again (R205, R208). -/
def State.cacheEntry (s : State) (n : Nat) (q : SQ) (bytes : Bytes) (resp : Nat) : State :=
  let slot := (q.head + q.cache.length) % q.size
  let s : State := { s with mi := { s.mi with redo := s.mi.redo.filter (· ≠ n) } }
  let join (e : Cached) : SQ := { q with cache := q.cache ++ [e], ownWait := false }
  let q := if resp = 1 then join { slot := slot, bytes := [], bad := 5 }
    else if 3 ≤ resp then join { slot := slot, bytes := slice bytes 0 64, bad := 6 }
    else if bit (field bytes 1 1) 7 then join { slot := slot, bytes := slice bytes 0 64 }
    else { q with ownWait := true, fetching := 0, stale := q.stale ++ q.fetchSlots.map fun x => (x + 1) % q.size }
  (s.setSq n (some q)).entryResp (q.base + 64 * slot) resp

/-- ENTRY_FETCH (R208, R209): the fetch of the next handed-over entry that is neither cached nor being fetched begins, or the oldest fetch
under way arrives with its bytes and the DRAM's response: it is discarded where its copy was dropped. -/
def execEntryFetch (n : Nat) (bytes : Bytes) (resp : Nat) (s : State) (begins : Bool := false) : Host.Outcome State Fault Refusal :=
  match s.sq n with
  | none => .next s
  | some q =>
    if begins then .next (if s.fetches n q ∧ q.ownWait = false then s.setSq n (some { q with fetching := q.fetching + 1 }) else s)
    else if s.coreRuns = false then .next s
    else match q.stale with
      | slot :: l => .next ((s.setSq n (some { q with stale := l })).entryResp (q.base + 64 * slot) resp)
      | [] => .next (if 0 < q.fetching then s.cacheEntry n { q with fetching := q.fetching - 1 } bytes resp else s)

/-- OWN_RECHECK_EXPIRY (R205, R208): the slot found with OWN at 0 is read again, within the limits of a fetch. -/
def execOwnRecheckExpiry (n : Nat) (bytes : Bytes) (resp : Nat) (s : State) : Host.Outcome State Fault Refusal :=
  match s.sq n with
  | none => .next s
  | some q => .next (if s.fetches n q ∧ q.ownWait then s.cacheEntry n q bytes resp else s)

/-! ### Admission (R210 to R214) -/

/-- The stamp of the doorbell that handed over the descriptor at the head. -/
def SQ.headStamp (q : SQ) : Nat := (q.batches.headD (0, 0)).1

/-- The fence condition of the descriptor at the head of SQ `n` (R214). -/
def State.fenceMet (s : State) (n : Nat) (q : SQ) : Bool :=
  s.descs.all (fun d => d.status.isSome || (d.sq ≠ n && (q.skip.contains d.sq || q.headStamp ≤ d.handed))) &&
    s.q.sqs.all fun e => e.1 = n || q.skip.contains e.1 ||
      (match e.2 with | some m => m.batches.all fun b => q.headStamp ≤ b.1 | none => true)

/-- The PROGRAM_STRIPE of `b` would open a row while four are open or about to be (R90). -/
def State.fifthRow (s : State) (b : Bytes) : Bool :=
  let key (b : Bytes) : Nat × Nat := (field b 5 1, field b 8 8)
  let opened := s.seq.rows.map fun r => (r.layout, mkAddr 0 r.base r.page 0)
  let soon := ((s.descs.filter fun d => d.op = 0x05 && !d.started && d.status.isNone && d.late.isNone).map fun d => key d.bytes).eraseDups
  let all := opened ++ soon.filter fun x => !opened.contains x
  field b 0 1 = 0x05 && (s.admitStatus b (bit (field b 1 1) 4)).isNone && (s.writeCheck b).isNone && !all.contains (key b) && decide (4 ≤ all.length)

/-- The SQ has a descriptor ready for admission (R210). -/
def State.ready (s : State) (n : Nat) : Bool :=
  match s.sq n with
  | none => false
  | some q => s.admits n && !q.stopped && !q.deleting && decide (q.order.length < q.quota) &&
      (match q.cache with
        | [] => false
        | e :: _ =>
          let fence := e.bad = 0 && bit (field e.bytes 1 1) 5
          (!fence || s.fenceMet n q) && (s.entryCause n e ≠ 0 || !s.fifthRow e.bytes))

/-- The SQ that admission grants (R211), and the pointer after it. -/
def State.admitPick (s : State) : Option (Nat × Nat) :=
  let grant (n : Nat) : Nat × Nat := (n, n + 1)
  if s.getF F.Q_X_ADMIN_FIRST = 1 then
    if s.ready 0 then some (0, s.q.ptr)
    else ((rotateIdx 1023 (clampNat 1 1023 s.q.ptr - 1) fun i => s.ready (i + 1)).map fun i => grant (i + 1))
  else (rotateIdx 1024 (s.q.ptr % 1024) s.ready).map grant

/-- Clear OWN of a slot of SQ `n` by a write of byte 1 alone, as 0 where stop cause 5 or 6 says that the bytes cannot be trusted (R204,
R212); a completion of the SQ waits for the write's acknowledgement (R217, R383). -/
def State.clearOwn (s : State) (n : Nat) (q : SQ) (e : Cached) (cause : Nat) : State :=
  ({ s with q := { s.q with owns := s.q.owns ++ [n] } } : State).fab (q.base + 64 * e.slot + 1)
    [if 5 ≤ cause then 0 else BitVec.ofNat 8 (field e.bytes 1 1 % 128)]

/-- The addresses of a run. -/
def runAddrs (first n : Nat) : List Nat := (List.range n).map (first + ·)

/-- The envelope checks at admission (R210, R17 steps 2 to 5; RAW_READ steps 2 to 4 of its page). -/
def State.admitEnvs (s : State) (b : Bytes) : List (Option EnvRes) × State :=
  let op := field b 0 1
  let first := field b 8 8
  let count := field b 16 4
  if op = 0x01 then s.envChecks (!bit (field b 4 1) 0) (runAddrs first count)
  else if op = 0x02 ∨ op = 0x07 ∨ op = 0x48 then s.envChecks true (runAddrs first count)
  else if op = 0x70 ∧ field b 4 1 = 3 then
    let (rs, s) := s.envChecks false (runAddrs first 4)
    ([(rs.find? Option.isSome).getD none], s)
  else ([], s)

/-- The dies that are served as retired ones: a descriptor admitted now reconstructs their envelopes, whatever activates later (R303). -/
def State.goneDies (s : State) : List Nat := (List.range 512).filter fun k => s.dieOn k && s.dieGone (s.busDie k)

/-- The head descriptor leaves the ring: head and count move, and the batch it came with shrinks. -/
def SQ.advance (q : SQ) (stopped : List Nat) : SQ :=
  let batches := match q.batches with
    | (st, m + 2) :: t => (st, m + 1) :: t
    | _ :: t => t
    | [] => []
  { q with head := (q.head + 1) % q.size, count := q.count - 1, cache := q.cache.drop 1, batches := batches, skip := stopped }

/-- Admit the head descriptor of SQ `n` (R210), or stop the queue on it (R212). Where a word of a pigeonhole is lost in
its checks, SAFE has been entered and aborts it too (R268, R358). -/
def State.admitHead (s : State) (n : Nat) (q : SQ) (e : Cached) : State :=
  let (id, s) := s.fresh
  let cause := s.entryCause n e
  let s := s.clearOwn n q e cause
  let q' : SQ := { q.advance s.stoppedSqs with order := q.order ++ [id] }
  if cause ≠ 0 then
    let d : Desc := { id := id, sq := n, bytes := if 5 ≤ cause then [] else e.bytes, admitNs := s.nowNs, handed := q.headStamp,
                      status := some St.queueStopped, doneAt := id }
    let s := s.setSq n (some { q'.dropCopies with stopped := true })
    let s : State := { s with descs := s.descs ++ [d] }
    let s := (s.setBit (R.Q_STOPPED 0) n true).setR R.Q_STOP_LOG (BitVec.ofNat 32 (e.slot + n * 2 ^ 16 + cause * 2 ^ 26))
    s.raise F.Q_EVENT_QUEUE_STOP
  else
    let st := s.admitStatus e.bytes (bit (field e.bytes 1 1) 4)
    let mode := s.modeNow
    let (rs, s) := if st.isSome then ([], s) else s.admitEnvs e.bytes
    let d : Desc := { id := id, sq := n, bytes := e.bytes, admitNs := s.nowNs, handed := q.headStamp, status := st, doneAt := id,
                      results := rs, gone := s.goneDies, epoch := s.ph.epoch,
                      late := if st.isNone ∧ checksLate e.bytes then s.writeCheck e.bytes else none, tol := s.img.cfg.tol, share := s.img.cfg.floor,
                      limits := [s.img.cfg.maxSq, s.img.cfg.maxCq, s.img.cfg.maxRing, s.img.cfg.quota] }
    let s := if st.isSome ∧ d.op = 0x03 then s.bump R.SO_CNT_SCANS else s
    let s := s.setSq n (some q')
    let s : State := { s with descs := s.descs ++ [d] }
    if s.modeNow = mode then s else s.safeSettle

/-- ADMISSION (R210, R211): one ready descriptor. -/
def execAdmission (s : State) : Host.Outcome State Fault Refusal :=
  match s.admitPick with
  | none => .next s
  | some (n, ptr) =>
    match s.sq n with
    | some q => match q.cache with
      | e :: _ => .next (({ s with q := { s.q with ptr := ptr % 1024 } } : State).admitHead n q e)
      | [] => .next s
    | none => .next s

/-! ### Completions (R215 to R221) -/

/-- The finished descriptors at the front of an SQ's order. -/
def State.finishedRun (s : State) (q : SQ) : List Desc :=
  (q.order.filterMap s.desc?).takeWhile fun d => d.status.isSome

/-- A descriptor carries MAILBAG. -/
def Desc.mailbag (d : Desc) : Bool := bit (field d.bytes 1 1) 6

/-- The length of the closed batch at the front of a run, none while it is held (R219). -/
def batchLen (quota : Nat) : List Desc → Nat → Option Nat
  | [], _ => none
  | d :: l, i =>
    if d.mailbag = false ∨ isFailure (d.status.getD 0) ∨ quota ≤ i + 1 then some (i + 1) else batchLen quota l (i + 1)

/-- When the completion at the front of an SQ became writable, and how much of its batch is left to write (R217, R219): none while it is
not finished or its batch is open. -/
def State.writableAt (s : State) (q : SQ) : Option (Nat × Nat) :=
  if 0 < q.mailHeld then some (max q.frontAt q.closedAt, q.mailHeld)
  else (batchLen q.quota (s.finishedRun q) 0).map fun l => ((((s.finishedRun q).take l).map Desc.doneAt).foldl max q.frontAt, l)

/-- The SQ whose completion goes into CQ `c` next (R217, R219): that of the batch which is being written, else the one whose completion
became writable first, the lower number of two at one time. -/
def State.writesNext (s : State) (cqn : Nat) (c : CQ) : Option Nat :=
  match c.batch with
  | some m => some m
  | none => ((s.boundSqs cqn).foldl (fun (best : Option (Nat × Nat)) m => match (s.sq m).bind s.writableAt, best with
      | some (w, _), none => some (w, m)
      | some (w, _), some (v, x) => if w < v ∨ (w = v ∧ m < x) then some (w, m) else best
      | none, _ => best) none).map Prod.snd

/-- Put the next completion of a batch into its CQ slot (R216 to R218). -/
def State.writeCompletion (s : State) (n : Nat) (q : SQ) (cqn : Nat) (c : CQ) (d : Desc) (left : Nat) : State :=
  let addr := c.base + 16 * c.tail
  let bytes := completionBytes (field d.bytes 2 2) q.head d.count (s.nowNs - d.admitNs) (d.status.getD 0) n c.phase
  let s := s.fab addr bytes
  let wrap := decide (c.tail + 1 = c.size)
  let s := s.setCq cqn (some { c with tail := (c.tail + 1) % c.size, phase := if wrap then !c.phase else c.phase,
                                      batch := if left = 1 then none else some n, inflight := some (n, left = 1, addr, bytes) })
  s.setSq n (some { q with mailHeld := left - 1 })

/-- COMPLETION_WRITE (R217, R219, R383): the oldest completion of SQ `n`, once its batch is closed, its slot released, the OWN-clearing
writes of its SQ acknowledged, and it is the next to go into its CQ. -/
def execCompletionWrite (n : Nat) (s : State) : Host.Outcome State Fault Refusal :=
  match s.sq n with
  | none => .next s
  | some q => match s.cq q.cq, q.order.head?.bind s.desc?, s.writableAt q with
    | some c, some d, some (_, l) =>
      .next (if s.writesOut ∧ n ∉ s.q.owns ∧ c.fault = false ∧ c.inflight.isNone ∧ c.unreleased < c.size - 1 ∧ s.writesNext q.cq c = some n then
        s.writeCompletion n q q.cq c d l else s)
    | _, _, _ => .next s

/-- CQ_WRITE_ACK (R218): the write is visible; the entry is released, and the notice follows a batch's last write. -/
def execCqWriteAck (n : Nat) (s : State) : Host.Outcome State Fault Refusal :=
  match s.cq n with
  | none => .next s
  | some c => match c.inflight with
    | none => .next s
    | some (m, last, _, _) =>
      if c.fault then .next s
      else
        let s := s.setCq n (some { c with inflight := none })
        let (now, s) := s.fresh
        let s := match s.sq m with
          | some q => { s.setSq m (some { q with order := q.order.drop 1, frontAt := now }) with
              descs := s.descs.filter fun d => some d.id ≠ q.order.head? }
          | none => s
        .next (if last ∧ 64 ≤ c.notice then s.fire c.notice else s)

/-- MAILBAG_TIMEOUT (R219): the batch held at the front of SQ `n` closes with what has finished. -/
def execMailbagTimeout (n : Nat) (s : State) : Host.Outcome State Fault Refusal :=
  match s.sq n with
  | none => .next s
  | some q =>
    if 0 < q.mailHeld ∨ (batchLen q.quota (s.finishedRun q) 0).isSome then .next s
    else
      let (now, s) := s.fresh
      .next (s.setSq n (some { q with mailHeld := (s.finishedRun q).length, closedAt := now }))

/-- CQ_WRITE_ERROR (R221): the CQ enters fault; the completion stays in its entry. -/
def execCqWriteError (n : Nat) (s : State) : Host.Outcome State Fault Refusal :=
  match s.cq n with
  | none => .next s
  | some c =>
    if c.inflight.isNone ∨ c.fault then .next s
    else .next (((s.setCq n (some { c with fault := true })).setBit (R.Q_CQ_FAULT 0) n true).raise F.Q_EVENT_CQ_FAULT)

/-! ### Resuming (R213) -/

/-- Clear the stop of an SQ; fetching goes on at its head. -/
def State.resumeSq (s : State) (n : Nat) : State :=
  match s.sq n with
  | some q => (s.setSq n (some { q with stopped := false })).setBit (R.Q_STOPPED 0) n false
  | none => s

/-- Retry the failed write of a CQ (R221). -/
def State.resumeCq (s : State) (n : Nat) : State :=
  match s.cq n with
  | some c =>
    if c.fault then
      let s := (s.setCq n (some { c with fault := false })).setBit (R.Q_CQ_FAULT 0) n false
      match c.inflight with
      | some (_, _, addr, bytes) => s.fab addr bytes
      | none => s
    else s
  | none => s

/-- RESUME_QUEUE (R213, R239). -/
def execResumeQueue (id : Nat) (s : State) : Host.Outcome State Fault Refusal :=
  match s.adminDesc id 0x44 with
  | none => .next s
  | some d =>
    let n := field d.bytes 4 2
    if field d.bytes 6 1 = 0 then
      match s.sq n with
      | some q => .next (if q.deleting then s.finish id St.malformed 0 else (s.resumeSq n).finish id St.ok 0)
      | none => .next (s.finish id St.malformed 0)
    else if (s.cq n).isSome then .next ((s.resumeCq n).finish id St.ok 0)
    else .next (s.finish id St.malformed 0)

/-! ### Creating and deleting (R209, R222 to R224) -/

/-- CREATE_CQ (R222). -/
def execCreateCq (id : Nat) (s : State) : Host.Outcome State Fault Refusal :=
  match s.adminDesc id 0x41 with
  | none => .next s
  | some d =>
    let n := field d.bytes 4 2
    let k := field d.bytes 16 1
    let ntc := field d.bytes 17 1
    if inside 1 (d.limits.getD 1 0) n && (s.cq n).isNone && inside 4 (d.limits.getD 2 0) k && (ntc = 0 || 64 ≤ ntc) then
      .next ((s.setCq n (some { base := field d.bytes 8 8, k := k, notice := ntc })).finish id St.ok 0)
    else .next (s.finish id St.malformed 0)

/-- CREATE_SQ (R220, R222). -/
def execCreateSq (id : Nat) (s : State) : Host.Outcome State Fault Refusal :=
  match s.adminDesc id 0x40 with
  | none => .next s
  | some d =>
    let n := field d.bytes 4 2
    let cqn := field d.bytes 6 2
    let k := field d.bytes 16 1
    let quota := if field d.bytes 18 2 = 0 then d.limits.getD 3 0 else field d.bytes 18 2
    let bound := cqn ≠ 0 && (match s.cq cqn with | some c => !c.fault | none => false)
    if inside 1 (d.limits.getD 0 0) n && (s.sq n).isNone && inside 4 (d.limits.getD 2 0) k && bound && inside 1 256 quota &&
        decide (s.quotaSum + quota ≤ 4096) then
      .next ((s.setSq n (some { base := field d.bytes 8 8, k := k, cq := cqn, quota := quota, skip := s.stoppedSqs })).finish
        id St.ok 0)
    else .next (s.finish id St.malformed 0)

/-- DELETE_CQ (R224). -/
def execDeleteCq (id : Nat) (s : State) : Host.Outcome State Fault Refusal :=
  match s.adminDesc id 0x43 with
  | none => .next s
  | some d =>
    let n := field d.bytes 4 2
    if (s.cq n).isSome && (s.boundSqs n).isEmpty then
      .next (((s.setCq n none).setBit (R.Q_CQ_FAULT 0) n false).finish id St.ok 0)
    else .next (s.finish id St.malformed 0)

/-- INVALIDATE_ENTRIES (R209): the count is the copies dropped, fetches under way among them. -/
def execInvalidateEntries (id : Nat) (s : State) : Host.Outcome State Fault Refusal :=
  match s.adminDesc id 0x45 with
  | none => .next s
  | some d =>
    let n := field d.bytes 4 2
    if n = 0xFFFF then
      let count := (s.q.sqs.map fun e => if e.1 = 0 then 0 else (match e.2 with | some q => q.ahead | none => 0)).sum
      let s : State := { s with q := { s.q with sqs := s.q.sqs.map fun e =>
        if e.1 = 0 then e else (e.1, e.2.map SQ.dropCopies) } }
      .next (s.finish id St.ok count)
    else match s.sq n with
      | some q => .next ((s.setSq n (some q.dropCopies)).finish id St.ok q.ahead)
      | none => .next (s.finish id St.malformed 0)

/-- The failed write of a discarded completion leaves its slot to the next completion of the CQ (R223 step 3). -/
def State.dropFailedWrite (s : State) (n cqn : Nat) : State :=
  match s.cq cqn with
  | some c => match c.fault, c.inflight with
    | true, some (m, _, _, _) =>
      if m = n then
        s.setCq cqn (some { c with tail := (c.tail + c.size - 1) % c.size, phase := if c.tail = 0 then !c.phase else c.phase,
                                   batch := none, inflight := none })
      else if c.batch = some n then s.setCq cqn (some { c with batch := none })
      else s
    | _, _ => s
  | none => s

/-- SQ_DELETE_END (R223 steps 3 and 4): with its CQ in fault the finished completions are discarded; with no entry left the SQ
ceases to exist and its DELETE_SQ completes OK. -/
def execSqDeleteEnd (n : Nat) (s : State) : Host.Outcome State Fault Refusal :=
  match s.sq n with
  | none => .next s
  | some q =>
    if q.deleting = false then .next s
    else
      let faulty := match s.cq q.cq with | some c => c.fault | none => true
      let gone := if faulty then (s.finishedRun q).map Desc.id else []
      let order := q.order.drop gone.length
      let s : State := { s with descs := s.descs.filter fun d => !gone.contains d.id }
      let s := if faulty then s.dropFailedWrite n q.cq else s
      if order ≠ [] then .next (s.setSq n (some { q with order := order, mailHeld := if faulty then 0 else q.mailHeld }))
      else
        let s := (s.setSq n none).setBit (R.Q_STOPPED 0) n false
        match s.descs.find? fun d => d.sq = 0 && d.op = 0x42 && d.started && d.status.isNone && field d.bytes 4 2 = n with
        | some d => .next (s.finish d.id St.ok 0)
        | none => .next s

/-! ### The admin queue (R225) -/

/-- Clamp a ring length of the admin queue. -/
def adminLog2 (v : Nat) : Nat := clampNat 4 12 v

/-- Enable the admin queue: it takes its base and length registers as they stand (R225). -/
def State.adminOpen (s : State) : State :=
  let sqb := s.getF F.Q_ADMIN_SQ_LO_ADDR * 64 + s.getF F.Q_ADMIN_SQ_HI_ADDR * 2 ^ 32
  let cqb := s.getF F.Q_ADMIN_CQ_LO_ADDR * 64 + s.getF F.Q_ADMIN_CQ_HI_ADDR * 2 ^ 32
  let ntc := s.getF F.Q_ADMIN_CFG_NOTICE
  let s := s.setSq 0 (some { base := sqb, k := adminLog2 (s.getF F.Q_ADMIN_CFG_SQ_LOG2), cq := 0, quota := 16,
                             skip := s.stoppedSqs })
  s.setCq 0 (some { base := cqb, k := adminLog2 (s.getF F.Q_ADMIN_CFG_CQ_LOG2), notice := if ntc < 64 then 0 else ntc })

/-- The EN bit of a write to `ENS_Q_ADMIN_CFG` (R225, Table 16-4 cause 1). -/
def State.adminEnableWrite (s : State) (v : Nat) : State :=
  let was := s.getF F.Q_ADMIN_CFG_EN = 1
  if bit v 0 then
    if was then s
    else if s.modeNow = 10 ∧ s.getF F.MODE_SAFE_CAUSE = 1 then s.refuse R.Q_ADMIN_CFG
    else (s.setF F.Q_ADMIN_CFG_EN 1).adminOpen
  else if was then
    match s.sq 0 with
    | some q =>
      if q.order = [] then
        ((((s.setF F.Q_ADMIN_CFG_EN 0).setSq 0 none).setCq 0 none).setBit (R.Q_STOPPED 0) 0 false).setBit (R.Q_CQ_FAULT 0) 0 false
      else s.refuse R.Q_ADMIN_CFG
    | none => s.setF F.Q_ADMIN_CFG_EN 0
  else s

/-- The length and notice fields of a write to `ENS_Q_ADMIN_CFG`: locked while EN is 1, where a changed value is logged. -/
def State.adminFieldsWrite (s : State) (v : Nat) : State :=
  if s.getF F.Q_ADMIN_CFG_EN = 1 then
    if bits v 2 16 = bits (s.getR R.Q_ADMIN_CFG).toNat 2 16 then s else s.refuse R.Q_ADMIN_CFG
  else s.setF ⟨R.Q_ADMIN_CFG, 2, 16⟩ (bits v 2 16)

/-- The RESUME bit of a write to `ENS_Q_ADMIN_CFG` (R213): acted on at once. -/
def State.adminResumeWrite (s : State) (v : Nat) : State :=
  if bit v 1 then (s.resumeSq 0).resumeCq 0 else s

/-- A whole write to `ENS_Q_ADMIN_CFG`. -/
def State.adminCfgWrite (s : State) (v : Nat) : State :=
  ((s.adminFieldsWrite v).adminEnableWrite v).adminResumeWrite v

end Sys2Proof.Machine
end

