-- ==== Sys2Proof/Machine/Descriptors.lean ====
section
/-! DEFINITION. READ, READ_HEADERS, COPY, LOAD_PIGEONHOLE, DELETE_SQ and the DIAG subcodes but the register snapshot (R17, R223, R231
to R240, R280). -/

namespace Sys2Proof.Machine

/-! ### Reads (R17, R231 to R234, R237, R280) -/

/-- An envelope that was decided at admission (R17 steps 2 to 5): its bytes are written; a pigeonhole line of LOAD_PIGEONHOLE that still
stands is installed. -/
def State.earlyResult (s : State) (id i a : Nat) (r : EnvRes) : State :=
  match s.desc? id with
  | none => s
  | some d =>
    let s := s.writeEnv d i r
    if d.op = 0x48 ∧ (s.phFind a).isSome then
      let (s, stands) := s.fillInstall d a s.ph.epoch r
      if stands then s.setDesc { d with count := d.count + 1 } else s
    else s

/-- A descriptor's reads begin (R17 step 6): the envelopes that admission did not decide go to their dies, or wait for a reconstruction;
one whose requester takes none ends. -/
def State.readStart (s : State) (d : Desc) (header ladder recon : Bool) : State :=
  let first := field d.bytes 8 8
  let s := s.setDesc { d with started := true }
  let rs := d.results.mapIdx fun i r => (i, r)
  let s := rs.foldl (fun s e => match e.2 with | some r => s.earlyResult d.id e.1 (first + e.1) r | none => s) s
  let jobs := rs.filterMap fun e => if e.2.isSome then none
    else some ({ id := 0, ord := d.id, addr := first + e.1, dest := .desc d.id e.1, origin := .queue d.sq, header := header,
                 ladder := ladder, recon := recon, phUse := d.fills } : Job)
  let (jobs, s) := s.makeJobs jobs
  let jobs := jobs.map fun j => { j with epoch := d.epoch }
  let s := s.enqueueReads jobs none true d.gone
  let s := (jobs.filter fun j => !j.recon).foldl (fun s j =>
    match s.unreadable j.addr (!d.gone.contains (addrDie j.addr)) with
    | some st => s.jobFailed { j with phase := .waitCtx, why := st } st
    | none => s) s
  s.descCheck d.id

/-- A descriptor of an opcode that has been admitted and has neither started nor ended. -/
def State.toStart (s : State) (id op : Nat) : Option Desc :=
  match s.desc? id with
  | some d => if d.op = op ∧ d.started = false ∧ d.status.isNone then some d else none
  | none => none

/-- READ (R17, R231 to R233): with its expert controls. -/
def execRead (id : Nat) (s : State) : Host.Outcome State Fault Refusal :=
  match s.toStart id 0x01 with
  | some d => .next (s.readStart d false (!bit (field d.bytes 4 1) 1) (!bit (field d.bytes 4 1) 2))
  | none => .next s

/-- READ_HEADERS (R73, R234). -/
def execReadHeaders (id : Nat) (s : State) : Host.Outcome State Fault Refusal :=
  match s.toStart id 0x02 with
  | some d => .next (s.readStart d true true true)
  | none => .next s

/-- COPY (R237): its source stage begins. -/
def execCopy (id : Nat) (s : State) : Host.Outcome State Fault Refusal :=
  match s.toStart id 0x07 with
  | some d => .next (s.readStart d false true true)
  | none => .next s

/-- LOAD_PIGEONHOLE (R280). -/
def execLoadPigeonhole (id : Nat) (s : State) : Host.Outcome State Fault Refusal :=
  match s.adminDesc id 0x48 with
  | some d => .next (s.readStart d false true true)
  | none => .next s

/-! ### DELETE_SQ (R223) -/

/-- Scans of an SQ that wait to start complete ABORTED (R223 step 2), those whose plan was not fetched yet among them (R188). -/
def State.abortScans (s : State) (n : Nat) : State :=
  let s := (s.so.scans.filter fun c => !c.active && (s.desc? c.id).any fun d => d.sq = n).foldl (fun s c => s.closeScan c St.aborted false) s
  (s.descs.filter fun d => d.sq = n && d.op = 0x03 && !d.started && d.status.isNone).foldl
    (fun s d => (s.summaryUnread d).scanFinish d.id St.aborted 0) s

/-- DELETE_SQ (R223 steps 1 and 2). -/
def execDeleteSq (id : Nat) (s : State) : Host.Outcome State Fault Refusal :=
  match s.adminDesc id 0x42 with
  | none => .next s
  | some d =>
    let n := field d.bytes 4 2
    match s.sq n with
    | none => .next (s.finish id St.malformed 0)
    | some q =>
      if q.deleting then .next (s.finish id St.malformed 0)
      else
        let s := s.setSq n (some { q.dropCopies with deleting := true })
        .next (((s.setDesc { d with started := true }).abortScans n).flushLeaving n id)

/-! ### DIAG (R240) -/

/-- A DIAG of a subcode that may execute. -/
def State.diag (s : State) (id sub : Nat) : Option Desc :=
  match s.adminDesc id 0x70 with
  | some d => if field d.bytes 4 1 = sub then some d else none
  | none => none

/-- DIAG_PING (R240). -/
def execDiagPing (id : Nat) (s : State) : Host.Outcome State Fault Refusal :=
  match s.diag id 0 with
  | some _ => .next (s.finish id St.ok 0)
  | none => .next s

/-- DIAG_NOTICE_TEST (R240): the source is raised as by a letterbox write. -/
def execDiagNoticeTest (id : Nat) (s : State) : Host.Outcome State Fault Refusal :=
  match s.diag id 2 with
  | some d => .next ((s.fire (field d.bytes 6 2)).finish id St.ok 0)
  | none => .next s

/-- The page read of a RAW_READ: at the default thresholds, or at the live values with LIVE. -/
def State.rawStart (s : State) (d : Desc) : State :=
  let live := bit (field d.bytes 5 1) 0
  let (jobs, s) := s.makeJobs [{ id := 0, ord := d.id, addr := field d.bytes 8 8, dest := .raw d.id, origin := .queue 0, ladder := false,
                                 recon := false }]
  (s.setDesc { d with started := true }).enqueueReads jobs (if live then none else some (List.replicate 15 0)) false []

/-- DIAG_RAW_READ (R240, R303): decided by R17 steps 1 to 4, by its die, or read. -/
def execDiagRawRead (id : Nat) (s : State) : Host.Outcome State Fault Refusal :=
  match s.diag id 3 with
  | none => .next s
  | some d => match d.results.filterMap (fun r => r) with
    | r :: _ => .next (s.finish id r.status 0)
    | [] => match s.unreadable (field d.bytes 8 8) (!d.gone.contains (addrDie (field d.bytes 8 8))) with
      | some st => .next (s.finish id st 0)
      | none => .next (s.rawStart d)

end Sys2Proof.Machine
end

