-- ==== Sys2Proof/Machine/RouteIf.lean ====
section
/-! DEFINITION. The route interface: training, the ledger scan and its re-erases, recalibration, lane retirement, the training error
monitor, drains, and routes going down (R52, R59, R60, R108 to R110, R114 to R128). -/

namespace Sys2Proof.Machine

/-! ### Helpers -/

/-- The populated dies of a route. -/
def State.routeDies (s : State) (r : Nat) : List Nat := ((List.range 16).map (dieKey r)).filter s.dieOn

/-- The populated dies of a route that are not in FAULT. -/
def State.goodDies (s : State) (r : Nat) : List Nat := (s.routeDies r).filter fun k => s.dieSt k ≠ 8

/-- The populated dies of a route that are in service: neither in FAULT nor RETIRED. -/
def State.serviceDies (s : State) (r : Nat) : List Nat := (s.goodDies r).filter fun k => !s.retired k

/-- The chip enables of a route with a populated die that is not in FAULT. -/
def State.goodCes (s : State) (r : Nat) : List Nat := ((s.goodDies r).map fun k => k % 16 / 4).eraseDups

/-- The junction temperature (R375). -/
def State.junction (s : State) : Int := signed 9 (s.getF F.PWR_TEMP_JUNCTION)

/-- A free DFE tap code: no rule states what an adaptation finds. -/
def State.adaptDfe (s : State) (r l : Nat) : State :=
  let (v, s) := s.draw
  s.setF (F.RT_LANE_DFE r l) (v.toNat % 64)

/-- A command to every listed chip enable, at its lowest die not in FAULT (Table 3-1). -/
def State.ceCmd (s : State) (r : Nat) (cmd : Nat) (addrs : List Nat) (data : Bytes) : State :=
  (s.goodCes r).foldl (fun s ce => match (s.goodDies r).find? fun k => k % 16 / 4 = ce with
    | some k =>
      let s := s.emit (.dieCmd r (k % 16) [BitVec.ofNat 8 cmd] addrs)
      if data = [] then s else s.emit (.dieData r (k % 16) 0 data)
    | none => s) s

/-- The training sequence of a step of Table 5-3 on every chip enable with a die not in FAULT. -/
def State.trainOut (s : State) (r step : Nat) : State := (s.goodCes r).foldl (fun s ce => s.emit (.train r ce step)) s

/-- VCCQ of a route is on; while it is off every output of the route is driven low (R114). -/
def State.vccqOn (s : State) (r : Nat) : Bool := s.routeSt r ≠ 0

/-- The level of CE# of chip enable `ce`: high but while VCCQ is off or a die of it has the bus (R65, R114). -/
def State.ceHigh (s : State) (r ce : Nat) : Bool :=
  s.vccqOn r && (List.range 4).all fun i => let d := s.die (dieKey r (4 * ce + i)); d.moving.isNone || d.want.isSome

/-- The dies of a route as its die mask has them (Table 3-2): those it does not name are ABSENT. -/
def State.dieMask (s : State) (r : Nat) : State :=
  (List.range 16).foldl (fun s i =>
    let k := dieKey r i
    if s.dieOn k = false then s.setR (R.RT_DIE r i) 0 else if s.dieSt k = 0 then s.setR (R.RT_DIE r i) 1 else s) s

/-! ### A route goes down (R80, R125) -/

/-- The blocks of an erase that going down tears (R126): they join the incomplete-erase set as after a timeout. -/
def State.tornBlocks (s : State) (k : Nat) : List Nat :=
  let d := s.die k
  let op := d.op.toList.filter fun o => o.running && (d.want.isNone || d.want = some .suspend)
  (op ++ d.held.toList).flatMap fun o =>
    if o.cls ≠ 3 ∨ (o.step ≠ 2 ∧ (s.ledgerErased k o.step).isNone) then []
    else (s.touched k o).map fun p => blockKey (addrDie p) (addrBlock p)

/-- Going down tears a ledger program of die `k` (R101, R126). -/
def State.ledgerTorn (s : State) (k : Nat) : Bool :=
  (s.die k).op.any fun o => o.cls = 3 && o.running && [1, 3, 5, 7].contains o.step && (s.die k).want.isNone

/-- A die of a route that goes down: its operations end with ROUTE_DOWN, what it tears is handled as after a timeout, and it is IDLE
unless it is ABSENT, in FAULT or RETIRED (R80, R126). -/
def State.dieDown (s : State) (k : Nat) : State :=
  let torn := s.tornBlocks k
  let s := if s.ledgerTorn k then s.ledgerLost k else s
  let s := s.dieDrop k St.routeDown true
  let s := if torn = [] then s else s.addIncomplete torn
  if [0, 8, 9].contains (s.dieSt k) then s else s.setDieSt k 1

/-- Every route whose drain an apply waits for has drained, or gone down: the seam starts (R51 step 3, R52). -/
def State.drainsDone (s : State) : State :=
  if s.getF F.IMG_STATUS_STATE = 4 ∧ (s.img.draining.all fun r => (s.route r).drained || s.routeSt r = 0) then s.seamStart else s

/-- A recalibration pass that a route loses when it goes down leaves no lane recalibrating. -/
def State.recalDrop (s : State) (r : Nat) : State :=
  match (s.route r).recal with
  | some c =>
    let s := if s.getF (F.RT_LANE_STATE r c.lane) = 1 then s.setF (F.RT_LANE_STATE r c.lane) 0 else s
    s.setF (F.RT_RECAL_LANE r) 0xF
  | none => s

/-- A re-image has failed (R58, R239): the values in force stay those before it. -/
def State.reimageFailed (s : State) (r : Nat) (x : Route) : State :=
  let s : State := match x.before with
    | some (c, on) => ({ s with img := { s.img with eff := s.img.eff.set r c, effMask := setBits s.img.effMask r 1 (b2n on) } }).dieMask r
    | none => s
  match x.reimage with | some id => s.finish id St.routeDown 0 | none => s

/-- TRAIN has done with a route. -/
def State.trainEnded (s : State) (r : Nat) : State :=
  if s.modeNow = 3 then { s with seq := { s.seq with scanned := insertAsc s.seq.scanned r } } else s

/-- A route goes DOWN with a cause (R125), unless it is DOWN: its range is invalidated (R279), its operations end, WP# falls, VCCQ goes
off, and a re-image of it has failed (R239). In TRAIN its part has ended. Training has failed where a step of Table 5-3 runs; the ledger
scan after it is none. -/
def State.routeDown (s : State) (r cause : Nat) : State :=
  if s.routeSt r = 0 then s
  else
    let x := s.route r
    let s := (s.recalDrop r).setF (F.RT_STATUS_STATE r) 0
    let s := s.setRoute r { drained := x.drainImage, drainImage := x.drainImage, passTemp := x.passTemp }
    let s := (s.routeDies r).foldl State.dieDown (s.dieRanges (s.routeDies r))
    let s := s.emit (.routePower r false)
    let s := ((s.setF (F.RT_PHY_STATUS_RATE r) 0).setF (F.RT_PHY_STATUS_DFE_ON r) 0).setF (F.RT_PHY_STATUS_VCCQ_GOOD r) 0
    let s := ((s.setF (F.RT_PHY_STATUS_DOWN_CAUSE r) cause).setF (F.RT_PHY_CTRL_DOWN_REQ r) 0).setF (F.RT_PHY_STATUS_SAFE_TO_REMOVE r) 0
    let s := s.raiseAll ((if [0, 12, 13].contains x.train then [] else [F.RT_PHY_EVENT_TRAIN_FAIL r]) ++ [F.RT_PHY_EVENT_ROUTE_DOWN r])
    ((s.trainEnded r).reimageFailed r x).guardUpdate.drainsDone

/-! ### Drains (R52, R126) -/

/-- No die of a route is in an operation that has been issued (R52). -/
def State.routeQuiet (s : State) (r : Nat) : Bool :=
  (s.routeDies r).all fun k => !s.dieBusy k && s.dieSt k ≠ 4 && (s.die k).held.isNone &&
    (match (s.die k).want with | none => true | some a => s.beginsOp k a)

/-- Go on with a step of training: its sequence goes to the dies, with DQX joined to lane 0 for read training, and it works by MIN_EYE as
it stands now (R117, R128). -/
def State.trainTo (s : State) (r n : Nat) : State :=
  let s := s.setRoute r { s.route r with train := n, minEye := s.minEye r }
  let s := if [7, 17, 27].contains n then s.reliefSelect r 0xA0 else s
  if [5, 6, 7, 8, 10, 16, 17, 18, 26, 27, 28].contains n then s.trainOut r (if 16 ≤ n then n % 10 else n) else s

/-- A retrain starts at step 5 (R124), at the base rate. -/
def State.retrainStart (s : State) (r : Nat) : State :=
  let s := (s.setRoute r { s.route r with drainRetrain := false, retrain := true }).trainTo r 5
  (s.setF (F.RT_PHY_STATUS_RATE r) (min 3600 (s.getF (F.RT_PHY_STATUS_RATE r)))).setF (F.RT_PHY_STATUS_DFE_ON r) 0

/-- ROUTE_DRAIN_END (R51, R52, R124, R126): the last operation issued on a draining route has ended. A DOWN_REQ goes before an apply, and
an apply before a retrain. -/
def execRouteDrainEnd (r : Nat) (s : State) : Host.Outcome State Fault Refusal :=
  let x := s.route r
  if s.routeSt r ≠ 3 ∨ s.routeQuiet r = false ∨ x.retrain then .next s
  else if x.drainDown then .next (s.routeDown r 1)
  else if x.drainImage then .next (s.setRoute r { x with drained := true }).drainsDone
  else if x.drainRetrain then .next (s.retrainStart r)
  else .next s

/-- DRAIN_LIMIT_EXPIRY (R52, R126): the apply is abandoned with SEAM_TIMEOUT, or the route goes DOWN as its DOWN_REQ asked. -/
def execDrainLimitExpiry (r : Nat) (s : State) : Host.Outcome State Fault Refusal :=
  let x := s.route r
  if s.routeSt r ≠ 3 then .next s
  else if x.drainDown then .next (s.routeDown r 1)
  else if x.drainImage ∧ x.drained = false ∧ s.getF F.IMG_STATUS_STATE = 4 then .next (s.drainRelease.imgState 7 0x10 0xFF)
  else .next s

/-- A write of 1 to DOWN_REQ (R126). -/
def State.downReq (s : State) (r : Nat) : State :=
  let x := s.route r
  let st := s.routeSt r
  if x.drainDown then s
  else if s.modeNow ≠ 11 ∨ (st ≠ 0 ∧ st ≠ 2) ∨ (st = 2 ∧ r < 2 ∧ s.routeSt (1 - r) ≠ 2) then s.refuse (R.RT_PHY_CTRL r)
  else if st = 0 then s
  else (((s.setRoute r { x with drainDown := true }).setF (F.RT_PHY_CTRL_DOWN_REQ r) 1).setF (F.RT_STATUS_STATE r) 3).guardUpdate

/-- VCCQ_FAULT (R125): VCCQ of a route that is not DOWN is out of regulation. -/
def execVccqFault (r : Nat) (s : State) : Host.Outcome State Fault Refusal := .next (if r < 32 then s.routeDown r 5 else s)

/-- SAFE_TO_REMOVE (R126): VCCQ of a DOWN route has fallen below 0.1 V. -/
def execSafeToRemove (r : Nat) (s : State) : Host.Outcome State Fault Refusal :=
  .next (if r < 32 ∧ s.routeSt r = 0 then s.setF (F.RT_PHY_STATUS_SAFE_TO_REMOVE r) 1 else s)

/-! ### Lane failure (R122) -/

/-- Retire lane `k` onto the relief carrier (R122). -/
def State.retireLane (s : State) (r k : Nat) : State :=
  let s := s.reliefSelect r (0xA0 + k)
  let s := (s.setF (F.RT_PHY_STATUS_RELIEF_CARRYING r) 1).setF (F.RT_PHY_STATUS_RETIRED r) 1
  ((s.setF (F.RT_LANE_STATE r k) 2).setF (F.RT_LANE_STATE r 8) 0).raise (F.RT_PHY_EVENT_LANE_RETIRED r)

/-- Lane `k` has failed (R122): it is retired under policy 2 with the relief carrier free, else the route goes DOWN with cause 3. -/
def State.laneFailed (s : State) (r k : Nat) : State :=
  if (s.routeCfg r).relief = 2 ∧ s.reliefFree r then s.retireLane r k else s.routeDown r 3

/-- The relief carrier has failed (R122): it is retired, the route stays. -/
def State.dqxFailed (s : State) (r : Nat) : State := (s.setF (F.RT_LANE_STATE r 8) 2).raise (F.RT_PHY_EVENT_LANE_RETIRED r)

/-! ### Recalibration passes (R119) -/

/-- The pass ends (R119). -/
def State.recalEnd (s : State) (r : Nat) : State :=
  let x := s.route r
  let s := s.setRoute r { x with recal := none, overRuns := if x.overRuns = 1 then 2 else x.overRuns }
  (s.setF (F.RT_RECAL_LANE r) 0xF).setF (F.RT_RECAL_COUNT r) (s.getF (F.RT_RECAL_COUNT r) + 1)

/-- Begin lane `k`, or the next one that is not retired, in the next gap on the bus (R116); after lane 7 the pass ends. -/
def State.recalLane (s : State) (r k : Nat) : State :=
  match (List.range 8).find? fun l => k ≤ l && s.getF (F.RT_LANE_STATE r l) ≠ 2 with
  | none => s.recalEnd r
  | some l =>
    ((s.setF (F.RT_RECAL_LANE r) l).setRoute r { s.route r with recal := some { lane := l } }).reliefGo r

/-- A pass starts, unless one is running or the route carries nothing (R119). One that starts while the route drains is held at its first
lane. -/
def State.recalStart (s : State) (r : Nat) : State :=
  if s.routeUp r = false then s
  else
    let s := s.setF (F.RT_PHY_CTRL_RECAL_NOW r) 0
    if (s.route r).recal.isSome then s
    else (s.setRoute r { s.route r with passTemp := s.junction }).recalLane r 0

/-- A pass that a retrain held goes on where it stood (R119): DQX is joined to its lane again. Where training has found another relief
carrier or has retired the lane, the lane goes on by bursts, or the next one begins. -/
def State.recalResume (s : State) (r : Nat) : State :=
  match (s.route r).recal with
  | some c =>
    if s.getF (F.RT_LANE_STATE r c.lane) = 2 then s.recalLane r (c.lane + 1)
    else if c.phase = 0 then s.reliefGo r
    else
      let s := s.setF (F.RT_LANE_STATE r c.lane) 1
      if c.phase = 3 ∨ s.reliefServes r = false then s.setRoute r { s.route r with recal := some { c with phase := 3 } }
      else (s.reliefSelect r (0xA0 + c.lane)).setF (F.RT_PHY_STATUS_RELIEF_CARRYING r) (b2n (c.phase = 2))
  | none => s

/-- A write of 1 to RECAL_NOW (R119): it reads 1 until the pass starts. -/
def State.recalNow (s : State) (r : Nat) : State := (s.setF (F.RT_PHY_CTRL_RECAL_NOW r) 1).recalStart r

/-- RECAL_PERIOD_EXPIRY (R119): PERIOD seconds have passed since the last pass ended. -/
def execRecalPeriodExpiry (r : Nat) (s : State) : Host.Outcome State Fault Refusal := .next (if r < 32 then s.recalStart r else s)

/-- The junction temperature has moved far enough from where it stood at the start of a route's last pass (R119). -/
def State.recalTemp (s : State) : State :=
  (List.range 32).foldl (fun s r =>
    let step : Int := max 1 (s.getF (F.RT_RECAL_TEMP_STEP r))
    let moved := s.junction - (s.route r).passTemp
    if s.routeUp r ∧ (step ≤ moved ∨ step ≤ -moved) then s.recalStart r else s) s

/-! ### Training (R59, R60, R117, R118) -/

/-- Training of a route starts (step 1 of Table 5-3): VCCQ and the ROUTEn clock come on, its lanes are in use again (R123). A die in
FAULT stays there until it passes bring-up (R80), a RETIRED one until a re-image (R300). A route whose module is absent is not
trained. -/
def State.trainGo (s : State) (r : Nat) : State :=
  let x := s.route r
  if s.getF (F.RT_PHY_STATUS_MOD_PRESENT r) = 0 then
    let s := (s.setF (F.RT_PHY_STATUS_DOWN_CAUSE r) 2).setRoute r { x with reimage := none, before := none }
    (s.trainEnded r).reimageFailed r x
  else
    let s := (s.emit (.routePower r true)).setRoute r { x with train := 1, overRuns := 0, resetBad := [] }
    let s := (s.setF (F.RT_STATUS_STATE r) 1).setF (F.RT_PHY_STATUS_DOWN_CAUSE r) 0
    let s := ((s.setF (F.RT_PHY_STATUS_RELIEF_POS r) 0xF).setF (F.RT_PHY_STATUS_RELIEF_CARRYING r) 0).setF (F.RT_PHY_STATUS_RETIRED r) 0
    let s := s.setF (F.RT_PHY_STATUS_SAFE_TO_REMOVE r) 0
    (List.range 16).foldl (fun s d =>
      let k := dieKey r d
      if s.dieOn k = false then s.setF (F.RT_DIE_STATE r d) 0
      else if [8, 9].contains (s.dieSt k) then s else s.setF (F.RT_DIE_STATE r d) 7) s

/-- Step 3 begins: RESET to every chip enable with a populated die (R117). -/
def State.trainReset (s : State) (r : Nat) : State :=
  ((List.range 4).filter fun ce => (s.routeDies r).any fun k => k % 16 / 4 = ce).foldl (fun s ce => s.emit (.dieCmd r (4 * ce) [0xFF] [])) s

/-- What a die's parameter page states, in the order signature (1 ONFI, 2 JESD, 0 neither), blocks per LUN, pages per block, data and
spare bytes per page, planes: whether it fits the die's class (R60). -/
def State.pageFits (s : State) (k : Nat) (p : Bytes) : Bool :=
  let g := s.geo k
  g.blocks ≤ field p 1 4 && field p 5 2 = g.pages && 18432 ≤ field p 7 4 && g.planes ≤ field p 11 1

/-- A die has passed RESET: nothing is left in it, and its last temperature stands. -/
def Die.afterReset (d : Die) : Die :=
  { ptrs := d.ptrs, ledger := d.ledger, rebuilt := d.rebuilt, temp := d.temp, tempOut := d.tempOut, tempBad := d.tempBad }

/-- Step 3 (R59, R60): READ ID and the parameter page of every populated die that has passed RESET and is not RETIRED, at address 0x00 and,
where ONFI is absent there, at 0x40. Dies that do not answer as the route's protocol and their class ask go to FAULT with cause 2. Where
none answers with a signature PROTOCOL reads 0: no rule gives it a value then (DESIGN CHOICE, log 87). -/
def State.paramPages (s : State) (r : Nat) (data : List Bytes) : State :=
  let l := ((s.routeDies r).mapIdx fun i k => (k, data.getD i [])).filter fun e =>
    !(s.route r).resetBad.contains e.1 && !s.retired e.1
  let proto := ((l.map fun e => field e.2 0 1).find? fun v => v = 1 || v = 2).getD 0
  let s := s.setF (F.RT_STATUS_PROTOCOL r) (b2n (proto = 2))
  l.foldl (fun s e =>
    let k := e.1
    let s := (s.setDie k (s.die k).afterReset).setR (R.RT_DIE r (k % 16)) (BitVec.ofNat 32 7)
    let s := (s.emit (.dieCmd r (k % 16) [0x90] [])).emit (.dieCmd r (k % 16) [0xEC] [0x00])
    let s := if field e.2 0 1 = 1 then s else s.emit (.dieCmd r (k % 16) [0xEC] [0x40])
    if proto ≠ 0 ∧ field e.2 0 1 = proto ∧ s.pageFits k e.2 then s
    else (s.raise (F.RT_EVENT_PARAM_MISMATCH r)).dieFault k 2) s

/-- Step 4 (R117): SET FEATURES selects NV-LPDDR4 at the route's rate, 3600 MT/s at most. The feature address and its parameters are those
of the dies' standard, which the spec does not print: free values (log 88). -/
def State.selectRate (s : State) (r : Nat) : State :=
  let rate := min 3600 (s.routeCfg r).rate
  let v (i : Nat) : Byte := Config.interfaceFeature (s.getF (F.RT_STATUS_PROTOCOL r)) rate i
  (s.ceCmd r 0xEF [(v 0).toNat] [v 1, v 2, v 3, v 4]).setF (F.RT_PHY_STATUS_RATE r) rate

/-- Lanes as read training finds them: per chip enable the eyes of lanes 0 to 7 and DQX, and their read codes; the fifth item holds DQX's
read code per chip enable at the position of a lane that fails (step 7, R122). A lane starts anew with OFFSET and FAILS at 0: no rule says
what training does to them (DESIGN CHOICE, log 85). -/
def State.readTraining (s : State) (r : Nat) (data : List Bytes) : State :=
  let ces := s.goodCes r
  let least := (s.route r).minEye
  let s := s.reliefSelect r 0xAF
  let s := (s.setF (F.RT_PHY_STATUS_RELIEF_CARRYING r) 0).setF (F.RT_PHY_STATUS_RETIRED r) 0
  let eye (l : Nat) : Nat := ces.foldl (fun m c => min m (field (data.getD c []) l 1)) 255
  let s := (List.range 9).foldl (fun s l =>
    let s := ((s.setF (F.RT_LANE_STATE r l) (if l = 8 then 3 else 0)).setF (F.RT_LANE_OFFSET r l) 0).setF (F.RT_LANE_FAILS r l) 0
    let s := s.setF (F.RT_LANE_EYE r l) (eye l)
    ces.foldl (fun s c => s.setF (F.RT_DESKEW_READ r (9 * c + l)) (field (data.getD c []) (9 + l) 1)) s) s
  let bad := (List.range 8).filter fun l => decide (eye l < least)
  let s := if eye 8 < least then s.dqxFailed r else s
  bad.foldl (fun s l =>
    if s.routeSt r = 0 then s
    else
      let s := s.laneFailed r l
      if s.routeSt r = 0 then s
      else ces.foldl (fun s c => s.setF (F.RT_DESKEW_READ r (9 * c + 8)) (field (data.getD 4 []) c 1)) s) s

/-- The lanes in use carry data: not retired, and DQX where it stands in. -/
def State.lanesInUse (s : State) (r : Nat) : List Nat := (List.range 9).filter fun l => s.getF (F.RT_LANE_STATE r l) < 2

/-- Step 8: the write code of each lane in use, per chip enable. -/
def State.writeTraining (s : State) (r : Nat) (data : List Bytes) : State :=
  (s.goodCes r).foldl (fun s c => (s.lanesInUse r).foldl (fun s l =>
    s.setF (F.RT_DESKEW_WRITE r (9 * c + l)) (field (data.getD c []) l 1)) s) s

/-- The extended rate is refused (R118): the route stays at 3600 MT/s. -/
def State.xrateRefused (s : State) (r : Nat) : State :=
  ((s.setF (F.RT_PHY_STATUS_RATE r) (min 3600 (s.routeCfg r).rate)).setF (F.RT_PHY_STATUS_DFE_ON r) 0).raise (F.RT_PHY_EVENT_XRATE_REFUSED r)

/-- Step 9 (R118): the extended rate is written and read back, one byte a chip enable. -/
def State.extendedRate (s : State) (r : Nat) (data : List Bytes) : State :=
  let fa := s.getF (F.RT_XRATE_FA r)
  let v := s.getF (F.RT_XRATE_VALUE r)
  if fa = 0 then (s.xrateRefused r).trainTo r 10
  else
    let s := (s.ceCmd r 0xEF [fa] [BitVec.ofNat 8 v, 0, 0, 0]).ceCmd r 0xEE [fa] []
    if (s.goodCes r).all fun c => field (data.getD c []) 0 1 = v then
      let s := (s.setF (F.RT_PHY_STATUS_RATE r) (s.routeCfg r).rate).setF (F.RT_PHY_STATUS_DFE_ON r) 1
      ((List.range 9).foldl (fun s l => s.adaptDfe r l) s).trainTo r 16
    else (s.xrateRefused r).trainTo r 10

/-- The first temperature of a die of a route that has come UP is to be taken (R95): at once where it is the junction temperature. -/
def State.firstTemp (s : State) (k : Nat) : State :=
  if s.getF F.PWR_WG_CTRL_TEMP_FA = 0 then s.takeTemp k s.junctionReading else s.setDie k { s.die k with temp := none }

/-- Every die in service of a route is IDLE and has a temperature (R95). -/
def State.tempsIn (s : State) (r : Nat) : Bool :=
  (s.serviceDies r).all fun k => s.dieSt k = 1 && (s.die k).temp.isSome && (s.die k).op.isNone && (s.die k).want.isNone

/-- A route that finishes its training is UP (step 11): its dies are IDLE, and stale after a re-image (R301). A pass asked for meanwhile
starts. A retrain ends with the monitor cleared (R124); where an apply waits for the route's drain, the route stays DRAINING for it. -/
def State.trainUp (s : State) (r : Nat) : State :=
  let x := s.route r
  let s := (s.setR (R.RT_TRAIN_ERR r) 0).setF (F.RT_STATUS_RBN_FALLBACK r) 0
  if x.retrain then
    let s := (s.setRoute r { x with train := 0, retrain := false, overRuns := 0 }).setF (F.RT_STATUS_STATE r) (if x.drainImage then 3 else 2)
    s.guardUpdate.recalResume r
  else
    let s := (s.setRoute r { x with train := 12, overRuns := 0, passTemp := s.junction }).setF (F.RT_STATUS_STATE r) 2
    let s := (s.serviceDies r).foldl (fun s k =>
      let s := (s.setDieSt k 1).firstTemp k
      if x.reimage.isSome then s.setBit (R.FI_STALE 0) k true else s) s
    let s := s.guardUpdate
    if s.getF (F.RT_PHY_CTRL_RECAL_NOW r) = 1 then s.recalStart r else s

/-- Phase A for the position of a lane that verification retired (R120, R122): DQX takes the read code found there, one byte a chip enable,
and a write code that follows it. A code that would leave 0 to 127 is held to that range (DESIGN CHOICE, log 86). -/
def State.dqxTakes (s : State) (r k : Nat) (data : List Bytes) : State :=
  (s.goodCes r).foldl (fun s c =>
    let x := field (data.getD (1 + c) []) 0 1 % 128
    let w := clampInt 0 127 (s.getF (F.RT_DESKEW_WRITE r (9 * c + k)) + ((x : Int) - s.getF (F.RT_DESKEW_READ r (9 * c + k))))
    (s.setF (F.RT_DESKEW_READ r (9 * c + 8)) x).setF (F.RT_DESKEW_WRITE r (9 * c + 8)) w.toNat) s

/-- Step 10: every lane in use shows an eye wide enough (the first item, nine eyes), and the patterns were read right. At the full rate a
failure refuses that rate (R118), and steps 6 to 8 run again at 3600 MT/s. -/
def State.verify (s : State) (r : Nat) (ok : Bool) (data : List Bytes) : State :=
  let eyes := data.headD []
  let bad := (s.lanesInUse r).filter fun l => decide (field eyes l 1 < (s.route r).minEye)
  let s := (s.lanesInUse r).foldl (fun s l => s.setF (F.RT_LANE_EYE r l) (field eyes l 1)) s
  if 3600 < s.getF (F.RT_PHY_STATUS_RATE r) ∧ (ok = false ∨ bad ≠ []) then (s.xrateRefused r).trainTo r 26
  else if ok = false then s.routeDown r 4
  else
    let s := bad.foldl (fun s l =>
      if s.routeSt r = 0 then s
      else
        let s := s.laneFailed r l
        if s.routeSt r = 0 ∨ 8 ≤ l then s else s.dqxTakes r l data) s
    if s.routeSt r = 0 then s else s.trainUp r

/-! ### The ledger scan (R108, R109) -/

/-- A ledger entry is valid: magic, type and CRC (R98, R99). -/
def entryValid (e : Bytes) : Bool :=
  slice e 0 4 = [0x45, 0x4C, 0x44, 0x47] && inside 1 2 (field e 4 1) && field e 60 4 = crc32c (slice e 0 60)

/-- What a die answers to the scan's reads, one item a page or envelope: the die, the block and the page (two bytes each) and 255 for the
raw page, 0 to 3 for the word that decoding an envelope of it reaches. -/
def scanItem (data : List Bytes) (k b p e : Nat) : Option Bytes :=
  (data.find? fun x => field x 0 1 = k % 16 && field x 1 2 = b && field x 3 2 = p && field x 5 1 = e).map fun x => x.drop 6

/-- The raw page that a die answers with; one that no item gives reads as erased. -/
def scanRaw (data : List Bytes) (k b p : Nat) : Bytes :=
  match scanItem data k b p 255 with
  | some x => slice x 0 18432
  | none => List.replicate 18432 0xFF

/-- The valid entry of a ledger page: at least one of its envelopes decodes with success and carries it (R98). -/
def State.scanEntry (s : State) (data : List Bytes) (k b p : Nat) : Option Bytes :=
  let raw := scanRaw data k b p
  (List.range 4).findSome? fun e =>
    let a := mkAddr k b p e
    match alignAt (s.getR R.RC_ENV_X).toNat a raw (4608 * e) with
    | none => none
    | some q =>
      let x := slice raw q 4608
      let w := decodeWord a x ((scanItem data k b p e).getD [])
      let entry := slice w 64 64
      if !misdelivered (s.getR R.RC_ENV_X).toNat a (gatherPilots (leNat x)) && wordOk w && entryValid entry then some entry else none

/-- A page of a ledger block tests erased: its envelope 0 does (R108, R142). -/
def State.scanErased (s : State) (data : List Bytes) (k b p : Nat) : Bool :=
  envErased (s.getR R.RC_ENV_CTRL).toNat (slice (scanRaw data k b p) 0 4608)

/-- The binary search for the highest page not erased (R108), between a page that is not and one that is or is past the last; with the
pages it reads, `n` at most. -/
def lastPage (erased : Nat → Bool) : Nat → Nat → Nat → Nat × List Nat
  | 0, lo, _ => (lo, [])
  | n + 1, lo, hi =>
    if hi ≤ lo + 1 then (lo, [])
    else
      let m := (lo + hi) / 2
      let x := if erased m then lastPage erased n lo m else lastPage erased n m hi
      (x.1, m :: x.2)

/-- What the scan finds in a ledger block (R108): none for LOST, some none for EMPTY, else the entry and the next free page; with the pages
it reads. -/
def ledgerState (erased : Nat → Bool) (entry : Nat → Option Bytes) (pages : Nat) : Option (Option (Bytes × Nat)) × List Nat :=
  if erased 0 then (some none, [0])
  else
    let x := lastPage erased 13 0 pages
    match entry x.1 with
    | some e => (some (some (e, x.1 + 1)), 0 :: x.2)
    | none =>
      if x.1 = 0 then (none, 0 :: x.2)
      else (match entry (x.1 - 1) with | some e => some (some (e, x.1 + 1)) | none => none, 0 :: x.2 ++ [x.1 - 1])

/-- The generation of an entry. -/
def entryGen (e : Bytes) : Nat := field e 8 4

/-- The blocks an entry names. -/
def entryBlocks (e : Bytes) : List Nat := ((List.range 4).filter (bit (field e 5 1))).map fun i => field e (12 + 2 * i) 2

/-- A grey zero count (R109). -/
def State.greyCount (s : State) (n : Nat) : Bool := s.getF F.FI_REC_CTRL_GREY_LO < n && n < s.getF F.FI_REC_CTRL_GREY_HI

/-- The blocks a TRAIN finds are logged, the first 16 in ascending order (Table 4-3); a kind of 0 marks an empty entry. -/
def State.recLog (s : State) (found : List (Nat × Nat)) : State :=
  let old := (List.range 16).filterMap fun i =>
    if s.getF (F.FI_REC_LOG_KIND i) = 0 then none
    else
      let w := (s.getR (R.FI_REC_LOG i)).toNat
      some (blockKey (dieKey (bits w 20 5) (bits w 16 4)) (bits w 0 16), w)
  let new := found.map fun e =>
    (e.1, e.1 % 65536 + 2 ^ 16 * (e.1 / 65536 % 16) + 2 ^ 20 * (e.1 / 65536 / 16) + 2 ^ 25 * e.2)
  let all := (sortBy (fun e : Nat × Nat => e.1) (old ++ new)).take 16
  (List.range 16).foldl (fun s i => s.setR (R.FI_REC_LOG i) (BitVec.ofNat 32 ((all[i]?.map Prod.snd).getD 0))) s

/-- The zero bits of a raw page (R109). -/
def scanZeros (data : List Bytes) (k b p : Nat) : Nat :=
  match scanItem data k b p 255 with
  | some x => zeroBits (slice x 0 18432)
  | none => 0

/-- The grey blocks of die `k`: the first or the last page of one has a grey count (R109). -/
def State.greyBlocks (s : State) (k : Nat) (data : List Bytes) : List Nat :=
  (List.range ((s.geo k).blocks - 2)).filter fun b =>
    s.greyCount (scanZeros data k b 0) || s.greyCount (scanZeros data k b ((s.geo k).pages - 1))

/-- A place in the list of ranges is free: the walk that TRAIN waits for has ended (R278). -/
def State.roomForRange (s : State) : State := if 8 ≤ s.ph.ranges.length then s.rangeWalkEnd else s

/-- A lost ledger's block is erased: its range first (R100, R109). -/
def State.eraseLost (s : State) (k b : Nat) : State :=
  let s := s.roomForRange.eraseRange (s.logicalDie k) [b]
  (s.cmd k [mkAddr k b 0 0] [0x60, 0xD0] [mkAddr k b 0 0]).bump (R.RT_CNT_ERASE (k / 16))

/-- The ledger of die `k` is lost (R109): the grey-block test takes its place, its two blocks are erased, and a new one starts. Where the
write guard holds, the two erases wait for the die's next erase (R96). `log` says that TRAIN records what it finds. -/
def State.scanLost (s : State) (k : Nat) (data : List Bytes) (log : Bool) : State :=
  let g := s.geo k
  let grey := s.greyBlocks k data
  let s := (List.range (g.blocks - 2)).foldl (fun s b => s.scanReads k b (if g.pages ≤ 1 then [0] else [0, g.pages - 1])) s
  let s := s.addIncomplete (grey.map (blockKey k))
  let s := if s.guardHolds (k / 16) then s.setDie k { s.die k with ledger := { lost := true, due := true } }
    else
      let s := (s.eraseLost k (g.blocks - 1)).eraseLost k (g.blocks - 2)
      s.setDie k { s.die k with ledger := {} }
  if log then
    let s := s.satF F.FI_REC_COUNT_LOST
    let s := s.setF F.FI_REC_COUNT_GREY (min 4095 (s.getF F.FI_REC_COUNT_GREY + grey.length))
    (s.recLog (grey.map fun x => (blockKey k x, 2))).raise F.FI_REC_EVENT_RECOVERED
  else s

/-- The later of the two blocks' entries (R108): its block, the entry and the next free page; EMPTY loses. -/
def laterEntry (a b : Option (Bytes × Nat)) : Option (Nat × Bytes × Nat) :=
  match a, b with
  | some x, some y => if serialLater 32 (entryGen y.1) (entryGen x.1) then some (1, y) else some (0, x)
  | some x, none => some (0, x)
  | none, some y => some (1, y)
  | none, none => none

/-- The ledger of die `k` stands as the scan found it (R108): an open INTENT puts its blocks into the incomplete-erase set. -/
def State.scanFound (s : State) (k : Nat) (found : Option (Nat × Bytes × Nat)) (log : Bool) : State :=
  match found with
  | none => s.setDie k { s.die k with ledger := {} }
  | some (act, e, next) =>
    let s := s.setDie k { s.die k with ledger := { active := act, next := next, gen := entryGen e } }
    if field e 4 1 = 1 then
      let bs := (entryBlocks e).map (blockKey k)
      let s := s.addIncomplete bs
      if log then
        let s := s.satF F.FI_REC_COUNT_INCOMPLETE
        (s.recLog (bs.map fun x => (x, if bit (field e 6 1) 0 then 3 else 1))).raise F.FI_REC_EVENT_RECOVERED
      else s
    else s

/-- The scan of one die, over the answers of its pages (R108). -/
def State.scanDie (s : State) (k : Nat) (data : List Bytes) (log : Bool) : State :=
  let g := s.geo k
  let lost := (s.die k).ledger.lost
  let a := ledgerState (s.scanErased data k (g.blocks - 1)) (s.scanEntry data k (g.blocks - 1)) g.pages
  let b := ledgerState (s.scanErased data k (g.blocks - 2)) (s.scanEntry data k (g.blocks - 2)) g.pages
  let s := (s.scanReads k (g.blocks - 1) a.2).scanReads k (g.blocks - 2) b.2
  match a.1, b.1 with
  | some x, some y =>
    let apart : Bool := match x, y with | some x, some y => genApart (entryGen x.1) (entryGen y.1) | _, _ => false
    if lost ∨ apart then s.scanLost k data log else s.scanFound k (laterEntry x y) log
  | _, _ => s.scanLost k data log

/-- The scan of a route's dies in service (R108). -/
def State.scanRoute (s : State) (r : Nat) (data : List Bytes) (log : Bool) : State :=
  (s.serviceDies r).foldl (fun s k => s.scanDie k data log) s

/-! ### Re-erases in TRAIN (R110) -/

/-- Carry out what a bracket step of die `k` puts on the bus. -/
def State.driveStep (s : State) (k : Nat) : State :=
  (List.range 2).foldl (fun s _ => match (s.die k).want with | some a => s.busDo k a | none => s) s

/-- One step of a bracket from its start to its status byte. -/
def State.stepThrough (s : State) (k : Nat) (o : DieOp) (n st : Nat) : State :=
  let s := (s.roomForRange.startStep k o n).driveStep k
  match (s.die k).op with
  | some o => s.stepEnded k o st
  | none => s

/-- Run the bracket in die `k` to its end over the given status bytes; a step without one passes. -/
def State.runBracket : Nat → State → Nat → Bytes → State
  | 0, s, _, _ => s
  | n + 1, s, k, sts =>
    match (s.die k).op with
    | none => s
    | some o => match s.nextStep k o with
      | some m => State.runBracket n (s.stepThrough k o m (sts.headD 0xE0).toNat) k (sts.drop 1)
      | none => s

/-- Re-erase one block of the incomplete-erase set with a bracket carrying RECOVERY (R100, R110). -/
def State.recoverBlock (s : State) (key : Nat) (sts : Bytes) : State :=
  let k := key / 65536
  let b := key % 65536
  let s := s.roomForRange.eraseRange (s.logicalDie k) [b]
  let (id, s) := s.fresh
  let page := mkAddr k b 0 0
  let o : DieOp := { id := id, ord := id, cls := 3, origin := .recovery, pages := [page], recovery := true, join := false,
                     switch := s.isStandby [page] }
  let s := (s.setDie k { s.die k with op := some (s.opStarts o) }).setDieSt k 6
  State.runBracket 8 s k sts

/-- The re-erases of a route before TRAIN ends (R110): one item of status bytes a block; blocks on a guarded route wait (R111), and
an overflowing set is not re-erased. -/
def State.recoverRoute (s : State) (r : Nat) (data : List Bytes) : State :=
  if s.seq.overflow then s
  else
    let l := s.seq.incomplete.filter fun b => b / 65536 / 16 = r && s.dieSt (b / 65536) = 1
    if s.guardHolds r then { s with seq := { s.seq with fromTrain := l.foldl insertAsc s.seq.fromTrain } }
    else (List.range l.length).foldl (fun s i => s.recoverBlock (l.getD i 0) (data.getD i [])) s

/-- Every route that TRAIN trains has ended its ledger scan or is DOWN for good. -/
def State.allScanned (s : State) : Bool :=
  (List.range 32).all fun r => !s.routeOn r || s.seq.scanned.contains r || (s.route r).train = 13

/-- The scan of a re-imaged route has ended: its open blocks are re-erased in service (R111), and its descriptor completes (R239). -/
def State.reimageDone (s : State) (r id : Nat) : State :=
  let l := s.seq.incomplete.filter fun b => b / 65536 / 16 = r
  let s : State := { s with seq := { s.seq with fromTrain := l.foldl insertAsc s.seq.fromTrain } }
  (s.setRoute r { s.route r with train := 0, reimage := none, before := none }).finish id St.ok 0

/-- No die in service of a route has an operation, or a temperature read, under way. -/
def State.diesIdle (s : State) (r : Nat) : Bool :=
  (s.serviceDies r).all fun k => s.dieSt k = 1 && (s.die k).op.isNone && (s.die k).want.isNone

/-- TRAINING_STEP_DONE (R59, R60, R95, R108 to R110, R117, R118, R122, R124, R301): the running step of route `r` ends, `ok` unless it
failed, with what it found in `data`. The ledger scan ends after the dies' first temperatures. -/
def execTrainingStepDone (r : Nat) (ok : Bool) (data : List Bytes) (s : State) : Host.Outcome State Fault Refusal :=
  let x := s.route r
  let n := x.train
  if n = 0 ∨ !([3, 4, 5, 6, 11].contains s.modeNow) ∨ 32 ≤ r then .next s
  else if n = 12 then
    if s.tempsIn r = false then .next s
    else
      let s := s.scanRoute r data (s.modeNow = 3)
      .next (match x.reimage with | some id => s.reimageDone r id | none => s.trainTo r 13)
  else if n = 13 then
    if s.allScanned = false ∨ s.diesIdle r = false then .next s
    else .next (((s.recoverRoute r data).trainTo r 0).trainEnded r)
  else if n = 10 then .next (s.verify r ok data)
  else if ok = false then .next (s.routeDown r (if n = 1 then 5 else 4))
  else if n = 1 then .next ((s.setF (F.RT_PHY_STATUS_VCCQ_GOOD r) 1).trainTo r 2)
  else if n = 2 then .next ((s.trainTo r 3).trainReset r)
  else if n = 3 then
    let s := s.paramPages r data
    .next (if (s.goodDies r).isEmpty then s.routeDown r 4 else s.trainTo r 4)
  else if n = 4 then .next ((s.selectRate r).trainTo r 5)
  else if n = 7 ∨ n = 17 ∨ n = 27 then
    let s := s.readTraining r data
    .next (if s.routeSt r = 0 then s else s.trainTo r (n + 1))
  else if n = 8 ∨ n = 18 ∨ n = 28 then
    let s := s.writeTraining r data
    .next (s.trainTo r (if n = 8 ∧ 3600 < (s.routeCfg r).rate then 9 else 10))
  else if n = 9 then .next (s.extendedRate r data)
  else .next (s.trainTo r (n + 1))

/-- VCCQ_GOOD_TIMEOUT (R117): VCCQ is not good within 2 ms. -/
def execVccqGoodTimeout (r : Nat) (s : State) : Host.Outcome State Fault Refusal :=
  .next (if r < 32 ∧ (s.route r).train = 1 then s.routeDown r 5 else s)

/-- A route's training is cleared with the retirement of its lanes (R123). -/
def State.clearTraining (s : State) (r : Nat) : State :=
  let s := (List.range 9).foldl (fun s l => s.setR (R.RT_LANE r l) (regReset (R.RT_LANE r l))) s
  let s := (List.range 36).foldl (fun s i => s.setR (R.RT_DESKEW r i) 0) s
  ((s.setF (F.RT_PHY_STATUS_RELIEF_POS r) 0xF).setF (F.RT_PHY_STATUS_RELIEF_CARRYING r) 0).setF (F.RT_PHY_STATUS_RETIRED r) 0

/-- The image's values of a route are tried out by its re-image (R58): those before stay until it completes. -/
def State.tryImage (s : State) (r : Nat) : State :=
  let on := bit s.img.cfg.mask r
  let s := s.setRoute r { s.route r with before := some (s.routeCfg r, s.routeOn r) }
  { s with img := { s.img with eff := s.img.eff.set r (s.img.cfg.routes.getD r {}), effMask := setBits s.img.effMask r 1 (b2n on) } }

/-- Retirement of a route's dies ends (R300); a die in FAULT stays there until it passes bring-up (R80). -/
def State.unretire (s : State) (r : Nat) : State :=
  (List.range 16).foldl (fun s i =>
    let k := dieKey r i
    let s := s.setDie k { s.die k with retiring := false }
    if s.dieSt k = 9 then s.setR (R.RT_DIE r i) 1 else s) s

/-- ROUTE_REIMAGE (R58, R123, R239, R300, R301): a DOWN route loses its training and takes the image's values, its dies leave RETIRED, and
its training is due. A route that the image no longer populates is not trained: it takes the values at once. -/
def execRouteReimage (id : Nat) (s : State) : Host.Outcome State Fault Refusal :=
  match s.adminDesc id 0x62 with
  | none => .next s
  | some d =>
    let r := field d.bytes 4 1
    if s.routeSt r ≠ 0 then .next (s.finish id St.malformed 0)
    else
      let s := ((((s.setDesc { d with started := true }).clearTraining r).tryImage r).unretire r).dieMask r
      if s.routeOn r then .next (s.setRoute r { s.route r with reimage := some id })
      else .next ((s.setRoute r { s.route r with before := none }).finish id St.routeDown 0)

/-! ### Recalibration (R120 to R122) -/

/-- Phase A's end (R118, R120): DQX's codes follow the eye it found, from the read and write codes of lane `k` with its offset, and above
3600 MT/s its DFE tap adapts. A code that would leave 0 to 127 is held to that range (DESIGN CHOICE, log 86). -/
def State.phaseA (s : State) (r k : Nat) (shift : Int) : State :=
  let off := signed 8 (s.getF (F.RT_LANE_OFFSET r k))
  let s := if 3600 < s.getF (F.RT_PHY_STATUS_RATE r) then s.adaptDfe r 8 else s
  (List.range 4).foldl (fun s c =>
    let x := clampInt 0 127 (s.getF (F.RT_DESKEW_READ r (9 * c + 8)) + shift)
    let w := clampInt 0 127 (s.getF (F.RT_DESKEW_WRITE r (9 * c + k)) + off + (x - (s.getF (F.RT_DESKEW_READ r (9 * c + k)) + off)))
    (s.setF (F.RT_DESKEW_READ r (9 * c + 8)) x.toNat).setF (F.RT_DESKEW_WRITE r (9 * c + 8)) w.toNat) s

/-- A sweep of a lane found no eye wide enough: counted and raised. -/
def State.sweepFailed (s : State) (r l : Nat) : State := (s.satF (F.RT_LANE_FAILS r l)).raise (F.RT_PHY_EVENT_RECAL_FAIL r)

/-- The lane's sweep moves its offset, held to its range (DESIGN CHOICE, log 86); above 3600 MT/s its DFE tap adapts (R120). -/
def State.laneMoves (s : State) (r k : Nat) (shift : Int) : State :=
  let off := clampInt (-128) 127 (signed 8 (s.getF (F.RT_LANE_OFFSET r k)) + shift)
  let s := (s.setF (F.RT_LANE_OFFSET r k) (unsigned 8 off)).setF (F.RT_LANE_FAILS r k) 0
  if 3600 < s.getF (F.RT_PHY_STATUS_RATE r) then s.adaptDfe r k else s

/-- Phase D (R120): the lane carries again, the switch opens, and the next lane begins. -/
def State.phaseD (s : State) (r k : Nat) : State :=
  let s := (s.setF (F.RT_PHY_STATUS_RELIEF_CARRYING r) 0).reliefSelect r 0xAF
  (s.setF (F.RT_LANE_STATE r k) 0).recalLane r (k + 1)

/-- A lane failed in a live pass (R122); where the route goes on, so does the pass. -/
def State.liveFailed (s : State) (r k : Nat) : State :=
  let s := s.laneFailed r k
  if s.routeSt r = 0 then s else s.recalLane r (k + 1)

/-- Phase A has ended on lane `c.lane` (R120, R122): DQX carries from now on, or the lane stays unmeasured. The second failure in a row
retires DQX. -/
def State.phaseAEnd (s : State) (r eye : Nat) (shift : Int) (c : Recal) : State :=
  let s := s.setF (F.RT_LANE_EYE r 8) (min 255 eye)
  if c.minEye ≤ eye then
    let s := ((s.phaseA r c.lane shift).setF (F.RT_LANE_FAILS r 8) 0).setF (F.RT_PHY_STATUS_RELIEF_CARRYING r) 1
    s.setRoute r { s.route r with recal := some { c with phase := 2, minEye := s.minEye r } }
  else
    let s := s.sweepFailed r 8
    if 2 ≤ s.getF (F.RT_LANE_FAILS r 8) then
      (s.dqxFailed r).setRoute r { s.route r with recal := some { c with phase := 3, minEye := s.minEye r } }
    else s.phaseD r c.lane

/-- Phase C has ended on lane `c.lane` (R120, R122): its offset moves, or it has failed. -/
def State.phaseCEnd (s : State) (r eye : Nat) (shift : Int) (c : Recal) : State :=
  let s := s.setF (F.RT_LANE_EYE r c.lane) (min 255 eye)
  if c.minEye ≤ eye then (s.laneMoves r c.lane shift).phaseD r c.lane
  else
    let s := s.sweepFailed r c.lane
    if 2 ≤ s.getF (F.RT_LANE_FAILS r c.lane) then s.liveFailed r c.lane else s.phaseD r c.lane

/-- RECAL_PHASE_DONE (R116, R120, R122, R128): the sweep of phase A or C ends, and what follows from it is done in a gap on the bus. -/
def execRecalPhaseDone (r eye : Nat) (shift : Int) (disagree : Nat) (s : State) : Host.Outcome State Fault Refusal :=
  match (s.route r).recal with
  | none => .next s
  | some c =>
    if s.recalRuns r = false ∨ s.busGap r = false ∨ 32 ≤ r then .next s
    else if c.phase = 1 then .next ((s.trainErr r disagree).phaseAEnd r eye shift c)
    else if c.phase = 2 then .next ((s.trainErr r disagree).phaseCEnd r eye shift c)
    else .next s

/-- The die that a training burst goes to: an IDLE one (R121). -/
def State.burstDie (s : State) (r : Nat) : Option Nat :=
  (s.serviceDies r).find? fun k => s.dieSt k = 1 && (s.die k).op.isNone && (s.die k).want.isNone

/-- A burst is taken only when nothing of Table 3-3 is eligible on the bus and a die is IDLE (R121). -/
def State.burstFree (s : State) (r : Nat) : Bool := !s.busBusy r && (s.busPick r).isNone && (s.burstDie r).isSome

/-- A read training burst goes out (R121). -/
def State.burstOut (s : State) (r : Nat) : State :=
  match s.burstDie r with
  | some k => s.emit (.train r (k % 16 / 4) 7)
  | none => s

/-- FORCE_GAP_EXPIRY (R121): a sweep of R120 has seen no read data-out for FORCE_GAP; it takes a burst. -/
def execForceGapExpiry (r : Nat) (s : State) : Host.Outcome State Fault Refusal :=
  match (s.route r).recal with
  | some c =>
    .next (if (c.phase = 1 ∨ c.phase = 2) ∧ s.recalRuns r ∧ s.busGap r ∧ s.burstFree r then
      (s.burstOut r).setRoute r { s.route r with burst := true } else s)
  | none => .next s

/-- The last burst of a lane's sweep has ended (R121, R122). -/
def State.sweepEnd (s : State) (r eye : Nat) (shift : Int) (c : Recal) : State :=
  let s := (s.setF (F.RT_LANE_EYE r c.lane) (min 255 eye)).setF (F.RT_LANE_STATE r c.lane) 0
  if c.minEye ≤ eye then (s.laneMoves r c.lane shift).recalLane r (c.lane + 1)
  else
    let s := s.sweepFailed r c.lane
    if 2 ≤ s.getF (F.RT_LANE_FAILS r c.lane) then s.liveFailed r c.lane else s.recalLane r (c.lane + 1)

/-- TRAINING_BURST (R121, R122, R124): one burst ends. A forced one feeds its sweep; without a relief carrier the last burst of a lane ends
its sweep. -/
def execTrainingBurst (r errors : Nat) (done : Bool) (eye : Nat) (shift : Int) (s : State) : Host.Outcome State Fault Refusal :=
  if (s.route r).burst then .next ((s.trainErr r errors).setRoute r { s.route r with burst := false })
  else match (s.route r).recal with
  | none => .next s
  | some c =>
    if c.phase ≠ 3 ∨ s.recalRuns r = false ∨ s.burstFree r = false ∨ 32 ≤ r then .next s
    else
      let s := (s.burstOut r).trainErr r errors
      .next (if done then s.sweepEnd r eye shift c else s)

/-! ### The training error monitor (R124) -/

/-- The monitor's count is above the route's limit. -/
def State.overLimit (s : State) (r : Nat) : Bool := (s.routeCfg r).errLimit < s.getF (F.RT_TRAIN_ERR_LAST r)

/-- A second window above the limit: the route drains for its retrain, after a drain that is under way (R124). -/
def State.retrainDrain (s : State) (r : Nat) : State :=
  ((s.setRoute r { s.route r with drainRetrain := true, overRuns := 0 }).setF (F.RT_STATUS_STATE r) 3).guardUpdate

/-- TRAIN_ERR_WINDOW_END (R94, R119, R124): a window of 100 ms ends. -/
def execTrainErrWindowEnd (r : Nat) (s : State) : Host.Outcome State Fault Refusal :=
  let x := s.route r
  if s.routeUp r = false ∨ x.retrain ∨ x.drainRetrain ∨ 32 ≤ r then .next s
  else
    let was := s.overLimit r
    let n := s.getF (F.RT_TRAIN_ERR_COUNT r)
    let s := (s.setF (F.RT_TRAIN_ERR_LAST r) n).setF (F.RT_TRAIN_ERR_COUNT r) 0
    let above := s.overLimit r
    let s := if above ∧ was = false then s.raise F.PWR_WG_EVENT_TRAIN_ERR else s
    let s := s.guardUpdate
    match x.overRuns with
    | 0 => if above ∧ x.recal.isNone then .next ((s.setRoute r { x with overRuns := 1 }).recalStart r) else .next s
    | 2 => .next (s.setRoute r { x with overRuns := 3 })
    | 3 => .next (if above then s.retrainDrain r else s.setRoute r { x with overRuns := 0 })
    | _ => .next s

end Sys2Proof.Machine
end

