-- ==== Sys2Proof/Machine/Modes.lean ====
section
/-! DEFINITION. Modes, resets and sleeping, security states and debug sessions (R48, R346 to R368, R373, R378, R379). -/

namespace Sys2Proof.Machine

/-! ### Debug sessions and LOCKDOWN (R362 to R368) -/

/-- The registers answer: the FAB island is on (Table 16-5, R384). -/
def State.answers (s : State) : Bool := s.modeNow ≠ 0 && s.modeNow ≠ 8

/-- A HALT in force is left for the mode before it (Table 16-2). -/
def State.leaveHalt (s : State) : State :=
  if s.modeNow = 9 ∧ s.mode.target = none then
    ({ s with mode := { s.mode with target := some (s.getF F.MODE_PREV) } } : State).setF F.MODE_CHANGING 1
  else s

/-- The debug level becomes `l`; a HALT ends where it falls below INTRUSIVE (R350). -/
def State.setLevel (s : State) (l : Nat) : State :=
  let s := (s.setF F.SEC_STATUS_DEBUG l).setF F.DBG_CTRL_LEVEL l
  if l < 2 then s.leaveHalt else s

/-- The debug session ends (R365). -/
def State.endSession (s : State) : State :=
  if s.secState = 2 then
    (((s.setF F.SEC_STATUS_STATE 1).setF F.DBG_REMAIN_SECONDS 0).raise F.SEC_EVENT_SESSION_END).setLevel 0
  else s

/-- A nonce is drawn (R364, R392): eight words. -/
def State.drawNonce (s : State) : State :=
  { s with sec := { s.sec with nonceFrom := some s.freeCtr }, freeCtr := s.freeCtr + 8 }

/-- Word `i` of the nonce, zero once it has been zeroed (R364, R368). -/
def State.nonceWord (s : State) (i : Nat) : W32 := match s.sec.nonceFrom with | some k => Config.entropy (k + i) | none => 0

/-- The bytes of the nonce, the first in bits [31:24] of its word (R369). -/
def State.nonceBytes (s : State) : Bytes := (List.range 8).flatMap fun i => (leBytes 4 (s.nonceWord i).toNat).reverse

/-- A byte string of zeros as long as another. -/
def zeroed (b : Bytes) : Bytes := List.replicate b.length 0

/-- The words that LOCKDOWN zeroes with valid check symbols (R368 step 3): the sorting floor, the pigeonholes and the staging words. -/
def lockZeroes (w : Nat) : Bool := decide (w < 0x580000) || Config.sramHolds w = 2 || Config.sramHolds w = 5

/-- LOCKDOWN is latched with its cause, and what it keeps secret is zeroed (R368 steps 1 to 3). -/
def State.lockLatch (s : State) (cause : Nat) : State :=
  let ends : Bool := s.secState = 2
  let s := (s.setF F.SEC_STATUS_STATE 3).setF F.SEC_STATUS_LOCK_CAUSE cause
  let s := ((s.setF F.SEC_STATUS_DEBUG 0).setF F.DBG_CTRL_LEVEL 0).setF F.DBG_CTRL_AUTH 0
  let s := (s.setF F.DBG_REMAIN_SECONDS 0).setF F.SEC_STATUS_EXPERT_OPEN 0
  let s : State := { s with
    sec := { s.sec with nonceFrom := none }
    hb := { s.hb with seals := s.hb.seals.map fun e =>
      (e.1, { e.2 with salt := zeroed e.2.salt, hash := zeroed e.2.hash, live := if e.2.state = 0 then e.2.live else 3 }) }
    ph := { s.ph with lines := s.ph.lines.map fun e => (e.1, { e.2 with content := zeroed e.2.content, payload := zeroed e.2.payload }) }
    mi := { s.mi with data := s.mi.data.map fun e => if lockZeroes e.1 then (e.1, some 0) else e
                      err := s.mi.err.filter (fun e => !lockZeroes e.1), spareErr := s.mi.spareErr.filter (fun e => !lockZeroes e.1),
                      backs := s.mi.backs.filter (fun e => !lockZeroes e.1) } }
  s.raiseAll (if ends then [F.SEC_EVENT_SESSION_END, F.SEC_EVENT_LOCKDOWN] else [F.SEC_EVENT_LOCKDOWN])

/-- Enter LOCKDOWN (R368): 1 tamper, 2 key store, 3 requested. A LOCKDOWN in force keeps its cause; BRINGUP enters SAFE at its end. -/
def State.lockdown (s : State) (cause : Nat) : State :=
  if s.secState = 3 ∨ s.modeNow = 0 then s
  else if s.modeNow = 1 then s.lockLatch cause
  else (s.lockLatch cause).enterSafe 7

/-- A write to `ENS_SEC_CTRL` (R362, R368). -/
def State.secCtrl (s : State) (v : Nat) : State :=
  if s.answers = false then s
  else if v = 0x10CD0A11 then s.lockdown 3
  else if v = 0x5EA10F32 ∧ s.secState = 0 ∧ s.modeNow = 11 then
    (({ s with fuses := { s.fuses with sealBlown := true } } : State).setF F.SEC_STATUS_STATE 1).setLevel 0
  else s.refuse R.SEC_CTRL

/-- A write to `ENS_DBG_CTRL` (R363 to R365): EVENT_EN takes its value, END acts, then LEVEL and AUTH; what is ignored is logged
once for the access. -/
def State.dbgCtrl (s : State) (v : Nat) : State :=
  if s.answers = false then s
  else
    let lvl := bits v 2 2
    let s := s.setF F.DBG_CTRL_EVENT_EN (bits v 4 4)
    let s := if bit v 1 then s.endSession else s
    let openLevel := s.secState = 0 ∧ lvl ≠ 3
    let badLevel := if s.secState = 0 then lvl = 3 else lvl ≠ s.dbgLevel
    let s := if openLevel then s.setLevel lvl else s
    let badAuth := bit v 0 = true ∧ s.secState ≠ 1
    let s := if bit v 0 ∧ s.secState = 1 ∧ s.getF F.SEC_STATUS_AUTH_FAILS < 5 then s.setF F.DBG_CTRL_AUTH 1 else s
    if badLevel ∨ badAuth then s.refuse R.DBG_CTRL else s

/-- A debug token is accepted (R364, Table 16-6). -/
def State.tokenOk (s : State) (b : Bytes) : Bool :=
  let key := slice b 48 97
  slice b 0 4 = [0x45, 0x4E, 0x53, 0x44] && field b 4 1 = 1 && inside 1 2 (field b 5 1) && field b 6 2 = 0 &&
    inside 1 86400 (field b 8 4) && zeroRange b 145 7 && field b 12 4 = s.originId && slice b 16 32 = s.nonceBytes &&
    s.fuses.dbgKey ≠ [] && Config.sha384 key = s.fuses.dbgKey &&
    Config.ecdsaP384 key (Config.sha384 (slice b 0 152)) (slice b 152 48) (slice b 200 48)

/-- Verification of a token ends (R364): a session opens, or a failure is counted; the nonce is new either way. -/
def State.authEnd (s : State) (b : Bytes) (read : Bool) : State :=
  let good := read && s.tokenOk b
  let s := (s.setF F.DBG_CTRL_AUTH 0).drawNonce
  if good then
    let s := (s.setF F.SEC_STATUS_STATE 2).setF F.DBG_REMAIN_SECONDS (field b 8 4)
    (s.raise F.SEC_EVENT_AUTH_OK).setLevel (field b 5 1)
  else (s.setF F.SEC_STATUS_AUTH_FAILS (min 5 (s.getF F.SEC_STATUS_AUTH_FAILS + 1))).raise F.SEC_EVENT_AUTH_FAIL

/-- DBG_SESSION_EXPIRY (R365). -/
def execDbgSessionExpiry (s : State) : Host.Outcome State Fault Refusal := .next s.endSession

/-! ### OFF, BRINGUP and waking (R350, R356, R373, R378, R379) -/

/-- No presentation stands at any core (R379, R384). -/
def State.withdrawAll (s : State) : State :=
  (List.range 8).foldl (fun s c => if (s.core c).presented.isSome then s.emit (.withdraw c) else s) s

/-- What no reset takes: the waiting commands, what has left, the free-value counter, the fuses, and the pins as they stand. -/
def State.pinsOnly (s : State) : State :=
  { pending := s.pending, freeCtr := s.freeCtr, out := s.out, fuses := s.fuses,
    bnd := { vinUv := s.bnd.vinUv, supplyGood := s.bnd.supplyGood, resetN := s.bnd.resetN, railsGood := s.bnd.railsGood } }

/-- The LOCKDOWN latch with its cause, the authentication failures and the reset cause of `t`, which a reset keeps (R378). -/
def State.keepLatch (s t : State) : State :=
  let s := if t.secState = 3 then
      (s.setF F.SEC_STATUS_STATE 3).setF F.SEC_STATUS_LOCK_CAUSE (t.getF F.SEC_STATUS_LOCK_CAUSE) else s
  (s.setF F.SEC_STATUS_AUTH_FAILS (t.getF F.SEC_STATUS_AUTH_FAILS)).setF F.PWR_RESET_CAUSE (t.getF F.PWR_RESET_CAUSE)

/-- With VIN_ENS below 1.0 V nothing survives but the fuses, and what follows is a cold start (R378). -/
def State.supplyGone (s : State) : State :=
  if s.bnd.vinUv < 1000000 then (s.pinsOnly.setF F.MODE_MODE 0).islands 0 else s

/-- OFF is entered at once with a reset cause (R378, R379): 1 RESET_N or SUPPLY_GOOD, 2 a brown-out. -/
def State.goOff (s : State) (cause : Nat) : State :=
  if s.modeNow = 0 then s.supplyGone
  else
    let s := s.withdrawAll
    let s := (s.emit (.alive false)).emit (.dramKeep 0xFF)
    let t := s.setF F.PWR_RESET_CAUSE cause
    (((s.pinsOnly.keepLatch t).setF F.MODE_MODE 0).islands 0).supplyGone

/-- BRINGUP is entered from OFF (R350, R362, R392). -/
def State.powerUp (s : State) : State :=
  let t : State := s.pinsOnly.drawNonce.keepLatch s
  let t := if s.secState = 3 then t else t.setF F.SEC_STATUS_STATE (b2n s.fuses.sealBlown)
  if 1890000 < s.bnd.vinUv then
    ({ t with bnd := { t.bnd with vinHigh := true } } : State).raise F.PWR_BND_EVENT_VIN_HIGH
  else t

/-- POWER_ON (R373): OFF is left once the supply, the rails, SUPPLY_GOOD and RESET_N allow it. -/
def execPowerOn (s : State) : Host.Outcome State Fault Refusal :=
  .next (if s.modeNow = 0 ∧ 1710000 ≤ s.bnd.vinUv ∧ s.bnd.railsGood ∧ s.bnd.supplyGood ∧ s.bnd.resetN then s.powerUp else s)

/-- RESET_ASSERT (R373, R378): the inputs that hold a reset, as filtered: 0 RESET_N low, 1 SUPPLY_GOOD low, 2 RESET_N high,
3 SUPPLY_GOOD high, 4 the buck or AON regulator out of regulation, 5 both in regulation. -/
def execResetAssert (kind : Nat) (s : State) : Host.Outcome State Fault Refusal :=
  .next (match kind with
    | 0 => { s with bnd := { s.bnd with resetN := false } }.goOff 1
    | 1 => { s with bnd := { s.bnd with supplyGood := false } }.goOff 1
    | 2 => { s with bnd := { s.bnd with resetN := true } }
    | 3 => { s with bnd := { s.bnd with supplyGood := true } }
    | 4 => { s with bnd := { s.bnd with railsGood := false } }
    | 5 => { s with bnd := { s.bnd with railsGood := true } }
    | _ => s)

/-- WATCH is left for BRINGUP (R356): WOKE reads 1, and the cause is recorded. -/
def State.wake (s : State) (cause src : Nat) : State :=
  if s.modeNow ≠ 8 then s
  else
    let s := ((s.setF F.MODE_PREV 8).setF F.MODE_MODE 1).setF F.MODE_WOKE 1
    let s := (s.setF F.MODE_CHANGING 0).islands 1
    let s : State := { s with mode := { s.mode with target := none }, bnd := { s.bnd with wasBelow := true } }
    (s.drawNonce.setF F.PWR_WAKE_CAUSE cause).setF F.PWR_WAKE_SOURCE src

/-- An AON source becomes pending in WATCH (R356): a watched one wakes. -/
def State.watchFire (s : State) (src : Nat) : State :=
  if s.modeNow = 8 ∧ (src = 2 ∨ (32 ≤ src ∧ src < 64)) ∧ s.srcWatch src then (s.setBit (R.NTC_PEND 0) src true).wake 2 src else s

/-- Raise an event of the AON monitors: in WATCH the watcher stands in for the notice office. -/
def State.aonRaise (s : State) (f : Field) (src : Nat) : State :=
  if s.modeNow = 8 then
    let was := s.getF f
    let s := s.setF f 1
    if was = 0 ∧ ((eventEnable f.off f.lo).any fun e => s.getF e.1 = 1) then s.watchFire src else s
  else s.raise f

/-- WATCH_WAKE (R353, R356): cause 1 is the power manager's wake request, in HOLD or WATCH; cause 2 a watched AON source. -/
def execWatchWake (cause src : Nat) (s : State) : Host.Outcome State Fault Refusal :=
  .next (if cause = 1 then (if s.modeNow = 8 then s.wake 1 0 else s.holdWake 1 0)
    else if cause = 2 then s.watchFire src else s)

/-- WAKE_TIMER_EXPIRY (R353, R356). -/
def execWakeTimerExpiry (s : State) : Host.Outcome State Fault Refusal :=
  .next (if s.getR R.PWR_WAKE_TIMER = 0 then s else if s.modeNow = 8 then s.wake 3 0 else s.holdWake 3 0)

/-- A supply or temperature cause of SAFE (Table 16-2): none is taken in OFF or BRINGUP. -/
def State.safeCause (s : State) (cause : Nat) : State := if s.modeNow = 1 then s else s.enterSafe cause

/-- BRINGUP_DONE (R171, R199, R272, R351, R356): the self-tests end. In IMAGE after a wake, the kept image is fetched without a
request. -/
def execBringupDone (checker : Bool) (bad : List (Nat × Nat)) (cores lanes : List Nat) (s : State) :
    Host.Outcome State Fault Refusal :=
  if s.modeNow ≠ 1 then .next s
  else
    let s := s.selfTest checker bad
    let s := (cores.filter (· < 68)).foldl State.coreRetire s
    let s := (lanes.filter (· < 34)).foldl State.laneRetire s
    if s.secState = 3 then .next (s.enterSafe 7)
    else if s.getF F.MI_BIST_PASS = 0 ∨ 68 ≤ s.rc.retired.length ∨ 34 ≤ s.so.laneBad.length then .next (s.enterSafe 1)
    else
      let s := s.setMode 2
      if 1980000 < s.bnd.vinUv then .next (s.enterSafe 8)
      else if s.getF F.MODE_WOKE = 1 ∧ s.getF F.PWR_X_WATCH_STOP_IMAGE = 0 then
        .next (({ s with mode := { s.mode with watchImage := true } } : State).imgState 1 0 0)
      else .next s

/-! ### Requests (R348 to R350) -/

/-- QUIESCED (R352): shown in QUIESCE, and in HOLD, which keeps what QUIESCE left. -/
def State.quiesced (s : State) : Bool :=
  (s.modeNow = 6 || s.modeNow = 7) && s.descs.isEmpty && s.fi.letters.isEmpty && !([4, 5].contains (s.getF F.IMG_STATUS_STATE)) &&
    (List.range 512).all fun k => !s.dieBusy k && (s.die k).held.isNone

/-- SAFE may be left for IMAGE (Table 16-4, R375, Table 16-7). -/
def State.safeToImage (s : State) : Bool :=
  let c := s.getF F.MODE_SAFE_CAUSE
  s.secState ≠ 3 && ([2, 3, 4, 6, 9].contains c || (c = 8 && decide (1000 ≤ s.bnd.coolMs) && !s.bnd.vinLow && !s.bnd.vinHigh))

/-- ACK_LOSS is honoured (Table 16-7). -/
def State.ackHonoured (s : State) : Bool := s.secState = 0 || (s.secState = 2 && s.dbgLevel = 2)

/-- Why mode `m` is refused from the current one, 0 where it is allowed (Tables 16-2 and 16-3). -/
def State.modeRefusal (s : State) (m : Nat) (ack : Bool) : Nat :=
  let halt := if s.dbgLevel = 2 then 0 else 3
  let watch := if s.quiesced = false then 2 else if s.dbgLevel = 2 then 3 else 0
  let cur := s.modeNow
  if m = 10 then (if cur = 0 ∨ cur = 1 then 1 else 0)
  else match cur with
    | 2 => if m = 3 then (if s.getF F.IMG_STATUS_ACTIVE = 1 then 0 else 2) else 1
    | 4 => if m = 6 ∨ m = 11 then 0 else if m = 9 then halt else 1
    | 5 => if m = 6 ∨ m = 11 then 0 else if m = 9 then halt else 1
    | 6 => if m = 4 ∨ m = 11 then 0 else if m = 7 then (if s.quiesced then 0 else 2) else if m = 8 then watch
        else if m = 9 then halt else 1
    | 7 => if m = 6 then 0 else if m = 8 then watch else 1
    | 9 =>
      let p := s.getF F.MODE_PREV
      if m = p ∨ (m = 4 ∧ p = 5) then 0 else 1
    | 10 =>
      if m = 2 then (if s.safeToImage then 0 else 4)
      else if m = 11 then
        (if (s.getF F.MODE_SAFE_CAUSE = 3 ∨ s.getF F.MODE_SAFE_CAUSE = 4) ∧ ack then (if s.ackHonoured then 0 else 4) else 2)
      else 1
    | 11 => if m = 4 ∨ m = 6 then 0 else if m = 9 then halt else 1
    | _ => 1

/-- A mode code as it is judged: DEGRADED counts as SERVICE (R348). -/
def judgedMode (m : Nat) : Nat := if m = 5 then 4 else m

/-- A request names the current mode (R348): in DEGRADED, SERVICE does. -/
def State.currentMode (s : State) (m : Nat) : Bool := m = judgedMode s.modeNow

/-- A request has been judged with a result. -/
def State.modeResult (s : State) (code : Nat) : State := (s.setF F.MODE_REQ_RESULT code).fire 1

/-- A request is accepted (R348, R353, R358): SAFE is entered at once, every other mode when its change completes. -/
def State.modeAccept (s : State) (m : Nat) : State :=
  if m = 10 then (s.enterSafe 9).setF F.MODE_REQ_RESULT 0
  else if s.modeNow = 7 ∧ m = 6 then s.holdWake 6 0
  else ({ s with mode := { s.mode with target := some m } } : State).setF F.MODE_CHANGING 1

/-- Judge a request against Table 16-2. -/
def State.modeJudge (s : State) (m : Nat) (ack : Bool) : State :=
  let m := judgedMode m
  if s.currentMode m then s.modeResult 0
  else match s.modeRefusal m ack with
    | 0 => s.modeAccept m
    | code => s.modeResult code

/-- A request is held (R349, R57): an apply drains or copies, or MAINT is to be left while a SEAL_SET, a re-image or a drain runs. -/
def State.modeHeld (s : State) (m : Nat) : Bool :=
  [4, 5].contains (s.getF F.IMG_STATUS_STATE) ||
    (s.modeNow = 11 && !s.currentMode (judgedMode m) &&
      ((s.hb.commit.any fun c => c.newSeal.isSome) || (List.range 32).any fun r =>
        let x := s.route r
        x.reimage.isSome || x.drainDown || x.drainRetrain))

/-- A mode request (R348, R349), from a write to `ENS_MODE_REQ` or from the power manager; in WATCH only the latter arrives. -/
def State.modeRequest (s : State) (v : Nat) (pm : Bool) : State :=
  if s.modeNow = 0 ∨ (s.modeNow = 8 ∧ pm = false) then s
  else
    let s := if pm then s else s.setF ⟨R.MODE_REQ, 0, 5⟩ (v % 32)
    let s := s.setF F.MODE_REQ_SOURCE (b2n pm)
    if s.getF F.MODE_CHANGING = 1 ∨ s.getF F.MODE_REQ_PENDING = 1 then s.modeResult 5
    else if s.modeHeld (v % 16) then
      ({ s with mode := { s.mode with held := some { mode := v % 16, ackLoss := bit v 4, pm := pm } } } : State).setF F.MODE_REQ_PENDING 1
    else s.modeJudge (v % 16) (bit v 4)

/-! ### Entering a mode (R110, R148, R336, R350 to R359) -/

/-- The seal table with the lockout timers alone (R336, R355). -/
def State.lockouts (s : State) : Tbl Seal :=
  (s.hb.seals.map fun e => (e.1, ({ lockout := e.2.lockout } : Seal))).filter fun e => e.2 ≠ ({} : Seal)

/-- TRAIN starts: its counts are new, and each class's cell model is checked (R148); what the home blocks restore is at its
defaults until then (R336). -/
def State.trainStart (s : State) : State :=
  let s : State := { s with
    seq := { s.seq with scanned := [], fromTrain := [], overflow := false }
    hb := { s.hb with imgGen := none, genA := none, genB := none, seals := s.lockouts }
    fi := { s.fi with poison := [] }
    rc := { s.rc with records := [], drift := [] } }
  let s := (s.bumpAll.setR R.FI_REC_COUNT 0).setF F.FI_POISON_COUNT 0
  let s := (List.range 16).foldl (fun s i => (s.setR (R.FI_REC_LOG i) 0).setR (R.FI_STALE i) 0) s
  let s := (List.range 16).foldl (fun s i => s.setR (R.FI_COA_A i) 0) s
  let s := s.setR R.HB_STATUS 0
  let used := (List.range 8).filter fun c => (List.range 512).any fun k => s.dieOn k && s.dieClass k = c
  let bad := used.filter fun c => !s.modelOk c
  let s : State := { s with rc := { s.rc with badModel := bad } }
  if bad = [] then s else s.raise F.RC_EVENT_CELL_MAP_BAD

/-- SAFE is left for IMAGE (R359). -/
def State.leaveForImage (s : State) : State :=
  let s := (List.range 32).foldl (fun s r => (s.routeDown r 6).setF (F.RT_PHY_STATUS_DOWN_CAUSE r) 6) s
  let s : State := { s with
    q := { s.q with sqs := [], cqs := [] }
    descs := []
    seq := { s.seq with waiting := [], ahead := [], jobs := [], rows := [] }
    so := { s.so with scans := [], requests := [] }
    ph := { s.ph with lines := (s.ph.lines.filter fun e => e.2.locked).map fun e => (e.1, ({ locked := true } : Line)), ranges := [], streams := [] }
    fi := { s.fi with ctxs := [], findings := [], mapWrites := [], rebuilds := [], cursors := [], erasedSeen := [], roundOn := false }
    hb := { s.hb with commit := none } }
  let s := (List.range 32).foldl (fun s i => (s.setR (R.Q_STOPPED i) 0).setR (R.Q_CQ_FAULT i) 0) s
  let s := (s.floorShow (List.range 32)).scanShow
  ((s.phCount).setF F.Q_ADMIN_CFG_EN 0).setF F.IMG_STATUS_ACTIVE 0

/-- SAFE is left for MAINT with ACK_LOSS (Table 16-4): cause 4 takes outcome NEW; cause 3 re-erases the kept blocks as R110 states. -/
def State.leaveForMaint (s : State) (cause : Nat) : State :=
  if cause = 4 then
    let s : State := { s with
      hb := { s.hb with seals := [] }
      fi := { s.fi with poison := [] }
      rc := { s.rc with records := [], drift := [] } }
    let s := ((s.bumpAll.setF F.HB_STATUS_OUTCOME 2).setF F.FI_POISON_COUNT 0).setF F.HB_STATUS_BAD_RECORDS 0
    let s := (List.range 16).foldl (fun s i => (s.setR (R.FI_STALE i) 0).setR (R.FI_COA_A i) 0) s
    (List.range 512).foldl (fun s k => if s.retired k then (s.setDie k { s.die k with retiring := false }).setDieSt k 1 else s) s
  else { s with seq := { s.seq with fromTrain := s.seq.incomplete } }

/-- The bits of a register that a write stores (Table 0-2: RW, RWX, RWL). -/
def storedMask (off : Nat) : Nat := match regRow? off with | some r => r.rw ||| r.rwx ||| r.rwl | none => 0

/-- `v` with the bits of a mask taken from `x`. -/
def maskIn (m v x : Nat) : Nat := (v &&& (0xFFFFFFFF ^^^ m)) ||| (x &&& m)

/-- A register as a read shows it (R391): the fields a held write has written read as written. -/
def State.shown (s : State) (off : Nat) : W32 :=
  s.sec.heldWrites.foldl (fun w e => if e.1 = off then BitVec.ofNat 32 (maskIn (storedMask off) w.toNat e.2.toNat) else w) (s.getR off)

/-- What the AON island keeps through WATCH (R355): each register with the mask of the bits kept. -/
def watchKept : List (Nat × Nat) :=
  let all (l : List Nat) : List (Nat × Nat) := l.map fun off => (off, 0xFFFFFFFF)
  all [R.IMG_ADDR_LO, R.IMG_ADDR_HI, R.IMG_LEN, R.ORIGIN, R.PWR_CTRL, R.PWR_DRAM_KEEP, R.PWR_WAKE, R.PWR_WAKE_TIMER, R.PWR_X,
      R.PWR_RESET, R.SEC_STATUS, R.RC_CELL_BITS] ++
    all ((List.range 12).map R.IMG_DIGEST) ++ all ((List.range 8).map R.RC_CELL) ++ [(R.HB_CFG, 0x1FFFFF)] ++
    all ((List.range 32).map R.RT_VCMD) ++ all ((List.range 32).map R.RT_XRATE) ++
    ((List.range 32).map fun r => (R.RT_PHY_STATUS r, 0x4000)) ++ (List.range 256).map fun x => ((srcField x 0 1).off, 0x20)

/-- WATCH is entered (R354, R355): the AON island keeps what R355 lists, everything else returns to its reset value or is lost. -/
def State.watchEnter (s : State) : State :=
  let s := (s.endSession.setLevel 0).withdrawAll
  let s := s.emit (.dramKeep (s.getF F.PWR_DRAM_KEEP_SEGMENTS))
  let kept := watchKept.foldl (fun (l : Tbl W32) e =>
    tset regReset l e.1 (BitVec.ofNat 32 (maskIn e.2 (regReset e.1).toNat (s.shown e.1).toNat))) []
  let pend := (List.range 256).filter fun x => s.srcPend x && s.srcWatch x
  let t : State := { s.pinsOnly with
    regs := kept
    bnd := { s.bnd with timeRefOk := false, stalled := [0, 0], held := [] }
    mode := { keptDigest := Config.sha384 s.img.active }
    sec := { nonceFrom := s.sec.nonceFrom }
    pm := { sec := s.pm.sec, ns := s.pm.ns, frac := s.pm.frac, own := if s.pm.own = 0 then 0 else 1 }
    hb := { seals := s.lockouts } }
  let t := (t.setF F.SEC_STATUS_EXPERT_OPEN 0).setF F.SEC_STATUS_DEBUG 0
  let t := pend.foldl (fun t x => t.setBit (R.NTC_PEND 0) x true) t
  ((t.setF F.MODE_MODE 8).setF F.MODE_PREV s.modeNow).islands 8

/-- Every write that has been issued is acknowledged, as HOLD and WATCH ask (R382). -/
def State.writesSettled (s : State) : Bool :=
  s.bnd.held.isEmpty && !s.fi.writing && s.fi.mapWrites.isEmpty && s.q.owns.isEmpty && s.q.cqs.all fun e => e.2.all fun c => c.inflight.isNone

/-- QUIESCE is entered: it remembers the mode before it, which a wake from HOLD goes on to with WAKE_TO set (R353). -/
def State.quiesceEnter (s : State) : State :=
  let from_ := s.modeNow
  let s := s.setMode 6
  if from_ = 7 then
    if s.getF F.PWR_CTRL_WAKE_TO = 1 then
      ({ s with mode := { s.mode with target := some (judgedMode s.mode.beforeQuiesce) } } : State).setF F.MODE_CHANGING 1
    else s
  else if from_ = 9 then s
  else { s with mode := { s.mode with beforeQuiesce := from_ } }

/-- The accepted change to mode `m` completes (R348, R350). -/
def State.modeEnter (s : State) (m : Nat) : State :=
  let cause := s.getF F.MODE_SAFE_CAUSE
  let from_ := s.modeNow
  let s := s.setF F.MODE_REQ_RESULT 0
  match m with
  | 2 => s.leaveForImage.setMode 2
  | 3 => (s.setMode 3).trainStart
  | 4 => s.setMode (if s.degCause = 0 then 4 else 5)
  | 6 => s.quiesceEnter
  | 7 => (s.setMode 7).emit (.dramKeep (s.getF F.PWR_DRAM_KEEP_SEGMENTS))
  | 8 => s.watchEnter
  | 11 => (if from_ = 10 then s.leaveForMaint cause else s).setMode 11
  | _ => s.setMode m

/-- TRAIN ends (R48, R110, R336, R350, R356): the first failing check enters SAFE, else the controller serves. -/
def State.trainOver (s : State) : State :=
  let gen := s.img.cfg.gen
  let skip := s.getF F.IMG_POLICY_X_SKIP_ROLLBACK = 1 ∧ s.secState = 0
  let old : Bool := match s.hb.imgGen with
    | some g => !skip && (serialLater 32 g gen || genApart g gen)
    | none => false
  if old then
    let s := if s.hb.imgGen.any fun g => genApart g gen then s.genStale 1 else s
    (s.imgState 7 0x0D 0xFF).enterSafe 2
  else if s.seq.overflow then (s.raise F.FI_REC_EVENT_OVERFLOW).enterSafe 3
  else if 3 ≤ s.getF F.HB_STATUS_OUTCOME then s.enterSafe 4
  else
    let s := s.setF F.FI_STATUS_DEG_CAUSE s.degCause
    let toQuiesce := s.mode.watchImage && s.getF F.PWR_CTRL_WAKE_TO = 0
    let s : State := { s with mode := { s.mode with watchImage := false, beforeQuiesce := 4 } }
    s.setMode (if toQuiesce then 6 else if s.degCause = 0 then 4 else 5)

/-- TRAIN_DONE (R350): every populated route is trained or DOWN, its re-erases are done or guarded, and the home blocks are chosen. -/
def execTrainDone (s : State) : Host.Outcome State Fault Refusal :=
  let done := (List.range 32).all fun r => (s.route r).train = 0 && (!s.routeOn r || s.seq.scanned.contains r)
  .next (if s.modeNow = 3 ∧ s.mode.target = none ∧ done ∧ s.getF F.HB_STATUS_OUTCOME ≠ 0 then s.trainOver else s)

end Sys2Proof.Machine
end

