-- ==== Sys2Proof/Machine/Notice.lean ====
section
/-! DEFINITION. The notice office: presentation, accept, end of notice, moderation, sleeping cores (R246 to R262). -/

namespace Sys2Proof.Machine

/-- The level of a core's stack: none for an empty one (R251). -/
def NtcCore.level (k : NtcCore) : Option Nat := k.stack.head?.map Prod.snd

/-- A source is presentable to core `c` (R249, R251, R260): pending and on no stack, unmasked, released, delivered to an awake `c`, above
the stack's level, and not held by the freeze. -/
def State.presentable (s : State) (c src : Nat) : Bool :=
  let k := s.core c
  s.srcPend src && !s.onStack src && !s.getBit (R.NTC_MASK 0) src && (s.srcGroup src = 0 || s.ntc.released.contains src) &&
    s.delivery src = c && !s.sleeps c &&
    (match k.level with | none => true | some l => decide (l < s.srcLevel src)) &&
    (s.srcFast src || !k.frozen)

/-- The pick of arbitration (R252): the highest level, among equals the lowest source. -/
def State.pick (s : State) (c : Nat) : Option Nat :=
  ((List.range 256).filter (s.presentable c)).foldl (fun best x => match best with
    | none => some x
    | some b => if s.srcLevel b < s.srcLevel x then some x else some b) none

/-- The vector of a source (R253). -/
def State.vector (s : State) (src : Nat) : Nat :=
  if s.srcFast src then s.getF F.NTF_VBASE_LO_ADDR * 64 + s.getF F.NTF_VBASE_HI_ADDR * 2 ^ 32
  else s.getF F.NTC_VBASE_LO_ADDR * 2 ^ 14 + s.getF F.NTC_VBASE_HI_ADDR * 2 ^ 32 + src * 64

/-- Present a source to a core (R252, R254). -/
def State.presentTo (s : State) (c src : Nat) : State :=
  (s.setCore c { s.core c with presented := some src, fast := s.srcFast src }).emit
    (.present c (s.vector src) (s.srcFast src))

/-- Arbitration of core `c` in one FAB cycle (R252, R255, R258): an idle core's held sources are released; then present, replace or
withdraw. A fast source that wins replaces every other presentation, a fast one too (log 104). Nothing is presented during a pop. -/
def State.arbitrate (s : State) (c : Nat) : State :=
  let s := s.releaseIdle c
  let k := s.core c
  if k.popping then s
  else match k.presented, s.pick c with
    | none, some x => s.presentTo c x
    | none, none => s
    | some p, best =>
      if s.presentable c p = false then (s.setCore c { k with presented := none }).emit (.withdraw c)
      else match best with
        | some x => if s.srcLevel p < s.srcLevel x ∨ (s.srcFast x ∧ x ≠ p) then s.presentTo c x else s
        | none => s

/-- Record a stack fault of core `c` (R257): the stack stays, the core freezes, source 0 fires towards it. -/
def State.stackFault (s : State) (c cause named : Nat) : State :=
  let top := ((s.core c).stack.head?.map Prod.fst).getD 0
  let s := s.setF (F.NTF_FAULT_CAUSE c) cause
  let s := s.setF (F.NTF_FAULT_NAMED c) named
  let s := s.setF (F.NTF_FAULT_TOP c) top
  let s := s.setCore c { s.core c with frozen := true }
  let s : State := { s with ntc := { s.ntc with zeroTarget := c } }
  s.fire 0

/-- End of notice `v` written to the bank of a class on core `c` (R256, R257): the top entry ends and the pop starts, or
the stack faults; with STACK_CHECK_OFF the top ends whatever the write names and its bank (R262). MBZ bits refuse the write. -/
def State.endNotice (s : State) (c off v : Nat) (fast : Bool) : State :=
  if v / 256 ≠ 0 then s.refuse off
  else
    let k := s.core c
    match k.stack with
    | [] => s.stackFault c 2 v
    | (top, lvl) :: rest =>
      if (decide (lvl = 16) ≠ fast ∨ top ≠ v) ∧ s.getF F.NTC_X_STACK_CHECK_OFF = 0 then s.stackFault c 1 v
      else (s.setBit (R.NTC_ACTIVE 0) top false).setCore c { k with stack := rest, popping := true }

/-- Reset core `c`'s stack (R257). -/
def State.stackReset (s : State) (c : Nat) : State :=
  let k := s.core c
  let s := k.stack.foldl (fun s e => s.setBit (R.NTC_ACTIVE 0) e.1 false) s
  (s.setR (R.NTF_FAULT c) 0).setCore c { k with stack := [], frozen := false, popping := false }

/-- SOURCE_FIRE (R249): a notice source fires. -/
def execSourceFire (src : Nat) (s : State) : Host.Outcome State Fault Refusal := .next (s.fire src)

/-- A write to the letterbox (R248): source v[7:0] fires; a source below 64 or set high bits refuse the write. -/
def State.letterbox (s : State) (v : Nat) : State :=
  if v / 256 ≠ 0 ∨ v < 64 then s.refuse R.LETTERBOX else s.fire v

/-- NOTICE_ARBITRATION (R252, R255): one arbitration of core `c`. -/
def execNoticeArbitration (c : Nat) (s : State) : Host.Outcome State Fault Refusal :=
  .next (if c < 8 then s.arbitrate c else s)

/-- NOTICE_ACCEPT (R254): the core accepts what stands presented: pushed, active, no longer pending. -/
def execNoticeAccept (c : Nat) (s : State) : Host.Outcome State Fault Refusal :=
  let k := s.core c
  match k.presented with
  | none => .next s
  | some src =>
    let s := s.setCore c { k with presented := none, stack := (src, if k.fast then 16 else s.srcLevel src) :: k.stack }
    let s := (s.setBit (R.NTC_ACTIVE 0) src true).setBit (R.NTC_PEND 0) src false
    .next { s with ntc := { s.ntc with released := s.ntc.released.filter (· ≠ src),
                                       redirected := s.ntc.redirected.filter (· ≠ src),
                                       stranded := s.ntc.stranded.filter (· ≠ src) } }

/-- NOTICE_POP_END (R256 step 3): the pop ends and the highest presentable source is presented at once. The new top is read: a parity error
in the stack's storage is a stack fault, in which no write names a source, so that NAMED is a free value (R257, log 103). -/
def execNoticePopEnd (c : Nat) (s : State) (parity : Bool := false) : Host.Outcome State Fault Refusal :=
  if (s.core c).popping then
    let s := s.setCore c { s.core c with popping := false }
    if parity then
      let (v, s) := s.draw
      .next ((s.stackFault c 3 (v.toNat % 256)).arbitrate c)
    else .next (s.arbitrate c)
  else .next s

/-- A write to `ENS_NTC_STACK_RESET` (R257). -/
def State.stackResets (s : State) (v : Nat) : State :=
  (List.range 8).foldl (fun s c => if bit v c then s.stackReset c else s) s

/-- MOD_TIMER_EXPIRY (R258): a group's hold limit has passed since its first held fire. -/
def execModTimerExpiry (g : Nat) (s : State) : Host.Outcome State Fault Refusal :=
  .next (if g ∈ s.ntc.timing then s.releaseGroup g else s)

/-- CORE_IDLE_CHANGE (R258, R260): core `c`'s idle signal, as crossed, becomes `idle`. A rise releases the held sources delivered to the
core, strands redirected ones, and wakes the targets of watched ones that now sleep; a fall ends redirections away from it. -/
def execCoreIdleChange (c : Nat) (idle : Bool) (s : State) : Host.Outcome State Fault Refusal :=
  if 8 ≤ c then .next s
  else
    let s := s.setCore c { s.core c with idle := idle }
    if idle then
      .next ((List.range 256).foldl (fun s x => if s.srcTarget x = c then s.watchWake x else s) (s.releaseIdle c).strand)
    else
      .next { s with ntc := { s.ntc with redirected := s.ntc.redirected.filter fun x => s.srcTarget x ≠ c } }

/-- REDIRECT_TIMEOUT (R260): the redirect timeout of pending source `src` has run while its target sleeps. -/
def execRedirectTimeout (src : Nat) (s : State) : Host.Outcome State Fault Refusal :=
  if s.srcPend src = false ∨ s.sleeps (s.srcTarget src) = false ∨ 256 ≤ src then .next s
  else if s.srcWatch src then .next (s.watchWake src)
  else if s.getF F.NTC_X_REDIRECT_OFF = 1 then .next s
  else
    let s : State := if src ∈ s.ntc.redirected then s
      else { s with ntc := { s.ntc with redirected := s.ntc.redirected ++ [src] } }
    .next s.strand

end Sys2Proof.Machine
end

