-- ==== Sys2Proof/Machine/Access.lean ====
section
/-! DEFINITION. What a register read shows, what a register write does, writes held at a stopped clock, the debug window, and DIAG
REG_SNAPSHOT (R9 to R12, R240, R354, R358, R366, R367, R387 to R391). -/

namespace Sys2Proof.Machine

/-! ### Reads (R9, R390, R391) -/

/-- `x` placed at bit `lo` of `w` bits. -/
def place (x lo w : Nat) : Nat := x % 2 ^ w * 2 ^ lo

/-- `ENS_NTC_CORE[c]` (Table 11-4). -/
def State.coreView (s : State) (c : Nat) : Nat :=
  let k := s.core c
  let top := k.stack.headD (0, 0)
  place k.stack.length 0 5 + place top.1 5 8 + place top.2 13 5 + place (b2n k.frozen) 18 1 + place (b2n k.idle) 19 1 +
    place (b2n (s.sleeps c)) 20 1 + place (b2n k.presented.isSome) 21 1 + place (k.presented.getD 0) 22 8

/-- `ENS_NTF_SRC[c]` (Table 11-4): the fast source presented to core `c`, or active on it. -/
def State.fastView (s : State) (c : Nat) : Nat :=
  let k := s.core c
  match (if k.fast then k.presented else none), k.stack with
  | some x, _ => 256 + x
  | none, (x, lvl) :: _ => if lvl = 16 then 256 + x else 0
  | none, [] => 0

/-- `ENS_Q_VIEW_A`, `_B` and `_C` of an SQ (Table 9-4). -/
def SQ.view (q : SQ) : Nat × Nat × Nat :=
  (place q.head 0 16 + place q.tail 16 16,
    place q.order.length 0 17 + place q.cq 17 10 + place (if q.deleting then 3 else if q.stopped then 2 else 1) 27 3,
    place q.quota 0 9 + place q.k 9 4)

/-- `ENS_Q_VIEW_A`, `_B` and `_C` of a CQ with `bound` SQs. -/
def CQ.view (c : CQ) (bound : Nat) : Nat × Nat × Nat :=
  (place c.head 0 16 + place c.tail 16 16, place c.unreleased 0 17 + place bound 17 10 + place (if c.fault then 4 else 1) 27 3,
    place c.k 9 4 + place c.notice 13 8 + place (b2n c.phase) 21 1)

/-- The queue that `ENS_Q_SEL` selects, all zero where it is absent. -/
def State.queueView (s : State) : Nat × Nat × Nat :=
  let n := s.getF F.Q_SEL_QUEUE
  if s.getF F.Q_SEL_KIND = 0 then (match s.sq n with | some q => q.view | none => (0, 0, 0))
  else match s.cq n with | some c => c.view (s.boundSqs n).length | none => (0, 0, 0)

/-- `ENS_MI_PH_VIEW` of the selected set. -/
def State.setView (s : State) : Nat :=
  let st := s.getF F.MI_PH_SEL_SET
  if 384 ≤ st then 0
  else (List.range 16).foldl (fun v w =>
    let l := s.line st w
    let readable := l.valid && !l.waiting && !s.ph.ranges.any fun r => r.covers l.addr
    v + (if l.locked then 2 ^ w else 0) + if readable then 2 ^ (16 + w) else 0) 0

/-- The record and drift key that `ENS_RC_CAL_SEL` selects, none for a die that is not populated. -/
def State.calSel (s : State) : Option Nat :=
  let k := dieKey (s.getF F.RC_CAL_SEL_ROUTE) (s.getF F.RC_CAL_SEL_DIE)
  if s.dieOn k then some (recKey k (s.getF F.RC_CAL_SEL_GROUP)) else none

/-- The key slots that are fused, and which dies of a route are in FAULT, as masks. -/
def maskOf (n : Nat) (p : Nat → Bool) : Nat := (List.range n).foldl (fun m i => m + if p i then 2 ^ i else 0) 0

/-- The registers that show other state than a stored word, by offset: `w` is the stored word (Tables 2-4, 9-4, 11-4, 12-5, 13-8,
14-7, 15-6, 16-8, 17-9, 3-6). -/
def State.viewWord (s : State) (off w : Nat) : Nat :=
  if off = R.MODE then setBits w 13 1 (b2n s.quiesced)
  else if off = R.ORIGIN then (if s.fuses.origin ≠ 0 then s.fuses.origin else w)
  else if off = R.IMG_KEYS then setBits (setBits w 0 4 (maskOf 4 s.slotFused)) 4 4 s.fuses.revoked
  else if 0x2040 ≤ off ∧ off < 0x2060 then s.coreView ((off - 0x2040) / 4)
  else if 0x3020 ≤ off ∧ off < 0x3040 then s.fastView ((off - 0x3020) / 4)
  else if off = R.PM_NOW_NS then s.postmark
  else if off = R.Q_STATUS then place (ioNums s.q.sqs).length 0 11 + place (ioNums s.q.cqs).length 11 11
  else if off = R.Q_PR then place s.entriesHeld 0 13 + place s.quotaSum 13 13
  else if off = R.Q_VIEW_A then s.queueView.1
  else if off = R.Q_VIEW_B then s.queueView.2.1
  else if off = R.Q_VIEW_C then s.queueView.2.2
  else if off = R.MI_PH_VIEW then s.setView
  else if off = R.FI_POISON_VIEW_LO then s.fi.poison.getD (s.getF F.FI_POISON_SEL_INDEX) 0
  else if off = R.FI_POISON_VIEW_HI then
    (match s.fi.poison[s.getF F.FI_POISON_SEL_INDEX]? with | some a => 65536 + a / 2 ^ 32 % 65536 | none => 0)
  else if 0x90C0 ≤ off ∧ off < 0x9100 then (match s.calSel with | some x => field (s.record x) (off - 0x90C0) 4 | none => 0)
  else if 0x9100 ≤ off ∧ off < 0x9110 then
    (match s.calSel with
      | some x => leNat ((List.range 4).map fun i => BitVec.ofInt 8 ((s.drift x).getD (off - 0x9100 + i) 0))
      | none => 0)
  else if off = R.SEAL_CFG then 64 + place ((List.range 64).countP fun k => (s.seal k).state ≠ 0) 7 7
  else if off = R.SEAL_VIEW then
    (let x := s.seal (s.getF F.SEAL_SEL_INDEX)
     place x.state 0 2 + place x.live 2 2 + place x.fails 4 8 + place x.lockout 12 17)
  else if off = R.SEAL_FIRST_LO then (s.seal (s.getF F.SEAL_SEL_INDEX)).first
  else if off = R.SEAL_FIRST_HI then (s.seal (s.getF F.SEAL_SEL_INDEX)).first / 2 ^ 32 % 65536
  else if off = R.SEAL_LAST_LO then (s.seal (s.getF F.SEAL_SEL_INDEX)).last
  else if off = R.SEAL_LAST_HI then (s.seal (s.getF F.SEAL_SEL_INDEX)).last / 2 ^ 32 % 65536
  else if 0xB120 ≤ off ∧ off < 0xB130 then
    (List.range 16).foldl (fun v k => v + place (s.seal (16 * ((off - 0xB120) / 4) + k)).live (2 * k) 2) 0
  else if 0xC220 ≤ off ∧ off < 0xC230 then setBits w 10 10 (s.fuses.fresh.getD ((off - 0xC220) / 4) 0)
  else if off = R.SEC_STATUS then setBits w 10 1 (b2n (s.fuses.dbgKey ≠ []))
  else if 0xD020 ≤ off ∧ off < 0xD040 then (s.nonceWord ((off - 0xD020) / 4)).toNat
  else if 0x20000 ≤ off ∧ off < 0x40000 ∧ off % 4096 = 4 then
    setBits w 16 16 (maskOf 16 fun d => s.dieSt (dieKey ((off - 0x20000) / 4096) d) = 8)
  else w

/-- What a read of a register shows, without the effect of the read (R390): reserved offsets read zero (R388). -/
def State.readReg (s : State) (off : Nat) : W32 :=
  if (regRow? off).isNone then 0 else BitVec.ofNat 32 (s.viewWord off (s.shown off).toNat)

/-! ### The debug window (R366, R367) -/

/-- The window works in this mode (R367). -/
def State.windowMode (s : State) : Bool := [2, 3, 4, 5, 6, 9, 10, 11].contains s.modeNow

/-- Table 16-7 shows word `w`: a word that no bank of Table 12-1 holds is shown like the queue store's. -/
def State.windowSees (s : State) (w : Nat) : Bool :=
  let lvl := s.dbgLevel
  if lvl = 0 ∨ (s.secState ≠ 0 ∧ s.secState ≠ 2) then false
  else if 0x600000 ≤ w then true
  else if 0x580000 ≤ w then Config.sramHolds w ≠ 4
  else if s.secState = 0 then true
  else if lvl = 1 then false
  else if w < 0x400000 then true
  else
    let l := s.line ((w - 0x400000) / 4096) (w % 4096 / 256)
    !(l.payload ≠ [] && s.hb.seals.any fun e => e.2.state ≠ 0 && e.2.live = 3 && e.2.first ≤ l.addr && l.addr ≤ e.2.last)

/-- A number that stands for what the spec does not lay out (log 10). -/
def State.freeWord (s : State) (w : Nat) : Nat × State :=
  (Config.sramWord w s.freeCtr % 2 ^ 128, { s with freeCtr := s.freeCtr + 1 })

/-- The 16 data bytes stored in a word, as a number: a pigeonhole line's; what the window wrote and nothing has used since; zero where
nothing was written since the self-test (R272); else a free value, as of a word that no bank holds (logs 10, 14). -/
def State.wordData (s : State) (w : Nat) : Nat × State :=
  if 0x400000 ≤ w ∧ w < 0x580000 then
    (field (s.line ((w - 0x400000) / 4096) (w % 4096 / 256)).payload (16 * (w % 256)) 16, s)
  else if 0x600000 ≤ w ∨ (0x580000 ≤ w ∧ (Config.sramHolds w - 1 < 5 ∨ (tagLine w).isSome)) then s.freeWord w
  else match tget (fun _ => none) s.mi.data w with
    | some v => (v, s)
    | none => if w < 0x400000 ∧ s.mi.floorUsed then s.freeWord w else (0, s)

/-- What the window shows of the word at its address, in a mode it works in (R366, R367). -/
def State.windowRead (s : State) : Nat × State :=
  let w := s.getF F.DBG_WIN_ADDR_WORD
  if s.windowSees w = false then (0, s)
  else if 0x600000 ≤ w then s.freeWord w
  else
    let (v, s) := s.wordData w
    match s.readWord w with
    | (true, rest, s) => (v ^^^ rest, s)
    | (false, _, s) => s.freeWord w

/-- Put the fetched word into the four data registers and answer the read. -/
def State.windowData (s : State) (v : Nat) : State :=
  let s := (List.range 4).foldl (fun s i => s.setR (R.DBG_WIN_DATA i) (BitVec.ofNat 32 (v / 2 ^ (32 * i)))) s
  s.emit (.regData (R.DBG_WIN_DATA 0) (BitVec.ofNat 32 v))

/-- DBG_WIN_DATA0_READ (R366, R367, R390). -/
def execDbgWinData0Read (s : State) : Host.Outcome State Fault Refusal :=
  if s.answers = false then .next s
  else if s.windowMode = false then .next ((s.logErr 4 (R.DBG_WIN_DATA 0) false).windowData 0)
  else .next (s.windowRead.2.windowData s.windowRead.1)

/-- The window may write (Table 16-7). -/
def State.windowWrites (s : State) : Bool := s.windowMode && s.dbgLevel = 2 && (s.secState = 0 || s.secState = 2)

/-- Write a whole word with new check symbols (R367); one that no bank holds changes nothing (DESIGN CHOICE, log 14). -/
def State.putWord (s : State) (w v : Nat) : State :=
  if 0x600000 ≤ w then s
  else
    let s := s.wordsRewritten w 1
    let st := (w - 0x400000) / 4096
    let way := w % 4096 / 256
    if 0x400000 ≤ w ∧ w < 0x580000 then
      let l := s.line st way
      let pay := l.payload ++ List.replicate (4096 - l.payload.length) 0
      s.setLine st way { l with payload := pay.mapIdx fun j b =>
        if j / 16 = w % 256 then BitVec.ofNat 8 (v / 2 ^ (8 * (j % 16))) else b }
    else { s with mi := { s.mi with data := tset (fun _ => none) s.mi.data w (some v) } }

/-- The staged word: the first three data registers with `v` above them. -/
def State.staged (s : State) (v : Nat) : Nat :=
  (s.getR (R.DBG_WIN_DATA 0)).toNat + (s.getR (R.DBG_WIN_DATA 1)).toNat * 2 ^ 32 + (s.getR (R.DBG_WIN_DATA 2)).toNat * 2 ^ 64 +
    v % 2 ^ 32 * 2 ^ 96

/-- A write to `ENS_DBG_WIN_DATA[i]`: ignored and logged where the window may not write (R366, R367). -/
def State.windowWrite (s : State) (i : Nat) (v : W32) : State :=
  if s.windowWrites = false then s.refuse (R.DBG_WIN_DATA i)
  else
    let s' := s.setR (R.DBG_WIN_DATA i) v
    if i = 3 then s'.putWord (s.getF F.DBG_WIN_ADDR_WORD) (s.staged v.toNat) else s'

/-- DBG_WIN_DATA3_WRITE (R367). -/
def execDbgWinData3Write (v : W32) (s : State) : Host.Outcome State Fault Refusal :=
  .next (if s.answers then s.windowWrite 3 v else s)

/-! ### Writes (R9, R25, R358, R391) -/

/-- A write to `ENS_NTC_PEND[w]` (R249, R250, R258, R260): a bit that firmware sets is held like any other pending source of its group. -/
def State.pendWrite (s : State) (w v : Nat) : State :=
  let srcs := (List.range 32).map (32 * w + ·)
  let rose := srcs.filter fun x => bit v (x % 32) && !s.srcPend x
  let fell := srcs.filter fun x => !bit v (x % 32)
  let s := s.setR (R.NTC_PEND w) (BitVec.ofNat 32 v)
  let s : State := { s with ntc := { s.ntc with
    released := s.ntc.released.filter fun x => !fell.contains x
    redirected := s.ntc.redirected.filter fun x => !fell.contains x
    stranded := s.ntc.stranded.filter fun x => !fell.contains x } }
  rose.foldl (fun s x => if s.srcWatch x then (s.watchWake x).holdWake 2 x else s) s

/-- A write to `ENS_NTC_SLEEP` (R260). -/
def State.sleepWrite (s : State) (v : Nat) : State :=
  let s := s.setR R.NTC_SLEEP (BitVec.ofNat 32 (v % 256))
  let s : State := { s with ntc := { s.ntc with redirected := s.ntc.redirected.filter fun x => s.sleeps (s.srcTarget x) } }
  (List.range 256).foldl State.watchWake s.strand

/-- A write to `ENS_EXPERT_KEY` (R12, Table 16-7). -/
def State.expertKey (s : State) (v : Nat) : State := s.setF F.SEC_STATUS_EXPERT_OPEN (b2n (v = 0x5A17 && s.secState ≠ 3))

/-- A write to the admin base registers: ignored and logged while EN is 1 (R225). -/
def State.adminBaseWrite (s : State) (off : Nat) (v : W32) : State :=
  if s.getF F.Q_ADMIN_CFG_EN = 1 then s.refuse off
  else s.setR off (BitVec.ofNat 32 (maskIn (storedMask off) (s.getR off).toNat v.toNat))

/-- A write to `ENS_RT_PHY_CTRL` (R119, R126). -/
def State.phyCtrl (s : State) (r v : Nat) : State :=
  let s := s.setF ⟨R.RT_PHY_CTRL r, 2, 6⟩ (bits v 2 6)
  let s := if bit v 1 then s.recalNow r else s
  if bit v 0 then s.downReq r else s

/-- A write by the access codes alone (Table 0-2). -/
def State.plainWrite (s : State) (row : RegRow) (off : Nat) (v : W32) : State :=
  let w := maskIn (row.rw ||| row.rwx ||| row.rwl) (s.getR off).toNat v.toNat
  s.setR off (BitVec.ofNat 32 ((w &&& (0xFFFFFFFF ^^^ (v.toNat &&& row.w1c))) ||| (v.toNat &&& row.w1s)))

/-- A write to the register at `off` takes effect. -/
def State.applyWrite (s : State) (row : RegRow) (off : Nat) (v : W32) : State :=
  let x := v.toNat
  if off = R.MODE_REQ then s.modeRequest x false
  else if off = R.EXPERT_KEY then s.expertKey x
  else if off = R.IMG_CTRL then s.imgCtrlWrite x
  else if off = R.NTC_SLEEP then s.sleepWrite x
  else if off = R.NTC_STACK_RESET then s.stackResets x
  else if 0x2020 ≤ off ∧ off < 0x2040 then s.endNotice ((off - 0x2020) / 4) off x false
  else if 0x2080 ≤ off ∧ off < 0x20A0 then s.pendWrite ((off - 0x2080) / 4) x
  else if off = 0x2400 then s.plainWrite row off (v ||| 0x18#32)
  else if 0x3040 ≤ off ∧ off < 0x3060 then s.endNotice ((off - 0x3040) / 4) off x true
  else if off = R.LETTERBOX then s.letterbox x
  else if off = R.PM_CTRL then s.pmCtrlWrite x
  else if 0x6020 ≤ off ∧ off < 0x6030 then s.adminBaseWrite off v
  else if off = R.Q_ADMIN_CFG then s.adminCfgWrite x
  else if off = R.FI_DL_CFG then s.dlCfgWrite x
  else if off = R.FI_DL_HEAD then s.dlHeadWrite x
  else if off = R.FI_SPARE then s.spareWrite false x
  else if off = R.FI_SPARE_RANGE then s.spareWrite true x
  else if off = R.PWR_X then let s := s.plainWrite row off v; s.islands s.modeNow
  else if off = R.PWR_WG_X then (s.plainWrite row off v).guardUpdate
  else if off = R.SEC_CTRL then s.secCtrl x
  else if off = R.DBG_CTRL then s.dbgCtrl x
  else if 0xD044 ≤ off ∧ off < 0xD054 then s.windowWrite ((off - 0xD044) / 4) v
  else if 0x20000 ≤ off ∧ off < 0x40000 ∧ off % 4096 = 0x400 then s.phyCtrl ((off - 0x20000) / 4096) x
  else s.plainWrite row off v

/-- The receiving clock of the register at `off` is stopped (R391, Table 18-1): in HOLD, without a time reference, or on a route
that is DOWN. The window and the doorbells have rules of their own. -/
def State.clockStopped (s : State) (off : Nat) : Bool :=
  let hold := s.modeNow = 7
  let route := decide (0x20000 ≤ off ∧ off < 0x40000)
  (hold && (decide (0x6000 ≤ off ∧ off < 0x9000) || (decide (0x9000 ≤ off ∧ off < 0x9E00) && s.getF F.PWR_X_HOLD_DEC_ON = 0) ||
      decide (0x9E00 ≤ off ∧ off < 0xC000) || decide (0xC100 ≤ off ∧ off < 0xC110) || off = R.DBG_WIN_ADDR || route)) ||
    (!s.bnd.timeRefOk && (decide (0x5000 ≤ off ∧ off ≤ 0x5028) || off = R.PM_X || off = R.PM_HOLD_X)) ||
    (route && decide (0x400 ≤ off % 4096) && s.routeSt ((off - 0x20000) / 4096) = 0)

/-- A doorbell's offset. -/
def isDoor (off : Nat) : Bool := decide (0x10000 ≤ off ∧ off < 0x12000) && off % 0x1000 % 4 = 0

/-- A doorbell write whose head slot's OWN bit is not at hand: a free value (R206). -/
def State.doorWrite (s : State) (off : Nat) (v : W32) : State :=
  if off < 0x11000 then
    let (w, s) := s.draw
    s.sqDoorWrite ((off - 0x10000) / 4) v (bit w.toNat 0)
  else s.cqDoorWrite ((off - 0x11000) / 4) v

/-- A held write still waits: a doorbell in HOLD or a seam, a register whose clock is stopped (R54, R391). -/
def State.heldStill (s : State) (off : Nat) : Bool :=
  if isDoor off then s.modeNow = 7 || s.getF F.IMG_STATUS_STATE = 5 else s.clockStopped off

/-- Held writes whose clock runs again take effect, in order (R353, R391). -/
def State.releaseHeld (s : State) : State :=
  s.sec.heldWrites.foldl (fun s e =>
    if s.heldStill e.1 then { s with sec := { s.sec with heldWrites := s.sec.heldWrites ++ [e] } }
    else if isDoor e.1 then s.doorWrite e.1 e.2
    else match regRow? e.1 with | some row => s.applyWrite row e.1 e.2 | none => s)
    { s with sec := { s.sec with heldWrites := [] } }

/-- SAFE honours a write (R358); in LOCKDOWN a LOAD or APPLY reaches the loader, which rejects it (R45). -/
def State.safeHonours (s : State) (row : RegRow) (off v : Nat) : Bool :=
  off = R.MODE_REQ || row.w1c ≠ 0 || decide (0x2000 ≤ off ∧ off < 0x5000) || decide (0x6020 ≤ off ∧ off ≤ 0x6030) ||
    off = 0x10000 || off = 0x11000 || decide (0xD000 ≤ off ∧ off ≤ 0xD050) ||
    (off = R.IMG_CTRL && s.secState = 3 && (v % 8 = 1 || v % 8 = 2))

/-- The bits of a register that a write may not change now (Table 0-2: RWX, RWL). -/
def State.lockedMask (s : State) (row : RegRow) : Nat :=
  (if s.expertOpen then 0 else row.rwx) ||| (if s.modeNow = 1 ∨ s.modeNow = 2 then 0 else row.rwl)

/-- Take a write whose locked bits carry the current value: held at a stopped clock, else in effect. DOWN_REQ of a route that is DOWN
is judged at once (R126). -/
def State.takeWrite (s : State) (row : RegRow) (off : Nat) (v : W32) : State :=
  if s.clockStopped off then
    let phy := decide (0x20000 ≤ off ∧ off < 0x40000) && off % 4096 = 0x400
    let s : State := { s with sec := { s.sec with heldWrites := s.sec.heldWrites ++ [(off, if phy then v &&& ~~~1#32 else v)] } }
    if phy && bit v.toNat 0 then s.downReq ((off - 0x20000) / 4096) else s
  else (s.applyWrite row off v).releaseHeld

/-- A whole, aligned fabric write of `v` to offset `off` (R9, R358, R388, R389, R391). -/
def State.writeReg (s : State) (off : Nat) (v : W32) : State :=
  if s.answers = false then s
  else match regRow? off with
    | none => s.logErr 2 off true
    | some row =>
      if isDoor off then s.doorWrite off v
      else
        let cur := (s.shown off).toNat
        let m := s.lockedMask row
        let locked := decide ((v.toNat ^^^ cur) &&& m ≠ 0)
        if s.modeNow = 10 ∧ s.safeHonours row off v.toNat = false then s.logErr (if locked then 3 else 4) off true
        else
          let s := if locked then s.logErr 3 off true else s
          s.takeWrite row off (BitVec.ofNat 32 (maskIn m v.toNat cur))

/-! ### DIAG REG_SNAPSHOT (R240) -/

/-- The value a fabric read of an offset would return now (R240): that of the window's first register is what it would fetch. -/
def State.snapshot (s : State) (off : Nat) : W32 :=
  if off = R.DBG_WIN_DATA 0 then BitVec.ofNat 32 (if s.windowMode then s.windowRead.1 else 0) else s.readReg off

/-- DIAG_REG_SNAPSHOT (R240): `list` is the offset list as read. -/
def execDiagRegSnapshot (id : Nat) (list : Bytes) (s : State) (corr : Nat := 0) : Host.Outcome State Fault Refusal :=
  match s.diag id 1 with
  | none => .next s
  | some d =>
    let n := field d.bytes 16 4
    let offs := (List.range n).map fun i => field list (4 * i) 4
    let s := s.dramReads corr
    if offs.any fun o => o % 4 ≠ 0 || decide (2 ^ 20 ≤ o) then .next (s.finish id St.malformed 0)
    else .next ((s.fab (field d.bytes 20 8) (offs.flatMap fun o => leBytes 4 (s.snapshot o).toNat)).finish id St.ok n)

end Sys2Proof.Machine
end

