-- ==== Sys2Proof/Machine/Boundary.lean ====
section
/-! DEFINITION. Supply, junction sensors, clocks, aging, the DRAM ports, module presence and the heartbeat (R125, R372 to R384). -/

namespace Sys2Proof.Machine

/-! ### Supply (R94, R373) -/

/-- The write guard's supply level: below 1.71 V, until 1.73 V (R94). -/
def State.vinLowLevel (s : State) (uv : Nat) : State :=
  let low := decide (uv < 1710000) || (s.bnd.vinLow && decide (uv < 1730000))
  let fell := low && !s.bnd.vinLow
  let s : State := { s with bnd := { s.bnd with vinLow := low } }
  (if fell then s.raise F.PWR_WG_EVENT_VIN_LOW else s).guardUpdate

/-- VIN_HIGH: above 1.89 V, until 20 mV below it (R373). -/
def State.vinHighLevel (s : State) (uv : Nat) : State :=
  let high := decide (1890000 < uv) || (s.bnd.vinHigh && decide (1870000 < uv))
  let rose := high && !s.bnd.vinHigh
  let s : State := { s with bnd := { s.bnd with vinHigh := high } }
  if rose then s.aonRaise F.PWR_BND_EVENT_VIN_HIGH 2 else s

/-- VIN_LEVEL_CHANGE (R94, R373, R378): the filtered supply stands at `uv` µV. -/
def execVinLevelChange (uv : Nat) (s : State) : Host.Outcome State Fault Refusal :=
  let s : State := { s with bnd := { s.bnd with vinUv := uv } }
  if s.modeNow = 0 then .next s.supplyGone
  else if uv < 1620000 then .next (s.goOff 2)
  else
    let s := (s.vinLowLevel uv).vinHighLevel uv
    .next (if 1980000 < uv then ((s.aonRaise F.PWR_BND_EVENT_VIN_HIGH 2).safeCause 8).releaseHeld else s)

/-! ### Temperature (R375) -/

/-- A sensor reading is a fault (R372). -/
def sensorFault (t : Int) : Bool := decide (t < -55 ∨ 175 < t)

/-- The highest reading among the sensors not in fault. -/
def junctionOf (l : List Int) : Option Int :=
  (l.filter fun t => !sensorFault t).foldl (fun m t => match m with | none => some t | some x => some (max x t)) none

/-- TEMP_CFG.HIGH, held to its range. -/
def State.tempHigh (s : State) : Int := clampNat 100 150 (s.getF F.PWR_TEMP_CFG_HIGH)

/-- BND_X.TEMP_CRIT, held to its range. -/
def State.tempCrit (s : State) : Int := clampNat 150 170 (s.getF F.PWR_BND_X_TEMP_CRIT)

/-- A junction temperature `t` acts (R119, R375): TEMP_HIGH after a sample below HIGH, TEMP_CRIT and SAFE at the tenth sample in a
row at the critical level. -/
def State.junctionActs (s : State) (t : Int) : State :=
  let high := s.tempHigh
  let rose := decide (high ≤ t) && s.bnd.wasBelow
  let run := if s.tempCrit ≤ t then s.bnd.critRun + 1 else 0
  let s : State := { s with bnd := { s.bnd with wasBelow := decide (t < high), critRun := run,
                                                coolMs := if t < high - 5 then s.bnd.coolMs + 1 else 0 } }
  let s := if rose then s.aonRaise F.PWR_BND_EVENT_TEMP_HIGH 2 else s
  let s := if 10 ≤ run then (s.aonRaise F.PWR_BND_EVENT_TEMP_CRIT 2).safeCause 8 else s
  s.recalTemp

/-- JUNCTION_SAMPLE (R372, R375, R385): with every sensor in fault, the register's reading is a free value. The supply voltage is
shown with it. -/
def execJunctionSample (readings : List Int) (s : State) : Host.Outcome State Fault Refusal :=
  if s.modeNow = 0 then .next s
  else
    let mask := (List.range 8).foldl (fun m i => m + (if sensorFault (readings.getD i 0) then 2 ^ i else 0)) 0
    let first := s.getF F.PWR_TEMP_FAULT_MASK = 0 ∧ mask ≠ 0
    let s := (s.setF F.PWR_TEMP_FAULT_MASK mask).setF F.PWR_VIN_MV (min 4095 (roundDiv s.bnd.vinUv 1000).toNat)
    let s := if first then s.aonRaise F.PWR_BND_EVENT_SENSOR_FAULT 2 else s
    match junctionOf (readings.take 8) with
    | some t => .next ((s.setF F.PWR_TEMP_JUNCTION (unsigned 9 t)).junctionActs t).releaseHeld
    | none =>
      let (v, s) := s.draw
      .next (({ s with bnd := { s.bnd with coolMs := 0 } } : State).setF F.PWR_TEMP_JUNCTION (v.toNat % 512))

/-! ### Clocks and the fabric (R372) -/

/-- XTAL_SILENT (R372): the timekeeper runs from the RC. -/
def execXtalSilent (s : State) : Host.Outcome State Fault Refusal :=
  if s.modeNow = 0 ∨ s.bnd.xtalOk = false then .next s
  else .next (({ s with bnd := { s.bnd with xtalOk := false } } : State).aonRaise F.PWR_BND_EVENT_XTAL_FAIL 2)

/-- CRYSTAL_EDGES_RETURN (R372). -/
def execCrystalEdgesReturn (s : State) : Host.Outcome State Fault Refusal :=
  .next (if s.modeNow = 0 then s else { s with bnd := { s.bnd with xtalOk := true } })

/-- TIME_REF_SILENT (R316, R372). -/
def execTimeRefSilent (s : State) : Host.Outcome State Fault Refusal := .next (if s.answers then s.timeStop else s)

/-- FAB_RESPONSE_TIMEOUT (R372): the access itself ends as with an error response, by the command that carries its response. -/
def execFabResponseTimeout (s : State) : Host.Outcome State Fault Refusal :=
  .next (if s.answers then s.raise F.PWR_BND_EVENT_FAB_TIMEOUT else s)

/-- AGING_MEASURE (R377): the islands are FAB, CORE, DEC and AON; in WATCH only the last is on. -/
def execAgingMeasure (i v : Nat) (s : State) : Host.Outcome State Fault Refusal :=
  if s.modeNow = 0 ∨ 4 ≤ i ∨ (s.modeNow = 8 ∧ i ≠ 3) then .next s
  else
    let s := s.setF (F.PWR_AGING_MARGIN i) (min 1023 v)
    .next (if v < s.getF F.PWR_BND_X_AGING_MIN then s.aonRaise F.PWR_BND_EVENT_AGING_WARN 2 else s)

/-! ### The DRAM ports (R381, R382) -/

/-- DRAM_PORT_STALL (R381): the credits of the routes that wait on the port are paused. -/
def execDramPortStall (port routes : Nat) (s : State) : Host.Outcome State Fault Refusal :=
  .next (if s.answers ∧ port < 2 then
    ({ s with bnd := { s.bnd with stalled := s.bnd.stalled.set port routes } } : State).bump R.PWR_CNT_STALL else s)

/-- PORT_BUFFER_HALF_EMPTY (R381). -/
def execPortBufferHalfEmpty (port : Nat) (s : State) : Host.Outcome State Fault Refusal :=
  .next { s with bnd := { s.bnd with stalled := s.bnd.stalled.set port 0 } }

/-- DRAM_SR_RISE (R382): from now on requests are held at the port. -/
def execDramSrRise (s : State) : Host.Outcome State Fault Refusal :=
  .next (if s.answers then s.setF F.PWR_DRAM_SR 1 else s)

/-- SR_HOLD_EXPIRY (R382): a hold has lasted 2 ms. -/
def execSrHoldExpiry (s : State) : Host.Outcome State Fault Refusal :=
  .next (if s.getF F.PWR_DRAM_HOLDING = 1 then ((s.raise F.PWR_BND_EVENT_SR_HOLD).safeCause 6).releaseHeld else s)

/-- DRAM_SR_EXIT_ACK (R382): what was held is issued, in order. -/
def execDramSrExitAck (s : State) : Host.Outcome State Fault Refusal :=
  if s.getF F.PWR_DRAM_SR = 0 then .next s
  else
    let s : State := { s with out := s.out ++ s.bnd.held, bnd := { s.bnd with held := [] } }
    .next ((s.setF F.PWR_DRAM_SR 0).setF F.PWR_DRAM_HOLDING 0)

/-! ### Modules and the heartbeat (R125, R356, R384) -/

/-- MOD_PRESENT_CHANGE (R125, R356): the filtered signal of route `r`. In BRINGUP it is sampled as it stands; in WATCH a watched
route's change wakes. -/
def execModPresentChange (r : Nat) (present : Bool) (s : State) : Host.Outcome State Fault Refusal :=
  if s.modeNow = 0 ∨ 32 ≤ r ∨ s.getF (F.RT_PHY_STATUS_MOD_PRESENT r) = b2n present then .next s
  else
    let s := s.setF (F.RT_PHY_STATUS_MOD_PRESENT r) (b2n present)
    if s.modeNow = 1 then .next s
    else if s.modeNow = 8 then .next (s.watchFire (32 + r))
    else
      let s := s.raise (F.RT_PHY_EVENT_MOD_CHANGE r)
      .next (if present then s else s.routeDown r 2)

/-- ALIVE_TOGGLE (R384). -/
def execAliveToggle (s : State) : Host.Outcome State Fault Refusal :=
  .next (if s.answers then ({ s with bnd := { s.bnd with alive := !s.bnd.alive } } : State).emit (.alive (!s.bnd.alive)) else s)

end Sys2Proof.Machine
end

