-- ==== Sys2Proof/Machine/Control.lean ====
section
/-! DEFINITION. The commands after which held writes may take effect: mode changes, seams, a route that starts training, the time
reference's return, and what can enter SAFE out of HOLD (R53, R117, R316, R319, R349, R350, R364, R368, R391). -/

namespace Sys2Proof.Machine

/-- MODE_REQUEST (R348, R358): a write to `ENS_MODE_REQ`, or the power manager's request. -/
def execModeRequest (v : W32) (pm : Bool) (s : State) : Host.Outcome State Fault Refusal :=
  .next (if pm then (s.modeRequest v.toNat true).releaseHeld else s.writeReg R.MODE_REQ v)

/-- PENDING_REQUEST_JUDGE (R349): a held request is judged once what held it has ended. -/
def execPendingRequestJudge (s : State) : Host.Outcome State Fault Refusal :=
  match s.mode.held with
  | none => .next s
  | some q =>
    if s.modeHeld q.mode ∨ s.getF F.MODE_CHANGING = 1 then .next s
    else
      let s := ({ s with mode := { s.mode with held := none } } : State).setF F.MODE_REQ_PENDING 0
      .next (s.modeJudge q.mode q.ackLoss).releaseHeld

/-- MODE_ENTERED (R350): the accepted change completes; HOLD and WATCH wait until every write issued is acknowledged (R382). -/
def execModeEntered (s : State) : Host.Outcome State Fault Refusal :=
  match s.mode.target with
  | none => .next s
  | some m => .next (if (m = 7 ∨ m = 8) ∧ s.writesSettled = false then s else (s.modeEnter m).releaseHeld)

/-- SEAM_TIMEOUT (R53): the pipeline has not reached its boundaries within 600 µs. -/
def execSeamTimeout (cycles : Nat) (s : State) : Host.Outcome State Fault Refusal :=
  .next (if s.getF F.IMG_STATUS_STATE = 5 ∧ s.modeNow ≠ 2 ∧ s.img.boundary = false then (s.seamAbandon cycles).releaseHeld else s)

/-- SEAM_COPY_DONE (R53, R356): the new image is in force. In IMAGE, where nothing runs, no boundary is waited for; after a wake from
WATCH TRAIN follows. -/
def execSeamCopyDone (cycles : Nat) (s : State) : Host.Outcome State Fault Refusal :=
  if s.getF F.IMG_STATUS_STATE ≠ 5 ∨ (s.modeNow ≠ 2 ∧ s.img.boundary = false) then .next s
  else
    let s := (s.seamCopied cycles).releaseHeld
    .next (if s.mode.watchImage ∧ s.mode.target = none then
      ({ s with mode := { s.mode with target := some 3 } } : State).setF F.MODE_CHANGING 1 else s)

/-- TRAINING_START (R117): a populated route in TRAIN, or one that a ROUTE_REIMAGE names. -/
def execTrainingStart (r : Nat) (s : State) : Host.Outcome State Fault Refusal :=
  let x := s.route r
  let due := (s.modeNow = 3 ∧ s.routeOn r ∧ s.seq.scanned.contains r = false) ∨ (s.modeNow = 11 ∧ x.reimage.isSome)
  .next (if r < 32 ∧ s.routeSt r = 0 ∧ x.train = 0 ∧ due then (s.trainGo r).releaseHeld else s)

/-- TIME_RESTART (R10, R316): the counter takes the value it held plus the stopped time in whole ticks of 1/32,768 s. Held writes take effect
as the clock starts, before what the restart raises. -/
def execTimeRestart (ticks : Nat) (s : State) : Host.Outcome State Fault Refusal :=
  if s.bnd.timeRefOk ∨ s.modeNow = 0 ∨ s.modeNow = 8 then .next s
  else
    let old := s.pmQuality
    let p := s.pm.advance (ticks * 10 ^ 9 * 2 ^ 17)
    let s : State := { s with bnd := { s.bnd with timeRefOk := true },
                              pm := { p with own := if p.own = 0 then 0 else 1, slew := 0, stepNs := 0, lockRun := 0, r := p.f,
                                             refusing := false, firstEdge := true } }
    .next (s.releaseHeld.pmRefresh old)

/-- A read of the controller's own from engine DRAM met an uncorrectable unit at `addr` (R10, R273): SAFE is entered, writes that HOLD held
take effect, and the events are set after what those writes clear. -/
def State.fatalRead (s : State) (addr : Nat) : State :=
  ((s.enterSafe 5).releaseHeld.dramUncorr addr).raise F.MI_EVENT_MEM_FATAL

/-- PEER_READ_DUE (R319, R273, R383): the slot's 32 bytes arrive; `resp` 1 is a fabric error, 2 a corrected unit, 3 + u the
uncorrectable unit u, which fails the read with MEM_FATAL. -/
def execPeerReadDue (i : Nat) (bytes : Bytes) (resp : Nat) (s : State) : Host.Outcome State Fault Refusal :=
  if s.beaconsOn = false ∨ 16 ≤ i ∨ s.getF (F.PM_PEER_LO_EN i) = 0 then .next s
  else if 3 ≤ resp then
    .next (s.fatalRead (s.getF (F.PM_PEER_LO_ADDR i) * 64 + s.getF (F.PM_PEER_HI_ADDR i) * 2 ^ 32 + 16 * (resp - 3)))
  else .next ((if resp = 2 then s.dramCorrected else s).peerRead i bytes (resp ≠ 1))

/-- DBG_AUTH_DONE (R273, R364): the token as read; `resp` 1 is a fabric error, 2 a corrected unit, 3 + u the uncorrectable unit u,
which also enters SAFE with MEM_FATAL. -/
def execDbgAuthDone (token : Bytes) (resp : Nat) (s : State) : Host.Outcome State Fault Refusal :=
  if s.answers = false ∨ s.getF F.DBG_CTRL_AUTH = 0 then .next s
  else if 3 ≤ resp then
    let addr := s.getF F.DBG_TOKEN_LO_ADDR * 64 + s.getF F.DBG_TOKEN_HI_ADDR * 2 ^ 32
    .next ((s.authEnd token false).fatalRead (addr + 16 * (resp - 3)))
  else .next ((if resp = 2 then s.dramCorrected else s).authEnd token (resp ≠ 1))

/-- TAMPER_ASSERT (R356, R368): in WATCH it wakes the controller, and BRINGUP goes to SAFE. -/
def execTamperAssert (s : State) : Host.Outcome State Fault Refusal :=
  .next (if s.modeNow = 8 ∧ s.secState ≠ 3 then (s.lockLatch 1).wake 5 0 else (s.lockdown 1).releaseHeld)

/-- One second passes on the AON timekeeper: a session's time left and the seals' lockouts count down (R340, R365). A lockout's last second
lasts until SEAL_LOCKOUT_EXPIRY (log 15). -/
def State.secondPasses (s : State) : State :=
  let s := s.setF F.DBG_REMAIN_SECONDS (s.getF F.DBG_REMAIN_SECONDS - 1)
  { s with hb := { s.hb with seals := s.hb.seals.map fun e =>
    (e.1, { e.2 with lockout := if 1 < e.2.lockout then e.2.lockout - 1 else e.2.lockout }) } }

/-- KEY_STORE_CHECK (R368): each second, which counts down what the AON timekeeper counts. -/
def execKeyStoreCheck (mismatch : Bool) (s : State) : Host.Outcome State Fault Refusal :=
  .next (if s.modeNow = 0 then s
    else if mismatch then (s.lockdown 2).releaseHeld
    else s.secondPasses)

end Sys2Proof.Machine
end

