-- ==== Sys2Proof/Machine/RegRows.lean ====
section
/-! DEFINITION. The commands that are register accesses: one row of the table for a write to each register that acts, one for every
other write, and the accesses that are rejected (R9, R12, R387, R388). -/

namespace Sys2Proof.Machine

/-- REGISTER_WRITE (R9). -/
def execRegisterWrite (off : Nat) (v : W32) (s : State) : Host.Outcome State Fault Refusal := .next (s.writeReg off v)

/-- WIDTH_REJECTED_ACCESS (R387, R389): a fabric error response. -/
def execWidthRejectedAccess (off : Nat) (write : Bool) (s : State) : Host.Outcome State Fault Refusal :=
  .next (if s.answers then (s.logErr 1 off write).emit (.regError off) else s)

/-- RESERVED_OFFSET_ACCESS (R388, R389): a read returns zero. An offset with a register is not reserved, and an unaligned one is
rejected before it is looked up. -/
def execReservedOffsetAccess (off : Nat) (write : Bool) (s : State) : Host.Outcome State Fault Refusal :=
  if s.answers = false ∨ off % 4 ≠ 0 ∨ (regRow? off).isSome then .next s
  else
    let s := s.logErr 2 off write
    .next (if write then s else s.emit (.regData off 0))

/-- EXPERT_KEY_WRITE (R12). -/
def execExpertKeyWrite (v : W32) (s : State) : Host.Outcome State Fault Refusal := .next (s.writeReg R.EXPERT_KEY v)

/-- IMG_LOAD (R56): a write to `ENS_IMG_CTRL` with LOAD. -/
def execImgLoad (v : W32) (s : State) : Host.Outcome State Fault Refusal := .next (s.writeReg R.IMG_CTRL v)

/-- IMG_APPLY (R51, R56): a write to `ENS_IMG_CTRL` with APPLY. -/
def execImgApply (v : W32) (s : State) : Host.Outcome State Fault Refusal := .next (s.writeReg R.IMG_CTRL v)

/-- IMG_DISCARD (R56): a write to `ENS_IMG_CTRL` with DISCARD. -/
def execImgDiscard (v : W32) (s : State) : Host.Outcome State Fault Refusal := .next (s.writeReg R.IMG_CTRL v)

/-- LETTERBOX (R248). -/
def execLetterbox (v : W32) (s : State) : Host.Outcome State Fault Refusal := .next (s.writeReg R.LETTERBOX v)

/-- NOTICE_EOI (R256): a write of `v` to `ENS_NTC_EOI[c]`. -/
def execNoticeEoi (c : Nat) (v : W32) (s : State) : Host.Outcome State Fault Refusal :=
  .next (if c < 8 then s.writeReg (R.NTC_EOI c) v else s)

/-- NOTICE_FAST_EOI (R256): a write of `v` to `ENS_NTF_EOI[c]`. -/
def execNoticeFastEoi (c : Nat) (v : W32) (s : State) : Host.Outcome State Fault Refusal :=
  .next (if c < 8 then s.writeReg (R.NTF_EOI c) v else s)

/-- STACK_RESET (R257). -/
def execStackReset (v : W32) (s : State) : Host.Outcome State Fault Refusal := .next (s.writeReg R.NTC_STACK_RESET v)

/-- STEP_PERMIT (R312, R323): a write to `ENS_PM_CTRL`. -/
def execStepPermit (v : W32) (s : State) : Host.Outcome State Fault Refusal := .next (s.writeReg R.PM_CTRL v)

/-- ADMIN_ENABLE (R225): a write to `ENS_Q_ADMIN_CFG`. -/
def execAdminEnable (v : W32) (s : State) : Host.Outcome State Fault Refusal := .next (s.writeReg R.Q_ADMIN_CFG v)

/-- ADMIN_RESUME (R213): a write to `ENS_Q_ADMIN_CFG` with RESUME set. -/
def execAdminResume (v : W32) (s : State) : Host.Outcome State Fault Refusal := .next (s.writeReg R.Q_ADMIN_CFG v)

/-- DL_CFG_ENABLE (R297). -/
def execDlCfgEnable (v : W32) (s : State) : Host.Outcome State Fault Refusal := .next (s.writeReg R.FI_DL_CFG v)

/-- DL_HEAD_WRITE (R297). -/
def execDlHeadWrite (v : W32) (s : State) : Host.Outcome State Fault Refusal := .next (s.writeReg R.FI_DL_HEAD v)

/-- SPARE_AREA_WRITE (R296): a write to `ENS_FI_SPARE_RANGE`, or to `ENS_FI_SPARE`. -/
def execSpareAreaWrite (hi : Bool) (v : W32) (s : State) : Host.Outcome State Fault Refusal :=
  .next (s.writeReg (if hi then R.FI_SPARE_RANGE else R.FI_SPARE) v)

/-- The EVENT_EN field of a route's PHY control as firmware sees it, which a write must carry (Table 5-5). -/
def State.phyKeep (s : State) (r : Nat) : W32 := s.shown (R.RT_PHY_CTRL r) &&& 0xFC#32

/-- DOWN_REQ (R126): a write of 1 to it that leaves EVENT_EN as it stands. -/
def execDownReq (r : Nat) (s : State) : Host.Outcome State Fault Refusal :=
  .next (if r < 32 then s.writeReg (R.RT_PHY_CTRL r) (s.phyKeep r ||| 1#32) else s)

/-- RECAL_NOW (R119): a write of 1 to it that leaves EVENT_EN as it stands. -/
def execRecalNow (r : Nat) (s : State) : Host.Outcome State Fault Refusal :=
  .next (if r < 32 then s.writeReg (R.RT_PHY_CTRL r) (s.phyKeep r ||| 2#32) else s)

/-- SEAL_FUSE_COMMAND (R362): a write to `ENS_SEC_CTRL`. -/
def execSealFuseCommand (v : W32) (s : State) : Host.Outcome State Fault Refusal := .next (s.writeReg R.SEC_CTRL v)

/-- LOCKDOWN_COMMAND (R368): a write to `ENS_SEC_CTRL`. -/
def execLockdownCommand (v : W32) (s : State) : Host.Outcome State Fault Refusal := .next (s.writeReg R.SEC_CTRL v)

/-- DBG_AUTH (R364): a write to `ENS_DBG_CTRL`. -/
def execDbgAuth (v : W32) (s : State) : Host.Outcome State Fault Refusal := .next (s.writeReg R.DBG_CTRL v)

/-- DBG_END (R365): a write to `ENS_DBG_CTRL`. -/
def execDbgEnd (v : W32) (s : State) : Host.Outcome State Fault Refusal := .next (s.writeReg R.DBG_CTRL v)

/-- DBG_LEVEL_WRITE (R363): a write to `ENS_DBG_CTRL`. -/
def execDbgLevelWrite (v : W32) (s : State) : Host.Outcome State Fault Refusal := .next (s.writeReg R.DBG_CTRL v)

end Sys2Proof.Machine
end

