-- ==== Sys2Proof/Machine/Dispatch.lean ====
section
/-! DEFINITION. The dispatch of commands to their meanings, one arm per constructor. -/

namespace Sys2Proof.Machine

def exec (i : Instr) (s : State) : Host.Outcome State Fault Refusal :=
  match i with
  | .registerWrite off v => Sys2Proof.Machine.execRegisterWrite off v s
  | .widthRejectedAccess off write => Sys2Proof.Machine.execWidthRejectedAccess off write s
  | .reservedOffsetAccess off write => Sys2Proof.Machine.execReservedOffsetAccess off write s
  | .expertKeyWrite v => Sys2Proof.Machine.execExpertKeyWrite v s
  | .imgLoad v => Sys2Proof.Machine.execImgLoad v s
  | .imgFetchDone data resp => Sys2Proof.Machine.execImgFetchDone data resp s
  | .imgVerifyDone => Sys2Proof.Machine.execImgVerifyDone s
  | .imgApply v => Sys2Proof.Machine.execImgApply v s
  | .imgDiscard v => Sys2Proof.Machine.execImgDiscard v s
  | .routeDrainEnd r => Sys2Proof.Machine.execRouteDrainEnd r s
  | .drainLimitExpiry r => Sys2Proof.Machine.execDrainLimitExpiry r s
  | .seamBoundaryReached => Sys2Proof.Machine.execSeamBoundaryReached s
  | .seamTimeout cycles => Sys2Proof.Machine.execSeamTimeout cycles s
  | .seamCopyDone cycles => Sys2Proof.Machine.execSeamCopyDone cycles s
  | .dieGrant r d us => Sys2Proof.Machine.execDieGrant r d us s
  | .mergeWaitExpiry r d => Sys2Proof.Machine.execMergeWaitExpiry r d s
  | .busGrant r => Sys2Proof.Machine.execBusGrant r s
  | .dataOutStart r d us => Sys2Proof.Machine.execDataOutStart r d us s
  | .statusPollDue r d status us => Sys2Proof.Machine.execStatusPollDue r d status us s
  | .rbnRise r ce status => Sys2Proof.Machine.execRbnRise r ce status s
  | .rbnFault r ce => Sys2Proof.Machine.execRbnFault r ce s
  | .dieOpTimeout r d => Sys2Proof.Machine.execDieOpTimeout r d s
  | .wpDriveChange r => Sys2Proof.Machine.execWpDriveChange r s
  | .tempReadDue r d p1 => Sys2Proof.Machine.execTempReadDue r d p1 s
  | .program id buf md corr => Sys2Proof.Machine.execProgram id buf md s corr
  | .programStripe id buf md maps corr lost => Sys2Proof.Machine.execProgramStripe id buf md maps s corr lost
  | .rowMemberProgramStart row m => Sys2Proof.Machine.execRowMemberProgramStart row m s
  | .rowComplete row => Sys2Proof.Machine.execRowComplete row s
  | .flushStripe id maps corr lost => Sys2Proof.Machine.execFlushStripe id maps s corr lost
  | .guardWaitExpiry op => Sys2Proof.Machine.execGuardWaitExpiry op s
  | .erase id maps corr lost => Sys2Proof.Machine.execErase id maps s corr lost
  | .eraseBracketStep r d => Sys2Proof.Machine.execEraseBracketStep r d s
  | .minRunExpiry r d => Sys2Proof.Machine.execMinRunExpiry r d s
  | .resumeHeldOperation r d => Sys2Proof.Machine.execResumeHeldOperation r d s
  | .holdMaxExpiry r d => Sys2Proof.Machine.execHoldMaxExpiry r d s
  | .trainingStart r => Sys2Proof.Machine.execTrainingStart r s
  | .trainingStepDone r ok data => Sys2Proof.Machine.execTrainingStepDone r ok data s
  | .vccqGoodTimeout r => Sys2Proof.Machine.execVccqGoodTimeout r s
  | .guardedReeraseRelease r => Sys2Proof.Machine.execGuardedReeraseRelease r s
  | .recalNow r => Sys2Proof.Machine.execRecalNow r s
  | .recalPeriodExpiry r => Sys2Proof.Machine.execRecalPeriodExpiry r s
  | .recalPhaseDone r eye shift disagree => Sys2Proof.Machine.execRecalPhaseDone r eye shift disagree s
  | .trainingBurst r errors done eye shift => Sys2Proof.Machine.execTrainingBurst r errors done eye shift s
  | .forceGapExpiry r => Sys2Proof.Machine.execForceGapExpiry r s
  | .trainErrWindowEnd r => Sys2Proof.Machine.execTrainErrWindowEnd r s
  | .downReq r => Sys2Proof.Machine.execDownReq r s
  | .modPresentChange r present => Sys2Proof.Machine.execModPresentChange r present s
  | .vccqFault r => Sys2Proof.Machine.execVccqFault r s
  | .safeToRemove r => Sys2Proof.Machine.execSafeToRemove r s
  | .routeReimage id => Sys2Proof.Machine.execRouteReimage id s
  | .envelopeReceived job data skip => Sys2Proof.Machine.execEnvelopeReceived job data skip s
  | .headerReceived job data => Sys2Proof.Machine.execHeaderReceived job data s
  | .driftEstimate r d g => Sys2Proof.Machine.execDriftEstimate r d g s
  | .decoderCoreFree core => Sys2Proof.Machine.execDecoderCoreFree core s
  | .decodeDone core iters word => Sys2Proof.Machine.execDecodeDone core iters word s
  | .decoderSelfTestDue core pass => Sys2Proof.Machine.execDecoderSelfTestDue core pass s
  | .decoderCheckerFault core => Sys2Proof.Machine.execDecoderCheckerFault core s
  | .calibrate id list corr => Sys2Proof.Machine.execCalibrate id list s corr
  | .calibrationEnd id => Sys2Proof.Machine.execCalibrationEnd id s
  | .getCal id => Sys2Proof.Machine.execGetCal id s
  | .setCal id rec corr => Sys2Proof.Machine.execSetCal id rec s corr
  | .scan id plan blocks corr => Sys2Proof.Machine.execScan id plan blocks s corr
  | .scanStart id => Sys2Proof.Machine.execScanStart id s
  | .itemFetch id item corr => Sys2Proof.Machine.execItemFetch id item s corr
  | .positionAdmit id => Sys2Proof.Machine.execPositionAdmit id s
  | .laneEvaluateDone id pos => Sys2Proof.Machine.execLaneEvaluateDone id pos s
  | .positionRetire id => Sys2Proof.Machine.execPositionRetire id s
  | .scanEnd id => Sys2Proof.Machine.execScanEnd id s
  | .laneSelfTestDue lane pass => Sys2Proof.Machine.execLaneSelfTestDue lane pass s
  | .laneFault lane => Sys2Proof.Machine.execLaneFault lane s
  | .sqDoorbell n v own => Sys2Proof.Machine.execSqDoorbell n v own s
  | .cqDoorbell n v => Sys2Proof.Machine.execCqDoorbell n v s
  | .entryFetch n bytes resp begins => Sys2Proof.Machine.execEntryFetch n bytes resp s begins
  | .ownRecheckExpiry n bytes resp => Sys2Proof.Machine.execOwnRecheckExpiry n bytes resp s
  | .admission => Sys2Proof.Machine.execAdmission s
  | .completionWrite n => Sys2Proof.Machine.execCompletionWrite n s
  | .cqWriteAck n => Sys2Proof.Machine.execCqWriteAck n s
  | .mailbagTimeout n => Sys2Proof.Machine.execMailbagTimeout n s
  | .cqWriteError n => Sys2Proof.Machine.execCqWriteError n s
  | .createSq id => Sys2Proof.Machine.execCreateSq id s
  | .createCq id => Sys2Proof.Machine.execCreateCq id s
  | .deleteSq id => Sys2Proof.Machine.execDeleteSq id s
  | .sqDeleteEnd n => Sys2Proof.Machine.execSqDeleteEnd n s
  | .deleteCq id => Sys2Proof.Machine.execDeleteCq id s
  | .resumeQueue id => Sys2Proof.Machine.execResumeQueue id s
  | .invalidateEntries id => Sys2Proof.Machine.execInvalidateEntries id s
  | .adminEnable v => Sys2Proof.Machine.execAdminEnable v s
  | .adminResume v => Sys2Proof.Machine.execAdminResume v s
  | .read id => Sys2Proof.Machine.execRead id s
  | .readHeaders id => Sys2Proof.Machine.execReadHeaders id s
  | .copy id => Sys2Proof.Machine.execCopy id s
  | .diagPing id => Sys2Proof.Machine.execDiagPing id s
  | .diagRegSnapshot id list corr => Sys2Proof.Machine.execDiagRegSnapshot id list s corr
  | .diagNoticeTest id => Sys2Proof.Machine.execDiagNoticeTest id s
  | .diagRawRead id => Sys2Proof.Machine.execDiagRawRead id s
  | .bufferFault id unit => Sys2Proof.Machine.execBufferFault id s unit
  | .sourceFire src => Sys2Proof.Machine.execSourceFire src s
  | .letterbox v => Sys2Proof.Machine.execLetterbox v s
  | .noticeArbitration c => Sys2Proof.Machine.execNoticeArbitration c s
  | .noticeAccept c => Sys2Proof.Machine.execNoticeAccept c s
  | .noticeEoi c v => Sys2Proof.Machine.execNoticeEoi c v s
  | .noticeFastEoi c v => Sys2Proof.Machine.execNoticeFastEoi c v s
  | .noticePopEnd c parity => Sys2Proof.Machine.execNoticePopEnd c s parity
  | .stackReset v => Sys2Proof.Machine.execStackReset v s
  | .modTimerExpiry g => Sys2Proof.Machine.execModTimerExpiry g s
  | .coreIdleChange c idle => Sys2Proof.Machine.execCoreIdleChange c idle s
  | .redirectTimeout src => Sys2Proof.Machine.execRedirectTimeout src s
  | .writeBack bank => Sys2Proof.Machine.execWriteBack bank s
  | .scrubRead bank err ms => Sys2Proof.Machine.execScrubRead bank err ms s
  | .scrubDeadline bank err ms => Sys2Proof.Machine.execScrubDeadline bank err ms s
  | .rangeWalkEnd => Sys2Proof.Machine.execRangeWalkEnd s
  | .loadPigeonhole id => Sys2Proof.Machine.execLoadPigeonhole id s
  | .lockWays id => Sys2Proof.Machine.execLockWays id s
  | .unlockWays id => Sys2Proof.Machine.execUnlockWays id s
  | .reconContextTake job maps err corr lost => Sys2Proof.Machine.execReconContextTake job maps err s corr lost
  | .reconstruction ctx => Sys2Proof.Machine.execReconstruction ctx s
  | .patrolRoundStart sec => Sys2Proof.Machine.execPatrolRoundStart sec s
  | .patrolReadDue r d sec => Sys2Proof.Machine.execPatrolReadDue r d sec s
  | .spareAreaWrite hi v => Sys2Proof.Machine.execSpareAreaWrite hi v s
  | .deadLetterWrite => Sys2Proof.Machine.execDeadLetterWrite s
  | .dlHeadWrite v => Sys2Proof.Machine.execDlHeadWrite v s
  | .dlCfgEnable v => Sys2Proof.Machine.execDlCfgEnable v s
  | .dlWriteRetry => Sys2Proof.Machine.execDlWriteRetry s
  | .retireDie id => Sys2Proof.Machine.execRetireDie id s
  | .rebuild id => Sys2Proof.Machine.execRebuild id s
  | .rebuildBaseBlock entry maps err corr lost => Sys2Proof.Machine.execRebuildBaseBlock entry maps err s corr lost
  | .rebuildWindowEnd r d => Sys2Proof.Machine.execRebuildWindowEnd r d s
  | .degradedChange => Sys2Proof.Machine.execDegradedChange s
  | .postmarkTick => Sys2Proof.Machine.execPostmarkTick s
  | .ppsEdge tod tu gap => Sys2Proof.Machine.execPpsEdge tod tu gap s
  | .stepPermit v => Sys2Proof.Machine.execStepPermit v s
  | .holdoverExpiry => Sys2Proof.Machine.execHoldoverExpiry s
  | .timeRestart ticks => Sys2Proof.Machine.execTimeRestart ticks s
  | .nowNsRead => Sys2Proof.Machine.execNowNsRead s
  | .beaconDue => Sys2Proof.Machine.execBeaconDue s
  | .peerReadDue idx bytes resp => Sys2Proof.Machine.execPeerReadDue idx bytes resp s
  | .homeCommit id => Sys2Proof.Machine.execHomeCommit id s
  | .twinSelect a b => Sys2Proof.Machine.execTwinSelect a b s
  | .sealSet id cred corr => Sys2Proof.Machine.execSealSet id cred s corr
  | .sealUnlock id pw corr => Sys2Proof.Machine.execSealUnlock id pw s corr
  | .sealLockoutExpiry k => Sys2Proof.Machine.execSealLockoutExpiry k s
  | .modeRequest v pm => Sys2Proof.Machine.execModeRequest v pm s
  | .pendingRequestJudge => Sys2Proof.Machine.execPendingRequestJudge s
  | .modeEntered => Sys2Proof.Machine.execModeEntered s
  | .powerOn => Sys2Proof.Machine.execPowerOn s
  | .bringupDone checker bad cores lanes => Sys2Proof.Machine.execBringupDone checker bad cores lanes s
  | .trainDone => Sys2Proof.Machine.execTrainDone s
  | .wakeTimerExpiry => Sys2Proof.Machine.execWakeTimerExpiry s
  | .watchWake cause src => Sys2Proof.Machine.execWatchWake cause src s
  | .sealFuseCommand v => Sys2Proof.Machine.execSealFuseCommand v s
  | .lockdownCommand v => Sys2Proof.Machine.execLockdownCommand v s
  | .keyStoreCheck mismatch => Sys2Proof.Machine.execKeyStoreCheck mismatch s
  | .tamperAssert => Sys2Proof.Machine.execTamperAssert s
  | .dbgAuth v => Sys2Proof.Machine.execDbgAuth v s
  | .dbgAuthDone token resp => Sys2Proof.Machine.execDbgAuthDone token resp s
  | .dbgEnd v => Sys2Proof.Machine.execDbgEnd v s
  | .dbgSessionExpiry => Sys2Proof.Machine.execDbgSessionExpiry s
  | .dbgLevelWrite v => Sys2Proof.Machine.execDbgLevelWrite v s
  | .dbgWinData0Read => Sys2Proof.Machine.execDbgWinData0Read s
  | .dbgWinData3Write v => Sys2Proof.Machine.execDbgWinData3Write v s
  | .vinLevelChange uv => Sys2Proof.Machine.execVinLevelChange uv s
  | .junctionSample readings => Sys2Proof.Machine.execJunctionSample readings s
  | .resetAssert kind => Sys2Proof.Machine.execResetAssert kind s
  | .xtalSilent => Sys2Proof.Machine.execXtalSilent s
  | .timeRefSilent => Sys2Proof.Machine.execTimeRefSilent s
  | .fabResponseTimeout => Sys2Proof.Machine.execFabResponseTimeout s
  | .agingMeasure idx v => Sys2Proof.Machine.execAgingMeasure idx v s
  | .dramPortStall port routes => Sys2Proof.Machine.execDramPortStall port routes s
  | .portBufferHalfEmpty port => Sys2Proof.Machine.execPortBufferHalfEmpty port s
  | .dramSrRise => Sys2Proof.Machine.execDramSrRise s
  | .srHoldExpiry => Sys2Proof.Machine.execSrHoldExpiry s
  | .dramSrExitAck => Sys2Proof.Machine.execDramSrExitAck s
  | .aliveToggle => Sys2Proof.Machine.execAliveToggle s
  | .ppsEdgeMissed => Sys2Proof.Machine.execPpsEdgeMissed s
  | .crystalEdgesReturn => Sys2Proof.Machine.execCrystalEdgesReturn s
  | .fabricWriteAcknowledgement kind ok => Sys2Proof.Machine.execFabricWriteAcknowledgement kind ok s

end Sys2Proof.Machine
end

