-- ==== Sys2Proof/Safety.lean ====
section
/-! DEFINITION. What the statements are said with: the parts of the machine, what a command may change of them, and that a
command completes. -/

namespace Sys2Proof.Machine

/-- The parts of the machine that a frame speaks of. -/
inductive Part where
  /-- Supply, sensors, clocks and DRAM ports (chapter 17). -/
  | boundary
  /-- The mode machine behind `ENS_MODE` (chapter 16). -/
  | modeCtl
  /-- Nonce, debug session and held expert writes (chapter 16). -/
  | security
  /-- The images and the configuration in force (chapter 2). -/
  | image
  /-- The notice office's cores, stacks and moderation (chapter 11). -/
  | notice
  /-- The postmark counter and its peers (chapter 14). -/
  | postmark
  /-- Submission and completion queues (chapter 9). -/
  | queues
  /-- The admitted descriptors. -/
  | descs
  /-- Dies, routes, waiting operations, jobs, rows (chapters 3 to 5). -/
  | flash
  /-- Cell models, calibration records, drift, pools, decoding cores (chapter 7). -/
  | readChannel
  /-- Scans and their lanes (chapter 8). -/
  | sorting
  /-- The pigeonholes (chapter 12). -/
  | pigeonholes
  /-- SRAM words and their repair (chapter 12). -/
  | sram
  /-- Reconstruction, patrol, letters, rebuilds (chapter 13). -/
  | integrity
  /-- Home records and seals (chapter 15). -/
  | home
  /-- How many free values have been drawn. -/
  | freeValues
  /-- What has left the block. -/
  | outputs
  /-- The fuse that seals the part. -/
  | sealFuse
  /-- The registers of group `g`: 0 identity, mode and errors, 1 image, 2 and 3 notices, 4 letterbox, 5 postmark, 6 queues,
  7 memory, 8 flash integrity, 9 read channel, 10 sorting, 11 home and seals, 12 power and boundary, 13 security and debug,
  14 `ENS_RT_STATUS`, 15 the route interface (`ENS_RT_PHY_CTRL` on), 16 doorbells, 17 the rest of the route blocks (Tables 18-2 to 18-18). -/
  | regs (g : Nat)
  /-- MODE, PREV and SAFE_CAUSE of `ENS_MODE`, which is in group 0. -/
  | modeCode
  /-- STATE and DEBUG of `ENS_SEC_STATUS`, which is in group 13. -/
  | secCode
  /-- STATE of every `ENS_RT_STATUS`, which are in group 14. -/
  | routeStates
  deriving DecidableEq, Repr

/-- The place of a part in a mask. -/
def Part.place : Part → Nat
  | .boundary => 0
  | .modeCtl => 1
  | .security => 2
  | .image => 3
  | .notice => 4
  | .postmark => 5
  | .queues => 6
  | .descs => 7
  | .flash => 8
  | .readChannel => 9
  | .sorting => 10
  | .pigeonholes => 11
  | .sram => 12
  | .integrity => 13
  | .home => 14
  | .freeValues => 15
  | .outputs => 16
  | .sealFuse => 17
  | .regs g => 18 + g
  | .modeCode => 36
  | .secCode => 37
  | .routeStates => 38

/-- The mask of a list of parts. -/
def may (l : List Part) : Nat := l.foldl (fun m p => m ||| 2 ^ p.place) 0

/-- The group of the register at an offset. -/
def regGroup (off : Nat) : Nat :=
  if off < 0x10000 then off / 0x1000
  else if off < 0x20000 then 16
  else if off % 0x1000 = 4 then 14
  else if 0x400 ≤ off % 0x1000 then 15
  else 17

/-- From `s` to `t` nothing changes but the parts in the mask `m`: no command changes the commands that wait or the fuses but the
seal, which stays blown; what has left the block stays so; the register file keeps its canonical form. The counter that numbers
what the model tells apart (`Seq.nextId`) belongs to no part. -/
structure Frame (m : Nat) (s t : State) : Prop where
  pending : t.pending = s.pending
  fuses : t.fuses = { s.fuses with sealBlown := t.fuses.sealBlown }
  sealStays : s.fuses.sealBlown = true → t.fuses.sealBlown = true
  left : ∃ l, t.out = s.out ++ l
  drawn : s.freeCtr ≤ t.freeCtr
  regsWf : s.regs.wf regReset → t.regs.wf regReset
  bnd : m.testBit 0 = false → t.bnd = s.bnd
  mode : m.testBit 1 = false → t.mode = s.mode
  sec : m.testBit 2 = false → t.sec = s.sec
  img : m.testBit 3 = false → t.img = s.img
  ntc : m.testBit 4 = false → t.ntc = s.ntc
  pm : m.testBit 5 = false → t.pm = s.pm
  q : m.testBit 6 = false → t.q = s.q
  descs : m.testBit 7 = false → t.descs = s.descs
  seq : m.testBit 8 = false → t.seq = { s.seq with nextId := t.seq.nextId }
  rc : m.testBit 9 = false → t.rc = s.rc
  so : m.testBit 10 = false → t.so = s.so
  ph : m.testBit 11 = false → t.ph = s.ph
  mi : m.testBit 12 = false → t.mi = s.mi
  fi : m.testBit 13 = false → t.fi = s.fi
  hb : m.testBit 14 = false → t.hb = s.hb
  free : m.testBit 15 = false → t.freeCtr = s.freeCtr
  out : m.testBit 16 = false → t.out = s.out
  sealed : m.testBit 17 = false → t.fuses.sealBlown = s.fuses.sealBlown
  reg : ∀ off, m.testBit (18 + regGroup off) = false → t.getR off = s.getR off
  modeCode : m.testBit 36 = false → t.getF ⟨R.MODE, 0, 12⟩ = s.getF ⟨R.MODE, 0, 12⟩
  secCode : m.testBit 37 = false → t.getF ⟨R.SEC_STATUS, 0, 4⟩ = s.getF ⟨R.SEC_STATUS, 0, 4⟩
  routeStates : m.testBit 38 = false → ∀ r, t.routeSt r = s.routeSt r

/-- A whole write to the register at `off` reaches it at once: the registers answer, the mode is not SAFE, its clock runs and no
write is held before it. -/
def State.takes (s : State) (off : Nat) : Prop :=
  s.answers = true ∧ s.modeNow ≠ 10 ∧ s.clockStopped off = false ∧ s.sec.heldWrites = []

/-- The admin descriptor `d`, numbered `id`, is the one that executes (R239), with opcode `op`; no buffer of it has faulted. -/
def State.adminRuns (s : State) (id op : Nat) (d : Desc) : Prop :=
  s.adminDesc id op = some d ∧ s.desc? id = some d ∧ d.bufferFault = false

/-- The I/O descriptor `d`, numbered `id`, with opcode `op`, is admitted and has not started; no buffer of it has faulted. -/
def State.ioRuns (s : State) (id op : Nat) (d : Desc) : Prop :=
  s.desc? id = some d ∧ d.op = op ∧ d.started = false ∧ d.status = none ∧ d.bufferFault = false

/-- The descriptor numbered `id` has finished with a status and a result count (R214). -/
def State.ended (s : State) (id status count : Nat) : Prop :=
  ∃ e, s.desc? id = some e ∧ e.status = some status ∧ e.count = count

/-- No word of memory carries an error, and no injection is armed (R265, R273). -/
def State.memorySound (s : State) : Prop := s.mi.err = [] ∧ s.mi.spareErr = [] ∧ s.getF F.MI_INJECT_X_ARM = 0

/-- From `s` to `t` the temperature `x` of die `k` is taken (R94): for a die that is powered and neither in FAULT nor retired, the guard of
its route holds where it lies outside its class's range, IGNORE_TEMP aside, or is a sensor fault, with their events. -/
def State.readingTaken (s t : State) (k : Nat) (x : Int) : Prop :=
  (t.die k).temp = some x ∧
  (s.dieOn k = true → s.dieSt k ≠ 8 → s.retired k = false →
    (x < (s.geo k).low ∨ (s.geo k).high < x → s.getF F.PWR_WG_X_IGNORE_TEMP = 0 → t.guardHolds (k / 16) = true) ∧
    (x < -55 ∨ 175 < x → t.guardHolds (k / 16) = true)) ∧
  (x < (s.geo k).low ∨ (s.geo k).high < x → (s.die k).tempOut = false → t.getF F.PWR_WG_EVENT_TEMP = 1) ∧
  (x < -55 ∨ 175 < x → t.getF F.PWR_WG_EVENT_SENSOR_FAULT = 1)

/-- What DRAM writes put out, in order, `n` pieces having left or waiting before them: each write's pieces (R380) with their sideband
(R273). -/
def dramOuts : Nat → List (Nat × Bytes) → List Output
  | _, [] => []
  | n, (a, b) :: l => (piecesOf a b).mapIdx (fun i p => .fabWrite p.1 p.2 (dramSide (n + i) p.1 p.2)) ++
      dramOuts (n + (piecesOf a b).length) l

/-- Offsets whose write does more than store (the command registers of the chapters), or goes to a doorbell. -/
def actsOnWrite (off : Nat) : Bool :=
  [R.MODE_REQ, R.EXPERT_KEY, R.IMG_CTRL, R.NTC_SLEEP, R.NTC_STACK_RESET, 0x2400, R.LETTERBOX, R.PM_CTRL, R.Q_ADMIN_CFG, R.FI_DL_CFG,
    R.FI_DL_HEAD, R.FI_SPARE, R.FI_SPARE_RANGE, R.PWR_X, R.PWR_WG_X, R.SEC_CTRL, R.DBG_CTRL].contains off ||
  decide (0x2020 ≤ off ∧ off < 0x2040) || decide (0x2080 ≤ off ∧ off < 0x20A0) || decide (0x3040 ≤ off ∧ off < 0x3060) ||
  decide (0x6020 ≤ off ∧ off < 0x6030) || decide (0xD044 ≤ off ∧ off < 0xD054) || decide (0x10000 ≤ off ∧ off < 0x12000) ||
  (decide (0x20000 ≤ off ∧ off < 0x40000) && off % 4096 = 0x400)

/-- Every part. -/
def Part.all : List Part :=
  [.boundary, .modeCtl, .security, .image, .notice, .postmark, .queues, .descs, .flash, .readChannel, .sorting, .pigeonholes, .sram,
    .integrity, .home, .freeValues, .outputs, .sealFuse] ++ (List.range 18).map .regs ++ [.modeCode, .secCode, .routeStates]

/-- What a raised event may change: the notice office and its output, and the mode request and the wake that the event may cause. -/
def Part.event : List Part := [.modeCtl, .notice, .outputs, .regs 0, .regs 2, .regs 12]

/-- What a read of an SRAM word may change (R265 to R273): an uncorrectable word that matters enters SAFE. -/
def Part.memory : List Part :=
  [.boundary, .modeCtl, .image, .notice, .queues, .descs, .flash, .readChannel, .sorting, .pigeonholes, .sram, .integrity, .home,
    .freeValues, .outputs, .regs 0, .regs 1, .regs 2, .regs 7, .regs 9, .regs 10, .regs 11, .regs 12, .regs 13, .regs 14, .regs 17,
    .modeCode, .routeStates]

/-- What each command may change. A register write, and a command after which held writes are taken (R353, R391), may reach any register,
so it may change every part; the statements about each such command say what it changes. -/
def mayChange : Instr → List Part
  | .registerWrite .. | .expertKeyWrite .. | .imgLoad .. | .imgApply .. | .imgDiscard .. | .seamTimeout .. | .seamCopyDone .. |
  .trainingStart .. | .recalNow .. | .downReq .. | .adminEnable .. | .adminResume .. | .letterbox .. | .noticeEoi .. | .noticeFastEoi .. |
  .stackReset .. | .spareAreaWrite .. | .dlHeadWrite .. | .dlCfgEnable .. | .stepPermit .. | .timeRestart .. | .peerReadDue .. |
  .modeRequest .. | .pendingRequestJudge | .modeEntered | .powerOn | .sealFuseCommand .. | .lockdownCommand .. | .keyStoreCheck .. |
  .tamperAssert | .dbgAuth .. | .dbgAuthDone .. | .dbgEnd .. | .dbgLevelWrite .. | .vinLevelChange .. | .junctionSample .. |
  .resetAssert .. | .srHoldExpiry => Part.all
  | .widthRejectedAccess .. | .reservedOffsetAccess .. | .sourceFire .. | .fabResponseTimeout => Part.event
  | .imgFetchDone .. => Part.event ++ [.boundary, .image, .descs, .flash, .readChannel, .sorting, .integrity, .home, .freeValues, .regs 1,
      .regs 7, .regs 9, .regs 10, .regs 11, .regs 13, .regs 14, .regs 17, .modeCode, .routeStates]
  | .imgVerifyDone => Part.event ++ [.image, .freeValues, .regs 1, .regs 5]
  | .routeDrainEnd .. | .drainLimitExpiry .. | .trainingStepDone .. | .vccqGoodTimeout .. | .recalPhaseDone .. | .trainingBurst .. |
  .vccqFault .. | .envelopeReceived .. => Part.memory ++ [.regs 8, .regs 15]
  | .seamBoundaryReached => [.image]
  | .dieGrant .. | .mergeWaitExpiry .. => Part.event ++ [.flash, .pigeonholes, .integrity, .freeValues, .regs 7, .regs 17]
  | .busGrant .. => [.flash, .outputs, .regs 9, .regs 15, .regs 17]
  | .dataOutStart .. => [.flash, .regs 17]
  | .statusPollDue .. | .rbnRise .. | .dieOpTimeout .. | .guardWaitExpiry .. | .headerReceived .. | .driftEstimate .. | .decodeDone .. |
  .read .. | .readHeaders .. | .copy .. | .loadPigeonhole .. | .reconContextTake .. | .reconstruction .. | .retireDie .. => Part.memory ++
      [.regs 8]
  | .rbnFault .. => Part.event ++ [.regs 14, .regs 17]
  | .wpDriveChange .. => [.regs 14]
  | .tempReadDue .. => Part.event ++ [.flash, .regs 14]
  | .program .. | .rowMemberProgramStart .. | .positionAdmit .. | .bufferFault .. | .scrubRead .. | .scrubDeadline .. | .lockWays .. |
  .unlockWays .. | .dbgWinData0Read => Part.memory
  | .programStripe .. | .flushStripe .. | .bringupDone .. => Part.event ++ [.boundary, .image, .descs, .flash, .readChannel, .sorting,
      .pigeonholes, .sram, .integrity, .home, .freeValues, .regs 1, .regs 7, .regs 9, .regs 10, .regs 11, .regs 13, .regs 14, .regs 17,
      .modeCode, .routeStates]
  | .rowComplete .. | .diagRawRead .. => [.descs, .flash]
  | .erase .. => Part.event ++ [.boundary, .image, .descs, .flash, .readChannel, .sorting, .pigeonholes, .integrity, .home, .freeValues,
      .regs 1, .regs 7, .regs 9, .regs 10, .regs 11, .regs 13, .regs 14, .regs 17, .modeCode, .routeStates]
  | .eraseBracketStep .. => Part.event ++ [.flash, .pigeonholes, .integrity, .freeValues, .regs 7]
  | .minRunExpiry .. | .resumeHeldOperation .. | .holdMaxExpiry .. | .rebuildWindowEnd .. => [.flash]
  | .guardedReeraseRelease .. | .rangeWalkEnd => Part.event ++ [.flash, .pigeonholes, .integrity, .regs 7]
  | .recalPeriodExpiry .. => [.flash, .outputs, .regs 15]
  | .forceGapExpiry .. => [.flash, .outputs]
  | .trainErrWindowEnd .. => Part.event ++ [.flash, .regs 14, .regs 15, .routeStates]
  | .modPresentChange .. => Part.memory ++ [.security, .regs 8, .regs 15]
  | .safeToRemove .. => [.regs 15]
  | .routeReimage .. => [.image, .descs, .flash, .regs 15, .regs 17]
  | .decoderCoreFree .. => [.flash, .readChannel]
  | .decoderSelfTestDue .. | .decoderCheckerFault .. => Part.event ++ [.flash, .readChannel, .regs 9]
  | .calibrate .. => Part.event ++ [.descs, .flash, .readChannel, .regs 7, .regs 9]
  | .calibrationEnd .. => Part.event ++ [.descs, .flash, .readChannel, .freeValues, .regs 9, .regs 17]
  | .getCal .. => [.boundary, .descs, .outputs, .regs 12]
  | .setCal .. => [.descs, .readChannel, .regs 7]
  | .scan .. => Part.event ++ [.descs, .sorting, .regs 7, .regs 10]
  | .scanStart .. => [.sorting, .regs 10]
  | .itemFetch .. => [.sorting, .regs 7]
  | .laneEvaluateDone .. => [.sorting]
  | .positionRetire .. => Part.event ++ [.boundary, .flash, .readChannel, .sorting, .integrity, .regs 10, .regs 17]
  | .scanEnd .. => [.boundary, .descs, .sorting, .outputs, .regs 10, .regs 12]
  | .laneSelfTestDue .. | .laneFault .. => Part.event ++ [.sorting, .regs 10]
  | .sqDoorbell .. | .cqDoorbell .. => Part.event ++ [.security, .queues, .regs 6]
  | .entryFetch .. | .ownRecheckExpiry .. => Part.event ++ [.queues, .sram, .regs 7]
  | .admission => Part.memory ++ [.regs 6]
  | .completionWrite .. => [.boundary, .queues, .outputs, .regs 12]
  | .cqWriteAck .. => Part.event ++ [.queues, .descs]
  | .mailbagTimeout .. => [.queues]
  | .cqWriteError .. => Part.event ++ [.queues, .regs 6]
  | .createSq .. | .invalidateEntries .. => [.queues, .descs]
  | .createCq .. => [.notice, .queues, .descs]
  | .deleteSq .. => [.boundary, .queues, .descs, .flash, .sorting, .pigeonholes, .sram, .freeValues, .outputs, .regs 7, .regs 10,
      .regs 12]
  | .sqDeleteEnd .. | .deleteCq .. => [.queues, .descs, .regs 6]
  | .resumeQueue .. => [.boundary, .queues, .descs, .outputs, .regs 6, .regs 12]
  | .diagPing .. => [.descs]
  | .diagRegSnapshot .. => [.boundary, .descs, .outputs, .regs 7, .regs 12]
  | .diagNoticeTest .. => Part.event ++ [.descs]
  | .noticeArbitration .. => [.notice, .outputs]
  | .noticeAccept .. => [.notice, .regs 2]
  | .noticePopEnd .. => Part.event ++ [.freeValues, .regs 3]
  | .modTimerExpiry .. => [.notice]
  | .coreIdleChange .. | .redirectTimeout .. => [.notice, .outputs, .regs 2]
  | .writeBack .. => [.pigeonholes, .sram]
  | .patrolRoundStart .. => [.integrity]
  | .patrolReadDue .. => Part.event ++ [.flash, .integrity, .regs 8]
  | .deadLetterWrite | .dlWriteRetry => [.boundary, .integrity, .outputs, .regs 12]
  | .rebuild .. => Part.event ++ [.descs, .integrity, .regs 8]
  | .rebuildBaseBlock .. => Part.event ++ [.boundary, .image, .descs, .flash, .readChannel, .sorting, .pigeonholes, .integrity, .home,
      .freeValues, .regs 1, .regs 7, .regs 8, .regs 9, .regs 10, .regs 11, .regs 13, .regs 14, .regs 17, .modeCode, .routeStates]
  | .degradedChange => Part.event ++ [.image, .flash, .freeValues, .regs 1, .regs 8, .regs 13, .regs 14, .modeCode, .routeStates]
  | .postmarkTick | .holdoverExpiry | .ppsEdgeMissed => Part.event ++ [.postmark, .queues, .regs 5]
  | .ppsEdge .. => Part.event ++ [.security, .postmark, .queues, .regs 5]
  | .nowNsRead => [.outputs, .regs 5]
  | .beaconDue => [.boundary, .outputs, .regs 5, .regs 12]
  | .homeCommit .. => Part.event ++ [.descs, .flash, .pigeonholes, .integrity, .home, .regs 7, .regs 11]
  | .twinSelect .. => Part.event ++ [.flash, .readChannel, .integrity, .home, .regs 5, .regs 8, .regs 11, .regs 17]
  | .sealSet .. => Part.event ++ [.descs, .flash, .pigeonholes, .integrity, .home, .freeValues, .regs 7, .regs 11]
  | .sealUnlock .. => Part.event ++ [.descs, .home, .regs 7, .regs 11]
  | .sealLockoutExpiry .. => [.home]
  | .trainDone => Part.event ++ [.boundary, .image, .descs, .flash, .readChannel, .sorting, .integrity, .home, .freeValues, .regs 1,
      .regs 5, .regs 8, .regs 9, .regs 10, .regs 11, .regs 13, .regs 14, .regs 17, .modeCode, .routeStates]
  | .wakeTimerExpiry => [.boundary, .modeCtl, .security, .freeValues, .regs 0, .regs 12, .modeCode]
  | .watchWake .. => [.boundary, .modeCtl, .security, .freeValues, .regs 0, .regs 2, .regs 12, .modeCode]
  | .dbgSessionExpiry => Part.event ++ [.regs 13, .secCode]
  | .dbgWinData3Write .. => Part.event ++ [.pigeonholes, .sram, .regs 13]
  | .xtalSilent | .agingMeasure .. => Part.event ++ [.boundary, .security, .freeValues, .modeCode]
  | .timeRefSilent | .portBufferHalfEmpty .. | .crystalEdgesReturn => [.boundary]
  | .dramPortStall .. => [.boundary, .regs 12]
  | .dramSrRise => [.regs 12]
  | .dramSrExitAck => [.boundary, .outputs, .regs 12]
  | .aliveToggle => [.boundary, .outputs]
  | .fabricWriteAcknowledgement .. => Part.memory ++ [.regs 5, .regs 8]

/-- The commands that may change the mode, or its cause for SAFE: mode machine, resets, supply, a read of an SRAM word that may be lost
(R268), and the writes that wait on a clock (R344 to R357). -/
def movesMode : Instr → Bool
  | .registerWrite .. | .expertKeyWrite .. | .imgLoad .. | .imgFetchDone .. | .imgApply .. | .imgDiscard .. | .routeDrainEnd .. |
  .drainLimitExpiry .. | .seamTimeout .. | .seamCopyDone .. | .statusPollDue .. | .rbnRise .. | .dieOpTimeout .. | .program .. |
  .programStripe .. | .rowMemberProgramStart .. | .flushStripe .. | .guardWaitExpiry .. | .erase .. | .trainingStart .. |
  .trainingStepDone .. | .vccqGoodTimeout .. | .recalNow .. | .recalPhaseDone .. | .trainingBurst .. | .downReq .. |
  .modPresentChange .. | .vccqFault .. | .envelopeReceived .. | .headerReceived .. | .driftEstimate .. | .decodeDone .. |
  .positionAdmit .. | .admission | .adminEnable .. | .adminResume .. | .read .. | .readHeaders .. | .copy .. | .bufferFault .. |
  .letterbox .. | .noticeEoi .. | .noticeFastEoi .. | .stackReset .. | .scrubRead .. | .scrubDeadline .. | .loadPigeonhole .. |
  .lockWays .. | .unlockWays .. | .reconContextTake .. | .reconstruction .. | .spareAreaWrite .. | .dlHeadWrite .. | .dlCfgEnable .. |
  .retireDie .. | .rebuildBaseBlock .. | .degradedChange | .stepPermit .. | .timeRestart .. | .peerReadDue .. | .modeRequest .. |
  .pendingRequestJudge | .modeEntered | .powerOn | .bringupDone .. | .trainDone | .wakeTimerExpiry | .watchWake .. | .sealFuseCommand .. |
  .lockdownCommand .. | .keyStoreCheck .. | .tamperAssert | .dbgAuth .. | .dbgAuthDone .. | .dbgEnd .. | .dbgLevelWrite .. |
  .dbgWinData0Read | .vinLevelChange .. | .junctionSample .. | .resetAssert .. | .xtalSilent | .agingMeasure .. | .srHoldExpiry |
  .fabricWriteAcknowledgement .. => true
  | _ => false

/-- The commands that may change the security state or the debug level (R358 to R368). -/
def movesSecurity : Instr → Bool
  | .registerWrite .. | .expertKeyWrite .. | .imgLoad .. | .imgApply .. | .imgDiscard .. | .seamTimeout .. | .seamCopyDone .. |
  .trainingStart .. | .recalNow .. | .downReq .. | .adminEnable .. | .adminResume .. | .letterbox .. | .noticeEoi .. | .noticeFastEoi .. |
  .stackReset .. | .spareAreaWrite .. | .dlHeadWrite .. | .dlCfgEnable .. | .stepPermit .. | .timeRestart .. | .peerReadDue .. |
  .modeRequest .. | .pendingRequestJudge | .modeEntered | .powerOn | .sealFuseCommand .. | .lockdownCommand .. | .keyStoreCheck .. |
  .tamperAssert | .dbgAuth .. | .dbgAuthDone .. | .dbgEnd .. | .dbgSessionExpiry | .dbgLevelWrite .. | .vinLevelChange .. |
  .junctionSample .. | .resetAssert .. | .srHoldExpiry => true
  | _ => false

/-- The commands that may change the state of a route (R51, R115 to R126): an apply that SAFE ends releases the routes it drains. -/
def movesRoutes : Instr → Bool
  | .registerWrite .. | .expertKeyWrite .. | .imgLoad .. | .imgFetchDone .. | .imgApply .. | .imgDiscard .. | .routeDrainEnd .. |
  .drainLimitExpiry .. | .seamTimeout .. | .seamCopyDone .. | .statusPollDue .. | .rbnRise .. | .dieOpTimeout .. | .program .. |
  .programStripe .. | .rowMemberProgramStart .. | .flushStripe .. | .guardWaitExpiry .. | .erase .. | .trainingStart .. |
  .trainingStepDone .. | .vccqGoodTimeout .. | .recalNow .. | .recalPhaseDone .. | .trainingBurst .. | .trainErrWindowEnd .. |
  .downReq .. | .modPresentChange .. | .vccqFault .. | .envelopeReceived .. | .headerReceived .. | .driftEstimate .. | .decodeDone .. |
  .positionAdmit .. | .admission | .adminEnable .. | .adminResume .. | .read .. | .readHeaders .. | .copy .. | .bufferFault .. |
  .letterbox .. | .noticeEoi .. | .noticeFastEoi .. | .stackReset .. | .scrubRead .. | .scrubDeadline .. | .loadPigeonhole .. |
  .lockWays .. | .unlockWays .. | .reconContextTake .. | .reconstruction .. | .spareAreaWrite .. | .dlHeadWrite .. | .dlCfgEnable .. |
  .retireDie .. | .rebuildBaseBlock .. | .degradedChange | .stepPermit .. | .timeRestart .. | .peerReadDue .. | .modeRequest .. |
  .pendingRequestJudge | .modeEntered | .powerOn | .bringupDone .. | .trainDone | .sealFuseCommand .. | .lockdownCommand .. |
  .keyStoreCheck .. | .tamperAssert | .dbgAuth .. | .dbgAuthDone .. | .dbgEnd .. | .dbgLevelWrite .. | .dbgWinData0Read |
  .vinLevelChange .. | .junctionSample .. | .resetAssert .. | .srHoldExpiry | .fabricWriteAcknowledgement .. => true
  | _ => false

/-- What an invariant of every command says of a state, for the fuses `f` and the output `o` it began with: the register file is
canonical, no fuse but the seal has changed and a blown seal is still blown, and what had left the block is where it was. -/
def StateInv (f : Fuses) (o : List Output) (s : State) : Prop :=
  s.regs.wf regReset = true ∧ s.fuses = { f with sealBlown := s.fuses.sealBlown } ∧ (f.sealBlown = true → s.fuses.sealBlown = true) ∧
    o <+: s.out

end Sys2Proof.Machine
end

