-- ==== Sys2Proof/Certificates/Slice0/Obligations.lean ====
section
/-! DEFINITION. The statements about the block, for the provers. -/

open Sys2Proof Sys2Proof.Machine

/-! ### Register accesses -/

/-- R388, R389: an access that the map refuses is logged, and a read of a reserved offset returns zero. -/
def Obligations.RefusedAccessesAreLogged : Prop :=
  (∀ (s : State) (off : Nat) (w : Bool), s.answers = true → off % 4 = 0 → off < 2 ^ 20 → regRow? off = none →
    ∃ t, exec (.reservedOffsetAccess off w) s = .next t ∧ t.getR R.ERR_COUNT = s.getR R.ERR_COUNT + 1 ∧
      (t.getR R.ERR_ADDR).toNat = off + 2 ^ 20 * b2n w + 2 ^ 21 * 2 ∧ t.getF ⟨R.ERR_CAUSE, 1, 1⟩ = 1 ∧
      (w = false → t.out.getLast? = some (.regData off 0))) ∧
  (∀ (s : State) (off : Nat) (w : Bool), s.answers = true → off < 2 ^ 20 →
    ∃ t, exec (.widthRejectedAccess off w) s = .next t ∧ t.getR R.ERR_COUNT = s.getR R.ERR_COUNT + 1 ∧
      (t.getR R.ERR_ADDR).toNat = off + 2 ^ 20 * b2n w + 2 ^ 21 * 1 ∧ t.getF ⟨R.ERR_CAUSE, 0, 1⟩ = 1 ∧
      t.out.getLast? = some (.regError off))

/-- R9 with Table 0-2: a write that reaches its register stores the RW fields and the unlocked RWX and RWL fields, clears the W1C bits and
sets the W1S bits that it writes as ones, leaves every other bit and every other register, and touches nothing else. -/
def Obligations.PlainWriteFollowsAccessCodes : Prop :=
  ∀ (s : State) (off : Nat) (v : W32) (row : RegRow), s.takes off → regRow? off = some row → actsOnWrite off = false →
    (v.toNat ^^^ (s.getR off).toNat) &&& s.lockedMask row = 0 →
    ∃ t, exec (.registerWrite off v) s = .next t ∧
      (∀ i, i < 32 → (t.getR off).toNat.testBit i =
        (((if (row.rw ||| row.rwx ||| row.rwl).testBit i then v.toNat.testBit i else (s.getR off).toNat.testBit i) &&
          !(v.toNat.testBit i && row.w1c.testBit i)) || (v.toNat.testBit i && row.w1s.testBit i))) ∧
      (∀ x, x ≠ off → t.getR x = s.getR x) ∧ Frame (may [.regs (regGroup off)]) s t

/-- R12 with Table 0-2: while expert access is closed a write that would change an RWX field leaves the register as it was and is logged
as LOCKED; the registers named hold RWX fields alone. R12: the key 0x5A17 opens expert access, any other value closes it; a chip in
LOCKDOWN keeps it closed. Nothing else changes. -/
def Obligations.ExpertAccessGuardsItsFields : Prop :=
  (∀ (s : State) (off : Nat) (v : W32) (row : RegRow), s.takes off → s.expertOpen = false →
     off ∈ [R.PM_HOLD_X, R.Q_X, R.MI_X, R.FI_X, R.RC_DEC_X, R.SO_X, R.HB_X, R.PWR_BND_X] → regRow? off = some row →
     (v.toNat ^^^ (s.getR off).toNat) &&& row.rwx ≠ 0 →
     ∃ t, exec (.registerWrite off v) s = .next t ∧ t.getR off = s.getR off ∧ t.getR R.ERR_COUNT = s.getR R.ERR_COUNT + 1 ∧
       t.getF ⟨R.ERR_CAUSE, 2, 1⟩ = 1) ∧
  (∀ (s : State) (v : W32), s.takes R.EXPERT_KEY →
     ∃ t, exec (.expertKeyWrite v) s = .next t ∧
       t.getF F.SEC_STATUS_EXPERT_OPEN = (if v.toNat = 0x5A17 ∧ s.secState ≠ 3 then 1 else 0) ∧
       (∀ x, x ≠ R.SEC_STATUS → t.getR x = s.getR x) ∧ Frame (may [.regs 13]) s t)

/-! ### Images -/

/-- R45, R50, R56: a LOAD is honoured in IMAGE, SERVICE, DEGRADED and MAINT outside a fetch, a verification or an apply: it empties
staging and starts the fetch. During one of those it is ignored and logged. R51, R56: in IMAGE an APPLY of a staged image goes to the
seam. A DISCARD in FETCHING, VERIFYING, STAGED or REJECTED empties staging and leaves STATE EMPTY with CAUSE 0, the active image
untouched. -/
def Obligations.ImageCommandsActOrAreRefused : Prop :=
  (∀ (s : State) (v : W32), s.takes R.IMG_CTRL → v.toNat % 8 = 1 → s.secState ≠ 3 →
     (s.getF F.IMG_STATUS_STATE ∈ [0, 3, 6, 7] → s.modeNow ∈ [2, 4, 5, 11] →
       ∃ t, exec (.imgLoad v) s = .next t ∧ t.getF F.IMG_STATUS_STATE = 1 ∧ t.getF F.IMG_STATUS_CAUSE = 0 ∧ t.img.staging = [] ∧
         t.img.active = s.img.active ∧ Frame (may [.image, .modeCtl, .regs 1]) s t) ∧
     (s.getF F.IMG_STATUS_STATE ∈ [1, 2, 4, 5] →
       ∃ t, exec (.imgLoad v) s = .next t ∧ t.getF F.IMG_STATUS_STATE = s.getF F.IMG_STATUS_STATE ∧ t.img = s.img ∧
         t.getF ⟨R.ERR_CAUSE, 3, 1⟩ = 1 ∧ t.getR R.ERR_COUNT = s.getR R.ERR_COUNT + 1)) ∧
  ((∀ (s : State) (v : W32), s.takes R.IMG_CTRL → v.toNat % 8 = 2 → s.secState ≠ 3 → s.modeNow = 2 → s.getF F.IMG_STATUS_STATE = 3 →
     ∃ t, exec (.imgApply v) s = .next t ∧ t.getF F.IMG_STATUS_STATE = 5 ∧ t.img.staging = s.img.staging ∧
       t.img.active = s.img.active ∧ Frame (may [.image, .regs 1]) s t) ∧
   (∀ (s : State) (v : W32), s.takes R.IMG_CTRL → v.toNat % 8 = 4 → s.getF F.IMG_STATUS_STATE ∈ [1, 2, 3, 7] →
     ∃ t, exec (.imgDiscard v) s = .next t ∧ t.getF F.IMG_STATUS_STATE = 0 ∧ t.getF F.IMG_STATUS_CAUSE = 0 ∧ t.img.staging = [] ∧
       t.img.active = s.img.active ∧ Frame (may [.image, .regs 1]) s t))

/-- R45: a clean fetch puts LEN bytes, at most 256 KiB, into staging and starts the verification; a fabric error rejects with FETCH_ERROR.
Either way the active image is unchanged. R45: the verification of Table 2-5 ends STAGED, or REJECTED with the cause and section of its
first failing check; the active image and the configuration in force are unchanged. -/
def Obligations.ImagesAreFetchedAndVerified : Prop :=
  (∀ (s : State) (data : Bytes), s.getF F.IMG_STATUS_STATE = 1 →
     (∃ t, exec (.imgFetchDone data 0) s = .next t ∧ t.getF F.IMG_STATUS_STATE = 2 ∧
       t.img.staging = slice data 0 (min 262144 (s.getF F.IMG_LEN_LEN)) ∧ t.img.active = s.img.active) ∧
     (∃ t, exec (.imgFetchDone data 1) s = .next t ∧ t.getF F.IMG_STATUS_STATE = 7 ∧ t.getF F.IMG_STATUS_CAUSE = 0x01 ∧
       t.getF F.IMG_STATUS_SECTION = 0xFF ∧ t.img.staging = [] ∧ t.img.active = s.img.active)) ∧
  (∀ (s : State), s.getF F.IMG_STATUS_STATE = 2 → s.mode.watchImage = false →
     ∃ t, exec .imgVerifyDone s = .next t ∧ t.img.active = s.img.active ∧ t.img.cfg = s.img.cfg ∧
       (match s.imgVerify s.img.staging with
         | none => t.getF F.IMG_STATUS_STATE = 3 ∧ t.img.staging = s.img.staging
         | some (cause, sec) => t.getF F.IMG_STATUS_STATE = 7 ∧ t.getF F.IMG_STATUS_CAUSE = cause % 256 ∧
             t.getF F.IMG_STATUS_SECTION = sec % 256 ∧ t.img.staging = []))

/-- R53: in service the boundary of a seam is reached once no decoder core has an envelope any more; then the seam ends with the new image in
force. Where it is not reached in time the seam is abandoned with SEAM_TIMEOUT under the old image. LAST records both. -/
def Obligations.SeamEndsUnderNewOrOldImage : Prop :=
  ∀ (s : State) (cycles : Nat), s.getF F.IMG_STATUS_STATE = 5 → s.modeNow ≠ 2 → s.sec.heldWrites = [] →
    ((∀ e ∈ s.rc.cores, e.2 = none) →
      ∃ t, exec .seamBoundaryReached s = .next t ∧ t.img = { s.img with boundary := true } ∧ Frame (may [.image]) s t) ∧
    ((∃ e ∈ s.rc.cores, e.2 ≠ none) → exec .seamBoundaryReached s = .next s) ∧
    (s.img.boundary = false →
      ∃ t, exec (.seamTimeout cycles) s = .next t ∧ t.getF F.IMG_STATUS_STATE = 7 ∧ t.getF F.IMG_STATUS_CAUSE = 0x10 ∧
        t.getF F.IMG_SEAM_TIME_LAST = cycles % 2 ^ 20 ∧ t.img.active = s.img.active ∧ t.img.cfg = s.img.cfg ∧ t.img.draining = []) ∧
    (s.img.boundary = true → s.mode.watchImage = false →
      ∃ t, exec (.seamCopyDone cycles) s = .next t ∧ t.getF F.IMG_STATUS_STATE = 6 ∧ t.getF F.IMG_SEAM_TIME_LAST = cycles % 2 ^ 20 ∧
        t.img.active = s.img.staging ∧ t.img.cfg = imgParse s.img.staging ∧ t.img.draining = [])

/-! ### Notices -/

/-- R249: a fire of an enabled idle source makes it pending; of a pending one, merges; of an active one, is lost and counted, the counter
saturating at 0xFFFF; of a disabled source, is dropped. A write to the letterbox of a source from 64 on is such a fire (R248). -/
def Obligations.FiresFollowSourceState : Prop :=
  (∀ (s : State) (src : Nat), src < 256 → ¬(19 ≤ src ∧ src ≤ 31) →
    (s.srcEn src = false → exec (.sourceFire src) s = .next s) ∧
    (s.srcEn src = true → s.srcActive src = true →
      ∃ t, exec (.sourceFire src) s = .next t ∧ t.getF (F.NTC_LOST_COUNT src) = min 0xFFFF (s.getF (F.NTC_LOST_COUNT src) + 1) ∧
        t.srcActive src = true ∧ t.srcPend src = s.srcPend src) ∧
    (s.srcEn src = true → s.srcActive src = false → s.srcPend src = true →
      ∃ t, exec (.sourceFire src) s = .next t ∧ Frame (may [.notice]) s t) ∧
    (s.srcEn src = true → s.srcActive src = false → s.srcPend src = false →
      ∃ t, exec (.sourceFire src) s = .next t ∧ t.srcPend src = true ∧ t.srcActive src = false ∧
        ∀ x, x < 256 → x ≠ src → t.srcPend x = s.srcPend x)) ∧
  (∀ (s : State) (v : W32), s.takes R.LETTERBOX →
    (64 ≤ v.toNat → v.toNat < 256 → ∃ t, exec (.letterbox v) s = .next t ∧ exec (.sourceFire v.toNat) s = .next t) ∧
    (v.toNat < 64 → ∃ t, exec (.letterbox v) s = .next t ∧ t.getF ⟨R.ERR_CAUSE, 3, 1⟩ = 1 ∧ t.getR R.ERR_COUNT = s.getR R.ERR_COUNT + 1))

/-- R254: an accept pushes the presented source onto the core's stack, sets it active, clears its pending bit and drops NTC_REQ. R256: an
end of notice that names the top of the stack, in the bank of its class, clears that source's active bit and pops the stack; nothing is
presented to the core until the pop ends. Any other source is a stack fault: the stack stays, the core freezes. R257: a write of 1 to bit
c of `ENS_NTC_STACK_RESET` empties that core's stack, clears its fault register and unfreezes it, and leaves every pending bit and every
other core as they were. -/
def Obligations.AcceptsAndEndsMoveTheStack : Prop :=
  (∀ (s : State) (c src : Nat), src < 256 → (s.core c).presented = some src →
     ∃ t, exec (.noticeAccept c) s = .next t ∧ (t.core c).presented = none ∧
       (t.core c).stack = (src, if (s.core c).fast then 16 else s.srcLevel src) :: (s.core c).stack ∧
       t.srcActive src = true ∧ t.srcPend src = false ∧
       (∀ x, x < 256 → x ≠ src → t.srcActive x = s.srcActive x ∧ t.srcPend x = s.srcPend x) ∧
       (∀ e, e ≠ c → t.core e = s.core e) ∧ Frame (may [.notice, .regs 2]) s t) ∧
  ((∀ (s : State) (c top lvl : Nat) (v : W32) (rest : List (Nat × Nat)), c < 8 → s.takes (R.NTC_EOI c) →
     (s.core c).stack = (top, lvl) :: rest → lvl ≠ 16 → v.toNat = top → top < 256 →
     ∃ t, exec (.noticeEoi c v) s = .next t ∧ (t.core c).stack = rest ∧ (t.core c).popping = true ∧ t.srcActive top = false ∧
       t.srcPend top = s.srcPend top ∧ (∀ e, e ≠ c → t.core e = s.core e) ∧ Frame (may [.notice, .regs 2]) s t) ∧
   (∀ (s : State) (c top : Nat) (v : W32) (rest : List (Nat × Nat)), c < 8 → s.takes (R.NTF_EOI c) →
     (s.core c).stack = (top, 16) :: rest → v.toNat = top → top < 256 →
     ∃ t, exec (.noticeFastEoi c v) s = .next t ∧ (t.core c).stack = rest ∧ (t.core c).popping = true ∧ t.srcActive top = false ∧
       t.srcPend top = s.srcPend top ∧ (∀ e, e ≠ c → t.core e = s.core e) ∧ Frame (may [.notice, .regs 2]) s t)) ∧
  (∀ (s : State) (c : Nat) (v : W32), c < 8 → s.takes R.NTC_STACK_RESET → v.toNat = 2 ^ c →
     ∃ t, exec (.stackReset v) s = .next t ∧ (t.core c).stack = [] ∧ (t.core c).frozen = false ∧ t.getR (R.NTF_FAULT c) = 0 ∧
       (∀ e ∈ (s.core c).stack, t.srcActive e.1 = false) ∧ (∀ x, x < 256 → t.srcPend x = s.srcPend x) ∧ (∀ e, e ≠ c → t.core e = s.core e) ∧
       Frame (may [.notice, .regs 2, .regs 3]) s t)

/-- R252: arbitration presents, to a core with no presentation and no pop under way, the source it picks; the source picked is presentable
and no presentable source has a higher level, nor an equal one and a lower number, an idle core's held sources being released first
(R258). R255: a presentation that is no longer presentable is withdrawn, and one of a lower level gives way to the source picked. The end
of a pop presents at once (R256); a parity error that it finds in the new top is a stack fault with cause 3 (R257). -/
def Obligations.ArbitrationPresentsTheHighestSource : Prop :=
  (∀ (s u : State) (c x : Nat), c < 8 → u = s.releaseIdle c → (s.core c).popping = false → x < 256 → u.presentable c x = true →
    (∀ y, y < 256 → u.presentable c y = true → s.srcLevel y < s.srcLevel x ∨ (s.srcLevel y = s.srcLevel x ∧ x ≤ y)) →
    ((s.core c).presented = none ∨
      (∃ p, (s.core c).presented = some p ∧ u.presentable c p = true ∧ s.srcLevel p < s.srcLevel x)) →
    ∃ t, exec (.noticeArbitration c) s = .next t ∧ (t.core c).presented = some x ∧ (t.core c).stack = (s.core c).stack ∧
      t.out = s.out ++ [.present c (s.vector x) (s.srcFast x)] ∧ (∀ e, e ≠ c → t.core e = s.core e) ∧
      Frame (may [.notice, .outputs]) s t) ∧
  (∀ (s : State) (c p : Nat), c < 8 → (s.core c).popping = false → (s.core c).presented = some p →
    (s.releaseIdle c).presentable c p = false →
    ∃ t, exec (.noticeArbitration c) s = .next t ∧ t.core c = { s.core c with presented := none } ∧ t.out = s.out ++ [.withdraw c] ∧
      (∀ e, e ≠ c → t.core e = s.core e) ∧ Frame (may [.notice, .outputs]) s t) ∧
  (∀ (s : State) (c : Nat), c < 8 → (s.core c).popping = true →
    (∃ t, exec (.noticePopEnd c false) s = .next t ∧
      exec (.noticeArbitration c) (s.setCore c { s.core c with popping := false }) = .next t ∧
      (t.core c).popping = false ∧ (t.core c).stack = (s.core c).stack ∧ Frame (may [.notice, .outputs]) s t) ∧
    (∃ t, exec (.noticePopEnd c true) s = .next t ∧ (t.core c).popping = false ∧ (t.core c).stack = (s.core c).stack ∧
      (t.core c).frozen = true ∧ t.getF (F.NTF_FAULT_CAUSE c) = 3))

/-- R258: the end of a group's timer releases every held source of the group and restarts its count and its timer; nothing but the notice
office's own state changes. R258, R260: a core's idle signal is taken as it crossed. Its rise releases the held sources delivered to the
core while idle bypass is on; its fall ends the redirections away from it. R260: once the redirect timeout of a pending, unwatched source
has run while its target sleeps, its delivery core is the fallback core; where that sleeps too `ENS_NTC_STRANDED` increments once for
each source that is stranded so and was not counted. A watched source keeps its target, whose wake is requested. -/
def Obligations.HeldAndSleepingSourcesAreDelivered : Prop :=
  (∀ (s : State) (g : Nat), g ∈ s.ntc.timing →
     ∃ t, exec (.modTimerExpiry g) s = .next t ∧ (∀ x, x < 256 → s.srcPend x = true → s.srcGroup x = g → x ∈ t.ntc.released) ∧
       (∀ x, x ∈ s.ntc.released → x ∈ t.ntc.released) ∧ g ∉ t.ntc.timing ∧ tget (fun _ => 0) t.ntc.counts g = 0 ∧
       Frame (may [.notice]) s t) ∧
  ((∀ (s : State) (c : Nat), c < 8 →
     ∃ t, exec (.coreIdleChange c true) s = .next t ∧ (t.core c).idle = true ∧ (∀ e, e ≠ c → t.core e = s.core e) ∧
       (s.getF F.NTC_X_IDLE_BYPASS_OFF = 0 → ∀ x, x < 256 → t.srcPend x = true → t.delivery x = c → x ∈ t.ntc.released) ∧
       Frame (may [.notice, .outputs, .regs 2]) s t) ∧
   (∀ (s : State) (c : Nat), c < 8 →
     ∃ t, exec (.coreIdleChange c false) s = .next t ∧ (t.core c).idle = false ∧ (∀ e, e ≠ c → t.core e = s.core e) ∧
       (∀ x, x ∈ t.ntc.redirected ↔ x ∈ s.ntc.redirected ∧ s.srcTarget x ≠ c) ∧ Frame (may [.notice]) s t)) ∧
  (∀ (s : State) (src : Nat), src < 256 → s.srcPend src = true → s.sleeps (s.srcTarget src) = true →
     (s.srcWatch src = true →
       ∃ t, exec (.redirectTimeout src) s = .next t ∧ t.out = s.out ++ [.pmWake (s.srcTarget src)] ∧ t.delivery src = s.srcTarget src ∧
         Frame (may [.outputs]) s t) ∧
     (s.srcWatch src = false → s.getF F.NTC_X_REDIRECT_OFF = 0 →
       ∃ t, exec (.redirectTimeout src) s = .next t ∧ t.delivery src = s.getF F.NTC_CFG_FALLBACK ∧
         src ∈ t.ntc.redirected ∧ t.getR R.NTC_STRANDED = s.getR R.NTC_STRANDED + BitVec.ofNat 32
           (if s.sleeps (s.getF F.NTC_CFG_FALLBACK) = true then
             (t.ntc.redirected.filter fun x => s.srcPend x && !s.srcWatch x && s.sleeps (s.srcTarget x) && !s.ntc.stranded.contains x).length
           else 0)))

/-! ### Postmarks -/

/-- R310, R314: with the counter running at the nominal rate, one TIME cycle moves it on by 8 ns, nanoseconds rolling over into seconds at
10^9; while a slew runs, what is left of it falls, and a counter whose edges have kept it locked locks as the slew ends (Table 14-2). With
the time reference silent the counter stands still (R316). -/
def Obligations.PostmarkAdvancesEachTick : Prop :=
  (∀ s : State, s.timeRuns = true → s.pm.stepNs = 0 → s.pm.slew = 0 → s.pm.r = 0 → s.pm.frac < 2 ^ 32 → s.pm.ns < 10 ^ 9 →
    s.pm.sec + 1 < 2 ^ 48 →
    ∃ t, exec .postmarkTick s = .next t ∧ t.pm.sec * 10 ^ 9 + t.pm.ns = s.pm.sec * 10 ^ 9 + s.pm.ns + 8 ∧ t.pm.ns < 10 ^ 9 ∧
      t.pm.frac = s.pm.frac ∧ Frame (may [.postmark]) s t) ∧
  (∀ s : State, s.timeRuns = true → s.pm.stepNs = 0 → s.pm.slew ≠ 0 →
    ∃ t, exec .postmarkTick s = .next t ∧ t.pm.slew < s.pm.slew ∧ t.pm.f = s.pm.f ∧ t.pm.lockRun = s.pm.lockRun ∧
      (t.pm.slew ≠ 0 → s.pm.own ≠ 3 → t.pm.own = s.pm.own) ∧
      (t.pm.slew = 0 → s.pm.own ≠ 0 → s.pm.refusing = false → max 1 (s.getF F.PM_HOLD_X_LOCK_COUNT) ≤ s.pm.lockRun → t.pm.own = 3)) ∧
  (∀ s : State, s.bnd.timeRefOk = false → exec .postmarkTick s = .next s)

/-- R312 row 1 with Table 14-2: at a valid edge of an UNSET counter the counter takes the edge's time, of any size, and is set from then
on. A missed edge ends the lock and holds the counter over at its held frequency; a holdover that has lasted HOLD_MAX ends FREE. R316,
R323, Table 14-7: a write of 1 sets STEP_PERMIT; a silent reference stops the TIME domain and nothing else; at its return the counter
holds what it held at the stop plus the elapsed ticks of 1/32,768 s, FREE unless it was never set, with any slew cleared. -/
def Obligations.TimeIsSetHeldAndRestarted : Prop :=
  ((∀ (s : State) (tod tu gap : Nat), s.timeRuns = true → s.pm.own = 0 → s.pm.firstEdge = true → 0 < tu → tu < 4 → tod < 2 ^ 48 →
     ∃ t, exec (.ppsEdge tod tu gap) s = .next t ∧ t.pm.sec = tod ∧ t.pm.ns = 0 ∧ t.pm.own ≠ 0 ∧
       t.getF F.PM_STATUS_TU_QUALITY = tu) ∧
   (∀ s : State, s.timeRuns = true → s.pm.own = 3 →
     ∃ t, exec .ppsEdgeMissed s = .next t ∧ t.pm.own = 2 ∧ t.pm.lockRun = 0 ∧ t.pm.r = s.pm.f ∧ t.pm.ns = s.pm.ns ∧ t.pm.sec = s.pm.sec) ∧
   (∀ s : State, s.pm.own = 2 →
     ∃ t, exec .holdoverExpiry s = .next t ∧ t.pm = { s.pm with own := 1 } ∧ t.getF F.PM_STATUS_QUALITY = t.pmQuality)) ∧
  ((∀ (s : State) (v : W32), s.takes R.PM_CTRL → v.toNat.testBit 0 = true →
     ∃ t, exec (.stepPermit v) s = .next t ∧ t.getF F.PM_CTRL_STEP_PERMIT = 1 ∧
       t.getF F.PM_CTRL_PERMIT_ALWAYS = bits v.toNat 1 1 ∧ t.getF F.PM_CTRL_EVENT_EN = bits v.toNat 2 6 ∧ Frame (may [.regs 5]) s t) ∧
   (∀ s : State, s.answers = true →
     ∃ t, exec .timeRefSilent s = .next t ∧ t.timeRuns = false ∧ Frame (may [.boundary]) s t) ∧
   (∀ (s : State) (ticks : Nat), s.bnd.timeRefOk = false → s.answers = true → s.sec.heldWrites = [] →
     s.pm.sec * 10 ^ 9 * 2 ^ 32 + s.pm.ns * 2 ^ 32 + s.pm.frac + ticks * 10 ^ 9 * 2 ^ 17 < 2 ^ 48 * 10 ^ 9 * 2 ^ 32 →
     ∃ t, exec (.timeRestart ticks) s = .next t ∧ t.timeRuns = true ∧ t.pm.slew = 0 ∧ t.pm.own = (if s.pm.own = 0 then 0 else 1) ∧
       t.pm.sec * 10 ^ 9 * 2 ^ 32 + t.pm.ns * 2 ^ 32 + t.pm.frac =
         s.pm.sec * 10 ^ 9 * 2 ^ 32 + s.pm.ns * 2 ^ 32 + s.pm.frac + ticks * 10 ^ 9 * 2 ^ 17))

/-- R318, R319, R323: a read of NOW_NS latches the whole counter and answers postmark bits [31:0]; each beacon has the next sequence, 32
bytes with the magic of Table 14-4, and is written to the beacon address; a peer slot that shows a valid record with a new sequence is
back, and one whose third read in a row shows none lapses. -/
def Obligations.TimeIsReadAndExchanged : Prop :=
  (∀ s : State, s.answers = true →
    ∃ t, exec .nowNsRead s = .next t ∧ t.out = s.out ++ [.regData R.PM_NOW_NS (BitVec.ofNat 32 s.postmark)] ∧
      (t.getR R.PM_NOW_SEC_LO).toNat = s.postmark / 2 ^ 32 % 2 ^ 32 ∧ (t.getR R.PM_NOW_SEC_HI).toNat = s.postmark / 2 ^ 64 % 2 ^ 32 ∧
      Frame (may [.outputs, .regs 5]) s t) ∧
  (∀ s : State, s.beaconsOn = true → s.getF F.PWR_DRAM_SR = 0 →
    ∃ t b, exec .beaconDue s = .next t ∧ t.getR R.PM_BCN_SEQ = s.getR R.PM_BCN_SEQ + 1 ∧
      t.out = s.out ++ dramOuts s.pieces [(s.getF F.PM_BCN_LO_ADDR * 64 + s.getF F.PM_BCN_HI_ADDR * 2 ^ 32, b)] ∧ b.length = 32 ∧
      slice b 0 4 = [0x45#8, 0x4E#8, 0x53#8, 0x42#8] ∧ field b 8 4 = (s.getR R.PM_BCN_SEQ + 1).toNat ∧
      Frame (may [.outputs, .regs 5]) s t) ∧
  (∀ (s : State) (i : Nat) (b : Bytes), s.beaconsOn = true → i < 16 → s.getF (F.PM_PEER_LO_EN i) = 1 → peerValid b = true →
    (tget (fun _ => ({} : Peer)) s.pm.peers i).seq ≠ some (field b 8 4) →
    ∃ t, exec (.peerReadDue i b 0) s = .next t ∧
      tget (fun _ => ({} : Peer)) t.pm.peers i = { seq := some (field b 8 4), misses := 0 } ∧ t.getF ⟨R.PM_PEER_STATUS, i, 1⟩ = 0) ∧
  (∀ (s : State) (i : Nat) (b : Bytes), s.beaconsOn = true → i < 16 → s.getF (F.PM_PEER_LO_EN i) = 1 →
    2 ≤ (tget (fun _ => ({} : Peer)) s.pm.peers i).misses →
    ∃ t, exec (.peerReadDue i b 1) s = .next t ∧ t.getF ⟨R.PM_PEER_STATUS, i, 1⟩ = 1)

/-! ### Security and debug -/

/-- R362: in OPEN and MAINT the seal command blows the seal fuse, seals the part at once and sets the debug level to NONE; in any other
state or mode it is ignored and logged, and the fuse is as it was. R368: TAMPER#, a key store fault and the lockdown command, each with
its own cause, latch LOCKDOWN, end any debug session, close expert access, zero the nonce, zero every seal's salt and hash and set every
used seal to NO_ACCESS; outside BRINGUP the controller is in SAFE with cause 7. A LOCKDOWN in force keeps its cause. -/
def Obligations.SecurityCommandsSealAndLock : Prop :=
  ((∀ (s : State) (v : W32), s.takes R.SEC_CTRL → v.toNat = 0x5EA10F32 → s.secState = 0 → s.modeNow = 11 →
     ∃ t, exec (.sealFuseCommand v) s = .next t ∧ t.fuses = { s.fuses with sealBlown := true } ∧ t.secState = 1 ∧ t.dbgLevel = 0 ∧
       Frame (may [.sealFuse, .regs 13, .secCode]) s t) ∧
   (∀ (s : State) (v : W32), s.takes R.SEC_CTRL → v.toNat = 0x5EA10F32 → ¬(s.secState = 0 ∧ s.modeNow = 11) →
     ∃ t, exec (.sealFuseCommand v) s = .next t ∧ t.fuses = s.fuses ∧ t.secState = s.secState ∧ t.getF ⟨R.ERR_CAUSE, 3, 1⟩ = 1 ∧
       t.getR R.ERR_COUNT = s.getR R.ERR_COUNT + 1)) ∧
  (∀ (s : State) (c : Instr) (cause : Nat),
     ((c = .tamperAssert ∧ cause = 1 ∧ s.answers = true ∧ s.sec.heldWrites = []) ∨
       (c = .keyStoreCheck true ∧ cause = 2 ∧ s.answers = true ∧ s.sec.heldWrites = []) ∨
       (c = .lockdownCommand 0x10CD0A11#32 ∧ cause = 3 ∧ s.takes R.SEC_CTRL)) →
     (s.secState ≠ 3 →
       ∃ t, exec c s = .next t ∧ t.secState = 3 ∧ t.dbgLevel = 0 ∧ t.getF F.SEC_STATUS_LOCK_CAUSE = cause ∧ t.expertOpen = false ∧
         t.sec.nonceFrom = none ∧
         (∀ e ∈ t.hb.seals, (∀ b ∈ e.2.salt, b = 0) ∧ (∀ b ∈ e.2.hash, b = 0) ∧ (e.2.state ≠ 0 → e.2.live = 3)) ∧
         (s.modeNow = 1 → t.modeNow = 1) ∧
         (s.modeNow ≠ 1 → s.modeNow ≠ 10 → t.modeNow = 10 ∧ t.getF F.MODE_SAFE_CAUSE = 7)) ∧
     (s.secState = 3 → exec c s = .next s))

/-- R364: AUTH in SEALED starts the verification; a failed one is counted, up to five, and an accepted token opens a session at its level
for its duration; either way a new nonce is drawn. R363, R365: END, and the session's time running out, end a session: level NONE, state
SEALED, SESSION_END raised. In OPEN a write to LEVEL sets the debug level. Each second takes one from the session's time and from each
seal's lockout (R340), whose last second lasts until its own command (the model's choice, log 15). -/
def Obligations.DebugSessionsOpenAndEnd : Prop :=
  ((∀ (s : State) (v : W32), s.takes R.DBG_CTRL → s.secState = 1 → v.toNat % 16 = 1 + 4 * s.dbgLevel → s.getF F.SEC_STATUS_AUTH_FAILS < 5 →
     ∃ t, exec (.dbgAuth v) s = .next t ∧ t.getF F.DBG_CTRL_AUTH = 1 ∧ t.secState = 1 ∧ Frame (may [.regs 13]) s t) ∧
   (∀ (s : State) (token : Bytes), s.answers = true → s.getF F.DBG_CTRL_AUTH = 1 → s.secState = 1 →
     ∃ t, exec (.dbgAuthDone token 0) s = .next t ∧ t.getF F.DBG_CTRL_AUTH = 0 ∧ t.sec.nonceFrom = some s.freeCtr ∧
       (s.tokenOk token = true →
         t.secState = 2 ∧ t.dbgLevel = field token 5 1 ∧ t.getF F.DBG_REMAIN_SECONDS = field token 8 4) ∧
       (s.tokenOk token = false →
         t.secState = 1 ∧ t.getF F.SEC_STATUS_AUTH_FAILS = min 5 (s.getF F.SEC_STATUS_AUTH_FAILS + 1)))) ∧
  ((∀ (s : State) (c : Instr), s.secState = 2 →
     (c = .dbgSessionExpiry ∨ (∃ v, c = .dbgEnd v ∧ v.toNat % 16 = 2 ∧ s.takes R.DBG_CTRL)) →
     ∃ t, exec c s = .next t ∧ t.secState = 1 ∧ t.dbgLevel = 0 ∧ t.getF F.DBG_REMAIN_SECONDS = 0 ∧ t.getF F.SEC_EVENT_SESSION_END = 1 ∧
       (s.modeNow = 9 → s.mode.target = none → t.mode.target = some (s.getF F.MODE_PREV))) ∧
   (∀ (s : State) (v : W32), s.takes R.DBG_CTRL → s.secState = 0 → v.toNat % 4 = 0 → bits v.toNat 2 2 ≠ 3 →
     ∃ t, exec (.dbgLevelWrite v) s = .next t ∧ t.dbgLevel = bits v.toNat 2 2 ∧ t.secState = 0 ∧
       Frame (may [.modeCtl, .regs 0, .regs 13, .secCode]) s t) ∧
   (∀ s : State, s.modeNow ≠ 0 →
     ∃ t, exec (.keyStoreCheck false) s = .next t ∧ t.getF F.DBG_REMAIN_SECONDS = s.getF F.DBG_REMAIN_SECONDS - 1 ∧
       t.hb.seals = s.hb.seals.map (fun e => (e.1, { e.2 with lockout := if 1 < e.2.lockout then e.2.lockout - 1 else e.2.lockout })) ∧
       Frame (may [.home, .regs 13]) s t))

/-! ### Boundary -/

/-- R373, R375, R378: below 1.62 V the controller is at once in OFF with reset cause 2 and nothing is presented; between its levels the
supply only sets the guard's and the high-supply conditions. A critical junction at the tenth sample in a row is SAFE with cause 8; a mild
one is shown and decides TEMP_HIGH. -/
def Obligations.SupplyAndTemperatureAct : Prop :=
  (∀ (s : State) (uv : Nat), s.answers = true → 1000000 ≤ uv → uv < 1620000 →
    ∃ t, exec (.vinLevelChange uv) s = .next t ∧ t.modeNow = 0 ∧ t.getF F.PWR_RESET_CAUSE = 2 ∧ t.descs = [] ∧ t.img.active = [] ∧
      t.bnd.vinUv = uv ∧ (∀ c, (t.core c).presented = none) ∧ t.fuses = s.fuses) ∧
  (∀ (s : State) (uv : Nat), s.answers = true → 1730000 ≤ uv → uv ≤ 1870000 →
    ∃ t, exec (.vinLevelChange uv) s = .next t ∧ t.bnd = { s.bnd with vinUv := uv, vinLow := false, vinHigh := false } ∧
      Frame (may [.boundary, .regs 12, .regs 14]) s t) ∧
  (∀ (s : State) (readings : List Int) (x : Int), s.answers = true → s.sec.heldWrites = [] → readings.length = 8 →
    (∀ y ∈ readings, -55 ≤ y ∧ y ≤ x) → x ∈ readings → 170 ≤ x → x ≤ 175 → 9 ≤ s.bnd.critRun → s.modeNow ≠ 1 → s.modeNow ≠ 10 →
    ∃ t, exec (.junctionSample readings) s = .next t ∧ t.modeNow = 10 ∧ t.getF F.MODE_SAFE_CAUSE = 8 ∧
      t.getF F.PWR_BND_EVENT_TEMP_CRIT = 1 ∧ t.getF F.PWR_TEMP_JUNCTION = x.toNat ∧ t.getF F.PWR_TEMP_FAULT_MASK = 0) ∧
  (∀ (s : State) (readings : List Int) (x : Int), s.answers = true → s.sec.heldWrites = [] → readings.length = 8 →
    (∀ y ∈ readings, -55 ≤ y ∧ y ≤ x) → x ∈ readings → x < 100 →
    ∃ t, exec (.junctionSample readings) s = .next t ∧ t.getF F.PWR_TEMP_JUNCTION = (x % 512).toNat ∧ t.bnd.critRun = 0 ∧
      t.bnd.wasBelow = true ∧ t.getF F.PWR_TEMP_FAULT_MASK = 0 ∧ t.modeNow = s.modeNow)

/-- R372, R377, R384: a silent crystal leaves the timekeeper on the RC and raises XTAL_FAIL, and its edges end that; a silent fabric
response raises FAB_TIMEOUT; each island's aging margin is shown as measured, held at its field's top, and one below the limit raises
AGING_WARN; the heartbeat toggles. -/
def Obligations.ClocksAgingAndHeartbeat : Prop :=
  (∀ s : State, s.answers = true → s.bnd.xtalOk = true →
    ∃ t, exec .xtalSilent s = .next t ∧ t.bnd = { s.bnd with xtalOk := false } ∧ t.getF F.PWR_BND_EVENT_XTAL_FAIL = 1) ∧
  (∀ s : State, s.modeNow ≠ 0 →
    ∃ t, exec .crystalEdgesReturn s = .next t ∧ t.bnd = { s.bnd with xtalOk := true } ∧ Frame (may [.boundary]) s t) ∧
  (∀ s : State, s.answers = true → ∃ t, exec .fabResponseTimeout s = .next t ∧ t.getF F.PWR_BND_EVENT_FAB_TIMEOUT = 1) ∧
  (∀ (s : State) (i v : Nat), s.answers = true → i < 4 →
    ∃ t, exec (.agingMeasure i v) s = .next t ∧ t.getF (F.PWR_AGING_MARGIN i) = min 1023 v ∧
      (v < s.getF F.PWR_BND_X_AGING_MIN → t.getF F.PWR_BND_EVENT_AGING_WARN = 1) ∧
      (s.getF F.PWR_BND_X_AGING_MIN ≤ v → Frame (may [.regs 12]) s t)) ∧
  (∀ s : State, s.answers = true →
    ∃ t, exec .aliveToggle s = .next t ∧ t.bnd = { s.bnd with alive := !s.bnd.alive } ∧ t.out = s.out ++ [.alive (!s.bnd.alive)] ∧
      Frame (may [.boundary, .outputs]) s t)

/-- R381, R382: a stalled port pauses the routes that wait on it until its buffer is half empty; what the controller would write while
DRAM_SR is high is held, in order, and issued at the acknowledged exit; a hold of 2 ms raises SR_HOLD and enters SAFE with cause 6. R125:
the filtered MOD_PRESENT signal is shown and raises MOD_CHANGE, and a module that leaves takes its route DOWN with cause 2. -/
def Obligations.PortsAndModulesAreFollowed : Prop :=
  ((∀ (s : State) (port routes : Nat), s.answers = true → port < s.bnd.stalled.length → port < 2 →
     (∃ t, exec (.dramPortStall port routes) s = .next t ∧ t.bnd.stalled.getD port 0 = routes ∧
       t.getR R.PWR_CNT_STALL = s.getR R.PWR_CNT_STALL + 1 ∧ Frame (may [.boundary, .regs 12]) s t) ∧
     (∃ t, exec (.portBufferHalfEmpty port) s = .next t ∧ t.bnd.stalled.getD port 0 = 0 ∧ Frame (may [.boundary]) s t)) ∧
   (∀ s : State, s.answers = true →
     ∃ t, exec .dramSrRise s = .next t ∧ t.getF F.PWR_DRAM_SR = 1 ∧ Frame (may [.regs 12]) s t ∧
       ∀ (a : Nat) (b : Bytes), (t.fab a b).out = t.out ∧ (t.fab a b).bnd.held = t.bnd.held ++ dramOuts t.pieces [(a, b)]) ∧
   (∀ s : State, s.getF F.PWR_DRAM_SR = 1 →
     ∃ t, exec .dramSrExitAck s = .next t ∧ t.out = s.out ++ s.bnd.held ∧ t.bnd = { s.bnd with held := [] } ∧ t.getF F.PWR_DRAM_SR = 0 ∧
       t.getF F.PWR_DRAM_HOLDING = 0 ∧ Frame (may [.boundary, .outputs, .regs 12]) s t) ∧
   (∀ s : State, s.getF F.PWR_DRAM_HOLDING = 1 → s.sec.heldWrites = [] → s.answers = true → s.modeNow ≠ 1 → s.modeNow ≠ 10 →
     ∃ t, exec .srHoldExpiry s = .next t ∧ t.getF F.PWR_BND_EVENT_SR_HOLD = 1 ∧ t.modeNow = 10 ∧ t.getF F.MODE_SAFE_CAUSE = 6)) ∧
  (∀ (s : State) (r : Nat), r < 32 → s.answers = true → s.modeNow ≠ 1 →
     (s.getF (F.RT_PHY_STATUS_MOD_PRESENT r) = 0 →
       ∃ t, exec (.modPresentChange r true) s = .next t ∧ t.getF (F.RT_PHY_STATUS_MOD_PRESENT r) = 1 ∧
         t.getF (F.RT_PHY_EVENT_MOD_CHANGE r) = 1 ∧ t.routeSt r = s.routeSt r) ∧
     (s.getF (F.RT_PHY_STATUS_MOD_PRESENT r) = 1 → s.routeSt r ≠ 0 →
       ∃ t, exec (.modPresentChange r false) s = .next t ∧ t.getF (F.RT_PHY_EVENT_MOD_CHANGE r) = 1 ∧ t.routeSt r = 0 ∧
         t.getF (F.RT_PHY_STATUS_DOWN_CAUSE r) = 2))

/-! ### Modes -/

/-- R348 with Tables 16-2 and 16-3, for a request by either port, `ENS_MODE_REQ` or the power manager: one that arrives during a change is
BUSY; one that names the current mode completes at once; in SERVICE and DEGRADED, QUIESCE and MAINT are accepted, HALT only at INTRUSIVE,
and every other mode but SAFE is refused as no mode to go to; SAFE is entered at once from every running mode. -/
def Obligations.ModeRequestsAreJudged : Prop :=
  ∀ (s : State) (v : W32) (pm : Bool), s.answers = true → s.sec.heldWrites = [] → (pm = false → s.takes R.MODE_REQ) →
    s.getF F.MODE_REQ_PENDING = 0 →
    (s.getF F.MODE_CHANGING = 1 →
      ∃ t, exec (.modeRequest v pm) s = .next t ∧ t.getF F.MODE_REQ_RESULT = 5 ∧ t.modeNow = s.modeNow ∧
        (s.mode.target ≠ none → t.mode.target = s.mode.target)) ∧
    (s.getF F.MODE_CHANGING = 0 → s.modeHeld (v.toNat % 16) = false →
      (v.toNat % 16 = s.modeNow →
        ∃ t, exec (.modeRequest v pm) s = .next t ∧ t.getF F.MODE_REQ_RESULT = 0 ∧ t.modeNow = s.modeNow) ∧
      ((s.modeNow = 4 ∨ s.modeNow = 5) →
        (v.toNat % 16 ∈ [6, 11] ∨ (v.toNat % 16 = 9 ∧ s.dbgLevel = 2) →
          ∃ t, exec (.modeRequest v pm) s = .next t ∧ t.mode.target = some (v.toNat % 16) ∧ t.getF F.MODE_CHANGING = 1 ∧
            t.modeNow = s.modeNow ∧ t.getF F.MODE_REQ_SOURCE = b2n pm) ∧
        (v.toNat % 16 = 9 → s.dbgLevel ≠ 2 →
          ∃ t, exec (.modeRequest v pm) s = .next t ∧ t.getF F.MODE_REQ_RESULT = 3 ∧ t.modeNow = s.modeNow ∧ t.mode = s.mode) ∧
        (v.toNat % 16 ∈ [0, 1, 2, 3, 7, 8, 12, 13, 14, 15] →
          ∃ t, exec (.modeRequest v pm) s = .next t ∧ t.getF F.MODE_REQ_RESULT = 1 ∧ t.modeNow = s.modeNow ∧ t.mode = s.mode)) ∧
      (v.toNat % 16 = 10 → s.modeNow ≠ 1 → s.modeNow ≠ 10 →
        ∃ t, exec (.modeRequest v pm) s = .next t ∧ t.modeNow = 10 ∧ t.getF F.MODE_SAFE_CAUSE = 9 ∧ t.getF F.MODE_REQ_RESULT = 0))

/-- R349, R350: a request that is held is judged once nothing holds it any more; an accepted change completes in its mode, with the mode
before in PREV, result 0 and no change under way. WATCH keeps the image's digest and loses the queues, the descriptors and the image. -/
def Obligations.RequestsWaitAndChangesComplete : Prop :=
  (∀ (s : State) (q : ModeReq), s.mode.held = some q → s.modeHeld q.mode = false → s.getF F.MODE_CHANGING = 0 → s.sec.heldWrites = [] →
    (s.modeNow = 4 ∨ s.modeNow = 5) → q.mode ∈ [6, 11] →
    ∃ t, exec .pendingRequestJudge s = .next t ∧ t.getF F.MODE_REQ_PENDING = 0 ∧ t.mode.held = none ∧ t.mode.target = some q.mode ∧
      t.getF F.MODE_CHANGING = 1 ∧ t.modeNow = s.modeNow) ∧
  (∀ (s : State) (m : Nat), s.mode.target = some m → m ∈ [3, 6, 7, 9, 11] → s.sec.heldWrites = [] → s.modeNow ≠ 7 →
    (m = 7 → s.writesSettled = true) →
    ∃ t, exec .modeEntered s = .next t ∧ t.modeNow = m ∧ t.getF F.MODE_PREV = s.modeNow ∧ t.getF F.MODE_REQ_RESULT = 0 ∧
      t.getF F.SEC_STATUS_EXPERT_OPEN = 0 ∧ (m ≠ 7 → t.getF F.MODE_CHANGING = 0 ∧ t.mode.target = none)) ∧
  (∀ s : State, s.mode.target = some 8 → s.writesSettled = true → s.modeNow = 6 →
    ∃ t, exec .modeEntered s = .next t ∧ t.modeNow = 8 ∧ t.getF F.MODE_PREV = 6 ∧ t.q = {} ∧ t.descs = [] ∧ t.img.active = [] ∧
      t.mode.keptDigest = Config.sha384 s.img.active ∧ t.getF F.SEC_STATUS_EXPERT_OPEN = 0 ∧ t.fuses = s.fuses)

/-- R373, R378, R379, R362: RESET_N and SUPPLY_GOOD, once low, enter OFF at once with reset cause 1; OFF is left for BRINGUP only with the
supply, the rails and both inputs good, in the security state of the fuse unless LOCKDOWN is latched. -/
def Obligations.ResetsEnterOffAndPowerOnLeavesIt : Prop :=
  (∀ (s : State) (kind : Nat), s.answers = true → kind < 2 → 1000000 ≤ s.bnd.vinUv →
    ∃ t, exec (.resetAssert kind) s = .next t ∧ t.modeNow = 0 ∧ t.getF F.PWR_RESET_CAUSE = 1 ∧ t.descs = [] ∧ t.q = {} ∧ t.img = {} ∧
      t.bnd.resetN = (s.bnd.resetN && kind ≠ 0) ∧ t.bnd.supplyGood = (s.bnd.supplyGood && kind ≠ 1) ∧
      (s.secState = 3 → t.secState = 3) ∧ t.fuses = s.fuses) ∧
  (∀ s : State,
    (∃ t, exec (.resetAssert 2) s = .next t ∧ t.bnd = { s.bnd with resetN := true } ∧ Frame (may [.boundary]) s t) ∧
    (∃ t, exec (.resetAssert 3) s = .next t ∧ t.bnd = { s.bnd with supplyGood := true } ∧ Frame (may [.boundary]) s t)) ∧
  (∀ s : State, s.modeNow = 0 → 1710000 ≤ s.bnd.vinUv → s.bnd.railsGood = true → s.bnd.supplyGood = true → s.bnd.resetN = true →
    ∃ t, exec .powerOn s = .next t ∧ t.modeNow = 1 ∧ t.getF F.SEC_STATUS_EXPERT_OPEN = 0 ∧ t.dbgLevel = 0 ∧
      t.secState = (if s.secState = 3 then 3 else b2n s.fuses.sealBlown) ∧ t.sec.nonceFrom = some s.freeCtr ∧ t.img = {} ∧
      t.fuses = s.fuses) ∧
  (∀ s : State, s.modeNow = 0 → s.bnd.resetN = false → exec .powerOn s = .next s)

/-- R272, R350, R351, R110, R336: clean self-tests of a part that is not in LOCKDOWN end BRINGUP in IMAGE; a failing checker ends it in
SAFE with cause 1. TRAIN ends in SERVICE or, where a condition of Table 13-5 holds, DEGRADED; too many torn erases end it in SAFE with
cause 3, and home blocks that are lost with cause 4. -/
def Obligations.BringupAndTrainEnd : Prop :=
  (∀ s : State, s.modeNow = 1 → s.secState ≠ 3 → s.bnd.vinUv ≤ 1980000 → s.getF F.MODE_WOKE = 0 → s.rc.retired.length < 68 →
    s.so.laneBad.length < 34 →
    ∃ t, exec (.bringupDone false [] [] []) s = .next t ∧ t.modeNow = 2 ∧ t.getF F.MODE_PREV = 1 ∧ t.getF F.MI_BIST_PASS = 1 ∧
      t.getF F.MI_BIST_DONE = 1) ∧
  (∀ s : State, s.modeNow = 1 → s.secState ≠ 3 →
    ∃ t, exec (.bringupDone true [] [] []) s = .next t ∧ t.modeNow = 10 ∧ t.getF F.MODE_SAFE_CAUSE = 1 ∧ t.getF F.MI_BIST_PASS = 0) ∧
  (∀ s : State, s.modeNow = 3 → s.mode.target = none → s.hb.imgGen = none →
    (∀ r, r < 32 → (s.route r).train = 0 ∧ (s.routeOn r = true → r ∈ s.seq.scanned)) → s.getF F.HB_STATUS_OUTCOME ≠ 0 →
    (s.seq.overflow = true →
      ∃ t, exec .trainDone s = .next t ∧ t.modeNow = 10 ∧ t.getF F.MODE_SAFE_CAUSE = 3) ∧
    (s.seq.overflow = false → 3 ≤ s.getF F.HB_STATUS_OUTCOME →
      ∃ t, exec .trainDone s = .next t ∧ t.modeNow = 10 ∧ t.getF F.MODE_SAFE_CAUSE = 4) ∧
    (s.seq.overflow = false → s.getF F.HB_STATUS_OUTCOME < 3 → s.mode.watchImage = false →
      ∃ t, exec .trainDone s = .next t ∧ t.modeNow = (if s.degCause = 0 then 4 else 5) ∧ t.getF F.FI_STATUS_DEG_CAUSE = s.degCause))

/-- R353, R356: the power manager's wake request, a watched source and the wake timer leave WATCH for BRINGUP with WOKE set and their
cause recorded, and take HOLD towards QUIESCE. R307: SERVICE and DEGRADED follow the conditions of Table 13-5. -/
def Obligations.WakesAndDegradedChanges : Prop :=
  (∀ (s : State) (c : Instr) (cause : Nat), s.modeNow = 8 →
    ((c = .watchWake 1 0 ∧ cause = 1) ∨ (c = .wakeTimerExpiry ∧ cause = 3 ∧ s.getR R.PWR_WAKE_TIMER ≠ 0)) →
    ∃ t, exec c s = .next t ∧ t.modeNow = 1 ∧ t.getF F.MODE_PREV = 8 ∧ t.getF F.MODE_WOKE = 1 ∧ t.getF F.PWR_WAKE_CAUSE = cause ∧
      Frame (may [.modeCtl, .security, .freeValues, .regs 0, .modeCode, .regs 12]) s t) ∧
  (∀ (s : State) (src : Nat), s.modeNow = 8 → (src = 2 ∨ (32 ≤ src ∧ src < 64)) → s.srcWatch src = true →
    ∃ t, exec (.watchWake 2 src) s = .next t ∧ t.modeNow = 1 ∧ t.getF F.PWR_WAKE_CAUSE = 2 ∧ t.getF F.PWR_WAKE_SOURCE = src ∧
      t.srcPend src = true) ∧
  (∀ (s : State) (c : Instr) (cause : Nat), s.modeNow = 7 → s.mode.target = none →
    ((c = .watchWake 1 0 ∧ cause = 1) ∨ (c = .wakeTimerExpiry ∧ cause = 3 ∧ s.getR R.PWR_WAKE_TIMER ≠ 0)) →
    ∃ t, exec c s = .next t ∧ t.modeNow = 7 ∧ t.mode.target = some 6 ∧ t.getF F.MODE_CHANGING = 1 ∧ t.getF F.PWR_WAKE_CAUSE = cause ∧
      Frame (may [.modeCtl, .regs 0, .regs 12]) s t) ∧
  (∀ s : State, s.mode.target = none →
    (s.modeNow = 4 → s.degCause ≠ 0 →
      ∃ t, exec .degradedChange s = .next t ∧ t.modeNow = 5 ∧ t.getF F.MODE_PREV = 4 ∧ t.getF F.FI_STATUS_DEG_CAUSE = s.degCause) ∧
    (s.modeNow = 5 → s.degCause = 0 →
      ∃ t, exec .degradedChange s = .next t ∧ t.modeNow = 4 ∧ t.getF F.MODE_PREV = 5 ∧ t.getF F.FI_STATUS_DEG_CAUSE = 0))

/-! ### Queues -/

/-- R206, R207, R216: a tail doorbell that hands over entries moves the tail and counts them; a head doorbell within the unreleased
completions moves the head; a value not below the ring size is ignored and logged. -/
def Obligations.DoorbellsMoveTheRings : Prop :=
  (∀ (s : State) (n : Nat) (v : W32) (own : Bool) (q : SQ), n < 1024 → s.answers = true → s.modeNow ≠ 7 → (s.modeNow = 10 → n = 0) →
    s.getF F.IMG_STATUS_STATE ≠ 5 → s.sq n = some q → q.deleting = false →
    (v.toNat < q.size → (v.toNat + q.size - q.tail) % q.size ≠ 0 → (v.toNat + q.size - q.tail) % q.size ≤ q.size - q.count →
      ∃ t x, exec (.sqDoorbell n v own) s = .next t ∧ t.sq n = some x ∧ x.tail = v.toNat ∧ x.head = q.head ∧
        x.count = q.count + (v.toNat + q.size - q.tail) % q.size ∧
        x.batches = q.batches ++ [(s.q.stamp, (v.toNat + q.size - q.tail) % q.size)] ∧ (∀ m, m ≠ n → t.sq m = s.sq m) ∧
        Frame (may [.queues]) s t) ∧
    (q.size ≤ v.toNat →
      ∃ t, exec (.sqDoorbell n v own) s = .next t ∧ t.q = s.q ∧ t.getR R.Q_DB_COUNT = s.getR R.Q_DB_COUNT + 1 ∧
        t.getF F.Q_EVENT_DB_IGNORED = 1)) ∧
  (∀ (s : State) (n : Nat) (v : W32) (c : CQ), n < 1024 → s.answers = true → s.modeNow ≠ 7 → (s.modeNow = 10 → n = 0) →
    s.getF F.IMG_STATUS_STATE ≠ 5 → s.cq n = some c → v.toNat < c.size → (v.toNat + c.size - c.head) % c.size ≤ c.unreleased →
    ∃ t, exec (.cqDoorbell n v) s = .next t ∧ t.cq n = some { c with head := v.toNat } ∧ (∀ m, m ≠ n → t.cq m = s.cq m) ∧
      Frame (may [.queues]) s t)

/-- R205, R208: within the limits of a fetch the next entry's fetch begins. When one arrives, or the recheck of a waiting slot reads it,
an entry with OWN at 1 is cached at the next slot, one with OWN at 0 waits to be read again, and what was being fetched behind it is
discarded; one whose read failed is cached with its stop cause. R209: a fetch whose copy was dropped is discarded as it arrives. R210,
R212: the descriptor at the head of the queue that admission grants is admitted: it has the next number and its SQ's place in order, and
the ring's head moves on. An entry with a stop cause stops its queue instead, and is logged. -/
def Obligations.EntriesAreCachedAndAdmitted : Prop :=
  (∀ (s : State) (n resp : Nat) (q : SQ) (b : Bytes), s.sq n = some q → s.admits n = true → q.stopped = false → q.deleting = false →
     q.cache.length + q.fetching < q.count → q.cache.length + q.fetching < clampNat 1 16 (s.getF F.Q_X_PREFETCH) → s.cachedCount < 2048 →
     q.ownWait = false →
     ∃ t, exec (.entryFetch n b resp true) s = .next t ∧ t.sq n = some { q with fetching := q.fetching + 1 } ∧ (∀ m, m ≠ n → t.sq m = s.sq m) ∧
       Frame (may [.queues]) s t) ∧
  (∀ (s : State) (n : Nat) (q p : SQ) (b : Bytes) (c : Nat → Instr), s.sq n = some q →
     (((∀ resp, c resp = .entryFetch n b resp) ∧ s.coreRuns = true ∧ q.stale = [] ∧ 0 < q.fetching ∧
         p = { q with fetching := q.fetching - 1 }) ∨
       ((∀ resp, c resp = .ownRecheckExpiry n b resp) ∧ s.fetches n q = true ∧ q.ownWait = true ∧ p = q)) →
     (bit (field b 1 1) 7 = true →
       ∃ t, exec (c 0) s = .next t ∧ t.sq n =
           some { p with ownWait := false, cache := q.cache ++ [{ slot := (q.head + q.cache.length) % q.size, bytes := slice b 0 64 }] } ∧
         Frame (may [.queues, .sram]) s t) ∧
     (bit (field b 1 1) 7 = false →
       ∃ t, exec (c 0) s = .next t ∧
         t.sq n = some { p with ownWait := true, fetching := 0, stale := p.stale ++ p.fetchSlots.map (fun x => (x + 1) % p.size) } ∧
         Frame (may [.queues, .sram]) s t) ∧
     (∃ t, exec (c 1) s = .next t ∧ t.sq n =
         some { p with ownWait := false, cache := q.cache ++ [{ slot := (q.head + q.cache.length) % q.size, bytes := [], bad := 5 }] } ∧
       Frame (may [.queues, .sram]) s t)) ∧
  (∀ (s : State) (n slot : Nat) (q : SQ) (b : Bytes) (l : List Nat), s.sq n = some q → s.coreRuns = true → q.stale = slot :: l →
     ∃ t, exec (.entryFetch n b 0) s = .next t ∧ t.sq n = some { q with stale := l } ∧ Frame (may [.queues]) s t) ∧
  (∀ (s : State) (n ptr : Nat) (q : SQ) (e : Cached) (l : List Cached), s.admitPick = some (n, ptr) → n < 1024 → s.sq n = some q →
     q.cache = e :: l →
     (s.entryCause n e = 0 →
       ∃ t x d, exec .admission s = .next t ∧ t.sq n = some x ∧ x.head = (q.head + 1) % q.size ∧ x.count = q.count - 1 ∧ x.cache = l ∧
         x.order = q.order ++ [s.seq.nextId] ∧ x.stopped = q.stopped ∧ d ∈ t.descs ∧ d.id = s.seq.nextId ∧
         (field e.bytes 0 1 ∉ [0x01, 0x02, 0x07, 0x48, 0x70] →
           t.descs = s.descs ++ [d] ∧ d.sq = n ∧ d.bytes = e.bytes ∧ d.started = false)) ∧
     (s.entryCause n e ≠ 0 →
       ∃ t x d, exec .admission s = .next t ∧ t.sq n = some x ∧ x.stopped = true ∧ x.cache = [] ∧ x.order = q.order ++ [s.seq.nextId] ∧
         t.descs = s.descs ++ [d] ∧ d.id = s.seq.nextId ∧ d.status = some 0x041 ∧ t.getBit (R.Q_STOPPED 0) n = true ∧
         t.getF F.Q_EVENT_QUEUE_STOP = 1 ∧ (t.getR R.Q_STOP_LOG).toNat = (e.slot + n * 2 ^ 16 + s.entryCause n e * 2 ^ 26) % 2 ^ 32))

/-- R216 to R219: the completion of the oldest descriptor of an SQ whose turn it is on its CQ, its batch closed and the OWN-clearing writes
of the SQ acknowledged, is written with Table 10-5's bytes to the CQ's tail slot, which moves on, the phase flipping at the wrap; one in no
mailbag is a batch of its own; a mailbag batch that times out closes with what has finished. R218, R221: an
acknowledged completion write releases its entry, and the notice follows the last write of a batch; a write that fails puts the CQ in
fault with its completion kept. -/
def Obligations.CompletionsAreWrittenAndEnd : Prop :=
  ((∀ (s : State) (n st w l : Nat) (q : SQ) (c : CQ) (d : Desc), s.sq n = some q → s.cq q.cq = some c →
     q.order.head?.bind s.desc? = some d → d.status = some st → s.writableAt q = some (w, l) → s.writesNext q.cq c = some n →
     s.writesOut = true → n ∉ s.q.owns → c.fault = false → c.inflight = none → c.unreleased < c.size - 1 → s.getF F.PWR_DRAM_SR = 0 →
     ∃ t, exec (.completionWrite n) s = .next t ∧
       t.out = s.out ++ dramOuts s.pieces [(c.base + 16 * c.tail,
         completionBytes (field d.bytes 2 2) q.head d.count (s.nowNs - d.admitNs) st n c.phase)] ∧
       t.cq q.cq = some { c with
         tail := (c.tail + 1) % c.size
         phase := if c.tail + 1 = c.size then !c.phase else c.phase
         batch := if l = 1 then none else some n
         inflight := some (n, decide (l = 1), c.base + 16 * c.tail,
           completionBytes (field d.bytes 2 2) q.head d.count (s.nowNs - d.admitNs) st n c.phase) } ∧
       t.sq n = some { q with mailHeld := l - 1 } ∧ (d.mailbag = false → q.mailHeld = 0 → l = 1) ∧
       Frame (may [.queues, .outputs]) s t) ∧
   (∀ (s : State) (n : Nat) (q : SQ), s.sq n = some q → q.mailHeld = 0 → batchLen q.quota (s.finishedRun q) 0 = none →
     ∃ t, exec (.mailbagTimeout n) s = .next t ∧
       t.sq n = some { q with mailHeld := (s.finishedRun q).length, closedAt := s.seq.nextId } ∧
       Frame (may [.queues, .flash]) s t)) ∧
  ((∀ (s : State) (n m a id : Nat) (last : Bool) (b : Bytes) (c : CQ) (q : SQ) (l : List Nat), s.cq n = some c →
     c.inflight = some (m, last, a, b) → c.fault = false → s.sq m = some q → q.order = id :: l →
     ∃ t, exec (.cqWriteAck n) s = .next t ∧ t.cq n = some { c with inflight := none } ∧ t.sq m = some { q with order := l, frontAt := s.seq.nextId } ∧
       t.descs = s.descs.filter (fun d => d.id ≠ id) ∧
       (last = true → 64 ≤ c.notice → c.notice < 256 → s.srcEn c.notice = true → s.srcActive c.notice = false →
         t.srcPend c.notice = true) ∧
       (last = false → Frame (may [.queues, .descs, .flash]) s t)) ∧
   (∀ (s : State) (n : Nat) (c : CQ), n < 1024 → s.cq n = some c → c.inflight ≠ none → c.fault = false →
     ∃ t, exec (.cqWriteError n) s = .next t ∧ t.cq n = some { c with fault := true } ∧ t.getBit (R.Q_CQ_FAULT 0) n = true ∧
       t.getF F.Q_EVENT_CQ_FAULT = 1))

/-- R220, R222 to R224: a queue within the limits of the image that its descriptor was admitted under (R55) is created empty as its
descriptor says; a CQ that no SQ is bound to is deleted; DELETE_SQ stops the fetching of its SQ and drops the cached entries, and the SQ
ceases to exist with its last entry. -/
def Obligations.QueuesAreCreatedAndDeleted : Prop :=
  (∀ (s : State) (id : Nat) (d : Desc), s.adminRuns id 0x41 d → 1 ≤ field d.bytes 4 2 → field d.bytes 4 2 ≤ d.limits.getD 1 0 →
    s.cq (field d.bytes 4 2) = none → 4 ≤ field d.bytes 16 1 → field d.bytes 16 1 ≤ d.limits.getD 2 0 →
    (field d.bytes 17 1 = 0 ∨ 64 ≤ field d.bytes 17 1) →
    ∃ t, exec (.createCq id) s = .next t ∧ t.ended id 0 0 ∧ Frame (may [.queues, .descs]) s t ∧
      t.cq (field d.bytes 4 2) = some { base := field d.bytes 8 8, k := field d.bytes 16 1, notice := field d.bytes 17 1 }) ∧
  (∀ (s : State) (id : Nat) (d : Desc) (c : CQ), s.adminRuns id 0x40 d → 1 ≤ field d.bytes 4 2 → field d.bytes 4 2 ≤ d.limits.getD 0 0 →
    s.sq (field d.bytes 4 2) = none → 4 ≤ field d.bytes 16 1 → field d.bytes 16 1 ≤ d.limits.getD 2 0 → field d.bytes 6 2 ≠ 0 →
    s.cq (field d.bytes 6 2) = some c → c.fault = false → 1 ≤ field d.bytes 18 2 → field d.bytes 18 2 ≤ 256 →
    s.quotaSum + field d.bytes 18 2 ≤ 4096 →
    ∃ t q, exec (.createSq id) s = .next t ∧ t.ended id 0 0 ∧ Frame (may [.queues, .descs]) s t ∧ t.sq (field d.bytes 4 2) = some q ∧
      q.base = field d.bytes 8 8 ∧ q.k = field d.bytes 16 1 ∧ q.cq = field d.bytes 6 2 ∧ q.quota = field d.bytes 18 2 ∧ q.head = 0 ∧
      q.tail = 0 ∧ q.order = []) ∧
  (∀ (s : State) (id : Nat) (d : Desc) (c : CQ), s.adminRuns id 0x43 d → s.cq (field d.bytes 4 2) = some c →
    s.boundSqs (field d.bytes 4 2) = [] →
    ∃ t, exec (.deleteCq id) s = .next t ∧ t.ended id 0 0 ∧ t.cq (field d.bytes 4 2) = none ∧ Frame (may [.queues, .descs, .regs 6]) s t) ∧
  (∀ (s : State) (id : Nat) (d : Desc) (q : SQ), s.adminRuns id 0x42 d → s.sq (field d.bytes 4 2) = some q → q.deleting = false →
    ∃ t x, exec (.deleteSq id) s = .next t ∧ t.sq (field d.bytes 4 2) = some x ∧ x.deleting = true ∧ x.cache = [] ∧ x.order = q.order) ∧
  (∀ (s : State) (n id : Nat) (q : SQ) (c : CQ) (d : Desc), s.sq n = some q → q.deleting = true → q.order = [] → s.cq q.cq = some c →
    c.fault = false → s.desc? id = some d → d.id = id → d.status = none → d.bufferFault = false →
    (s.descs.find? fun d => d.sq = 0 && d.op = 0x42 && d.started && d.status.isNone && field d.bytes 4 2 = n) = some d →
    ∃ t, exec (.sqDeleteEnd n) s = .next t ∧ t.sq n = none ∧ t.ended id 0 0 ∧ Frame (may [.queues, .descs, .regs 6]) s t)

/-- R209, R213, R225: RESUME_QUEUE clears an SQ's stop; INVALIDATE_ENTRIES drops an SQ's cached entries and what is being
fetched, and counts both; enabling the
admin queue opens its two rings at the registers' addresses, empty, and RESUME clears the admin SQ's stop. -/
def Obligations.QueuesAreResumedAndEnabled : Prop :=
  (∀ (s : State) (id : Nat) (d : Desc) (q : SQ), s.adminRuns id 0x44 d → field d.bytes 6 1 = 0 → s.sq (field d.bytes 4 2) = some q →
    q.deleting = false →
    ∃ t, exec (.resumeQueue id) s = .next t ∧ t.ended id 0 0 ∧ t.sq (field d.bytes 4 2) = some { q with stopped := false } ∧
      t.getBit (R.Q_STOPPED 0) (field d.bytes 4 2) = false ∧ Frame (may [.queues, .descs, .regs 6]) s t) ∧
  (∀ (s : State) (id : Nat) (d : Desc) (q : SQ), s.adminRuns id 0x45 d → field d.bytes 4 2 ≠ 0xFFFF → s.sq (field d.bytes 4 2) = some q →
    ∃ t, exec (.invalidateEntries id) s = .next t ∧ t.ended id 0 (q.cache.length + q.fetching) ∧
      t.sq (field d.bytes 4 2) = some { q with cache := [], ownWait := false, fetching := 0, stale := q.stale ++ q.fetchSlots } ∧
      Frame (may [.queues, .descs]) s t) ∧
  (∀ (s : State) (v : W32), s.takes R.Q_ADMIN_CFG → s.getF F.Q_ADMIN_CFG_EN = 0 → v.toNat.testBit 0 = true →
    v.toNat.testBit 1 = false →
    ∃ t q c, exec (.adminEnable v) s = .next t ∧ t.getF F.Q_ADMIN_CFG_EN = 1 ∧ t.sq 0 = some q ∧ t.cq 0 = some c ∧
      q.base = s.getF F.Q_ADMIN_SQ_LO_ADDR * 64 + s.getF F.Q_ADMIN_SQ_HI_ADDR * 2 ^ 32 ∧
      c.base = s.getF F.Q_ADMIN_CQ_LO_ADDR * 64 + s.getF F.Q_ADMIN_CQ_HI_ADDR * 2 ^ 32 ∧ q.head = 0 ∧ q.tail = 0 ∧ q.quota = 16 ∧
      c.head = 0 ∧ c.tail = 0 ∧ c.phase = true) ∧
  (∀ (s : State) (v : W32) (q : SQ) (c : CQ), s.takes R.Q_ADMIN_CFG → s.getF F.Q_ADMIN_CFG_EN = 1 → v.toNat.testBit 0 = true →
    v.toNat.testBit 1 = true → bits v.toNat 2 16 = bits (s.getR R.Q_ADMIN_CFG).toNat 2 16 → s.sq 0 = some q → s.cq 0 = some c →
    c.fault = false →
    ∃ t, exec (.adminResume v) s = .next t ∧ t.sq 0 = some { q with stopped := false } ∧ t.getBit (R.Q_STOPPED 0) 0 = false ∧
      t.cq 0 = some c ∧ Frame (may [.queues, .regs 6]) s t)

/-! ### Descriptors and memory -/

/-- R17, R231, R234, R237, R280: a read descriptor none of whose envelopes was decided at admission, and all of whose dies can be read,
starts one job an envelope, in order, each waiting with a page read for its die; READ_HEADERS reads headers alone, and READ takes its
ladder and reconstruction controls. -/
def Obligations.ReadsGoToTheirDies : Prop :=
  ∀ (s : State) (id : Nat) (d : Desc) (c : Instr) (hdr ladder recon : Bool),
    ((c = .read id ∧ s.ioRuns id 0x01 d ∧ hdr = false ∧ ladder = !bit (field d.bytes 4 1) 1 ∧ recon = !bit (field d.bytes 4 1) 2) ∨
      (c = .readHeaders id ∧ s.ioRuns id 0x02 d ∧ hdr = true ∧ ladder = true ∧ recon = true) ∨
      (c = .copy id ∧ s.ioRuns id 0x07 d ∧ hdr = false ∧ ladder = true ∧ recon = true) ∨
      (c = .loadPigeonhole id ∧ s.adminRuns id 0x48 d ∧ hdr = false ∧ ladder = true ∧ recon = true)) →
    0 < d.results.length → (∀ r ∈ d.results, r = none) → d.gone = [] →
    (∀ i, i < d.results.length → s.unreadable (field d.bytes 8 8 + i) true = none) →
    ∃ t e, exec c s = .next t ∧ t.desc? id = some e ∧ e = { d with started := true } ∧
      t.seq.jobs = s.seq.jobs ++ (List.range d.results.length).map (fun i =>
        ({ id := s.seq.nextId + i, ord := id, addr := field d.bytes 8 8 + i, dest := .desc id i, origin := .queue d.sq, header := hdr,
           ladder := ladder, recon := recon, phUse := d.fills, epoch := d.epoch } : Job)) ∧
      (∀ i, i < d.results.length → ∃ o ∈ t.seq.waiting, o.cls = 1 ∧ s.seq.nextId + i ∈ o.jobs ∧
        o.pages = [s.busAddr (4 * ((field d.bytes 8 8 + i) / 4))]) ∧
      Frame (may [.descs, .flash]) s t

/-- R240: DIAG's subcodes. PING completes OK; REG_SNAPSHOT writes the listed registers as a read shows them once the corrected units of its
list are counted (R273), or is MALFORMED for an offset that is none; NOTICE_TEST fires its source;
RAW_READ of a readable page waits for its die. -/
def Obligations.DiagSubcodesAct : Prop :=
  (∀ (s : State) (id : Nat) (d : Desc), s.adminRuns id 0x70 d → field d.bytes 4 1 = 0 →
    ∃ t, exec (.diagPing id) s = .next t ∧ t.ended id 0 0 ∧ Frame (may [.descs]) s t) ∧
  (∀ (s u : State) (id corr : Nat) (d : Desc) (list : Bytes), s.adminRuns id 0x70 d → field d.bytes 4 1 = 1 → s.getF F.PWR_DRAM_SR = 0 →
    u = s.dramReads corr →
    ((∀ i, i < field d.bytes 16 4 → field list (4 * i) 4 % 4 = 0 ∧ field list (4 * i) 4 < 2 ^ 20) →
      ∃ t, exec (.diagRegSnapshot id list corr) s = .next t ∧ t.ended id 0 (field d.bytes 16 4) ∧
        Frame (may [.descs, .outputs, .regs 7]) s t ∧ t.out = s.out ++ dramOuts s.pieces [(field d.bytes 20 8,
          (List.range (field d.bytes 16 4)).flatMap fun i => leBytes 4 (u.snapshot (field list (4 * i) 4)).toNat)]) ∧
    ((∃ i, i < field d.bytes 16 4 ∧ (field list (4 * i) 4 % 4 ≠ 0 ∨ 2 ^ 20 ≤ field list (4 * i) 4)) →
      ∃ t, exec (.diagRegSnapshot id list corr) s = .next t ∧ t.ended id St.malformed 0 ∧ Frame (may [.descs, .regs 7]) s t)) ∧
  (∀ (s : State) (id : Nat) (d : Desc), s.adminRuns id 0x70 d → field d.bytes 4 1 = 2 → field d.bytes 6 2 < 256 →
    ¬(19 ≤ field d.bytes 6 2 ∧ field d.bytes 6 2 ≤ 31) → s.srcEn (field d.bytes 6 2) = true → s.srcActive (field d.bytes 6 2) = false →
    ∃ t, exec (.diagNoticeTest id) s = .next t ∧ t.ended id 0 0 ∧ t.srcPend (field d.bytes 6 2) = true) ∧
  (∀ (s : State) (id : Nat) (d : Desc), s.adminRuns id 0x70 d → field d.bytes 4 1 = 3 → (∀ r ∈ d.results, r = none) → d.gone = [] →
    s.unreadable (field d.bytes 8 8) true = none →
    ∃ t j e, exec (.diagRawRead id) s = .next t ∧ t.seq.jobs = s.seq.jobs ++ [j] ∧ j.dest = .raw id ∧ j.addr = field d.bytes 8 8 ∧
      j.phase = .waitDie ∧ j.ladder = false ∧ j.recon = false ∧ t.desc? id = some e ∧ e.started = true ∧ e.status = none ∧
      Frame (may [.descs, .flash]) s t)

/-- R278, R280: LOCK_WAYS and UNLOCK_WAYS set and clear the lock of the masked ways of a set, LOCK_WAYS refused whole where more than 8
would be locked; no SRAM word being in error, as R266 merges the bits into words that it reads. The end of a range's walk leaves no line
that the range covers valid; a locked one stays locked and empty. -/
def Obligations.PigeonholeWaysAndRanges : Prop :=
  (∀ (s : State) (id : Nat) (d : Desc), s.adminRuns id 0x49 d → field d.bytes 4 2 ≠ 0xFFFF → s.memorySound →
    ((idxWhere 16 fun w => bit (field d.bytes 6 2) w || (s.line (field d.bytes 4 2) w).locked).length ≤ 8 →
      ∃ t, exec (.lockWays id) s = .next t ∧ t.ended id 0 0 ∧
        (∀ w, w < 16 → t.line (field d.bytes 4 2) w =
          { s.line (field d.bytes 4 2) w with locked := bit (field d.bytes 6 2) w || (s.line (field d.bytes 4 2) w).locked }) ∧
        (∀ st w, w < 16 → st ≠ field d.bytes 4 2 → t.line st w = s.line st w) ∧
        Frame (may [.descs, .pigeonholes, .sram, .regs 7]) s t) ∧
    (8 < (idxWhere 16 fun w => bit (field d.bytes 6 2) w || (s.line (field d.bytes 4 2) w).locked).length →
      ∃ t, exec (.lockWays id) s = .next t ∧ t.ended id 0x040 0 ∧ Frame (may [.descs]) s t)) ∧
  (∀ (s : State) (id : Nat) (d : Desc), s.adminRuns id 0x4A d → field d.bytes 4 2 ≠ 0xFFFF → s.memorySound →
    ∃ t, exec (.unlockWays id) s = .next t ∧ t.ended id 0 0 ∧
      (∀ w, w < 16 → (t.line (field d.bytes 4 2) w).locked = (!bit (field d.bytes 6 2) w && (s.line (field d.bytes 4 2) w).locked)) ∧
      (∀ st w, w < 16 → st ≠ field d.bytes 4 2 → t.line st w = s.line st w) ∧
      Frame (may [.descs, .pigeonholes, .sram, .regs 7]) s t) ∧
  (∀ (s : State) (r : Range), (s.ph.ranges.find? fun x => !x.walked) = some r → s.ph.lines.wf (fun _ => {}) = true →
    ∃ t, exec .rangeWalkEnd s = .next t ∧ (∀ e ∈ t.ph.lines, e.2.valid = true → r.covers e.2.addr = false) ∧
      (∀ e ∈ s.ph.lines, e.2.locked = true → e.2.valid = true → r.covers e.2.addr = true →
        tget (fun _ => ({} : Line)) t.ph.lines e.1 = { e.2 with valid := false, waiting := false }))

/-- R267, R268, R271: a write-back puts its word right and remembers the position. A scrub read takes the next word of its bank and moves
on; a corrected word is counted, logged and written back later; SCRUB_DEADLINE forces the cycle and counts it. -/
def Obligations.WordsAreScrubbedAndWrittenBack : Prop :=
  (∀ (s : State) (bank w k rest : Nat), (s.mi.backs.find? fun b => b.1 / 4096 = bank) = some (w, k, rest) →
    ∃ t, exec (.writeBack bank) s = .next t ∧ t.mi.backs = s.mi.backs.filter (fun b => b.1 ≠ w) ∧ (w, k) ∈ t.mi.cured ∧
      t.wordErr w = 0 ∧ (∀ x, x ≠ w → t.wordErr x = s.wordErr x) ∧ Frame (may [.sram, .pigeonholes]) s t ∧
      (rest = 0 → Frame (may [.sram]) s t)) ∧
  (∀ (s : State) (c : Instr) (bank err ms i w e n : Nat), s.scrubs bank = true → bank < 1536 →
    tget (fun _ => 0) s.mi.cursors bank = i → i + 1 < 4096 →
    w = 4096 * bank + i → e = s.wordErr w ^^^ err % 2 ^ 144 → s.getF F.MI_INJECT_X_ARM = 0 → tget (fun _ => none) s.mi.failed bank = none →
    ((c = .scrubRead bank err ms ∧ n = 0) ∨ (c = .scrubDeadline bank err ms ∧ n = 1)) →
    (e = 0 → ∃ t, exec c s = .next t ∧ tget (fun _ => 0) t.mi.cursors bank = i + 1 ∧ t.mi.backs = s.mi.backs ∧ t.wordErr w = 0 ∧
      t.getR R.MI_CNT_FORCED = s.getR R.MI_CNT_FORCED + BitVec.ofNat 32 n ∧ Frame (may [.sram, .regs 7]) s t) ∧
    (∀ k st, decodeErr none e = .corrected k st → s.getF F.MI_X_WRITEBACK_OFF = 0 → (∀ b ∈ s.mi.backs, b.1 ≠ w) → (w, k) ∉ s.mi.cured →
      ∃ t, exec c s = .next t ∧ tget (fun _ => 0) t.mi.cursors bank = i + 1 ∧ t.mi.backs = s.mi.backs ++ [(w, k, field st 0 16)] ∧
        t.getR R.MI_CNT_CORR = s.getR R.MI_CNT_CORR + 1 ∧ t.getR R.MI_LAST_ERR = BitVec.ofNat 32 (w + k * 2 ^ 23) ∧
        t.getR R.MI_CNT_FORCED = s.getR R.MI_CNT_FORCED + BitVec.ofNat 32 n ∧ Frame (may [.sram, .regs 7]) s t))

/-- R366, R367, Table 16-7: the debug window reads a word of a pigeonhole line into its four data registers, and zero where it may not see
the word, as a word that it wrote below the pigeonholes; a write of DATA[3] writes the whole staged word with new check symbols. At an
address that no bank holds the word read is a free value and a write changes no word (the model's choice, log 14). -/
def Obligations.TheDebugWindowReadsAndWrites : Prop :=
  (∀ (s : State) (w : Nat), s.answers = true → s.windowMode = true → w = s.getF F.DBG_WIN_ADDR_WORD → w < 0x600000 →
    (s.windowSees w = false → ∃ t, exec .dbgWinData0Read s = .next t ∧ t.out = s.out ++ [.regData (R.DBG_WIN_DATA 0) 0] ∧
      (∀ i, i < 4 → t.getR (R.DBG_WIN_DATA i) = 0) ∧ Frame (may [.outputs, .regs 13]) s t) ∧
    (s.windowSees w = true → 0x400000 ≤ w → w < 0x580000 → (s.line ((w - 0x400000) / 4096) (w % 4096 / 256)).valid = true →
      s.wordErr w = 0 → s.getF F.MI_INJECT_X_ARM = 0 → tget (fun _ => none) s.mi.failed (w / 4096) = none →
      ∃ t v, v = field (s.line ((w - 0x400000) / 4096) (w % 4096 / 256)).payload (16 * (w % 256)) 16 ∧ exec .dbgWinData0Read s = .next t ∧
        t.out = s.out ++ [.regData (R.DBG_WIN_DATA 0) (BitVec.ofNat 32 v)] ∧
        (∀ i, i < 4 → t.getR (R.DBG_WIN_DATA i) = BitVec.ofNat 32 (v / 2 ^ (32 * i))) ∧ Frame (may [.outputs, .regs 13]) s t) ∧
    (∀ v, s.windowSees w = true → w < 0x400000 → tget (fun _ => none) s.mi.data w = some v →
      s.wordErr w = 0 → s.getF F.MI_INJECT_X_ARM = 0 → tget (fun _ => none) s.mi.failed (w / 4096) = none →
      ∃ t, exec .dbgWinData0Read s = .next t ∧ t.out = s.out ++ [.regData (R.DBG_WIN_DATA 0) (BitVec.ofNat 32 v)] ∧
        (∀ i, i < 4 → t.getR (R.DBG_WIN_DATA i) = BitVec.ofNat 32 (v / 2 ^ (32 * i))) ∧ Frame (may [.outputs, .regs 13]) s t)) ∧
  (∀ (s : State) (v : W32) (w : Nat), s.answers = true → s.windowWrites = true → w = s.getF F.DBG_WIN_ADDR_WORD → w < 0x600000 →
    (w < 0x400000 ∨ 0x580000 ≤ w → ∃ t, exec (.dbgWinData3Write v) s = .next t ∧
      tget (fun _ => none) t.mi.data w = some (s.staged v.toNat) ∧ (∀ x, x ≠ w → tget (fun _ => none) t.mi.data x = tget (fun _ => none) s.mi.data x) ∧
      t.wordErr w = 0 ∧ t.getR (R.DBG_WIN_DATA 3) = v ∧ Frame (may [.sram, .regs 13]) s t) ∧
    (∀ st way, 0x400000 ≤ w → w < 0x580000 → st = (w - 0x400000) / 4096 → way = w % 4096 / 256 → (s.line st way).valid = true →
      ∃ t, exec (.dbgWinData3Write v) s = .next t ∧ t.wordErr w = 0 ∧ t.getR (R.DBG_WIN_DATA 3) = v ∧
        t.line st way = { s.line st way with payload := (s.line st way).payload.mapIdx fun j b =>
          if j / 16 = w % 256 then BitVec.ofNat 8 (s.staged v.toNat / 2 ^ (8 * (j % 16))) else b } ∧
        (∀ x y, y < 16 → ¬(x = st ∧ y = way) → t.line x y = s.line x y) ∧ Frame (may [.sram, .pigeonholes, .regs 13]) s t)) ∧
  (∀ (s : State) (w : Nat), s.answers = true → s.windowMode = true → w = s.getF F.DBG_WIN_ADDR_WORD → 0x600000 ≤ w →
    (s.windowSees w = true → ∃ t, exec .dbgWinData0Read s = .next t ∧
      t.out = s.out ++ [.regData (R.DBG_WIN_DATA 0) (BitVec.ofNat 32 (Config.sramWord w s.freeCtr % 2 ^ 128))] ∧
      Frame (may [.outputs, .freeValues, .regs 13]) s t) ∧
    (∀ v, s.windowWrites = true → ∃ t, exec (.dbgWinData3Write v) s = .next t ∧ t.getR (R.DBG_WIN_DATA 3) = v ∧
      Frame (may [.regs 13]) s t))

/-! ### Dies and routes -/

/-- R67, R74, R96, R97, R100, R102, R103, R104, R105, R110: an arbitration of an idle die begins the operation it picks: a read waits for
its bus activity, a program for its data-in or stands aside for the re-erase of its block, an erase for the ledger program of its
bracket, and one that the write guard holds starts its wait; a suspend that is due is asked for. The end of a merge wait begins the read;
the minimum run time, the longest hold and a resume ask for theirs; an erase bracket goes on with its next step, the erase of a ledger
block with its range invalidation, for which it waits where the list is full. -/
def Obligations.DiesAreGranted : Prop :=
  (∀ (s : State) (r d us k : Nat) (o : DieOp) (ptr : Option Nat), r < 32 → d < 16 → k = dieKey r d → s.grants r = true → s.dieSt k = 1 →
    (s.die k).op = none → (s.die k).want = none → s.resumeDue k = false → s.pickOp k (s.belowShare k us) = some (o, ptr) →
    (o.cls = 1 → s.mergeWaits o = false → ∃ t o', exec (.dieGrant r d us) s = .next t ∧ (t.die k).op = some o' ∧ o'.id = o.id ∧
      o'.cls = 1 ∧ (t.die k).want.isSome = true ∧ (∀ x ∈ t.seq.waiting, x ∈ s.seq.waiting ∧ x.id ≠ o.id) ∧
      (∀ j, j ≠ k → t.die j = s.die j) ∧ Frame (may [.flash]) s t) ∧
    (o.cls = 2 → s.guardHolds r = false → s.firstReerase o = none → ∃ t o', exec (.dieGrant r d us) s = .next t ∧
      (t.die k).op = some o' ∧ o'.id = o.id ∧ o'.cls = 2 ∧ (t.die k).want = some (.progData 0) ∧ t.dieSt k = 1 ∧
      (∀ x ∈ t.seq.waiting, x ∈ s.seq.waiting ∧ x.id ≠ o.id) ∧ (∀ j, j ≠ k → t.die j = s.die j) ∧ Frame (may [.flash, .regs 17]) s t) ∧
    (∀ p, o.cls = 2 → s.guardHolds r = false → s.firstReerase o = some p → ∃ t e, exec (.dieGrant r d us) s = .next t ∧
      t.seq.ahead = s.seq.ahead ++ [o] ∧ e ∈ t.seq.waiting ∧ e.cls = 3 ∧ e.purpose = [.eraseAhead o.id] ∧ e.recovery = true ∧
      e.pages = [s.busAddr (mkAddr (s.logicalDie (addrDie p)) (addrBlock p) 0 0)] ∧ t.die k = s.die k) ∧
    (o.cls = 3 → s.guardHolds r = false → o.noLedger = false → o.switch = false → o.step = 0 → (s.die k).ledger.due = false →
      ∃ t o', exec (.dieGrant r d us) s = .next t ∧ (t.die k).op = some o' ∧ o'.id = o.id ∧
      o'.step = (if (s.geo k).pages - (s.die k).ledger.next < 3 then 5 else 1) ∧ o'.running = true ∧
      (t.die k).want = some (.progData 0) ∧ t.dieSt k = 6 ∧
      (t.die k).ledger.gen = ((s.die k).ledger.gen + 1) % 2 ^ 32 ∧ Frame (may [.flash, .freeValues, .regs 17]) s t) ∧
    (o.cls ≠ 1 → s.guardHolds r = true → ∃ t, exec (.dieGrant r d us) s = .next t ∧
      t.seq.waiting = s.seq.waiting.map (fun x => if x.id = o.id then { x with guardWait := true } else x) ∧ t.seq.dies = s.seq.dies ∧
      Frame (may [.flash]) s t)) ∧
  (∀ (s : State) (r d us k : Nat), k = dieKey r d → s.grants r = true → s.suspendDue k = true → (s.die k).minRun = true →
    ∃ t, exec (.dieGrant r d us) s = .next t ∧ (t.die k).want = some .suspend ∧ (t.die k).op = (s.die k).op ∧ Frame (may [.flash]) s t) ∧
  (∀ (s : State) (r d k : Nat) (o : DieOp), k = dieKey r d → (s.die k).op = some o → o.merging = true → o.cls = 1 → s.grants r = true →
    ∃ t o', exec (.mergeWaitExpiry r d) s = .next t ∧ (t.die k).op = some o' ∧ o'.id = o.id ∧ o'.merging = false ∧
      (t.die k).want.isSome = true ∧ Frame (may [.flash]) s t) ∧
  (∀ (s : State) (r d k : Nat) (o : DieOp), k = dieKey r d → (s.die k).op = some o → o.running = true → s.dieSt k = 5 ∨ s.dieSt k = 6 →
    ∃ t, exec (.minRunExpiry r d) s = .next t ∧ (t.die k).minRun = true ∧ (t.die k).op = some o ∧
      (s.suspendDue k = true → s.grants r = true → (t.die k).want = some .suspend) ∧ Frame (may [.flash]) s t) ∧
  (∀ (s : State) (r d k : Nat), k = dieKey r d → s.dieSt k = 1 → (s.die k).op = none → (s.die k).want = none →
    (s.issues = true ∨ s.modeNow = 10) →
    (s.resumeDue k = true → ∃ t, exec (.resumeHeldOperation r d) s = .next t ∧ (t.die k).want = some .resume ∧
      (t.die k).held = (s.die k).held ∧ Frame (may [.flash]) s t) ∧
    ((s.die k).held.isSome = true → ∃ t, exec (.holdMaxExpiry r d) s = .next t ∧ (t.die k).holdMax = true ∧
      (t.die k).want = some .resume ∧ Frame (may [.flash]) s t)) ∧
  (∀ (s : State) (r d k n : Nat) (o : DieOp), k = dieKey r d → (s.die k).op = some o → s.dieSt k = 6 → o.running = false →
    (s.die k).want = none → (s.issues = true ∨ s.modeNow = 10) → s.nextStep k o = some n →
    (s.ledgerErased k n = none → ∃ t o', exec (.eraseBracketStep r d) s = .next t ∧ (t.die k).op = some o' ∧ o'.id = o.id ∧ o'.step = n ∧
      o'.running = true ∧
      (n = 2 → (t.die k).want = some .eraseCmd ∧ (t.die k).ledger = (s.die k).ledger) ∧
      (n ≠ 2 → (t.die k).want = some (.progData 0) ∧ (t.die k).ledger.gen = ((s.die k).ledger.gen + 1) % 2 ^ 32) ∧
      Frame (may [.flash, .freeValues]) s t) ∧
    (∀ b, s.ledgerErased k n = some b → s.ph.ranges.length < 8 → ∃ t o', exec (.eraseBracketStep r d) s = .next t ∧
      (t.die k).op = some o' ∧ o'.id = o.id ∧ o'.step = n ∧ o'.running = true ∧ (t.die k).want = some .eraseCmd ∧
      t.ph.ranges = s.ph.ranges ++ [{ epoch := (s.ph.epoch + 1) % 65536, dies := [s.logicalDie k], blocks := some [b] }] ∧
      Frame (may [.flash, .pigeonholes, .integrity, .regs 7]) s t) ∧
    (∀ b, s.ledgerErased k n = some b → 8 ≤ s.ph.ranges.length → ∃ t, exec (.eraseBracketStep r d) s = .next t ∧ t.seq = s.seq ∧
      t.ph = s.ph ∧ t.getF F.MI_PH_EVENT_RANGE_WAIT = 1))

/-- R61, R64, R65, R73, R95, R104, R105, R140, R149, Table 3-1: the bus that is free, with no relief select write due, carries out the
activity it picks: the commands of a read, erase or cache read with its pages, a threshold write first where a read needs one, a plane's
data-in, the confirm of a program, a transfer, a temperature read, a suspend, a resume and a reset, each counted and shown in the die's
state. R18, R19, R381: the next envelopes of a loaded register take the credits they need and wait for the bus as one data-out; without
them its die is parked. -/
def Obligations.TheBusAndTheCreditsServeOneActivity : Prop :=
  (∀ (s : State) (r d k : Nat) (a : BusAct), r < 32 → d < 16 → k = dieKey r d → s.routeUp r = true → s.busBusy r = false →
     (s.route r).burst = false → (∀ c, (s.route r).recal = some c → c.phase ≠ 0) → s.busPick r = some (k, a) →
     (∀ o, (s.die k).op = some o → a = .read → s.needsFeature o = false → ∃ t, exec (.busGrant r) s = .next t ∧
       t.out = (s.cmd k o.pages (planeBytes 0x00 0x32 0x30 o.pages.length) o.pages).out ∧ t.dieSt k = 2 ∧ (t.die k).want = none ∧
       t.getR (R.RT_CNT_READ r) = s.getR (R.RT_CNT_READ r) + 1 ∧ Frame (may [.flash, .outputs, .regs 9, .regs 17]) s t) ∧
     (∀ o g vals, (s.die k).op = some o →
       (a = .read ∧ s.needsFeature o = true ∧ g = s.opGroup o ∧ vals = s.opThresholds o) ∨ a = .feature g vals →
       ∃ t, exec (.busGrant r) s = .next t ∧ t.out = (s.featureWrites k (s.die k).threshFa vals).out ∧ t.dieSt k = 7 ∧
       (t.die k).want = none ∧ (t.die k).op = some o ∧ (t.die k).written = vals ∧ t.getF (F.RT_DIE_BLOCK_GROUP r d) = g % 8 ∧
       Frame (may [.flash, .outputs, .regs 17]) s t) ∧
     (∀ o c, (s.die k).op = some o → (s.die k).next = some c → a = .cacheRead → ∃ t, exec (.busGrant r) s = .next t ∧
       t.out = (if o.pages.map (· + 4) = c.pages ∧ o.pages.map busBlock = c.pages.map busBlock then s.cmd k c.pages [0x31] []
         else s.cmd k c.pages (planeBytes 0x00 0x32 0x31 c.pages.length) c.pages).out ∧ t.dieSt k = 3 ∧ (t.die k).ready = false ∧
       (t.die k).next = some { c with running := true } ∧ t.getR (R.RT_CNT_READ r) = s.getR (R.RT_CNT_READ r) + 1 ∧
       t.getR (R.RT_CNT_CACHE r) = s.getR (R.RT_CNT_CACHE r) + 1 ∧ Frame (may [.flash, .outputs, .regs 9, .regs 17]) s t) ∧
     (a = .cacheEnd → (s.die k).op.isSome = true → ∃ t, exec (.busGrant r) s = .next t ∧ t.out = s.out ++ [.dieCmd r d [0x3F] []] ∧
       t.dieSt k = 3 ∧ (t.die k).op = (s.die k).next ∧ (t.die k).next = none ∧ Frame (may [.flash, .outputs, .regs 17]) s t) ∧
     (∀ o j, (s.die k).op = some o → (s.die k).moving = some j.id → s.job? j.id = some j → a = .dataOut →
       ∃ t, exec (.busGrant r) s = .next t ∧
       t.out = (s.cmd k [4 * (s.busAddr j.addr / 4)] [0x06, 0xE0] [4 * (s.busAddr j.addr / 4), 4608 * s.runStart j]).out ∧
       (t.die k).moving = some j.id ∧ (t.die k).runAt = s.runStart j ∧ (t.die k).runLen = s.runEnvs j (s.die k).run ∧
       (t.die k).envCtrl = (s.getR R.RC_ENV_CTRL).toNat ∧ (t.die k).envX = (s.getR R.RC_ENV_X).toNat ∧ t.dieSt k = s.dieSt k ∧
       Frame (may [.flash, .outputs]) s t) ∧
     (∀ o j, (s.die k).op = some o → s.headerJob k = some j → a = .header → ∃ t, exec (.busGrant r) s = .next t ∧
       t.out = (s.cmd k [4 * (s.busAddr j.addr / 4)] [0x06, 0xE0] [4 * (s.busAddr j.addr / 4), 4608 * s.runStart j + 3]).out ∧
       (t.die k).moving = some j.id ∧ t.dieSt k = s.dieSt k ∧ Frame (may [.flash, .outputs]) s t) ∧
     (∀ o i, (s.die k).op = some o → a = .progData i → ∃ t, exec (.busGrant r) s = .next t ∧
       t.out = (s.cmd k [s.progPage k o i] [0x80] [s.progPage k o i]).out ++ [.dieData r d i (o.data.getD i [])] ++
         (if i + 1 < o.data.length then [.dieCmd r d [0x11] []] else []) ∧
       (t.die k).want = some (if i + 1 < o.data.length then .progData (i + 1) else .confirm) ∧ (t.die k).op = some o ∧
       t.dieSt k = s.dieSt k ∧ Frame (may [.flash, .outputs]) s t) ∧
     (∀ o, (s.die k).op = some o → a = .confirm → o.cls = 2 → ∃ t, exec (.busGrant r) s = .next t ∧
       t.out = s.out ++ [.dieCmd r d [0x10] []] ∧ t.dieSt k = 5 ∧ (t.die k).want = none ∧ (t.die k).op = some { o with running := true } ∧
       t.getR (R.RT_CNT_PROGRAM r) = s.getR (R.RT_CNT_PROGRAM r) + 1 ∧ Frame (may [.flash, .outputs, .regs 17]) s t) ∧
     (∀ o, (s.die k).op = some o → a = .eraseCmd → ∃ t, exec (.busGrant r) s = .next t ∧
       t.out = (s.cmd k (s.touched k o) (planeBytes 0x60 0xD1 0xD0 (s.touched k o).length) (s.touched k o)).out ∧
       t.dieSt k = s.dieSt k ∧ (t.die k).want = none ∧ (t.die k).op = some o ∧
       t.getR (R.RT_CNT_ERASE r) = s.getR (R.RT_CNT_ERASE r) + 1 ∧ Frame (may [.flash, .outputs, .regs 17]) s t) ∧
     (a = .temp → ∃ t, exec (.busGrant r) s = .next t ∧
       t.out = s.out ++ [.dieCmd r d [0xD4] [s.getF F.PWR_WG_CTRL_TEMP_FA]] ∧ t.dieSt k = 7 ∧ (t.die k).tempRun = (s.die k).tempDue ∧
       (t.die k).tempDue = none ∧ (t.die k).op = (s.die k).op ∧ (t.die k).want = (s.die k).want ∧
       Frame (may [.flash, .outputs, .regs 17]) s t) ∧
     (∀ o, (s.die k).op = some o → a = .suspend → ∃ t, exec (.busGrant r) s = .next t ∧
       t.out = s.out ++ [.dieCmd r d [BitVec.ofNat 8 o.suspendByte] []] ∧ t.dieSt k = 7 ∧
       (t.die k).op = some { o with suspends := o.suspends + 1 } ∧ t.getR (R.RT_CNT_SUSPEND r) = s.getR (R.RT_CNT_SUSPEND r) + 1 ∧
       Frame (may [.flash, .outputs, .regs 17]) s t) ∧
     (∀ o, (s.die k).held = some o → (s.die k).op = none → a = .resume → ∃ t, exec (.busGrant r) s = .next t ∧
       t.out = s.out ++ [.dieCmd r d [BitVec.ofNat 8 (bits o.vcmd (F.RT_VCMD_RESUME r).lo 8)] []] ∧
       t.dieSt k = (if o.cls = 2 then 5 else 6) ∧
       (t.die k).op = some o ∧ (t.die k).held = none ∧ t.getF (F.RT_DIE_HELD r d) = 0 ∧ Frame (may [.flash, .outputs, .regs 17]) s t) ∧
     (a = .reset → s.dieSt k ≠ 8 → ∃ t, exec (.busGrant r) s = .next t ∧ t.out = s.out ++ [.dieCmd r d [0xFA] []] ∧ t.dieSt k = 7 ∧
       (t.die k).want = none ∧ Frame (may [.flash, .outputs, .regs 17]) s t)) ∧
  (∀ (s : State) (r d us k : Nat) (j : Job) (l : List Job), r < 32 → d < 16 → k = dieKey r d → s.issues = true → s.routeUp r = true →
     s.dieSt k = 4 → (s.die k).want = none → (s.die k).moving = none → s.wholeJobs k = j :: l →
     (s.creditsFree r j = false → ∃ t, exec (.dataOutStart r d us) s = .next t ∧ t.die k = { s.die k with parked := true } ∧
       Frame (may [.flash]) s t) ∧
     (s.creditsFree r j = true → ∃ t, exec (.dataOutStart r d us) s = .next t ∧
       (t.die k).moving = some j.id ∧ (t.die k).want = some .dataOut ∧ (t.die k).parked = false ∧
       (t.die k).run <+: (s.runAfter j l).map Job.id ∧
       t.job? j.id = some { j with decIn := j.decIn || j.needsCredit, outIn := j.outIn || j.needsOut } ∧
       t.getR (R.RT_CNT_PARKED r) = s.getR (R.RT_CNT_PARKED r) + (if (s.die k).parked = true then BitVec.ofNat 32 us else 0) ∧
       Frame (may [.flash, .regs 17]) s t))

/-- R64, R75, R76, R78, R86, R95, R100, R101, R103, R104, R111, R298: a poll of a busy die goes on the bus, and a status byte
that shows the die complete ends what it does: a read's register is loaded, a suspended operation is held, a temperature is taken, a
ledger program or erase ends its step and the last step its erase, a program its page; WP_n at 0 raises PROTOCOL_ERR. R/B# reports a lone
busy die, and one that stays low leaves the route to polls. -/
def Obligations.StatusEndsDieOperations : Prop :=
  (∀ (s : State) (c : Instr) (r d us k : Nat) (st : Byte) (said : List Output), r < 32 → d < 16 → k = dieKey r d → s.polls r = true →
    bit st.toNat 6 = true → bit st.toNat 5 = true → s.modeNow ≠ 10 → (s.die k).retiring = false →
    ((c = .statusPollDue r d st us ∧ (s.pollOnly k = true ∨ s.busyOf r (d / 4) ≠ [k])) ∨
      (c = .rbnRise r (d / 4) [(st, us)] ∧ s.pollOnly k = false ∧ s.busyOf r (d / 4) = [k])) →
    said = s.out ++ [.dieCmd r d [0x78] []] →
    (∀ p1 : Byte, s.dieSt k = 7 → (s.die k).tempRun = some p1 → ∃ t, exec c s = .next t ∧ s.readingTaken t k (signed 8 p1.toNat) ∧
      t.dieSt k = 1 ∧ (t.die k).tempRun = none ∧ t.getF (F.RT_DIE_TIMEOUTS r d) = 0 ∧ said <+: t.out) ∧
    (∀ o, (s.die k).op = some o → (s.die k).want = none → (s.die k).tempRun = none →
      (s.dieSt k = 2 → o.jobs ≠ [] → ∃ t, exec c s = .next t ∧ t.out = said ∧ t.dieSt k = 4 ∧ (t.die k).ready = true ∧
        (t.die k).op = some o ∧ t.getF (F.RT_DIE_TIMEOUTS r d) = 0 ∧
        (∀ i ∈ o.jobs, ∀ j, s.job? i = some j → t.job? i = some { j with phase := .inDie }) ∧
        Frame (may [.flash, .outputs, .regs 17]) s t) ∧
      (s.dieSt k = 7 → o.cls ≠ 1 → o.running = true → ∃ t, exec c s = .next t ∧ t.out = said ∧ t.dieSt k = 1 ∧ (t.die k).op = none ∧
        (t.die k).held = some o ∧ t.getF (F.RT_DIE_HELD r d) = (o.cls - 1) % 4 ∧ Frame (may [.flash, .outputs, .regs 17]) s t) ∧
      (∀ n, s.dieSt k = 7 → o.cls ≠ 1 → o.running = false → s.nextStep k o = some n → ∃ t, exec c s = .next t ∧ t.out = said ∧
        t.dieSt k = 6 ∧ (t.die k).op = some o ∧ Frame (may [.flash, .outputs, .regs 17]) s t) ∧
      (s.dieSt k = 7 → o.cls = 1 → ∃ t, exec c s = .next t ∧ t.out = said ∧ t.dieSt k = 1 ∧ (t.die k).op = some o ∧
        (t.die k).want = some .read ∧ Frame (may [.flash, .outputs, .regs 17]) s t) ∧
      (s.dieSt k = 6 → o.running = true → o.noLedger = false →
        (o.step = 2 → ∃ t, exec c s = .next t ∧
          (t.die k).op = some { o with failed := bit st.toNat 0 || !bit st.toNat 7, running := false, erased := true } ∧ t.dieSt k = 6 ∧
          (bit st.toNat 7 = true → t.out = said ∧ Frame (may [.flash, .outputs]) s t) ∧
          (bit st.toNat 7 = false → t.getF (F.RT_EVENT_PROTOCOL_ERR r) = 1)) ∧
        (o.step = 1 → bit st.toNat 0 = false → bit st.toNat 7 = true → ∃ t, exec c s = .next t ∧ t.out = said ∧
          (t.die k).op = some { o with running := false } ∧ t.dieSt k = 6 ∧ Frame (may [.flash, .outputs]) s t) ∧
        (o.step = 1 → o.switch = false → bit st.toNat 0 = true ∨ bit st.toNat 7 = false → ∃ t, exec c s = .next t ∧
          (t.die k).op = some { o with noLedger := true, running := false } ∧ (t.die k).ledger.lost = true ∧
          t.getF F.FI_REC_EVENT_LEDGER_LOST = 1 ∧ t.dieSt k = 6) ∧
        (∀ id e, o.step = 3 → o.cls = 3 → o.switch = false → o.purpose = [.eraseDesc id] → s.desc? id = some e → e.status = none →
          e.bufferFault = false → o.erased = true → o.failed = false → ∃ t, exec c s = .next t ∧ t.ended id 0 1 ∧ t.dieSt k = 1 ∧
          (t.die k).op = none ∧ (∀ p ∈ o.pages, blockKey (addrDie p) (addrBlock p) ∉ t.seq.incomplete ∧
            ∀ a ∈ t.fi.poison, busBlock (t.busAddr a) ≠ busBlock p)) ∧
        (∀ id e, o.step = 3 → o.cls = 3 → o.switch = false → o.purpose = [.eraseDesc id] → s.desc? id = some e → e.status = none →
          e.bufferFault = false → o.erased = true → o.failed = true → ∃ t, exec c s = .next t ∧ t.ended id St.eraseFail 0 ∧
          t.dieSt k = 1 ∧ (t.die k).op = none ∧ t.fi.poison = s.fi.poison)) ∧
      (∀ id e page data, s.dieSt k = 5 → o.cls = 2 → o.purpose = [.progDesc id] → s.desc? id = some e → e.status = none → e.op = 0x04 →
        e.bufferFault = false → e.pages = [(page, data)] → s.memorySound →
        (bit st.toNat 7 = true → bit st.toNat 0 = false → ∃ t, exec c s = .next t ∧ t.ended id 0 (e.count + 4) ∧ t.dieSt k = 1 ∧
          (t.die k).op = none) ∧
        (bit st.toNat 7 = false ∨ bit st.toNat 0 = true → ∃ t, exec c s = .next t ∧ t.ended id St.programFail e.count ∧ t.dieSt k = 1 ∧
          (t.die k).op = none ∧ (bit st.toNat 7 = false → t.getF (F.RT_EVENT_PROTOCOL_ERR r) = 1))))) ∧
  (∀ (s : State) (r ce : Nat), r < 32 → ce < 4 → s.polls r = true → s.getF (F.RT_CTRL_POLL_ONLY r) = 0 →
    s.getF (F.RT_STATUS_RBN_FALLBACK r) = 0 → s.busyOf r ce = [] →
    ∃ t, exec (.rbnFault r ce) s = .next t ∧ t.getF (F.RT_STATUS_RBN_FALLBACK r) = 1 ∧ t.getF (F.RT_EVENT_RBN_FAULT r) = 1)

/-- R79, R80, R86, R95, R101: an operation that does not end in time counts against its die and raises TIMEOUT: a program's page, an
erase and a read's envelope end with status TIMEOUT, the blocks of that erase are incomplete, a ledger program leaves the erase without
entries, and the die waits for RESET LUN; at the third in a row, or where a reset itself does not end, the die enters FAULT with its
cause. R96, R110, R302: an operation that the guard held for its whole wait completes WRITE_GUARDED, a recovery erase waits in the set that
TRAIN left, a rebuild's has no limit. R76: WP# follows the route's state. R94, R95: a temperature read that falls due waits for its die
and the bus, or takes the junction temperature. -/
def Obligations.TimeoutsGuardAndTemperaturesAct : Prop :=
  (∀ (s : State) (r d k n : Nat), r < 32 → d < 16 → k = dieKey r d → n = s.getF (F.RT_DIE_TIMEOUTS r d) → s.modeNow ≠ 10 →
     (s.die k).tempRun = none → s.resetRuns k = false → s.timerRuns k = true →
     (∀ o id e, (s.die k).op = some o → s.desc? id = some e → e.status = none → e.bufferFault = false → n < 2 →
       (∀ page data, s.dieSt k = 5 → o.cls = 2 → o.purpose = [.progDesc id] → e.op = 0x04 → e.pages = [(page, data)] →
         ∃ t, exec (.dieOpTimeout r d) s = .next t ∧ t.getF (F.RT_DIE_TIMEOUTS r d) = n + 1 ∧ t.getF (F.RT_EVENT_TIMEOUT r) = 1 ∧
           t.ended id St.timeout e.count ∧ (t.die k).op = none ∧ (t.die k).want = some .reset) ∧
       (s.dieSt k = 6 → o.cls = 3 → o.step = 2 → o.purpose = [.eraseDesc id] →
         ∃ t, exec (.dieOpTimeout r d) s = .next t ∧ t.getF (F.RT_DIE_TIMEOUTS r d) = n + 1 ∧ t.getF (F.RT_EVENT_TIMEOUT r) = 1 ∧
           t.ended id St.timeout 0 ∧ (t.die k).op = none ∧ (t.die k).want = some .reset ∧
           (s.seq.incomplete.length + o.pages.length ≤ 1024 → ∀ p ∈ o.pages, blockKey (addrDie p) (addrBlock p) ∈ t.seq.incomplete)) ∧
       (∀ i j, s.dieSt k = 2 → o.cls = 1 → o.jobs = [i] → (s.die k).next = none → s.job? i = some j → j.dest = .desc id 0 →
         e.op = 0x01 → e.started = true → e.results = [none] →
         ∃ t, exec (.dieOpTimeout r d) s = .next t ∧ t.getF (F.RT_DIE_TIMEOUTS r d) = n + 1 ∧ t.getF (F.RT_EVENT_TIMEOUT r) = 1 ∧
           t.ended id St.timeout 0 ∧ (t.die k).op = none ∧ (t.die k).want = some .reset)) ∧
     (∀ o, (s.die k).op = some o → s.dieSt k = 6 → o.cls = 3 → o.step = 1 ∨ o.step = 3 → n < 2 →
       ∃ t, exec (.dieOpTimeout r d) s = .next t ∧ t.getF (F.RT_DIE_TIMEOUTS r d) = n + 1 ∧ t.getF (F.RT_EVENT_TIMEOUT r) = 1 ∧
         (t.die k).op = some { o with noLedger := true, running := false } ∧ (t.die k).ledger.lost = true ∧
         t.getF F.FI_REC_EVENT_LEDGER_LOST = 1 ∧ (t.die k).want = some .reset) ∧
     (∀ o id e page data, (s.die k).op = some o → s.dieSt k = 5 → o.cls = 2 → o.purpose = [.progDesc id] → s.desc? id = some e →
       e.status = none → e.bufferFault = false → e.op = 0x04 → e.pages = [(page, data)] → (s.die k).held = none → s.waitingFor k = [] →
       2 ≤ n → n < 255 → ∃ t, exec (.dieOpTimeout r d) s = .next t ∧ t.ended id St.timeout e.count ∧ t.dieSt k = 8 ∧
         t.getF (F.RT_DIE_TIMEOUTS r d) = n + 1 ∧ t.getF (F.RT_DIE_FAULT_CAUSE r d) = 3 ∧ t.getF (F.RT_EVENT_DIE_FAULT r) = 1)) ∧
  (∀ (s : State) (r d k : Nat), r < 32 → d < 16 → k = dieKey r d → s.modeNow ≠ 10 → (s.die k).tempRun = none →
     (s.resetRuns k = true ∨ (s.timerRuns k = true ∧ s.dieSt k = 7)) → (s.die k).next = none → (s.die k).held = none →
     s.waitingFor k = [] →
     ((s.die k).op = none → ∃ t, exec (.dieOpTimeout r d) s = .next t ∧ t.dieSt k = 8 ∧ t.getF (F.RT_DIE_FAULT_CAUSE r d) = 1 ∧
       t.getF (F.RT_DIE_TIMEOUTS r d) = satInc 8 (s.getF (F.RT_DIE_TIMEOUTS r d)) ∧ t.getF (F.RT_EVENT_TIMEOUT r) = 1 ∧
       t.getF (F.RT_EVENT_DIE_FAULT r) = 1 ∧ ((s.route r).train = 3 → k ∈ (t.route r).resetBad)) ∧
     (∀ o id e, (s.die k).op = some o → o.cls = 3 → o.running = false → o.purpose = [.eraseDesc id] → s.desc? id = some e →
       e.status = none → e.bufferFault = false → ∃ t, exec (.dieOpTimeout r d) s = .next t ∧ t.dieSt k = 8 ∧
       t.getF (F.RT_DIE_FAULT_CAUSE r d) = 1 ∧ t.ended id (o.eraseStatus St.timeout) (b2n (o.eraseStatus St.timeout = St.ok)))) ∧
  (∀ (s : State) (r d k : Nat) (p1 : Byte), r < 32 → d < 16 → k = dieKey r d → s.timerRuns k = true → s.dieSt k = 7 →
     (s.die k).tempRun = some p1 → s.resetRuns k = false → s.getF (F.RT_DIE_TIMEOUTS r d) < 2 →
     ∃ t, exec (.dieOpTimeout r d) s = .next t ∧ t.getF (F.RT_DIE_TIMEOUTS r d) = s.getF (F.RT_DIE_TIMEOUTS r d) + 1 ∧
       t.getF (F.RT_EVENT_TIMEOUT r) = 1 ∧ (t.die k).tempRun = none ∧ (t.die k).temp = (s.die k).temp ∧ (t.die k).op = none ∧
       t.seq.waiting = s.seq.waiting ++ (s.die k).op.toList ∧ (t.die k).want = some .reset) ∧
  (∀ (s : State) (o : DieOp), (s.seq.waiting.find? (·.id = o.id)) = some o → o.guardWait = true → s.guardHolds (o.die / 16) = true →
     s.issues = true →
     (o.origin = .rebuild → exec (.guardWaitExpiry o.id) s = .next s) ∧
     (o.origin ≠ .rebuild → .eraseGuarded ∈ o.purpose → ∃ t, exec (.guardWaitExpiry o.id) s = .next t ∧
       (∀ x ∈ t.seq.waiting, x.id ≠ o.id) ∧ (∀ p ∈ o.pages, blockKey (addrDie p) (addrBlock p) ∈ t.seq.fromTrain) ∧
       Frame (may [.flash]) s t) ∧
     (∀ id e, o.origin ≠ .rebuild → o.purpose = [.eraseDesc id] ∨ (o.purpose = [.progDesc id] ∧ e.pages ≠ []) → s.desc? id = some e →
       e.status = none → e.bufferFault = false → ∃ t, exec (.guardWaitExpiry o.id) s = .next t ∧
       t.ended id St.writeGuarded (if o.purpose = [.eraseDesc id] then 0 else e.count) ∧ t.getF F.PWR_WG_EVENT_GUARDED_FAIL = 1 ∧
       (∀ x ∈ t.seq.waiting, x.id ≠ o.id))) ∧
  (∀ (s : State) (r : Nat), r < 32 →
     (s.wpAllowed r = true → ∃ t, exec (.wpDriveChange r) s = .next t ∧ t.getF (F.RT_STATUS_WP r) = 1 ∧ Frame (may [.regs 14]) s t) ∧
     (s.wpAllowed r = false → s.writesBusy r = false ∨ s.routeSt r = 0 → ∃ t, exec (.wpDriveChange r) s = .next t ∧
       t.getF (F.RT_STATUS_WP r) = 0 ∧ Frame (may [.regs 14]) s t) ∧
     (s.wpAllowed r = false → s.writesBusy r = true → s.routeSt r ≠ 0 → exec (.wpDriveChange r) s = .next s)) ∧
  (∀ (s : State) (r d k : Nat) (p1 : Byte), r < 32 → d < 16 → k = dieKey r d → s.dieOn k = true → s.routeSt r = 2 → s.tempRuns = true →
     (s.getF F.PWR_WG_CTRL_TEMP_FA ≠ 0 → ∃ t, exec (.tempReadDue r d p1) s = .next t ∧ (t.die k).tempDue = some p1 ∧
       (t.die k).temp = (s.die k).temp ∧ (t.die k).op = (s.die k).op ∧ (t.die k).want = (s.die k).want ∧ Frame (may [.flash]) s t) ∧
     (s.getF F.PWR_WG_CTRL_TEMP_FA = 0 → ∃ t, exec (.tempReadDue r d p1) s = .next t ∧ s.readingTaken t k s.junctionReading ∧
       t.out = s.out))

/-- R84, R86, R100, R110, R133, R235, R245, R273, R278, R286: a PROGRAM whose metadata is sound encodes its pages, and its first waits
for its die, or stands aside for a re-erase where its block is in the incomplete-erase set; an ERASE enters its range and waits, for its
map writes too where a layout covers the block; a die that takes no writes, or a seal, gives its status. Re-erases that TRAIN left wait
once the guard lets them; a failed buffer access completes its descriptor, an uncorrectable unit recorded. -/
def Obligations.ProgramsAndErasesAreStarted : Prop :=
  (∀ (s : State) (id n a corr : Nat) (d : Desc) (buf md : Bytes), s.ioRuns id 0x04 d → n = field d.bytes 16 4 → a = field d.bytes 8 8 →
    ((List.range n).all (metaOk d.bytes md) = false → ∃ t, exec (.program id buf md corr) s = .next t ∧ t.ended id 0x040 0 ∧
      t.getR R.MI_CNT_DRAM_CORR = s.getR R.MI_CNT_DRAM_CORR + BitVec.ofNat 32 corr ∧ Frame (may [.descs, .regs 7]) s t) ∧
    (∀ st, (List.range n).all (metaOk d.bytes md) = true → d.late = some st → ∃ t, exec (.program id buf md corr) s = .next t ∧
      t.ended id st 0 ∧ Frame (may [.descs, .regs 7]) s t) ∧
    ((List.range n).all (metaOk d.bytes md) = true → 4 ≤ n → d.late = none →
      (∀ st, s.writeDie (addrDie a) = some st → ∃ t, exec (.program id buf md corr) s = .next t ∧ t.ended id st d.count) ∧
      (s.writeDie (addrDie a) = none → s.mustReerase (s.busAddr a) = false → ∃ t o e, exec (.program id buf md corr) s = .next t ∧
        t.seq.waiting = s.seq.waiting ++ [o] ∧ o.cls = 2 ∧
        o.ord = id ∧ o.pages = [s.busAddr a] ∧ o.purpose = [.progDesc id] ∧ o.data = [pageEncode a ((List.range 4).map fun i =>
          (s.progContent d.bytes md (slice buf (4096 * i) 4096) i 0, slice buf (4096 * i) 4096))] ∧ t.desc? id = some e ∧
        e.started = true ∧ e.status = none ∧ e.pages.length = n / 4 ∧ Frame (may [.descs, .flash, .pigeonholes, .sram, .regs 7]) s t) ∧
      (s.writeDie (addrDie a) = none → s.mustReerase (s.busAddr a) = true → ∃ t o x e, exec (.program id buf md corr) s = .next t ∧
        t.seq.ahead = s.seq.ahead ++ [x] ∧ x.cls = 2 ∧ x.ord = id ∧ x.pages = [s.busAddr a] ∧ x.purpose = [.progDesc id] ∧
        t.seq.waiting = s.seq.waiting ++ [o] ∧ o.cls = 3 ∧ o.ord = (if id = 0 then o.id else id) ∧
        o.pages = [s.busAddr (mkAddr (s.logicalDie (addrDie (s.busAddr a))) (addrBlock (s.busAddr a)) 0 0)] ∧
        o.purpose = [.eraseAhead x.id] ∧ o.recovery = true ∧ t.desc? id = some e ∧ e.started = true ∧ e.status = none ∧
        e.pages.length = n / 4))) ∧
  (∀ (s : State) (id a corr : Nat) (d : Desc) (maps : List Bytes) (js : List Nat), s.ioRuns id 0x06 d → a = field d.bytes 8 8 →
    js = (List.range s.img.cfg.layouts.length).filter (s.covers maps (addrDie a) (addrBlock a)) →
    (∀ st, s.writeDie (addrDie a) = some st → ∃ t, exec (.erase id maps corr none) s = .next t ∧ t.ended id st 0 ∧
      Frame (may [.descs, .regs 7]) s t) ∧
    (s.writeDie (addrDie a) = none → s.ph.ranges.length < 8 → ∃ t o e, exec (.erase id maps corr none) s = .next t ∧
      o ∈ t.seq.waiting ∧ o.cls = 3 ∧ o.purpose = [.eraseDesc id] ∧ o.pages = [s.busAddr (mkAddr (addrDie a) (addrBlock a) 0 0)] ∧
      o.mapWait = !js.isEmpty ∧ o.rangeWait = false ∧ o.recovery = false ∧ t.ph.epoch = (s.ph.epoch + 1) % 65536 ∧
      t.ph.ranges = s.ph.ranges ++ [{ epoch := (s.ph.epoch + 1) % 65536, dies := [addrDie a], blocks := some [addrBlock a] }] ∧
      t.fi.mapWrites = s.fi.mapWrites ++ js.map (fun _ => id) ∧ t.desc? id = some e ∧ e.started = true ∧ e.status = none) ∧
    (s.writeDie (addrDie a) = none → 8 ≤ s.ph.ranges.length → ∃ t o, exec (.erase id maps corr none) s = .next t ∧
      o ∈ t.seq.waiting ∧ o.cls = 3 ∧ o.purpose = [.eraseDesc id] ∧ o.rangeWait = true ∧ t.ph.ranges = s.ph.ranges ∧
      t.getF F.MI_PH_EVENT_RANGE_WAIT = 1) ∧
    (∀ u, exec (.erase id maps corr (some u)) s = .next (s.dramUncorr u).memFatal)) ∧
  (∀ (s : State) (r : Nat), s.guardHolds r = false → s.modeNow = 4 ∨ s.modeNow = 5 ∨ s.modeNow = 11 → s.routeSt r = 2 →
    ∃ t, exec (.guardedReeraseRelease r) s = .next t ∧ t.seq.fromTrain = s.seq.fromTrain.filter (fun b => b / 65536 / 16 ≠ r) ∧
      ∀ b ∈ s.seq.fromTrain, b / 65536 / 16 = r → ∃ o ∈ t.seq.waiting, o.cls = 3 ∧ o.purpose = [.eraseGuarded] ∧ o.recovery = true ∧
        o.origin = .recovery ∧ o.pages = [s.busAddr (mkAddr (b / 65536) (b % 65536) 0 0)]) ∧
  (∀ (s : State) (id : Nat) (d : Desc) (unit : Option Nat), s.desc? id = some d → d.status = none → d.bufferFault = false →
    buffersRead d = false → s.writesOut = true → (∀ c ∈ s.so.scans, c.id ≠ id) → (∀ j ∈ s.seq.jobs, j.serves id = false) →
    (d.op = 0x03 → ∃ t, exec (.bufferFault id unit) s = .next t ∧ t.ended id 0x043 0) ∧
    (d.op ≠ 0x03 → (s.dropDescOps id).descInDie id = false → ∃ t, exec (.bufferFault id unit) s = .next t ∧
      t.ended id 0x043 (if d.op = 0x04 ∨ d.op = 0x07 then d.count else d.doneCount) ∧
      (∀ o ∈ t.seq.waiting, o ∈ s.seq.waiting ∧ .progDesc id ∉ o.purpose ∧ .eraseDesc id ∉ o.purpose)) ∧
    (d.op ≠ 0x03 → (s.dropDescOps id).descInDie id = true → unit = none → ∃ t, exec (.bufferFault id unit) s = .next t ∧
      t.desc? id = some { d with bufferFault := true } ∧ Frame (may [.descs, .flash]) s t) ∧
    (∀ u, d.op ≠ 0x03 → unit = some u → ∃ t, exec (.bufferFault id unit) s = .next t ∧ t.getF F.MI_EVENT_DRAM_UNCORR = 1 ∧
      t.getR R.MI_CNT_DRAM_UNCORR = s.getR R.MI_CNT_DRAM_UNCORR + 1 ∧ t.getR R.MI_DRAM_ERR_LO = BitVec.ofNat 32 (u / 16)))

/-- R20, R84, R88, R90, R92, R93, R110, R235, R287: PROGRAM_STRIPE opens its row or goes on filling it with its envelopes at their
positions, FLUSH_STRIPE fills it up, each waiting for the row; one that breaks a check ends with its status. A member whose slots can be
encoded is programmed, behind a re-erase where its block is incomplete, or is given the status of its die, and a row whose members have
all ended completes what waits on it with the first failing member's status. -/
def Obligations.StripeRowsFillAndComplete : Prop :=
  (∀ (s : State) (id n a j corr : Nat) (d : Desc) (buf md : Bytes) (maps : List Bytes) (envs : Nat → List (Bytes × Bytes)),
    s.ioRuns id 0x05 d → n = field d.bytes 16 4 → a = field d.bytes 8 8 → j = field d.bytes 5 1 → s.sqLeaving d.sq = false →
    envs = (fun used => (List.range n).map fun i => (s.progContent d.bytes md (slice buf (4096 * i) 4096) i ((used + i) % 14),
      slice buf (4096 * i) 4096)) →
    (∀ used, (∀ r, s.rowFind j (addrBlock a) (addrPage a) = some r → r.mapAck = true ∧ used = r.filled.length) →
      (s.rowFind j (addrBlock a) (addrPage a) = none → used = 0) →
      s.mapOn = false ∨ s.rowClash maps j (addrBlock a) = true ∨ s.rowSize j < used + n ∨
        (List.range n).all (metaOk d.bytes md) = false →
      ∃ t, exec (.programStripe id buf md maps corr none) s = .next t ∧ t.ended id 0x040 0 ∧ Frame (may [.descs, .regs 7]) s t) ∧
    (s.mapOn = true → s.rowClash maps j (addrBlock a) = false → (List.range n).all (metaOk d.bytes md) = true →
      (∀ st, s.rowFind j (addrBlock a) (addrPage a) = none → n ≤ s.rowSize j → d.late = some st →
        ∃ t, exec (.programStripe id buf md maps corr none) s = .next t ∧ t.ended id st 0 ∧ Frame (may [.descs, .regs 7]) s t) ∧
      (s.rowFind j (addrBlock a) (addrPage a) = none → n ≤ s.rowSize j → d.late = none →
        ∃ t r e, exec (.programStripe id buf md maps corr none) s = .next t ∧ r ∈ t.seq.rows ∧ r.layout = j ∧ r.base = addrBlock a ∧
          r.page = addrPage a ∧ r.filled = envs 0 ∧ r.waits = [(id, n)] ∧ r.opener = d.sq ∧ r.due = id ∧
          r.mapAck = lineBit (maps.getD j []) (s.mapIdx j (addrBlock a)) ∧ t.desc? id = some e ∧ e.started = true ∧ e.status = none ∧
          t.fi.mapWrites = s.fi.mapWrites ++ (if r.mapAck then [] else [id])) ∧
      (∀ r, s.rowFind j (addrBlock a) (addrPage a) = some r → r.mapAck = true → r.filled.length + n ≤ s.rowSize j → d.late = none →
        ∃ t r' e, exec (.programStripe id buf md maps corr none) s = .next t ∧ r' ∈ t.seq.rows ∧ r'.id = r.id ∧
          r'.filled = r.filled ++ envs r.filled.length ∧ r'.waits = r.waits ++ [(id, n)] ∧
          r'.due = id ∧ t.desc? id = some e ∧ e.started = true ∧ e.status = none)) ∧
    (∀ r, s.rowFind j (addrBlock a) (addrPage a) = some r → r.mapAck = false →
      ∀ lost, exec (.programStripe id buf md maps corr lost) s = .next s) ∧
    (∀ u, s.rowFind j (addrBlock a) (addrPage a) = none → s.mapOn = true →
      exec (.programStripe id buf md maps corr (some u)) s = .next (s.dramUncorr u).memFatal)) ∧
  (∀ (s : State) (id a j corr : Nat) (d : Desc) (maps : List Bytes), s.ioRuns id 0x08 d → a = field d.bytes 8 8 →
    j = field d.bytes 5 1 →
    (s.mapOn = true → s.rowClash maps j (addrBlock a) = false → s.rowFind j (addrBlock a) (addrPage a) = none →
      ∃ t, exec (.flushStripe id maps corr none) s = .next t ∧ t.ended id 0 0 ∧ Frame (may [.descs, .regs 7]) s t) ∧
    (∀ r, s.mapOn = true → s.rowClash maps j (addrBlock a) = false → s.rowFind j (addrBlock a) (addrPage a) = some r →
      r.mapAck = true → r.filled.length ≤ s.rowSize j →
      ∃ t r', exec (.flushStripe id maps corr none) s = .next t ∧ r' ∈ t.seq.rows ∧ r'.id = r.id ∧ r'.filled.length = s.rowSize j ∧
        r'.filled.take r.filled.length = r.filled ∧ r'.waits = r.waits ++ [(id, s.rowSize j - r.filled.length)] ∧ r'.due = id ∧
        Frame (may [.descs, .flash, .freeValues, .regs 7]) s t) ∧
    (s.rowFind j (addrBlock a) (addrPage a) = none → s.mapOn = false ∨ s.rowClash maps j (addrBlock a) = true →
      ∃ t, exec (.flushStripe id maps corr none) s = .next t ∧ t.ended id 0x040 0 ∧ Frame (may [.descs, .regs 7]) s t) ∧
    (∀ u, s.rowFind j (addrBlock a) (addrPage a) = none → s.mapOn = true →
      exec (.flushStripe id maps corr (some u)) s = .next (s.dramUncorr u).memFatal)) ∧
  (∀ (s : State) (row m k : Nat) (r : Row) (pages : List Nat), s.row? row = some r → m < 16 → m ∉ r.started → r.mapAck = true →
    s.memberReady r m = true → s.modeNow ≠ 10 → k = (s.layout r.layout).getD m 0 →
    pages = (List.range (s.rowPlanes r.layout)).map (fun i => s.busAddr (mkAddr k (r.base + i) r.page 0)) →
    (s.memberGone k = none → pages.find? s.mustReerase = none →
      ∃ t o, exec (.rowMemberProgramStart row m) s = .next t ∧ t.seq.waiting = s.seq.waiting ++ [o] ∧ o.cls = 2 ∧ o.ord = r.due ∧
        o.data = s.memberPages r m ∧ o.pages = pages ∧ t.row? row = some { r with started := r.started ++ [m] } ∧
        Frame (may [.flash]) s t) ∧
    (∀ p, s.memberGone k = none → pages.find? s.mustReerase = some p →
      ∃ t o x, exec (.rowMemberProgramStart row m) s = .next t ∧ t.seq.ahead = s.seq.ahead ++ [x] ∧ x.cls = 2 ∧ x.ord = r.due ∧
        x.data = s.memberPages r m ∧ x.pages = pages ∧ t.seq.waiting = s.seq.waiting ++ [o] ∧ o.cls = 3 ∧
        o.purpose = [.eraseAhead x.id] ∧ o.pages = [s.busAddr (mkAddr (s.logicalDie (addrDie p)) (addrBlock p) 0 0)] ∧
        t.row? row = some { r with started := r.started ++ [m] }) ∧
    (∀ st, s.memberGone k = some st → (∀ e ∈ r.members, e.1 ≠ m) →
      ∃ t, exec (.rowMemberProgramStart row m) s = .next t ∧
        t.row? row = some { r with started := r.started ++ [m], members := r.members ++ [(m, st)] } ∧ t.descs = s.descs ∧
        t.seq.waiting = s.seq.waiting ∧ t.seq.dies = s.seq.dies)) ∧
  (∀ (s : State) (row : Nat) (r : Row), s.row? row = some r → 16 ≤ r.members.length → (r.waits.map Prod.fst).Nodup →
    (∀ w ∈ r.waits, ∃ e, s.desc? w.1 = some e ∧ e.status = none ∧ e.bufferFault = false) →
    ((∀ e ∈ r.members, e.2 = 0) → ∃ t, exec (.rowComplete row) s = .next t ∧ t.row? row = none ∧
      (∀ w ∈ r.waits, t.ended w.1 0 w.2) ∧ Frame (may [.descs, .flash]) s t) ∧
    (∀ m st, m < 16 → (r.members.find? (·.1 = m)) = some (m, st) → st ≠ 0 →
      (∀ i e, i < m → (r.members.find? (·.1 = i)) = some e → e.2 = 0) →
      ∃ t, exec (.rowComplete row) s = .next t ∧ t.row? row = none ∧ (∀ w ∈ r.waits, ∀ e, s.desc? w.1 = some e →
        t.ended w.1 st (if e.op = 0x08 then w.2 else 0)) ∧ Frame (may [.descs, .flash]) s t))

/-- R51, R52, R80, R117, R124, R125, R126: DOWN_REQ in MAINT drains an UP route, which goes DOWN with cause 1 when it is quiet or its
limit is over; a drain for an apply ends for its route or is given up; one for a retrain starts it at step 5. VCCQ out of regulation, or
not good in time, takes the route DOWN with cause 5, and SAFE_TO_REMOVE shows that VCCQ has fallen. -/
def Obligations.RoutesDrainAndGoDown : Prop :=
  (∀ (s : State) (r : Nat), r < 32 → s.takes (R.RT_PHY_CTRL r) → s.modeNow = 11 → s.routeSt r = 2 → (r < 2 → s.routeSt (1 - r) = 2) →
    (s.route r).drainDown = false →
    ∃ t, exec (.downReq r) s = .next t ∧ t.routeSt r = 3 ∧ (t.route r).drainDown = true ∧ t.getF (F.RT_PHY_CTRL_DOWN_REQ r) = 1 ∧
      ∀ i, i ≠ r → t.routeSt i = s.routeSt i) ∧
  (∀ (s : State) (r : Nat) (c : Instr) (cause : Nat), r < 32 → s.routeSt r ≠ 0 → s.getF F.IMG_STATUS_STATE ≠ 4 →
    ((c = .routeDrainEnd r ∧ cause = 1 ∧ s.routeSt r = 3 ∧ s.routeQuiet r = true ∧ (s.route r).retrain = false ∧
        (s.route r).drainDown = true) ∨
      (c = .drainLimitExpiry r ∧ cause = 1 ∧ s.routeSt r = 3 ∧ (s.route r).drainDown = true) ∨
      (c = .vccqFault r ∧ cause = 5) ∨ (c = .vccqGoodTimeout r ∧ cause = 5 ∧ (s.route r).train = 1)) →
    ∃ t, exec c s = .next t ∧ t.routeSt r = 0 ∧ t.getF (F.RT_PHY_STATUS_DOWN_CAUSE r) = cause ∧
      t.getF (F.RT_PHY_EVENT_ROUTE_DOWN r) = 1 ∧ t.getF (F.RT_PHY_STATUS_VCCQ_GOOD r) = 0 ∧ .routePower r false ∈ t.out ∧
      ((s.route r).train ∉ [0, 12, 13] → t.getF (F.RT_PHY_EVENT_TRAIN_FAIL r) = 1) ∧ ∀ i, i ≠ r → t.routeSt i = s.routeSt i) ∧
  (∀ (s : State) (r : Nat), r < 32 → s.routeSt r = 3 → s.routeQuiet r = true → (s.route r).retrain = false → (s.route r).drainDown = false →
    ((s.route r).drainImage = true → (∃ i, i ∈ s.img.draining ∧ i ≠ r ∧ (s.route i).drained = false ∧ s.routeSt i ≠ 0) →
      ∃ t, exec (.routeDrainEnd r) s = .next t ∧ t.route r = { s.route r with drained := true } ∧ Frame (may [.flash]) s t) ∧
    ((s.route r).drainImage = false → (s.route r).drainRetrain = true →
      ∃ t, exec (.routeDrainEnd r) s = .next t ∧ t.out = s.out ++ (s.goodCes r).map (fun ce => .train r ce 5) ∧
        t.route r = { s.route r with drainRetrain := false, retrain := true, train := 5, minEye := s.minEye r } ∧
        t.getF (F.RT_PHY_STATUS_RATE r) = min 3600 (s.getF (F.RT_PHY_STATUS_RATE r)) ∧ t.getF (F.RT_PHY_STATUS_DFE_ON r) = 0 ∧
        Frame (may [.flash, .outputs, .regs 15]) s t)) ∧
  (∀ (s : State) (r : Nat), s.routeSt r = 3 → (s.route r).drainDown = false → (s.route r).drainImage = true →
    (s.route r).drained = false → s.getF F.IMG_STATUS_STATE = 4 → (∀ i ∈ s.img.draining, i < 32) →
    ∃ t, exec (.drainLimitExpiry r) s = .next t ∧ t.getF F.IMG_STATUS_STATE = 7 ∧ t.getF F.IMG_STATUS_CAUSE = 0x10 ∧
      t.img.draining = [] ∧ t.img.staging = [] ∧ t.img.active = s.img.active ∧
      ∀ i ∈ s.img.draining, s.routeSt i = 3 → (s.route i).drainDown = false → (s.route i).drainRetrain = false →
        (s.route i).retrain = false → t.routeSt i = 2) ∧
  (∀ (s : State) (r : Nat), r < 32 → s.routeSt r = 0 →
    ∃ t, exec (.safeToRemove r) s = .next t ∧ t.getF (F.RT_PHY_STATUS_SAFE_TO_REMOVE r) = 1 ∧ Frame (may [.regs 15]) s t)

/-- R58, R59, R60, R108, R109, R110, R117, R118, R123, R124, R239, R301: a ROUTE_REIMAGE gives a DOWN route the image's values and its
training, its lanes as at reset; training starts with the dies reset, its steps follow one another, a failed one takes the route DOWN,
step 3 finds the protocol and the dies that do not fit, read training the lanes' codes, the extended rate is taken or refused, step 10
brings the route UP with its dies idle, and the ledger scan finds what its entries say, or treats a lost ledger by the grey-block test. -/
def Obligations.RoutesAreTrained : Prop :=
  (∀ (s : State) (id r : Nat) (d : Desc), s.adminRuns id 0x62 d → r = field d.bytes 4 1 → r < 32 →
    (s.routeSt r ≠ 0 → ∃ t, exec (.routeReimage id) s = .next t ∧ t.ended id 0x040 0 ∧ Frame (may [.descs]) s t) ∧
    (s.routeSt r = 0 → r < s.img.eff.length → bit s.img.cfg.mask r = true → ∃ t, exec (.routeReimage id) s = .next t ∧
      t.route r = { s.route r with before := some (s.routeCfg r, s.routeOn r), reimage := some id } ∧
      t.routeCfg r = s.img.cfg.routes.getD r {} ∧ t.routeOn r = true ∧
      (∀ l, l < 9 → t.getR (R.RT_LANE r l) = regReset (R.RT_LANE r l)) ∧ t.getF (F.RT_PHY_STATUS_RETIRED r) = 0 ∧
      (∀ i, i < 16 → t.dieSt (dieKey r i) = if bit (s.img.cfg.routes.getD r {}).dies i = true then
        (if [0, 9].contains (s.dieSt (dieKey r i)) then 1 else s.dieSt (dieKey r i)) else 0) ∧
      Frame (may [.descs, .image, .flash, .regs 15, .regs 17]) s t) ∧
    (s.routeSt r = 0 → r < s.img.eff.length → bit s.img.cfg.mask r = false → ∃ t, exec (.routeReimage id) s = .next t ∧
      t.ended id St.routeDown 0 ∧ t.routeOn r = false ∧ Frame (may [.descs, .image, .flash, .regs 15, .regs 17]) s t)) ∧
  (∀ (s : State) (r : Nat), r < 32 → s.routeSt r = 0 → (s.route r).train = 0 → s.sec.heldWrites = [] →
    ((s.modeNow = 3 ∧ s.routeOn r = true ∧ r ∉ s.seq.scanned) ∨ (s.modeNow = 11 ∧ (s.route r).reimage.isSome = true)) →
    (s.getF (F.RT_PHY_STATUS_MOD_PRESENT r) = 1 → ∃ t, exec (.trainingStart r) s = .next t ∧ t.routeSt r = 1 ∧ (t.route r).train = 1 ∧
      t.getF (F.RT_PHY_STATUS_DOWN_CAUSE r) = 0 ∧ t.out = s.out ++ [.routePower r true] ∧
      (∀ i, i < 16 → t.dieSt (dieKey r i) = if s.dieOn (dieKey r i) = true then
        (if [8, 9].contains (s.dieSt (dieKey r i)) then s.dieSt (dieKey r i) else 7) else 0) ∧
      Frame (may [.flash, .outputs, .routeStates, .regs 14, .regs 15, .regs 17]) s t) ∧
    (s.getF (F.RT_PHY_STATUS_MOD_PRESENT r) = 0 → (s.route r).reimage = none → (s.route r).before = none →
      ∃ t, exec (.trainingStart r) s = .next t ∧ t.routeSt r = 0 ∧ t.getF (F.RT_PHY_STATUS_DOWN_CAUSE r) = 2 ∧ r ∈ t.seq.scanned ∧
        Frame (may [.flash, .regs 15]) s t) ∧
    (∀ id e, s.getF (F.RT_PHY_STATUS_MOD_PRESENT r) = 0 → (s.route r).reimage = some id → s.desc? id = some e → e.status = none →
      e.bufferFault = false → ∃ t, exec (.trainingStart r) s = .next t ∧ t.routeSt r = 0 ∧ t.ended id St.routeDown 0)) ∧
  (∀ (s : State) (r n : Nat) (data : List Bytes), r < 32 → n = (s.route r).train → [3, 4, 5, 6, 11].contains s.modeNow = true →
    (n = 1 → ∃ t, exec (.trainingStepDone r true data) s = .next t ∧ t.getF (F.RT_PHY_STATUS_VCCQ_GOOD r) = 1 ∧
      (t.route r).train = 2 ∧ Frame (may [.flash, .regs 15]) s t) ∧
    (n = 2 → ∃ t, exec (.trainingStepDone r true data) s = .next t ∧ (t.route r).train = 3 ∧
      t.out = s.out ++ (((List.range 4).filter fun ce => (s.routeDies r).any fun k => k % 16 / 4 = ce).map fun ce =>
        .dieCmd r (4 * ce) [0xFF] []) ∧ Frame (may [.flash, .outputs]) s t) ∧
    (∀ proto, n = 3 → (s.route r).resetBad = [] → (∀ k ∈ s.routeDies r, s.retired k = false) → proto = 1 ∨ proto = 2 →
      s.routeDies r ≠ [] → s.seq.waiting = [] →
      (∀ (i k : Nat), (s.routeDies r)[i]? = some k → i = 0 → field (data.getD i []) 0 1 = proto) →
      ((∃ (i k : Nat), (s.routeDies r)[i]? = some k ∧ field (data.getD i []) 0 1 = proto ∧ s.pageFits k (data.getD i []) = true) →
        ∃ t, exec (.trainingStepDone r true data) s = .next t ∧ (t.route r).train = 4 ∧ t.getF (F.RT_STATUS_PROTOCOL r) = proto - 1 ∧
        ∀ (i k : Nat), (s.routeDies r)[i]? = some k →
          (field (data.getD i []) 0 1 = proto ∧ s.pageFits k (data.getD i []) = true → t.dieSt k = 7) ∧
          (field (data.getD i []) 0 1 ≠ proto ∨ s.pageFits k (data.getD i []) = false → t.dieSt k = 8 ∧
            t.getF (F.RT_DIE_FAULT_CAUSE r (k % 16)) = 2 ∧ t.getF (F.RT_EVENT_PARAM_MISMATCH r) = 1)) ∧
      ((∀ (i k : Nat), (s.routeDies r)[i]? = some k → s.pageFits k (data.getD i []) = false) → s.routeSt r ≠ 0 →
        ∃ t, exec (.trainingStepDone r true data) s = .next t ∧ t.routeSt r = 0 ∧ t.getF (F.RT_PHY_STATUS_DOWN_CAUSE r) = 4)) ∧
    (n = 4 → ∃ t, exec (.trainingStepDone r true data) s = .next t ∧
      t.getF (F.RT_PHY_STATUS_RATE r) = min 3600 (s.routeCfg r).rate ∧ (t.route r).train = 5 ∧
      Frame (may [.flash, .outputs, .regs 15]) s t) ∧
    (n ∈ [5, 6, 16, 26] → ∃ t, exec (.trainingStepDone r true data) s = .next t ∧ (t.route r).train = n + 1 ∧
      Frame (may [.flash, .outputs, .regs 15]) s t) ∧
    (n ∈ [7, 17, 27] → (s.route r).minEye ≤ 255 → s.routeSt r ≠ 0 →
      (∀ c ∈ s.goodCes r, ∀ l, l < 9 → (s.route r).minEye ≤ field (data.getD c []) l 1) →
      ∃ t, exec (.trainingStepDone r true data) s = .next t ∧ (t.route r).train = n + 1 ∧
        (∀ l, l < 9 → t.getF (F.RT_LANE_STATE r l) = (if l = 8 then 3 else 0) ∧ t.getF (F.RT_LANE_OFFSET r l) = 0 ∧
          t.getF (F.RT_LANE_FAILS r l) = 0 ∧
          ∀ c ∈ s.goodCes r, t.getF (F.RT_DESKEW_READ r (9 * c + l)) = field (data.getD c []) (9 + l) 1 % 128) ∧
        Frame (may [.flash, .outputs, .regs 15]) s t) ∧
    (n ∈ [8, 18, 28] → ∃ t, exec (.trainingStepDone r true data) s = .next t ∧
      (t.route r).train = (if n = 8 ∧ 3600 < (s.routeCfg r).rate then 9 else 10) ∧
      (∀ c ∈ s.goodCes r, ∀ l ∈ s.lanesInUse r, t.getF (F.RT_DESKEW_WRITE r (9 * c + l)) = field (data.getD c []) l 1 % 128) ∧
      Frame (may [.flash, .outputs, .regs 15]) s t) ∧
    (n = 9 → s.getF (F.RT_XRATE_FA r) = 0 → ∃ t, exec (.trainingStepDone r true data) s = .next t ∧ (t.route r).train = 10 ∧
      t.getF (F.RT_PHY_STATUS_RATE r) = min 3600 (s.routeCfg r).rate ∧ t.getF (F.RT_PHY_STATUS_DFE_ON r) = 0 ∧
      t.getF (F.RT_PHY_EVENT_XRATE_REFUSED r) = 1) ∧
    (n = 9 → s.getF (F.RT_XRATE_FA r) ≠ 0 → (∀ c ∈ s.goodCes r, field (data.getD c []) 0 1 = s.getF (F.RT_XRATE_VALUE r)) →
      ∃ t, exec (.trainingStepDone r true data) s = .next t ∧ (t.route r).train = 16 ∧
      t.getF (F.RT_PHY_STATUS_RATE r) = (s.routeCfg r).rate % 8192 ∧ t.getF (F.RT_PHY_STATUS_DFE_ON r) = 1 ∧
      Frame (may [.flash, .outputs, .freeValues, .regs 15]) s t) ∧
    (n ∉ [0, 10, 12, 13] → s.routeSt r ≠ 0 → s.getF F.IMG_STATUS_STATE ≠ 4 → ∃ t, exec (.trainingStepDone r false data) s = .next t ∧
      t.routeSt r = 0 ∧ t.getF (F.RT_PHY_STATUS_DOWN_CAUSE r) = (if n = 1 then 5 else 4) ∧
      t.getF (F.RT_PHY_EVENT_TRAIN_FAIL r) = 1) ∧
    (n = 10 → s.routeSt r ≠ 0 → (∀ l ∈ s.lanesInUse r, (s.route r).minEye ≤ field (data.headD []) l 1) →
      ((s.route r).retrain = false → ∃ t, exec (.trainingStepDone r true data) s = .next t ∧ t.routeSt r = 2 ∧ (t.route r).train = 12 ∧
        t.getR (R.RT_TRAIN_ERR r) = 0 ∧
        (∀ k ∈ s.serviceDies r, t.dieSt k = 1 ∧ ((s.route r).reimage.isSome = true → t.stale k = true))) ∧
      ((s.route r).retrain = true → (s.route r).recal = none → ∃ t, exec (.trainingStepDone r true data) s = .next t ∧
        t.routeSt r = (if (s.route r).drainImage = true then 3 else 2) ∧ (t.route r).train = 0 ∧ (t.route r).retrain = false ∧
        t.getR (R.RT_TRAIN_ERR r) = 0)) ∧
    (∀ ok, n = 10 → 3600 < s.getF (F.RT_PHY_STATUS_RATE r) →
      ok = false ∨ (∃ l ∈ s.lanesInUse r, field (data.headD []) l 1 < (s.route r).minEye) →
      ∃ t, exec (.trainingStepDone r ok data) s = .next t ∧ (t.route r).train = 26 ∧ t.getF (F.RT_PHY_STATUS_DFE_ON r) = 0 ∧
        t.getF (F.RT_PHY_STATUS_RATE r) = min 3600 (s.routeCfg r).rate ∧ t.getF (F.RT_PHY_EVENT_XRATE_REFUSED r) = 1) ∧
    (n = 12 → s.tempsIn r = true → (∀ k ∈ s.serviceDies r, (s.die k).ledger.lost = false ∧
        s.scanErased data k ((s.geo k).blocks - 1) 0 = true ∧ s.scanErased data k ((s.geo k).blocks - 2) 0 = true) →
      (∀ id e, (s.route r).reimage = some id → s.desc? id = some e → e.status = none → e.bufferFault = false →
        ∃ t, exec (.trainingStepDone r true data) s = .next t ∧ t.ended id 0 0 ∧ (t.route r).train = 0 ∧ (t.route r).reimage = none ∧
          (t.route r).before = none) ∧
      ((s.route r).reimage = none → ∃ t, exec (.trainingStepDone r true data) s = .next t ∧ (t.route r).train = 13 ∧
        (∀ k ∈ s.serviceDies r, (t.die k).ledger = {}) ∧
        t.getR (R.RT_CNT_READ r) = s.getR (R.RT_CNT_READ r) + BitVec.ofNat 32 (2 * (s.serviceDies r).length) ∧
        Frame (may [.flash, .outputs, .regs 17]) s t)) ∧
    (∀ k e nx l m, n = 12 → s.modeNow = 3 → s.tempsIn r = true → s.serviceDies r = [k] → (s.route r).reimage = none →
      (s.die k).ledger.lost = false →
      ledgerState (s.scanErased data k ((s.geo k).blocks - 1)) (s.scanEntry data k ((s.geo k).blocks - 1)) (s.geo k).pages =
        (some (some (e, nx)), l) →
      ledgerState (s.scanErased data k ((s.geo k).blocks - 2)) (s.scanEntry data k ((s.geo k).blocks - 2)) (s.geo k).pages =
        (some none, m) →
      field e 4 1 = 1 → s.seq.incomplete.length ≤ 1020 →
      ∃ t, exec (.trainingStepDone r true data) s = .next t ∧ (t.route r).train = 13 ∧
        (t.die k).ledger = { active := 0, next := nx, gen := entryGen e } ∧
        (∀ x ∈ entryBlocks e, blockKey k x ∈ t.seq.incomplete) ∧ t.getF F.FI_REC_EVENT_RECOVERED = 1) ∧
    (∀ k l, n = 12 → s.modeNow = 3 → s.tempsIn r = true → s.serviceDies r = [k] → (s.route r).reimage = none →
      ledgerState (s.scanErased data k ((s.geo k).blocks - 1)) (s.scanEntry data k ((s.geo k).blocks - 1)) (s.geo k).pages = (none, l) →
      s.seq.incomplete.length + (s.greyBlocks k data).length ≤ 1024 →
      ∃ t, exec (.trainingStepDone r true data) s = .next t ∧ (t.route r).train = 13 ∧
        (∀ b ∈ s.greyBlocks k data, blockKey k b ∈ t.seq.incomplete) ∧ t.getF F.FI_REC_EVENT_RECOVERED = 1 ∧
        (s.guardHolds r = true → (t.die k).ledger = { lost := true, due := true }) ∧
        (s.guardHolds r = false → (t.die k).ledger = {} ∧ t.getR (R.RT_CNT_ERASE r) = s.getR (R.RT_CNT_ERASE r) + 2)) ∧
    (n = 13 → s.modeNow = 3 → s.allScanned = true → s.diesIdle r = true → (∀ x ∈ s.seq.incomplete, x / 65536 / 16 ≠ r) →
      ∃ t, exec (.trainingStepDone r true data) s = .next t ∧ (t.route r).train = 0 ∧ r ∈ t.seq.scanned))

/-- R116, R118, R119, R120, R121, R122, R124, R128: a pass starts with lane 0 in a gap on the bus, on the relief carrier or on bursts, with
MIN_EYE as it then stands; a good sweep lets DQX carry the lane and then moves the lane, the last one ending the pass; a second failed
sweep retires the lane onto DQX, or DQX itself, or takes the route DOWN; bursts feed the monitor, whose window shows its count, starts a
pass above the limit and drains the route for a retrain when it stays there. -/
def Obligations.RoutesAreRecalibrated : Prop :=
  (∀ (s : State) (r : Nat) (c : Instr), r < 32 → ((c = .recalNow r ∧ s.takes (R.RT_PHY_CTRL r)) ∨ c = .recalPeriodExpiry r) →
    s.routeUp r = true → (s.route r).recal = none → s.getF (F.RT_LANE_STATE r 0) ≠ 2 →
    ∃ t, exec c s = .next t ∧ t.getF (F.RT_RECAL_LANE r) = 0 ∧ t.getF (F.RT_PHY_CTRL_RECAL_NOW r) = 0 ∧
      (t.route r).passTemp = s.junction ∧
      (s.recalRuns r = true → s.busGap r = true → t.getF (F.RT_LANE_STATE r 0) = 1 ∧
        (s.reliefServes r = true → (t.route r).recal = some { lane := 0, phase := 1, minEye := s.minEye r } ∧
          t.out = s.out ++ [.relief r 0xA0] ∧ t.getF (F.RT_PHY_STATUS_RELIEF_POS r) = 0) ∧
        (s.reliefServes r = false → (t.route r).recal = some { lane := 0, phase := 3, minEye := s.minEye r } ∧ t.out = s.out)) ∧
      (s.recalRuns r = false ∨ s.busGap r = false → (t.route r).recal = some { lane := 0 } ∧ t.out = s.out ∧
        t.getF (F.RT_LANE_STATE r 0) = s.getF (F.RT_LANE_STATE r 0)) ∧
      Frame (may [.flash, .outputs, .regs 15]) s t) ∧
  (∀ (s : State) (r k eye : Nat) (shift : Int) (dis : Nat) (c : Recal), r < 32 → k < 8 → (s.route r).recal = some c → c.lane = k →
    s.recalRuns r = true → s.busGap r = true →
    (c.phase = 1 → c.minEye ≤ eye → ∃ t, exec (.recalPhaseDone r eye shift dis) s = .next t ∧
      (t.route r).recal = some { c with phase := 2, minEye := s.minEye r } ∧ t.getF (F.RT_LANE_EYE r 8) = min 255 eye ∧
      t.getF (F.RT_LANE_FAILS r 8) = 0 ∧ t.getF (F.RT_PHY_STATUS_RELIEF_CARRYING r) = 1 ∧
      (∀ x, x < 4 → (t.getF (F.RT_DESKEW_READ r (9 * x + 8)) : Int) =
        clampInt 0 127 ((s.getF (F.RT_DESKEW_READ r (9 * x + 8)) : Int) + shift)) ∧ Frame (may [.flash, .freeValues, .regs 15]) s t) ∧
    (c.phase = 1 → eye < c.minEye → 1 ≤ s.getF (F.RT_LANE_FAILS r 8) → ∃ t, exec (.recalPhaseDone r eye shift dis) s = .next t ∧
      (t.route r).recal = some { c with phase := 3, minEye := s.minEye r } ∧ t.getF (F.RT_LANE_STATE r 8) = 2 ∧
      t.getF (F.RT_PHY_EVENT_LANE_RETIRED r) = 1 ∧ t.getF (F.RT_PHY_EVENT_RECAL_FAIL r) = 1) ∧
    (c.phase = 2 → c.minEye ≤ eye → k = 7 → ∃ t, exec (.recalPhaseDone r eye shift dis) s = .next t ∧ (t.route r).recal = none ∧
      t.getF (F.RT_LANE_EYE r 7) = min 255 eye ∧ t.getF (F.RT_LANE_FAILS r 7) = 0 ∧ t.getF (F.RT_LANE_STATE r 7) = 0 ∧
      t.getF (F.RT_LANE_OFFSET r 7) = unsigned 8 (clampInt (-128) 127 (signed 8 (s.getF (F.RT_LANE_OFFSET r 7)) + shift)) ∧
      t.getF (F.RT_PHY_STATUS_RELIEF_CARRYING r) = 0 ∧ t.getF (F.RT_RECAL_LANE r) = 15 ∧
      t.getF (F.RT_RECAL_COUNT r) = (s.getF (F.RT_RECAL_COUNT r) + 1) % 65536 ∧ t.out = s.out ++ [.relief r 0xAF]) ∧
    (c.phase = 2 → eye < c.minEye → 1 ≤ s.getF (F.RT_LANE_FAILS r k) →
      ((s.routeCfg r).relief = 2 → s.reliefFree r = true →
        ∃ t, exec (.recalPhaseDone r eye shift dis) s = .next t ∧ t.getF (F.RT_LANE_STATE r k) = 2 ∧ t.getF (F.RT_LANE_STATE r 8) = 0 ∧
          t.getF (F.RT_PHY_STATUS_RETIRED r) = 1 ∧ t.getF (F.RT_PHY_EVENT_LANE_RETIRED r) = 1 ∧
          t.getF (F.RT_PHY_EVENT_RECAL_FAIL r) = 1) ∧
      ((s.routeCfg r).relief ≠ 2 ∨ s.reliefFree r = false → s.getF F.IMG_STATUS_STATE ≠ 4 →
        ∃ t, exec (.recalPhaseDone r eye shift dis) s = .next t ∧ t.routeSt r = 0 ∧ t.getF (F.RT_PHY_STATUS_DOWN_CAUSE r) = 3 ∧
          t.getF (F.RT_PHY_EVENT_RECAL_FAIL r) = 1))) ∧
  (∀ (s : State) (r k : Nat) (c : Recal), (s.route r).recal = some c → c.phase = 1 ∨ c.phase = 2 → s.recalRuns r = true →
    s.busGap r = true → s.burstFree r = true → s.burstDie r = some k →
    ∃ t, exec (.forceGapExpiry r) s = .next t ∧ t.route r = { s.route r with burst := true } ∧
      t.out = s.out ++ [.train r (k % 16 / 4) 7] ∧ Frame (may [.flash, .outputs]) s t) ∧
  (∀ (s : State) (r errors eye n : Nat) (done : Bool) (shift : Int), r < 32 → s.routeUp r = true →
    (s.route r).retrain = false → (s.route r).drainRetrain = false → n = min 65535 (s.getF (F.RT_TRAIN_ERR_COUNT r) + errors) →
    ((s.route r).burst = true → ∃ t, exec (.trainingBurst r errors done eye shift) s = .next t ∧
      t.route r = { s.route r with burst := false } ∧ t.getF (F.RT_TRAIN_ERR_COUNT r) = n ∧ Frame (may [.flash, .regs 15]) s t) ∧
    (∀ c, (s.route r).recal = some c → (s.route r).burst = false → c.phase = 3 → s.recalRuns r = true → s.burstFree r = true →
      (done = false → ∃ t, exec (.trainingBurst r errors done eye shift) s = .next t ∧ t.getF (F.RT_TRAIN_ERR_COUNT r) = n ∧
        Frame (may [.outputs, .regs 15]) s t) ∧
      (done = true → c.lane = 7 → c.minEye ≤ eye → ∃ t, exec (.trainingBurst r errors done eye shift) s = .next t ∧
        (t.route r).recal = none ∧ t.getF (F.RT_TRAIN_ERR_COUNT r) = n ∧ t.getF (F.RT_LANE_STATE r 7) = 0 ∧
        t.getF (F.RT_LANE_EYE r 7) = min 255 eye))) ∧
  (∀ (s : State) (r n : Nat), r < 32 → s.routeUp r = true → (s.route r).retrain = false → (s.route r).drainRetrain = false →
    n = s.getF (F.RT_TRAIN_ERR_COUNT r) →
    ∃ t, exec (.trainErrWindowEnd r) s = .next t ∧ t.getF (F.RT_TRAIN_ERR_LAST r) = n ∧ t.getF (F.RT_TRAIN_ERR_COUNT r) = 0 ∧
      ((s.route r).overRuns = 2 → (t.route r).overRuns = 3) ∧
      ((s.routeCfg r).errLimit < n → t.guardHolds r = true ∧
        ((s.route r).overRuns = 0 → (s.route r).recal = none → s.getF (F.RT_LANE_STATE r 0) ≠ 2 → (t.route r).overRuns = 1 ∧
          (t.route r).recal.isSome = true) ∧
        ((s.route r).overRuns = 3 → t.routeSt r = 3 ∧ (t.route r).drainRetrain = true)) ∧
      (n ≤ (s.routeCfg r).errLimit → t.routeSt r = s.routeSt r ∧ ((s.route r).overRuns = 3 → (t.route r).overRuns = 0)))

/-! ### The read channel -/

/-- R140, R142, R143, R144, R145, R232, R234, R240: an envelope that tests erased ends ERASED; one whose mark is found and whose pilots
are its own waits for a core, the next of its data-out being received after it; one without a frame mark is transferred again with those
after it, twice, and then is FRAME_LOST; a header read alone gives its descriptor its outcome code, or is read whole with RECOVER; a raw
page is written out. -/
def Obligations.EnvelopesAreReceived : Prop :=
  (∀ (s : State) (job id i lead skip k : Nat) (data buf : Bytes) (j : Job) (o : DieOp) (e : Desc), s.job? job = some j → k = s.jobDie j →
    (s.die k).moving = some job → (s.die k).want = none → (s.die k).op = some o → o.base = none → s.routeUp (k / 16) = true →
    s.pipeRuns = true → j.header = false → j.step = 0 → j.dest = .desc id i → s.desc? id = some e → e.status = none →
    e.bufferFault = false → i < e.results.length → buf = carried (s.die k).runBytes skip data →
    lead = 4608 * (addrEnv j.addr - (s.die k).runAt) →
    (envErased (s.die k).envCtrl (slice buf lead 4608) = true → ∃ t e', exec (.envelopeReceived job data skip) s = .next t ∧
      t.getR R.RC_ENV_CNT_ERASED = s.getR R.RC_ENV_CNT_ERASED + 1 ∧ t.job? job = none ∧ t.desc? id = some e' ∧
      e'.results[i]? = some (some { status := St.erased, outcome := 2 })) ∧
    (∀ p, envErased (s.die k).envCtrl (slice buf lead 4608) = false → alignAt (s.die k).envX j.addr buf lead = some p →
      (misdelivered (s.die k).envX j.addr (gatherPilots (leNat (slice buf p 4608))) = false →
        ∃ t j', exec (.envelopeReceived job data skip) s = .next t ∧ t.job? job = some j' ∧ j'.phase = .received ∧ j'.dest = j.dest ∧
          j'.reads = [slice buf p 4608] ∧ j'.centre = j.issued ∧ job ∈ t.rc.decQueue ∧ (t.die k).moving = (s.die k).run.head? ∧
          (p ≠ lead → t.getR R.RC_ENV_CNT_SHIFTED = s.getR R.RC_ENV_CNT_SHIFTED + 1) ∧
          Frame (may [.flash, .readChannel, .regs 9, .regs 15, .regs 17]) s t) ∧
      (misdelivered (s.die k).envX j.addr (gatherPilots (leNat (slice buf p 4608))) = true →
        ∃ t e', exec (.envelopeReceived job data skip) s = .next t ∧ t.job? job = none ∧
          t.getR R.RC_ENV_CNT_MISDELIVERED = s.getR R.RC_ENV_CNT_MISDELIVERED + 1 ∧ t.desc? id = some e' ∧
          e'.results[i]? = some (some { status := St.misdelivered }))) ∧
    (envErased (s.die k).envCtrl (slice buf lead 4608) = false → alignAt (s.die k).envX j.addr buf lead = none →
      (j.tries < 2 → ∃ t, exec (.envelopeReceived job data skip) s = .next t ∧ t.job? job = some { j with tries := j.tries + 1 } ∧
        (t.die k).moving = some job ∧ (t.die k).want = some .dataOut ∧
        t.getR R.RC_ENV_CNT_MISSED = s.getR R.RC_ENV_CNT_MISSED + 1 ∧ Frame (may [.flash, .regs 9, .regs 15]) s t) ∧
      (2 ≤ j.tries → ∃ t e', exec (.envelopeReceived job data skip) s = .next t ∧ t.job? job = none ∧
        t.getR R.RC_ENV_CNT_LOST = s.getR R.RC_ENV_CNT_LOST + 1 ∧ t.desc? id = some e' ∧
        e'.results[i]? = some (some { status := St.frameLost })))) ∧
  (∀ (s : State) (job id skip k : Nat) (data : Bytes) (j : Job) (e : Desc), s.job? job = some j → k = s.jobDie j →
    (s.die k).moving = some job → (s.die k).want = none → s.routeUp (k / 16) = true → s.pipeRuns = true → j.header = false →
    j.dest = .raw id → s.desc? id = some e → e.status = none → e.bufferFault = false → s.getF F.PWR_DRAM_SR = 0 →
    ∃ t, exec (.envelopeReceived job data skip) s = .next t ∧ t.job? job = none ∧ t.ended id St.ok 1 ∧
      t.out = s.out ++ dramOuts s.pieces [(field e.bytes 20 8, slice (carried (s.die k).runBytes skip data) 0 18432)]) ∧
  (∀ (s : State) (job id i k : Nat) (data : Bytes) (j : Job) (e : Desc), s.job? job = some j → k = s.jobDie j →
    (s.die k).moving = some job → (s.die k).want = none → s.routeUp (k / 16) = true → s.pipeRuns = true → j.header = true →
    j.hdrDone = false → j.dest = .desc id i → s.desc? id = some e → e.status = none → e.bufferFault = false → i < e.results.length →
    (∀ code content, headerCode (s.die k).envCtrl j.addr data = (code, content) → code ≠ 3 ∨ bit (field e.bytes 4 1) 0 = false →
      ∃ t e', exec (.headerReceived job data) s = .next t ∧ t.job? job = none ∧ t.desc? id = some e' ∧ e'.results[i]? = some (some
        { status := if code = 2 then St.erased else if code = 3 then St.uncorrectable else St.ok, outcome := code, content := content })) ∧
    ((headerCode (s.die k).envCtrl j.addr data).1 = 3 → bit (field e.bytes 4 1) 0 = true →
      ∃ t, exec (.headerReceived job data) s = .next t ∧ t.job? job = some { j with header := false } ∧ (t.die k).moving = none ∧
        Frame (may [.flash]) s t))

/-- R139, R151, R152, R153, R154, R156, R157, R158, R159, R170, R171: a closed pool moves its group's drift or is discarded; a free core
takes the next envelope of the route whose turn it is; its input bits have HARD of the band's table as magnitude, or the soft level's, and
their sign from the centre read; a decode that passes gives its envelope its status and payload, one that fails waits for its estimate or
goes on with its ladder; a core that fails is retired, and a spare takes its place. -/
def Obligations.DecodersAndDriftServe : Prop :=
  (∀ (s : State) (r d g x : Nat) (p : Pool) (c : Nat), (s.rc.pools.find? fun q => q.closed && q.die = dieKey r d && q.group = g) = some p →
    s.pipeRuns = true → (∀ j ∈ s.seq.jobs, j.rd ≠ p.rd) → x = recKey p.die p.group → c = s.dieClass p.die →
    (s.poolCells p = [] → ∃ t, exec (.driftEstimate r d g) s = .next t ∧ t.rc.drift = s.rc.drift ∧ t.rc.versions = s.rc.versions ∧
      t.rc.pools = s.rc.pools.filter (·.rd ≠ p.rd) ∧ Frame (may [.readChannel]) s t) ∧
    (s.poolCells p ≠ [] → s.keptF p.regs F.RC_PILOT_PLAUSIBLE < s.rberQ c p.ptype (s.poolCells p) ∨ p.version ≠ s.version x →
      ∃ t, exec (.driftEstimate r d g) s = .next t ∧ t.getR R.RC_CNT_DISCARD = s.getR R.RC_CNT_DISCARD + 1 ∧ t.rc.drift = s.rc.drift ∧
        t.rc.versions = s.rc.versions ∧ t.rc.pools = s.rc.pools.filter (·.rd ≠ p.rd) ∧ Frame (may [.readChannel, .regs 9]) s t) ∧
    (s.poolCells p ≠ [] → s.rberQ c p.ptype (s.poolCells p) ≤ s.keptF p.regs F.RC_PILOT_PLAUSIBLE → p.version = s.version x →
      ∃ t, exec (.driftEstimate r d g) s = .next t ∧ t.rc.pools = s.rc.pools.filter (·.rd ≠ p.rd) ∧
        (∀ i, i < 15 → i + 1 < 2 ^ s.cellBits c → s.thrType c (i + 1) = p.ptype →
          (t.drift x).getD i 0 = clampInt (-(max 1 (s.keptF p.regs F.RC_PILOT_DRIFT_MAX) : Nat))
            (max 1 (s.keptF p.regs F.RC_PILOT_DRIFT_MAX) : Nat)
            ((s.drift x).getD i 0 + (s.deltas p.regs c p.ptype (s.poolCells p)).getD i 0)) ∧
        (t.drift x ≠ s.drift x → t.version x = s.version x + 1) ∧ (∀ y, y ≠ x → t.drift y = s.drift y ∧ t.version y = s.version y))) ∧
  (∀ (s : State) (core r : Nat) (j : Job), s.stagesTake = true → s.coreWorks core = true → s.coreJob core = none →
    s.decodeRoute = some r → (s.decWaiting.find? fun x => s.jobRoute x = r) = some j →
    ∃ t j', exec (.decoderCoreFree core) s = .next t ∧ t.coreJob core = some j.id ∧ t.job? j.id = some j' ∧
      j'.phase = .decoding core ∧ j'.llr = (if s.dieBits (s.jobDie j) = 0 then 3 else llrBand j.rber) ∧ j.id ∉ t.rc.decQueue ∧
      t.rc.corePtr = (r + 1) % 32 ∧ Frame (may [.flash, .readChannel]) s t ∧
      ∀ b, (t.llr j' b < 0 → clearBit j.addr j.centreRaw b = true) ∧ (0 < t.llr j' b → clearBit j.addr j.centreRaw b = false) ∧
        (j.reads.length < 7 → (t.llr j' b).natAbs = s.keptF j.regs (F.RC_LLR_X_HARD j'.llr)) ∧
        (7 ≤ j.reads.length → (j.reads.countP fun q => rawBit q b = rawBit j.centreRaw b) = 7 →
          (t.llr j' b).natAbs = s.keptF j.regs (F.RC_LLR_X_L3 j'.llr))) ∧
  (∀ (s : State) (core iters job id i : Nat) (word : Bytes) (j : Job) (e : Desc), s.coreJob core = some job → s.job? job = some j →
    s.pipeRuns = true → j.dest = .desc id i → s.desc? id = some e → e.status = none → e.bufferFault = false → i < e.results.length →
    (s.decodeOk j iters word = true → ∃ t e', exec (.decodeDone core iters word) s = .next t ∧ t.job? job = none ∧
      t.coreJob core = none ∧ t.desc? id = some e' ∧ e'.results[i]? = some (some
        { status := j.okStatus, outcome := 4, content := slice (decodeWord j.addr j.centreRaw word) 24 30,
          payload := slice (decodeWord j.addr j.centreRaw word) 64 4096 }) ∧
      (j.step = 0 → t.getR R.RC_CNT_FIRST = s.getR R.RC_CNT_FIRST + 1)) ∧
    (s.decodeOk j iters word = false → j.step = 0 → j.offGroup = false → (∃ p ∈ s.rc.pools, p.rd = j.rd) →
      ∃ t, exec (.decodeDone core iters word) s = .next t ∧ t.coreJob core = none ∧
        t.job? job = some { j with phase := .ladderWait, estWait := true } ∧ Frame (may [.flash, .readChannel]) s t) ∧
    (s.decodeOk j iters word = false → j.step ≠ 0 →
      (s.nextLadder j = 4 → j.recon = true → ∃ t, exec (.decodeDone core iters word) s = .next t ∧ t.coreJob core = none ∧
        t.job? job = some { j with phase := .waitCtx, why := St.uncorrectable, decIn := false } ∧
        t.getR R.RC_CNT_UNCORR = s.getR R.RC_CNT_UNCORR + 1 ∧ Frame (may [.flash, .readChannel, .regs 9]) s t) ∧
      (s.nextLadder j = 3 → s.unreadable j.addr true = none → ∃ t j', exec (.decodeDone core iters word) s = .next t ∧
        t.coreJob core = none ∧ t.job? job = some j' ∧ j'.step = 3 ∧ j'.phase = .waitDie ∧ j'.reads = j.reads.take 1 ∧
        (∃ o ∈ t.seq.waiting, job ∈ o.jobs ∧ o.base = some (s.softBase j 3 0)) ∧ Frame (may [.flash, .readChannel, .regs 9]) s t))) ∧
  (∀ (s : State) (c : Instr) (core : Nat), core < 68 → s.coreWorks core = true →
    (∀ job, s.coreJob core = some job → (s.job? job).isSome = true) →
    ((c = .decoderSelfTestDue core false ∧ s.pipeRuns = true ∧ s.coreJob core = none) ∨
      (c = .decoderCheckerFault core ∧ s.coreRuns = true)) →
    ∃ t, exec c s = .next t ∧ t.coreWorks core = false ∧ t.coreJob core = none ∧
      t.getF ⟨R.RC_CORE_FAIL (core / 32), core % 32, 1⟩ = 1 ∧
      t.getF F.RC_STATUS_CORES_OK = 68 - (s.rc.retired.length + 1) ∧
      (∀ m l, s.spareCores = m :: l → t.coreWorks m = true ∧ t.getF F.RC_EVENT_CORE_SUBST = 1) ∧
      (∀ job j, s.coreJob core = some job → s.job? job = some j → t.rc.decQueue = job :: s.rc.decQueue ∧
        t.job? job = some { j with phase := .received }))

/-- R55, R141, R143, R162, R163, R165, R166, R168: CALIBRATE takes the wordlines that may be read and asks for their centre reads, or ends
where the die, its route, its cell model or the wordlines do not serve; a calibration page whose envelope is lost ends its calibration;
with the centre reads in, the sweep's are asked for; with its sweep in, results that agree store a record, and others leave every record
as it is; GET_CAL writes records out, SET_CAL takes a sound one. -/
def Obligations.CalibrationsDecide : Prop :=
  (∀ (s : State) (id corr src k g b : Nat) (d : Desc) (list : Bytes) (l ls : List (Nat × Nat)), s.adminRuns id 0x50 d →
    src = addrDie (field d.bytes 8 8) → k = s.busDie src → g = field d.bytes 4 1 → l = calList (field d.bytes 16 4) list →
    b = s.dieBits k → g < 8 → ls = l.filter (fun w => !s.erasePending (mkAddr src w.1 0 0)) →
    (s.calListOk k g l = false → ∃ t, exec (.calibrate id list corr) s = .next t ∧ t.ended id 0x040 0 ∧
      Frame (may [.descs, .regs 7]) s t) ∧
    (s.calListOk k g l = true →
      (s.dieGone k = true → ∃ t, exec (.calibrate id list corr) s = .next t ∧ t.ended id St.dieRetired 0 ∧
        t.getF F.RC_CAL_RESULT_OUTCOME = 3 ∧ Frame (may [.descs, .regs 7, .regs 9]) s t) ∧
      (s.dieGone k = false → s.routeUp (k / 16) = false → ∃ t, exec (.calibrate id list corr) s = .next t ∧
        t.ended id St.routeDown 0 ∧ t.getF F.RC_CAL_RESULT_OUTCOME = 3 ∧ Frame (may [.descs, .regs 7, .regs 9]) s t) ∧
      (s.dieGone k = false → s.routeUp (k / 16) = true → b = 0 ∨ ls.length < s.calMin [] →
        ∃ t, exec (.calibrate id list corr) s = .next t ∧ t.ended id St.calDisagree 0 ∧ t.getF F.RC_EVENT_CAL_DISAGREE = 1 ∧
          t.getF F.RC_CAL_RESULT_OUTCOME = 2 ∧ t.getF F.RC_CAL_RESULT_CAUSE = (if b = 0 then 4 else 3) ∧
          t.rc.records = s.rc.records ∧ t.rc.drift = s.rc.drift) ∧
      (s.dieGone k = false → s.routeUp (k / 16) = true → b ≠ 0 → s.calMin [] ≤ ls.length →
        ∃ t c e, exec (.calibrate id list corr) s = .next t ∧ t.rc.cals = s.rc.cals ++ [c] ∧ c.desc = id ∧ c.die = k ∧ c.group = g ∧
          c.live = s.live k g ∧ c.regs = s.rcRegs ∧ c.lines = ls ∧ c.sweeping = false ∧ c.tol = d.tol ∧ c.reads.length = ls.length * b ∧
          t.desc? id = some e ∧ e.started = true ∧ e.status = none ∧ Frame (may [.descs, .flash, .readChannel, .regs 7]) s t))) ∧
  (∀ (s : State) (job id n skip k : Nat) (data : Bytes) (j : Job), s.job? job = some j → k = s.jobDie j → (s.die k).moving = some job →
    (s.die k).want = none → s.routeUp (k / 16) = true → s.pipeRuns = true → j.header = false → j.dest = .cal id n → 2 ≤ j.tries →
    (s.die k).runAt < 4 → envErased (s.die k).envCtrl (slice (carried (s.die k).runBytes skip data) 0 4608) = false →
    alignAt (s.die k).envX (4 * (j.addr / 4) + (s.die k).runAt) (carried (s.die k).runBytes skip data) 0 = none →
    ∃ t, exec (.envelopeReceived job data skip) s = .next t ∧ t.getR R.RC_ENV_CNT_LOST = s.getR R.RC_ENV_CNT_LOST + 1 ∧
      ∀ c ∈ s.rc.cals, c.desc = id → c.bad = none → ∃ c' ∈ t.rc.cals, c'.desc = id ∧ c'.bad = some St.frameLost) ∧
  (∀ (s : State) (id : Nat) (c : Cal) (e : Desc), (s.rc.cals.find? (·.desc = id)) = some c → s.pipeRuns = true → s.desc? id = some e →
    e.status = none → e.bufferFault = false → c.die < 512 → c.group < 8 →
    (∀ st, c.bad = some st → ∃ t, exec (.calibrationEnd id) s = .next t ∧ t.ended id st 0 ∧ (∀ x ∈ t.rc.cals, x.desc ≠ id) ∧
      t.rc.records = s.rc.records ∧ t.getF F.RC_CAL_RESULT_OUTCOME = 3) ∧
    (∀ lines, c.bad = none → c.sweeping = false → (∀ x ∈ c.reads, x.off = none ∧ 18432 ≤ x.raw.length) →
      lines = ((c.reads.filter fun x => !((c.reads.filter (s.calDrops c)).map CalRead.line).contains x.line).map CalRead.line).eraseDups →
      (lines.length < s.calMin c.regs → ∃ t, exec (.calibrationEnd id) s = .next t ∧ t.ended id St.calDisagree 0 ∧
        t.getF F.RC_CAL_RESULT_CAUSE = 3 ∧ (∀ x ∈ t.rc.cals, x.desc ≠ id) ∧ t.rc.records = s.rc.records) ∧
      (s.calMin c.regs ≤ lines.length → (∀ x ∈ c.reads, s.unreadable x.page true = none) →
        ∃ t c', exec (.calibrationEnd id) s = .next t ∧ (t.rc.cals.find? (·.desc = id)) = some c' ∧ c'.sweeping = true ∧
          c'.live = c.live ∧ c'.lineNos = lines ∧ t.desc? id = some e ∧ Frame (may [.flash, .readChannel]) s t)) ∧
    (c.bad = none → c.sweeping = true → (∀ x ∈ c.reads, 18432 ≤ x.raw.length) →
      ((∀ x ∈ s.calResults c, ∃ u v, x.2 = (some u, some v) ∧ (u - v).natAbs ≤ c.tol) →
        ∃ t, exec (.calibrationEnd id) s = .next t ∧ t.ended id 0 c.lineNos.length ∧ t.getF F.RC_EVENT_CAL_DONE = 1 ∧
          t.getF F.RC_CAL_RESULT_OUTCOME = 1 ∧ (∀ x ∈ t.rc.cals, x.desc ≠ id) ∧
          t.drift (recKey c.die c.group) = List.replicate 15 0 ∧
          t.version (recKey c.die c.group) = s.version (recKey c.die c.group) + 1) ∧
      ((∃ x ∈ s.calResults c, ∀ u v, x.2 = (some u, some v) → c.tol < (u - v).natAbs) →
        ∃ t, exec (.calibrationEnd id) s = .next t ∧ t.ended id St.calDisagree 0 ∧ t.getF F.RC_EVENT_CAL_DISAGREE = 1 ∧
          t.getF F.RC_CAL_RESULT_OUTCOME = 2 ∧ (∀ x ∈ t.rc.cals, x.desc ≠ id) ∧ t.rc.records = s.rc.records ∧
          t.rc.drift = s.rc.drift))) ∧
  (∀ (s : State) (id : Nat) (d : Desc), s.adminRuns id 0x51 d → s.getF F.PWR_DRAM_SR = 0 →
    ∃ t, exec (.getCal id) s = .next t ∧ t.ended id 0 (idxWhere 8 (bit (field d.bytes 4 1))).length ∧
      t.out = s.out ++ dramOuts s.pieces ((idxWhere 8 (bit (field d.bytes 4 1))).mapIdx fun i g =>
        (field d.bytes 20 8 + 64 * i, s.record (recKey (addrDie (field d.bytes 8 8)) g))) ∧
      Frame (may [.descs, .outputs]) s t) ∧
  (∀ (s : State) (id corr x : Nat) (d : Desc) (rec : Bytes), s.adminRuns id 0x52 d →
    x = recKey (addrDie (field d.bytes 8 8)) (field d.bytes 4 1) →
    (s.recordOk x (slice rec 0 64) = true → ∃ t, exec (.setCal id rec corr) s = .next t ∧ t.ended id 0 0 ∧
      tget (fun _ => []) t.rc.records x = recSeal ((slice rec 0 64).set 1 2) ∧ t.drift x = List.replicate 15 0 ∧
      t.version x = s.version x + 1 ∧
      (∀ y, y ≠ x → tget (fun _ => []) t.rc.records y = tget (fun _ => []) s.rc.records y) ∧
      Frame (may [.descs, .readChannel, .regs 7]) s t) ∧
    (s.recordOk x (slice rec 0 64) = false → ∃ t, exec (.setCal id rec corr) s = .next t ∧ t.ended id 0x040 0 ∧
      Frame (may [.descs, .regs 7]) s t))

/-! ### Sorting -/

/-- R174, R178, R179, R180, R194, R195, R197, R395, Table 8-1: a SCAN whose plan and token are sound becomes active, or waits where 16 are;
the first that waits starts when a place is free; a fetched item adds its positions, judged by the shares at the SCAN's admission; the first
position whose slots fit is admitted and its reads begin, and where none fits the requests are noted. -/
def Obligations.ScansStartAndAdmit : Prop :=
  (∀ (s : State) (id corr : Nat) (d : Desc) (plan : Bytes) (blocks : List Nat) (p : Bytes), s.ioRuns id 0x03 d → p = slice plan 0 256 →
    ((planOk p = false ∨ field d.bytes 16 4 < planCapacity p ∨ tokenStart p (slice d.bytes 32 16) = none) →
      ∃ t, exec (.scan id plan blocks corr) s = .next t ∧ t.ended id 0x040 0 ∧ t.getR R.SO_CNT_SCANS = s.getR R.SO_CNT_SCANS + 1 ∧
        Frame (may [.descs, .regs 7, .regs 10]) s t) ∧
    (∀ first, planOk p = true → planCapacity p ≤ field d.bytes 16 4 → tokenStart p (slice d.bytes 32 16) = some first →
      ∃ t c, exec (.scan id plan blocks corr) s = .next t ∧ t.so.scans = s.so.scans ++ [c] ∧ c.id = id ∧ c.plan = p ∧
        c.buffer = field d.bytes 20 8 ∧ c.capacity = field d.bytes 16 4 ∧ c.share = d.share ∧ c.first = first ∧ c.nextItem = first.1 ∧
        c.positions = [] ∧ c.active = (decide (s.activeScans < 16) && s.so.scans.all (·.active)) ∧ c.x = (s.getR R.SO_X).toNat ∧
        t.desc? id = some { d with started := true } ∧ (c.active = false → t.getF F.SO_EVENT_SCAN_WAIT = 1) ∧
        (c.active = true → Frame (may [.descs, .sorting, .regs 7, .regs 10]) s t))) ∧
  (∀ (s : State) (id : Nat) (c : Scan), s.scan? id = some c → c.active = false → s.activeScans < 16 →
    (∀ x ∈ s.so.scans, x.active = false → id ≤ x.id) →
    ∃ t, exec (.scanStart id) s = .next t ∧ t.scan? id = some { c with active := true, x := (s.getR R.SO_X).toNat } ∧
      (∀ i, i ≠ id → t.scan? i = s.scan? i) ∧ Frame (may [.sorting, .regs 10]) s t) ∧
  (∀ (s : State) (id corr : Nat) (c : Scan) (item : Bytes), s.scan? id = some c → c.active = true → c.stop = none →
    c.nextItem < planItems c.plan → s.pipeRuns = true →
    ∃ t c', exec (.itemFetch id item corr) s = .next t ∧ t.scan? id = some c' ∧ c'.nextItem = c.nextItem + 1 ∧
      c'.positions = c.positions ++ s.itemPositions c item ∧
      (∀ p ∈ s.itemPositions c item, p.outcome = 0 → 5 ≤ c.share.getD p.route 0 ∧ ∀ a ∈ p.addrs, s.inRange a = true) ∧
      Frame (may [.sorting, .regs 7]) s t) ∧
  (∀ (s : State) (id : Nat) (c : Scan), s.scan? id = some c → c.active = true → c.stop = none → s.issues = true →
    (∀ p, c.candidates.find? (s.slotsFit c) = some p → s.memorySound → p.addrs ≠ [] → (∀ h ∈ p.hdrs, h = none) →
      (∀ a ∈ p.addrs, s.preCheck a = none ∧ s.phFind a = none) →
      ∃ t c' p', exec (.positionAdmit id) s = .next t ∧ t.scan? id = some c' ∧ p' ∈ c'.positions ∧ p'.key = p.key ∧
        p'.admitted = true ∧ p'.taken = p.addrs.length ∧ (p.route, id) ∉ t.so.requests ∧
        (∀ i, i < p.addrs.length → ∃ j ∈ t.seq.jobs, j.dest = .scan id p.key i ∧ j.addr = p.addrs.getD i 0 ∧
          j.header = planHeaderFirst c.plan) ∧ Frame (may [.sorting, .flash, .sram, .regs 7, .regs 10]) s t) ∧
    (c.candidates.find? (s.slotsFit c) = none → ∃ t, exec (.positionAdmit id) s = .next t ∧
      (∀ p ∈ c.candidates, (p.route, id) ∈ t.so.requests) ∧ s.so.requests <+: t.so.requests ∧ t.so.scans = s.so.scans ∧
      Frame (may [.sorting]) s t))

/-- R187, R188, R192, R193, R196, R198, R199: a lane gives a position its qualifying rows; the oldest final position retires, its record
written where it has one, and one whose record does not fit stops the scan; a scan without work left, or stopped, writes its summary and
completes with its status; a lane that fails is retired and a spare takes its routes. -/
def Obligations.ScansRetireAndEnd : Prop :=
  (∀ (s : State) (id key : Nat) (c : Scan) (p : Position) (h : Bytes), s.scan? id = some c →
    (c.positions.find? (·.key = key)) = some p → p.outcome = 7 → s.stagesRun = true → p.head 0 = .known h →
    ∃ t c', exec (.laneEvaluateDone id key) s = .next t ∧ t.scan? id = some c' ∧
      { p with outcome := 5, rows := idxWhere (Header.parse h).count (rowQualifies c.plan ((List.range p.addrs.length).map p.payload)) }
        ∈ c'.positions ∧ Frame (may [.sorting]) s t) ∧
  (∀ (s : State) (id : Nat) (c : Scan) (p : Position) (l : List Position) (b : Bytes), s.scan? id = some c → c.positions = p :: l →
    c.stop = none → s.pipeRuns = true → s.getF F.PWR_DRAM_SR = 0 →
    (p.outcome = 1 ∨ p.outcome = 2 ∨ p.outcome = 3 → ∃ t c', exec (.positionRetire id) s = .next t ∧ t.scan? id = some c' ∧
      c'.positions = (p :: l).filter (fun x => x.key ≠ p.key) ∧ c'.out = c.out ∧ c'.records = c.records ∧ c'.stop = none ∧
      c'.tally.getD 0 0 = (if c.tally = [] then 0 else c.tally.getD 0 0 + 1) ∧
      t.getR R.SO_CNT_POSITIONS = s.getR R.SO_CNT_POSITIONS + 1 ∧ Frame (may [.sorting, .regs 10]) s t) ∧
    (p.outcome = 5 → p.rows ≠ [] → planOut c.plan ≠ 3 → b = positionRecord c.plan p → field c.plan 20 4 = 0 →
      (c.out + b.length ≤ c.capacity → ∃ t c', exec (.positionRetire id) s = .next t ∧ t.scan? id = some c' ∧
        c'.positions = (p :: l).filter (fun x => x.key ≠ p.key) ∧ c'.out = c.out + b.length ∧ c'.records = c.records + 1 ∧
        c'.rows = c.rows + p.rows.length ∧ c'.stop = none ∧ t.out = s.out ++ dramOuts s.pieces [(c.buffer + c.out, b)] ∧
        t.getR R.SO_CNT_POSITIONS = s.getR R.SO_CNT_POSITIONS + 1 ∧ t.getR R.SO_CNT_EVALUATED = s.getR R.SO_CNT_EVALUATED + 1 ∧
        Frame (may [.sorting, .outputs, .regs 10]) s t) ∧
      (c.capacity < c.out + b.length → ∃ t c', exec (.positionRetire id) s = .next t ∧ t.scan? id = some c' ∧
        c'.stop = some (p.item, p.env) ∧ c'.partialEnd = true ∧ c'.out = c.out ∧ c'.records = c.records ∧
        (∀ x ∈ c'.positions, x.taken = 0))) ∧
    (p.outcome = 6 → planFlag c.plan 2 = false → ∃ t c', exec (.positionRetire id) s = .next t ∧ t.scan? id = some c' ∧
      c'.stop = some (p.item, p.env) ∧ (c.fail = none → c'.fail = some p.status) ∧
      t.getR R.SO_CNT_FAILING = s.getR R.SO_CNT_FAILING + 1)) ∧
  (∀ (s : State) (id : Nat) (c : Scan) (e : Desc), s.scan? id = some c → c.active = true → s.pipeRuns = true →
    (c.stop.isSome = true ∨ (c.positions = [] ∧ planItems c.plan ≤ c.nextItem)) → s.desc? id = some e → e.status = none →
    e.bufferFault = false → s.getF F.PWR_DRAM_SR = 0 →
    (planOut c.plan ≠ 3 → ∃ t, exec (.scanEnd id) s = .next t ∧ t.ended id c.endStatus c.records ∧
      t.out = s.out ++ dramOuts s.pieces [(c.buffer, c.summary)] ∧ t.scan? id = none ∧
      t.getR R.SO_CNT_SCANS = s.getR R.SO_CNT_SCANS + 1 ∧ Frame (may [.descs, .sorting, .outputs, .regs 10]) s t) ∧
    (planOut c.plan = 3 → ∃ t, exec (.scanEnd id) s = .next t ∧ t.ended id c.endStatus (c.records + 1) ∧
      t.out = s.out ++ dramOuts s.pieces [(c.buffer + c.out, c.aggregate),
        (c.buffer, { c with out := c.out + 64, records := c.records + 1 }.summary)] ∧ t.scan? id = none)) ∧
  (∀ (s : State) (c : Instr) (lane : Nat), s.laneWorks lane = true →
    ((c = .laneSelfTestDue lane false ∧ s.pipeRuns = true) ∨ c = .laneFault lane) →
    ∃ t, exec c s = .next t ∧ t.laneWorks lane = false ∧ t.getF ⟨R.SO_LANE_FAIL (lane / 32), lane % 32, 1⟩ = 1 ∧
      (∀ l, l ≠ lane → t.laneWorks l = s.laneWorks l) ∧
      (∀ m l, s.laneRoutes lane ≠ [] → s.spareLanes = m :: l → t.getF F.SO_EVENT_LANE_SUBST = 1 ∧
        ∀ r, r < 32 → s.laneOf r = lane → t.laneOf r = m))

/-! ### Flash integrity -/

/-- R286, R289, R290, R291, R292, R294: a job that waits takes a context of the layout that covers it, or ends where none does; a
reconstruction whose members have all ended decides its envelope and is counted; a patrol round starts when it is due, reads the next page
of a die, and ends when every visited die is at its end. -/
def Obligations.ReconstructionAndPatrolProceed : Prop :=
  (∀ (s : State) (job corr : Nat) (maps : List Bytes) (err : Bool) (lost : Option Nat) (j : Job), s.job? job = some j →
    j.phase = .waitCtx → s.stagesTake = true → j.recon = true → (s.mapOn = true → err = false ∧ lost = none) →
    (∀ l, s.coveredBy maps (addrDie j.addr) (addrBlock j.addr) = some l → s.ctxFree j = true → s.memorySound →
      (∀ a, s.phFind a = none) →
      ∃ t c, exec (.reconContextTake job maps err corr lost) s = .next t ∧ c ∈ t.fi.ctxs ∧ c.job = job ∧ c.layout = l ∧
        c.target = j.addr ∧ t.fi.ctxs.length = s.fi.ctxs.length + 1 ∧ t.job? job = some { j with phase := .inCtx }) ∧
    (∀ l, s.coveredBy maps (addrDie j.addr) (addrBlock j.addr) = some l → s.ctxFree j = false →
      ∃ t, exec (.reconContextTake job maps err corr lost) s = .next t ∧ t.fi = s.fi ∧ t.seq = s.seq ∧ Frame (may [.regs 7]) s t) ∧
    (∀ id i e, s.coveredBy maps (addrDie j.addr) (addrBlock j.addr) = none → j.dest = .desc id i → s.desc? id = some e →
      e.status = none → e.bufferFault = false → i < e.results.length →
      ∃ t e', exec (.reconContextTake job maps err corr lost) s = .next t ∧ t.job? job = none ∧ t.desc? id = some e' ∧
        e'.results[i]? = some (some { status := j.why }))) ∧
  (∀ (s : State) (ctx id i : Nat) (c : Ctx) (j : Job) (e : Desc) (st code missing : Nat) (content payload : Bytes), s.ctx? ctx = some c →
    s.job? c.job = some j → (∀ x ∈ c.results, x.isSome = true) → s.stagesRun = true → j.dest = .desc id i → s.desc? id = some e →
    e.status = none → e.bufferFault = false → i < e.results.length →
    reconstruct c.position ((List.range 16).map fun m => (posOf m (s.slotOf c.layout c.target), (c.results.getD m none).getD .lost))
      (s.getF F.FI_X_RECON_CHECK_OFF = 1) = (st, code, missing, content, payload) →
    ∃ t e' r, exec (.reconstruction ctx) s = .next t ∧ t.ctx? ctx = none ∧ t.job? c.job = none ∧ t.desc? id = some e' ∧
      e'.results[i]? = some (some r) ∧ r.status = st ∧ r.content = content ∧ r.payload = payload ∧
      (code = 1 → t.getR R.FI_CNT_RECON_OK = s.getR R.FI_CNT_RECON_OK + 1) ∧
      (code ≠ 1 → t.getR R.FI_CNT_RECON_FAIL = s.getR R.FI_CNT_RECON_FAIL + 1 ∧ t.getF F.FI_EVENT_RECON_FAIL = 1)) ∧
  (∀ (s : State) (sec : Nat), s.patrolRuns = true → s.fi.roundOn = false →
    (s.fi.rounds = false ∨ s.getF F.FI_X_PACE_OFF = 1 ∨ s.roundSeconds ≤ sec) →
    ∃ t, exec (.patrolRoundStart sec) s = .next t ∧ t.fi.roundOn = true ∧ t.fi.rounds = true ∧ (∀ k, t.cursor k = 0) ∧
      Frame (may [.integrity]) s t) ∧
  (∀ (s : State) (r d sec k i page : Nat), r < 32 → d < 16 → k = dieKey r d → i = s.cursor k → s.patrolRuns = true → s.fi.roundOn = true →
    s.patrolled k = true → i + 1 < s.pagePositions k → s.patrolOut k = false → tget (fun _ => 0) s.fi.erasedSeen k < 4 →
    s.patrolSkips k (i / max 1 (s.geo k).pages) = false → (s.getF F.FI_X_PACE_OFF = 1 ∨ i * s.roundSeconds ≤ sec * s.pagePositions k) →
    page = mkAddr k (i / (s.geo k).pages) (i % (s.geo k).pages) 0 → (s.geo k).pages ≤ 4096 → (s.geo k).blocks ≤ 65536 →
    (∀ e, e < 4 → page + e ∉ s.fi.poison) → (∀ j ∈ s.seq.jobs, j.id < s.seq.nextId) →
    ∃ t l o, exec (.patrolReadDue r d sec) s = .next t ∧ t.cursor k = i + 1 ∧ t.seq.jobs = s.seq.jobs ++ l ∧
      l.map Job.addr = (List.range 4).map (page + ·) ∧ (∀ j ∈ l, j.dest = .patrol ∧ j.phase = .waitDie) ∧
      t.seq.waiting = s.seq.waiting ++ [o] ∧ o.cls = 1 ∧ o.origin = .patrol ∧ o.pages = [s.busAddr page] ∧ o.jobs = l.map Job.id ∧
      t.getR R.FI_CNT_PAGES = s.getR R.FI_CNT_PAGES + 1 ∧ Frame (may [.flash, .integrity, .regs 8]) s t) ∧
  (∀ (s : State) (r d sec : Nat), s.patrolRuns = true → s.fi.roundOn = true →
    (∀ k, k < 512 → s.patrolled k = true → s.pagePositions k ≤ s.cursor k) → r < 32 → d < 16 →
    ∃ t, exec (.patrolReadDue r d sec) s = .next t ∧ t.fi.roundOn = false ∧ t.getR R.FI_ROUND_COUNT = s.getR R.FI_ROUND_COUNT + 1 ∧
      t.getR R.FI_ROUND_LAST = BitVec.ofNat 32 sec ∧ t.getF F.FI_EVENT_ROUND_DONE = 1 ∧
      (s.roundSeconds < sec → t.getF F.FI_EVENT_ROUND_LATE = 1))

/-- R217, R286, R296, R297, R383: setting EN of the dead-letter ring takes its base and size; the oldest held letter is written to a free
slot, again after a failure, and is visible when its write is acknowledged; a head write releases slots or is ignored; a write of the
spare area puts its cursor to the first block; acknowledged map writes let their rows and erases go on, and failed ones end their
descriptor. -/
def Obligations.LettersAndMapWritesAreAcknowledged : Prop :=
  (∀ (s : State) (v : W32), s.takes R.FI_DL_CFG → s.getF F.FI_DL_CFG_EN = 0 → bit v.toNat 0 = true →
    ∃ t, exec (.dlCfgEnable v) s = .next t ∧ t.getF F.FI_DL_CFG_EN = 1 ∧ t.getF F.FI_DL_CFG_PHASE = 1 ∧ t.getR R.FI_DL_HEAD = 0 ∧
      t.getR R.FI_DL_TAIL = 0 ∧ t.fi = { s.fi with
        dlBase := s.getF F.FI_DL_LO_ADDR * 64 + s.getF F.FI_DL_HI_ADDR * 2 ^ 32, dlK := clampNat 4 16 (bits v.toNat 1 5) } ∧
      Frame (may [.integrity, .regs 8]) s t) ∧
  (∀ (s : State) (v : W32) (n : Nat), s.takes R.FI_DL_HEAD → n = 2 ^ s.fi.dlK → s.fi.dlK ≤ 16 → (∀ f ∈ s.fi.findings, f.ready = false) →
    (v.toNat < n → (v.toNat + n - s.getF F.FI_DL_HEAD_HEAD % n) % n ≤ s.dlUnreleased → ∃ t, exec (.dlHeadWrite v) s = .next t ∧
      t.getF F.FI_DL_HEAD_HEAD = v.toNat ∧ Frame (may [.regs 8]) s t) ∧
    ((n ≤ v.toNat ∨ s.dlUnreleased < (v.toNat + n - s.getF F.FI_DL_HEAD_HEAD % n) % n) → ∃ t, exec (.dlHeadWrite v) s = .next t ∧
      t.getF F.FI_DL_HEAD_HEAD = s.getF F.FI_DL_HEAD_HEAD ∧ t.fi = s.fi)) ∧
  (∀ (s : State) (b : Bytes) (l : List Bytes), s.fi.letters = b :: l → s.writesOut = true → s.getF F.PWR_DRAM_SR = 0 →
    (s.getF F.FI_DL_CFG_EN = 1 → s.fi.writing = false → s.dlFull = false → ∃ t, exec .deadLetterWrite s = .next t ∧
      t.out = s.out ++ dramOuts s.pieces [(s.fi.dlBase + 64 * s.getF F.FI_DL_TAIL_TAIL, s.letterOut b)] ∧
      t.fi = { s.fi with writing := true } ∧
      Frame (may [.integrity, .outputs]) s t) ∧
    (s.fi.writing = true → s.fi.dlFailed = true → ∃ t, exec .dlWriteRetry s = .next t ∧
      t.out = s.out ++ dramOuts s.pieces [(s.fi.dlBase + 64 * s.getF F.FI_DL_TAIL_TAIL, s.letterOut b)] ∧
      t.fi = { s.fi with dlFailed := false } ∧
      Frame (may [.integrity, .outputs]) s t)) ∧
  (∀ (s : State) (b : Bytes) (l : List Bytes) (tail : Nat), s.fi.letters = b :: l → s.fi.writing = true → s.fi.dlFailed = false →
    tail = s.getF F.FI_DL_TAIL_TAIL + 1 → s.fi.dlK ≤ 16 → (∀ f ∈ s.fi.findings, f.ready = false) →
    (∃ t, exec (.fabricWriteAcknowledgement 1 true) s = .next t ∧ t.fi = { s.fi with letters := l, writing := false } ∧
      (tail < 2 ^ s.fi.dlK → t.getF F.FI_DL_TAIL_TAIL = tail ∧ t.getF F.FI_DL_CFG_PHASE = s.getF F.FI_DL_CFG_PHASE) ∧
      (2 ^ s.fi.dlK ≤ tail → t.getF F.FI_DL_TAIL_TAIL = 0 ∧ t.getF F.FI_DL_CFG_PHASE = 1 - s.getF F.FI_DL_CFG_PHASE) ∧
      (s.srcEn 11 = true → s.srcActive 11 = false → t.srcPend 11 = true)) ∧
    (∃ t, exec (.fabricWriteAcknowledgement 1 false) s = .next t ∧ t.fi = { s.fi with dlFailed := true } ∧ Frame (may [.integrity]) s t)) ∧
  (∀ (s : State) (id : Nat) (l : List Nat), s.fi.mapWrites = id :: l →
    (id ∉ l → ∃ t, exec (.fabricWriteAcknowledgement 0 true) s = .next t ∧ t.fi.mapWrites = l ∧
      (∀ o ∈ t.seq.waiting, .eraseDesc id ∈ o.purpose → o.mapWait = false) ∧
      (∀ r ∈ t.seq.rows, id ∈ r.waits.map Prod.fst → r.mapAck = true) ∧ Frame (may [.descs, .flash, .integrity]) s t) ∧
    (∀ e, s.desc? id = some e → e.status = none → e.bufferFault = false → ∃ t, exec (.fabricWriteAcknowledgement 0 false) s = .next t ∧
      t.ended id 0x043 0 ∧ id ∉ t.fi.mapWrites ∧ (∀ o ∈ t.seq.waiting, .eraseDesc id ∉ o.purpose))) ∧
  (∀ s : State, (∃ t, exec (.fabricWriteAcknowledgement 2 false) s = .next t ∧ t.getF F.PM_BCN_EVENT_BEACON_FAIL = 1)) ∧
  (∀ (s : State) (n : Nat) (l : List Nat) (ok : Bool), s.q.owns = n :: l → ∃ t, exec (.fabricWriteAcknowledgement 3 ok) s = .next t ∧
    t.q = { s.q with owns := l } ∧ Frame (may [.queues]) s t) ∧
  (∀ (s : State) (v : W32),
    (s.takes R.FI_SPARE_RANGE → ∃ t, exec (.spareAreaWrite true v) s = .next t ∧ t.getR R.FI_SPARE_RANGE = v ∧
      t.getR R.FI_SPARE_CURSOR = BitVec.ofNat 32 (bits v.toNat 0 16) ∧ Frame (may [.regs 8]) s t) ∧
    (s.takes R.FI_SPARE → ∃ t, exec (.spareAreaWrite false v) s = .next t ∧ t.getR R.FI_SPARE = BitVec.ofNat 32 (v.toNat % 2 ^ 10) ∧
      t.getR R.FI_SPARE_CURSOR = BitVec.ofNat 32 (s.getF F.FI_SPARE_RANGE_FIRST) ∧ Frame (may [.regs 8]) s t))

/-- R239, R300, R302, R303, R305: a RETIRE_DIE makes its die RETIRED, at once or when the operation in it has ended; a REBUILD that passes
its checks takes an entry and starts; a rebuild erases its base block, goes on with the next one where no layout covers it, and ends by
activating its entry; the accounting window of a die starts anew. -/
def Obligations.DiesAreRetiredAndRebuilt : Prop :=
  (∀ (s : State) (id k : Nat) (d : Desc), s.adminRuns id 0x60 d → k = addrDie (field d.bytes 8 8) →
    (s.retired k = true → ∃ t, exec (.retireDie id) s = .next t ∧ t.ended id 0 0 ∧ Frame (may [.descs]) s t) ∧
    (s.retired k = false → s.dieSt k = 1 → (s.die k).op = none → (s.die k).held = none → s.waitingFor k = [] →
      ∃ t, exec (.retireDie id) s = .next t ∧ t.ended id 0 0 ∧ t.dieSt k = 9 ∧ t.getF F.FI_EVENT_DIE_RETIRED = 1) ∧
    (s.retired k = false → s.dieBusy k = true → (s.die k).held = none → s.waitingFor k = [] →
      ∃ t, exec (.retireDie id) s = .next t ∧ t.ended id 0 0 ∧ (t.die k).retiring = true ∧ t.dieSt k = s.dieSt k ∧
        (t.die k).op = (s.die k).op ∧ t.getF F.FI_EVENT_DIE_RETIRED = 1)) ∧
  (∀ (s : State) (id source target : Nat) (d : Desc) (toTarget : Bool), s.adminRuns id 0x61 d → source = addrDie (field d.bytes 8 8) →
    toTarget = bit (field d.bytes 4 1) 0 → target = (if toTarget = true then addrDie (field d.bytes 20 8) else source) →
    (s.rebuildCheck toTarget source target = none → ∃ t, exec (.rebuild id) s = .next t ∧ t.ended id 0x040 0 ∧
      Frame (may [.descs]) s t) ∧
    (∀ i, s.rebuildCheck toTarget source target = some i → ∃ t x, exec (.rebuild id) s = .next t ∧ t.ended id 0 0 ∧
      t.fi.rebuilds = s.fi.rebuilds ++ [x] ∧ x.entry = i ∧ x.source = source ∧ x.target = target ∧ x.inPlace = !toTarget ∧ x.base = 0 ∧
      x.busy = 0 ∧ t.getR (R.FI_COA_A i) = coaWord source target (if toTarget = true then 2 else 1) ∧ t.getR (R.FI_COA_B i) = 0 ∧
      (s.getF F.FI_STATUS_PATROL_PAUSED = 1 → t.getF F.FI_EVENT_STALL = 1) ∧
      (s.getF F.FI_STATUS_PATROL_PAUSED = 0 → Frame (may [.descs, .integrity, .regs 8]) s t))) ∧
  (∀ (s : State) (entry corr : Nat) (maps : List Bytes) (err : Bool) (lost : Option Nat) (x : Rebuild), s.rebuild? entry = some x →
    s.rebuildRuns = true → x.busy = 0 → entry < 16 →
    (x.erased = false → ∃ t, exec (.rebuildBaseBlock entry maps err corr lost) s = .next t ∧
      t.rebuild? entry = some { x with erased := true, busy := (s.rebuildErases x).length } ∧
      ∀ bs ∈ s.rebuildErases x, ∃ o ∈ t.seq.waiting, o.cls = 3 ∧ o.origin = .rebuild ∧ o.join = false ∧
        o.purpose = bs.map (fun _ => .eraseRebuild entry) ∧ o.pages = bs.map (fun b => s.busAddr (mkAddr x.target b 0 0))) ∧
    (x.erased = true → x.layout = none → x.redo = [] → (s.mapOn = true → err = false ∧ lost = none) →
      s.coveredBy maps x.source x.base = none →
      (x.after < s.rebuildLast x.source → ∃ t y, exec (.rebuildBaseBlock entry maps err corr lost) s = .next t ∧
        t.rebuild? entry = some y ∧
        y.base = x.after ∧ y.after = x.after + s.planesOf x.source ∧ y.erased = false ∧ y.busy = 0 ∧
        t.getF (F.FI_COA_B_BLOCK entry) = x.after % 65536 ∧ Frame (may [.integrity, .regs 7, .regs 8]) s t) ∧
      (s.rebuildLast x.source ≤ x.after → ∃ t, exec (.rebuildBaseBlock entry maps err corr lost) s = .next t ∧ t.rebuild? entry = none ∧
        t.getF F.FI_EVENT_REBUILD_DONE = 1 ∧ (x.inPlace = false → t.getF (F.FI_COA_A_STATE entry) = 3) ∧
        (x.inPlace = true → x.source < 512 → t.stale x.source = false ∧ t.getR (R.FI_COA_A entry) = 0)))) ∧
  (∀ (s : State) (r d : Nat), ∃ t, exec (.rebuildWindowEnd r d) s = .next t ∧
    t.die (dieKey r d) = { s.die (dieKey r d) with rebuilt := 0 } ∧ (∀ j, j ≠ dieKey r d → t.die j = s.die j) ∧ Frame (may [.flash]) s t)

/-! ### Home blocks and seals -/

/-- R330, R331, R335, R336, R340, R341, R342: HOME_COMMIT takes its snapshot and erases the inactive twin, or fails where that twin is
unavailable; TWIN_SELECT uses the valid twin, the later of two, once routes 0 and 1 have been scanned; SEAL_SET and SEAL_UNLOCK check
their password, count a failure and lock the seal out from the fifth, until the lockout expires. -/
def Obligations.HomeCommitsAndSeals : Prop :=
  (∀ (s : State) (id : Nat) (d : Desc), s.adminRuns id 0x5A d →
    (∀ st, s.twinGone s.commitTwin = some st → ∃ t, exec (.homeCommit id) s = .next t ∧ t.ended id st 0 ∧
      t.getF F.HB_EVENT_COMMIT_FAIL = 1 ∧ t.hb = s.hb ∧ t.seq = { s.seq with nextId := t.seq.nextId }) ∧
    (s.twinGone s.commitTwin = none → ∃ t o, exec (.homeCommit id) s = .next t ∧
      t.hb.commit = some { desc := some id, twin := s.commitTwin, gen := s.commitGen,
                           payloads := s.twinPayloads s.commitTwin s.commitGen none, poison := s.fi.poison } ∧
      t.getF F.HB_STATUS_BUSY = 1 ∧ t.getF F.HB_STATUS_ACTIVE = s.getF F.HB_STATUS_ACTIVE ∧ t.getF F.HB_GEN_GEN = s.getF F.HB_GEN_GEN ∧
      t.seq.waiting = s.seq.waiting ++ [o] ∧ o.cls = 3 ∧ o.join = false ∧ o.purpose = [.eraseHome] ∧
      o.pages = [s.busAddr (mkAddr (twinDie s.commitTwin) 0 0 0)])) ∧
  (∀ (s : State) (a b : List Bytes) (ga gb : Nat), s.modeNow = 3 → s.getF F.HB_STATUS_OUTCOME = 0 →
    (∀ r, r < 2 → s.routeOn r = true → r ∈ s.seq.scanned) →
    ga = field (a.getD 80 []) 8 4 → gb = field (b.getD 80 []) 8 4 →
    (s.twinClass 0 a = 0 → (s.twinClass 1 b ≠ 0 ∨ genApart gb ga = true ∨ serialLater 32 gb ga = false) →
      ∃ t, exec (.twinSelect a b) s = .next t ∧ t.getF F.HB_STATUS_USED = 1 ∧ t.getF F.HB_STATUS_ACTIVE = 1 ∧
        t.getF F.HB_STATUS_OUTCOME = 1 ∧ t.getF F.HB_GEN_GEN = ga ∧
        (s.twinClass 1 b ≠ 0 ∨ genApart gb ga = true ∨ ga = gb → t.getF F.HB_EVENT_TWIN_ISSUE = 1)) ∧
    (s.twinClass 1 b = 0 → (s.twinClass 0 a ≠ 0 ∨ (genApart gb ga = false ∧ serialLater 32 gb ga = true)) →
      ∃ t, exec (.twinSelect a b) s = .next t ∧ t.getF F.HB_STATUS_USED = 2 ∧ t.getF F.HB_STATUS_ACTIVE = 2 ∧
        t.getF F.HB_STATUS_OUTCOME = 1 ∧ t.getF F.HB_GEN_GEN = gb ∧ (s.twinClass 0 a ≠ 0 → t.getF F.HB_EVENT_TWIN_ISSUE = 1)) ∧
    (s.twinClass 0 a ≠ 0 → s.twinClass 1 b ≠ 0 → ∃ t, exec (.twinSelect a b) s = .next t ∧
      t.getF F.HB_STATUS_ACTIVE = s.getF F.HB_STATUS_ACTIVE ∧ t.getF F.HB_EVENT_TWIN_ISSUE = 1 ∧
      (s.twinClass 0 a = 4 → s.twinClass 1 b = 4 → t.getF F.HB_STATUS_OUTCOME = 4) ∧
      (s.twinClass 0 a = 1 → s.twinClass 1 b = 1 → t.getF F.HB_STATUS_OUTCOME = 2) ∧
      (s.twinClass 0 a = 2 ∨ s.twinClass 1 b = 3 → t.getF F.HB_STATUS_OUTCOME = 3 ∧ t.getF F.HB_EVENT_LOST = 1))) ∧
  (∀ (s : State) (id corr k : Nat) (cred : Bytes) (d : Desc), s.adminRuns id 0x58 d → k = field d.bytes 4 1 →
    passwordOk (slice cred 0 65) true = false ∨ passwordOk (slice cred 65 65) false = false ∨
      ((s.seal k).state = 0 ∧ field (slice cred 0 65) 0 1 ≠ 0) ∨ ((s.seal k).state ≠ 0 ∧ field (slice cred 0 65) 0 1 = 0) →
    ∃ t, exec (.sealSet id cred corr) s = .next t ∧ t.ended id St.malformed 0 ∧ Frame (may [.descs, .regs 7]) s t) ∧
  (∀ (s : State) (id corr k : Nat) (cred : Bytes) (d : Desc), s.adminRuns id 0x58 d → k = field d.bytes 4 1 →
    passwordOk (slice cred 0 65) true = true → passwordOk (slice cred 65 65) false = true →
    ((s.seal k).state = 0 ↔ field (slice cred 0 65) 0 1 = 0) →
    (s.sealLocked k = true → ∃ t, exec (.sealSet id cred corr) s = .next t ∧ t.ended id St.sealLockedOut 0 ∧
      Frame (may [.descs, .regs 7]) s t) ∧
    (s.sealLocked k = false → (s.seal k).state ≠ 0 → (s.seal k).accepts (slice cred 0 65) = false →
      ∃ t, exec (.sealSet id cred corr) s = .next t ∧ t.ended id St.sealedRegion 0 ∧ (t.seal k).fails = satInc 8 (s.seal k).fails ∧
        t.hb.commit = s.hb.commit) ∧
    (s.sealLocked k = false → ((s.seal k).state ≠ 0 → (s.seal k).accepts (slice cred 0 65) = true) → s.twinGone s.commitTwin = none →
      ∃ t c y, exec (.sealSet id cred corr) s = .next t ∧ t.hb.commit = some c ∧ c.desc = some id ∧ c.twin = s.commitTwin ∧ c.gen = s.commitGen ∧
        c.newSeal = some (k, y) ∧ y.state = field d.bytes 5 1 ∧ y.live = y.state ∧
        (y.state ≠ 0 → y.hash = Config.sha256 (y.salt ++ slice (slice cred 65 65) 1 (field (slice cred 65 65) 0 1)) ∧
          y.first = field d.bytes 8 6 ∧ y.last = field d.bytes 28 6 ∧ y.changes = ((s.seal k).changes + 1) % 2 ^ 32) ∧
        t.seal k = { s.seal k with fails := if (s.seal k).state = 0 then (s.seal k).fails else 0 })) ∧
  (∀ (s : State) (id corr k n : Nat) (pw : Bytes) (d : Desc), s.adminRuns id 0x59 d → k = field d.bytes 4 1 →
    n = satInc 8 (s.seal k).fails →
    (passwordOk (slice pw 0 65) false = false ∨ (s.seal k).state = 0 → ∃ t, exec (.sealUnlock id pw corr) s = .next t ∧
      t.ended id St.malformed 0 ∧ Frame (may [.descs, .regs 7]) s t) ∧
    (passwordOk (slice pw 0 65) false = true → (s.seal k).state ≠ 0 → s.sealLocked k = true →
      ∃ t, exec (.sealUnlock id pw corr) s = .next t ∧ t.ended id St.sealLockedOut 0 ∧ Frame (may [.descs, .regs 7]) s t) ∧
    (passwordOk (slice pw 0 65) false = true → (s.seal k).state ≠ 0 → s.sealLocked k = false →
      (s.seal k).accepts (slice pw 0 65) = false → s.getF F.HB_X_LOCKOUT_OFF = 0 →
      ∃ t, exec (.sealUnlock id pw corr) s = .next t ∧ t.ended id St.sealedRegion 0 ∧ t.getF F.HB_EVENT_SEAL_FAIL = 1 ∧
        t.seal k = { s.seal k with fails := n, lockout := if 5 ≤ n then min 65536 (2 ^ (n - 4)) else 0 } ∧
        (5 ≤ n → t.getF F.HB_EVENT_SEAL_LOCKOUT = 1) ∧ ∀ j, j ≠ k → t.seal j = s.seal j) ∧
    (passwordOk (slice pw 0 65) false = true → (s.seal k).state ≠ 0 → s.sealLocked k = false →
      (s.seal k).accepts (slice pw 0 65) = true → ∃ t, exec (.sealUnlock id pw corr) s = .next t ∧ t.ended id St.ok 0 ∧
      t.seal k = { s.seal k with fails := 0, live := field d.bytes 5 1 } ∧ (∀ j, j ≠ k → t.seal j = s.seal j) ∧
      Frame (may [.descs, .home, .regs 7]) s t)) ∧
  (∀ (s : State) (k : Nat), k < 64 → ∃ t, exec (.sealLockoutExpiry k) s = .next t ∧ t.seal k = { s.seal k with lockout := 0 } ∧
    (∀ j, j ≠ k → t.seal j = s.seal j) ∧ Frame (may [.home]) s t)

/-! ### Single rules -/

/-- R224: DELETE_CQ completes MALFORMED where its CQ does not exist or an SQ is still bound to it, one that is being deleted too;
otherwise the CQ ceases to exist at once and the descriptor completes OK. -/
def Obligations.DeleteCqFollowsItsBinding : Prop :=
  ∀ (s : State) (id n : Nat) (d : Desc), s.adminRuns id 0x43 d → n = field d.bytes 4 2 →
    (s.cq n = none → ∃ t, exec (.deleteCq id) s = .next t ∧ t.ended id St.malformed 0 ∧ Frame (may [.descs]) s t) ∧
    (∀ m x, (m, some x) ∈ s.q.sqs → x.cq = n → ∃ t, exec (.deleteCq id) s = .next t ∧ t.ended id St.malformed 0 ∧ Frame (may [.descs]) s t) ∧
    ((s.cq n).isSome = true → (∀ m x, (m, some x) ∈ s.q.sqs → x.cq ≠ n) → ∃ t, exec (.deleteCq id) s = .next t ∧ t.ended id St.ok 0 ∧ t.cq n = none ∧
      (∀ m, m ≠ n → t.cq m = s.cq m) ∧ Frame (may [.queues, .descs, .regs 6]) s t)

/-- R241, R242 with Table 10-5: a completion is one write of 16 bytes, with its fields where the table has them: its command, the head,
the count, the nanoseconds since admission as far as 0xFFFFFFFF, the status, the SQ and the phase. -/
def Obligations.CompletionsCarryTheirFields : Prop :=
  ∀ (s : State) (n st ns : Nat) (q : SQ) (c : CQ) (d : Desc), s.sq n = some q → s.cq q.cq = some c →
    q.order.head?.bind s.desc? = some d → d.status = some st → d.mailbag = false → q.mailHeld = 0 → s.writesNext q.cq c = some n →
    s.writesOut = true → n ∉ s.q.owns → c.fault = false → c.inflight = none → c.unreleased < c.size - 1 → s.getF F.PWR_DRAM_SR = 0 →
    c.base % 16 = 0 → ns = s.nowNs - d.admitNs → q.head < 2 ^ 16 → n < 1024 →
    ∃ t b, exec (.completionWrite n) s = .next t ∧ t.out = s.out ++ [.fabWrite (c.base + 16 * c.tail) b (dramSide s.pieces (c.base + 16 * c.tail) b)] ∧
      b.length = 16 ∧
      field b 0 2 = field d.bytes 2 2 ∧ field b 2 2 = q.head ∧ field b 4 4 = d.count % 2 ^ 32 ∧
      field b 8 4 = (if ns < 0xFFFFFFFF then ns else 0xFFFFFFFF) ∧ bits (field b 12 2) 0 12 = st % 2 ^ 12 ∧ bits (field b 12 2) 12 4 = 0 ∧
      bits (field b 14 2) 0 10 = n ∧ bits (field b 14 2) 10 5 = 0 ∧ (bit (field b 14 2) 15 = true ↔ c.phase = true)

/-- R36: an image shorter than 368 bytes, longer than 262,144, or of a length that 8 does not divide is rejected with cause 0x02 (LENGTH),
whatever its bytes; a length within the limits is not rejected for itself. -/
def Obligations.ImageLengthsAreHeldToTheirLimits : Prop :=
  ∀ (s : State) (len : Nat), s.getF F.IMG_STATUS_STATE = 2 → s.mode.watchImage = false → len = s.getF F.IMG_LEN_LEN →
    ((len < 368 ∨ 262144 < len ∨ len % 8 ≠ 0) → ∃ t, exec .imgVerifyDone s = .next t ∧ t.getF F.IMG_STATUS_STATE = 7 ∧
      t.getF F.IMG_STATUS_CAUSE = 0x02 ∧ t.img.staging = [] ∧ t.img.active = s.img.active ∧ t.img.cfg = s.img.cfg) ∧
    (368 ≤ len → len ≤ 262144 → len % 8 = 0 → field s.img.staging 8 4 = len →
      ∃ t, exec .imgVerifyDone s = .next t ∧ t.getF F.IMG_STATUS_CAUSE ≠ 0x02)

/-! ### The whole machine -/

/-- The command at the front of the queue runs on the machine with the queue's rest, which it leaves alone; with nothing waiting a step
changes nothing. The queue and the idle step are the model's choice (log 1). -/
def Obligations.StepRunsTheFrontCommand : Prop :=
  (∀ (s : State) (c : Instr) (rest : List Instr), s.pending = c :: rest → step s = exec c { s with pending := rest }) ∧
  (∀ (s t : State) (c : Instr) (rest : List Instr), s.pending = c :: rest → step s = .next t → t.pending = rest) ∧
  (∀ s : State, s.pending = [] → step s = .next s)

/-- R392 with Tables 18-2 to 18-18: on entry to BRINGUP from OFF the registers named hold their whole reset value, and an offset that no
register has reads zero. The mode is BRINGUP, no descriptor, queue or image is held and nothing has left the block. -/
def Obligations.ResetLeavesTheTableValues : Prop :=
  (∀ p ∈ [(0x0, 0x55010F32#32), (0x4, 1#32), (0x8, 0#32), (0xC, 0x0C8A2420#32), (0x24, 0xF#32), (0x1050, 0x14#32), (0x2000, 0x190#32),
      (0x20A0, 0xFFFFFFFF#32), (0x20BC, 0xFFFFFFFF#32), (0x2104, 0x1401#32), (0x213C, 0x1401#32), (0x2400, 0x2018#32),
      (0x2404, 0x2000#32), (0x27FC, 0x2000#32), (0x5000, 0xFC#32), (0x5100, 0x01910464#32), (0x5104, 0x3E840E10#32),
      (0x6000, 0x1C64#32), (0x600C, 0x20000#32), (0x6030, 0x110#32), (0x7000, 0xFF#32), (0x7200, 0x611#32), (0x8000, 0xFFF#32),
      (0x8E00, 0x001C3C51#32), (0x8E10, 0xC0000800#32), (0x9000, 0x1FF#32), (0x9200, 0x005763F9#32), (0x921C, 0x00122248#32),
      (0xA000, 0xF#32), (0xA200, 0x003FFC28#32), (0xB008, 0x07E00000#32), (0xB100, 0x40#32), (0xC000, 1#32), (0xC008, 0xFF#32),
      (0xC100, 0x001F0A00#32), (0xC280, 0x0190329B#32), (0xD010, 0xF0#32), (0x20000, 6#32), (0x3F000, 6#32), (0x20010, 0x00140428#32),
      (0x20404, 0x030F0000#32), (0x3F460, 0x00030000#32)], State.reset.getR p.1 = p.2) ∧
  (∀ off, regRow? off = none → State.reset.getR off = 0) ∧
  State.reset.modeNow = 1 ∧ State.reset.descs = [] ∧ State.reset.q.sqs = [] ∧ State.reset.q.cqs = [] ∧ State.reset.img.active = [] ∧
  State.reset.out = [] ∧ State.reset.pending = []

/-- The invariant of `EveryStepKeepsTheInvariant` holds at reset, of the fuses and the output that the machine then has. -/
def Obligations.ResetMeetsTheInvariant : Prop :=
  StateInv State.reset.fuses State.reset.out State.reset

/-- Whatever waits, a step leaves the register file canonical (no entry at its reset value, offsets rising), every fuse but the seal as it
was and a blown seal blown (R362), and takes back nothing that has left the block. -/
def Obligations.EveryStepKeepsTheInvariant : Prop :=
  ∀ (f : Fuses) (o : List Output) (s t : State), StateInv f o s → step s = .next t → StateInv f o t

/-- Every command answers a next state in every state, none a fault or a refusal, and changes no part of the machine, and no group of
registers, but those that `mayChange` names for it. -/
def Obligations.EveryCommandKeepsItsFrame : Prop :=
  (∀ (c : Instr) (s : State), ∃ t, exec c s = .next t) ∧
  ∀ (c : Instr) (s t : State), exec c s = .next t → Frame (may (mayChange c)) s t

/-- R344 to R357, R358 to R368, R115 to R126: a step moves the mode, the security state or the debug level, or the state of a route, only
where it runs a command named for that; an idle step moves none. -/
def Obligations.OnlyNamedCommandsMoveModesSecurityAndRoutes : Prop :=
  ∀ s t : State, step s = .next t →
    (t.modeNow ≠ s.modeNow ∨ t.getF F.MODE_PREV ≠ s.getF F.MODE_PREV ∨ t.getF F.MODE_SAFE_CAUSE ≠ s.getF F.MODE_SAFE_CAUSE →
      ∃ c, s.pending.head? = some c ∧ movesMode c = true) ∧
    (t.secState ≠ s.secState ∨ t.dbgLevel ≠ s.dbgLevel → ∃ c, s.pending.head? = some c ∧ movesSecurity c = true) ∧
    (∀ r, t.routeSt r ≠ s.routeSt r → ∃ c, s.pending.head? = some c ∧ movesRoutes c = true)
end

