-- ==== Sys2Proof/Laws/Tables.lean ====
section
/-! SUPPORT. Laws of the plain helpers: bit fields, and sparse tables with their canonical form. -/

namespace Sys2Proof.Machine

/-! ### Bit fields -/

/-- Bits of a value below the cut are untouched by a write above it, and the other way round. -/
theorem bits_setBits_same (v lo w x : Nat) : bits (setBits v lo w x) lo w = x % 2 ^ w := by
  unfold bits setBits
  have h1 : v % 2 ^ lo < 2 ^ lo := Nat.mod_lt _ (by positivity)
  rw [Nat.shiftRight_eq_div_pow]
  have e : v % 2 ^ lo + x % 2 ^ w * 2 ^ lo + v / 2 ^ (lo + w) * 2 ^ (lo + w) =
      v % 2 ^ lo + 2 ^ lo * (x % 2 ^ w + 2 ^ w * (v / 2 ^ (lo + w))) := by rw [pow_add]; ring
  rw [e, Nat.add_mul_div_left _ _ (by positivity), Nat.div_eq_of_lt h1, Nat.zero_add, Nat.add_mul_mod_self_left,
    Nat.mod_mod]

/-- Bit `i` of a value after a field write. -/
theorem testBit_setBits (v lo w x i : Nat) :
    (setBits v lo w x).testBit i =
      if i < lo then v.testBit i else if i < lo + w then x.testBit (i - lo) else v.testBit i := by
  unfold setBits
  have h1 : v % 2 ^ lo < 2 ^ lo := Nat.mod_lt _ (by positivity)
  have h2 : v % 2 ^ lo + x % 2 ^ w * 2 ^ lo < 2 ^ (lo + w) := by
    have h3 : x % 2 ^ w < 2 ^ w := Nat.mod_lt _ (by positivity)
    rw [pow_add]
    nlinarith [Nat.mul_le_mul_right (2 ^ lo) (Nat.succ_le_of_lt h3)]
  rw [Nat.add_comm, Nat.mul_comm, Nat.testBit_two_pow_mul_add _ h2, Nat.add_comm (v % 2 ^ lo),
    Nat.mul_comm (x % 2 ^ w), Nat.testBit_two_pow_mul_add _ h1]
  simp only [Nat.testBit_mod_two_pow, Nat.testBit_div_two_pow]
  by_cases h : i < lo
  · have : i < lo + w := by omega
    simp [h, this]
  · by_cases h' : i < lo + w
    · have : i - lo < w := by omega
      simp [h, h', this]
    · have : i - (lo + w) + (lo + w) = i := by omega
      simp [h, h', this]

/-- A field write leaves a field beside it alone. -/
theorem bits_setBits_ne (v lo w x lo' w' : Nat) (h : lo' + w' ≤ lo ∨ lo + w ≤ lo') :
    bits (setBits v lo w x) lo' w' = bits v lo' w' := by
  apply Nat.eq_of_testBit_eq
  intro i
  simp only [bits, Nat.testBit_mod_two_pow, Nat.testBit_shiftRight, testBit_setBits]
  by_cases hi : i < w'
  · rcases h with h | h
    · have : lo' + i < lo := by omega
      simp [this]
    · have h1 : ¬ lo' + i < lo := by omega
      have h2 : ¬ lo' + i < lo + w := by omega
      simp [h1, h2]
  · simp [hi]

/-- A field of a register word does not leave the word. -/
theorem setBits_lt (v lo w x : Nat) (hv : v < 2 ^ 32) (hw : lo + w ≤ 32) : setBits v lo w x < 2 ^ 32 := by
  refine Nat.lt_of_testBit 32 ?_ (Nat.testBit_two_pow_self (n := 32)) fun j hj => ?_
  · rw [testBit_setBits]
    have h1 : ¬ 32 < lo := by omega
    have h2 : ¬ 32 < lo + w := by omega
    simp [h1, h2, Nat.testBit_lt_two_pow hv]
  · rw [testBit_setBits]
    have h1 : ¬ j < lo := by omega
    have h2 : ¬ j < lo + w := by omega
    have h3 : v < 2 ^ j := lt_of_lt_of_le hv (Nat.pow_le_pow_right (by norm_num) (by omega))
    simp [h1, h2, Nat.testBit_lt_two_pow h3, Nat.testBit_two_pow_of_ne (by omega : 32 ≠ j)]

/-- A field is below its power of two. -/
theorem bits_lt (v lo w : Nat) : bits v lo w < 2 ^ w := Nat.mod_lt _ (by positivity)

/-! ### Sparse tables -/

variable {α : Type} (d : Nat → α)

/-- The table with `(k, v)` put in its place. -/
def tinsert : Tbl α → Nat → α → Tbl α
  | [], k, v => [(k, v)]
  | (j, w) :: t, k, v => if k < j then (k, v) :: (j, w) :: t else (j, w) :: tinsert t k v

theorem tget_terase_same (t : Tbl α) (k : Nat) : tget d (terase t k) k = d k := by
  induction t with
  | nil => rfl
  | cons e t ih =>
    simp only [terase, ne_eq, decide_not] at ih ⊢
    by_cases h : e.1 = k
    · simp [h, ih]
    · have h' : ¬ k = e.1 := fun q => h q.symm
      simp [h, tget, h', ih]

theorem tget_terase_ne (t : Tbl α) {k j : Nat} (hj : j ≠ k) : tget d (terase t k) j = tget d t j := by
  induction t with
  | nil => rfl
  | cons e t ih =>
    simp only [terase, ne_eq, decide_not] at ih ⊢
    by_cases h : e.1 = k
    · have : ¬ j = e.1 := by rw [h]; exact hj
      simp [h, tget, ih, hj]
    · simp [h, tget, ih]

theorem tget_tinsert_same (t : Tbl α) (k : Nat) (v : α) (h : ∀ e ∈ t, e.1 ≠ k) : tget d (tinsert t k v) k = v := by
  induction t with
  | nil => simp [tinsert, tget]
  | cons e t ih =>
    have h1 : ¬ k = e.1 := fun q => h e (by simp) q.symm
    unfold tinsert
    split
    · simp [tget]
    · simp [tget, h1, ih fun x hx => h x (by simp [hx])]

theorem tget_tinsert_ne (t : Tbl α) {k j : Nat} (v : α) (hj : j ≠ k) : tget d (tinsert t k v) j = tget d t j := by
  induction t with
  | nil => simp [tinsert, tget, hj]
  | cons e t ih =>
    unfold tinsert
    split
    · simp [tget, hj]
    · simp [tget, ih]

theorem ne_of_mem_terase (t : Tbl α) (k : Nat) : ∀ e ∈ terase t k, e.1 ≠ k := by
  intro e he
  simp only [terase, List.mem_filter, decide_eq_true_eq] at he
  exact he.2

theorem mem_tinsert {t : Tbl α} {k : Nat} {v : α} {e : Nat × α} (h : e ∈ tinsert t k v) : e = (k, v) ∨ e ∈ t := by
  induction t with
  | nil => simpa [tinsert] using h
  | cons a t ih =>
    unfold tinsert at h
    split at h
    · simpa using h
    · rcases List.mem_cons.1 h with h | h
      · simp [h]
      · rcases ih h with h | h <;> simp [h]

theorem rising_tinsert (t : Tbl α) (k : Nat) (v : α) (ht : (t.map Prod.fst).Pairwise (· < ·)) (hk : ∀ e ∈ t, e.1 ≠ k) :
    ((tinsert t k v).map Prod.fst).Pairwise (· < ·) := by
  induction t with
  | nil => simp [tinsert]
  | cons a t ih =>
    rw [List.map_cons, List.pairwise_cons] at ht
    unfold tinsert
    split
    · next h =>
      rw [List.map_cons, List.map_cons, List.pairwise_cons, List.pairwise_cons]
      refine ⟨?_, ht⟩
      intro b hb
      rcases List.mem_cons.1 hb with hb | hb
      · rw [hb]; exact h
      · exact lt_trans h (ht.1 b hb)
    · next h =>
      rw [List.map_cons, List.pairwise_cons]
      refine ⟨?_, ih ht.2 fun e he => hk e (by simp [he])⟩
      intro b hb
      obtain ⟨e, he, rfl⟩ := List.mem_map.1 hb
      rcases mem_tinsert he with he | he
      · rw [he]
        have := hk a (by simp)
        change a.1 < k
        omega
      · exact ht.1 _ (List.mem_map_of_mem he)

variable [DecidableEq α]

/-- A write is an erasure where the value is the default, else an insertion. -/
theorem tset_eq (t : Tbl α) (k : Nat) (v : α) : tset d t k v = if v = d k then terase t k else tinsert (terase t k) k v := by
  unfold tset
  generalize terase t k = u
  induction u with
  | nil => simp [tput, tinsert]
  | cons e u ih =>
    unfold tput
    split
    · next hk =>
      split
      · rfl
      · rw [tinsert, if_pos hk]
    · next hk =>
      rw [ih]
      split
      · rfl
      · rw [tinsert, if_neg hk]

/-- The value written is the value read. -/
@[simp] theorem tget_tset_same (t : Tbl α) (k : Nat) (v : α) : tget d (tset d t k v) k = v := by
  rw [tset_eq]
  split
  · next h => rw [tget_terase_same, h]
  · exact tget_tinsert_same d _ k v (ne_of_mem_terase t k)

/-- Every other key keeps its value. -/
theorem tget_tset_ne (t : Tbl α) {k j : Nat} (v : α) (hj : j ≠ k) : tget d (tset d t k v) j = tget d t j := by
  rw [tset_eq]
  split
  · exact tget_terase_ne d t hj
  · rw [tget_tinsert_ne d _ v hj, tget_terase_ne d t hj]

/-- A write keeps the canonical form. -/
theorem wf_tset (t : Tbl α) (k : Nat) (v : α) (h : t.wf d) : (tset d t k v).wf d := by
  simp only [Tbl.wf, decide_eq_true_eq] at h ⊢
  have hr : ((terase t k).map Prod.fst).Pairwise (· < ·) := h.1.sublist (List.filter_sublist.map _)
  have hd : ∀ e ∈ terase t k, e.2 ≠ d e.1 := fun e he => h.2 e (List.mem_of_mem_filter he)
  rw [tset_eq]
  split
  · exact ⟨hr, hd⟩
  · next hv =>
    refine ⟨rising_tinsert _ k v hr (ne_of_mem_terase t k), ?_⟩
    intro e he
    rcases mem_tinsert he with he | he
    · rw [he]; exact hv
    · exact hd e he

/-- The empty table is canonical. -/
theorem wf_nil : Tbl.wf d ([] : Tbl α) := by simp [Tbl.wf]

end Sys2Proof.Machine
end

