-- ==== Sys2Proof/Laws/State.lean ====
section
/-! SUPPORT. Laws of the state: one lemma per field and update, so that no later proof unfolds a record update, and the read-after-write
laws of the register file. -/

namespace Sys2Proof.Machine
namespace State

variable (s : State)

/-! `setR` touches `regs` alone. -/

@[simp] theorem setR_pending (off : Nat) (w : W32) : (s.setR off w).pending = s.pending := rfl
@[simp] theorem setR_freeCtr (off : Nat) (w : W32) : (s.setR off w).freeCtr = s.freeCtr := rfl
@[simp] theorem setR_out (off : Nat) (w : W32) : (s.setR off w).out = s.out := rfl
@[simp] theorem setR_fuses (off : Nat) (w : W32) : (s.setR off w).fuses = s.fuses := rfl
@[simp] theorem setR_bnd (off : Nat) (w : W32) : (s.setR off w).bnd = s.bnd := rfl
@[simp] theorem setR_mode (off : Nat) (w : W32) : (s.setR off w).mode = s.mode := rfl
@[simp] theorem setR_sec (off : Nat) (w : W32) : (s.setR off w).sec = s.sec := rfl
@[simp] theorem setR_img (off : Nat) (w : W32) : (s.setR off w).img = s.img := rfl
@[simp] theorem setR_ntc (off : Nat) (w : W32) : (s.setR off w).ntc = s.ntc := rfl
@[simp] theorem setR_pm (off : Nat) (w : W32) : (s.setR off w).pm = s.pm := rfl
@[simp] theorem setR_q (off : Nat) (w : W32) : (s.setR off w).q = s.q := rfl
@[simp] theorem setR_descs (off : Nat) (w : W32) : (s.setR off w).descs = s.descs := rfl
@[simp] theorem setR_seq (off : Nat) (w : W32) : (s.setR off w).seq = s.seq := rfl
@[simp] theorem setR_rc (off : Nat) (w : W32) : (s.setR off w).rc = s.rc := rfl
@[simp] theorem setR_so (off : Nat) (w : W32) : (s.setR off w).so = s.so := rfl
@[simp] theorem setR_ph (off : Nat) (w : W32) : (s.setR off w).ph = s.ph := rfl
@[simp] theorem setR_mi (off : Nat) (w : W32) : (s.setR off w).mi = s.mi := rfl
@[simp] theorem setR_fi (off : Nat) (w : W32) : (s.setR off w).fi = s.fi := rfl
@[simp] theorem setR_hb (off : Nat) (w : W32) : (s.setR off w).hb = s.hb := rfl

/-! `setF` touches `regs` alone. -/

@[simp] theorem setF_pending (f : Field) (v : Nat) : (s.setF f v).pending = s.pending := rfl
@[simp] theorem setF_freeCtr (f : Field) (v : Nat) : (s.setF f v).freeCtr = s.freeCtr := rfl
@[simp] theorem setF_out (f : Field) (v : Nat) : (s.setF f v).out = s.out := rfl
@[simp] theorem setF_fuses (f : Field) (v : Nat) : (s.setF f v).fuses = s.fuses := rfl
@[simp] theorem setF_bnd (f : Field) (v : Nat) : (s.setF f v).bnd = s.bnd := rfl
@[simp] theorem setF_mode (f : Field) (v : Nat) : (s.setF f v).mode = s.mode := rfl
@[simp] theorem setF_sec (f : Field) (v : Nat) : (s.setF f v).sec = s.sec := rfl
@[simp] theorem setF_img (f : Field) (v : Nat) : (s.setF f v).img = s.img := rfl
@[simp] theorem setF_ntc (f : Field) (v : Nat) : (s.setF f v).ntc = s.ntc := rfl
@[simp] theorem setF_pm (f : Field) (v : Nat) : (s.setF f v).pm = s.pm := rfl
@[simp] theorem setF_q (f : Field) (v : Nat) : (s.setF f v).q = s.q := rfl
@[simp] theorem setF_descs (f : Field) (v : Nat) : (s.setF f v).descs = s.descs := rfl
@[simp] theorem setF_seq (f : Field) (v : Nat) : (s.setF f v).seq = s.seq := rfl
@[simp] theorem setF_rc (f : Field) (v : Nat) : (s.setF f v).rc = s.rc := rfl
@[simp] theorem setF_so (f : Field) (v : Nat) : (s.setF f v).so = s.so := rfl
@[simp] theorem setF_ph (f : Field) (v : Nat) : (s.setF f v).ph = s.ph := rfl
@[simp] theorem setF_mi (f : Field) (v : Nat) : (s.setF f v).mi = s.mi := rfl
@[simp] theorem setF_fi (f : Field) (v : Nat) : (s.setF f v).fi = s.fi := rfl
@[simp] theorem setF_hb (f : Field) (v : Nat) : (s.setF f v).hb = s.hb := rfl

/-! `bump` touches `regs` alone. -/

@[simp] theorem bump_pending (off : Nat) : (s.bump off).pending = s.pending := rfl
@[simp] theorem bump_freeCtr (off : Nat) : (s.bump off).freeCtr = s.freeCtr := rfl
@[simp] theorem bump_out (off : Nat) : (s.bump off).out = s.out := rfl
@[simp] theorem bump_fuses (off : Nat) : (s.bump off).fuses = s.fuses := rfl
@[simp] theorem bump_bnd (off : Nat) : (s.bump off).bnd = s.bnd := rfl
@[simp] theorem bump_mode (off : Nat) : (s.bump off).mode = s.mode := rfl
@[simp] theorem bump_sec (off : Nat) : (s.bump off).sec = s.sec := rfl
@[simp] theorem bump_img (off : Nat) : (s.bump off).img = s.img := rfl
@[simp] theorem bump_ntc (off : Nat) : (s.bump off).ntc = s.ntc := rfl
@[simp] theorem bump_pm (off : Nat) : (s.bump off).pm = s.pm := rfl
@[simp] theorem bump_q (off : Nat) : (s.bump off).q = s.q := rfl
@[simp] theorem bump_descs (off : Nat) : (s.bump off).descs = s.descs := rfl
@[simp] theorem bump_seq (off : Nat) : (s.bump off).seq = s.seq := rfl
@[simp] theorem bump_rc (off : Nat) : (s.bump off).rc = s.rc := rfl
@[simp] theorem bump_so (off : Nat) : (s.bump off).so = s.so := rfl
@[simp] theorem bump_ph (off : Nat) : (s.bump off).ph = s.ph := rfl
@[simp] theorem bump_mi (off : Nat) : (s.bump off).mi = s.mi := rfl
@[simp] theorem bump_fi (off : Nat) : (s.bump off).fi = s.fi := rfl
@[simp] theorem bump_hb (off : Nat) : (s.bump off).hb = s.hb := rfl

/-! `bumpBy` touches `regs` alone. -/

@[simp] theorem bumpBy_pending (off n : Nat) : (s.bumpBy off n).pending = s.pending := rfl
@[simp] theorem bumpBy_freeCtr (off n : Nat) : (s.bumpBy off n).freeCtr = s.freeCtr := rfl
@[simp] theorem bumpBy_out (off n : Nat) : (s.bumpBy off n).out = s.out := rfl
@[simp] theorem bumpBy_fuses (off n : Nat) : (s.bumpBy off n).fuses = s.fuses := rfl
@[simp] theorem bumpBy_bnd (off n : Nat) : (s.bumpBy off n).bnd = s.bnd := rfl
@[simp] theorem bumpBy_mode (off n : Nat) : (s.bumpBy off n).mode = s.mode := rfl
@[simp] theorem bumpBy_sec (off n : Nat) : (s.bumpBy off n).sec = s.sec := rfl
@[simp] theorem bumpBy_img (off n : Nat) : (s.bumpBy off n).img = s.img := rfl
@[simp] theorem bumpBy_ntc (off n : Nat) : (s.bumpBy off n).ntc = s.ntc := rfl
@[simp] theorem bumpBy_pm (off n : Nat) : (s.bumpBy off n).pm = s.pm := rfl
@[simp] theorem bumpBy_q (off n : Nat) : (s.bumpBy off n).q = s.q := rfl
@[simp] theorem bumpBy_descs (off n : Nat) : (s.bumpBy off n).descs = s.descs := rfl
@[simp] theorem bumpBy_seq (off n : Nat) : (s.bumpBy off n).seq = s.seq := rfl
@[simp] theorem bumpBy_rc (off n : Nat) : (s.bumpBy off n).rc = s.rc := rfl
@[simp] theorem bumpBy_so (off n : Nat) : (s.bumpBy off n).so = s.so := rfl
@[simp] theorem bumpBy_ph (off n : Nat) : (s.bumpBy off n).ph = s.ph := rfl
@[simp] theorem bumpBy_mi (off n : Nat) : (s.bumpBy off n).mi = s.mi := rfl
@[simp] theorem bumpBy_fi (off n : Nat) : (s.bumpBy off n).fi = s.fi := rfl
@[simp] theorem bumpBy_hb (off n : Nat) : (s.bumpBy off n).hb = s.hb := rfl

/-! `satF` touches `regs` alone. -/

@[simp] theorem satF_pending (f : Field) : (s.satF f).pending = s.pending := rfl
@[simp] theorem satF_freeCtr (f : Field) : (s.satF f).freeCtr = s.freeCtr := rfl
@[simp] theorem satF_out (f : Field) : (s.satF f).out = s.out := rfl
@[simp] theorem satF_fuses (f : Field) : (s.satF f).fuses = s.fuses := rfl
@[simp] theorem satF_bnd (f : Field) : (s.satF f).bnd = s.bnd := rfl
@[simp] theorem satF_mode (f : Field) : (s.satF f).mode = s.mode := rfl
@[simp] theorem satF_sec (f : Field) : (s.satF f).sec = s.sec := rfl
@[simp] theorem satF_img (f : Field) : (s.satF f).img = s.img := rfl
@[simp] theorem satF_ntc (f : Field) : (s.satF f).ntc = s.ntc := rfl
@[simp] theorem satF_pm (f : Field) : (s.satF f).pm = s.pm := rfl
@[simp] theorem satF_q (f : Field) : (s.satF f).q = s.q := rfl
@[simp] theorem satF_descs (f : Field) : (s.satF f).descs = s.descs := rfl
@[simp] theorem satF_seq (f : Field) : (s.satF f).seq = s.seq := rfl
@[simp] theorem satF_rc (f : Field) : (s.satF f).rc = s.rc := rfl
@[simp] theorem satF_so (f : Field) : (s.satF f).so = s.so := rfl
@[simp] theorem satF_ph (f : Field) : (s.satF f).ph = s.ph := rfl
@[simp] theorem satF_mi (f : Field) : (s.satF f).mi = s.mi := rfl
@[simp] theorem satF_fi (f : Field) : (s.satF f).fi = s.fi := rfl
@[simp] theorem satF_hb (f : Field) : (s.satF f).hb = s.hb := rfl

/-! `setBit` touches `regs` alone. -/

@[simp] theorem setBit_pending (base i : Nat) (b : Bool) : (s.setBit base i b).pending = s.pending := rfl
@[simp] theorem setBit_freeCtr (base i : Nat) (b : Bool) : (s.setBit base i b).freeCtr = s.freeCtr := rfl
@[simp] theorem setBit_out (base i : Nat) (b : Bool) : (s.setBit base i b).out = s.out := rfl
@[simp] theorem setBit_fuses (base i : Nat) (b : Bool) : (s.setBit base i b).fuses = s.fuses := rfl
@[simp] theorem setBit_bnd (base i : Nat) (b : Bool) : (s.setBit base i b).bnd = s.bnd := rfl
@[simp] theorem setBit_mode (base i : Nat) (b : Bool) : (s.setBit base i b).mode = s.mode := rfl
@[simp] theorem setBit_sec (base i : Nat) (b : Bool) : (s.setBit base i b).sec = s.sec := rfl
@[simp] theorem setBit_img (base i : Nat) (b : Bool) : (s.setBit base i b).img = s.img := rfl
@[simp] theorem setBit_ntc (base i : Nat) (b : Bool) : (s.setBit base i b).ntc = s.ntc := rfl
@[simp] theorem setBit_pm (base i : Nat) (b : Bool) : (s.setBit base i b).pm = s.pm := rfl
@[simp] theorem setBit_q (base i : Nat) (b : Bool) : (s.setBit base i b).q = s.q := rfl
@[simp] theorem setBit_descs (base i : Nat) (b : Bool) : (s.setBit base i b).descs = s.descs := rfl
@[simp] theorem setBit_seq (base i : Nat) (b : Bool) : (s.setBit base i b).seq = s.seq := rfl
@[simp] theorem setBit_rc (base i : Nat) (b : Bool) : (s.setBit base i b).rc = s.rc := rfl
@[simp] theorem setBit_so (base i : Nat) (b : Bool) : (s.setBit base i b).so = s.so := rfl
@[simp] theorem setBit_ph (base i : Nat) (b : Bool) : (s.setBit base i b).ph = s.ph := rfl
@[simp] theorem setBit_mi (base i : Nat) (b : Bool) : (s.setBit base i b).mi = s.mi := rfl
@[simp] theorem setBit_fi (base i : Nat) (b : Bool) : (s.setBit base i b).fi = s.fi := rfl
@[simp] theorem setBit_hb (base i : Nat) (b : Bool) : (s.setBit base i b).hb = s.hb := rfl

/-! `emit` touches `out` alone. -/

@[simp] theorem emit_pending (o : Output) : (s.emit o).pending = s.pending := rfl
@[simp] theorem emit_regs (o : Output) : (s.emit o).regs = s.regs := rfl
@[simp] theorem emit_freeCtr (o : Output) : (s.emit o).freeCtr = s.freeCtr := rfl
@[simp] theorem emit_fuses (o : Output) : (s.emit o).fuses = s.fuses := rfl
@[simp] theorem emit_bnd (o : Output) : (s.emit o).bnd = s.bnd := rfl
@[simp] theorem emit_mode (o : Output) : (s.emit o).mode = s.mode := rfl
@[simp] theorem emit_sec (o : Output) : (s.emit o).sec = s.sec := rfl
@[simp] theorem emit_img (o : Output) : (s.emit o).img = s.img := rfl
@[simp] theorem emit_ntc (o : Output) : (s.emit o).ntc = s.ntc := rfl
@[simp] theorem emit_pm (o : Output) : (s.emit o).pm = s.pm := rfl
@[simp] theorem emit_q (o : Output) : (s.emit o).q = s.q := rfl
@[simp] theorem emit_descs (o : Output) : (s.emit o).descs = s.descs := rfl
@[simp] theorem emit_seq (o : Output) : (s.emit o).seq = s.seq := rfl
@[simp] theorem emit_rc (o : Output) : (s.emit o).rc = s.rc := rfl
@[simp] theorem emit_so (o : Output) : (s.emit o).so = s.so := rfl
@[simp] theorem emit_ph (o : Output) : (s.emit o).ph = s.ph := rfl
@[simp] theorem emit_mi (o : Output) : (s.emit o).mi = s.mi := rfl
@[simp] theorem emit_fi (o : Output) : (s.emit o).fi = s.fi := rfl
@[simp] theorem emit_hb (o : Output) : (s.emit o).hb = s.hb := rfl

/-! `setCore` touches `ntc` alone. -/

@[simp] theorem setCore_pending (c : Nat) (k : NtcCore) : (s.setCore c k).pending = s.pending := rfl
@[simp] theorem setCore_regs (c : Nat) (k : NtcCore) : (s.setCore c k).regs = s.regs := rfl
@[simp] theorem setCore_freeCtr (c : Nat) (k : NtcCore) : (s.setCore c k).freeCtr = s.freeCtr := rfl
@[simp] theorem setCore_out (c : Nat) (k : NtcCore) : (s.setCore c k).out = s.out := rfl
@[simp] theorem setCore_fuses (c : Nat) (k : NtcCore) : (s.setCore c k).fuses = s.fuses := rfl
@[simp] theorem setCore_bnd (c : Nat) (k : NtcCore) : (s.setCore c k).bnd = s.bnd := rfl
@[simp] theorem setCore_mode (c : Nat) (k : NtcCore) : (s.setCore c k).mode = s.mode := rfl
@[simp] theorem setCore_sec (c : Nat) (k : NtcCore) : (s.setCore c k).sec = s.sec := rfl
@[simp] theorem setCore_img (c : Nat) (k : NtcCore) : (s.setCore c k).img = s.img := rfl
@[simp] theorem setCore_pm (c : Nat) (k : NtcCore) : (s.setCore c k).pm = s.pm := rfl
@[simp] theorem setCore_q (c : Nat) (k : NtcCore) : (s.setCore c k).q = s.q := rfl
@[simp] theorem setCore_descs (c : Nat) (k : NtcCore) : (s.setCore c k).descs = s.descs := rfl
@[simp] theorem setCore_seq (c : Nat) (k : NtcCore) : (s.setCore c k).seq = s.seq := rfl
@[simp] theorem setCore_rc (c : Nat) (k : NtcCore) : (s.setCore c k).rc = s.rc := rfl
@[simp] theorem setCore_so (c : Nat) (k : NtcCore) : (s.setCore c k).so = s.so := rfl
@[simp] theorem setCore_ph (c : Nat) (k : NtcCore) : (s.setCore c k).ph = s.ph := rfl
@[simp] theorem setCore_mi (c : Nat) (k : NtcCore) : (s.setCore c k).mi = s.mi := rfl
@[simp] theorem setCore_fi (c : Nat) (k : NtcCore) : (s.setCore c k).fi = s.fi := rfl
@[simp] theorem setCore_hb (c : Nat) (k : NtcCore) : (s.setCore c k).hb = s.hb := rfl

/-! `setDie` touches `seq` alone. -/

@[simp] theorem setDie_pending (k : Nat) (d : Die) : (s.setDie k d).pending = s.pending := rfl
@[simp] theorem setDie_regs (k : Nat) (d : Die) : (s.setDie k d).regs = s.regs := rfl
@[simp] theorem setDie_freeCtr (k : Nat) (d : Die) : (s.setDie k d).freeCtr = s.freeCtr := rfl
@[simp] theorem setDie_out (k : Nat) (d : Die) : (s.setDie k d).out = s.out := rfl
@[simp] theorem setDie_fuses (k : Nat) (d : Die) : (s.setDie k d).fuses = s.fuses := rfl
@[simp] theorem setDie_bnd (k : Nat) (d : Die) : (s.setDie k d).bnd = s.bnd := rfl
@[simp] theorem setDie_mode (k : Nat) (d : Die) : (s.setDie k d).mode = s.mode := rfl
@[simp] theorem setDie_sec (k : Nat) (d : Die) : (s.setDie k d).sec = s.sec := rfl
@[simp] theorem setDie_img (k : Nat) (d : Die) : (s.setDie k d).img = s.img := rfl
@[simp] theorem setDie_ntc (k : Nat) (d : Die) : (s.setDie k d).ntc = s.ntc := rfl
@[simp] theorem setDie_pm (k : Nat) (d : Die) : (s.setDie k d).pm = s.pm := rfl
@[simp] theorem setDie_q (k : Nat) (d : Die) : (s.setDie k d).q = s.q := rfl
@[simp] theorem setDie_descs (k : Nat) (d : Die) : (s.setDie k d).descs = s.descs := rfl
@[simp] theorem setDie_rc (k : Nat) (d : Die) : (s.setDie k d).rc = s.rc := rfl
@[simp] theorem setDie_so (k : Nat) (d : Die) : (s.setDie k d).so = s.so := rfl
@[simp] theorem setDie_ph (k : Nat) (d : Die) : (s.setDie k d).ph = s.ph := rfl
@[simp] theorem setDie_mi (k : Nat) (d : Die) : (s.setDie k d).mi = s.mi := rfl
@[simp] theorem setDie_fi (k : Nat) (d : Die) : (s.setDie k d).fi = s.fi := rfl
@[simp] theorem setDie_hb (k : Nat) (d : Die) : (s.setDie k d).hb = s.hb := rfl

/-! `setRoute` touches `seq` alone. -/

@[simp] theorem setRoute_pending (r : Nat) (x : Route) : (s.setRoute r x).pending = s.pending := rfl
@[simp] theorem setRoute_regs (r : Nat) (x : Route) : (s.setRoute r x).regs = s.regs := rfl
@[simp] theorem setRoute_freeCtr (r : Nat) (x : Route) : (s.setRoute r x).freeCtr = s.freeCtr := rfl
@[simp] theorem setRoute_out (r : Nat) (x : Route) : (s.setRoute r x).out = s.out := rfl
@[simp] theorem setRoute_fuses (r : Nat) (x : Route) : (s.setRoute r x).fuses = s.fuses := rfl
@[simp] theorem setRoute_bnd (r : Nat) (x : Route) : (s.setRoute r x).bnd = s.bnd := rfl
@[simp] theorem setRoute_mode (r : Nat) (x : Route) : (s.setRoute r x).mode = s.mode := rfl
@[simp] theorem setRoute_sec (r : Nat) (x : Route) : (s.setRoute r x).sec = s.sec := rfl
@[simp] theorem setRoute_img (r : Nat) (x : Route) : (s.setRoute r x).img = s.img := rfl
@[simp] theorem setRoute_ntc (r : Nat) (x : Route) : (s.setRoute r x).ntc = s.ntc := rfl
@[simp] theorem setRoute_pm (r : Nat) (x : Route) : (s.setRoute r x).pm = s.pm := rfl
@[simp] theorem setRoute_q (r : Nat) (x : Route) : (s.setRoute r x).q = s.q := rfl
@[simp] theorem setRoute_descs (r : Nat) (x : Route) : (s.setRoute r x).descs = s.descs := rfl
@[simp] theorem setRoute_rc (r : Nat) (x : Route) : (s.setRoute r x).rc = s.rc := rfl
@[simp] theorem setRoute_so (r : Nat) (x : Route) : (s.setRoute r x).so = s.so := rfl
@[simp] theorem setRoute_ph (r : Nat) (x : Route) : (s.setRoute r x).ph = s.ph := rfl
@[simp] theorem setRoute_mi (r : Nat) (x : Route) : (s.setRoute r x).mi = s.mi := rfl
@[simp] theorem setRoute_fi (r : Nat) (x : Route) : (s.setRoute r x).fi = s.fi := rfl
@[simp] theorem setRoute_hb (r : Nat) (x : Route) : (s.setRoute r x).hb = s.hb := rfl

/-! `setLine` touches `ph` alone. -/

@[simp] theorem setLine_pending (st w : Nat) (l : Line) : (s.setLine st w l).pending = s.pending := rfl
@[simp] theorem setLine_regs (st w : Nat) (l : Line) : (s.setLine st w l).regs = s.regs := rfl
@[simp] theorem setLine_freeCtr (st w : Nat) (l : Line) : (s.setLine st w l).freeCtr = s.freeCtr := rfl
@[simp] theorem setLine_out (st w : Nat) (l : Line) : (s.setLine st w l).out = s.out := rfl
@[simp] theorem setLine_fuses (st w : Nat) (l : Line) : (s.setLine st w l).fuses = s.fuses := rfl
@[simp] theorem setLine_bnd (st w : Nat) (l : Line) : (s.setLine st w l).bnd = s.bnd := rfl
@[simp] theorem setLine_mode (st w : Nat) (l : Line) : (s.setLine st w l).mode = s.mode := rfl
@[simp] theorem setLine_sec (st w : Nat) (l : Line) : (s.setLine st w l).sec = s.sec := rfl
@[simp] theorem setLine_img (st w : Nat) (l : Line) : (s.setLine st w l).img = s.img := rfl
@[simp] theorem setLine_ntc (st w : Nat) (l : Line) : (s.setLine st w l).ntc = s.ntc := rfl
@[simp] theorem setLine_pm (st w : Nat) (l : Line) : (s.setLine st w l).pm = s.pm := rfl
@[simp] theorem setLine_q (st w : Nat) (l : Line) : (s.setLine st w l).q = s.q := rfl
@[simp] theorem setLine_descs (st w : Nat) (l : Line) : (s.setLine st w l).descs = s.descs := rfl
@[simp] theorem setLine_seq (st w : Nat) (l : Line) : (s.setLine st w l).seq = s.seq := rfl
@[simp] theorem setLine_rc (st w : Nat) (l : Line) : (s.setLine st w l).rc = s.rc := rfl
@[simp] theorem setLine_so (st w : Nat) (l : Line) : (s.setLine st w l).so = s.so := rfl
@[simp] theorem setLine_mi (st w : Nat) (l : Line) : (s.setLine st w l).mi = s.mi := rfl
@[simp] theorem setLine_fi (st w : Nat) (l : Line) : (s.setLine st w l).fi = s.fi := rfl
@[simp] theorem setLine_hb (st w : Nat) (l : Line) : (s.setLine st w l).hb = s.hb := rfl

/-! `setJob` touches `seq` alone. -/

@[simp] theorem setJob_pending (j : Job) : (s.setJob j).pending = s.pending := rfl
@[simp] theorem setJob_regs (j : Job) : (s.setJob j).regs = s.regs := rfl
@[simp] theorem setJob_freeCtr (j : Job) : (s.setJob j).freeCtr = s.freeCtr := rfl
@[simp] theorem setJob_out (j : Job) : (s.setJob j).out = s.out := rfl
@[simp] theorem setJob_fuses (j : Job) : (s.setJob j).fuses = s.fuses := rfl
@[simp] theorem setJob_bnd (j : Job) : (s.setJob j).bnd = s.bnd := rfl
@[simp] theorem setJob_mode (j : Job) : (s.setJob j).mode = s.mode := rfl
@[simp] theorem setJob_sec (j : Job) : (s.setJob j).sec = s.sec := rfl
@[simp] theorem setJob_img (j : Job) : (s.setJob j).img = s.img := rfl
@[simp] theorem setJob_ntc (j : Job) : (s.setJob j).ntc = s.ntc := rfl
@[simp] theorem setJob_pm (j : Job) : (s.setJob j).pm = s.pm := rfl
@[simp] theorem setJob_q (j : Job) : (s.setJob j).q = s.q := rfl
@[simp] theorem setJob_descs (j : Job) : (s.setJob j).descs = s.descs := rfl
@[simp] theorem setJob_rc (j : Job) : (s.setJob j).rc = s.rc := rfl
@[simp] theorem setJob_so (j : Job) : (s.setJob j).so = s.so := rfl
@[simp] theorem setJob_ph (j : Job) : (s.setJob j).ph = s.ph := rfl
@[simp] theorem setJob_mi (j : Job) : (s.setJob j).mi = s.mi := rfl
@[simp] theorem setJob_fi (j : Job) : (s.setJob j).fi = s.fi := rfl
@[simp] theorem setJob_hb (j : Job) : (s.setJob j).hb = s.hb := rfl

/-! `dropJob` touches `seq` alone. -/

@[simp] theorem dropJob_pending (id : Nat) : (s.dropJob id).pending = s.pending := rfl
@[simp] theorem dropJob_regs (id : Nat) : (s.dropJob id).regs = s.regs := rfl
@[simp] theorem dropJob_freeCtr (id : Nat) : (s.dropJob id).freeCtr = s.freeCtr := rfl
@[simp] theorem dropJob_out (id : Nat) : (s.dropJob id).out = s.out := rfl
@[simp] theorem dropJob_fuses (id : Nat) : (s.dropJob id).fuses = s.fuses := rfl
@[simp] theorem dropJob_bnd (id : Nat) : (s.dropJob id).bnd = s.bnd := rfl
@[simp] theorem dropJob_mode (id : Nat) : (s.dropJob id).mode = s.mode := rfl
@[simp] theorem dropJob_sec (id : Nat) : (s.dropJob id).sec = s.sec := rfl
@[simp] theorem dropJob_img (id : Nat) : (s.dropJob id).img = s.img := rfl
@[simp] theorem dropJob_ntc (id : Nat) : (s.dropJob id).ntc = s.ntc := rfl
@[simp] theorem dropJob_pm (id : Nat) : (s.dropJob id).pm = s.pm := rfl
@[simp] theorem dropJob_q (id : Nat) : (s.dropJob id).q = s.q := rfl
@[simp] theorem dropJob_descs (id : Nat) : (s.dropJob id).descs = s.descs := rfl
@[simp] theorem dropJob_rc (id : Nat) : (s.dropJob id).rc = s.rc := rfl
@[simp] theorem dropJob_so (id : Nat) : (s.dropJob id).so = s.so := rfl
@[simp] theorem dropJob_ph (id : Nat) : (s.dropJob id).ph = s.ph := rfl
@[simp] theorem dropJob_mi (id : Nat) : (s.dropJob id).mi = s.mi := rfl
@[simp] theorem dropJob_fi (id : Nat) : (s.dropJob id).fi = s.fi := rfl
@[simp] theorem dropJob_hb (id : Nat) : (s.dropJob id).hb = s.hb := rfl

/-! `enqueue` touches `seq` alone. -/

@[simp] theorem enqueue_pending (o : DieOp) : (s.enqueue o).pending = s.pending := rfl
@[simp] theorem enqueue_regs (o : DieOp) : (s.enqueue o).regs = s.regs := rfl
@[simp] theorem enqueue_freeCtr (o : DieOp) : (s.enqueue o).freeCtr = s.freeCtr := rfl
@[simp] theorem enqueue_out (o : DieOp) : (s.enqueue o).out = s.out := rfl
@[simp] theorem enqueue_fuses (o : DieOp) : (s.enqueue o).fuses = s.fuses := rfl
@[simp] theorem enqueue_bnd (o : DieOp) : (s.enqueue o).bnd = s.bnd := rfl
@[simp] theorem enqueue_mode (o : DieOp) : (s.enqueue o).mode = s.mode := rfl
@[simp] theorem enqueue_sec (o : DieOp) : (s.enqueue o).sec = s.sec := rfl
@[simp] theorem enqueue_img (o : DieOp) : (s.enqueue o).img = s.img := rfl
@[simp] theorem enqueue_ntc (o : DieOp) : (s.enqueue o).ntc = s.ntc := rfl
@[simp] theorem enqueue_pm (o : DieOp) : (s.enqueue o).pm = s.pm := rfl
@[simp] theorem enqueue_q (o : DieOp) : (s.enqueue o).q = s.q := rfl
@[simp] theorem enqueue_descs (o : DieOp) : (s.enqueue o).descs = s.descs := rfl
@[simp] theorem enqueue_rc (o : DieOp) : (s.enqueue o).rc = s.rc := rfl
@[simp] theorem enqueue_so (o : DieOp) : (s.enqueue o).so = s.so := rfl
@[simp] theorem enqueue_ph (o : DieOp) : (s.enqueue o).ph = s.ph := rfl
@[simp] theorem enqueue_mi (o : DieOp) : (s.enqueue o).mi = s.mi := rfl
@[simp] theorem enqueue_fi (o : DieOp) : (s.enqueue o).fi = s.fi := rfl
@[simp] theorem enqueue_hb (o : DieOp) : (s.enqueue o).hb = s.hb := rfl

/-! `setDesc` touches `descs` alone. -/

@[simp] theorem setDesc_pending (d : Desc) : (s.setDesc d).pending = s.pending := rfl
@[simp] theorem setDesc_regs (d : Desc) : (s.setDesc d).regs = s.regs := rfl
@[simp] theorem setDesc_freeCtr (d : Desc) : (s.setDesc d).freeCtr = s.freeCtr := rfl
@[simp] theorem setDesc_out (d : Desc) : (s.setDesc d).out = s.out := rfl
@[simp] theorem setDesc_fuses (d : Desc) : (s.setDesc d).fuses = s.fuses := rfl
@[simp] theorem setDesc_bnd (d : Desc) : (s.setDesc d).bnd = s.bnd := rfl
@[simp] theorem setDesc_mode (d : Desc) : (s.setDesc d).mode = s.mode := rfl
@[simp] theorem setDesc_sec (d : Desc) : (s.setDesc d).sec = s.sec := rfl
@[simp] theorem setDesc_img (d : Desc) : (s.setDesc d).img = s.img := rfl
@[simp] theorem setDesc_ntc (d : Desc) : (s.setDesc d).ntc = s.ntc := rfl
@[simp] theorem setDesc_pm (d : Desc) : (s.setDesc d).pm = s.pm := rfl
@[simp] theorem setDesc_q (d : Desc) : (s.setDesc d).q = s.q := rfl
@[simp] theorem setDesc_seq (d : Desc) : (s.setDesc d).seq = s.seq := rfl
@[simp] theorem setDesc_rc (d : Desc) : (s.setDesc d).rc = s.rc := rfl
@[simp] theorem setDesc_so (d : Desc) : (s.setDesc d).so = s.so := rfl
@[simp] theorem setDesc_ph (d : Desc) : (s.setDesc d).ph = s.ph := rfl
@[simp] theorem setDesc_mi (d : Desc) : (s.setDesc d).mi = s.mi := rfl
@[simp] theorem setDesc_fi (d : Desc) : (s.setDesc d).fi = s.fi := rfl
@[simp] theorem setDesc_hb (d : Desc) : (s.setDesc d).hb = s.hb := rfl

/-! `wordsRewritten` touches `mi` alone. -/

@[simp] theorem wordsRewritten_pending (a n : Nat) : (s.wordsRewritten a n).pending = s.pending := rfl
@[simp] theorem wordsRewritten_regs (a n : Nat) : (s.wordsRewritten a n).regs = s.regs := rfl
@[simp] theorem wordsRewritten_freeCtr (a n : Nat) : (s.wordsRewritten a n).freeCtr = s.freeCtr := rfl
@[simp] theorem wordsRewritten_out (a n : Nat) : (s.wordsRewritten a n).out = s.out := rfl
@[simp] theorem wordsRewritten_fuses (a n : Nat) : (s.wordsRewritten a n).fuses = s.fuses := rfl
@[simp] theorem wordsRewritten_bnd (a n : Nat) : (s.wordsRewritten a n).bnd = s.bnd := rfl
@[simp] theorem wordsRewritten_mode (a n : Nat) : (s.wordsRewritten a n).mode = s.mode := rfl
@[simp] theorem wordsRewritten_sec (a n : Nat) : (s.wordsRewritten a n).sec = s.sec := rfl
@[simp] theorem wordsRewritten_img (a n : Nat) : (s.wordsRewritten a n).img = s.img := rfl
@[simp] theorem wordsRewritten_ntc (a n : Nat) : (s.wordsRewritten a n).ntc = s.ntc := rfl
@[simp] theorem wordsRewritten_pm (a n : Nat) : (s.wordsRewritten a n).pm = s.pm := rfl
@[simp] theorem wordsRewritten_q (a n : Nat) : (s.wordsRewritten a n).q = s.q := rfl
@[simp] theorem wordsRewritten_descs (a n : Nat) : (s.wordsRewritten a n).descs = s.descs := rfl
@[simp] theorem wordsRewritten_seq (a n : Nat) : (s.wordsRewritten a n).seq = s.seq := rfl
@[simp] theorem wordsRewritten_rc (a n : Nat) : (s.wordsRewritten a n).rc = s.rc := rfl
@[simp] theorem wordsRewritten_so (a n : Nat) : (s.wordsRewritten a n).so = s.so := rfl
@[simp] theorem wordsRewritten_ph (a n : Nat) : (s.wordsRewritten a n).ph = s.ph := rfl
@[simp] theorem wordsRewritten_fi (a n : Nat) : (s.wordsRewritten a n).fi = s.fi := rfl
@[simp] theorem wordsRewritten_hb (a n : Nat) : (s.wordsRewritten a n).hb = s.hb := rfl

/-! `wordsKept` touches `mi` alone. -/

@[simp] theorem wordsKept_pending (w : Nat) : (s.wordsKept w).pending = s.pending := rfl
@[simp] theorem wordsKept_regs (w : Nat) : (s.wordsKept w).regs = s.regs := rfl
@[simp] theorem wordsKept_freeCtr (w : Nat) : (s.wordsKept w).freeCtr = s.freeCtr := rfl
@[simp] theorem wordsKept_out (w : Nat) : (s.wordsKept w).out = s.out := rfl
@[simp] theorem wordsKept_fuses (w : Nat) : (s.wordsKept w).fuses = s.fuses := rfl
@[simp] theorem wordsKept_bnd (w : Nat) : (s.wordsKept w).bnd = s.bnd := rfl
@[simp] theorem wordsKept_mode (w : Nat) : (s.wordsKept w).mode = s.mode := rfl
@[simp] theorem wordsKept_sec (w : Nat) : (s.wordsKept w).sec = s.sec := rfl
@[simp] theorem wordsKept_img (w : Nat) : (s.wordsKept w).img = s.img := rfl
@[simp] theorem wordsKept_ntc (w : Nat) : (s.wordsKept w).ntc = s.ntc := rfl
@[simp] theorem wordsKept_pm (w : Nat) : (s.wordsKept w).pm = s.pm := rfl
@[simp] theorem wordsKept_q (w : Nat) : (s.wordsKept w).q = s.q := rfl
@[simp] theorem wordsKept_descs (w : Nat) : (s.wordsKept w).descs = s.descs := rfl
@[simp] theorem wordsKept_seq (w : Nat) : (s.wordsKept w).seq = s.seq := rfl
@[simp] theorem wordsKept_rc (w : Nat) : (s.wordsKept w).rc = s.rc := rfl
@[simp] theorem wordsKept_so (w : Nat) : (s.wordsKept w).so = s.so := rfl
@[simp] theorem wordsKept_ph (w : Nat) : (s.wordsKept w).ph = s.ph := rfl
@[simp] theorem wordsKept_fi (w : Nat) : (s.wordsKept w).fi = s.fi := rfl
@[simp] theorem wordsKept_hb (w : Nat) : (s.wordsKept w).hb = s.hb := rfl

/-! ### What a part of the state looks through -/

@[simp] theorem getR_mk (a0 : List Instr) (a2 : Nat) (a3 : List Output) (a4 : Fuses) (a5 : Bnd) (a6 : ModeCtl) (a7 : Sec) (a8 : Img) (a9 : Ntc) (a10 : Pm) (a11 : Qe) (a12 : List Desc) (a13 : Seq) (a14 : Rc) (a15 : So) (a16 : Ph) (a17 : Mi) (a18 : Fi) (a19 : Hb) (off : Nat) :
    State.getR ⟨a0, s.regs, a2, a3, a4, a5, a6, a7, a8, a9, a10, a11, a12, a13, a14, a15, a16, a17, a18, a19⟩ off = s.getR off := rfl

@[simp] theorem getF_mk (a0 : List Instr) (a2 : Nat) (a3 : List Output) (a4 : Fuses) (a5 : Bnd) (a6 : ModeCtl) (a7 : Sec) (a8 : Img) (a9 : Ntc) (a10 : Pm) (a11 : Qe) (a12 : List Desc) (a13 : Seq) (a14 : Rc) (a15 : So) (a16 : Ph) (a17 : Mi) (a18 : Fi) (a19 : Hb) (f : Field) :
    State.getF ⟨a0, s.regs, a2, a3, a4, a5, a6, a7, a8, a9, a10, a11, a12, a13, a14, a15, a16, a17, a18, a19⟩ f = s.getF f := rfl

@[simp] theorem getBit_mk (a0 : List Instr) (a2 : Nat) (a3 : List Output) (a4 : Fuses) (a5 : Bnd) (a6 : ModeCtl) (a7 : Sec) (a8 : Img) (a9 : Ntc) (a10 : Pm) (a11 : Qe) (a12 : List Desc) (a13 : Seq) (a14 : Rc) (a15 : So) (a16 : Ph) (a17 : Mi) (a18 : Fi) (a19 : Hb) (base i : Nat) :
    State.getBit ⟨a0, s.regs, a2, a3, a4, a5, a6, a7, a8, a9, a10, a11, a12, a13, a14, a15, a16, a17, a18, a19⟩ base i = s.getBit base i := rfl

@[simp] theorem die_mk (a0 : List Instr) (a1 : Tbl W32) (a2 : Nat) (a3 : List Output) (a4 : Fuses) (a5 : Bnd) (a6 : ModeCtl) (a7 : Sec) (a8 : Img) (a9 : Ntc) (a10 : Pm) (a11 : Qe) (a12 : List Desc) (a14 : Rc) (a15 : So) (a16 : Ph) (a17 : Mi) (a18 : Fi) (a19 : Hb) (k : Nat) :
    State.die ⟨a0, a1, a2, a3, a4, a5, a6, a7, a8, a9, a10, a11, a12, s.seq, a14, a15, a16, a17, a18, a19⟩ k = s.die k := rfl

@[simp] theorem route_mk (a0 : List Instr) (a1 : Tbl W32) (a2 : Nat) (a3 : List Output) (a4 : Fuses) (a5 : Bnd) (a6 : ModeCtl) (a7 : Sec) (a8 : Img) (a9 : Ntc) (a10 : Pm) (a11 : Qe) (a12 : List Desc) (a14 : Rc) (a15 : So) (a16 : Ph) (a17 : Mi) (a18 : Fi) (a19 : Hb) (r : Nat) :
    State.route ⟨a0, a1, a2, a3, a4, a5, a6, a7, a8, a9, a10, a11, a12, s.seq, a14, a15, a16, a17, a18, a19⟩ r = s.route r := rfl

@[simp] theorem core_mk (a0 : List Instr) (a1 : Tbl W32) (a2 : Nat) (a3 : List Output) (a4 : Fuses) (a5 : Bnd) (a6 : ModeCtl) (a7 : Sec) (a8 : Img) (a10 : Pm) (a11 : Qe) (a12 : List Desc) (a13 : Seq) (a14 : Rc) (a15 : So) (a16 : Ph) (a17 : Mi) (a18 : Fi) (a19 : Hb) (c : Nat) :
    State.core ⟨a0, a1, a2, a3, a4, a5, a6, a7, a8, s.ntc, a10, a11, a12, a13, a14, a15, a16, a17, a18, a19⟩ c = s.core c := rfl

@[simp] theorem line_mk (a0 : List Instr) (a1 : Tbl W32) (a2 : Nat) (a3 : List Output) (a4 : Fuses) (a5 : Bnd) (a6 : ModeCtl) (a7 : Sec) (a8 : Img) (a9 : Ntc) (a10 : Pm) (a11 : Qe) (a12 : List Desc) (a13 : Seq) (a14 : Rc) (a15 : So) (a17 : Mi) (a18 : Fi) (a19 : Hb) (st w : Nat) :
    State.line ⟨a0, a1, a2, a3, a4, a5, a6, a7, a8, a9, a10, a11, a12, a13, a14, a15, s.ph, a17, a18, a19⟩ st w = s.line st w := rfl

@[simp] theorem descQ_mk (a0 : List Instr) (a1 : Tbl W32) (a2 : Nat) (a3 : List Output) (a4 : Fuses) (a5 : Bnd) (a6 : ModeCtl) (a7 : Sec) (a8 : Img) (a9 : Ntc) (a10 : Pm) (a11 : Qe) (a13 : Seq) (a14 : Rc) (a15 : So) (a16 : Ph) (a17 : Mi) (a18 : Fi) (a19 : Hb) (id : Nat) :
    State.desc? ⟨a0, a1, a2, a3, a4, a5, a6, a7, a8, a9, a10, a11, s.descs, a13, a14, a15, a16, a17, a18, a19⟩ id = s.desc? id := rfl

@[simp] theorem jobQ_mk (a0 : List Instr) (a1 : Tbl W32) (a2 : Nat) (a3 : List Output) (a4 : Fuses) (a5 : Bnd) (a6 : ModeCtl) (a7 : Sec) (a8 : Img) (a9 : Ntc) (a10 : Pm) (a11 : Qe) (a12 : List Desc) (a14 : Rc) (a15 : So) (a16 : Ph) (a17 : Mi) (a18 : Fi) (a19 : Hb) (id : Nat) :
    State.job? ⟨a0, a1, a2, a3, a4, a5, a6, a7, a8, a9, a10, a11, a12, s.seq, a14, a15, a16, a17, a18, a19⟩ id = s.job? id := rfl

/-! ### Registers: read after write -/

/-- A register reads as written. -/
@[simp] theorem getR_setR_same (off : Nat) (w : W32) : (s.setR off w).getR off = w := tget_tset_same _ _ _ _

/-- Every other register keeps its value. -/
theorem getR_setR_ne {off off' : Nat} (w : W32) (h : off' ≠ off) : (s.setR off w).getR off' = s.getR off' := tget_tset_ne _ _ _ h

/-- A field of another register keeps its value. -/
theorem getF_setR_ne {off : Nat} {f : Field} (w : W32) (h : f.off ≠ off) : (s.setR off w).getF f = s.getF f := by
  simp only [State.getF, getR_setR_ne s w h]

/-- A field of a register written whole. -/
theorem getF_setR_same (f : Field) (w : W32) : (s.setR f.off w).getF f = bits w.toNat f.lo f.width := by
  simp only [State.getF, getR_setR_same]

/-- A field write leaves the other registers alone. -/
theorem getR_setF_ne {off : Nat} {f : Field} (v : Nat) (h : off ≠ f.off) : (s.setF f v).getR off = s.getR off :=
  getR_setR_ne s _ h

/-- A field reads as written. -/
theorem getF_setF_same (f : Field) (v : Nat) (h : f.lo + f.width ≤ 32) : (s.setF f v).getF f = v % 2 ^ f.width := by
  simp only [State.getF, State.setF, getR_setR_same, BitVec.toNat_ofNat]
  rw [Nat.mod_eq_of_lt (setBits_lt _ _ _ _ (s.getR f.off).isLt h), bits_setBits_same]

/-- A field beside the one written, in the same register or another, keeps its value. -/
theorem getF_setF_ne {f g : Field} (v : Nat) (h : g.off ≠ f.off ∨ g.lo + g.width ≤ f.lo ∨ f.lo + f.width ≤ g.lo)
    (hf : f.lo + f.width ≤ 32) : (s.setF f v).getF g = s.getF g := by
  by_cases ho : g.off = f.off
  · rcases h with h | h
    · exact absurd ho h
    · simp only [State.getF, State.setF, ho, getR_setR_same, BitVec.toNat_ofNat]
      rw [Nat.mod_eq_of_lt (setBits_lt _ _ _ _ (s.getR f.off).isLt hf), bits_setBits_ne _ _ _ _ _ _ h]
  · exact getF_setR_ne s _ ho

/-- A field is below its power of two. -/
theorem getF_lt (f : Field) : s.getF f < 2 ^ f.width := bits_lt _ _ _

/-- A counted event. -/
@[simp] theorem getR_bump_same (off : Nat) : (s.bump off).getR off = s.getR off + 1 := getR_setR_same _ _ _

theorem getR_bump_ne {off off' : Nat} (h : off' ≠ off) : (s.bump off).getR off' = s.getR off' := getR_setR_ne s _ h

theorem getF_bump_ne {off : Nat} {f : Field} (h : f.off ≠ off) : (s.bump off).getF f = s.getF f := getF_setR_ne s _ h

theorem getR_bumpBy_ne {off off' n : Nat} (h : off' ≠ off) : (s.bumpBy off n).getR off' = s.getR off' := getR_setR_ne s _ h

theorem getF_bumpBy_ne {off n : Nat} {f : Field} (h : f.off ≠ off) : (s.bumpBy off n).getF f = s.getF f := getF_setR_ne s _ h

/-- What a value that leaves does to the registers: nothing. -/
@[simp] theorem getR_emit (o : Output) (off : Nat) : (s.emit o).getR off = s.getR off := rfl
@[simp] theorem getF_emit (o : Output) (f : Field) : (s.emit o).getF f = s.getF f := rfl
@[simp] theorem out_emit (o : Output) : (s.emit o).out = s.out ++ [o] := rfl
@[simp] theorem getR_setCore (c : Nat) (k : NtcCore) (off : Nat) : (s.setCore c k).getR off = s.getR off := rfl
@[simp] theorem getF_setCore (c : Nat) (k : NtcCore) (f : Field) : (s.setCore c k).getF f = s.getF f := rfl
@[simp] theorem getR_setDie (k : Nat) (d : Die) (off : Nat) : (s.setDie k d).getR off = s.getR off := rfl
@[simp] theorem getF_setDie (k : Nat) (d : Die) (f : Field) : (s.setDie k d).getF f = s.getF f := rfl
@[simp] theorem getR_setRoute (r : Nat) (x : Route) (off : Nat) : (s.setRoute r x).getR off = s.getR off := rfl
@[simp] theorem getF_setRoute (r : Nat) (x : Route) (f : Field) : (s.setRoute r x).getF f = s.getF f := rfl
@[simp] theorem getR_setDesc (d : Desc) (off : Nat) : (s.setDesc d).getR off = s.getR off := rfl
@[simp] theorem getF_setDesc (d : Desc) (f : Field) : (s.setDesc d).getF f = s.getF f := rfl
@[simp] theorem getF_enqueue (o : DieOp) (f : Field) : (s.enqueue o).getF f = s.getF f := rfl
@[simp] theorem getR_enqueue (o : DieOp) (off : Nat) : (s.enqueue o).getR off = s.getR off := rfl

/-! ### Keyed parts: read after write -/

@[simp] theorem die_setDie_same (k : Nat) (d : Die) : (s.setDie k d).die k = d := tget_tset_same _ _ _ _
theorem die_setDie_ne {k j : Nat} (d : Die) (h : j ≠ k) : (s.setDie k d).die j = s.die j := tget_tset_ne _ _ _ h
@[simp] theorem route_setRoute_same (r : Nat) (x : Route) : (s.setRoute r x).route r = x := tget_tset_same _ _ _ _
theorem route_setRoute_ne {r q : Nat} (x : Route) (h : q ≠ r) : (s.setRoute r x).route q = s.route q := tget_tset_ne _ _ _ h
@[simp] theorem core_setCore_same (c : Nat) (k : NtcCore) : (s.setCore c k).core c = k := tget_tset_same _ _ _ _
theorem core_setCore_ne {c e : Nat} (k : NtcCore) (h : e ≠ c) : (s.setCore c k).core e = s.core e := tget_tset_ne _ _ _ h
@[simp] theorem line_setLine_same (st w : Nat) (l : Line) : (s.setLine st w l).line st w = l := tget_tset_same _ _ _ _

@[simp] theorem die_setR (off : Nat) (w : W32) (k : Nat) : (s.setR off w).die k = s.die k := rfl
@[simp] theorem die_setF (f : Field) (v k : Nat) : (s.setF f v).die k = s.die k := rfl
@[simp] theorem route_setR (off : Nat) (w : W32) (r : Nat) : (s.setR off w).route r = s.route r := rfl
@[simp] theorem route_setF (f : Field) (v r : Nat) : (s.setF f v).route r = s.route r := rfl
@[simp] theorem core_setR (off : Nat) (w : W32) (c : Nat) : (s.setR off w).core c = s.core c := rfl
@[simp] theorem core_setF (f : Field) (v c : Nat) : (s.setF f v).core c = s.core c := rfl

end State
end Sys2Proof.Machine
end

