-- ==== Sys2Proof/Laws/Bits.lean ====
section
/-! SUPPORT. Read-after-write laws of the bit arrays held in registers, and of fields of two array registers. -/

namespace Sys2Proof.Machine
namespace State

variable (s : State)

theorem bits_one_eq (n i : Nat) : bits n i 1 = b2n (bit n i) := by
  unfold bits bit b2n
  rw [Nat.testBit, Nat.shiftRight_eq_div_pow]
  rcases Nat.mod_two_eq_zero_or_one (n / 2 ^ i) with h | h <;> simp [h]

/-- A bit of an array as the one-bit field that holds it. -/
theorem getBit_iff (base i : Nat) : s.getBit base i = true ↔ s.getF ⟨base + 4 * (i / 32 % 32), i % 32, 1⟩ = 1 := by
  unfold State.getBit State.getF
  rw [bits_one_eq]
  cases bit _ _ <;> simp [b2n]

/-- A bit reads as written. -/
@[simp] theorem getBit_setBit_same (base i : Nat) (b : Bool) : (s.setBit base i b).getBit base i = b := by
  rw [Bool.eq_iff_iff, getBit_iff]
  unfold State.setBit
  rw [getF_setF_same _ _ _ (by show i % 32 + 1 ≤ 32; omega)]
  cases b <;> simp [b2n]

/-- Another bit of the same array keeps its value. -/
theorem getBit_setBit_ne {base i j : Nat} (b : Bool) (h : j % 1024 ≠ i % 1024) : (s.setBit base i b).getBit base j = s.getBit base j := by
  rw [Bool.eq_iff_iff, getBit_iff, getBit_iff]
  unfold State.setBit
  rw [getF_setF_ne]
  · show base + 4 * (j / 32 % 32) ≠ base + 4 * (i / 32 % 32) ∨ j % 32 + 1 ≤ i % 32 ∨ i % 32 + 1 ≤ j % 32
    omega
  · show i % 32 + 1 ≤ 32
    omega

/-- A bit of another array keeps its value. -/
theorem getBit_setBit_far {base base' i j : Nat} (b : Bool) (h : base' + 124 < base ∨ base + 124 < base') :
    (s.setBit base i b).getBit base' j = s.getBit base' j := by
  unfold State.getBit State.setBit
  rw [getR_setF_ne]
  show base' + 4 * (j / 32 % 32) ≠ base + 4 * (i / 32 % 32)
  omega

/-- A bit of another array of 256 bits keeps its value. -/
theorem getBit_setBit_apart {base base' i j : Nat} (b : Bool) (h : base' + 28 < base ∨ base + 28 < base') (hi : i < 256) (hj : j < 256) :
    (s.setBit base i b).getBit base' j = s.getBit base' j := by
  unfold State.getBit State.setBit
  rw [getR_setF_ne]
  show base' + 4 * (j / 32 % 32) ≠ base + 4 * (i / 32 % 32)
  omega

/-- A bit of an array that does not hold the register written keeps its value. -/
theorem getBit_setR_ne {base off i : Nat} (w : W32) (h : off < base ∨ base + 124 < off) : (s.setR off w).getBit base i = s.getBit base i := by
  unfold State.getBit
  rw [getR_setR_ne]
  omega

end State
end Sys2Proof.Machine
end

