-- ==== Sys2Proof/Laws/Groups.lean ====
section
/-! SUPPORT. The group of every register of an array and of its fields. -/

namespace Sys2Proof.Machine

@[simp] theorem regGroup_IMG_DIGEST (i : Nat) : regGroup (R.IMG_DIGEST i) = 1 := by
  unfold regGroup R.IMG_DIGEST; split <;> (try split) <;> (try split) <;> (try split) <;> omega

@[simp] theorem regGroup_NTC_EOI (i : Nat) : regGroup (R.NTC_EOI i) = 2 := by
  unfold regGroup R.NTC_EOI; split <;> (try split) <;> (try split) <;> (try split) <;> omega

@[simp] theorem regGroup_NTC_CORE (i : Nat) : regGroup (R.NTC_CORE i) = 2 := by
  unfold regGroup R.NTC_CORE; split <;> (try split) <;> (try split) <;> (try split) <;> omega

@[simp] theorem regGroup_NTC_PEND (i : Nat) : regGroup (R.NTC_PEND i) = 2 := by
  unfold regGroup R.NTC_PEND; split <;> (try split) <;> (try split) <;> (try split) <;> omega

@[simp] theorem regGroup_NTC_MASK (i : Nat) : regGroup (R.NTC_MASK i) = 2 := by
  unfold regGroup R.NTC_MASK; split <;> (try split) <;> (try split) <;> (try split) <;> omega

@[simp] theorem regGroup_NTC_ACTIVE (i : Nat) : regGroup (R.NTC_ACTIVE i) = 2 := by
  unfold regGroup R.NTC_ACTIVE; split <;> (try split) <;> (try split) <;> (try split) <;> omega

@[simp] theorem regGroup_NTC_MOD (g : Nat) : regGroup (R.NTC_MOD g) = 2 := by
  unfold regGroup R.NTC_MOD; split <;> (try split) <;> (try split) <;> (try split) <;> omega

@[simp] theorem regGroup_NTC_ISRC (i : Nat) : regGroup (R.NTC_ISRC i) = 2 := by
  unfold regGroup R.NTC_ISRC; split <;> (try split) <;> (try split) <;> (try split) <;> omega

@[simp] theorem regGroup_NTC_LSRC (s : Nat) : regGroup (R.NTC_LSRC s) = 2 := by
  unfold regGroup R.NTC_LSRC; split <;> (try split) <;> (try split) <;> (try split) <;> omega

@[simp] theorem regGroup_NTC_LOST (i : Nat) : regGroup (R.NTC_LOST i) = 2 := by
  unfold regGroup R.NTC_LOST; split <;> (try split) <;> (try split) <;> (try split) <;> omega

@[simp] theorem regGroup_NTF_SRC (i : Nat) : regGroup (R.NTF_SRC i) = 3 := by
  unfold regGroup R.NTF_SRC; split <;> (try split) <;> (try split) <;> (try split) <;> omega

@[simp] theorem regGroup_NTF_EOI (i : Nat) : regGroup (R.NTF_EOI i) = 3 := by
  unfold regGroup R.NTF_EOI; split <;> (try split) <;> (try split) <;> (try split) <;> omega

@[simp] theorem regGroup_NTF_FAULT (i : Nat) : regGroup (R.NTF_FAULT i) = 3 := by
  unfold regGroup R.NTF_FAULT; split <;> (try split) <;> (try split) <;> (try split) <;> omega

@[simp] theorem regGroup_PM_PEER_LO (i : Nat) : regGroup (R.PM_PEER_LO i) = 5 := by
  unfold regGroup R.PM_PEER_LO; split <;> (try split) <;> (try split) <;> (try split) <;> omega

@[simp] theorem regGroup_PM_PEER_HI (i : Nat) : regGroup (R.PM_PEER_HI i) = 5 := by
  unfold regGroup R.PM_PEER_HI; split <;> (try split) <;> (try split) <;> (try split) <;> omega

@[simp] theorem regGroup_Q_STOPPED (i : Nat) : regGroup (R.Q_STOPPED i) = 6 := by
  unfold regGroup R.Q_STOPPED; split <;> (try split) <;> (try split) <;> (try split) <;> omega

@[simp] theorem regGroup_Q_CQ_FAULT (i : Nat) : regGroup (R.Q_CQ_FAULT i) = 6 := by
  unfold regGroup R.Q_CQ_FAULT; split <;> (try split) <;> (try split) <;> (try split) <;> omega

@[simp] theorem regGroup_MI_MACRO_LOG (i : Nat) : regGroup (R.MI_MACRO_LOG i) = 7 := by
  unfold regGroup R.MI_MACRO_LOG; split <;> (try split) <;> (try split) <;> (try split) <;> omega

@[simp] theorem regGroup_MI_FWD (i : Nat) : regGroup (R.MI_FWD i) = 7 := by
  unfold regGroup R.MI_FWD; split <;> (try split) <;> (try split) <;> (try split) <;> omega

@[simp] theorem regGroup_FI_STALE (i : Nat) : regGroup (R.FI_STALE i) = 8 := by
  unfold regGroup R.FI_STALE; split <;> (try split) <;> (try split) <;> (try split) <;> omega

@[simp] theorem regGroup_FI_COA_A (i : Nat) : regGroup (R.FI_COA_A i) = 8 := by
  unfold regGroup R.FI_COA_A; split <;> (try split) <;> (try split) <;> (try split) <;> omega

@[simp] theorem regGroup_FI_COA_B (i : Nat) : regGroup (R.FI_COA_B i) = 8 := by
  unfold regGroup R.FI_COA_B; split <;> (try split) <;> (try split) <;> (try split) <;> omega

@[simp] theorem regGroup_FI_REC_LOG (i : Nat) : regGroup (R.FI_REC_LOG i) = 8 := by
  unfold regGroup R.FI_REC_LOG; split <;> (try split) <;> (try split) <;> (try split) <;> omega

@[simp] theorem regGroup_RC_CELL (i : Nat) : regGroup (R.RC_CELL i) = 9 := by
  unfold regGroup R.RC_CELL; split <;> (try split) <;> (try split) <;> (try split) <;> omega

@[simp] theorem regGroup_RC_CAL_VIEW (i : Nat) : regGroup (R.RC_CAL_VIEW i) = 9 := by
  unfold regGroup R.RC_CAL_VIEW; split <;> (try split) <;> (try split) <;> (try split) <;> omega

@[simp] theorem regGroup_RC_DRIFT_VIEW (i : Nat) : regGroup (R.RC_DRIFT_VIEW i) = 9 := by
  unfold regGroup R.RC_DRIFT_VIEW; split <;> (try split) <;> (try split) <;> (try split) <;> omega

@[simp] theorem regGroup_RC_CORE_FAIL (i : Nat) : regGroup (R.RC_CORE_FAIL i) = 9 := by
  unfold regGroup R.RC_CORE_FAIL; split <;> (try split) <;> (try split) <;> (try split) <;> omega

@[simp] theorem regGroup_RC_LLR_X (i : Nat) : regGroup (R.RC_LLR_X i) = 9 := by
  unfold regGroup R.RC_LLR_X; split <;> (try split) <;> (try split) <;> (try split) <;> omega

@[simp] theorem regGroup_SO_LANE_FAIL (i : Nat) : regGroup (R.SO_LANE_FAIL i) = 10 := by
  unfold regGroup R.SO_LANE_FAIL; split <;> (try split) <;> (try split) <;> (try split) <;> omega

@[simp] theorem regGroup_SO_FLOOR (i : Nat) : regGroup (R.SO_FLOOR i) = 10 := by
  unfold regGroup R.SO_FLOOR; split <;> (try split) <;> (try split) <;> (try split) <;> omega

@[simp] theorem regGroup_SEAL_LIVE (i : Nat) : regGroup (R.SEAL_LIVE i) = 11 := by
  unfold regGroup R.SEAL_LIVE; split <;> (try split) <;> (try split) <;> (try split) <;> omega

@[simp] theorem regGroup_PWR_AGING (i : Nat) : regGroup (R.PWR_AGING i) = 12 := by
  unfold regGroup R.PWR_AGING; split <;> (try split) <;> (try split) <;> (try split) <;> omega

@[simp] theorem regGroup_DBG_NONCE (i : Nat) : regGroup (R.DBG_NONCE i) = 13 := by
  unfold regGroup R.DBG_NONCE; split <;> (try split) <;> (try split) <;> (try split) <;> omega

@[simp] theorem regGroup_DBG_WIN_DATA (i : Nat) : regGroup (R.DBG_WIN_DATA i) = 13 := by
  unfold regGroup R.DBG_WIN_DATA; split <;> (try split) <;> (try split) <;> (try split) <;> omega

@[simp] theorem regGroup_RT_CTRL (r : Nat) : regGroup (R.RT_CTRL r) = 17 := by
  unfold regGroup R.RT_CTRL; split <;> (try split) <;> (try split) <;> (try split) <;> omega

@[simp] theorem regGroup_RT_STATUS (r : Nat) : regGroup (R.RT_STATUS r) = 14 := by
  unfold regGroup R.RT_STATUS; split <;> (try split) <;> (try split) <;> (try split) <;> omega

@[simp] theorem regGroup_RT_EVENT (r : Nat) : regGroup (R.RT_EVENT r) = 17 := by
  unfold regGroup R.RT_EVENT; split <;> (try split) <;> (try split) <;> (try split) <;> omega

@[simp] theorem regGroup_RT_EVENT_EN (r : Nat) : regGroup (R.RT_EVENT_EN r) = 17 := by
  unfold regGroup R.RT_EVENT_EN; split <;> (try split) <;> (try split) <;> (try split) <;> omega

@[simp] theorem regGroup_RT_POLL (r : Nat) : regGroup (R.RT_POLL r) = 17 := by
  unfold regGroup R.RT_POLL; split <;> (try split) <;> (try split) <;> (try split) <;> omega

@[simp] theorem regGroup_RT_VCMD (r : Nat) : regGroup (R.RT_VCMD r) = 17 := by
  unfold regGroup R.RT_VCMD; split <;> (try split) <;> (try split) <;> (try split) <;> omega

@[simp] theorem regGroup_RT_DIE (r i : Nat) : regGroup (R.RT_DIE r i) = 17 := by
  unfold regGroup R.RT_DIE; split <;> (try split) <;> (try split) <;> (try split) <;> omega

@[simp] theorem regGroup_RT_CNT_READ (r : Nat) : regGroup (R.RT_CNT_READ r) = 17 := by
  unfold regGroup R.RT_CNT_READ; split <;> (try split) <;> (try split) <;> (try split) <;> omega

@[simp] theorem regGroup_RT_CNT_MPLANE (r : Nat) : regGroup (R.RT_CNT_MPLANE r) = 17 := by
  unfold regGroup R.RT_CNT_MPLANE; split <;> (try split) <;> (try split) <;> (try split) <;> omega

@[simp] theorem regGroup_RT_CNT_CACHE (r : Nat) : regGroup (R.RT_CNT_CACHE r) = 17 := by
  unfold regGroup R.RT_CNT_CACHE; split <;> (try split) <;> (try split) <;> (try split) <;> omega

@[simp] theorem regGroup_RT_CNT_PROGRAM (r : Nat) : regGroup (R.RT_CNT_PROGRAM r) = 17 := by
  unfold regGroup R.RT_CNT_PROGRAM; split <;> (try split) <;> (try split) <;> (try split) <;> omega

@[simp] theorem regGroup_RT_CNT_ERASE (r : Nat) : regGroup (R.RT_CNT_ERASE r) = 17 := by
  unfold regGroup R.RT_CNT_ERASE; split <;> (try split) <;> (try split) <;> (try split) <;> omega

@[simp] theorem regGroup_RT_CNT_SUSPEND (r : Nat) : regGroup (R.RT_CNT_SUSPEND r) = 17 := by
  unfold regGroup R.RT_CNT_SUSPEND; split <;> (try split) <;> (try split) <;> (try split) <;> omega

@[simp] theorem regGroup_RT_CNT_PARKED (r : Nat) : regGroup (R.RT_CNT_PARKED r) = 17 := by
  unfold regGroup R.RT_CNT_PARKED; split <;> (try split) <;> (try split) <;> (try split) <;> omega

@[simp] theorem regGroup_RT_SEQ_X (r : Nat) : regGroup (R.RT_SEQ_X r) = 17 := by
  unfold regGroup R.RT_SEQ_X; split <;> (try split) <;> (try split) <;> (try split) <;> omega

@[simp] theorem regGroup_RT_PHY_CTRL (r : Nat) : regGroup (R.RT_PHY_CTRL r) = 15 := by
  unfold regGroup R.RT_PHY_CTRL; split <;> (try split) <;> (try split) <;> (try split) <;> omega

@[simp] theorem regGroup_RT_PHY_STATUS (r : Nat) : regGroup (R.RT_PHY_STATUS r) = 15 := by
  unfold regGroup R.RT_PHY_STATUS; split <;> (try split) <;> (try split) <;> (try split) <;> omega

@[simp] theorem regGroup_RT_PHY_EVENT (r : Nat) : regGroup (R.RT_PHY_EVENT r) = 15 := by
  unfold regGroup R.RT_PHY_EVENT; split <;> (try split) <;> (try split) <;> (try split) <;> omega

@[simp] theorem regGroup_RT_XRATE (r : Nat) : regGroup (R.RT_XRATE r) = 15 := by
  unfold regGroup R.RT_XRATE; split <;> (try split) <;> (try split) <;> (try split) <;> omega

@[simp] theorem regGroup_RT_TRAIN_ERR (r : Nat) : regGroup (R.RT_TRAIN_ERR r) = 15 := by
  unfold regGroup R.RT_TRAIN_ERR; split <;> (try split) <;> (try split) <;> (try split) <;> omega

@[simp] theorem regGroup_RT_RECAL (r : Nat) : regGroup (R.RT_RECAL r) = 15 := by
  unfold regGroup R.RT_RECAL; split <;> (try split) <;> (try split) <;> (try split) <;> omega

@[simp] theorem regGroup_RT_LANE (r i : Nat) : regGroup (R.RT_LANE r i) = 15 := by
  unfold regGroup R.RT_LANE; split <;> (try split) <;> (try split) <;> (try split) <;> omega

@[simp] theorem regGroup_RT_DESKEW (r i : Nat) : regGroup (R.RT_DESKEW r i) = 15 := by
  unfold regGroup R.RT_DESKEW; split <;> (try split) <;> (try split) <;> (try split) <;> omega

@[simp] theorem regGroup_RT_PHY_X (r : Nat) : regGroup (R.RT_PHY_X r) = 15 := by
  unfold regGroup R.RT_PHY_X; split <;> (try split) <;> (try split) <;> (try split) <;> omega

@[simp] theorem regGroup_F_IMG_DIGEST_BYTES (i : Nat) : regGroup (F.IMG_DIGEST_BYTES i).off = 1 := regGroup_IMG_DIGEST i

@[simp] theorem regGroup_F_NTC_EOI_SOURCE (i : Nat) : regGroup (F.NTC_EOI_SOURCE i).off = 2 := regGroup_NTC_EOI i

@[simp] theorem regGroup_F_NTC_EOI_MBZ (i : Nat) : regGroup (F.NTC_EOI_MBZ i).off = 2 := regGroup_NTC_EOI i

@[simp] theorem regGroup_F_NTC_CORE_DEPTH (i : Nat) : regGroup (F.NTC_CORE_DEPTH i).off = 2 := regGroup_NTC_CORE i

@[simp] theorem regGroup_F_NTC_CORE_TOP (i : Nat) : regGroup (F.NTC_CORE_TOP i).off = 2 := regGroup_NTC_CORE i

@[simp] theorem regGroup_F_NTC_CORE_LEVEL (i : Nat) : regGroup (F.NTC_CORE_LEVEL i).off = 2 := regGroup_NTC_CORE i

@[simp] theorem regGroup_F_NTC_CORE_FROZEN (i : Nat) : regGroup (F.NTC_CORE_FROZEN i).off = 2 := regGroup_NTC_CORE i

@[simp] theorem regGroup_F_NTC_CORE_IDLE (i : Nat) : regGroup (F.NTC_CORE_IDLE i).off = 2 := regGroup_NTC_CORE i

@[simp] theorem regGroup_F_NTC_CORE_SLEEPING (i : Nat) : regGroup (F.NTC_CORE_SLEEPING i).off = 2 := regGroup_NTC_CORE i

@[simp] theorem regGroup_F_NTC_CORE_PRESENTING (i : Nat) : regGroup (F.NTC_CORE_PRESENTING i).off = 2 := regGroup_NTC_CORE i

@[simp] theorem regGroup_F_NTC_CORE_PRESENTED (i : Nat) : regGroup (F.NTC_CORE_PRESENTED i).off = 2 := regGroup_NTC_CORE i

@[simp] theorem regGroup_F_NTC_PEND_BITS (i : Nat) : regGroup (F.NTC_PEND_BITS i).off = 2 := regGroup_NTC_PEND i

@[simp] theorem regGroup_F_NTC_MASK_BITS (i : Nat) : regGroup (F.NTC_MASK_BITS i).off = 2 := regGroup_NTC_MASK i

@[simp] theorem regGroup_F_NTC_ACTIVE_BITS (i : Nat) : regGroup (F.NTC_ACTIVE_BITS i).off = 2 := regGroup_NTC_ACTIVE i

@[simp] theorem regGroup_F_NTC_MOD_COUNT (i : Nat) : regGroup (F.NTC_MOD_COUNT i).off = 2 := regGroup_NTC_MOD i

@[simp] theorem regGroup_F_NTC_MOD_TIMER (i : Nat) : regGroup (F.NTC_MOD_TIMER i).off = 2 := regGroup_NTC_MOD i

@[simp] theorem regGroup_F_NTC_ISRC_TARGET (i : Nat) : regGroup (F.NTC_ISRC_TARGET i).off = 2 := regGroup_NTC_ISRC i

@[simp] theorem regGroup_F_NTC_ISRC_FAST (i : Nat) : regGroup (F.NTC_ISRC_FAST i).off = 2 := regGroup_NTC_ISRC i

@[simp] theorem regGroup_F_NTC_ISRC_EN (i : Nat) : regGroup (F.NTC_ISRC_EN i).off = 2 := regGroup_NTC_ISRC i

@[simp] theorem regGroup_F_NTC_ISRC_WATCH (i : Nat) : regGroup (F.NTC_ISRC_WATCH i).off = 2 := regGroup_NTC_ISRC i

@[simp] theorem regGroup_F_NTC_ISRC_GROUP (i : Nat) : regGroup (F.NTC_ISRC_GROUP i).off = 2 := regGroup_NTC_ISRC i

@[simp] theorem regGroup_F_NTC_ISRC_PRIO (i : Nat) : regGroup (F.NTC_ISRC_PRIO i).off = 2 := regGroup_NTC_ISRC i

@[simp] theorem regGroup_F_NTC_LSRC_TARGET (i : Nat) : regGroup (F.NTC_LSRC_TARGET i).off = 2 := regGroup_NTC_LSRC i

@[simp] theorem regGroup_F_NTC_LSRC_FAST (i : Nat) : regGroup (F.NTC_LSRC_FAST i).off = 2 := regGroup_NTC_LSRC i

@[simp] theorem regGroup_F_NTC_LSRC_EN (i : Nat) : regGroup (F.NTC_LSRC_EN i).off = 2 := regGroup_NTC_LSRC i

@[simp] theorem regGroup_F_NTC_LSRC_WATCH (i : Nat) : regGroup (F.NTC_LSRC_WATCH i).off = 2 := regGroup_NTC_LSRC i

@[simp] theorem regGroup_F_NTC_LSRC_GROUP (i : Nat) : regGroup (F.NTC_LSRC_GROUP i).off = 2 := regGroup_NTC_LSRC i

@[simp] theorem regGroup_F_NTC_LSRC_PRIO (i : Nat) : regGroup (F.NTC_LSRC_PRIO i).off = 2 := regGroup_NTC_LSRC i

@[simp] theorem regGroup_F_NTC_LOST_COUNT (i : Nat) : regGroup (F.NTC_LOST_COUNT i).off = 2 := regGroup_NTC_LOST i

@[simp] theorem regGroup_F_NTF_SRC_SOURCE (i : Nat) : regGroup (F.NTF_SRC_SOURCE i).off = 3 := regGroup_NTF_SRC i

@[simp] theorem regGroup_F_NTF_SRC_VALID (i : Nat) : regGroup (F.NTF_SRC_VALID i).off = 3 := regGroup_NTF_SRC i

@[simp] theorem regGroup_F_NTF_EOI_SOURCE (i : Nat) : regGroup (F.NTF_EOI_SOURCE i).off = 3 := regGroup_NTF_EOI i

@[simp] theorem regGroup_F_NTF_EOI_MBZ (i : Nat) : regGroup (F.NTF_EOI_MBZ i).off = 3 := regGroup_NTF_EOI i

@[simp] theorem regGroup_F_NTF_FAULT_CAUSE (i : Nat) : regGroup (F.NTF_FAULT_CAUSE i).off = 3 := regGroup_NTF_FAULT i

@[simp] theorem regGroup_F_NTF_FAULT_NAMED (i : Nat) : regGroup (F.NTF_FAULT_NAMED i).off = 3 := regGroup_NTF_FAULT i

@[simp] theorem regGroup_F_NTF_FAULT_TOP (i : Nat) : regGroup (F.NTF_FAULT_TOP i).off = 3 := regGroup_NTF_FAULT i

@[simp] theorem regGroup_F_PM_PEER_LO_EN (i : Nat) : regGroup (F.PM_PEER_LO_EN i).off = 5 := regGroup_PM_PEER_LO i

@[simp] theorem regGroup_F_PM_PEER_LO_ADDR (i : Nat) : regGroup (F.PM_PEER_LO_ADDR i).off = 5 := regGroup_PM_PEER_LO i

@[simp] theorem regGroup_F_PM_PEER_HI_ADDR (i : Nat) : regGroup (F.PM_PEER_HI_ADDR i).off = 5 := regGroup_PM_PEER_HI i

@[simp] theorem regGroup_F_Q_STOPPED_SQ (i : Nat) : regGroup (F.Q_STOPPED_SQ i).off = 6 := regGroup_Q_STOPPED i

@[simp] theorem regGroup_F_Q_CQ_FAULT_CQ (i : Nat) : regGroup (F.Q_CQ_FAULT_CQ i).off = 6 := regGroup_Q_CQ_FAULT i

@[simp] theorem regGroup_F_MI_MACRO_LOG_BANK (i : Nat) : regGroup (F.MI_MACRO_LOG_BANK i).off = 7 := regGroup_MI_MACRO_LOG i

@[simp] theorem regGroup_F_MI_MACRO_LOG_MACRO (i : Nat) : regGroup (F.MI_MACRO_LOG_MACRO i).off = 7 := regGroup_MI_MACRO_LOG i

@[simp] theorem regGroup_F_MI_MACRO_LOG_VALID (i : Nat) : regGroup (F.MI_MACRO_LOG_VALID i).off = 7 := regGroup_MI_MACRO_LOG i

@[simp] theorem regGroup_F_MI_FWD_WORD (i : Nat) : regGroup (F.MI_FWD_WORD i).off = 7 := regGroup_MI_FWD i

@[simp] theorem regGroup_F_MI_FWD_SPARE (i : Nat) : regGroup (F.MI_FWD_SPARE i).off = 7 := regGroup_MI_FWD i

@[simp] theorem regGroup_F_MI_FWD_VALID (i : Nat) : regGroup (F.MI_FWD_VALID i).off = 7 := regGroup_MI_FWD i

@[simp] theorem regGroup_F_FI_STALE_DIES (i : Nat) : regGroup (F.FI_STALE_DIES i).off = 8 := regGroup_FI_STALE i

@[simp] theorem regGroup_F_FI_COA_A_SRC_ROUTE (i : Nat) : regGroup (F.FI_COA_A_SRC_ROUTE i).off = 8 := regGroup_FI_COA_A i

@[simp] theorem regGroup_F_FI_COA_A_SRC_DIE (i : Nat) : regGroup (F.FI_COA_A_SRC_DIE i).off = 8 := regGroup_FI_COA_A i

@[simp] theorem regGroup_F_FI_COA_A_TGT_ROUTE (i : Nat) : regGroup (F.FI_COA_A_TGT_ROUTE i).off = 8 := regGroup_FI_COA_A i

@[simp] theorem regGroup_F_FI_COA_A_TGT_DIE (i : Nat) : regGroup (F.FI_COA_A_TGT_DIE i).off = 8 := regGroup_FI_COA_A i

@[simp] theorem regGroup_F_FI_COA_A_STATE (i : Nat) : regGroup (F.FI_COA_A_STATE i).off = 8 := regGroup_FI_COA_A i

@[simp] theorem regGroup_F_FI_COA_B_BLOCK (i : Nat) : regGroup (F.FI_COA_B_BLOCK i).off = 8 := regGroup_FI_COA_B i

@[simp] theorem regGroup_F_FI_COA_B_LOST (i : Nat) : regGroup (F.FI_COA_B_LOST i).off = 8 := regGroup_FI_COA_B i

@[simp] theorem regGroup_F_FI_REC_LOG_BLOCK (i : Nat) : regGroup (F.FI_REC_LOG_BLOCK i).off = 8 := regGroup_FI_REC_LOG i

@[simp] theorem regGroup_F_FI_REC_LOG_DIE (i : Nat) : regGroup (F.FI_REC_LOG_DIE i).off = 8 := regGroup_FI_REC_LOG i

@[simp] theorem regGroup_F_FI_REC_LOG_ROUTE (i : Nat) : regGroup (F.FI_REC_LOG_ROUTE i).off = 8 := regGroup_FI_REC_LOG i

@[simp] theorem regGroup_F_FI_REC_LOG_KIND (i : Nat) : regGroup (F.FI_REC_LOG_KIND i).off = 8 := regGroup_FI_REC_LOG i

@[simp] theorem regGroup_F_FI_REC_LOG_REERASED (i : Nat) : regGroup (F.FI_REC_LOG_REERASED i).off = 8 := regGroup_FI_REC_LOG i

@[simp] theorem regGroup_F_RC_CELL_TYPE (i : Nat) : regGroup (F.RC_CELL_TYPE i).off = 9 := regGroup_RC_CELL i

@[simp] theorem regGroup_F_RC_CAL_VIEW_BYTES (i : Nat) : regGroup (F.RC_CAL_VIEW_BYTES i).off = 9 := regGroup_RC_CAL_VIEW i

@[simp] theorem regGroup_F_RC_DRIFT_VIEW_DRIFT (i : Nat) : regGroup (F.RC_DRIFT_VIEW_DRIFT i).off = 9 := regGroup_RC_DRIFT_VIEW i

@[simp] theorem regGroup_F_RC_CORE_FAIL_FAILED (i : Nat) : regGroup (F.RC_CORE_FAIL_FAILED i).off = 9 := regGroup_RC_CORE_FAIL i

@[simp] theorem regGroup_F_RC_LLR_X_HARD (i : Nat) : regGroup (F.RC_LLR_X_HARD i).off = 9 := regGroup_RC_LLR_X i

@[simp] theorem regGroup_F_RC_LLR_X_L3 (i : Nat) : regGroup (F.RC_LLR_X_L3 i).off = 9 := regGroup_RC_LLR_X i

@[simp] theorem regGroup_F_RC_LLR_X_L2 (i : Nat) : regGroup (F.RC_LLR_X_L2 i).off = 9 := regGroup_RC_LLR_X i

@[simp] theorem regGroup_F_RC_LLR_X_L1 (i : Nat) : regGroup (F.RC_LLR_X_L1 i).off = 9 := regGroup_RC_LLR_X i

@[simp] theorem regGroup_F_RC_LLR_X_L0 (i : Nat) : regGroup (F.RC_LLR_X_L0 i).off = 9 := regGroup_RC_LLR_X i

@[simp] theorem regGroup_F_SO_LANE_FAIL_FAILED (i : Nat) : regGroup (F.SO_LANE_FAIL_FAILED i).off = 10 := regGroup_SO_LANE_FAIL i

@[simp] theorem regGroup_F_SO_FLOOR_SLOTS (i : Nat) : regGroup (F.SO_FLOOR_SLOTS i).off = 10 := regGroup_SO_FLOOR i

@[simp] theorem regGroup_F_SO_FLOOR_FREE (i : Nat) : regGroup (F.SO_FLOOR_FREE i).off = 10 := regGroup_SO_FLOOR i

@[simp] theorem regGroup_F_SEAL_LIVE_STATES (i : Nat) : regGroup (F.SEAL_LIVE_STATES i).off = 11 := regGroup_SEAL_LIVE i

@[simp] theorem regGroup_F_PWR_AGING_MARGIN (i : Nat) : regGroup (F.PWR_AGING_MARGIN i).off = 12 := regGroup_PWR_AGING i

@[simp] theorem regGroup_F_PWR_AGING_FRESH (i : Nat) : regGroup (F.PWR_AGING_FRESH i).off = 12 := regGroup_PWR_AGING i

@[simp] theorem regGroup_F_DBG_NONCE_BYTES (i : Nat) : regGroup (F.DBG_NONCE_BYTES i).off = 13 := regGroup_DBG_NONCE i

@[simp] theorem regGroup_F_DBG_WIN_DATA_BYTES (i : Nat) : regGroup (F.DBG_WIN_DATA_BYTES i).off = 13 := regGroup_DBG_WIN_DATA i

@[simp] theorem regGroup_F_RT_CTRL_POLL_ONLY (r : Nat) : regGroup (F.RT_CTRL_POLL_ONLY r).off = 17 := regGroup_RT_CTRL r

@[simp] theorem regGroup_F_RT_CTRL_CACHE_EN (r : Nat) : regGroup (F.RT_CTRL_CACHE_EN r).off = 17 := regGroup_RT_CTRL r

@[simp] theorem regGroup_F_RT_CTRL_MULTIPLANE_EN (r : Nat) : regGroup (F.RT_CTRL_MULTIPLANE_EN r).off = 17 := regGroup_RT_CTRL r

@[simp] theorem regGroup_F_RT_STATUS_STATE (r : Nat) : regGroup (F.RT_STATUS_STATE r).off = 14 := regGroup_RT_STATUS r

@[simp] theorem regGroup_F_RT_STATUS_PROTOCOL (r : Nat) : regGroup (F.RT_STATUS_PROTOCOL r).off = 14 := regGroup_RT_STATUS r

@[simp] theorem regGroup_F_RT_STATUS_RBN_FALLBACK (r : Nat) : regGroup (F.RT_STATUS_RBN_FALLBACK r).off = 14 := regGroup_RT_STATUS r

@[simp] theorem regGroup_F_RT_STATUS_WP (r : Nat) : regGroup (F.RT_STATUS_WP r).off = 14 := regGroup_RT_STATUS r

@[simp] theorem regGroup_F_RT_STATUS_FAULT_MASK (r : Nat) : regGroup (F.RT_STATUS_FAULT_MASK r).off = 14 := regGroup_RT_STATUS r

@[simp] theorem regGroup_F_RT_EVENT_TIMEOUT (r : Nat) : regGroup (F.RT_EVENT_TIMEOUT r).off = 17 := regGroup_RT_EVENT r

@[simp] theorem regGroup_F_RT_EVENT_RBN_FAULT (r : Nat) : regGroup (F.RT_EVENT_RBN_FAULT r).off = 17 := regGroup_RT_EVENT r

@[simp] theorem regGroup_F_RT_EVENT_DIE_FAULT (r : Nat) : regGroup (F.RT_EVENT_DIE_FAULT r).off = 17 := regGroup_RT_EVENT r

@[simp] theorem regGroup_F_RT_EVENT_PROTOCOL_ERR (r : Nat) : regGroup (F.RT_EVENT_PROTOCOL_ERR r).off = 17 := regGroup_RT_EVENT r

@[simp] theorem regGroup_F_RT_EVENT_PARAM_MISMATCH (r : Nat) : regGroup (F.RT_EVENT_PARAM_MISMATCH r).off = 17 := regGroup_RT_EVENT r

@[simp] theorem regGroup_F_RT_EVENT_EN_EN (r : Nat) : regGroup (F.RT_EVENT_EN_EN r).off = 17 := regGroup_RT_EVENT_EN r

@[simp] theorem regGroup_F_RT_POLL_FIRST_PCT (r : Nat) : regGroup (F.RT_POLL_FIRST_PCT r).off = 17 := regGroup_RT_POLL r

@[simp] theorem regGroup_F_RT_POLL_INTERVAL (r : Nat) : regGroup (F.RT_POLL_INTERVAL r).off = 17 := regGroup_RT_POLL r

@[simp] theorem regGroup_F_RT_POLL_LONG_INTERVAL (r : Nat) : regGroup (F.RT_POLL_LONG_INTERVAL r).off = 17 := regGroup_RT_POLL r

@[simp] theorem regGroup_F_RT_VCMD_PROG_SUSPEND (r : Nat) : regGroup (F.RT_VCMD_PROG_SUSPEND r).off = 17 := regGroup_RT_VCMD r

@[simp] theorem regGroup_F_RT_VCMD_ERASE_SUSPEND (r : Nat) : regGroup (F.RT_VCMD_ERASE_SUSPEND r).off = 17 := regGroup_RT_VCMD r

@[simp] theorem regGroup_F_RT_VCMD_RESUME (r : Nat) : regGroup (F.RT_VCMD_RESUME r).off = 17 := regGroup_RT_VCMD r

@[simp] theorem regGroup_F_RT_VCMD_THRESH_FA (r : Nat) : regGroup (F.RT_VCMD_THRESH_FA r).off = 17 := regGroup_RT_VCMD r

@[simp] theorem regGroup_F_RT_DIE_STATE (r i : Nat) : regGroup (F.RT_DIE_STATE r i).off = 17 := regGroup_RT_DIE r i

@[simp] theorem regGroup_F_RT_DIE_HELD (r i : Nat) : regGroup (F.RT_DIE_HELD r i).off = 17 := regGroup_RT_DIE r i

@[simp] theorem regGroup_F_RT_DIE_SUSPENDS (r i : Nat) : regGroup (F.RT_DIE_SUSPENDS r i).off = 17 := regGroup_RT_DIE r i

@[simp] theorem regGroup_F_RT_DIE_BLOCK_GROUP (r i : Nat) : regGroup (F.RT_DIE_BLOCK_GROUP r i).off = 17 := regGroup_RT_DIE r i

@[simp] theorem regGroup_F_RT_DIE_TIMEOUTS (r i : Nat) : regGroup (F.RT_DIE_TIMEOUTS r i).off = 17 := regGroup_RT_DIE r i

@[simp] theorem regGroup_F_RT_DIE_FAULT_CAUSE (r i : Nat) : regGroup (F.RT_DIE_FAULT_CAUSE r i).off = 17 := regGroup_RT_DIE r i

@[simp] theorem regGroup_F_RT_CNT_READ_COUNT (r : Nat) : regGroup (F.RT_CNT_READ_COUNT r).off = 17 := regGroup_RT_CNT_READ r

@[simp] theorem regGroup_F_RT_CNT_MPLANE_COUNT (r : Nat) : regGroup (F.RT_CNT_MPLANE_COUNT r).off = 17 := regGroup_RT_CNT_MPLANE r

@[simp] theorem regGroup_F_RT_CNT_CACHE_COUNT (r : Nat) : regGroup (F.RT_CNT_CACHE_COUNT r).off = 17 := regGroup_RT_CNT_CACHE r

@[simp] theorem regGroup_F_RT_CNT_PROGRAM_COUNT (r : Nat) : regGroup (F.RT_CNT_PROGRAM_COUNT r).off = 17 := regGroup_RT_CNT_PROGRAM r

@[simp] theorem regGroup_F_RT_CNT_ERASE_COUNT (r : Nat) : regGroup (F.RT_CNT_ERASE_COUNT r).off = 17 := regGroup_RT_CNT_ERASE r

@[simp] theorem regGroup_F_RT_CNT_SUSPEND_COUNT (r : Nat) : regGroup (F.RT_CNT_SUSPEND_COUNT r).off = 17 := regGroup_RT_CNT_SUSPEND r

@[simp] theorem regGroup_F_RT_CNT_PARKED_COUNT (r : Nat) : regGroup (F.RT_CNT_PARKED_COUNT r).off = 17 := regGroup_RT_CNT_PARKED r

@[simp] theorem regGroup_F_RT_SEQ_X_TMO_MULT (r : Nat) : regGroup (F.RT_SEQ_X_TMO_MULT r).off = 17 := regGroup_RT_SEQ_X r

@[simp] theorem regGroup_F_RT_SEQ_X_MERGE_WAIT (r : Nat) : regGroup (F.RT_SEQ_X_MERGE_WAIT r).off = 17 := regGroup_RT_SEQ_X r

@[simp] theorem regGroup_F_RT_SEQ_X_CACHE_SERIES_MAX (r : Nat) : regGroup (F.RT_SEQ_X_CACHE_SERIES_MAX r).off = 17 := regGroup_RT_SEQ_X r

@[simp] theorem regGroup_F_RT_PHY_CTRL_DOWN_REQ (r : Nat) : regGroup (F.RT_PHY_CTRL_DOWN_REQ r).off = 15 := regGroup_RT_PHY_CTRL r

@[simp] theorem regGroup_F_RT_PHY_CTRL_RECAL_NOW (r : Nat) : regGroup (F.RT_PHY_CTRL_RECAL_NOW r).off = 15 := regGroup_RT_PHY_CTRL r

@[simp] theorem regGroup_F_RT_PHY_CTRL_EVENT_EN (r : Nat) : regGroup (F.RT_PHY_CTRL_EVENT_EN r).off = 15 := regGroup_RT_PHY_CTRL r

@[simp] theorem regGroup_F_RT_PHY_STATUS_RATE (r : Nat) : regGroup (F.RT_PHY_STATUS_RATE r).off = 15 := regGroup_RT_PHY_STATUS r

@[simp] theorem regGroup_F_RT_PHY_STATUS_DFE_ON (r : Nat) : regGroup (F.RT_PHY_STATUS_DFE_ON r).off = 15 := regGroup_RT_PHY_STATUS r

@[simp] theorem regGroup_F_RT_PHY_STATUS_MOD_PRESENT (r : Nat) : regGroup (F.RT_PHY_STATUS_MOD_PRESENT r).off = 15 := regGroup_RT_PHY_STATUS r

@[simp] theorem regGroup_F_RT_PHY_STATUS_VCCQ_GOOD (r : Nat) : regGroup (F.RT_PHY_STATUS_VCCQ_GOOD r).off = 15 := regGroup_RT_PHY_STATUS r

@[simp] theorem regGroup_F_RT_PHY_STATUS_RELIEF_POS (r : Nat) : regGroup (F.RT_PHY_STATUS_RELIEF_POS r).off = 15 := regGroup_RT_PHY_STATUS r

@[simp] theorem regGroup_F_RT_PHY_STATUS_RELIEF_CARRYING (r : Nat) : regGroup (F.RT_PHY_STATUS_RELIEF_CARRYING r).off = 15 := regGroup_RT_PHY_STATUS r

@[simp] theorem regGroup_F_RT_PHY_STATUS_RETIRED (r : Nat) : regGroup (F.RT_PHY_STATUS_RETIRED r).off = 15 := regGroup_RT_PHY_STATUS r

@[simp] theorem regGroup_F_RT_PHY_STATUS_SAFE_TO_REMOVE (r : Nat) : regGroup (F.RT_PHY_STATUS_SAFE_TO_REMOVE r).off = 15 := regGroup_RT_PHY_STATUS r

@[simp] theorem regGroup_F_RT_PHY_STATUS_DOWN_CAUSE (r : Nat) : regGroup (F.RT_PHY_STATUS_DOWN_CAUSE r).off = 15 := regGroup_RT_PHY_STATUS r

@[simp] theorem regGroup_F_RT_PHY_EVENT_LANE_RETIRED (r : Nat) : regGroup (F.RT_PHY_EVENT_LANE_RETIRED r).off = 15 := regGroup_RT_PHY_EVENT r

@[simp] theorem regGroup_F_RT_PHY_EVENT_RECAL_FAIL (r : Nat) : regGroup (F.RT_PHY_EVENT_RECAL_FAIL r).off = 15 := regGroup_RT_PHY_EVENT r

@[simp] theorem regGroup_F_RT_PHY_EVENT_ROUTE_DOWN (r : Nat) : regGroup (F.RT_PHY_EVENT_ROUTE_DOWN r).off = 15 := regGroup_RT_PHY_EVENT r

@[simp] theorem regGroup_F_RT_PHY_EVENT_XRATE_REFUSED (r : Nat) : regGroup (F.RT_PHY_EVENT_XRATE_REFUSED r).off = 15 := regGroup_RT_PHY_EVENT r

@[simp] theorem regGroup_F_RT_PHY_EVENT_MOD_CHANGE (r : Nat) : regGroup (F.RT_PHY_EVENT_MOD_CHANGE r).off = 15 := regGroup_RT_PHY_EVENT r

@[simp] theorem regGroup_F_RT_PHY_EVENT_TRAIN_FAIL (r : Nat) : regGroup (F.RT_PHY_EVENT_TRAIN_FAIL r).off = 15 := regGroup_RT_PHY_EVENT r

@[simp] theorem regGroup_F_RT_XRATE_FA (r : Nat) : regGroup (F.RT_XRATE_FA r).off = 15 := regGroup_RT_XRATE r

@[simp] theorem regGroup_F_RT_XRATE_VALUE (r : Nat) : regGroup (F.RT_XRATE_VALUE r).off = 15 := regGroup_RT_XRATE r

@[simp] theorem regGroup_F_RT_TRAIN_ERR_COUNT (r : Nat) : regGroup (F.RT_TRAIN_ERR_COUNT r).off = 15 := regGroup_RT_TRAIN_ERR r

@[simp] theorem regGroup_F_RT_TRAIN_ERR_LAST (r : Nat) : regGroup (F.RT_TRAIN_ERR_LAST r).off = 15 := regGroup_RT_TRAIN_ERR r

@[simp] theorem regGroup_F_RT_RECAL_PERIOD (r : Nat) : regGroup (F.RT_RECAL_PERIOD r).off = 15 := regGroup_RT_RECAL r

@[simp] theorem regGroup_F_RT_RECAL_TEMP_STEP (r : Nat) : regGroup (F.RT_RECAL_TEMP_STEP r).off = 15 := regGroup_RT_RECAL r

@[simp] theorem regGroup_F_RT_RECAL_LANE (r : Nat) : regGroup (F.RT_RECAL_LANE r).off = 15 := regGroup_RT_RECAL r

@[simp] theorem regGroup_F_RT_RECAL_COUNT (r : Nat) : regGroup (F.RT_RECAL_COUNT r).off = 15 := regGroup_RT_RECAL r

@[simp] theorem regGroup_F_RT_LANE_OFFSET (r i : Nat) : regGroup (F.RT_LANE_OFFSET r i).off = 15 := regGroup_RT_LANE r i

@[simp] theorem regGroup_F_RT_LANE_EYE (r i : Nat) : regGroup (F.RT_LANE_EYE r i).off = 15 := regGroup_RT_LANE r i

@[simp] theorem regGroup_F_RT_LANE_STATE (r i : Nat) : regGroup (F.RT_LANE_STATE r i).off = 15 := regGroup_RT_LANE r i

@[simp] theorem regGroup_F_RT_LANE_DFE (r i : Nat) : regGroup (F.RT_LANE_DFE r i).off = 15 := regGroup_RT_LANE r i

@[simp] theorem regGroup_F_RT_LANE_FAILS (r i : Nat) : regGroup (F.RT_LANE_FAILS r i).off = 15 := regGroup_RT_LANE r i

@[simp] theorem regGroup_F_RT_DESKEW_READ (r i : Nat) : regGroup (F.RT_DESKEW_READ r i).off = 15 := regGroup_RT_DESKEW r i

@[simp] theorem regGroup_F_RT_DESKEW_WRITE (r i : Nat) : regGroup (F.RT_DESKEW_WRITE r i).off = 15 := regGroup_RT_DESKEW r i

@[simp] theorem regGroup_F_RT_PHY_X_MIN_EYE (r : Nat) : regGroup (F.RT_PHY_X_MIN_EYE r).off = 15 := regGroup_RT_PHY_X r

@[simp] theorem regGroup_F_RT_PHY_X_SAMPLES (r : Nat) : regGroup (F.RT_PHY_X_SAMPLES r).off = 15 := regGroup_RT_PHY_X r

@[simp] theorem regGroup_F_RT_PHY_X_FORCE_GAP (r : Nat) : regGroup (F.RT_PHY_X_FORCE_GAP r).off = 15 := regGroup_RT_PHY_X r

@[simp] theorem regGroup_srcField (src lo w : Nat) : regGroup (srcField src lo w).off = 2 := by
  unfold regGroup srcField; dsimp only; split <;> (try split) <;> (try split) <;> (try split) <;> omega

/-- A bit array of a group stays in it. -/
theorem regGroup_bits (base i : Nat) (h : base / 0x1000 = (base + 124) / 0x1000) (hb : base < 0xFF00) :
    regGroup (base + 4 * (i / 32 % 32)) = base / 0x1000 := by
  unfold regGroup; split <;> (try split) <;> (try split) <;> (try split) <;> omega

end Sys2Proof.Machine
end

