-- ==== Sys2Proof/Laws/FrameOps.lean ====
section
/-! SUPPORT. The frame of every operation of Machine/Ops.lean. -/

set_option linter.all false

namespace Sys2Proof.Machine

namespace Frame

theorem refl {m : Nat} (s : State) : Frame m s s where
  pending := rfl
  fuses := rfl
  sealStays := id
  left := ⟨[], by simp⟩
  drawn := le_refl _
  regsWf := id
  bnd := fun _ => rfl
  mode := fun _ => rfl
  sec := fun _ => rfl
  img := fun _ => rfl
  ntc := fun _ => rfl
  pm := fun _ => rfl
  q := fun _ => rfl
  descs := fun _ => rfl
  seq := fun _ => rfl
  rc := fun _ => rfl
  so := fun _ => rfl
  ph := fun _ => rfl
  mi := fun _ => rfl
  fi := fun _ => rfl
  hb := fun _ => rfl
  free := fun _ => rfl
  out := fun _ => rfl
  sealed := fun _ => rfl
  reg := fun _ _ => rfl
  modeCode := fun _ => rfl
  secCode := fun _ => rfl
  routeStates := fun _ _ => rfl

theorem trans {m : Nat} {s t u : State} (h : Frame m s t) (k : Frame m t u) : Frame m s u where
  pending := k.pending.trans h.pending
  fuses := by rw [k.fuses, h.fuses]
  sealStays := fun q => k.sealStays (h.sealStays q)
  left := by
    obtain ⟨a, ha⟩ := h.left
    obtain ⟨b, hb⟩ := k.left
    exact ⟨a ++ b, by rw [hb, ha, List.append_assoc]⟩
  drawn := le_trans h.drawn k.drawn
  regsWf := fun q => k.regsWf (h.regsWf q)
  bnd := fun q => (k.bnd q).trans (h.bnd q)
  mode := fun q => (k.mode q).trans (h.mode q)
  sec := fun q => (k.sec q).trans (h.sec q)
  img := fun q => (k.img q).trans (h.img q)
  ntc := fun q => (k.ntc q).trans (h.ntc q)
  pm := fun q => (k.pm q).trans (h.pm q)
  q := fun q => (k.q q).trans (h.q q)
  descs := fun q => (k.descs q).trans (h.descs q)
  seq := fun q => by rw [k.seq q, h.seq q]
  rc := fun q => (k.rc q).trans (h.rc q)
  so := fun q => (k.so q).trans (h.so q)
  ph := fun q => (k.ph q).trans (h.ph q)
  mi := fun q => (k.mi q).trans (h.mi q)
  fi := fun q => (k.fi q).trans (h.fi q)
  hb := fun q => (k.hb q).trans (h.hb q)
  free := fun q => (k.free q).trans (h.free q)
  out := fun q => (k.out q).trans (h.out q)
  sealed := fun q => (k.sealed q).trans (h.sealed q)
  reg := fun off q => (k.reg off q).trans (h.reg off q)
  modeCode := fun q => (k.modeCode q).trans (h.modeCode q)
  secCode := fun q => (k.secCode q).trans (h.secCode q)
  routeStates := fun q r => (k.routeStates q r).trans (h.routeStates q r)

theorem not_of_or {n m i : Nat} (hn : n ||| m = m) (h : m.testBit i = false) : n.testBit i = false := by
  rw [← hn, Nat.testBit_or, Bool.or_eq_false_iff] at h
  exact h.1

theorem or_trans {a b c : Nat} (h : a ||| b = b) (k : b ||| c = c) : a ||| c = c := by
  rw [← k, ← Nat.or_assoc, h]

/-- A frame with more parts is a weaker one. -/
theorem mono {n m : Nat} {s t : State} (hn : n ||| m = m) (h : Frame n s t) : Frame m s t where
  pending := h.pending
  fuses := h.fuses
  sealStays := h.sealStays
  left := h.left
  drawn := h.drawn
  regsWf := h.regsWf
  bnd := fun q => h.bnd (not_of_or hn q)
  mode := fun q => h.mode (not_of_or hn q)
  sec := fun q => h.sec (not_of_or hn q)
  img := fun q => h.img (not_of_or hn q)
  ntc := fun q => h.ntc (not_of_or hn q)
  pm := fun q => h.pm (not_of_or hn q)
  q := fun q => h.q (not_of_or hn q)
  descs := fun q => h.descs (not_of_or hn q)
  seq := fun q => h.seq (not_of_or hn q)
  rc := fun q => h.rc (not_of_or hn q)
  so := fun q => h.so (not_of_or hn q)
  ph := fun q => h.ph (not_of_or hn q)
  mi := fun q => h.mi (not_of_or hn q)
  fi := fun q => h.fi (not_of_or hn q)
  hb := fun q => h.hb (not_of_or hn q)
  free := fun q => h.free (not_of_or hn q)
  out := fun q => h.out (not_of_or hn q)
  sealed := fun q => h.sealed (not_of_or hn q)
  reg := fun off q => h.reg off (not_of_or hn q)
  modeCode := fun q => h.modeCode (not_of_or hn q)
  secCode := fun q => h.secCode (not_of_or hn q)
  routeStates := fun q => h.routeStates (not_of_or hn q)

/-- Go back over the last operation. -/
theorem after {n m : Nat} {s t u : State} (k : Frame n t u) (h : Frame m s t) (hn : n ||| m = m) : Frame m s u := h.trans (k.mono hn)

theorem step {m : Nat} {s t u : State} (k : Frame m t u) (h : Frame m s t) : Frame m s u := h.trans k

/-- A step on the way. -/
theorem cut {m : Nat} {s t : State} {P : Prop} (h : Frame m s t) (k : Frame m s t → P) : P := k h

/-- Either branch of a choice. -/
theorem ite {m : Nat} {s a b : State} {c : Prop} [Decidable c] (h : Frame m s a) (k : Frame m s b) :
    Frame m s (if c then a else b) := by
  split
  · exact h
  · exact k

/-- A step repeated over a list. -/
theorem foldl {m : Nat} {α : Type} {f : State → α → State} {l : List α} {s t : State} (h : Frame m s t)
    (k : ∀ u x, Frame m u (f u x)) : Frame m s (l.foldl f t) := by
  induction l generalizing t with
  | nil => exact h
  | cons x l ih => exact ih (h.trans (k t x))

/-- A step repeated over a list beside another value. -/
theorem foldl_snd {m : Nat} {α β : Type} {f : β × State → α → β × State} {l : List α} {s : State} {p : β × State}
    (h : Frame m s p.2) (k : ∀ q x, Frame m q.2 (f q x).2) : Frame m s (l.foldl f p).2 := by
  induction l generalizing p with
  | nil => exact h
  | cons x l ih => exact ih (h.trans (k p x))

/-- The state beside another value, once the pair has been taken apart. -/
theorem of_pair {n m : Nat} {α : Type} {s t u : State} {a : α} {p : α × State} (k : Frame n u p.2) (h : p = (a, t)) (g : Frame m s u)
    (hn : n ||| m = m) : Frame m s t := by
  subst h; exact k.after g hn

theorem of_pair0 {m : Nat} {α : Type} {s t : State} {a : α} {p : α × State} (h : p = (a, t)) (g : Frame m s p.2) : Frame m s t := by
  subst h; exact g

theorem of_triple {n m : Nat} {α β : Type} {s t u : State} {a : α} {b : β} {p : α × β × State} (k : Frame n u p.2.2) (h : p = (a, b, t))
    (g : Frame m s u) (hn : n ||| m = m) : Frame m s t := by
  subst h; exact k.after g hn

theorem of_pair_fst {n m : Nat} {α : Type} {s t u : State} {a : α} {p : State × α} (k : Frame n u p.1) (h : p = (t, a)) (g : Frame m s u)
    (hn : n ||| m = m) : Frame m s t := by
  subst h; exact k.after g hn

theorem group_lt (off : Nat) : regGroup off < 18 := by unfold regGroup; split <;> (try split) <;> (try split) <;> (try split) <;> omega

theorem anyGroup {m : Nat} (off : Nat) (hn : 0xFFFFC0000 ||| m = m) : m.testBit (18 + regGroup off) = true := by
  have h := group_lt off
  rw [← hn, Nat.testBit_or, Bool.or_eq_true]
  left
  generalize regGroup off = g at h ⊢
  interval_cases g <;> rfl

/-- A field that the mode code and the security level have no part in, or the mask holds what they have part in. -/
def apart (m g : Nat) (f : Field) : Bool :=
  (m.testBit 36 || decide (g ≠ 0) || decide (f.off ≠ R.MODE) || decide (12 ≤ f.lo)) &&
    (m.testBit 37 || decide (g ≠ 13) || decide (f.off ≠ R.SEC_STATUS) || decide (4 ≤ f.lo)) &&
    (m.testBit 38 || decide (g ≠ 14) || decide (2 ≤ f.lo))

theorem anyField {m g : Nat} (f : Field) (hn : 0x7000000000 ||| m = m) : apart m g f = true := by
  have h6 : m.testBit 36 = true := by rw [← hn, Nat.testBit_or]; rfl
  have h7 : m.testBit 37 = true := by rw [← hn, Nat.testBit_or]; rfl
  have h8 : m.testBit 38 = true := by rw [← hn, Nat.testBit_or]; rfl
  unfold apart
  rw [h6, h7, h8]
  rfl

/-- The frame that only says what every command keeps. -/
theorem all {s t : State} (hp : t.pending = s.pending) (hf : t.fuses = s.fuses) (ho : ∃ l, t.out = s.out ++ l)
    (hc : s.freeCtr ≤ t.freeCtr) (hr : s.regs.wf regReset → t.regs.wf regReset) : Frame 0x7fffffffff s t where
  pending := hp
  fuses := by rw [hf]
  sealStays := by rw [hf]; exact id
  left := ho
  drawn := hc
  regsWf := hr
  bnd := fun q => absurd q (by decide)
  mode := fun q => absurd q (by decide)
  sec := fun q => absurd q (by decide)
  img := fun q => absurd q (by decide)
  ntc := fun q => absurd q (by decide)
  pm := fun q => absurd q (by decide)
  q := fun q => absurd q (by decide)
  descs := fun q => absurd q (by decide)
  seq := fun q => absurd q (by decide)
  rc := fun q => absurd q (by decide)
  so := fun q => absurd q (by decide)
  ph := fun q => absurd q (by decide)
  mi := fun q => absurd q (by decide)
  fi := fun q => absurd q (by decide)
  hb := fun q => absurd q (by decide)
  free := fun q => absurd q (by decide)
  out := fun q => absurd q (by decide)
  sealed := fun q => absurd q (by decide)
  reg := fun off q => by
    have h := group_lt off
    generalize regGroup off = g at h q
    interval_cases g <;> exact absurd q (by decide)
  modeCode := fun q => absurd q (by decide)
  secCode := fun q => absurd q (by decide)
  routeStates := fun q => absurd q (by decide)

end Frame

/-- A command that answers a next state has kept its frame. -/
def Frames (m : Nat) (s : State) (o : Host.Outcome State Fault Refusal) : Prop := ∀ t, o = .next t → Frame m s t

namespace Frames

theorem next {m : Nat} {s t : State} (h : Frame m s t) : Frames m s (.next t) := fun _ e => by cases e; exact h

theorem fault {m : Nat} (s : State) (f : Fault) : Frames m s (.fault f) := fun _ e => by cases e

theorem ite {m : Nat} {s : State} {a b : Host.Outcome State Fault Refusal} {c : Prop} [Decidable c] (h : Frames m s a)
    (k : Frames m s b) : Frames m s (if c then a else b) := by
  split
  · exact h
  · exact k

end Frames

theorem Frame.got {b : Bool} {α : Sort _} {x y : α} (h : b = true ∨ x = y) (q : b = false) : x = y := by
  rcases h with h | h
  · rw [h] at q; cases q
  · exact h

namespace State

theorem mk_frame {m : Nat} (t : State) (bnd : Bnd) (mode : ModeCtl) (sec : Sec) (img : Img) (ntc : Ntc) (pm : Pm) (q : Qe) (descs : List Desc) (seq : Seq) (rc : Rc) (so : So) (ph : Ph) (mi : Mi) (fi : Fi) (hb : Hb)
    (h0 : m.testBit 0 = true ∨ bnd = t.bnd) (h1 : m.testBit 1 = true ∨ mode = t.mode) (h2 : m.testBit 2 = true ∨ sec = t.sec)
    (h3 : m.testBit 3 = true ∨ img = t.img) (h4 : m.testBit 4 = true ∨ ntc = t.ntc) (h5 : m.testBit 5 = true ∨ pm = t.pm)
    (h6 : m.testBit 6 = true ∨ q = t.q) (h7 : m.testBit 7 = true ∨ descs = t.descs) (h8 : m.testBit 8 = true ∨ seq = t.seq)
    (h9 : m.testBit 9 = true ∨ rc = t.rc) (h10 : m.testBit 10 = true ∨ so = t.so) (h11 : m.testBit 11 = true ∨ ph = t.ph)
    (h12 : m.testBit 12 = true ∨ mi = t.mi) (h13 : m.testBit 13 = true ∨ fi = t.fi) (h14 : m.testBit 14 = true ∨ hb = t.hb) :
    Frame m t ⟨t.pending, t.regs, t.freeCtr, t.out, t.fuses, bnd, mode, sec, img, ntc, pm, q, descs, seq, rc, so, ph, mi, fi, hb⟩ where
  pending := rfl
  fuses := rfl
  sealStays := id
  left := ⟨[], by simp⟩
  drawn := le_refl _
  regsWf := id
  bnd := Frame.got h0
  mode := Frame.got h1
  sec := Frame.got h2
  img := Frame.got h3
  ntc := Frame.got h4
  pm := Frame.got h5
  q := Frame.got h6
  descs := Frame.got h7
  seq := fun q => by rw [Frame.got h8 q]
  rc := Frame.got h9
  so := Frame.got h10
  ph := Frame.got h11
  mi := Frame.got h12
  fi := Frame.got h13
  hb := Frame.got h14
  free := fun _ => rfl
  out := fun _ => rfl
  sealed := fun _ => rfl
  reg := fun _ _ => rfl
  modeCode := fun _ => rfl
  secCode := fun _ => rfl
  routeStates := fun _ _ => rfl

theorem mk_add_frame {m : Nat} (t : State) (n : Nat) (bnd : Bnd) (mode : ModeCtl) (sec : Sec) (img : Img) (ntc : Ntc) (pm : Pm) (q : Qe) (descs : List Desc) (seq : Seq) (rc : Rc) (so : So) (ph : Ph) (mi : Mi) (fi : Fi) (hb : Hb)
    (h0 : m.testBit 0 = true ∨ bnd = t.bnd) (h1 : m.testBit 1 = true ∨ mode = t.mode) (h2 : m.testBit 2 = true ∨ sec = t.sec)
    (h3 : m.testBit 3 = true ∨ img = t.img) (h4 : m.testBit 4 = true ∨ ntc = t.ntc) (h5 : m.testBit 5 = true ∨ pm = t.pm)
    (h6 : m.testBit 6 = true ∨ q = t.q) (h7 : m.testBit 7 = true ∨ descs = t.descs) (h8 : m.testBit 8 = true ∨ seq = t.seq)
    (h9 : m.testBit 9 = true ∨ rc = t.rc) (h10 : m.testBit 10 = true ∨ so = t.so) (h11 : m.testBit 11 = true ∨ ph = t.ph)
    (h12 : m.testBit 12 = true ∨ mi = t.mi) (h13 : m.testBit 13 = true ∨ fi = t.fi) (h14 : m.testBit 14 = true ∨ hb = t.hb) (hn : m.testBit 15 = true) :
    Frame m t ⟨t.pending, t.regs, t.freeCtr + n, t.out, t.fuses, bnd, mode, sec, img, ntc, pm, q, descs, seq, rc, so, ph, mi, fi, hb⟩ where
  pending := rfl
  fuses := rfl
  sealStays := id
  left := ⟨[], by simp⟩
  drawn := Nat.le_add_right _ _
  regsWf := id
  bnd := Frame.got h0
  mode := Frame.got h1
  sec := Frame.got h2
  img := Frame.got h3
  ntc := Frame.got h4
  pm := Frame.got h5
  q := Frame.got h6
  descs := Frame.got h7
  seq := fun q => by rw [Frame.got h8 q]
  rc := Frame.got h9
  so := Frame.got h10
  ph := Frame.got h11
  mi := Frame.got h12
  fi := Frame.got h13
  hb := Frame.got h14
  free := fun q => by rw [hn] at q; cases q
  out := fun _ => rfl
  sealed := fun _ => rfl
  reg := fun _ _ => rfl
  modeCode := fun _ => rfl
  secCode := fun _ => rfl
  routeStates := fun _ _ => rfl

theorem mk_out_frame {m : Nat} (t : State) (l : List Output) (bnd : Bnd) (mode : ModeCtl) (sec : Sec) (img : Img) (ntc : Ntc) (pm : Pm) (q : Qe) (descs : List Desc) (seq : Seq) (rc : Rc) (so : So) (ph : Ph) (mi : Mi) (fi : Fi) (hb : Hb)
    (h0 : m.testBit 0 = true ∨ bnd = t.bnd) (h1 : m.testBit 1 = true ∨ mode = t.mode) (h2 : m.testBit 2 = true ∨ sec = t.sec)
    (h3 : m.testBit 3 = true ∨ img = t.img) (h4 : m.testBit 4 = true ∨ ntc = t.ntc) (h5 : m.testBit 5 = true ∨ pm = t.pm)
    (h6 : m.testBit 6 = true ∨ q = t.q) (h7 : m.testBit 7 = true ∨ descs = t.descs) (h8 : m.testBit 8 = true ∨ seq = t.seq)
    (h9 : m.testBit 9 = true ∨ rc = t.rc) (h10 : m.testBit 10 = true ∨ so = t.so) (h11 : m.testBit 11 = true ∨ ph = t.ph)
    (h12 : m.testBit 12 = true ∨ mi = t.mi) (h13 : m.testBit 13 = true ∨ fi = t.fi) (h14 : m.testBit 14 = true ∨ hb = t.hb) (hn : m.testBit 16 = true) :
    Frame m t ⟨t.pending, t.regs, t.freeCtr, t.out ++ l, t.fuses, bnd, mode, sec, img, ntc, pm, q, descs, seq, rc, so, ph, mi, fi, hb⟩ where
  pending := rfl
  fuses := rfl
  sealStays := id
  left := ⟨l, rfl⟩
  drawn := le_refl _
  regsWf := id
  bnd := Frame.got h0
  mode := Frame.got h1
  sec := Frame.got h2
  img := Frame.got h3
  ntc := Frame.got h4
  pm := Frame.got h5
  q := Frame.got h6
  descs := Frame.got h7
  seq := fun q => by rw [Frame.got h8 q]
  rc := Frame.got h9
  so := Frame.got h10
  ph := Frame.got h11
  mi := Frame.got h12
  fi := Frame.got h13
  hb := Frame.got h14
  free := fun _ => rfl
  out := fun q => by rw [hn] at q; cases q
  sealed := fun _ => rfl
  reg := fun _ _ => rfl
  modeCode := fun _ => rfl
  secCode := fun _ => rfl
  routeStates := fun _ _ => rfl

theorem mk_seal_frame {m : Nat} (t : State) (bnd : Bnd) (mode : ModeCtl) (sec : Sec) (img : Img) (ntc : Ntc) (pm : Pm) (q : Qe) (descs : List Desc) (seq : Seq) (rc : Rc) (so : So) (ph : Ph) (mi : Mi) (fi : Fi) (hb : Hb)
    (h0 : m.testBit 0 = true ∨ bnd = t.bnd) (h1 : m.testBit 1 = true ∨ mode = t.mode) (h2 : m.testBit 2 = true ∨ sec = t.sec)
    (h3 : m.testBit 3 = true ∨ img = t.img) (h4 : m.testBit 4 = true ∨ ntc = t.ntc) (h5 : m.testBit 5 = true ∨ pm = t.pm)
    (h6 : m.testBit 6 = true ∨ q = t.q) (h7 : m.testBit 7 = true ∨ descs = t.descs) (h8 : m.testBit 8 = true ∨ seq = t.seq)
    (h9 : m.testBit 9 = true ∨ rc = t.rc) (h10 : m.testBit 10 = true ∨ so = t.so) (h11 : m.testBit 11 = true ∨ ph = t.ph)
    (h12 : m.testBit 12 = true ∨ mi = t.mi) (h13 : m.testBit 13 = true ∨ fi = t.fi) (h14 : m.testBit 14 = true ∨ hb = t.hb) (hn : m.testBit 17 = true) :
    Frame m t ⟨t.pending, t.regs, t.freeCtr, t.out,
      ⟨true, t.fuses.keys, t.fuses.revoked, t.fuses.origin, t.fuses.dbgKey, t.fuses.fresh⟩, bnd, mode, sec, img, ntc, pm, q, descs, seq, rc, so, ph, mi, fi, hb⟩ where
  pending := rfl
  fuses := rfl
  sealStays := fun _ => rfl
  left := ⟨[], by simp⟩
  drawn := le_refl _
  regsWf := id
  bnd := Frame.got h0
  mode := Frame.got h1
  sec := Frame.got h2
  img := Frame.got h3
  ntc := Frame.got h4
  pm := Frame.got h5
  q := Frame.got h6
  descs := Frame.got h7
  seq := fun q => by rw [Frame.got h8 q]
  rc := Frame.got h9
  so := Frame.got h10
  ph := Frame.got h11
  mi := Frame.got h12
  fi := Frame.got h13
  hb := Frame.got h14
  free := fun _ => rfl
  out := fun _ => rfl
  sealed := fun q => by rw [hn] at q; cases q
  reg := fun _ _ => rfl
  modeCode := fun _ => rfl
  secCode := fun _ => rfl
  routeStates := fun _ _ => rfl

/-- Bits below the ones written stay. -/
theorem bits_setBits_low (v lo w x n : Nat) (h : n ≤ lo) (hn : n ≤ 32) : bits (setBits v lo w x % 2 ^ 32) 0 n = bits v 0 n := by
  unfold bits setBits
  rw [Nat.shiftRight_zero, Nat.shiftRight_zero, Nat.mod_mod_of_dvd _ (Nat.pow_dvd_pow 2 hn)]
  obtain ⟨a, rfl⟩ := Nat.exists_eq_add_of_le h
  have e : v % 2 ^ (n + a) + x % 2 ^ w * 2 ^ (n + a) + v / 2 ^ (n + a + w) * 2 ^ (n + a + w) =
      v % 2 ^ (n + a) + 2 ^ n * (x % 2 ^ w * 2 ^ a + v / 2 ^ (n + a + w) * 2 ^ (a + w)) := by
    rw [Nat.mul_add, show n + a + w = n + (a + w) by omega, Nat.pow_add 2 n a, Nat.pow_add 2 n (a + w)]
    ring
  rw [e, Nat.add_mul_mod_self_left, Nat.mod_mod_of_dvd _ (Nat.pow_dvd_pow 2 (Nat.le_add_right n a))]

theorem code_setF {m n b g : Nat} {o : Nat} (s : State) (f : Field) (v : Nat) (hn : n ≤ 32)
    (h : (m.testBit b || decide (regGroup f.off ≠ g) || decide (f.off ≠ o) || decide (n ≤ f.lo)) = true) (ho : regGroup o = g)
    (q : m.testBit b = false) : (s.setF f v).getF ⟨o, 0, n⟩ = s.getF ⟨o, 0, n⟩ := by
  by_cases e : f.off = o
  · have hl : n ≤ f.lo := by
      simp only [q, e, ho, ne_eq, not_true_eq_false, decide_false, Bool.or_false, Bool.false_or, decide_eq_true_eq] at h
      exact h
    simp only [State.getF, State.setF, e, getR_setR_same, BitVec.toNat_ofNat]
    exact bits_setBits_low _ _ _ _ _ hl hn
  · exact getF_setR_ne s _ (fun k => e k.symm)

theorem setF_frame {m : Nat} (s : State) (f : Field) (v : Nat) (h : m.testBit (18 + regGroup f.off) = true)
    (ha : Frame.apart m (regGroup f.off) f = true) : Frame m s (s.setF f v) :=
  { Frame.refl s with
    regsWf := wf_tset _ _ _ _
    reg := fun off' q => by
      have hne : off' ≠ f.off := fun e => by rw [e, h] at q; cases q
      exact getR_setR_ne s _ hne
    modeCode := fun q => code_setF (m := m) (b := 36) (g := 0) s f v (by decide) (by
      unfold Frame.apart at ha; rw [Bool.and_eq_true, Bool.and_eq_true] at ha; exact ha.1.1) (by decide) q
    secCode := fun q => code_setF (m := m) (b := 37) (g := 13) s f v (by decide) (by
      unfold Frame.apart at ha; rw [Bool.and_eq_true, Bool.and_eq_true] at ha; exact ha.1.2) (by decide) q
    routeStates := fun q r => code_setF (m := m) (b := 38) (g := 14) (o := R.RT_STATUS r) s f v (by decide) (by
      unfold Frame.apart at ha; rw [Bool.and_eq_true, Bool.and_eq_true] at ha
      have := ha.2
      simp only [Bool.or_eq_true] at this ⊢
      tauto) (regGroup_RT_STATUS r) q }

theorem setR_frame {m : Nat} (s : State) (off : Nat) (w : W32) (h : m.testBit (18 + regGroup off) = true)
    (ha : Frame.apart m (regGroup off) ⟨off, 0, 32⟩ = true) : Frame m s (s.setR off w) := by
  have e : s.setR off w = s.setF ⟨off, 0, 32⟩ w.toNat := by
    unfold State.setF
    have : setBits (s.getR off).toNat 0 32 w.toNat = w.toNat := by
      unfold setBits
      have h1 := w.isLt
      have h2 := (s.getR off).isLt
      omega
    rw [this, BitVec.ofNat_toNat, BitVec.setWidth_eq]
  rw [e]
  exact setF_frame s ⟨off, 0, 32⟩ _ h ha

theorem satF_frame {m : Nat} (s : State) (f : Field) (h : m.testBit (18 + regGroup f.off) = true)
    (ha : Frame.apart m (regGroup f.off) f = true) : Frame m s (s.satF f) :=
  setF_frame s f _ h ha

theorem bump_frame {m : Nat} (s : State) (off : Nat) (h : m.testBit (18 + regGroup off) = true)
    (ha : Frame.apart m (regGroup off) ⟨off, 0, 32⟩ = true) : Frame m s (s.bump off) :=
  setR_frame s off _ h ha

theorem bumpBy_frame {m : Nat} (s : State) (off n : Nat) (h : m.testBit (18 + regGroup off) = true)
    (ha : Frame.apart m (regGroup off) ⟨off, 0, 32⟩ = true) : Frame m s (s.bumpBy off n) :=
  setR_frame s off _ h ha

theorem setBit_frame {m : Nat} (s : State) (base i : Nat) (b : Bool)
    (h : m.testBit (18 + regGroup (base + 4 * (i / 32 % 32))) = true)
    (ha : Frame.apart m (regGroup (base + 4 * (i / 32 % 32))) ⟨base + 4 * (i / 32 % 32), i % 32, 1⟩ = true) :
    Frame m s (s.setBit base i b) :=
  setF_frame s _ _ h ha

theorem emit_frame (s : State) (o : Output) : Frame 0x10000 s (s.emit o) :=
  { Frame.refl s with left := ⟨[o], rfl⟩, out := fun q => absurd q (by decide) }

theorem draw_frame (s : State) : Frame 0x8000 s s.draw.2 :=
  { Frame.refl s with drawn := Nat.le_succ _, free := fun q => absurd q (by decide) }

end State

theorem State.fabPiece_frame (s : State) (p : Nat × Bytes) : Frame 0x40010001 s (State.fabPiece s p) := by
  unfold State.fabPiece
  iterate 80 all_goals try first
    | lift_lets
    | (intro x; refine Frame.cut (m := 0x40010001) (s := s) (t := x) ?_ fun _ => ?_; (on_goal 1 => subst x); (on_goal 2 => clear_value x))
    | (intro x; clear_value x)
    | with_reducible first
        | apply Frame.ite | apply Frame.refl | assumption | apply Frame.step (State.bump_frame ..)
        | apply Frame.after (State.emit_frame ..) | apply Frame.step (State.setF_frame ..)
        | ((conv => arg 3; arg 20); apply Frame.step (State.mk_frame ..))
    | exact rfl | exact Or.inl rfl | exact Or.inr rfl | (fail_if_no_progress simp; exact rfl) | split | dsimp only

theorem State.fab_frame (s : State) (addr : Nat) (data : Bytes) : Frame 0x40010001 s (State.fab s addr data) := by
  unfold State.fab
  iterate 80 all_goals try first
    | with_reducible first
        | apply Frame.refl | assumption | apply Frame.foldl (k := fun u _ => ?_)
        | apply Frame.after (State.fabPiece_frame ..)
    | exact rfl | (fail_if_no_progress simp; exact rfl) | dsimp only

theorem State.setCore_frame (s : State) (c : Nat) (k : NtcCore) : Frame 0x10 s (State.setCore s c k) := by
  unfold State.setCore
  iterate 80 all_goals try first
    | (intro x; clear_value x)
    | with_reducible first
        | apply Frame.refl | assumption | ((conv => arg 3; arg 20); apply Frame.step (State.mk_frame ..))
    | exact rfl | exact Or.inl rfl | exact Or.inr rfl | dsimp only

theorem State.releaseIdle_frame (s : State) (c : Nat) : Frame 0x10 s (State.releaseIdle s c) := by
  unfold State.releaseIdle
  iterate 80 all_goals try first
    | lift_lets
    | (intro x; refine Frame.cut (m := 0x10) (s := s) (t := x) ?_ fun _ => ?_; (on_goal 1 => subst x); (on_goal 2 => clear_value x))
    | (intro x; clear_value x)
    | with_reducible first
        | apply Frame.ite | apply Frame.refl | assumption | ((conv => arg 3; arg 20); apply Frame.step (State.mk_frame ..))
    | exact rfl | exact Or.inl rfl | exact Or.inr rfl | split | dsimp only

theorem State.strand_frame (s : State) : Frame 0x100010 s (State.strand s) := by
  unfold State.strand
  iterate 80 all_goals try first
    | (intro x; clear_value x)
    | with_reducible first
        | apply Frame.ite | apply Frame.refl | assumption | apply Frame.foldl (k := fun u _ => ?_)
        | apply Frame.step (State.bump_frame ..) | ((conv => arg 3; arg 20); apply Frame.step (State.mk_frame ..))
    | exact rfl | exact Or.inl rfl | exact Or.inr rfl | (fail_if_no_progress simp; exact rfl) | split | dsimp only

theorem State.releaseGroup_frame (s : State) (g : Nat) : Frame 0x10 s (State.releaseGroup s g) := by
  unfold State.releaseGroup
  iterate 80 all_goals try first
    | lift_lets
    | (intro x; refine Frame.cut (m := 0x10) (s := s) (t := x) ?_ fun _ => ?_; (on_goal 1 => subst x); (on_goal 2 => clear_value x))
    | (intro x; clear_value x)
    | with_reducible first
        | apply Frame.refl | assumption | ((conv => arg 3; arg 20); apply Frame.step (State.mk_frame ..))
    | exact rfl | exact Or.inl rfl | exact Or.inr rfl | dsimp only

theorem State.moderate_frame (s : State) (src : Nat) : Frame 0x10 s (State.moderate s src) := by
  unfold State.moderate
  iterate 80 all_goals try first
    | lift_lets
    | (intro x; refine Frame.cut (m := 0x10) (s := s) (t := x) ?_ fun _ => ?_; (on_goal 1 => subst x); (on_goal 2 => clear_value x))
    | (intro x; clear_value x)
    | with_reducible first
        | apply Frame.ite | apply Frame.refl | assumption | apply Frame.after (State.releaseGroup_frame ..)
        | ((conv => arg 3; arg 20); apply Frame.step (State.mk_frame ..))
    | exact rfl | exact Or.inl rfl | exact Or.inr rfl | (fail_if_no_progress simp; exact rfl) | split | dsimp only

theorem State.watchWake_frame (s : State) (src : Nat) : Frame 0x10000 s (State.watchWake s src) := by
  unfold State.watchWake
  iterate 80 all_goals try first
    | with_reducible first
        | apply Frame.ite | apply Frame.refl | assumption | apply Frame.after (State.emit_frame ..)
    | exact rfl | (fail_if_no_progress simp; exact rfl) | split | dsimp only

theorem State.holdWake_frame (s : State) (cause src : Nat) : Frame 0x40040002 s (State.holdWake s cause src) := by
  unfold State.holdWake
  iterate 80 all_goals try first
    | (intro x; clear_value x)
    | with_reducible first
        | apply Frame.ite | apply Frame.refl | assumption | apply Frame.step (State.setF_frame ..)
        | ((conv => arg 3; arg 20); apply Frame.step (State.mk_frame ..))
    | exact rfl | exact Or.inl rfl | exact Or.inr rfl | (fail_if_no_progress simp; exact rfl) | split | dsimp only

theorem State.fire_frame (s : State) (src : Nat) : Frame 0x40150012 s (State.fire s src) := by
  unfold State.fire
  iterate 80 all_goals try first
    | lift_lets
    | (intro x; refine Frame.cut (m := 0x40150012) (s := s) (t := x) ?_ fun _ => ?_; (on_goal 1 => subst x); (on_goal 2 => clear_value x))
    | (intro x; clear_value x)
    | with_reducible first
        | apply Frame.ite | apply Frame.refl | assumption | apply Frame.after (State.holdWake_frame ..)
        | apply Frame.after (State.moderate_frame ..) | apply Frame.step (State.satF_frame ..)
        | apply Frame.step (State.setBit_frame ..) | apply Frame.after (State.watchWake_frame ..)
    | exact rfl | (rw [regGroup_bits _ _ (by decide) (by decide)]; exact rfl) | (fail_if_no_progress simp; exact rfl) | split
    | dsimp only

theorem State.raise_frame {m : Nat} (s : State) (f : Field) (h : m.testBit (18 + regGroup f.off) = true)
    (ha : Frame.apart m (regGroup f.off) f = true) (hn : 0x40150012 ||| m = m) :
    Frame m s (s.raise f) := by
  unfold State.raise
  refine Frame.cut (State.setF_frame s f 1 h ha) fun k => ?_
  generalize s.setF f 1 = t at k
  dsimp only
  split
  · split
    · exact (State.fire_frame ..).after k hn
    · exact k
  · exact k

theorem State.setAll_frame {m : Nat} (s : State) (fs : List Field) (h : ∀ f ∈ fs, m.testBit (18 + regGroup f.off) = true)
    (ha : ∀ f ∈ fs, Frame.apart m (regGroup f.off) f = true) : Frame m s (fs.foldl (fun s f => s.setF f 1) s) := by
  induction fs generalizing s with
  | nil => exact Frame.refl s
  | cons f fs ih =>
    exact (State.setF_frame s f 1 (h f (List.mem_cons_self ..)) (ha f (List.mem_cons_self ..))).trans
      (ih _ (fun g hg => h g (List.mem_cons_of_mem _ hg)) fun g hg => ha g (List.mem_cons_of_mem _ hg))

theorem State.raiseAll_frame {m : Nat} (s : State) (fs : List Field) (h : ∀ f ∈ fs, m.testBit (18 + regGroup f.off) = true)
    (ha : ∀ f ∈ fs, Frame.apart m (regGroup f.off) f = true)
    (hn : 0x40150012 ||| m = m) : Frame m s (s.raiseAll fs) := by
  unfold State.raiseAll
  have k := State.setAll_frame s fs h ha
  generalize fs.foldl (fun s f => s.setF f 1) s = t at k
  generalize (fs.filterMap s.rising).eraseDups = l
  clear h ha
  induction l generalizing t with
  | nil => exact k
  | cons x l ih => exact ih _ ((State.fire_frame ..).after k hn)

theorem State.logErr_frame (s : State) (kind off : Nat) (write : Bool) :
    Frame 0x40150012 s (State.logErr s kind off write) := by
  unfold State.logErr
  iterate 80 all_goals try first
    | lift_lets
    | (intro x; refine Frame.cut (m := 0x40150012) (s := s) (t := x) ?_ fun _ => ?_; (on_goal 1 => subst x); (on_goal 2 => clear_value x))
    | (intro x; clear_value x)
    | with_reducible first
        | apply Frame.refl | assumption | apply Frame.step (State.bump_frame ..) | apply Frame.step (State.raise_frame ..)
        | apply Frame.step (State.setR_frame ..)
    | exact rfl | (fail_if_no_progress simp; exact rfl) | dsimp only

theorem State.refuse_frame (s : State) (off : Nat) : Frame 0x40150012 s (State.refuse s off) := by
  unfold State.refuse
  iterate 80 all_goals try first
    | with_reducible first
        | apply Frame.refl | assumption | apply Frame.after (State.logErr_frame ..)
    | exact rfl | (fail_if_no_progress simp; exact rfl) | dsimp only

theorem State.setDie_frame (s : State) (k : Nat) (d : Die) : Frame 0x100 s (State.setDie s k d) := by
  unfold State.setDie
  iterate 80 all_goals try first
    | (intro x; clear_value x)
    | with_reducible first
        | apply Frame.refl | assumption | ((conv => arg 3; arg 20); apply Frame.step (State.mk_frame ..))
    | exact rfl | exact Or.inl rfl | exact Or.inr rfl | dsimp only

theorem State.setRoute_frame (s : State) (r : Nat) (x : Route) : Frame 0x100 s (State.setRoute s r x) := by
  unfold State.setRoute
  iterate 80 all_goals try first
    | (intro x; clear_value x)
    | with_reducible first
        | apply Frame.refl | assumption | ((conv => arg 3; arg 20); apply Frame.step (State.mk_frame ..))
    | exact rfl | exact Or.inl rfl | exact Or.inr rfl | dsimp only

theorem State.fresh_frame (s : State) : Frame 0x0 s s.fresh.2 :=
  { Frame.refl s with seq := fun _ => rfl }

theorem State.tempTurn_frame (s : State) (k : Nat) : Frame 0x100 s (State.tempTurn s k) := by
  unfold State.tempTurn
  iterate 80 all_goals try first
    | lift_lets
    | (intro x; refine Frame.cut (m := 0x100) (s := s) (t := x) ?_ fun _ => ?_; (on_goal 1 => subst x); (on_goal 2 => clear_value x))
    | (intro x; clear_value x)
    | with_reducible first
        | apply Frame.ite | apply Frame.refl | assumption | apply Frame.after (State.fresh_frame ..)
        | (apply Frame.of_pair (State.fresh_frame ..); (on_goal 1 => assumption)) | apply Frame.after (State.setDie_frame ..)
        | ((conv => arg 3; arg 20); apply Frame.step (State.mk_frame ..))
    | exact rfl | exact Or.inl rfl | exact Or.inr rfl | (fail_if_no_progress simp; exact rfl) | split | dsimp only

theorem State.setDieSt_frame (s : State) (k v : Nat) : Frame 0x800000100 s (State.setDieSt s k v) := by
  unfold State.setDieSt
  iterate 80 all_goals try first
    | (intro x; clear_value x)
    | with_reducible first
        | apply Frame.ite | apply Frame.refl | assumption | apply Frame.after (State.setDie_frame ..)
        | apply Frame.step (State.setF_frame ..) | apply Frame.after (State.tempTurn_frame ..)
        | ((conv => arg 3; arg 20); apply Frame.step (State.mk_frame ..))
    | exact rfl | exact Or.inl rfl | exact Or.inr rfl | (fail_if_no_progress simp; exact rfl) | split | dsimp only

theorem State.want_frame (s : State) (k : Nat) (act : BusAct) : Frame 0x100 s (State.want s k act) := by
  unfold State.want
  iterate 80 all_goals try first
    | lift_lets
    | (intro x; refine Frame.cut (m := 0x100) (s := s) (t := x) ?_ fun _ => ?_; (on_goal 1 => subst x); (on_goal 2 => clear_value x))
    | (intro x; clear_value x)
    | with_reducible first
        | apply Frame.refl | assumption | apply Frame.after (State.fresh_frame ..)
        | (apply Frame.of_pair (State.fresh_frame ..); (on_goal 1 => assumption)) | apply Frame.after (State.setDie_frame ..)
        | ((conv => arg 3; arg 20); apply Frame.step (State.mk_frame ..))
    | exact rfl | exact Or.inl rfl | exact Or.inr rfl | (fail_if_no_progress simp; exact rfl) | split | dsimp only

theorem State.driveWp_frame (s : State) (r : Nat) : Frame 0x100000000 s (State.driveWp s r) := by
  unfold State.driveWp
  iterate 80 all_goals try first
    | with_reducible first
        | apply Frame.ite | apply Frame.refl | assumption | apply Frame.step (State.setF_frame ..)
    | exact rfl | (fail_if_no_progress simp; exact rfl) | split | dsimp only

theorem State.guardReturn_frame (s : State) (k : Nat) : Frame 0x100 s (State.guardReturn s k) := by
  unfold State.guardReturn
  iterate 80 all_goals try first
    | lift_lets
    | (intro x; refine Frame.cut (m := 0x100) (s := s) (t := x) ?_ fun _ => ?_; (on_goal 1 => subst x); (on_goal 2 => clear_value x))
    | (intro x; clear_value x)
    | with_reducible first
        | apply Frame.ite | apply Frame.refl | assumption | apply Frame.after (State.setDie_frame ..)
        | apply Frame.after (State.want_frame ..) | ((conv => arg 3; arg 20); apply Frame.step (State.mk_frame ..))
    | exact rfl | exact Or.inl rfl | exact Or.inr rfl | (fail_if_no_progress simp; exact rfl) | split | dsimp only

theorem State.guardUpdate_frame (s : State) : Frame 0x140000100 s (State.guardUpdate s) := by
  unfold State.guardUpdate
  iterate 80 all_goals try first
    | lift_lets
    | (intro x; refine Frame.cut (m := 0x140000100) (s := u) (t := x) ?_ fun _ => ?_; (on_goal 1 => subst x); (on_goal 2 => clear_value x))
    | (intro x; refine Frame.cut (m := 0x140000100) (s := s) (t := x) ?_ fun _ => ?_; (on_goal 1 => subst x); (on_goal 2 => clear_value x))
    | (intro x; clear_value x)
    | with_reducible first
        | apply Frame.ite | apply Frame.refl | assumption | apply Frame.foldl (k := fun u _ => ?_)
        | apply Frame.after (State.driveWp_frame ..) | apply Frame.after (State.guardReturn_frame ..)
        | apply Frame.step (State.setF_frame ..)
    | exact rfl | (fail_if_no_progress simp; exact rfl) | split | dsimp only

theorem State.addIncomplete_frame (s : State) (bs : List Nat) : Frame 0x4000100 s (State.addIncomplete s bs) := by
  unfold State.addIncomplete
  iterate 80 all_goals try first
    | lift_lets
    | (intro x; refine Frame.cut (m := 0x4000100) (s := u) (t := x) ?_ fun _ => ?_; (on_goal 1 => subst x); (on_goal 2 => clear_value x))
    | (intro x; refine Frame.cut (m := 0x4000100) (s := s) (t := x) ?_ fun _ => ?_; (on_goal 1 => subst x); (on_goal 2 => clear_value x))
    | (intro x; clear_value x)
    | with_reducible first
        | apply Frame.refl | assumption | apply Frame.foldl (k := fun u _ => ?_) | apply Frame.step (State.setF_frame ..)
        | ((conv => arg 3; arg 20); apply Frame.step (State.mk_frame ..))
    | exact rfl | exact Or.inl rfl | exact Or.inr rfl | (fail_if_no_progress simp; exact rfl) | dsimp only

theorem State.dropIncomplete_frame (s : State) (b : Nat) : Frame 0x4000100 s (State.dropIncomplete s b) := by
  unfold State.dropIncomplete
  iterate 80 all_goals try first
    | lift_lets
    | (intro x; refine Frame.cut (m := 0x4000100) (s := s) (t := x) ?_ fun _ => ?_; (on_goal 1 => subst x); (on_goal 2 => clear_value x))
    | (intro x; clear_value x)
    | with_reducible first
        | apply Frame.refl | assumption | apply Frame.step (State.setF_frame ..)
        | ((conv => arg 3; arg 20); apply Frame.step (State.mk_frame ..))
    | exact rfl | exact Or.inl rfl | exact Or.inr rfl | (fail_if_no_progress simp; exact rfl) | dsimp only

theorem State.setLine_frame (s : State) (st w : Nat) (l : Line) : Frame 0x800 s (State.setLine s st w l) := by
  unfold State.setLine
  iterate 80 all_goals try first
    | (intro x; clear_value x)
    | with_reducible first
        | apply Frame.refl | assumption | ((conv => arg 3; arg 20); apply Frame.step (State.mk_frame ..))
    | exact rfl | exact Or.inl rfl | exact Or.inr rfl | dsimp only

theorem State.phCount_frame (s : State) : Frame 0x2000000 s (State.phCount s) := by
  unfold State.phCount
  iterate 80 all_goals try first
    | with_reducible first
        | apply Frame.refl | assumption | apply Frame.step (State.setF_frame ..)
    | exact rfl | (fail_if_no_progress simp; exact rfl) | dsimp only

theorem State.phDrop_frame (s : State) (st w : Nat) : Frame 0x42150812 s (State.phDrop s st w) := by
  unfold State.phDrop
  iterate 80 all_goals try first
    | lift_lets
    | (intro x; refine Frame.cut (m := 0x42150812) (s := s) (t := x) ?_ fun _ => ?_; (on_goal 1 => subst x); (on_goal 2 => clear_value x))
    | (intro x; clear_value x)
    | with_reducible first
        | apply Frame.ite | apply Frame.refl | assumption | apply Frame.step (State.bump_frame ..)
        | apply Frame.after (State.phCount_frame ..) | apply Frame.step (State.raise_frame ..)
        | apply Frame.after (State.setLine_frame ..) | ((conv => arg 3; arg 20); apply Frame.step (State.mk_frame ..))
    | exact rfl | exact Or.inl rfl | exact Or.inr rfl | (fail_if_no_progress simp; exact rfl) | split | dsimp only

theorem State.wordsRewritten_frame (s : State) (w n : Nat) : Frame 0x1000 s (State.wordsRewritten s w n) := by
  unfold State.wordsRewritten
  iterate 80 all_goals try first
    | (intro x; clear_value x)
    | with_reducible first
        | apply Frame.refl | assumption | ((conv => arg 3; arg 20); apply Frame.step (State.mk_frame ..))
    | exact rfl | exact Or.inl rfl | exact Or.inr rfl | dsimp only

theorem State.wordsKept_frame (s : State) (w : Nat) : Frame 0x1000 s (State.wordsKept s w) := by
  unfold State.wordsKept
  iterate 80 all_goals try first
    | (intro x; clear_value x)
    | with_reducible first
        | apply Frame.refl | assumption | ((conv => arg 3; arg 20); apply Frame.step (State.mk_frame ..))
    | exact rfl | exact Or.inl rfl | exact Or.inr rfl | dsimp only

theorem State.phInstall_frame (s : State) (a epoch : Nat) (content payload : Bytes) (waiting : Bool) :
    Frame 0x2001800 s (State.phInstall s a epoch content payload waiting).1 := by
  unfold State.phInstall
  iterate 80 all_goals try first
    | lift_lets
    | (intro x; refine Frame.cut (m := 0x2001800) (s := s) (t := x) ?_ fun _ => ?_; (on_goal 1 => subst x); (on_goal 2 => clear_value x))
    | (intro x; clear_value x)
    | with_reducible first
        | apply Frame.ite | apply Frame.refl | assumption | apply Frame.step (State.bump_frame ..)
        | apply Frame.after (State.setLine_frame ..) | apply Frame.after (State.wordsRewritten_frame ..)
        | ((conv => arg 3; arg 20); apply Frame.step (State.mk_frame ..))
    | exact rfl | exact Or.inl rfl | exact Or.inr rfl | (fail_if_no_progress simp; exact rfl) | split | dsimp only

theorem State.phRange_frame (s : State) (dies : List Nat) (blocks : Option (List Nat)) :
    Frame 0x2000800 s (State.phRange s dies blocks) := by
  unfold State.phRange
  iterate 80 all_goals try first
    | lift_lets
    | (intro x; refine Frame.cut (m := 0x2000800) (s := s) (t := x) ?_ fun _ => ?_; (on_goal 1 => subst x); (on_goal 2 => clear_value x))
    | (intro x; clear_value x)
    | with_reducible first
        | apply Frame.refl | assumption | apply Frame.after (State.phCount_frame ..) | apply Frame.step (State.setF_frame ..)
        | ((conv => arg 3; arg 20); apply Frame.step (State.mk_frame ..))
    | exact rfl | exact Or.inl rfl | exact Or.inr rfl | (fail_if_no_progress simp; exact rfl) | dsimp only

theorem State.cmd_frame (s : State) (k : Nat) (pages : List Nat) (bytes addrs : List Nat) :
    Frame 0x10000 s (State.cmd s k pages bytes addrs) := by
  unfold State.cmd
  iterate 80 all_goals try first
    | lift_lets
    | (intro x; refine Frame.cut (m := 0x10000) (s := s) (t := x) ?_ fun _ => ?_; (on_goal 1 => subst x); (on_goal 2 => clear_value x))
    | (intro x; clear_value x)
    | with_reducible first
        | apply Frame.ite | apply Frame.refl | assumption | apply Frame.after (State.emit_frame ..)
    | exact rfl | (fail_if_no_progress simp; exact rfl) | split | dsimp only

theorem State.scanReads_frame (s : State) (k b : Nat) (pages : List Nat) :
    Frame 0x800010000 s (State.scanReads s k b pages) := by
  unfold State.scanReads
  iterate 80 all_goals try first
    | lift_lets
    | (intro x; refine Frame.cut (m := 0x800010000) (s := u) (t := x) ?_ fun _ => ?_; (on_goal 1 => subst x); (on_goal 2 => clear_value x))
    | (intro x; refine Frame.cut (m := 0x800010000) (s := s) (t := x) ?_ fun _ => ?_; (on_goal 1 => subst x); (on_goal 2 => clear_value x))
    | (intro x; clear_value x)
    | with_reducible first
        | apply Frame.refl | assumption | apply Frame.foldl (k := fun u _ => ?_) | apply Frame.step (State.bump_frame ..)
        | apply Frame.after (State.cmd_frame ..)
    | exact rfl | (fail_if_no_progress simp; exact rfl) | dsimp only

theorem State.cutOne_frame (s : State) : Frame 0x200 s (State.cutOne s) := by
  unfold State.cutOne
  iterate 80 all_goals try first
    | (intro x; clear_value x)
    | with_reducible first
        | apply Frame.refl | assumption | ((conv => arg 3; arg 20); apply Frame.step (State.mk_frame ..))
    | exact rfl | exact Or.inl rfl | exact Or.inr rfl | split | dsimp only

theorem State.poolShort_frame (s : State) : Frame 0x48150212 s (State.poolShort s) := by
  unfold State.poolShort
  iterate 80 all_goals try first
    | lift_lets
    | (intro x; refine Frame.cut (m := 0x48150212) (s := u) (t := x) ?_ fun _ => ?_; (on_goal 1 => subst x); (on_goal 2 => clear_value x))
    | (intro x; refine Frame.cut (m := 0x48150212) (s := s) (t := x) ?_ fun _ => ?_; (on_goal 1 => subst x); (on_goal 2 => clear_value x))
    | (intro x; clear_value x)
    | with_reducible first
        | apply Frame.ite | apply Frame.refl | assumption | apply Frame.foldl (k := fun u _ => ?_)
        | apply Frame.after (State.cutOne_frame ..) | apply Frame.step (State.raise_frame ..)
        | apply Frame.step (State.setF_frame ..)
    | exact rfl | (fail_if_no_progress simp; exact rfl) | split | dsimp only

theorem State.poolFit_frame (s : State) : Frame 0x48150212 s (State.poolFit s) := by
  unfold State.poolFit
  iterate 80 all_goals try first
    | (intro x; clear_value x)
    | with_reducible first
        | apply Frame.refl | assumption | apply Frame.after (State.poolShort_frame ..)
        | apply Frame.step (State.setF_frame ..) | ((conv => arg 3; arg 20); apply Frame.step (State.mk_frame ..))
    | exact rfl | exact Or.inl rfl | exact Or.inr rfl | (fail_if_no_progress simp; exact rfl) | dsimp only

theorem State.dramCorrected_frame (s : State) : Frame 0x2000000 s (State.dramCorrected s) := by
  unfold State.dramCorrected
  iterate 80 all_goals try first
    | with_reducible first
        | apply Frame.refl | assumption | apply Frame.step (State.bump_frame ..)
    | exact rfl | (fail_if_no_progress simp; exact rfl) | dsimp only

theorem State.dramReads_frame (s : State) (corr : Nat) : Frame 0x2000000 s (State.dramReads s corr) := by
  unfold State.dramReads
  iterate 80 all_goals try first
    | with_reducible first
        | apply Frame.refl | assumption | apply Frame.step (State.bumpBy_frame ..)
    | exact rfl | (fail_if_no_progress simp; exact rfl) | dsimp only

theorem State.dramUncorr_frame (s : State) (addr : Nat) : Frame 0x42150012 s (State.dramUncorr s addr) := by
  unfold State.dramUncorr
  iterate 80 all_goals try first
    | with_reducible first
        | apply Frame.refl | assumption | apply Frame.step (State.bump_frame ..) | apply Frame.step (State.raise_frame ..)
        | apply Frame.step (State.setR_frame ..)
    | exact rfl | (fail_if_no_progress simp; exact rfl) | dsimp only

theorem State.floorShow_frame (s : State) (rs : List Nat) : Frame 0x10000000 s (State.floorShow s rs) := by
  unfold State.floorShow
  iterate 80 all_goals try first
    | with_reducible first
        | apply Frame.refl | assumption | apply Frame.foldl (k := fun u _ => ?_) | apply Frame.step (State.setF_frame ..)
    | exact rfl | (fail_if_no_progress simp; exact rfl) | dsimp only

theorem State.setSq_frame (s : State) (n : Nat) (q : Option SQ) : Frame 0x40 s (State.setSq s n q) := by
  unfold State.setSq
  iterate 80 all_goals try first
    | (intro x; clear_value x)
    | with_reducible first
        | apply Frame.refl | assumption | ((conv => arg 3; arg 20); apply Frame.step (State.mk_frame ..))
    | exact rfl | exact Or.inl rfl | exact Or.inr rfl | dsimp only

theorem State.setJob_frame (s : State) (j : Job) : Frame 0x100 s (State.setJob s j) := by
  unfold State.setJob
  iterate 80 all_goals try first
    | (intro x; clear_value x)
    | with_reducible first
        | apply Frame.ite | apply Frame.refl | assumption | ((conv => arg 3; arg 20); apply Frame.step (State.mk_frame ..))
    | exact rfl | exact Or.inl rfl | exact Or.inr rfl | split | dsimp only

theorem State.dropJob_frame (s : State) (id : Nat) : Frame 0x100 s (State.dropJob s id) := by
  unfold State.dropJob
  iterate 80 all_goals try first
    | (intro x; clear_value x)
    | with_reducible first
        | apply Frame.refl | assumption | ((conv => arg 3; arg 20); apply Frame.step (State.mk_frame ..))
    | exact rfl | exact Or.inl rfl | exact Or.inr rfl | dsimp only

theorem State.setDesc_frame (s : State) (d : Desc) : Frame 0x80 s (State.setDesc s d) := by
  unfold State.setDesc
  iterate 80 all_goals try first
    | (intro x; clear_value x)
    | with_reducible first
        | apply Frame.ite | apply Frame.refl | assumption | ((conv => arg 3; arg 20); apply Frame.step (State.mk_frame ..))
    | exact rfl | exact Or.inl rfl | exact Or.inr rfl | split | dsimp only

theorem State.finish_frame (s : State) (id status count : Nat) : Frame 0x80 s (State.finish s id status count) := by
  unfold State.finish
  iterate 80 all_goals try first
    | lift_lets
    | (intro x; refine Frame.cut (m := 0x80) (s := s) (t := x) ?_ fun _ => ?_; (on_goal 1 => subst x); (on_goal 2 => clear_value x))
    | (intro x; clear_value x)
    | with_reducible first
        | apply Frame.ite | apply Frame.refl | assumption | apply Frame.after (State.fresh_frame ..)
        | (apply Frame.of_pair (State.fresh_frame ..); (on_goal 1 => assumption))
        | apply Frame.after (State.setDesc_frame ..) | ((conv => arg 3; arg 20); apply Frame.step (State.mk_frame ..))
    | exact rfl | exact Or.inl rfl | exact Or.inr rfl | (fail_if_no_progress simp; exact rfl) | split | dsimp only

theorem State.together_frame (s : State) (n : Nat) : Frame 0x80 s (State.together s n) := by
  unfold State.together
  iterate 80 all_goals try first
    | (intro x; clear_value x)
    | with_reducible first
        | apply Frame.ite | apply Frame.refl | assumption | ((conv => arg 3; arg 20); apply Frame.step (State.mk_frame ..))
    | exact rfl | exact Or.inl rfl | exact Or.inr rfl | split | dsimp only

theorem State.enqueue_frame (s : State) (o : DieOp) : Frame 0x100 s (State.enqueue s o) := by
  unfold State.enqueue
  iterate 80 all_goals try first
    | (intro x; clear_value x)
    | with_reducible first
        | apply Frame.refl | assumption | ((conv => arg 3; arg 20); apply Frame.step (State.mk_frame ..))
    | exact rfl | exact Or.inl rfl | exact Or.inr rfl | dsimp only

end Sys2Proof.Machine
end

