-- ==== Sys2Proof/Laws/Events.lean ====
section
/-! SUPPORT. What a fired source and a raised event leave of the registers. -/

namespace Sys2Proof.Machine
namespace State

variable (s : State)

/-- A register that no notice touches: outside the notice page, not `ENS_MODE`, not `ENS_PWR_WAKE`. -/
abbrev still (off : Nat) : Prop := off ≠ R.MODE ∧ off ≠ R.PWR_WAKE ∧ (off < 0x2000 ∨ 0x3000 ≤ off)

/-- A frame that holds no register group leaves every register alone. -/
theorem getR_of_frame {m : Nat} {s t : State} (h : Frame m s t) (hm : m < 2 ^ 18) (off : Nat) : t.getR off = s.getR off :=
  h.reg off (Nat.testBit_lt_two_pow (lt_of_lt_of_le hm (Nat.pow_le_pow_right (by decide) (by omega))))

theorem holdWake_getR {off : Nat} (cause src : Nat) (h0 : off ≠ R.MODE) (h1 : off ≠ R.PWR_WAKE) :
    (s.holdWake cause src).getR off = s.getR off := by
  unfold State.holdWake
  split
  · rw [getR_setF_ne _ _ h1, getR_setF_ne _ _ h1, getR_setF_ne _ _ h0]; rfl
  · rfl

theorem fire_getR {off : Nat} (src : Nat) (h : still off) : (s.fire src).getR off = s.getR off := by
  obtain ⟨h0, h1, h2⟩ := h
  have hb : ∀ (u : State) (b : Bool), (u.setBit (R.NTC_PEND 0) src b).getR off = u.getR off := fun u b => by
    refine getR_setF_ne u _ ?_
    show off ≠ R.NTC_PEND 0 + 4 * (src / 32 % 32)
    unfold R.NTC_PEND; omega
  have hm : ∀ u : State, (u.moderate src).getR off = u.getR off := fun u => getR_of_frame (State.moderate_frame ..) (by decide) off
  have hw : ∀ u : State, (u.watchWake src).getR off = u.getR off := fun u => by unfold State.watchWake; split <;> rfl
  unfold State.fire
  split
  · rfl
  · split
    · refine getR_setF_ne s _ ?_
      show off ≠ R.NTC_LOST src
      unfold R.NTC_LOST; omega
    · split
      · exact hm s
      · dsimp only
        split
        · rw [holdWake_getR _ _ _ h0 h1, hw, hm, hb]
        · rw [hw, hm, hb]

theorem fire_getF {f : Field} (src : Nat) (h : still f.off) : (s.fire src).getF f = s.getF f := by
  unfold State.getF; rw [fire_getR s src h]

theorem raise_getR_ne {f : Field} {off : Nat} (h : still off) (hf : off ≠ f.off) : (s.raise f).getR off = s.getR off := by
  unfold State.raise
  dsimp only
  split
  · split
    · rw [fire_getR _ _ h, getR_setF_ne _ _ hf]
    · rw [getR_setF_ne _ _ hf]
  · rw [getR_setF_ne _ _ hf]

theorem raise_getF_ne {f g : Field} (h : still g.off) (hf : g.off ≠ f.off) : (s.raise f).getF g = s.getF g := by
  unfold State.getF; rw [raise_getR_ne s h hf]

/-- An event bit that was raised reads 1. -/
theorem raise_getF {f : Field} (h : still f.off) (h1 : f.width = 1) (hw : f.lo + f.width ≤ 32) : (s.raise f).getF f = 1 := by
  have e : (s.setF f 1).getF f = 1 := by rw [getF_setF_same s f 1 hw, h1]; rfl
  unfold State.raise
  dsimp only
  split
  · split
    · rw [fire_getF _ _ h, e]
    · exact e
  · exact e

/-- The other bits of the event register keep their value. -/
theorem raise_getF_beside {f g : Field} (h : still f.off) (hg : g.off = f.off) (hd : g.lo + g.width ≤ f.lo ∨ f.lo + f.width ≤ g.lo)
    (hw : f.lo + f.width ≤ 32) : (s.raise f).getF g = s.getF g := by
  have e : (s.setF f 1).getF g = s.getF g := getF_setF_ne s _ (Or.inr hd) hw
  have hs : still g.off := hg ▸ h
  unfold State.raise
  dsimp only
  split
  · split
    · rw [fire_getF _ _ hs, e]
    · exact e
  · exact e

theorem aonRaise_eq {f : Field} {src : Nat} (h : s.modeNow ≠ 8) : s.aonRaise f src = s.raise f := by
  unfold State.aonRaise; rw [if_neg h]

end State
end Sys2Proof.Machine
end

