-- ==== Sys2Proof/Laws/FramePlan.lean ====
section
/-! SUPPORT. The frame of every operation of Machine/Plan.lean. -/

set_option linter.all false

namespace Sys2Proof.Machine

theorem State.scanShow_frame (s : State) : Frame 0x10000000 s (State.scanShow s) := by
  unfold State.scanShow
  iterate 80 all_goals try first
    | with_reducible first
        | apply Frame.refl | assumption | apply Frame.step (State.setF_frame ..)
    | exact rfl | (fail_if_no_progress simp; exact rfl) | dsimp only

theorem State.scanFinish_frame (s : State) (id st count : Nat) : Frame 0x10000080 s (State.scanFinish s id st count) := by
  unfold State.scanFinish
  iterate 80 all_goals try first
    | with_reducible first
        | apply Frame.refl | assumption | apply Frame.step (State.bump_frame ..) | apply Frame.after (State.finish_frame ..)
    | exact rfl | (fail_if_no_progress simp; exact rfl) | dsimp only

theorem State.summaryUnread_frame (s : State) (d : Desc) : Frame 0x40010001 s (State.summaryUnread s d) := by
  unfold State.summaryUnread
  iterate 80 all_goals try first
    | with_reducible first
        | apply Frame.ite | apply Frame.refl | assumption | apply Frame.after (State.fab_frame ..)
    | exact rfl | (fail_if_no_progress simp; exact rfl) | split | dsimp only

theorem State.closeScan_frame (s : State) (c : Scan) (st : Nat) (fault : Bool) :
    Frame 0x50010481 s (State.closeScan s c st fault) := by
  unfold State.closeScan
  iterate 80 all_goals try first
    | lift_lets
    | (intro x; refine Frame.cut (m := 0x50010481) (s := s) (t := x) ?_ fun _ => ?_; (on_goal 1 => subst x); (on_goal 2 => clear_value x))
    | (intro x; clear_value x)
    | with_reducible first
        | apply Frame.ite | apply Frame.refl | assumption | apply Frame.after (State.fab_frame ..)
        | apply Frame.after (State.floorShow_frame ..) | apply Frame.after (State.scanFinish_frame ..)
        | apply Frame.after (State.scanShow_frame ..) | ((conv => arg 3; arg 20); apply Frame.step (State.mk_frame ..))
    | exact rfl | exact Or.inl rfl | exact Or.inr rfl | (fail_if_no_progress simp; exact rfl) | split | dsimp only

end Sys2Proof.Machine
end

