-- ==== Sys2Proof/Laws/FrameSafe.lean ====
section
/-! SUPPORT. The frame of every operation of Machine/Safe.lean. -/

set_option linter.all false

namespace Sys2Proof.Machine

theorem State.islands_frame (s : State) (m : Nat) : Frame 0x40000000 s (State.islands s m) := by
  unfold State.islands
  iterate 80 all_goals try first
    | lift_lets
    | (intro x; refine Frame.cut (m := 0x40000000) (s := s) (t := x) ?_ fun _ => ?_; (on_goal 1 => subst x); (on_goal 2 => clear_value x))
    | (intro x; clear_value x)
    | with_reducible first
        | apply Frame.ite | apply Frame.refl | assumption | apply Frame.step (State.setF_frame ..)
    | exact rfl | (fail_if_no_progress simp; exact rfl) | split | dsimp only

theorem State.imgState_frame (s : State) (st cause sec : Nat) : Frame 0x401d001a s (State.imgState s st cause sec) := by
  unfold State.imgState
  iterate 80 all_goals try first
    | lift_lets
    | (intro x; refine Frame.cut (m := 0x401d001a) (s := s) (t := x) ?_ fun _ => ?_; (on_goal 1 => subst x); (on_goal 2 => clear_value x))
    | (intro x; clear_value x)
    | with_reducible first
        | apply Frame.ite | apply Frame.refl | assumption | apply Frame.after (State.fire_frame ..)
        | apply Frame.step (State.setF_frame ..) | ((conv => arg 3; arg 20); apply Frame.step (State.mk_frame ..))
    | exact rfl | exact Or.inl rfl | exact Or.inr rfl | (fail_if_no_progress simp; exact rfl) | split | dsimp only

theorem State.drainRelease_frame (s : State) : Frame 0x4140000108 s (State.drainRelease s) := by
  unfold State.drainRelease
  iterate 80 all_goals try first
    | lift_lets
    | (intro x; refine Frame.cut (m := 0x4140000108) (s := u) (t := x) ?_ fun _ => ?_; (on_goal 1 => subst x); (on_goal 2 => clear_value x))
    | (intro x; refine Frame.cut (m := 0x4140000108) (s := s) (t := x) ?_ fun _ => ?_; (on_goal 1 => subst x); (on_goal 2 => clear_value x))
    | (intro x; clear_value x)
    | with_reducible first
        | apply Frame.ite | apply Frame.refl | assumption | apply Frame.foldl (k := fun u _ => ?_)
        | apply Frame.after (State.guardUpdate_frame ..) | apply Frame.step (State.setF_frame ..)
        | apply Frame.after (State.setRoute_frame ..) | ((conv => arg 3; arg 20); apply Frame.step (State.mk_frame ..))
    | exact rfl | exact Or.inl rfl | exact Or.inr rfl | (fail_if_no_progress simp; exact rfl) | split | dsimp only

theorem State.emptyStaging_frame (s : State) : Frame 0x41401d811a s (State.emptyStaging s) := by
  unfold State.emptyStaging
  iterate 80 all_goals try first
    | lift_lets
    | (intro x; refine Frame.cut (m := 0x41401d811a) (s := s) (t := x) ?_ fun _ => ?_; (on_goal 1 => subst x); (on_goal 2 => clear_value x))
    | (intro x; clear_value x)
    | with_reducible first
        | apply Frame.ite | apply Frame.refl | assumption | apply Frame.after (State.drainRelease_frame ..)
        | apply Frame.after (State.draw_frame ..) | (apply Frame.of_pair (State.draw_frame ..); (on_goal 1 => assumption))
        | apply Frame.after (State.imgState_frame ..) | apply Frame.step (State.setF_frame ..)
        | ((conv => arg 3; arg 20); apply Frame.step (State.mk_frame ..))
    | exact rfl | exact Or.inl rfl | exact Or.inr rfl | (fail_if_no_progress simp; exact rfl) | split | dsimp only

theorem State.setMode_frame (s : State) (m : Nat) : Frame 0x51c01d811a s (State.setMode s m) := by
  unfold State.setMode
  iterate 80 all_goals try first
    | lift_lets
    | (intro x; refine Frame.cut (m := 0x51c01d811a) (s := s) (t := x) ?_ fun _ => ?_; (on_goal 1 => subst x); (on_goal 2 => clear_value x))
    | (intro x; clear_value x)
    | with_reducible first
        | apply Frame.ite | apply Frame.refl | assumption | apply Frame.after (State.emptyStaging_frame ..)
        | apply Frame.after (State.fire_frame ..) | apply Frame.after (State.guardUpdate_frame ..)
        | apply Frame.after (State.islands_frame ..) | apply Frame.step (State.setF_frame ..)
        | ((conv => arg 3; arg 20); apply Frame.step (State.mk_frame ..))
    | exact rfl | exact Or.inl rfl | exact Or.inr rfl | (fail_if_no_progress simp; exact rfl) | split | dsimp only

theorem State.safeAbort_frame (s : State) : Frame 0x50010481 s (State.safeAbort s) := by
  unfold State.safeAbort
  iterate 80 all_goals try first
    | with_reducible first
        | apply Frame.ite | apply Frame.refl | assumption | apply Frame.foldl (k := fun u _ => ?_)
        | apply Frame.after (State.closeScan_frame ..) | apply Frame.after (State.finish_frame ..)
        | apply Frame.after (State.scanFinish_frame ..) | apply Frame.after (State.summaryUnread_frame ..)
        | apply Frame.after (State.together_frame ..)
    | exact rfl | (fail_if_no_progress simp; exact rfl) | split | dsimp only

theorem State.safeSettle_frame (s : State) : Frame 0x50010581 s (State.safeSettle s) := by
  unfold State.safeSettle
  iterate 80 all_goals try first
    | lift_lets
    | (intro x; refine Frame.cut (m := 0x50010581) (s := s) (t := x) ?_ fun _ => ?_; (on_goal 1 => subst x); (on_goal 2 => clear_value x))
    | (intro x; clear_value x)
    | with_reducible first
        | apply Frame.ite | apply Frame.refl | assumption | apply Frame.after (State.safeAbort_frame ..)
        | ((conv => arg 3; arg 20); apply Frame.step (State.mk_frame ..))
    | exact rfl | exact Or.inl rfl | exact Or.inr rfl | (fail_if_no_progress simp; exact rfl) | split | dsimp only

theorem State.safeDie_frame (s : State) (k : Nat) : Frame 0x800000100 s (State.safeDie s k) := by
  unfold State.safeDie
  iterate 80 all_goals try first
    | lift_lets
    | (intro x; refine Frame.cut (m := 0x800000100) (s := s) (t := x) ?_ fun _ => ?_; (on_goal 1 => subst x); (on_goal 2 => clear_value x))
    | (intro x; clear_value x)
    | with_reducible first
        | apply Frame.ite | apply Frame.refl | assumption | apply Frame.after (State.setDie_frame ..)
        | apply Frame.after (State.setDieSt_frame ..) | apply Frame.after (State.want_frame ..)
        | ((conv => arg 3; arg 20); apply Frame.step (State.mk_frame ..))
    | exact rfl | exact Or.inl rfl | exact Or.inr rfl | (fail_if_no_progress simp; exact rfl) | split | dsimp only

theorem State.calResult_frame (s : State) (k g outcome cause thresh diff : Nat) :
    Frame 0x8000000 s (State.calResult s k g outcome cause thresh diff) := by
  unfold State.calResult
  iterate 80 all_goals try first
    | with_reducible first
        | apply Frame.refl | assumption | apply Frame.step (State.setR_frame ..)
    | exact rfl | (fail_if_no_progress simp; exact rfl) | dsimp only

theorem State.enterSafe_frame (s : State) (cause : Nat) : Frame 0x59f81de79b s (State.enterSafe s cause) := by
  unfold State.enterSafe
  iterate 80 all_goals try first
    | lift_lets
    | (intro x; refine Frame.cut (m := 0x59f81de79b) (s := u) (t := x) ?_ fun _ => ?_; (on_goal 1 => subst x); (on_goal 2 => clear_value x))
    | (intro x; refine Frame.cut (m := 0x59f81de79b) (s := s) (t := x) ?_ fun _ => ?_; (on_goal 1 => subst x); (on_goal 2 => clear_value x))
    | (intro x; clear_value x)
    | with_reducible first
        | apply Frame.ite | apply Frame.refl | assumption | apply Frame.foldl (k := fun u _ => ?_)
        | apply Frame.after (State.calResult_frame ..) | apply Frame.step (State.raise_frame ..)
        | apply Frame.after (State.safeDie_frame ..) | apply Frame.after (State.safeSettle_frame ..)
        | apply Frame.step (State.setF_frame ..) | apply Frame.after (State.setMode_frame ..)
        | ((conv => arg 3; arg 20); apply Frame.step (State.mk_frame ..))
    | exact rfl | exact Or.inl rfl | exact Or.inr rfl | (fail_if_no_progress simp; exact rfl) | split | dsimp only

theorem State.memFatal_frame (s : State) : Frame 0x59fa1de79b s (State.memFatal s) := by
  unfold State.memFatal
  iterate 80 all_goals try first
    | with_reducible first
        | apply Frame.refl | assumption | apply Frame.after (State.enterSafe_frame ..)
        | apply Frame.step (State.raise_frame ..)
    | exact rfl | (fail_if_no_progress simp; exact rfl) | dsimp only

end Sys2Proof.Machine
end

