-- ==== Sys2Proof/Laws/FrameThresholds.lean ====
section
/-! SUPPORT. The frame of every operation of Machine/Thresholds.lean. -/

set_option linter.all false

namespace Sys2Proof.Machine

theorem State.bumpVersion_frame (s : State) (x : Nat) : Frame 0x200 s (State.bumpVersion s x) := by
  unfold State.bumpVersion
  iterate 80 all_goals try first
    | (intro x; clear_value x)
    | with_reducible first
        | apply Frame.refl | assumption | ((conv => arg 3; arg 20); apply Frame.step (State.mk_frame ..))
    | exact rfl | exact Or.inl rfl | exact Or.inr rfl | dsimp only

theorem State.setDrift_frame (s : State) (x : Nat) (l : List Int) : Frame 0x200 s (State.setDrift s x l) := by
  unfold State.setDrift
  iterate 80 all_goals try first
    | (intro x; clear_value x)
    | with_reducible first
        | apply Frame.refl | assumption | ((conv => arg 3; arg 20); apply Frame.step (State.mk_frame ..))
    | exact rfl | exact Or.inl rfl | exact Or.inr rfl | dsimp only

theorem State.setRecord_frame (s : State) (x : Nat) (b : Bytes) : Frame 0x200 s (State.setRecord s x b) := by
  unfold State.setRecord
  iterate 80 all_goals try first
    | (intro x; clear_value x)
    | with_reducible first
        | apply Frame.refl | assumption | apply Frame.after (State.bumpVersion_frame ..)
        | apply Frame.after (State.setDrift_frame ..) | ((conv => arg 3; arg 20); apply Frame.step (State.mk_frame ..))
    | exact rfl | exact Or.inl rfl | exact Or.inr rfl | (fail_if_no_progress simp; exact rfl) | dsimp only

theorem State.bumpAll_frame (s : State) : Frame 0x200 s (State.bumpAll s) := by
  unfold State.bumpAll
  iterate 80 all_goals try first
    | (intro x; clear_value x)
    | with_reducible first
        | apply Frame.refl | assumption | ((conv => arg 3; arg 20); apply Frame.step (State.mk_frame ..))
    | exact rfl | exact Or.inl rfl | exact Or.inr rfl | dsimp only

theorem State.applyEstimate_frame (s : State) (p : Pool) : Frame 0x48150212 s (State.applyEstimate s p).2 := by
  unfold State.applyEstimate
  iterate 80 all_goals try first
    | lift_lets
    | (intro x; refine Frame.cut (m := 0x48150212) (s := s) (t := x) ?_ fun _ => ?_; (on_goal 1 => subst x); (on_goal 2 => clear_value x))
    | (intro x; clear_value x)
    | with_reducible first
        | apply Frame.ite | apply Frame.refl | assumption | apply Frame.step (State.bump_frame ..)
        | apply Frame.after (State.bumpVersion_frame ..) | apply Frame.step (State.raise_frame ..)
        | apply Frame.after (State.setDrift_frame ..)
    | exact rfl | (fail_if_no_progress simp; exact rfl) | split | dsimp only

end Sys2Proof.Machine
end

