-- ==== Sys2Proof/Laws/FrameSeq.lean ====
section
/-! SUPPORT. The frame of every operation of Machine/Seq.lean. -/

set_option linter.all false

namespace Sys2Proof.Machine

theorem State.unwait_frame (s : State) (id : Nat) : Frame 0x100 s (State.unwait s id) := by
  unfold State.unwait
  iterate 80 all_goals try first
    | (intro x; clear_value x)
    | with_reducible first
        | apply Frame.refl | assumption | ((conv => arg 3; arg 20); apply Frame.step (State.mk_frame ..))
    | exact rfl | exact Or.inl rfl | exact Or.inr rfl | dsimp only

theorem State.joinAll_frame (s : State) (o : DieOp) : Frame 0x100 s (State.joinAll s o).2 := by
  unfold State.joinAll
  iterate 80 all_goals try first
    | with_reducible first
        | apply Frame.ite | apply Frame.refl | assumption | apply Frame.foldl (k := fun u _ => ?_)
        | apply Frame.foldl_snd (k := fun q _ => ?_) | apply Frame.after (State.unwait_frame ..)
    | exact rfl | (fail_if_no_progress simp; exact rfl) | split | dsimp only

theorem State.filler_frame (s : State) (stripe : Nat) : Frame 0x8000 s (State.filler s stripe).2 := by
  unfold State.filler
  iterate 80 all_goals try first
    | lift_lets
    | (intro x; refine Frame.cut (m := 0x8000) (s := s) (t := x) ?_ fun _ => ?_; (on_goal 1 => subst x); (on_goal 2 => clear_value x))
    | (intro x; clear_value x)
    | with_reducible first
        | apply Frame.refl | assumption | apply Frame.after (State.draw_frame ..)
        | (apply Frame.of_pair (State.draw_frame ..); (on_goal 1 => assumption))
    | exact rfl | (fail_if_no_progress simp; exact rfl) | split | dsimp only

theorem State.ledgerPage_frame (s : State) (page : Nat) (entry : Bytes) :
    Frame 0x8000 s (State.ledgerPage s page entry).2 := by
  unfold State.ledgerPage
  iterate 80 all_goals try first
    | lift_lets
    | (intro x; refine Frame.cut (m := 0x8000) (s := s) (t := x) ?_ fun _ => ?_; (on_goal 1 => subst x); (on_goal 2 => clear_value x))
    | (intro x; clear_value x)
    | with_reducible first
        | apply Frame.refl | assumption | apply Frame.after (State.draw_frame ..)
        | (apply Frame.of_pair (State.draw_frame ..); (on_goal 1 => assumption))
    | exact rfl | (fail_if_no_progress simp; exact rfl) | split | dsimp only

theorem State.eraseRange_frame (s : State) (k : Nat) (blocks : List Nat) :
    Frame 0x2002900 s (State.eraseRange s k blocks) := by
  unfold State.eraseRange
  iterate 80 all_goals try first
    | lift_lets
    | (intro x; refine Frame.cut (m := 0x2002900) (s := s) (t := x) ?_ fun _ => ?_; (on_goal 1 => subst x); (on_goal 2 => clear_value x))
    | (intro x; clear_value x)
    | with_reducible first
        | apply Frame.ite | apply Frame.refl | assumption | apply Frame.after (State.phRange_frame ..)
        | ((conv => arg 3; arg 20); apply Frame.step (State.mk_frame ..))
    | exact rfl | exact Or.inl rfl | exact Or.inr rfl | (fail_if_no_progress simp; exact rfl) | split | dsimp only

theorem State.startStep_frame (s : State) (k : Nat) (o : DieOp) (step : Nat) :
    Frame 0x4215a912 s (State.startStep s k o step) := by
  unfold State.startStep
  iterate 80 all_goals try first
    | lift_lets
    | (intro x; refine Frame.cut (m := 0x4215a912) (s := s) (t := x) ?_ fun _ => ?_; (on_goal 1 => subst x); (on_goal 2 => clear_value x))
    | (intro x; clear_value x)
    | with_reducible first
        | apply Frame.ite | apply Frame.refl | assumption | apply Frame.after (State.eraseRange_frame ..)
        | apply Frame.after (State.ledgerPage_frame ..)
        | (apply Frame.of_pair (State.ledgerPage_frame ..); (on_goal 1 => assumption))
        | apply Frame.step (State.raise_frame ..) | apply Frame.after (State.setDie_frame ..)
        | apply Frame.after (State.want_frame ..) | ((conv => arg 3; arg 20); apply Frame.step (State.mk_frame ..))
    | exact rfl | exact Or.inl rfl | exact Or.inr rfl | (fail_if_no_progress simp; exact rfl) | split | dsimp only

theorem State.enqueueErase_frame (s : State) (k : Nat) (blocks : List Nat) (purpose : Purpose) (origin : Origin) (ord : Nat) (recovery : Bool) :
    Frame 0x42152912 s (State.enqueueErase s k blocks purpose origin ord recovery) := by
  unfold State.enqueueErase
  iterate 80 all_goals try first
    | lift_lets
    | (intro x; refine Frame.cut (m := 0x42152912) (s := s) (t := x) ?_ fun _ => ?_; (on_goal 1 => subst x); (on_goal 2 => clear_value x))
    | (intro x; clear_value x)
    | with_reducible first
        | apply Frame.ite | apply Frame.refl | assumption | apply Frame.after (State.enqueue_frame ..)
        | apply Frame.after (State.eraseRange_frame ..) | apply Frame.after (State.fresh_frame ..)
        | (apply Frame.of_pair (State.fresh_frame ..); (on_goal 1 => assumption)) | apply Frame.step (State.raise_frame ..)
        | ((conv => arg 3; arg 20); apply Frame.step (State.mk_frame ..))
    | exact rfl | exact Or.inl rfl | exact Or.inr rfl | (fail_if_no_progress simp; exact rfl) | split | dsimp only

theorem State.rangesGo_frame (s : State) : Frame 0x2002900 s (State.rangesGo s) := by
  unfold State.rangesGo
  iterate 80 all_goals try first
    | lift_lets
    | (intro x; refine Frame.cut (m := 0x2002900) (s := u) (t := x) ?_ fun _ => ?_; (on_goal 1 => subst x); (on_goal 2 => clear_value x))
    | (intro x; refine Frame.cut (m := 0x2002900) (s := s) (t := x) ?_ fun _ => ?_; (on_goal 1 => subst x); (on_goal 2 => clear_value x))
    | (intro x; clear_value x)
    | with_reducible first
        | apply Frame.ite | apply Frame.refl | assumption | apply Frame.foldl (k := fun u _ => ?_)
        | apply Frame.after (State.eraseRange_frame ..) | ((conv => arg 3; arg 20); apply Frame.step (State.mk_frame ..))
    | exact rfl | exact Or.inl rfl | exact Or.inr rfl | (fail_if_no_progress simp; exact rfl) | split | dsimp only

theorem State.phWalk_frame (s : State) (r : Range) : Frame 0x42150812 s (State.phWalk s r) := by
  unfold State.phWalk
  iterate 80 all_goals try first
    | with_reducible first
        | apply Frame.refl | assumption | apply Frame.foldl (k := fun u _ => ?_) | apply Frame.after (State.phDrop_frame ..)
    | exact rfl | (fail_if_no_progress simp; exact rfl) | dsimp only

theorem State.rangeWalkEnd_frame (s : State) : Frame 0x42150812 s (State.rangeWalkEnd s) := by
  unfold State.rangeWalkEnd
  iterate 80 all_goals try first
    | lift_lets
    | (intro x; refine Frame.cut (m := 0x42150812) (s := s) (t := x) ?_ fun _ => ?_; (on_goal 1 => subst x); (on_goal 2 => clear_value x))
    | (intro x; clear_value x)
    | with_reducible first
        | apply Frame.ite | apply Frame.refl | assumption | apply Frame.after (State.phCount_frame ..)
        | apply Frame.after (State.phWalk_frame ..) | ((conv => arg 3; arg 20); apply Frame.step (State.mk_frame ..))
    | exact rfl | exact Or.inl rfl | exact Or.inr rfl | (fail_if_no_progress simp; exact rfl) | split | dsimp only

theorem execRangeWalkEnd_frame (s : State) : Frames 0x42152912 s (execRangeWalkEnd s) := by
  unfold execRangeWalkEnd
  iterate 80 all_goals try first
    | with_reducible first
        | apply Frames.next | apply Frame.refl | assumption | apply Frame.after (State.rangeWalkEnd_frame ..)
        | apply Frame.after (State.rangesGo_frame ..)
    | exact rfl | (fail_if_no_progress simp; exact rfl) | dsimp only

theorem State.addJob_frame (s : State) (j : Job) : Frame 0x100 s (State.addJob s j) := by
  unfold State.addJob
  iterate 80 all_goals try first
    | (intro x; clear_value x)
    | with_reducible first
        | apply Frame.refl | assumption | ((conv => arg 3; arg 20); apply Frame.step (State.mk_frame ..))
    | exact rfl | exact Or.inl rfl | exact Or.inr rfl | dsimp only

theorem State.makeJobs_frame (s : State) (l : List Job) : Frame 0x0 s (s.makeJobs l).2 := by
  induction l generalizing s with
  | nil => exact Frame.refl s
  | cons a l ih => exact ((State.fresh_frame s).mono rfl).trans (ih _)

theorem State.release_frame (s : State) (k : Nat) : Frame 0x800000100 s (State.release s k) := by
  unfold State.release
  iterate 80 all_goals try first
    | lift_lets
    | (intro x; refine Frame.cut (m := 0x800000100) (s := s) (t := x) ?_ fun _ => ?_; (on_goal 1 => subst x); (on_goal 2 => clear_value x))
    | (intro x; clear_value x)
    | with_reducible first
        | apply Frame.ite | apply Frame.refl | assumption | apply Frame.after (State.setDie_frame ..)
        | apply Frame.after (State.setDieSt_frame ..) | apply Frame.after (State.want_frame ..)
        | ((conv => arg 3; arg 20); apply Frame.step (State.mk_frame ..))
    | exact rfl | exact Or.inl rfl | exact Or.inr rfl | (fail_if_no_progress simp; exact rfl) | split | dsimp only

theorem State.closePool_frame (s : State) (rd : Nat) : Frame 0x200 s (State.closePool s rd) := by
  unfold State.closePool
  iterate 80 all_goals try first
    | lift_lets
    | (intro x; refine Frame.cut (m := 0x200) (s := s) (t := x) ?_ fun _ => ?_; (on_goal 1 => subst x); (on_goal 2 => clear_value x))
    | (intro x; clear_value x)
    | with_reducible first
        | apply Frame.ite | apply Frame.refl | assumption | ((conv => arg 3; arg 20); apply Frame.step (State.mk_frame ..))
    | exact rfl | exact Or.inl rfl | exact Or.inr rfl | split | dsimp only

theorem State.wantHeader_frame (s : State) (k : Nat) : Frame 0x100 s (State.wantHeader s k) := by
  unfold State.wantHeader
  iterate 80 all_goals try first
    | with_reducible first
        | apply Frame.ite | apply Frame.refl | assumption | apply Frame.after (State.want_frame ..)
    | exact rfl | (fail_if_no_progress simp; exact rfl) | split | dsimp only

theorem State.jobLeavesDie_frame (s : State) (j : Job) : Frame 0x800000300 s (State.jobLeavesDie s j) := by
  unfold State.jobLeavesDie
  iterate 80 all_goals try first
    | lift_lets
    | (intro x; refine Frame.cut (m := 0x800000300) (s := s) (t := x) ?_ fun _ => ?_; (on_goal 1 => subst x); (on_goal 2 => clear_value x))
    | (intro x; clear_value x)
    | with_reducible first
        | apply Frame.ite | apply Frame.refl | assumption | apply Frame.after (State.closePool_frame ..)
        | apply Frame.after (State.release_frame ..) | apply Frame.after (State.setDie_frame ..)
        | apply Frame.after (State.wantHeader_frame ..) | ((conv => arg 3; arg 20); apply Frame.step (State.mk_frame ..))
    | exact rfl | exact Or.inl rfl | exact Or.inr rfl | (fail_if_no_progress simp; exact rfl) | split | dsimp only

theorem State.joinInDie_frame (s : State) (k p : Nat) (o : DieOp) (js : List Job) :
    Frame 0x100 s (State.joinInDie s k p o js) := by
  unfold State.joinInDie
  iterate 80 all_goals try first
    | lift_lets
    | (intro x; refine Frame.cut (m := 0x100) (s := u) (t := x) ?_ fun _ => ?_; (on_goal 1 => subst x); (on_goal 2 => clear_value x))
    | (intro x; refine Frame.cut (m := 0x100) (s := s) (t := x) ?_ fun _ => ?_; (on_goal 1 => subst x); (on_goal 2 => clear_value x))
    | (intro x; clear_value x)
    | with_reducible first
        | apply Frame.ite | apply Frame.refl | assumption | apply Frame.foldl (k := fun u _ => ?_)
        | apply Frame.after (State.setDie_frame ..) | apply Frame.after (State.setJob_frame ..)
        | apply Frame.after (State.wantHeader_frame ..) | ((conv => arg 3; arg 20); apply Frame.step (State.mk_frame ..))
    | exact rfl | exact Or.inl rfl | exact Or.inr rfl | (fail_if_no_progress simp; exact rfl) | split | dsimp only

theorem State.enqueueRead_frame (s : State) (p : Nat) (js : List Job) (base : Option (List Int)) (join : Bool) :
    Frame 0x100 s (State.enqueueRead s p js base join) := by
  unfold State.enqueueRead
  iterate 80 all_goals try first
    | lift_lets
    | (intro x; refine Frame.cut (m := 0x100) (s := s) (t := x) ?_ fun _ => ?_; (on_goal 1 => subst x); (on_goal 2 => clear_value x))
    | (intro x; clear_value x)
    | with_reducible first
        | apply Frame.ite | apply Frame.refl | assumption | apply Frame.after (State.enqueue_frame ..)
        | apply Frame.after (State.fresh_frame ..) | (apply Frame.of_pair (State.fresh_frame ..); (on_goal 1 => assumption))
        | apply Frame.after (State.joinInDie_frame ..) | ((conv => arg 3; arg 20); apply Frame.step (State.mk_frame ..))
    | exact rfl | exact Or.inl rfl | exact Or.inr rfl | (fail_if_no_progress simp; exact rfl) | split | dsimp only

theorem State.enqueueReads_frame (s : State) (jobs : List Job) (base : Option (List Int)) (join : Bool) (gone : List Nat) :
    Frame 0x100 s (State.enqueueReads s jobs base join gone) := by
  unfold State.enqueueReads
  iterate 80 all_goals try first
    | lift_lets
    | (intro x; refine Frame.cut (m := 0x100) (s := u) (t := x) ?_ fun _ => ?_; (on_goal 1 => subst x); (on_goal 2 => clear_value x))
    | (intro x; refine Frame.cut (m := 0x100) (s := s) (t := x) ?_ fun _ => ?_; (on_goal 1 => subst x); (on_goal 2 => clear_value x))
    | (intro x; clear_value x)
    | with_reducible first
        | apply Frame.refl | assumption | apply Frame.foldl (k := fun u _ => ?_) | apply Frame.after (State.addJob_frame ..)
        | apply Frame.after (State.enqueueRead_frame ..) | ((conv => arg 3; arg 20); apply Frame.step (State.mk_frame ..))
    | exact rfl | exact Or.inl rfl | exact Or.inr rfl | (fail_if_no_progress simp; exact rfl) | split | dsimp only

end Sys2Proof.Machine
end

