-- ==== Sys2Proof/Laws/FrameLadder.lean ====
section
/-! SUPPORT. The frame of every operation of Machine/Ladder.lean. -/

set_option linter.all false

namespace Sys2Proof.Machine

theorem State.ladderRead_frame (s : State) (j : Job) (base : Option (List Int)) :
    Frame 0x100 s (State.ladderRead s j base) := by
  unfold State.ladderRead
  iterate 80 all_goals try first
    | lift_lets
    | (intro x; refine Frame.cut (m := 0x100) (s := s) (t := x) ?_ fun _ => ?_; (on_goal 1 => subst x); (on_goal 2 => clear_value x))
    | (intro x; clear_value x)
    | with_reducible first
        | apply Frame.ite | apply Frame.refl | assumption | apply Frame.after (State.enqueue_frame ..)
        | apply Frame.after (State.fresh_frame ..) | (apply Frame.of_pair (State.fresh_frame ..); (on_goal 1 => assumption))
        | apply Frame.after (State.setJob_frame ..) | ((conv => arg 3; arg 20); apply Frame.step (State.mk_frame ..))
    | exact rfl | exact Or.inl rfl | exact Or.inr rfl | (fail_if_no_progress simp; exact rfl) | split | dsimp only

theorem State.startLadder_frame (s : State) (j : Job) (m : Nat) : Frame 0x100 s (State.startLadder s j m) := by
  unfold State.startLadder
  iterate 80 all_goals try first
    | lift_lets
    | (intro x; refine Frame.cut (m := 0x100) (s := s) (t := x) ?_ fun _ => ?_; (on_goal 1 => subst x); (on_goal 2 => clear_value x))
    | (intro x; clear_value x)
    | with_reducible first
        | apply Frame.ite | apply Frame.refl | assumption | apply Frame.after (State.ladderRead_frame ..)
        | ((conv => arg 3; arg 20); apply Frame.step (State.mk_frame ..))
    | exact rfl | exact Or.inl rfl | exact Or.inr rfl | (fail_if_no_progress simp; exact rfl) | split | dsimp only

theorem State.toContext_frame (s : State) (j : Job) (why : Nat) : Frame 0x100 s (State.toContext s j why) := by
  unfold State.toContext
  iterate 80 all_goals try first
    | (intro x; clear_value x)
    | with_reducible first
        | apply Frame.refl | assumption | apply Frame.after (State.setJob_frame ..)
        | ((conv => arg 3; arg 20); apply Frame.step (State.mk_frame ..))
    | exact rfl | exact Or.inl rfl | exact Or.inr rfl | (fail_if_no_progress simp; exact rfl) | dsimp only

theorem State.toDecoder_frame (s : State) (j : Job) : Frame 0x300 s (State.toDecoder s j) := by
  unfold State.toDecoder
  iterate 80 all_goals try first
    | lift_lets
    | (intro x; refine Frame.cut (m := 0x300) (s := s) (t := x) ?_ fun _ => ?_; (on_goal 1 => subst x); (on_goal 2 => clear_value x))
    | (intro x; clear_value x)
    | with_reducible first
        | apply Frame.refl | assumption | apply Frame.after (State.setJob_frame ..)
        | ((conv => arg 3; arg 20); apply Frame.step (State.mk_frame ..))
    | exact rfl | exact Or.inl rfl | exact Or.inr rfl | (fail_if_no_progress simp; exact rfl) | dsimp only

theorem State.setCoreJob_frame (s : State) (c : Nat) (j : Option Nat) : Frame 0x200 s (State.setCoreJob s c j) := by
  unfold State.setCoreJob
  iterate 80 all_goals try first
    | (intro x; clear_value x)
    | with_reducible first
        | apply Frame.refl | assumption | ((conv => arg 3; arg 20); apply Frame.step (State.mk_frame ..))
    | exact rfl | exact Or.inl rfl | exact Or.inr rfl | dsimp only

theorem State.coreTake_frame (s : State) (c : Nat) : Frame 0x300 s (State.coreTake s c) := by
  unfold State.coreTake
  iterate 80 all_goals try first
    | lift_lets
    | (intro x; refine Frame.cut (m := 0x300) (s := s) (t := x) ?_ fun _ => ?_; (on_goal 1 => subst x); (on_goal 2 => clear_value x))
    | (intro x; clear_value x)
    | with_reducible first
        | apply Frame.ite | apply Frame.refl | assumption | apply Frame.after (State.setCoreJob_frame ..)
        | apply Frame.after (State.setJob_frame ..) | ((conv => arg 3; arg 20); apply Frame.step (State.mk_frame ..))
    | exact rfl | exact Or.inl rfl | exact Or.inr rfl | (fail_if_no_progress simp; exact rfl) | split | dsimp only

theorem State.countDecode_frame (s : State) (j : Job) : Frame 0x8000000 s (State.countDecode s j) := by
  unfold State.countDecode
  iterate 80 all_goals try first
    | lift_lets
    | (intro x; refine Frame.cut (m := 0x8000000) (s := s) (t := x) ?_ fun _ => ?_; (on_goal 1 => subst x); (on_goal 2 => clear_value x))
    | (intro x; clear_value x)
    | with_reducible first
        | apply Frame.ite | apply Frame.refl | assumption | apply Frame.step (State.bump_frame ..)
    | exact rfl | (fail_if_no_progress simp; exact rfl) | split | dsimp only

theorem State.withdraw_frame (s : State) (j : Job) : Frame 0x800000300 s (State.withdraw s j) := by
  unfold State.withdraw
  iterate 80 all_goals try first
    | lift_lets
    | (intro x; refine Frame.cut (m := 0x800000300) (s := s) (t := x) ?_ fun _ => ?_; (on_goal 1 => subst x); (on_goal 2 => clear_value x))
    | (intro x; clear_value x)
    | with_reducible first
        | apply Frame.refl | assumption | apply Frame.after (State.dropJob_frame ..)
        | apply Frame.after (State.jobLeavesDie_frame ..) | apply Frame.after (State.setCoreJob_frame ..)
        | ((conv => arg 3; arg 20); apply Frame.step (State.mk_frame ..))
    | exact rfl | exact Or.inl rfl | exact Or.inr rfl | (fail_if_no_progress simp; exact rfl) | split | dsimp only

theorem State.cancelJob_frame (s : State) (j : Job) : Frame 0x800002300 s (State.cancelJob s j) := by
  unfold State.cancelJob
  iterate 80 all_goals try first
    | lift_lets
    | (intro x; refine Frame.cut (m := 0x800002300) (s := u) (t := x) ?_ fun _ => ?_; (on_goal 1 => subst x); (on_goal 2 => clear_value x))
    | (intro x; refine Frame.cut (m := 0x800002300) (s := s) (t := x) ?_ fun _ => ?_; (on_goal 1 => subst x); (on_goal 2 => clear_value x))
    | (intro x; clear_value x)
    | with_reducible first
        | apply Frame.refl | assumption | apply Frame.foldl (k := fun u _ => ?_)
        | apply Frame.after (State.withdraw_frame ..) | ((conv => arg 3; arg 20); apply Frame.step (State.mk_frame ..))
    | exact rfl | exact Or.inl rfl | exact Or.inr rfl | (fail_if_no_progress simp; exact rfl) | split | dsimp only

end Sys2Proof.Machine
end

