-- ==== Sys2Proof/Laws/FrameMemory.lean ====
section
/-! SUPPORT. The frame of every operation of Machine/Memory.lean. -/

set_option linter.all false

namespace Sys2Proof.Machine

theorem State.setWordErr_frame (s : State) (w e : Nat) : Frame 0x1000 s (State.setWordErr s w e) := by
  unfold State.setWordErr
  iterate 80 all_goals try first
    | (intro x; clear_value x)
    | with_reducible first
        | apply Frame.ite | apply Frame.refl | assumption | ((conv => arg 3; arg 20); apply Frame.step (State.mk_frame ..))
    | exact rfl | exact Or.inl rfl | exact Or.inr rfl | split | dsimp only

theorem State.wordMiscorrect_frame (s : State) (w v : Nat) : Frame 0x1800 s (State.wordMiscorrect s w v) := by
  unfold State.wordMiscorrect
  iterate 80 all_goals try first
    | lift_lets
    | (intro x; refine Frame.cut (m := 0x1800) (s := s) (t := x) ?_ fun _ => ?_; (on_goal 1 => subst x); (on_goal 2 => clear_value x))
    | (intro x; clear_value x)
    | with_reducible first
        | apply Frame.ite | apply Frame.refl | assumption | apply Frame.after (State.setLine_frame ..)
        | ((conv => arg 3; arg 20); apply Frame.step (State.mk_frame ..))
    | exact rfl | exact Or.inl rfl | exact Or.inr rfl | (fail_if_no_progress simp; exact rfl) | split | dsimp only

theorem State.forward_frame (s : State) (w rest : Nat) : Frame 0x42151812 s (State.forward s w rest) := by
  unfold State.forward
  iterate 80 all_goals try first
    | lift_lets
    | (intro x; refine Frame.cut (m := 0x42151812) (s := s) (t := x) ?_ fun _ => ?_; (on_goal 1 => subst x); (on_goal 2 => clear_value x))
    | (intro x; clear_value x)
    | with_reducible first
        | apply Frame.ite | apply Frame.refl | assumption | apply Frame.step (State.raise_frame ..)
        | apply Frame.step (State.setF_frame ..) | apply Frame.step (State.setR_frame ..)
        | apply Frame.after (State.wordMiscorrect_frame ..) | ((conv => arg 3; arg 20); apply Frame.step (State.mk_frame ..))
    | exact rfl | exact Or.inl rfl | exact Or.inr rfl | (fail_if_no_progress simp; exact rfl) | split | dsimp only

theorem State.logMacro_frame (s : State) (bank m : Nat) : Frame 0x2000000 s (State.logMacro s bank m) := by
  unfold State.logMacro
  iterate 80 all_goals try first
    | with_reducible first
        | apply Frame.refl | assumption | apply Frame.step (State.setR_frame ..)
    | exact rfl | (fail_if_no_progress simp; exact rfl) | split | dsimp only

theorem State.markMacro_frame (s : State) (bank m : Nat) : Frame 0x2001000 s (State.markMacro s bank m) := by
  unfold State.markMacro
  iterate 80 all_goals try first
    | lift_lets
    | (intro x; refine Frame.cut (m := 0x2001000) (s := s) (t := x) ?_ fun _ => ?_; (on_goal 1 => subst x); (on_goal 2 => clear_value x))
    | (intro x; clear_value x)
    | with_reducible first
        | apply Frame.refl | assumption | apply Frame.after (State.logMacro_frame ..)
        | apply Frame.step (State.setF_frame ..) | ((conv => arg 3; arg 20); apply Frame.step (State.mk_frame ..))
    | exact rfl | exact Or.inl rfl | exact Or.inr rfl | (fail_if_no_progress simp; exact rfl) | dsimp only

theorem State.hardFault_frame (s : State) (w m rest : Nat) : Frame 0x42151812 s (State.hardFault s w m rest) := by
  unfold State.hardFault
  iterate 80 all_goals try first
    | lift_lets
    | (intro x; refine Frame.cut (m := 0x42151812) (s := s) (t := x) ?_ fun _ => ?_; (on_goal 1 => subst x); (on_goal 2 => clear_value x))
    | (intro x; clear_value x)
    | with_reducible first
        | apply Frame.ite | apply Frame.refl | assumption | apply Frame.after (State.forward_frame ..)
        | apply Frame.after (State.markMacro_frame ..) | apply Frame.step (State.raise_frame ..)
        | ((conv => arg 3; arg 20); apply Frame.step (State.mk_frame ..))
    | exact rfl | exact Or.inl rfl | exact Or.inr rfl | (fail_if_no_progress simp; exact rfl) | split | dsimp only

theorem State.logWord_frame (s : State) (w sym : Nat) (bad : Bool) : Frame 0x2000000 s (State.logWord s w sym bad) := by
  unfold State.logWord
  iterate 80 all_goals try first
    | with_reducible first
        | apply Frame.refl | assumption | apply Frame.step (State.setR_frame ..)
    | exact rfl | (fail_if_no_progress simp; exact rfl) | dsimp only

theorem State.readAgain_frame (s : State) (j : Job) : Frame 0x100 s (State.readAgain s j) := by
  unfold State.readAgain
  iterate 80 all_goals try first
    | lift_lets
    | (intro x; refine Frame.cut (m := 0x100) (s := s) (t := x) ?_ fun _ => ?_; (on_goal 1 => subst x); (on_goal 2 => clear_value x))
    | (intro x; clear_value x)
    | with_reducible first
        | apply Frame.refl | assumption | apply Frame.after (State.enqueueReads_frame ..)
        | apply Frame.after (State.makeJobs_frame ..)
        | (apply Frame.of_pair (State.makeJobs_frame ..); (on_goal 1 => assumption))
    | exact rfl | (fail_if_no_progress simp; exact rfl) | split | dsimp only

theorem State.floorPut_frame (s : State) (h : FloorHeld) (r : Option EnvRes) : Frame 0x400 s (State.floorPut s h r) := by
  unfold State.floorPut
  iterate 80 all_goals try first
    | lift_lets
    | (intro x; refine Frame.cut (m := 0x400) (s := s) (t := x) ?_ fun _ => ?_; (on_goal 1 => subst x); (on_goal 2 => clear_value x))
    | (intro x; clear_value x)
    | with_reducible first
        | apply Frame.ite | apply Frame.refl | assumption | ((conv => arg 3; arg 20); apply Frame.step (State.mk_frame ..))
    | exact rfl | exact Or.inl rfl | exact Or.inr rfl | split | dsimp only

theorem State.floorLost_frame (s : State) (w : Nat) : Frame 0x59fa1de79b s (State.floorLost s w) := by
  unfold State.floorLost
  iterate 80 all_goals try first
    | lift_lets
    | (intro x; refine Frame.cut (m := 0x59fa1de79b) (s := s) (t := x) ?_ fun _ => ?_; (on_goal 1 => subst x); (on_goal 2 => clear_value x))
    | (intro x; clear_value x)
    | with_reducible first
        | apply Frame.ite | apply Frame.refl | assumption | apply Frame.step (State.bump_frame ..)
        | apply Frame.after (State.floorPut_frame ..) | apply Frame.after (State.memFatal_frame ..)
        | apply Frame.after (State.readAgain_frame ..) | ((conv => arg 3; arg 20); apply Frame.step (State.mk_frame ..))
    | exact rfl | exact Or.inl rfl | exact Or.inr rfl | (fail_if_no_progress simp; exact rfl) | split | dsimp only

theorem State.stagingLost_frame (s : State) (w : Nat) : Frame 0x59fa1de79b s (State.stagingLost s w) := by
  unfold State.stagingLost
  iterate 80 all_goals try first
    | with_reducible first
        | apply Frame.ite | apply Frame.refl | assumption | apply Frame.after (State.cancelJob_frame ..)
        | apply Frame.after (State.memFatal_frame ..) | apply Frame.after (State.readAgain_frame ..)
    | exact rfl | (fail_if_no_progress simp; exact rfl) | split | dsimp only

theorem State.cacheLost_frame (s : State) (w : Nat) : Frame 0x59fa1df7db s (State.cacheLost s w) := by
  unfold State.cacheLost
  iterate 80 all_goals try first
    | lift_lets
    | (intro x; refine Frame.cut (m := 0x59fa1df7db) (s := s) (t := x) ?_ fun _ => ?_; (on_goal 1 => subst x); (on_goal 2 => clear_value x))
    | (intro x; clear_value x)
    | with_reducible first
        | apply Frame.ite | apply Frame.refl | assumption | apply Frame.after (State.memFatal_frame ..)
        | ((conv => arg 3; arg 20); apply Frame.step (State.mk_frame ..))
    | exact rfl | exact Or.inl rfl | exact Or.inr rfl | (fail_if_no_progress simp; exact rfl) | split | dsimp only

theorem State.recoverWord_frame (s : State) (w : Nat) : Frame 0x59fa1dffdb s (State.recoverWord s w) := by
  unfold State.recoverWord
  iterate 80 all_goals try first
    | with_reducible first
        | apply Frame.ite | apply Frame.refl | assumption | apply Frame.after (State.cacheLost_frame ..)
        | apply Frame.after (State.floorLost_frame ..) | apply Frame.after (State.memFatal_frame ..)
        | apply Frame.after (State.phDrop_frame ..) | apply Frame.after (State.stagingLost_frame ..)
        | apply Frame.after (State.wordsRewritten_frame ..)
    | exact rfl | (fail_if_no_progress simp; exact rfl) | split | dsimp only

theorem State.readWord_frame (s : State) (w : Nat) : Frame 0x59fa1dffdb s (State.readWord s w).2.2 := by
  unfold State.readWord
  iterate 80 all_goals try first
    | lift_lets
    | (intro x; refine Frame.cut (m := 0x59fa1dffdb) (s := s) (t := x) ?_ fun _ => ?_; (on_goal 1 => subst x); (on_goal 2 => clear_value x))
    | (intro x; clear_value x)
    | with_reducible first
        | apply Frame.ite | apply Frame.refl | assumption | apply Frame.step (State.bump_frame ..)
        | apply Frame.after (State.hardFault_frame ..) | apply Frame.after (State.logWord_frame ..)
        | apply Frame.step (State.raise_frame ..) | apply Frame.after (State.recoverWord_frame ..)
        | apply Frame.step (State.setF_frame ..) | ((conv => arg 3; arg 20); apply Frame.step (State.mk_frame ..))
    | exact rfl | exact Or.inl rfl | exact Or.inr rfl | (fail_if_no_progress simp; exact rfl) | split | dsimp only

theorem State.readTags_frame (s : State) (st : Nat) : Frame 0x59fa1dffdb s (State.readTags s st) := by
  unfold State.readTags
  iterate 80 all_goals try first
    | with_reducible first
        | apply Frame.refl | assumption | apply Frame.foldl (k := fun u _ => ?_)
        | apply Frame.after (State.readWord_frame ..)
        | (apply Frame.of_triple (State.readWord_frame ..); (on_goal 1 => assumption))
    | exact rfl | (fail_if_no_progress simp; exact rfl) | dsimp only

theorem State.mergeWord_frame {m : Nat} (s : State) (w : Nat) (merge : State → State) (hm : ∀ u, Frame m u (merge u))
    (hn : 0x59fa1dffdb ||| m = m) : Frame m s (State.mergeWord s w merge) := by
  have k : Frame m s (s.readWord w).2.2 := (State.readWord_frame s w).mono (Frame.or_trans rfl hn)
  unfold State.mergeWord
  generalize s.readWord w = x at k
  dsimp only
  split
  · exact (((State.wordMiscorrect_frame ..).after k (Frame.or_trans rfl hn)).trans
      ((State.wordsKept_frame ..).mono (Frame.or_trans rfl hn))).trans (hm _)
  · exact k

theorem State.readLine_frame (s : State) (st w : Nat) : Frame 0x59fa1dffdb s (State.readLine s st w).2 := by
  unfold State.readLine
  iterate 80 all_goals try first
    | lift_lets
    | (intro x; refine Frame.cut (m := 0x59fa1dffdb) (s := q.2) (t := x) ?_ fun _ => ?_; (on_goal 1 => subst x); (on_goal 2 => clear_value x))
    | (intro x; refine Frame.cut (m := 0x59fa1dffdb) (s := u) (t := x) ?_ fun _ => ?_; (on_goal 1 => subst x); (on_goal 2 => clear_value x))
    | (intro x; refine Frame.cut (m := 0x59fa1dffdb) (s := s) (t := x) ?_ fun _ => ?_; (on_goal 1 => subst x); (on_goal 2 => clear_value x))
    | (intro x; clear_value x)
    | with_reducible first
        | apply Frame.ite | apply Frame.refl | assumption | apply Frame.foldl (k := fun u _ => ?_)
        | apply Frame.foldl_snd (k := fun q _ => ?_) | apply Frame.after (State.readWord_frame ..)
        | (apply Frame.of_triple (State.readWord_frame ..); (on_goal 1 => assumption))
    | exact rfl | (fail_if_no_progress simp; exact rfl) | split | dsimp only

theorem State.phLook_frame (s : State) (a : Nat) : Frame 0x59fa1dffdb s (State.phLook s a).2 := by
  unfold State.phLook
  iterate 80 all_goals try first
    | lift_lets
    | (intro x; refine Frame.cut (m := 0x59fa1dffdb) (s := s) (t := x) ?_ fun _ => ?_; (on_goal 1 => subst x); (on_goal 2 => clear_value x))
    | (intro x; clear_value x)
    | with_reducible first
        | apply Frame.refl | assumption | apply Frame.step (State.bump_frame ..)
        | apply Frame.after (State.readLine_frame ..)
        | (apply Frame.of_pair (State.readLine_frame ..); (on_goal 1 => assumption))
        | apply Frame.after (State.readTags_frame ..) | apply Frame.after (State.setLine_frame ..)
        | ((conv => arg 3; arg 20); apply Frame.step (State.mk_frame ..))
    | exact rfl | exact Or.inl rfl | exact Or.inr rfl | (fail_if_no_progress simp; exact rfl) | split | dsimp only

theorem State.envCheck_frame (s : State) (a : Nat) (look : Bool) : Frame 0x59fa1dffdb s (State.envCheck s a look).2 := by
  unfold State.envCheck
  iterate 80 all_goals try first
    | (intro x; clear_value x)
    | with_reducible first
        | apply Frame.ite | apply Frame.refl | assumption | apply Frame.after (State.phLook_frame ..)
        | (apply Frame.of_pair (State.phLook_frame ..); (on_goal 1 => assumption))
        | ((conv => arg 3; arg 20); apply Frame.step (State.mk_frame ..))
    | exact rfl | exact Or.inl rfl | exact Or.inr rfl | (fail_if_no_progress simp; exact rfl) | split | dsimp only

theorem State.envChecks_frame (s : State) (look : Bool) (l : List Nat) : Frame 0x59fa1dffdb s (s.envChecks look l).2 := by
  induction l generalizing s with
  | nil => exact Frame.refl s
  | cons a l ih => exact ((State.envCheck_frame s a look).mono rfl).trans (ih _)

theorem execWriteBack_frame (bank : Nat) (s : State) : Frames 0x1800 s (execWriteBack bank s) := by
  unfold execWriteBack
  iterate 80 all_goals try first
    | lift_lets
    | (intro x; refine Frame.cut (m := 0x1800) (s := s) (t := x) ?_ fun _ => ?_; (on_goal 1 => subst x); (on_goal 2 => clear_value x))
    | (intro x; clear_value x)
    | with_reducible first
        | apply Frames.next | apply Frame.refl | assumption | apply Frame.after (State.setWordErr_frame ..)
        | apply Frame.after (State.wordMiscorrect_frame ..) | ((conv => arg 3; arg 20); apply Frame.step (State.mk_frame ..))
    | exact rfl | exact Or.inl rfl | exact Or.inr rfl | (fail_if_no_progress simp; exact rfl) | split | dsimp only

theorem State.scrubWord_frame (s : State) (w err : Nat) : Frame 0x59fa1dffdb s (State.scrubWord s w err) := by
  unfold State.scrubWord
  iterate 80 all_goals try first
    | lift_lets
    | (intro x; refine Frame.cut (m := 0x59fa1dffdb) (s := s) (t := x) ?_ fun _ => ?_; (on_goal 1 => subst x); (on_goal 2 => clear_value x))
    | (intro x; clear_value x)
    | with_reducible first
        | apply Frame.ite | apply Frame.refl | assumption | apply Frame.after (State.readWord_frame ..)
        | (apply Frame.of_triple (State.readWord_frame ..); (on_goal 1 => assumption))
        | apply Frame.after (State.setWordErr_frame ..) | ((conv => arg 3; arg 20); apply Frame.step (State.mk_frame ..))
    | exact rfl | exact Or.inl rfl | exact Or.inr rfl | (fail_if_no_progress simp; exact rfl) | split | dsimp only

theorem State.scrubSpare_frame (s : State) (i err : Nat) : Frame 0x59fa1de79b s (State.scrubSpare s i err) := by
  unfold State.scrubSpare
  iterate 80 all_goals try first
    | lift_lets
    | (intro x; refine Frame.cut (m := 0x59fa1de79b) (s := s) (t := x) ?_ fun _ => ?_; (on_goal 1 => subst x); (on_goal 2 => clear_value x))
    | (intro x; clear_value x)
    | with_reducible first
        | apply Frame.ite | apply Frame.refl | assumption | apply Frame.step (State.bump_frame ..)
        | apply Frame.after (State.draw_frame ..) | (apply Frame.of_pair (State.draw_frame ..); (on_goal 1 => assumption))
        | apply Frame.after (State.logWord_frame ..) | apply Frame.after (State.memFatal_frame ..)
        | apply Frame.step (State.raise_frame ..)
    | exact rfl | (fail_if_no_progress simp; exact rfl) | split | dsimp only

theorem State.scrub_frame (s : State) (bank err ms : Nat) : Frame 0x59fa1dffdb s (State.scrub s bank err ms) := by
  unfold State.scrub
  iterate 80 all_goals try first
    | lift_lets
    | (intro x; refine Frame.cut (m := 0x59fa1dffdb) (s := s) (t := x) ?_ fun _ => ?_; (on_goal 1 => subst x); (on_goal 2 => clear_value x))
    | (intro x; clear_value x)
    | with_reducible first
        | apply Frame.ite | apply Frame.refl | assumption | apply Frame.step (State.bump_frame ..)
        | apply Frame.step (State.raise_frame ..) | apply Frame.after (State.scrubSpare_frame ..)
        | apply Frame.after (State.scrubWord_frame ..) | apply Frame.step (State.setR_frame ..)
        | ((conv => arg 3; arg 20); apply Frame.step (State.mk_frame ..))
    | exact rfl | exact Or.inl rfl | exact Or.inr rfl | (fail_if_no_progress simp; exact rfl) | split | dsimp only

theorem execScrubRead_frame (bank err ms : Nat) (s : State) : Frames 0x59fa1dffdb s (execScrubRead bank err ms s) := by
  unfold execScrubRead
  iterate 80 all_goals try first
    | with_reducible first
        | apply Frames.next | apply Frames.ite | apply Frame.ite | apply Frame.refl | assumption
        | apply Frame.after (State.scrub_frame ..)
    | exact rfl | (fail_if_no_progress simp; exact rfl) | split | dsimp only

theorem execScrubDeadline_frame (bank err ms : Nat) (s : State) :
    Frames 0x59fa1dffdb s (execScrubDeadline bank err ms s) := by
  unfold execScrubDeadline
  iterate 80 all_goals try first
    | with_reducible first
        | apply Frames.next | apply Frames.ite | apply Frame.ite | apply Frame.refl | assumption
        | apply Frame.step (State.bump_frame ..) | apply Frame.after (State.scrub_frame ..)
    | exact rfl | (fail_if_no_progress simp; exact rfl) | split | dsimp only

theorem State.selfTest_frame (s : State) (checker : Bool) (bad : List (Nat × Nat)) :
    Frame 0x42151812 s (State.selfTest s checker bad) := by
  unfold State.selfTest
  iterate 80 all_goals try first
    | lift_lets
    | (intro x; refine Frame.cut (m := 0x42151812) (s := u) (t := x) ?_ fun _ => ?_; (on_goal 1 => subst x); (on_goal 2 => clear_value x))
    | (intro x; refine Frame.cut (m := 0x42151812) (s := s) (t := x) ?_ fun _ => ?_; (on_goal 1 => subst x); (on_goal 2 => clear_value x))
    | (intro x; clear_value x)
    | with_reducible first
        | apply Frame.ite | apply Frame.refl | assumption | apply Frame.foldl (k := fun u _ => ?_)
        | apply Frame.after (State.forward_frame ..) | apply Frame.after (State.markMacro_frame ..)
        | apply Frame.step (State.raise_frame ..) | apply Frame.step (State.setF_frame ..)
        | ((conv => arg 3; arg 20); apply Frame.step (State.mk_frame ..))
    | exact rfl | exact Or.inl rfl | exact Or.inr rfl | (fail_if_no_progress simp; exact rfl) | split | dsimp only

theorem State.tagBits_frame (s : State) (st w : Nat) (f : Line → Line) : Frame 0x59fa1dffdb s (State.tagBits s st w f) := by
  unfold State.tagBits
  iterate 80 all_goals try first
    | with_reducible first
        | apply Frame.refl | assumption | apply Frame.step (State.mergeWord_frame ..)
        | apply Frame.after (State.setLine_frame ..)
    | exact rfl | (fail_if_no_progress simp; exact rfl) | intro u | dsimp only

theorem State.setLocks_frame (s : State) (sets : List Nat) (mask : Nat) (b : Bool) :
    Frame 0x59fa1dffdb s (State.setLocks s sets mask b) := by
  unfold State.setLocks
  iterate 80 all_goals try first
    | (intro x; clear_value x)
    | with_reducible first
        | apply Frame.refl | assumption | apply Frame.foldl (k := fun u _ => ?_) | apply Frame.after (State.phCount_frame ..)
        | apply Frame.after (State.tagBits_frame ..) | ((conv => arg 3; arg 20); apply Frame.step (State.mk_frame ..))
    | exact rfl | exact Or.inl rfl | exact Or.inr rfl | (fail_if_no_progress simp; exact rfl) | dsimp only

theorem execLockWays_frame (id : Nat) (s : State) : Frames 0x59fa1dffdb s (execLockWays id s) := by
  unfold execLockWays
  iterate 80 all_goals try first
    | lift_lets
    | (intro x; refine Frame.cut (m := 0x59fa1dffdb) (s := s) (t := x) ?_ fun _ => ?_; (on_goal 1 => subst x); (on_goal 2 => clear_value x))
    | (intro x; clear_value x)
    | with_reducible first
        | apply Frames.next | apply Frames.ite | apply Frame.ite | apply Frame.refl | assumption
        | apply Frame.after (State.finish_frame ..) | apply Frame.after (State.setLocks_frame ..)
    | exact rfl | (fail_if_no_progress simp; exact rfl) | split | dsimp only

theorem execUnlockWays_frame (id : Nat) (s : State) : Frames 0x59fa1dffdb s (execUnlockWays id s) := by
  unfold execUnlockWays
  iterate 80 all_goals try first
    | with_reducible first
        | apply Frames.next | apply Frame.refl | assumption | apply Frame.after (State.finish_frame ..)
        | apply Frame.after (State.setLocks_frame ..)
    | exact rfl | (fail_if_no_progress simp; exact rfl) | split | dsimp only

end Sys2Proof.Machine
end

