-- ==== Sys2Proof/Laws/FramePostmark.lean ====
section
/-! SUPPORT. The frame of every operation of Machine/Postmark.lean. -/

set_option linter.all false

namespace Sys2Proof.Machine

theorem State.pmRefresh_frame (s : State) (old : Nat) : Frame 0x40950052 s (State.pmRefresh s old) := by
  unfold State.pmRefresh
  iterate 80 all_goals try first
    | lift_lets
    | (intro x; refine Frame.cut (m := 0x40950052) (s := s) (t := x) ?_ fun _ => ?_; (on_goal 1 => subst x); (on_goal 2 => clear_value x))
    | (intro x; clear_value x)
    | with_reducible first
        | apply Frame.ite | apply Frame.refl | assumption | apply Frame.step (State.raise_frame ..)
        | apply Frame.step (State.setF_frame ..) | apply Frame.step (State.setR_frame ..)
    | exact rfl | (fail_if_no_progress simp; exact rfl) | split | dsimp only

theorem State.pmOwn_frame (s : State) : Frame 0x20 s (State.pmOwn s) := by
  unfold State.pmOwn
  iterate 80 all_goals try first
    | lift_lets
    | (intro x; refine Frame.cut (m := 0x20) (s := s) (t := x) ?_ fun _ => ?_; (on_goal 1 => subst x); (on_goal 2 => clear_value x))
    | (intro x; clear_value x)
    | with_reducible first
        | apply Frame.ite | apply Frame.refl | assumption | ((conv => arg 3; arg 20); apply Frame.step (State.mk_frame ..))
    | exact rfl | exact Or.inl rfl | exact Or.inr rfl | split | dsimp only

theorem execPostmarkTick_frame (s : State) : Frames 0x40950072 s (execPostmarkTick s) := by
  unfold execPostmarkTick
  iterate 80 all_goals try first
    | lift_lets
    | (intro x; refine Frame.cut (m := 0x40950072) (s := s) (t := x) ?_ fun _ => ?_; (on_goal 1 => subst x); (on_goal 2 => clear_value x))
    | (intro x; clear_value x)
    | with_reducible first
        | apply Frames.next | apply Frames.ite | apply Frame.ite | apply Frame.refl | assumption
        | apply Frame.after (State.pmOwn_frame ..) | apply Frame.after (State.pmRefresh_frame ..)
        | ((conv => arg 3; arg 20); apply Frame.step (State.mk_frame ..))
    | exact rfl | exact Or.inl rfl | exact Or.inr rfl | (fail_if_no_progress simp; exact rfl) | split | dsimp only

theorem State.pmEdge_frame (s : State) (tod : Nat) : Frame 0x40950036 s (State.pmEdge s tod) := by
  unfold State.pmEdge
  iterate 80 all_goals try first
    | lift_lets
    | (intro x; refine Frame.cut (m := 0x40950036) (s := s) (t := x) ?_ fun _ => ?_; (on_goal 1 => subst x); (on_goal 2 => clear_value x))
    | (intro x; clear_value x)
    | with_reducible first
        | apply Frame.ite | apply Frame.refl | assumption | apply Frame.step (State.raise_frame ..)
        | apply Frame.step (State.setF_frame ..) | apply Frame.step (State.setR_frame ..)
        | ((conv => arg 3; arg 20); apply Frame.step (State.mk_frame ..))
    | exact rfl | exact Or.inl rfl | exact Or.inr rfl | (fail_if_no_progress simp; exact rfl) | split | dsimp only

theorem execPpsEdge_frame (tod tu gap : Nat) (s : State) : Frames 0x40950076 s (execPpsEdge tod tu gap s) := by
  unfold execPpsEdge
  iterate 80 all_goals try first
    | lift_lets
    | (intro x; refine Frame.cut (m := 0x40950076) (s := s) (t := x) ?_ fun _ => ?_; (on_goal 1 => subst x); (on_goal 2 => clear_value x))
    | (intro x; clear_value x)
    | with_reducible first
        | apply Frames.next | apply Frames.ite | apply Frame.ite | apply Frame.refl | assumption
        | apply Frame.after (State.pmEdge_frame ..) | apply Frame.after (State.pmOwn_frame ..)
        | apply Frame.after (State.pmRefresh_frame ..) | apply Frame.step (State.setF_frame ..)
    | exact rfl | (fail_if_no_progress simp; exact rfl) | split | dsimp only

theorem execPpsEdgeMissed_frame (s : State) : Frames 0x40950072 s (execPpsEdgeMissed s) := by
  unfold execPpsEdgeMissed
  iterate 80 all_goals try first
    | lift_lets
    | (intro x; refine Frame.cut (m := 0x40950072) (s := s) (t := x) ?_ fun _ => ?_; (on_goal 1 => subst x); (on_goal 2 => clear_value x))
    | (intro x; clear_value x)
    | with_reducible first
        | apply Frames.next | apply Frames.ite | apply Frame.ite | apply Frame.refl | assumption
        | apply Frame.after (State.pmRefresh_frame ..) | ((conv => arg 3; arg 20); apply Frame.step (State.mk_frame ..))
    | exact rfl | exact Or.inl rfl | exact Or.inr rfl | (fail_if_no_progress simp; exact rfl) | split | dsimp only

theorem execHoldoverExpiry_frame (s : State) : Frames 0x40950072 s (execHoldoverExpiry s) := by
  unfold execHoldoverExpiry
  iterate 80 all_goals try first
    | lift_lets
    | (intro x; refine Frame.cut (m := 0x40950072) (s := s) (t := x) ?_ fun _ => ?_; (on_goal 1 => subst x); (on_goal 2 => clear_value x))
    | (intro x; clear_value x)
    | with_reducible first
        | apply Frames.next | apply Frames.ite | apply Frame.ite | apply Frame.refl | assumption
        | apply Frame.after (State.pmRefresh_frame ..) | ((conv => arg 3; arg 20); apply Frame.step (State.mk_frame ..))
    | exact rfl | exact Or.inl rfl | exact Or.inr rfl | (fail_if_no_progress simp; exact rfl) | split | dsimp only

theorem State.pmCtrlWrite_frame (s : State) (v : Nat) : Frame 0x800000 s (State.pmCtrlWrite s v) := by
  unfold State.pmCtrlWrite
  iterate 80 all_goals try first
    | lift_lets
    | (intro x; refine Frame.cut (m := 0x800000) (s := s) (t := x) ?_ fun _ => ?_; (on_goal 1 => subst x); (on_goal 2 => clear_value x))
    | (intro x; clear_value x)
    | with_reducible first
        | apply Frame.ite | apply Frame.refl | assumption | apply Frame.step (State.setF_frame ..)
    | exact rfl | (fail_if_no_progress simp; exact rfl) | split | dsimp only

theorem State.timeStop_frame (s : State) : Frame 0x1 s (State.timeStop s) := by
  unfold State.timeStop
  iterate 80 all_goals try first
    | (intro x; clear_value x)
    | with_reducible first
        | apply Frame.ite | apply Frame.refl | assumption | ((conv => arg 3; arg 20); apply Frame.step (State.mk_frame ..))
    | exact rfl | exact Or.inl rfl | exact Or.inr rfl | split | dsimp only

theorem State.nowNsRead_frame (s : State) : Frame 0x810000 s (State.nowNsRead s) := by
  unfold State.nowNsRead
  iterate 80 all_goals try first
    | lift_lets
    | (intro x; refine Frame.cut (m := 0x810000) (s := s) (t := x) ?_ fun _ => ?_; (on_goal 1 => subst x); (on_goal 2 => clear_value x))
    | (intro x; clear_value x)
    | with_reducible first
        | apply Frame.refl | assumption | apply Frame.after (State.emit_frame ..) | apply Frame.step (State.setR_frame ..)
    | exact rfl | (fail_if_no_progress simp; exact rfl) | dsimp only

theorem execNowNsRead_frame (s : State) : Frames 0x810000 s (execNowNsRead s) := by
  unfold execNowNsRead
  iterate 80 all_goals try first
    | with_reducible first
        | apply Frames.next | apply Frames.ite | apply Frame.ite | apply Frame.refl | assumption
        | apply Frame.after (State.nowNsRead_frame ..)
    | exact rfl | (fail_if_no_progress simp; exact rfl) | split | dsimp only

theorem execBeaconDue_frame (s : State) : Frames 0x40810001 s (execBeaconDue s) := by
  unfold execBeaconDue
  iterate 80 all_goals try first
    | lift_lets
    | (intro x; refine Frame.cut (m := 0x40810001) (s := s) (t := x) ?_ fun _ => ?_; (on_goal 1 => subst x); (on_goal 2 => clear_value x))
    | (intro x; clear_value x)
    | with_reducible first
        | apply Frames.next | apply Frames.ite | apply Frame.ite | apply Frame.refl | assumption
        | apply Frame.step (State.bump_frame ..) | apply Frame.after (State.fab_frame ..)
    | exact rfl | (fail_if_no_progress simp; exact rfl) | split | dsimp only

theorem State.peerRead_frame (s : State) (i : Nat) (b : Bytes) (ok : Bool) :
    Frame 0x40950132 s (State.peerRead s i b ok) := by
  unfold State.peerRead
  iterate 80 all_goals try first
    | lift_lets | (intro x; (have hf : State → _ := x); clear hf; subst x)
    | (intro x; refine Frame.cut (m := 0x40950132) (s := s) (t := x) ?_ fun _ => ?_; (on_goal 1 => subst x); (on_goal 2 => clear_value x))
    | (fail_if_no_progress beta_reduce) | (intro x; clear_value x)
    | with_reducible first
        | apply Frame.ite | apply Frame.refl | assumption | apply Frame.after (State.fresh_frame ..)
        | (apply Frame.of_pair (State.fresh_frame ..); (on_goal 1 => assumption)) | apply Frame.step (State.raise_frame ..)
        | apply Frame.step (State.setF_frame ..) | ((conv => arg 3; arg 20); apply Frame.step (State.mk_frame ..))
    | exact rfl | exact Or.inl rfl | exact Or.inr rfl | (fail_if_no_progress simp; exact rfl) | split | dsimp only

theorem State.genStale_frame (s : State) (kind : Nat) : Frame 0x40950012 s (State.genStale s kind) := by
  unfold State.genStale
  iterate 80 all_goals try first
    | with_reducible first
        | apply Frame.refl | assumption | apply Frame.step (State.raise_frame ..) | apply Frame.step (State.satF_frame ..)
        | apply Frame.step (State.setF_frame ..)
    | exact rfl | (fail_if_no_progress simp; exact rfl) | dsimp only

end Sys2Proof.Machine
end

