-- ==== Sys2Proof/Laws/FrameImage.lean ====
section
/-! SUPPORT. The frame of every operation of Machine/Image.lean. -/

set_option linter.all false

namespace Sys2Proof.Machine

theorem State.imgReject_frame (s : State) (c : ImgCfg) (cause sec : Nat) :
    Frame 0x409d001a s (State.imgReject s c cause sec) := by
  unfold State.imgReject
  iterate 80 all_goals try first
    | lift_lets
    | (intro x; refine Frame.cut (m := 0x409d001a) (s := s) (t := x) ?_ fun _ => ?_; (on_goal 1 => subst x); (on_goal 2 => clear_value x))
    | (intro x; clear_value x)
    | with_reducible first
        | apply Frame.ite | apply Frame.refl | assumption | apply Frame.after (State.genStale_frame ..)
        | apply Frame.after (State.imgState_frame ..)
    | exact rfl | (fail_if_no_progress simp; exact rfl) | split | dsimp only

theorem State.imgLoad_frame (s : State) : Frame 0x401d001a s (State.imgLoad s) := by
  unfold State.imgLoad
  iterate 80 all_goals try first
    | lift_lets
    | (intro x; refine Frame.cut (m := 0x401d001a) (s := s) (t := x) ?_ fun _ => ?_; (on_goal 1 => subst x); (on_goal 2 => clear_value x))
    | (intro x; clear_value x)
    | with_reducible first
        | apply Frame.ite | apply Frame.refl | assumption | apply Frame.after (State.imgState_frame ..)
        | apply Frame.after (State.refuse_frame ..) | ((conv => arg 3; arg 20); apply Frame.step (State.mk_frame ..))
    | exact rfl | exact Or.inl rfl | exact Or.inr rfl | (fail_if_no_progress simp; exact rfl) | split | dsimp only

theorem execImgFetchDone_frame (data : Bytes) (resp : Nat) (s : State) :
    Frames 0x59fa1de79b s (execImgFetchDone data resp s) := by
  unfold execImgFetchDone
  iterate 80 all_goals try first
    | lift_lets
    | (intro x; refine Frame.cut (m := 0x59fa1de79b) (s := s) (t := x) ?_ fun _ => ?_; (on_goal 1 => subst x); (on_goal 2 => clear_value x))
    | (intro x; clear_value x)
    | with_reducible first
        | apply Frames.next | apply Frames.ite | apply Frame.ite | apply Frame.refl | assumption
        | apply Frame.after (State.dramCorrected_frame ..) | apply Frame.after (State.dramUncorr_frame ..)
        | apply Frame.after (State.imgState_frame ..) | apply Frame.after (State.memFatal_frame ..)
        | ((conv => arg 3; arg 20); apply Frame.step (State.mk_frame ..))
    | exact rfl | exact Or.inl rfl | exact Or.inr rfl | (fail_if_no_progress simp; exact rfl) | split | dsimp only

theorem State.applyNotices_frame (s : State) (o n : Bytes) (full : Bool) :
    Frame 0x100000 s (State.applyNotices s o n full) := by
  unfold State.applyNotices
  iterate 80 all_goals try first
    | lift_lets
    | (intro x; refine Frame.cut (m := 0x100000) (s := u) (t := x) ?_ fun _ => ?_; (on_goal 1 => subst x); (on_goal 2 => clear_value x))
    | (intro x; refine Frame.cut (m := 0x100000) (s := s) (t := x) ?_ fun _ => ?_; (on_goal 1 => subst x); (on_goal 2 => clear_value x))
    | (intro x; clear_value x)
    | with_reducible first
        | apply Frame.ite | apply Frame.refl | assumption | apply Frame.foldl (k := fun u _ => ?_)
        | apply Frame.step (State.setF_frame ..)
    | exact rfl | (fail_if_no_progress simp; exact rfl) | split | dsimp only

theorem State.applyFloor_frame (s : State) (c : ImgCfg) : Frame 0x10000000 s (State.applyFloor s c) := by
  unfold State.applyFloor
  iterate 80 all_goals try first
    | with_reducible first
        | apply Frame.refl | assumption | apply Frame.foldl (k := fun u _ => ?_)
        | apply Frame.after (State.floorShow_frame ..) | apply Frame.step (State.setF_frame ..)
    | exact rfl | (fail_if_no_progress simp; exact rfl) | dsimp only

theorem State.imgActivate_frame (s : State) : Frame 0x1589d031a s (State.imgActivate s) := by
  unfold State.imgActivate
  iterate 80 all_goals try first
    | lift_lets
    | (intro x; refine Frame.cut (m := 0x1589d031a) (s := u) (t := x) ?_ fun _ => ?_; (on_goal 1 => subst x); (on_goal 2 => clear_value x))
    | (intro x; refine Frame.cut (m := 0x1589d031a) (s := s) (t := x) ?_ fun _ => ?_; (on_goal 1 => subst x); (on_goal 2 => clear_value x))
    | (intro x; clear_value x)
    | with_reducible first
        | apply Frame.ite | apply Frame.refl | assumption | apply Frame.foldl (k := fun u _ => ?_)
        | apply Frame.after (State.applyFloor_frame ..) | apply Frame.after (State.applyNotices_frame ..)
        | apply Frame.after (State.guardUpdate_frame ..) | apply Frame.after (State.poolFit_frame ..)
        | apply Frame.step (State.setF_frame ..) | apply Frame.step (State.setR_frame ..)
        | ((conv => arg 3; arg 20); apply Frame.step (State.mk_frame ..))
    | exact rfl | exact Or.inl rfl | exact Or.inr rfl | (fail_if_no_progress simp; exact rfl) | split | dsimp only

theorem State.seamStart_frame (s : State) : Frame 0x401d001a s (State.seamStart s) := by
  unfold State.seamStart
  iterate 80 all_goals try first
    | (intro x; clear_value x)
    | with_reducible first
        | apply Frame.refl | assumption | apply Frame.after (State.imgState_frame ..)
        | ((conv => arg 3; arg 20); apply Frame.step (State.mk_frame ..))
    | exact rfl | exact Or.inl rfl | exact Or.inr rfl | (fail_if_no_progress simp; exact rfl) | dsimp only

theorem execImgVerifyDone_frame (s : State) : Frames 0x409d801a s (execImgVerifyDone s) := by
  unfold execImgVerifyDone
  iterate 80 all_goals try first
    | lift_lets
    | (intro x; refine Frame.cut (m := 0x409d801a) (s := s) (t := x) ?_ fun _ => ?_; (on_goal 1 => subst x); (on_goal 2 => clear_value x))
    | (intro x; clear_value x)
    | with_reducible first
        | apply Frames.next | apply Frames.ite | apply Frame.ite | apply Frame.refl | assumption
        | apply Frame.after (State.draw_frame ..) | (apply Frame.of_pair (State.draw_frame ..); (on_goal 1 => assumption))
        | apply Frame.after (State.imgReject_frame ..) | apply Frame.after (State.imgState_frame ..)
        | apply Frame.after (State.seamStart_frame ..) | ((conv => arg 3; arg 20); apply Frame.step (State.mk_frame ..))
    | exact rfl | exact Or.inl rfl | exact Or.inr rfl | (fail_if_no_progress simp; exact rfl) | split | dsimp only

theorem State.drainStart_frame (s : State) (rs : List Nat) : Frame 0x41401d011a s (State.drainStart s rs) := by
  unfold State.drainStart
  iterate 80 all_goals try first
    | lift_lets
    | (intro x; refine Frame.cut (m := 0x41401d011a) (s := u) (t := x) ?_ fun _ => ?_; (on_goal 1 => subst x); (on_goal 2 => clear_value x))
    | (intro x; refine Frame.cut (m := 0x41401d011a) (s := s) (t := x) ?_ fun _ => ?_; (on_goal 1 => subst x); (on_goal 2 => clear_value x))
    | (intro x; clear_value x)
    | with_reducible first
        | apply Frame.refl | assumption | apply Frame.foldl (k := fun u _ => ?_)
        | apply Frame.after (State.guardUpdate_frame ..) | apply Frame.after (State.imgState_frame ..)
        | apply Frame.step (State.setF_frame ..) | apply Frame.after (State.setRoute_frame ..)
        | ((conv => arg 3; arg 20); apply Frame.step (State.mk_frame ..))
    | exact rfl | exact Or.inl rfl | exact Or.inr rfl | (fail_if_no_progress simp; exact rfl) | dsimp only

theorem State.imgApply_frame (s : State) : Frame 0x41409d011a s (State.imgApply s) := by
  unfold State.imgApply
  iterate 80 all_goals try first
    | lift_lets
    | (intro x; refine Frame.cut (m := 0x41409d011a) (s := s) (t := x) ?_ fun _ => ?_; (on_goal 1 => subst x); (on_goal 2 => clear_value x))
    | (intro x; clear_value x)
    | with_reducible first
        | apply Frame.ite | apply Frame.refl | assumption | apply Frame.after (State.drainStart_frame ..)
        | apply Frame.after (State.imgReject_frame ..) | apply Frame.after (State.imgState_frame ..)
        | apply Frame.after (State.refuse_frame ..) | apply Frame.after (State.seamStart_frame ..)
    | exact rfl | (fail_if_no_progress simp; exact rfl) | split | dsimp only

theorem State.imgDiscard_frame (s : State) : Frame 0x41401d011a s (State.imgDiscard s) := by
  unfold State.imgDiscard
  iterate 80 all_goals try first
    | with_reducible first
        | apply Frame.refl | assumption | apply Frame.after (State.drainRelease_frame ..)
        | apply Frame.after (State.imgState_frame ..)
    | exact rfl | (fail_if_no_progress simp; exact rfl) | split | dsimp only

theorem State.imgCtrlWrite_frame (s : State) (v : Nat) : Frame 0x41409d011a s (State.imgCtrlWrite s v) := by
  unfold State.imgCtrlWrite
  iterate 80 all_goals try first
    | with_reducible first
        | apply Frame.refl | assumption | apply Frame.after (State.imgApply_frame ..)
        | apply Frame.after (State.imgDiscard_frame ..) | apply Frame.after (State.imgLoad_frame ..)
        | apply Frame.after (State.refuse_frame ..)
    | exact rfl | (fail_if_no_progress simp; exact rfl) | split | dsimp only

theorem execSeamBoundaryReached_frame (s : State) : Frames 0x8 s (execSeamBoundaryReached s) := by
  unfold execSeamBoundaryReached
  iterate 80 all_goals try first
    | (intro x; clear_value x)
    | with_reducible first
        | apply Frames.next | apply Frames.ite | apply Frame.ite | apply Frame.refl | assumption
        | ((conv => arg 3; arg 20); apply Frame.step (State.mk_frame ..))
    | exact rfl | exact Or.inl rfl | exact Or.inr rfl | split | dsimp only

theorem State.seamAbandon_frame (s : State) (cycles : Nat) : Frame 0x41401d011a s (State.seamAbandon s cycles) := by
  unfold State.seamAbandon
  iterate 80 all_goals try first
    | with_reducible first
        | apply Frame.refl | assumption | apply Frame.after (State.drainRelease_frame ..)
        | apply Frame.after (State.imgState_frame ..) | apply Frame.step (State.setF_frame ..)
    | exact rfl | (fail_if_no_progress simp; exact rfl) | dsimp only

theorem State.seamCopied_frame (s : State) (cycles : Nat) : Frame 0x41589d031a s (State.seamCopied s cycles) := by
  unfold State.seamCopied
  iterate 80 all_goals try first
    | lift_lets
    | (intro x; refine Frame.cut (m := 0x41589d031a) (s := s) (t := x) ?_ fun _ => ?_; (on_goal 1 => subst x); (on_goal 2 => clear_value x))
    | (intro x; clear_value x)
    | with_reducible first
        | apply Frame.ite | apply Frame.refl | assumption | apply Frame.after (State.drainRelease_frame ..)
        | apply Frame.after (State.imgActivate_frame ..) | apply Frame.after (State.imgState_frame ..)
        | apply Frame.step (State.setF_frame ..) | ((conv => arg 3; arg 20); apply Frame.step (State.mk_frame ..))
    | exact rfl | exact Or.inl rfl | exact Or.inr rfl | (fail_if_no_progress simp; exact rfl) | split | dsimp only

end Sys2Proof.Machine
end

