-- ==== Sys2Proof/Laws/FrameIntegrity.lean ====
section
/-! SUPPORT. The frame of every operation of Machine/Integrity.lean. -/

set_option linter.all false

namespace Sys2Proof.Machine

theorem State.writeMapLine_frame (s : State) (maps : List Bytes) (j i : Nat) (b : Bool) :
    Frame 0x40010001 s (State.writeMapLine s maps j i b) := by
  unfold State.writeMapLine
  iterate 80 all_goals try first
    | lift_lets
    | (intro x; refine Frame.cut (m := 0x40010001) (s := s) (t := x) ?_ fun _ => ?_; (on_goal 1 => subst x); (on_goal 2 => clear_value x))
    | (intro x; clear_value x)
    | with_reducible first
        | apply Frame.refl | assumption | apply Frame.after (State.fab_frame ..)
    | exact rfl | (fail_if_no_progress simp; exact rfl) | dsimp only

theorem State.setPoison_frame (s : State) (l : List Nat) : Frame 0x4002000 s (State.setPoison s l) := by
  unfold State.setPoison
  iterate 80 all_goals try first
    | lift_lets
    | (intro x; refine Frame.cut (m := 0x4002000) (s := s) (t := x) ?_ fun _ => ?_; (on_goal 1 => subst x); (on_goal 2 => clear_value x))
    | (intro x; clear_value x)
    | with_reducible first
        | apply Frame.ite | apply Frame.refl | assumption | apply Frame.step (State.setF_frame ..)
        | ((conv => arg 3; arg 20); apply Frame.step (State.mk_frame ..))
    | exact rfl | exact Or.inl rfl | exact Or.inr rfl | (fail_if_no_progress simp; exact rfl) | split | dsimp only

theorem State.poisonErased_frame (s : State) (k : Nat) (blocks : List Nat) :
    Frame 0x4002000 s (State.poisonErased s k blocks) := by
  unfold State.poisonErased
  iterate 80 all_goals try first
    | with_reducible first
        | apply Frame.refl | assumption | apply Frame.after (State.setPoison_frame ..)
    | exact rfl | (fail_if_no_progress simp; exact rfl) | dsimp only

theorem State.dlShow_frame (s : State) : Frame 0x4000000 s (State.dlShow s) := by
  unfold State.dlShow
  iterate 80 all_goals try first
    | with_reducible first
        | apply Frame.refl | assumption | apply Frame.step (State.setF_frame ..)
    | exact rfl | (fail_if_no_progress simp; exact rfl) | dsimp only

theorem State.makeLetter_frame (s : State) (f : Finding) : Frame 0x4002100 s (State.makeLetter s f) := by
  unfold State.makeLetter
  iterate 80 all_goals try first
    | lift_lets
    | (intro x; refine Frame.cut (m := 0x4002100) (s := s) (t := x) ?_ fun _ => ?_; (on_goal 1 => subst x); (on_goal 2 => clear_value x))
    | (intro x; clear_value x)
    | with_reducible first
        | apply Frame.ite | apply Frame.refl | assumption | apply Frame.step (State.bump_frame ..)
        | apply Frame.after (State.dlShow_frame ..) | apply Frame.after (State.setPoison_frame ..)
        | ((conv => arg 3; arg 20); apply Frame.step (State.mk_frame ..))
    | exact rfl | exact Or.inl rfl | exact Or.inr rfl | (fail_if_no_progress simp; exact rfl) | split | dsimp only

theorem State.lettersGo_frame (s : State) : Frame 0x44152112 s (State.lettersGo s) := by
  unfold State.lettersGo
  iterate 80 all_goals try first
    | lift_lets
    | (intro x; refine Frame.cut (m := 0x44152112) (s := q.2) (t := x) ?_ fun _ => ?_; (on_goal 1 => subst x); (on_goal 2 => clear_value x))
    | (intro x; refine Frame.cut (m := 0x44152112) (s := u) (t := x) ?_ fun _ => ?_; (on_goal 1 => subst x); (on_goal 2 => clear_value x))
    | (intro x; refine Frame.cut (m := 0x44152112) (s := s) (t := x) ?_ fun _ => ?_; (on_goal 1 => subst x); (on_goal 2 => clear_value x))
    | (intro x; clear_value x)
    | with_reducible first
        | apply Frame.ite | apply Frame.refl | assumption | apply Frame.foldl (k := fun u _ => ?_)
        | apply Frame.foldl_snd (k := fun q _ => ?_) | apply Frame.after (State.makeLetter_frame ..)
        | apply Frame.step (State.raise_frame ..) | apply Frame.step (State.setF_frame ..)
    | exact rfl | (fail_if_no_progress simp; exact rfl) | split | dsimp only

theorem State.setFinding_frame (s : State) (f g : Finding) : Frame 0x2000 s (State.setFinding s f g) := by
  unfold State.setFinding
  iterate 80 all_goals try first
    | (intro x; clear_value x)
    | with_reducible first
        | apply Frame.ite | apply Frame.refl | assumption | ((conv => arg 3; arg 20); apply Frame.step (State.mk_frame ..))
    | exact rfl | exact Or.inl rfl | exact Or.inr rfl | split | dsimp only

theorem State.spareAdvance_frame (s : State) : Frame 0x44150012 s (State.spareAdvance s) := by
  unfold State.spareAdvance
  iterate 80 all_goals try first
    | lift_lets
    | (intro x; refine Frame.cut (m := 0x44150012) (s := s) (t := x) ?_ fun _ => ?_; (on_goal 1 => subst x); (on_goal 2 => clear_value x))
    | (intro x; clear_value x)
    | with_reducible first
        | apply Frame.ite | apply Frame.refl | assumption | apply Frame.step (State.raise_frame ..)
        | apply Frame.step (State.setF_frame ..)
    | exact rfl | (fail_if_no_progress simp; exact rfl) | split | dsimp only

theorem State.relocateProgram_frame (s : State) (f : Finding) : Frame 0xa100 s (State.relocateProgram s f) := by
  unfold State.relocateProgram
  iterate 80 all_goals try first
    | lift_lets
    | (intro x; refine Frame.cut (m := 0xa100) (s := s) (t := x) ?_ fun _ => ?_; (on_goal 1 => subst x); (on_goal 2 => clear_value x))
    | (intro x; clear_value x)
    | with_reducible first
        | apply Frame.refl | assumption | apply Frame.after (State.enqueue_frame ..)
        | apply Frame.after (State.filler_frame ..)
        | (apply Frame.of_pair (State.filler_frame ..); (on_goal 1 => assumption)) | apply Frame.after (State.fresh_frame ..)
        | (apply Frame.of_pair (State.fresh_frame ..); (on_goal 1 => assumption))
        | apply Frame.after (State.setFinding_frame ..) | ((conv => arg 3; arg 20); apply Frame.step (State.mk_frame ..))
    | exact rfl | exact Or.inl rfl | exact Or.inr rfl | (fail_if_no_progress simp; exact rfl) | split | dsimp only

theorem State.relocateGo_frame (s : State) : Frame 0x4615a912 s (State.relocateGo s) := by
  unfold State.relocateGo
  iterate 80 all_goals try first
    | lift_lets
    | (intro x; refine Frame.cut (m := 0x4615a912) (s := s) (t := x) ?_ fun _ => ?_; (on_goal 1 => subst x); (on_goal 2 => clear_value x))
    | (intro x; clear_value x)
    | with_reducible first
        | apply Frame.ite | apply Frame.refl | assumption | apply Frame.after (State.enqueueErase_frame ..)
        | apply Frame.after (State.lettersGo_frame ..) | apply Frame.after (State.relocateProgram_frame ..)
        | apply Frame.after (State.setFinding_frame ..) | ((conv => arg 3; arg 20); apply Frame.step (State.mk_frame ..))
    | exact rfl | exact Or.inl rfl | exact Or.inr rfl | (fail_if_no_progress simp; exact rfl) | split | dsimp only

theorem State.relocateDone_frame (s : State) (erase : Bool) (st : Nat) :
    Frame 0x4615a912 s (State.relocateDone s erase st) := by
  unfold State.relocateDone
  iterate 80 all_goals try first
    | lift_lets
    | (intro x; refine Frame.cut (m := 0x4615a912) (s := s) (t := x) ?_ fun _ => ?_; (on_goal 1 => subst x); (on_goal 2 => clear_value x))
    | (intro x; clear_value x)
    | with_reducible first
        | apply Frame.ite | apply Frame.refl | assumption | apply Frame.step (State.bump_frame ..)
        | apply Frame.after (State.lettersGo_frame ..) | apply Frame.after (State.relocateGo_frame ..)
        | apply Frame.after (State.relocateProgram_frame ..) | apply Frame.after (State.setFinding_frame ..)
        | apply Frame.after (State.spareAdvance_frame ..) | ((conv => arg 3; arg 20); apply Frame.step (State.mk_frame ..))
    | exact rfl | exact Or.inl rfl | exact Or.inr rfl | (fail_if_no_progress simp; exact rfl) | split | dsimp only

theorem State.settle_frame (s : State) (f : Finding) (good : Bool) : Frame 0x4615a912 s (State.settle s f good) := by
  unfold State.settle
  iterate 80 all_goals try first
    | lift_lets
    | (intro x; refine Frame.cut (m := 0x4615a912) (s := s) (t := x) ?_ fun _ => ?_; (on_goal 1 => subst x); (on_goal 2 => clear_value x))
    | (intro x; clear_value x)
    | with_reducible first
        | apply Frame.ite | apply Frame.refl | assumption | apply Frame.after (State.lettersGo_frame ..)
        | apply Frame.after (State.relocateGo_frame ..) | ((conv => arg 3; arg 20); apply Frame.step (State.mk_frame ..))
    | exact rfl | exact Or.inl rfl | exact Or.inr rfl | (fail_if_no_progress simp; exact rfl) | split | dsimp only

theorem State.memberDone_frame (s : State) (id m : Nat) (r : Member) : Frame 0x2000 s (State.memberDone s id m r) := by
  unfold State.memberDone
  iterate 80 all_goals try first
    | (intro x; clear_value x)
    | with_reducible first
        | apply Frame.ite | apply Frame.refl | assumption | ((conv => arg 3; arg 20); apply Frame.step (State.mk_frame ..))
    | exact rfl | exact Or.inl rfl | exact Or.inr rfl | split | dsimp only

theorem State.memberReads_frame (s : State) (c : Ctx) (j : Job) : Frame 0x59fa1dffdb s (State.memberReads s c j) := by
  unfold State.memberReads
  iterate 80 all_goals try first
    | lift_lets
    | (intro x; refine Frame.cut (m := 0x59fa1dffdb) (s := q.2) (t := x) ?_ fun _ => ?_; (on_goal 1 => subst x); (on_goal 2 => clear_value x))
    | (intro x; refine Frame.cut (m := 0x59fa1dffdb) (s := u) (t := x) ?_ fun _ => ?_; (on_goal 1 => subst x); (on_goal 2 => clear_value x))
    | (intro x; refine Frame.cut (m := 0x59fa1dffdb) (s := s) (t := x) ?_ fun _ => ?_; (on_goal 1 => subst x); (on_goal 2 => clear_value x))
    | (intro x; clear_value x)
    | with_reducible first
        | apply Frame.ite | apply Frame.refl | assumption | apply Frame.foldl (k := fun u _ => ?_)
        | apply Frame.foldl_snd (k := fun q _ => ?_) | apply Frame.after (State.enqueueReads_frame ..)
        | apply Frame.after (State.makeJobs_frame ..)
        | (apply Frame.of_pair (State.makeJobs_frame ..); (on_goal 1 => assumption))
        | apply Frame.after (State.memberDone_frame ..) | apply Frame.after (State.phLook_frame ..)
        | (apply Frame.of_pair (State.phLook_frame ..); (on_goal 1 => assumption))
        | ((conv => arg 3; arg 20); apply Frame.step (State.mk_frame ..))
    | exact rfl | exact Or.inl rfl | exact Or.inr rfl | (fail_if_no_progress simp; exact rfl) | split | dsimp only

theorem State.takeContext_frame (s : State) (j : Job) (l : Nat) : Frame 0x59fa1dffdb s (State.takeContext s j l) := by
  unfold State.takeContext
  iterate 80 all_goals try first
    | lift_lets
    | (intro x; refine Frame.cut (m := 0x59fa1dffdb) (s := s) (t := x) ?_ fun _ => ?_; (on_goal 1 => subst x); (on_goal 2 => clear_value x))
    | (intro x; clear_value x)
    | with_reducible first
        | apply Frame.refl | assumption | apply Frame.after (State.fresh_frame ..)
        | (apply Frame.of_pair (State.fresh_frame ..); (on_goal 1 => assumption))
        | apply Frame.after (State.memberReads_frame ..) | apply Frame.after (State.setJob_frame ..)
        | ((conv => arg 3; arg 20); apply Frame.step (State.mk_frame ..))
    | exact rfl | exact Or.inl rfl | exact Or.inr rfl | (fail_if_no_progress simp; exact rfl) | split | dsimp only

theorem State.dieRanges_frame (s : State) (ks : List Nat) : Frame 0x2000800 s (State.dieRanges s ks) := by
  unfold State.dieRanges
  iterate 80 all_goals try first
    | with_reducible first
        | apply Frame.refl | assumption | apply Frame.after (State.phRange_frame ..)
    | exact rfl | (fail_if_no_progress simp; exact rfl) | dsimp only

end Sys2Proof.Machine
end

