-- ==== Sys2Proof/Laws/FrameHome.lean ====
section
/-! SUPPORT. The frame of every operation of Machine/Home.lean. -/

set_option linter.all false

namespace Sys2Proof.Machine

theorem State.setSeal_frame (s : State) (k : Nat) (x : Seal) : Frame 0x4000 s (State.setSeal s k x) := by
  unfold State.setSeal
  iterate 80 all_goals try first
    | (intro x; clear_value x)
    | with_reducible first
        | apply Frame.refl | assumption | ((conv => arg 3; arg 20); apply Frame.step (State.mk_frame ..))
    | exact rfl | exact Or.inl rfl | exact Or.inr rfl | dsimp only

theorem State.commitFail_frame (s : State) (c : Commit) (st : Nat) : Frame 0x60154092 s (State.commitFail s c st) := by
  unfold State.commitFail
  iterate 80 all_goals try first
    | lift_lets
    | (intro x; refine Frame.cut (m := 0x60154092) (s := s) (t := x) ?_ fun _ => ?_; (on_goal 1 => subst x); (on_goal 2 => clear_value x))
    | (intro x; clear_value x)
    | with_reducible first
        | apply Frame.refl | assumption | apply Frame.after (State.finish_frame ..) | apply Frame.step (State.raise_frame ..)
        | apply Frame.step (State.setF_frame ..) | ((conv => arg 3; arg 20); apply Frame.step (State.mk_frame ..))
    | exact rfl | exact Or.inl rfl | exact Or.inr rfl | (fail_if_no_progress simp; exact rfl) | split | dsimp only

theorem State.commitPage_frame (s : State) (c : Commit) : Frame 0x6015c192 s (State.commitPage s c) := by
  unfold State.commitPage
  iterate 80 all_goals try first
    | lift_lets | (intro x; (have hf : State → _ := x); clear hf; subst x)
    | (intro x; refine Frame.cut (m := 0x6015c192) (s := s) (t := x) ?_ fun _ => ?_; (on_goal 1 => subst x); (on_goal 2 => clear_value x))
    | (fail_if_no_progress beta_reduce) | (intro x; clear_value x)
    | with_reducible first
        | apply Frame.ite | apply Frame.refl | assumption | apply Frame.after (State.commitFail_frame ..)
        | apply Frame.after (State.enqueue_frame ..) | apply Frame.after (State.filler_frame ..)
        | (apply Frame.of_pair (State.filler_frame ..); (on_goal 1 => assumption)) | apply Frame.after (State.fresh_frame ..)
        | (apply Frame.of_pair (State.fresh_frame ..); (on_goal 1 => assumption))
        | ((conv => arg 3; arg 20); apply Frame.step (State.mk_frame ..))
    | exact rfl | exact Or.inl rfl | exact Or.inr rfl | (fail_if_no_progress simp; exact rfl) | split | dsimp only

theorem State.commitStart_frame (s : State) (id : Nat) (new : Option (Nat × Seal)) :
    Frame 0x62156992 s (State.commitStart s id new) := by
  unfold State.commitStart
  iterate 80 all_goals try first
    | lift_lets
    | (intro x; refine Frame.cut (m := 0x62156992) (s := s) (t := x) ?_ fun _ => ?_; (on_goal 1 => subst x); (on_goal 2 => clear_value x))
    | (intro x; clear_value x)
    | with_reducible first
        | apply Frame.refl | assumption | apply Frame.after (State.enqueueErase_frame ..)
        | apply Frame.after (State.finish_frame ..) | apply Frame.step (State.raise_frame ..)
        | apply Frame.after (State.setDesc_frame ..) | apply Frame.step (State.setF_frame ..)
        | ((conv => arg 3; arg 20); apply Frame.step (State.mk_frame ..))
    | exact rfl | exact Or.inl rfl | exact Or.inr rfl | (fail_if_no_progress simp; exact rfl) | split | dsimp only

theorem State.commitSwap_frame (s : State) (c : Commit) : Frame 0x64154092 s (State.commitSwap s c) := by
  unfold State.commitSwap
  iterate 80 all_goals try first
    | lift_lets
    | (intro x; refine Frame.cut (m := 0x64154092) (s := s) (t := x) ?_ fun _ => ?_; (on_goal 1 => subst x); (on_goal 2 => clear_value x))
    | (intro x; clear_value x)
    | with_reducible first
        | apply Frame.ite | apply Frame.refl | assumption | apply Frame.after (State.finish_frame ..)
        | apply Frame.step (State.raise_frame ..) | apply Frame.step (State.setF_frame ..)
        | apply Frame.after (State.setSeal_frame ..) | ((conv => arg 3; arg 20); apply Frame.step (State.mk_frame ..))
    | exact rfl | exact Or.inl rfl | exact Or.inr rfl | (fail_if_no_progress simp; exact rfl) | split | dsimp only

theorem State.homeDone_frame (s : State) (erase : Bool) (st : Nat) : Frame 0x6415c192 s (State.homeDone s erase st) := by
  unfold State.homeDone
  iterate 80 all_goals try first
    | lift_lets
    | (intro x; refine Frame.cut (m := 0x6415c192) (s := s) (t := x) ?_ fun _ => ?_; (on_goal 1 => subst x); (on_goal 2 => clear_value x))
    | (intro x; clear_value x)
    | with_reducible first
        | apply Frame.ite | apply Frame.refl | assumption | apply Frame.after (State.commitFail_frame ..)
        | apply Frame.after (State.commitPage_frame ..) | apply Frame.after (State.commitSwap_frame ..)
        | ((conv => arg 3; arg 20); apply Frame.step (State.mk_frame ..))
    | exact rfl | exact Or.inl rfl | exact Or.inr rfl | (fail_if_no_progress simp; exact rfl) | split | dsimp only

theorem execHomeCommit_frame (id : Nat) (s : State) : Frames 0x62156992 s (execHomeCommit id s) := by
  unfold execHomeCommit
  iterate 80 all_goals try first
    | with_reducible first
        | apply Frames.next | apply Frame.refl | assumption | apply Frame.after (State.commitStart_frame ..)
    | exact rfl | (fail_if_no_progress simp; exact rfl) | split | dsimp only

theorem State.restore_frame (s : State) (l : List Bytes) : Frame 0x824006300 s (State.restore s l) := by
  unfold State.restore
  iterate 80 all_goals try first
    | lift_lets
    | (intro x; refine Frame.cut (m := 0x824006300) (s := u) (t := x) ?_ fun _ => ?_; (on_goal 1 => subst x); (on_goal 2 => clear_value x))
    | (intro x; refine Frame.cut (m := 0x824006300) (s := s) (t := x) ?_ fun _ => ?_; (on_goal 1 => subst x); (on_goal 2 => clear_value x))
    | (intro x; clear_value x)
    | with_reducible first
        | apply Frame.ite | apply Frame.refl | assumption | apply Frame.foldl (k := fun u _ => ?_)
        | apply Frame.step (State.satF_frame ..) | apply Frame.step (State.setBit_frame ..)
        | apply Frame.after (State.setDieSt_frame ..) | apply Frame.after (State.setDrift_frame ..)
        | apply Frame.step (State.setF_frame ..) | apply Frame.step (State.setR_frame ..)
        | apply Frame.after (State.setSeal_frame ..) | ((conv => arg 3; arg 20); apply Frame.step (State.mk_frame ..))
    | exact rfl | exact Or.inl rfl | exact Or.inr rfl | (rw [regGroup_bits _ _ (by decide) (by decide)]; exact rfl)
    | (fail_if_no_progress simp; exact rfl) | split | dsimp only

theorem State.twinUse_frame (s : State) (t : Nat) (l : List Bytes) (other : Nat) :
    Frame 0x864156312 s (State.twinUse s t l other) := by
  unfold State.twinUse
  iterate 80 all_goals try first
    | lift_lets
    | (intro x; refine Frame.cut (m := 0x864156312) (s := s) (t := x) ?_ fun _ => ?_; (on_goal 1 => subst x); (on_goal 2 => clear_value x))
    | (intro x; clear_value x)
    | with_reducible first
        | apply Frame.ite | apply Frame.refl | assumption | apply Frame.step (State.raise_frame ..)
        | apply Frame.after (State.restore_frame ..) | apply Frame.step (State.setF_frame ..)
        | ((conv => arg 3; arg 20); apply Frame.step (State.mk_frame ..))
    | exact rfl | exact Or.inl rfl | exact Or.inr rfl | (fail_if_no_progress simp; exact rfl) | split | dsimp only

theorem State.twinChoose_frame (s : State) (a b : List Bytes) : Frame 0x864956312 s (State.twinChoose s a b) := by
  unfold State.twinChoose
  iterate 80 all_goals try first
    | lift_lets
    | (intro x; refine Frame.cut (m := 0x864956312) (s := s) (t := x) ?_ fun _ => ?_; (on_goal 1 => subst x); (on_goal 2 => clear_value x))
    | (intro x; clear_value x)
    | with_reducible first
        | apply Frame.ite | apply Frame.refl | assumption | apply Frame.after (State.genStale_frame ..)
        | apply Frame.step (State.raise_frame ..) | apply Frame.step (State.raiseAll_frame ..)
        | apply Frame.step (State.setF_frame ..) | apply Frame.after (State.twinUse_frame ..)
        | ((conv => arg 3; arg 20); apply Frame.step (State.mk_frame ..))
    | exact rfl | exact Or.inl rfl | exact Or.inr rfl | (fail_if_no_progress simp; exact rfl)
    | (intro f hf; fin_cases hf <;> exact rfl) | split | dsimp only

theorem execTwinSelect_frame (a b : List Bytes) (s : State) : Frames 0x864956312 s (execTwinSelect a b s) := by
  unfold execTwinSelect
  iterate 80 all_goals try first
    | lift_lets
    | (intro x; refine Frame.cut (m := 0x864956312) (s := s) (t := x) ?_ fun _ => ?_; (on_goal 1 => subst x); (on_goal 2 => clear_value x))
    | (intro x; clear_value x)
    | with_reducible first
        | apply Frames.next | apply Frames.ite | apply Frame.ite | apply Frame.refl | assumption
        | apply Frame.after (State.scanReads_frame ..) | apply Frame.after (State.twinChoose_frame ..)
    | exact rfl | (fail_if_no_progress simp; exact rfl) | split | dsimp only

theorem State.sealFail_frame (s : State) (k : Nat) : Frame 0x60154012 s (State.sealFail s k) := by
  unfold State.sealFail
  iterate 80 all_goals try first
    | lift_lets
    | (intro x; refine Frame.cut (m := 0x60154012) (s := s) (t := x) ?_ fun _ => ?_; (on_goal 1 => subst x); (on_goal 2 => clear_value x))
    | (intro x; clear_value x)
    | with_reducible first
        | apply Frame.ite | apply Frame.refl | assumption | apply Frame.step (State.raise_frame ..)
        | apply Frame.after (State.setSeal_frame ..) | ((conv => arg 3; arg 20); apply Frame.step (State.mk_frame ..))
    | exact rfl | exact Or.inl rfl | exact Or.inr rfl | (fail_if_no_progress simp; exact rfl) | split | dsimp only

theorem State.drawSalt_frame (s : State) : Frame 0x8000 s (State.drawSalt s).2 := by
  unfold State.drawSalt
  iterate 80 all_goals try first
    | lift_lets
    | (intro x; refine Frame.cut (m := 0x8000) (s := s) (t := x) ?_ fun _ => ?_; (on_goal 1 => subst x); (on_goal 2 => clear_value x))
    | (intro x; clear_value x)
    | with_reducible first
        | apply Frame.refl | assumption | apply Frame.after (State.draw_frame ..)
        | (apply Frame.of_pair (State.draw_frame ..); (on_goal 1 => assumption))
    | exact rfl | (fail_if_no_progress simp; exact rfl) | split | dsimp only

theorem execSealSet_frame (id : Nat) (cred : Bytes) (s : State) (corr : Nat := 0) :
    Frames 0x6215e992 s (execSealSet id cred s corr) := by
  unfold execSealSet
  iterate 80 all_goals try first
    | lift_lets
    | (intro x; refine Frame.cut (m := 0x6215e992) (s := s) (t := x) ?_ fun _ => ?_; (on_goal 1 => subst x); (on_goal 2 => clear_value x))
    | (intro x; clear_value x)
    | with_reducible first
        | apply Frames.next | apply Frames.ite | apply Frame.ite | apply Frame.refl | assumption
        | apply Frame.after (State.commitStart_frame ..) | apply Frame.after (State.dramReads_frame ..)
        | apply Frame.after (State.drawSalt_frame ..)
        | (apply Frame.of_pair (State.drawSalt_frame ..); (on_goal 1 => assumption))
        | apply Frame.after (State.finish_frame ..) | apply Frame.after (State.sealFail_frame ..)
        | apply Frame.after (State.setSeal_frame ..) | ((conv => arg 3; arg 20); apply Frame.step (State.mk_frame ..))
    | exact rfl | exact Or.inl rfl | exact Or.inr rfl | (fail_if_no_progress simp; exact rfl) | split | dsimp only

theorem execSealUnlock_frame (id : Nat) (pw : Bytes) (s : State) (corr : Nat := 0) :
    Frames 0x62154092 s (execSealUnlock id pw s corr) := by
  unfold execSealUnlock
  iterate 80 all_goals try first
    | lift_lets
    | (intro x; refine Frame.cut (m := 0x62154092) (s := s) (t := x) ?_ fun _ => ?_; (on_goal 1 => subst x); (on_goal 2 => clear_value x))
    | (intro x; clear_value x)
    | with_reducible first
        | apply Frames.next | apply Frames.ite | apply Frame.ite | apply Frame.refl | assumption
        | apply Frame.after (State.dramReads_frame ..) | apply Frame.after (State.finish_frame ..)
        | apply Frame.after (State.sealFail_frame ..) | apply Frame.after (State.setSeal_frame ..)
        | ((conv => arg 3; arg 20); apply Frame.step (State.mk_frame ..))
    | exact rfl | exact Or.inl rfl | exact Or.inr rfl | (fail_if_no_progress simp; exact rfl) | split | dsimp only

theorem execSealLockoutExpiry_frame (k : Nat) (s : State) : Frames 0x4000 s (execSealLockoutExpiry k s) := by
  unfold execSealLockoutExpiry
  iterate 80 all_goals try first
    | (intro x; clear_value x)
    | with_reducible first
        | apply Frames.next | apply Frames.ite | apply Frame.ite | apply Frame.refl | assumption
        | apply Frame.after (State.setSeal_frame ..) | ((conv => arg 3; arg 20); apply Frame.step (State.mk_frame ..))
    | exact rfl | exact Or.inl rfl | exact Or.inr rfl | (fail_if_no_progress simp; exact rfl) | split | dsimp only

end Sys2Proof.Machine
end

