-- ==== Sys2Proof/Laws/FrameWrites.lean ====
section
/-! SUPPORT. The frame of every operation of Machine/Writes.lean. -/

set_option linter.all false

namespace Sys2Proof.Machine

theorem State.streamPage_frame (s : State) (k b p : Nat) : Frame 0x800 s (State.streamPage s k b p).2 := by
  unfold State.streamPage
  iterate 80 all_goals try first
    | lift_lets
    | (intro x; refine Frame.cut (m := 0x800) (s := s) (t := x) ?_ fun _ => ?_; (on_goal 1 => subst x); (on_goal 2 => clear_value x))
    | (intro x; clear_value x)
    | with_reducible first
        | apply Frame.ite | apply Frame.refl | assumption | ((conv => arg 3; arg 20); apply Frame.step (State.mk_frame ..))
    | exact rfl | exact Or.inl rfl | exact Or.inr rfl | split | dsimp only

theorem State.allocPage_frame (s : State) (page b : Nat) (envs : List (Nat × Bytes × Bytes)) :
    Frame 0x2001800 s (State.allocPage s page b envs) := by
  unfold State.allocPage
  iterate 80 all_goals try first
    | lift_lets
    | (intro x; refine Frame.cut (m := 0x2001800) (s := u) (t := x) ?_ fun _ => ?_; (on_goal 1 => subst x); (on_goal 2 => clear_value x))
    | (intro x; refine Frame.cut (m := 0x2001800) (s := s) (t := x) ?_ fun _ => ?_; (on_goal 1 => subst x); (on_goal 2 => clear_value x))
    | (intro x; clear_value x)
    | with_reducible first
        | apply Frame.ite | apply Frame.refl | assumption | apply Frame.foldl (k := fun u _ => ?_)
        | apply Frame.after (State.phInstall_frame ..)
        | (apply Frame.of_pair_fst (State.phInstall_frame ..); (on_goal 1 => assumption))
        | apply Frame.after (State.streamPage_frame ..)
        | (apply Frame.of_pair (State.streamPage_frame ..); (on_goal 1 => assumption))
    | exact rfl | (fail_if_no_progress simp; exact rfl) | split | dsimp only

theorem State.lineEnds_frame (s : State) (a : Nat) (good : Bool) : Frame 0x59fa1dffdb s (State.lineEnds s a good) := by
  unfold State.lineEnds
  iterate 80 all_goals try first
    | (intro x; clear_value x)
    | with_reducible first
        | apply Frame.ite | apply Frame.refl | assumption | apply Frame.after (State.phDrop_frame ..)
        | apply Frame.after (State.tagBits_frame ..) | ((conv => arg 3; arg 20); apply Frame.step (State.mk_frame ..))
    | exact rfl | exact Or.inl rfl | exact Or.inr rfl | (fail_if_no_progress simp; exact rfl) | split | dsimp only

theorem State.pageLines_frame (s : State) (page : Nat) (good : Bool) :
    Frame 0x59fa1dffdb s (State.pageLines s page good) := by
  unfold State.pageLines
  iterate 80 all_goals try first
    | with_reducible first
        | apply Frame.refl | assumption | apply Frame.foldl (k := fun u _ => ?_)
        | apply Frame.after (State.lineEnds_frame ..)
    | exact rfl | (fail_if_no_progress simp; exact rfl) | dsimp only

theorem State.eraseAhead_frame (s : State) (o : DieOp) (p : Nat) : Frame 0x42152912 s (State.eraseAhead s o p) := by
  unfold State.eraseAhead
  iterate 80 all_goals try first
    | lift_lets
    | (intro x; refine Frame.cut (m := 0x42152912) (s := s) (t := x) ?_ fun _ => ?_; (on_goal 1 => subst x); (on_goal 2 => clear_value x))
    | (intro x; clear_value x)
    | with_reducible first
        | apply Frame.refl | assumption | apply Frame.after (State.enqueueErase_frame ..)
        | ((conv => arg 3; arg 20); apply Frame.step (State.mk_frame ..))
    | exact rfl | exact Or.inl rfl | exact Or.inr rfl | (fail_if_no_progress simp; exact rfl) | dsimp only

theorem State.enqueueProg_frame (s : State) (o : DieOp) : Frame 0x42152912 s (State.enqueueProg s o) := by
  unfold State.enqueueProg
  iterate 80 all_goals try first
    | with_reducible first
        | apply Frame.refl | assumption | apply Frame.after (State.enqueue_frame ..)
        | apply Frame.after (State.eraseAhead_frame ..)
    | exact rfl | (fail_if_no_progress simp; exact rfl) | split | dsimp only

theorem State.progEnd_frame (s : State) (d : Desc) (st : Nat) : Frame 0x59fa1dffdb s (State.progEnd s d st) := by
  unfold State.progEnd
  iterate 80 all_goals try first
    | with_reducible first
        | apply Frame.refl | assumption | apply Frame.foldl (k := fun u _ => ?_) | apply Frame.after (State.finish_frame ..)
        | apply Frame.after (State.pageLines_frame ..)
    | exact rfl | (fail_if_no_progress simp; exact rfl) | dsimp only

theorem State.startProg_frame (s : State) (id : Nat) : Frame 0x59fa1dffdb s (State.startProg s id) := by
  unfold State.startProg
  iterate 80 all_goals try first
    | lift_lets
    | (intro x; refine Frame.cut (m := 0x59fa1dffdb) (s := s) (t := x) ?_ fun _ => ?_; (on_goal 1 => subst x); (on_goal 2 => clear_value x))
    | (intro x; clear_value x)
    | with_reducible first
        | apply Frame.ite | apply Frame.refl | assumption | apply Frame.after (State.enqueueProg_frame ..)
        | apply Frame.after (State.finish_frame ..) | apply Frame.after (State.fresh_frame ..)
        | (apply Frame.of_pair (State.fresh_frame ..); (on_goal 1 => assumption))
        | apply Frame.after (State.progEnd_frame ..) | ((conv => arg 3; arg 20); apply Frame.step (State.mk_frame ..))
    | exact rfl | exact Or.inl rfl | exact Or.inr rfl | (fail_if_no_progress simp; exact rfl) | split | dsimp only

theorem State.progDone_frame (s : State) (id st : Nat) : Frame 0x59fa1dffdb s (State.progDone s id st) := by
  unfold State.progDone
  iterate 80 all_goals try first
    | lift_lets
    | (intro x; refine Frame.cut (m := 0x59fa1dffdb) (s := s) (t := x) ?_ fun _ => ?_; (on_goal 1 => subst x); (on_goal 2 => clear_value x))
    | (intro x; clear_value x)
    | with_reducible first
        | apply Frame.ite | apply Frame.refl | assumption | apply Frame.after (State.finish_frame ..)
        | apply Frame.after (State.pageLines_frame ..) | apply Frame.after (State.progEnd_frame ..)
        | apply Frame.after (State.setDesc_frame ..) | apply Frame.after (State.startProg_frame ..)
        | ((conv => arg 3; arg 20); apply Frame.step (State.mk_frame ..))
    | exact rfl | exact Or.inl rfl | exact Or.inr rfl | (fail_if_no_progress simp; exact rfl) | split | dsimp only

theorem State.encodePages_frame (s : State) (first : Nat) (envs : List (Bytes × Bytes)) :
    Frame 0x2001800 s (State.encodePages s first envs).2 := by
  unfold State.encodePages
  iterate 80 all_goals try first
    | lift_lets
    | (intro x; refine Frame.cut (m := 0x2001800) (s := q.2) (t := x) ?_ fun _ => ?_; (on_goal 1 => subst x); (on_goal 2 => clear_value x))
    | (intro x; refine Frame.cut (m := 0x2001800) (s := u) (t := x) ?_ fun _ => ?_; (on_goal 1 => subst x); (on_goal 2 => clear_value x))
    | (intro x; refine Frame.cut (m := 0x2001800) (s := s) (t := x) ?_ fun _ => ?_; (on_goal 1 => subst x); (on_goal 2 => clear_value x))
    | (intro x; clear_value x)
    | with_reducible first
        | apply Frame.refl | assumption | apply Frame.foldl (k := fun u _ => ?_) | apply Frame.foldl_snd (k := fun q _ => ?_)
        | apply Frame.after (State.allocPage_frame ..)
    | exact rfl | (fail_if_no_progress simp; exact rfl) | dsimp only

theorem execProgram_frame (id : Nat) (buf md : Bytes) (s : State) (corr : Nat := 0) :
    Frames 0x59fa1dffdb s (execProgram id buf md s corr) := by
  unfold execProgram
  iterate 80 all_goals try first
    | lift_lets
    | (intro x; refine Frame.cut (m := 0x59fa1dffdb) (s := s) (t := x) ?_ fun _ => ?_; (on_goal 1 => subst x); (on_goal 2 => clear_value x))
    | (intro x; clear_value x)
    | with_reducible first
        | apply Frames.next | apply Frames.ite | apply Frame.ite | apply Frame.refl | assumption
        | apply Frame.after (State.dramReads_frame ..) | apply Frame.after (State.encodePages_frame ..)
        | (apply Frame.of_pair (State.encodePages_frame ..); (on_goal 1 => assumption))
        | apply Frame.after (State.finish_frame ..) | apply Frame.after (State.setDesc_frame ..)
        | apply Frame.after (State.startProg_frame ..) | ((conv => arg 3; arg 20); apply Frame.step (State.mk_frame ..))
    | exact rfl | exact Or.inl rfl | exact Or.inr rfl | (fail_if_no_progress simp; exact rfl) | split | dsimp only

theorem State.copySources_frame (s : State) (d : Desc) : Frame 0x59fa1dffdb s (State.copySources s d) := by
  unfold State.copySources
  iterate 80 all_goals try first
    | lift_lets
    | (intro x; refine Frame.cut (m := 0x59fa1dffdb) (s := s) (t := x) ?_ fun _ => ?_; (on_goal 1 => subst x); (on_goal 2 => clear_value x))
    | (intro x; clear_value x)
    | with_reducible first
        | apply Frame.ite | apply Frame.refl | assumption | apply Frame.after (State.encodePages_frame ..)
        | (apply Frame.of_pair (State.encodePages_frame ..); (on_goal 1 => assumption))
        | apply Frame.after (State.finish_frame ..) | apply Frame.after (State.fresh_frame ..)
        | (apply Frame.of_pair (State.fresh_frame ..); (on_goal 1 => assumption))
        | apply Frame.after (State.setDesc_frame ..) | apply Frame.after (State.startProg_frame ..)
        | ((conv => arg 3; arg 20); apply Frame.step (State.mk_frame ..))
    | exact rfl | exact Or.inl rfl | exact Or.inr rfl | (fail_if_no_progress simp; exact rfl) | split | dsimp only

theorem State.mapLost_frame (s : State) (lost : Option Nat) : Frame 0x59fa1de79b s (State.mapLost s lost) := by
  unfold State.mapLost
  iterate 80 all_goals try first
    | with_reducible first
        | apply Frame.refl | assumption | apply Frame.after (State.dramUncorr_frame ..)
        | apply Frame.after (State.memFatal_frame ..)
    | exact rfl | (fail_if_no_progress simp; exact rfl) | split | dsimp only

theorem execErase_frame (id : Nat) (maps : List Bytes) (s : State) (corr : Nat := 0) (lost : Option Nat := none) :
    Frames 0x59fa1def9b s (execErase id maps s corr lost) := by
  unfold execErase
  iterate 80 all_goals try first
    | lift_lets
    | (intro x; refine Frame.cut (m := 0x59fa1def9b) (s := u) (t := x) ?_ fun _ => ?_; (on_goal 1 => subst x); (on_goal 2 => clear_value x))
    | (intro x; refine Frame.cut (m := 0x59fa1def9b) (s := s) (t := x) ?_ fun _ => ?_; (on_goal 1 => subst x); (on_goal 2 => clear_value x))
    | (intro x; clear_value x)
    | with_reducible first
        | apply Frames.next | apply Frames.ite | apply Frame.ite | apply Frame.refl | assumption
        | apply Frame.foldl (k := fun u _ => ?_) | apply Frame.after (State.dramReads_frame ..)
        | apply Frame.after (State.enqueueErase_frame ..) | apply Frame.after (State.finish_frame ..)
        | apply Frame.after (State.mapLost_frame ..) | apply Frame.after (State.setDesc_frame ..)
        | apply Frame.after (State.writeMapLine_frame ..) | ((conv => arg 3; arg 20); apply Frame.step (State.mk_frame ..))
    | exact rfl | exact Or.inl rfl | exact Or.inr rfl | (fail_if_no_progress simp; exact rfl) | split | dsimp only

theorem State.setRow_frame (s : State) (r : Row) : Frame 0x100 s (State.setRow s r) := by
  unfold State.setRow
  iterate 80 all_goals try first
    | (intro x; clear_value x)
    | with_reducible first
        | apply Frame.ite | apply Frame.refl | assumption | ((conv => arg 3; arg 20); apply Frame.step (State.mk_frame ..))
    | exact rfl | exact Or.inl rfl | exact Or.inr rfl | split | dsimp only

theorem State.rowAppend_frame (s : State) (r : Row) (envs : List (Bytes × Bytes)) (alloc : Bool) (due : Nat) :
    Frame 0x2001900 s (State.rowAppend s r envs alloc due) := by
  unfold State.rowAppend
  iterate 80 all_goals try first
    | lift_lets
    | (intro x; refine Frame.cut (m := 0x2001900) (s := u) (t := x) ?_ fun _ => ?_; (on_goal 1 => subst x); (on_goal 2 => clear_value x))
    | (intro x; refine Frame.cut (m := 0x2001900) (s := s) (t := x) ?_ fun _ => ?_; (on_goal 1 => subst x); (on_goal 2 => clear_value x))
    | (intro x; clear_value x)
    | with_reducible first
        | apply Frame.ite | apply Frame.refl | assumption | apply Frame.foldl (k := fun u _ => ?_)
        | apply Frame.after (State.allocPage_frame ..) | apply Frame.after (State.setRow_frame ..)
        | ((conv => arg 3; arg 20); apply Frame.step (State.mk_frame ..))
    | exact rfl | exact Or.inl rfl | exact Or.inr rfl | (fail_if_no_progress simp; exact rfl) | split | dsimp only

theorem State.rowFlush_frame (s : State) (r : Row) (due : Nat) : Frame 0x2009900 s (State.rowFlush s r due).2 := by
  unfold State.rowFlush
  iterate 80 all_goals try first
    | lift_lets
    | (intro x; refine Frame.cut (m := 0x2009900) (s := q.2) (t := x) ?_ fun _ => ?_; (on_goal 1 => subst x); (on_goal 2 => clear_value x))
    | (intro x; refine Frame.cut (m := 0x2009900) (s := u) (t := x) ?_ fun _ => ?_; (on_goal 1 => subst x); (on_goal 2 => clear_value x))
    | (intro x; refine Frame.cut (m := 0x2009900) (s := s) (t := x) ?_ fun _ => ?_; (on_goal 1 => subst x); (on_goal 2 => clear_value x))
    | (intro x; clear_value x)
    | with_reducible first
        | apply Frame.refl | assumption | apply Frame.foldl (k := fun u _ => ?_) | apply Frame.foldl_snd (k := fun q _ => ?_)
        | apply Frame.after (State.filler_frame ..)
        | (apply Frame.of_pair (State.filler_frame ..); (on_goal 1 => assumption))
        | apply Frame.after (State.rowAppend_frame ..)
    | exact rfl | (fail_if_no_progress simp; exact rfl) | split | dsimp only

theorem State.flushLeaving_frame (s : State) (n due : Nat) : Frame 0x2009900 s (State.flushLeaving s n due) := by
  unfold State.flushLeaving
  iterate 80 all_goals try first
    | lift_lets
    | (intro x; refine Frame.cut (m := 0x2009900) (s := u) (t := x) ?_ fun _ => ?_; (on_goal 1 => subst x); (on_goal 2 => clear_value x))
    | (intro x; refine Frame.cut (m := 0x2009900) (s := s) (t := x) ?_ fun _ => ?_; (on_goal 1 => subst x); (on_goal 2 => clear_value x))
    | (intro x; clear_value x)
    | with_reducible first
        | apply Frame.ite | apply Frame.refl | assumption | apply Frame.foldl (k := fun u _ => ?_)
        | apply Frame.after (State.rowFlush_frame ..)
        | (apply Frame.of_pair (State.rowFlush_frame ..); (on_goal 1 => assumption))
    | exact rfl | (fail_if_no_progress simp; exact rfl) | split | dsimp only

theorem execProgramStripe_frame (id : Nat) (buf md : Bytes) (maps : List Bytes) (s : State) (corr : Nat := 0) (lost : Option Nat := none) :
    Frames 0x59fa1dff9b s (execProgramStripe id buf md maps s corr lost) := by
  unfold execProgramStripe
  iterate 80 all_goals try first
    | lift_lets
    | (intro x; refine Frame.cut (m := 0x59fa1dff9b) (s := s) (t := x) ?_ fun _ => ?_; (on_goal 1 => subst x); (on_goal 2 => clear_value x))
    | (intro x; clear_value x)
    | with_reducible first
        | apply Frames.next | apply Frames.ite | apply Frame.ite | apply Frame.refl | assumption
        | apply Frame.after (State.dramReads_frame ..) | apply Frame.after (State.finish_frame ..)
        | apply Frame.after (State.flushLeaving_frame ..) | apply Frame.after (State.fresh_frame ..)
        | (apply Frame.of_pair (State.fresh_frame ..); (on_goal 1 => assumption))
        | apply Frame.after (State.mapLost_frame ..) | apply Frame.after (State.rowAppend_frame ..)
        | apply Frame.after (State.setDesc_frame ..) | apply Frame.after (State.writeMapLine_frame ..)
        | (apply Frame.of_pair0; (on_goal 1 => assumption)) | ((conv => arg 3; arg 20); apply Frame.step (State.mk_frame ..))
    | exact rfl | exact Or.inl rfl | exact Or.inr rfl | (fail_if_no_progress simp; exact rfl) | split | dsimp only

theorem execFlushStripe_frame (id : Nat) (maps : List Bytes) (s : State) (corr : Nat := 0) (lost : Option Nat := none) :
    Frames 0x59fa1dff9b s (execFlushStripe id maps s corr lost) := by
  unfold execFlushStripe
  iterate 80 all_goals try first
    | lift_lets
    | (intro x; refine Frame.cut (m := 0x59fa1dff9b) (s := s) (t := x) ?_ fun _ => ?_; (on_goal 1 => subst x); (on_goal 2 => clear_value x))
    | (intro x; clear_value x)
    | with_reducible first
        | apply Frames.next | apply Frames.ite | apply Frame.ite | apply Frame.refl | assumption
        | apply Frame.after (State.dramReads_frame ..) | apply Frame.after (State.finish_frame ..)
        | apply Frame.after (State.mapLost_frame ..) | apply Frame.after (State.rowFlush_frame ..)
        | (apply Frame.of_pair (State.rowFlush_frame ..); (on_goal 1 => assumption))
        | apply Frame.after (State.setDesc_frame ..) | ((conv => arg 3; arg 20); apply Frame.step (State.mk_frame ..))
    | exact rfl | exact Or.inl rfl | exact Or.inr rfl | (fail_if_no_progress simp; exact rfl) | split | dsimp only

theorem State.rowMemberDone_frame (s : State) (row m st : Nat) : Frame 0x59fa1dffdb s (State.rowMemberDone s row m st) := by
  unfold State.rowMemberDone
  iterate 80 all_goals try first
    | lift_lets
    | (intro x; refine Frame.cut (m := 0x59fa1dffdb) (s := u) (t := x) ?_ fun _ => ?_; (on_goal 1 => subst x); (on_goal 2 => clear_value x))
    | (intro x; refine Frame.cut (m := 0x59fa1dffdb) (s := s) (t := x) ?_ fun _ => ?_; (on_goal 1 => subst x); (on_goal 2 => clear_value x))
    | (intro x; clear_value x)
    | with_reducible first
        | apply Frame.ite | apply Frame.refl | assumption | apply Frame.foldl (k := fun u _ => ?_)
        | apply Frame.after (State.pageLines_frame ..) | apply Frame.after (State.setRow_frame ..)
        | ((conv => arg 3; arg 20); apply Frame.step (State.mk_frame ..))
    | exact rfl | exact Or.inl rfl | exact Or.inr rfl | (fail_if_no_progress simp; exact rfl) | split | dsimp only

theorem State.startMember_frame (s : State) (r : Row) (m : Nat) : Frame 0x59fa1dffdb s (State.startMember s r m) := by
  unfold State.startMember
  iterate 80 all_goals try first
    | lift_lets
    | (intro x; refine Frame.cut (m := 0x59fa1dffdb) (s := s) (t := x) ?_ fun _ => ?_; (on_goal 1 => subst x); (on_goal 2 => clear_value x))
    | (intro x; clear_value x)
    | with_reducible first
        | apply Frame.refl | assumption | apply Frame.after (State.enqueueProg_frame ..)
        | apply Frame.after (State.fresh_frame ..) | (apply Frame.of_pair (State.fresh_frame ..); (on_goal 1 => assumption))
        | apply Frame.after (State.rowMemberDone_frame ..) | ((conv => arg 3; arg 20); apply Frame.step (State.mk_frame ..))
    | exact rfl | exact Or.inl rfl | exact Or.inr rfl | (fail_if_no_progress simp; exact rfl) | split | dsimp only

theorem execRowMemberProgramStart_frame (row m : Nat) (s : State) :
    Frames 0x59fa1dffdb s (execRowMemberProgramStart row m s) := by
  unfold execRowMemberProgramStart
  iterate 80 all_goals try first
    | lift_lets
    | (intro x; refine Frame.cut (m := 0x59fa1dffdb) (s := s) (t := x) ?_ fun _ => ?_; (on_goal 1 => subst x); (on_goal 2 => clear_value x))
    | (intro x; clear_value x)
    | with_reducible first
        | apply Frames.next | apply Frames.ite | apply Frame.ite | apply Frame.refl | assumption
        | apply Frame.after (State.setRow_frame ..) | apply Frame.after (State.startMember_frame ..)
        | ((conv => arg 3; arg 20); apply Frame.step (State.mk_frame ..))
    | exact rfl | exact Or.inl rfl | exact Or.inr rfl | (fail_if_no_progress simp; exact rfl) | split | dsimp only

theorem execRowComplete_frame (row : Nat) (s : State) : Frames 0x180 s (execRowComplete row s) := by
  unfold execRowComplete
  iterate 80 all_goals try first
    | lift_lets
    | (intro x; refine Frame.cut (m := 0x180) (s := u) (t := x) ?_ fun _ => ?_; (on_goal 1 => subst x); (on_goal 2 => clear_value x))
    | (intro x; refine Frame.cut (m := 0x180) (s := s) (t := x) ?_ fun _ => ?_; (on_goal 1 => subst x); (on_goal 2 => clear_value x))
    | (intro x; clear_value x)
    | with_reducible first
        | apply Frames.next | apply Frames.ite | apply Frame.ite | apply Frame.refl | assumption
        | apply Frame.foldl (k := fun u _ => ?_) | apply Frame.after (State.finish_frame ..)
        | apply Frame.after (State.together_frame ..) | ((conv => arg 3; arg 20); apply Frame.step (State.mk_frame ..))
    | exact rfl | exact Or.inl rfl | exact Or.inr rfl | (fail_if_no_progress simp; exact rfl) | split | dsimp only

theorem State.aheadFailed_frame (s : State) (o : DieOp) (st : Nat) : Frame 0x59fa1dffdb s (State.aheadFailed s o st) := by
  unfold State.aheadFailed
  iterate 80 all_goals try first
    | with_reducible first
        | apply Frame.refl | assumption | apply Frame.foldl (k := fun u _ => ?_)
        | apply Frame.after (State.progDone_frame ..) | apply Frame.after (State.rowMemberDone_frame ..)
    | exact rfl | (fail_if_no_progress simp; exact rfl) | split | dsimp only

theorem State.aheadLeaves_frame (s : State) (op : Nat) : Frame 0x100 s (State.aheadLeaves s op) := by
  unfold State.aheadLeaves
  iterate 80 all_goals try first
    | (intro x; clear_value x)
    | with_reducible first
        | apply Frame.refl | assumption | ((conv => arg 3; arg 20); apply Frame.step (State.mk_frame ..))
    | exact rfl | exact Or.inl rfl | exact Or.inr rfl | dsimp only

theorem State.aheadDone_frame (s : State) (op st : Nat) : Frame 0x59fa1dffdb s (State.aheadDone s op st) := by
  unfold State.aheadDone
  iterate 80 all_goals try first
    | lift_lets
    | (intro x; refine Frame.cut (m := 0x59fa1dffdb) (s := s) (t := x) ?_ fun _ => ?_; (on_goal 1 => subst x); (on_goal 2 => clear_value x))
    | (intro x; clear_value x)
    | with_reducible first
        | apply Frame.ite | apply Frame.refl | assumption | apply Frame.after (State.aheadFailed_frame ..)
        | apply Frame.after (State.aheadLeaves_frame ..) | apply Frame.after (State.enqueueProg_frame ..)
    | exact rfl | (fail_if_no_progress simp; exact rfl) | split | dsimp only

theorem execGuardedReeraseRelease_frame (r : Nat) (s : State) : Frames 0x42152912 s (execGuardedReeraseRelease r s) := by
  unfold execGuardedReeraseRelease
  iterate 80 all_goals try first
    | lift_lets
    | (intro x; refine Frame.cut (m := 0x42152912) (s := u) (t := x) ?_ fun _ => ?_; (on_goal 1 => subst x); (on_goal 2 => clear_value x))
    | (intro x; refine Frame.cut (m := 0x42152912) (s := s) (t := x) ?_ fun _ => ?_; (on_goal 1 => subst x); (on_goal 2 => clear_value x))
    | (intro x; clear_value x)
    | with_reducible first
        | apply Frames.next | apply Frames.ite | apply Frame.ite | apply Frame.refl | assumption
        | apply Frame.foldl (k := fun u _ => ?_) | apply Frame.after (State.enqueueErase_frame ..)
        | ((conv => arg 3; arg 20); apply Frame.step (State.mk_frame ..))
    | exact rfl | exact Or.inl rfl | exact Or.inr rfl | (fail_if_no_progress simp; exact rfl) | split | dsimp only

end Sys2Proof.Machine
end

