-- ==== Sys2Proof/Laws/FrameSorting.lean ====
section
/-! SUPPORT. The frame of every operation of Machine/Sorting.lean. -/

set_option linter.all false

namespace Sys2Proof.Machine

theorem State.setScan_frame (s : State) (c : Scan) : Frame 0x400 s (State.setScan s c) := by
  unfold State.setScan
  iterate 80 all_goals try first
    | (intro x; clear_value x)
    | with_reducible first
        | apply Frame.ite | apply Frame.refl | assumption | ((conv => arg 3; arg 20); apply Frame.step (State.mk_frame ..))
    | exact rfl | exact Or.inl rfl | exact Or.inr rfl | split | dsimp only

theorem execScan_frame (id : Nat) (plan : Bytes) (blocks : List Nat) (s : State) (corr : Nat := 0) :
    Frames 0x52150492 s (execScan id plan blocks s corr) := by
  unfold execScan
  iterate 80 all_goals try first
    | lift_lets
    | (intro x; refine Frame.cut (m := 0x52150492) (s := s) (t := x) ?_ fun _ => ?_; (on_goal 1 => subst x); (on_goal 2 => clear_value x))
    | (intro x; clear_value x)
    | with_reducible first
        | apply Frames.next | apply Frames.ite | apply Frame.ite | apply Frame.refl | assumption
        | apply Frame.after (State.dramReads_frame ..) | apply Frame.step (State.raise_frame ..)
        | apply Frame.after (State.scanFinish_frame ..) | apply Frame.after (State.scanShow_frame ..)
        | apply Frame.after (State.setDesc_frame ..) | ((conv => arg 3; arg 20); apply Frame.step (State.mk_frame ..))
    | exact rfl | exact Or.inl rfl | exact Or.inr rfl | (fail_if_no_progress simp; exact rfl) | split | dsimp only

theorem execScanStart_frame (id : Nat) (s : State) : Frames 0x10000400 s (execScanStart id s) := by
  unfold execScanStart
  iterate 80 all_goals try first
    | lift_lets
    | (intro x; refine Frame.cut (m := 0x10000400) (s := s) (t := x) ?_ fun _ => ?_; (on_goal 1 => subst x); (on_goal 2 => clear_value x))
    | (intro x; clear_value x)
    | with_reducible first
        | apply Frames.next | apply Frames.ite | apply Frame.ite | apply Frame.refl | assumption
        | apply Frame.after (State.scanShow_frame ..) | apply Frame.after (State.setScan_frame ..)
        | ((conv => arg 3; arg 20); apply Frame.step (State.mk_frame ..))
    | exact rfl | exact Or.inl rfl | exact Or.inr rfl | (fail_if_no_progress simp; exact rfl) | split | dsimp only

theorem execItemFetch_frame (id : Nat) (item : Bytes) (s : State) (corr : Nat := 0) :
    Frames 0x2000400 s (execItemFetch id item s corr) := by
  unfold execItemFetch
  iterate 80 all_goals try first
    | (intro x; clear_value x)
    | with_reducible first
        | apply Frames.next | apply Frames.ite | apply Frame.ite | apply Frame.refl | assumption
        | apply Frame.after (State.dramReads_frame ..) | apply Frame.after (State.setScan_frame ..)
        | ((conv => arg 3; arg 20); apply Frame.step (State.mk_frame ..))
    | exact rfl | exact Or.inl rfl | exact Or.inr rfl | (fail_if_no_progress simp; exact rfl) | split | dsimp only

theorem State.useFloor_frame (s : State) : Frame 0x1000 s (State.useFloor s) := by
  unfold State.useFloor
  iterate 80 all_goals try first
    | (intro x; clear_value x)
    | with_reducible first
        | apply Frame.refl | assumption | ((conv => arg 3; arg 20); apply Frame.step (State.mk_frame ..))
    | exact rfl | exact Or.inl rfl | exact Or.inr rfl | dsimp only

theorem State.positionReads_frame (s : State) (c : Scan) (p : Position) :
    Frame 0x59fa1dffdb s (State.positionReads s c p) := by
  unfold State.positionReads
  iterate 80 all_goals try first
    | lift_lets
    | (intro x; refine Frame.cut (m := 0x59fa1dffdb) (s := s) (t := x) ?_ fun _ => ?_; (on_goal 1 => subst x); (on_goal 2 => clear_value x))
    | (intro x; clear_value x)
    | with_reducible first
        | apply Frame.ite | apply Frame.refl | assumption | apply Frame.after (State.enqueueReads_frame ..)
        | apply Frame.after (State.envChecks_frame ..)
        | (apply Frame.of_pair (State.envChecks_frame ..); (on_goal 1 => assumption))
        | apply Frame.after (State.floorShow_frame ..) | apply Frame.after (State.makeJobs_frame ..)
        | (apply Frame.of_pair (State.makeJobs_frame ..); (on_goal 1 => assumption))
        | apply Frame.after (State.setScan_frame ..) | apply Frame.after (State.useFloor_frame ..)
        | ((conv => arg 3; arg 20); apply Frame.step (State.mk_frame ..))
    | exact rfl | exact Or.inl rfl | exact Or.inr rfl | (fail_if_no_progress simp; exact rfl) | split | dsimp only

theorem State.releasePosition_frame (s : State) (c : Scan) (p : Position) :
    Frame 0x10000400 s (State.releasePosition s c p) := by
  unfold State.releasePosition
  iterate 80 all_goals try first
    | (intro x; clear_value x)
    | with_reducible first
        | apply Frame.refl | assumption | apply Frame.after (State.floorShow_frame ..)
        | apply Frame.after (State.setScan_frame ..) | ((conv => arg 3; arg 20); apply Frame.step (State.mk_frame ..))
    | exact rfl | exact Or.inl rfl | exact Or.inr rfl | (fail_if_no_progress simp; exact rfl) | dsimp only

theorem State.wantPayloads_frame (s : State) (js : List Job) : Frame 0x100 s (State.wantPayloads s js) := by
  unfold State.wantPayloads
  iterate 80 all_goals try first
    | (intro x; clear_value x)
    | with_reducible first
        | apply Frame.ite | apply Frame.refl | assumption | apply Frame.foldl (k := fun u _ => ?_)
        | apply Frame.after (State.setJob_frame ..) | ((conv => arg 3; arg 20); apply Frame.step (State.mk_frame ..))
    | exact rfl | exact Or.inl rfl | exact Or.inr rfl | (fail_if_no_progress simp; exact rfl) | split | dsimp only

theorem State.positionStep_frame (s : State) (id key : Nat) : Frame 0x810002700 s (State.positionStep s id key) := by
  unfold State.positionStep
  iterate 80 all_goals try first
    | lift_lets
    | (intro x; refine Frame.cut (m := 0x810002700) (s := u) (t := x) ?_ fun _ => ?_; (on_goal 1 => subst x); (on_goal 2 => clear_value x))
    | (intro x; refine Frame.cut (m := 0x810002700) (s := s) (t := x) ?_ fun _ => ?_; (on_goal 1 => subst x); (on_goal 2 => clear_value x))
    | (intro x; clear_value x)
    | with_reducible first
        | apply Frame.ite | apply Frame.refl | assumption | apply Frame.foldl (k := fun u _ => ?_)
        | apply Frame.after (State.cancelJob_frame ..) | apply Frame.after (State.releasePosition_frame ..)
        | apply Frame.after (State.setScan_frame ..) | apply Frame.after (State.wantPayloads_frame ..)
        | ((conv => arg 3; arg 20); apply Frame.step (State.mk_frame ..))
    | exact rfl | exact Or.inl rfl | exact Or.inr rfl | (fail_if_no_progress simp; exact rfl) | split | dsimp only

theorem execPositionAdmit_frame (id : Nat) (s : State) : Frames 0x59fa1dffdb s (execPositionAdmit id s) := by
  unfold execPositionAdmit
  iterate 80 all_goals try first
    | lift_lets
    | (intro x; refine Frame.cut (m := 0x59fa1dffdb) (s := s) (t := x) ?_ fun _ => ?_; (on_goal 1 => subst x); (on_goal 2 => clear_value x))
    | (intro x; clear_value x)
    | with_reducible first
        | apply Frames.next | apply Frames.ite | apply Frame.ite | apply Frame.refl | assumption
        | apply Frame.after (State.positionReads_frame ..) | apply Frame.after (State.positionStep_frame ..)
        | ((conv => arg 3; arg 20); apply Frame.step (State.mk_frame ..))
    | exact rfl | exact Or.inl rfl | exact Or.inr rfl | (fail_if_no_progress simp; exact rfl) | split | dsimp only

theorem State.scanHeader_frame (s : State) (id key i code : Nat) (content : Bytes) :
    Frame 0x810002700 s (State.scanHeader s id key i code content) := by
  unfold State.scanHeader
  iterate 80 all_goals try first
    | (intro x; clear_value x)
    | with_reducible first
        | apply Frame.refl | assumption | apply Frame.after (State.positionStep_frame ..)
        | apply Frame.after (State.setScan_frame ..) | ((conv => arg 3; arg 20); apply Frame.step (State.mk_frame ..))
    | exact rfl | exact Or.inl rfl | exact Or.inr rfl | (fail_if_no_progress simp; exact rfl) | split | dsimp only

theorem State.scanResult_frame (s : State) (id key i : Nat) (r : EnvRes) :
    Frame 0x810002700 s (State.scanResult s id key i r) := by
  unfold State.scanResult
  iterate 80 all_goals try first
    | (intro x; clear_value x)
    | with_reducible first
        | apply Frame.refl | assumption | apply Frame.after (State.positionStep_frame ..)
        | apply Frame.after (State.setScan_frame ..) | ((conv => arg 3; arg 20); apply Frame.step (State.mk_frame ..))
    | exact rfl | exact Or.inl rfl | exact Or.inr rfl | (fail_if_no_progress simp; exact rfl) | split | dsimp only

theorem execLaneEvaluateDone_frame (id pos : Nat) (s : State) : Frames 0x400 s (execLaneEvaluateDone id pos s) := by
  unfold execLaneEvaluateDone
  iterate 80 all_goals try first
    | lift_lets
    | (intro x; refine Frame.cut (m := 0x400) (s := s) (t := x) ?_ fun _ => ?_; (on_goal 1 => subst x); (on_goal 2 => clear_value x))
    | (intro x; clear_value x)
    | with_reducible first
        | apply Frames.next | apply Frames.ite | apply Frame.ite | apply Frame.refl | assumption
        | apply Frame.after (State.setScan_frame ..) | ((conv => arg 3; arg 20); apply Frame.step (State.mk_frame ..))
    | exact rfl | exact Or.inl rfl | exact Or.inr rfl | (fail_if_no_progress simp; exact rfl) | split | dsimp only

theorem State.discardScan_frame (s : State) (c : Scan) : Frame 0x810002700 s (State.discardScan s c) := by
  unfold State.discardScan
  iterate 80 all_goals try first
    | lift_lets
    | (intro x; refine Frame.cut (m := 0x810002700) (s := u) (t := x) ?_ fun _ => ?_; (on_goal 1 => subst x); (on_goal 2 => clear_value x))
    | (intro x; refine Frame.cut (m := 0x810002700) (s := s) (t := x) ?_ fun _ => ?_; (on_goal 1 => subst x); (on_goal 2 => clear_value x))
    | (intro x; clear_value x)
    | with_reducible first
        | apply Frame.refl | assumption | apply Frame.foldl (k := fun u _ => ?_)
        | apply Frame.after (State.cancelJob_frame ..) | apply Frame.after (State.floorShow_frame ..)
        | apply Frame.after (State.setScan_frame ..) | ((conv => arg 3; arg 20); apply Frame.step (State.mk_frame ..))
    | exact rfl | exact Or.inl rfl | exact Or.inr rfl | (fail_if_no_progress simp; exact rfl) | split | dsimp only

theorem outcomeCounter_group {o i : Nat} (h : outcomeCounter o = some i) : regGroup i = 10 := by
  unfold outcomeCounter at h
  split at h <;> cases h <;> decide

theorem State.retirePosition_frame (s : State) (c : Scan) (p : Position) :
    Frame 0x850152713 s (State.retirePosition s c p) := by
  unfold State.retirePosition
  iterate 80 all_goals try first
    | lift_lets
    | (intro x; refine Frame.cut (m := 0x850152713) (s := s) (t := x) ?_ fun _ => ?_; (on_goal 1 => subst x); (on_goal 2 => clear_value x))
    | (intro x; clear_value x)
    | with_reducible first
        | apply Frame.ite | apply Frame.refl | assumption | apply Frame.step (State.bump_frame ..)
        | apply Frame.after (State.discardScan_frame ..) | apply Frame.after (State.fab_frame ..)
        | apply Frame.after (State.floorShow_frame ..) | apply Frame.step (State.raise_frame ..)
        | apply Frame.after (State.setScan_frame ..) | ((conv => arg 3; arg 20); apply Frame.step (State.mk_frame ..))
    | exact rfl | exact Or.inl rfl | exact Or.inr rfl | (fail_if_no_progress simp; exact rfl)
    | (rw [outcomeCounter_group (by assumption)]; rfl) | split | dsimp only

theorem execPositionRetire_frame (id : Nat) (s : State) : Frames 0x850152713 s (execPositionRetire id s) := by
  unfold execPositionRetire
  iterate 80 all_goals try first
    | with_reducible first
        | apply Frames.next | apply Frames.ite | apply Frame.ite | apply Frame.refl | assumption
        | apply Frame.after (State.retirePosition_frame ..)
    | exact rfl | (fail_if_no_progress simp; exact rfl) | split | dsimp only

theorem execScanEnd_frame (id : Nat) (s : State) : Frames 0x50010481 s (execScanEnd id s) := by
  unfold execScanEnd
  iterate 80 all_goals try first
    | lift_lets
    | (intro x; refine Frame.cut (m := 0x50010481) (s := s) (t := x) ?_ fun _ => ?_; (on_goal 1 => subst x); (on_goal 2 => clear_value x))
    | (intro x; clear_value x)
    | with_reducible first
        | apply Frames.next | apply Frames.ite | apply Frame.ite | apply Frame.refl | assumption
        | apply Frame.after (State.closeScan_frame ..)
    | exact rfl | (fail_if_no_progress simp; exact rfl) | split | dsimp only

theorem State.moveLane_frame (s : State) (l m : Nat) : Frame 0x400 s (State.moveLane s l m) := by
  unfold State.moveLane
  iterate 80 all_goals try first
    | (intro x; clear_value x)
    | with_reducible first
        | apply Frame.refl | assumption | apply Frame.foldl (k := fun u _ => ?_)
        | ((conv => arg 3; arg 20); apply Frame.step (State.mk_frame ..))
    | exact rfl | exact Or.inl rfl | exact Or.inr rfl | dsimp only

theorem State.laneRetire_frame (s : State) (l : Nat) : Frame 0x50150412 s (State.laneRetire s l) := by
  unfold State.laneRetire
  iterate 80 all_goals try first
    | lift_lets
    | (intro x; refine Frame.cut (m := 0x50150412) (s := s) (t := x) ?_ fun _ => ?_; (on_goal 1 => subst x); (on_goal 2 => clear_value x))
    | (intro x; clear_value x)
    | with_reducible first
        | apply Frame.ite | apply Frame.refl | assumption | apply Frame.after (State.moveLane_frame ..)
        | apply Frame.step (State.raise_frame ..) | apply Frame.step (State.setF_frame ..)
        | ((conv => arg 3; arg 20); apply Frame.step (State.mk_frame ..))
    | exact rfl | exact Or.inl rfl | exact Or.inr rfl | (fail_if_no_progress simp; exact rfl) | split | dsimp only

theorem execLaneSelfTestDue_frame (lane : Nat) (pass : Bool) (s : State) :
    Frames 0x50150412 s (execLaneSelfTestDue lane pass s) := by
  unfold execLaneSelfTestDue
  iterate 80 all_goals try first
    | with_reducible first
        | apply Frames.next | apply Frames.ite | apply Frame.ite | apply Frame.refl | assumption
        | apply Frame.after (State.laneRetire_frame ..)
    | exact rfl | (fail_if_no_progress simp; exact rfl) | split | dsimp only

theorem execLaneFault_frame (lane : Nat) (s : State) : Frames 0x50150412 s (execLaneFault lane s) := by
  unfold execLaneFault
  iterate 80 all_goals try first
    | with_reducible first
        | apply Frames.next | apply Frame.refl | assumption | apply Frame.after (State.laneRetire_frame ..)
    | exact rfl | (fail_if_no_progress simp; exact rfl) | dsimp only

end Sys2Proof.Machine
end

