-- ==== Sys2Proof/Laws/FrameOutcome.lean ====
section
/-! SUPPORT. The frame of every operation of Machine/Outcome.lean. -/

set_option linter.all false

namespace Sys2Proof.Machine

theorem State.writeEnv_frame (s : State) (d : Desc) (i : Nat) (r : EnvRes) :
    Frame 0x40010001 s (State.writeEnv s d i r) := by
  unfold State.writeEnv
  iterate 80 all_goals try first
    | lift_lets
    | (intro x; refine Frame.cut (m := 0x40010001) (s := s) (t := x) ?_ fun _ => ?_; (on_goal 1 => subst x); (on_goal 2 => clear_value x))
    | (intro x; clear_value x)
    | with_reducible first
        | apply Frame.ite | apply Frame.refl | assumption | apply Frame.after (State.fab_frame ..)
    | exact rfl | (fail_if_no_progress simp; exact rfl) | split | dsimp only

theorem State.phInstallLocked_frame (s : State) (a epoch : Nat) (content payload : Bytes) :
    Frame 0x42151812 s (State.phInstallLocked s a epoch content payload).1 := by
  unfold State.phInstallLocked
  iterate 80 all_goals try first
    | lift_lets | (intro x; (have hf : State → _ := x); clear hf; subst x)
    | (intro x; refine Frame.cut (m := 0x42151812) (s := s) (t := x) ?_ fun _ => ?_; (on_goal 1 => subst x); (on_goal 2 => clear_value x))
    | (fail_if_no_progress beta_reduce) | (intro x; clear_value x)
    | with_reducible first
        | apply Frame.ite | apply Frame.refl | assumption | apply Frame.step (State.bump_frame ..)
        | apply Frame.after (State.phCount_frame ..) | apply Frame.after (State.phDrop_frame ..)
        | apply Frame.after (State.setLine_frame ..) | apply Frame.after (State.wordsRewritten_frame ..)
        | ((conv => arg 3; arg 20); apply Frame.step (State.mk_frame ..))
    | exact rfl | exact Or.inl rfl | exact Or.inr rfl | (fail_if_no_progress simp; exact rfl) | split | dsimp only

theorem State.fillInstall_frame (s : State) (d : Desc) (a epoch : Nat) (r : EnvRes) :
    Frame 0x42151812 s (State.fillInstall s d a epoch r).1 := by
  unfold State.fillInstall
  iterate 80 all_goals try first
    | with_reducible first
        | apply Frame.ite | apply Frame.refl | assumption | apply Frame.after (State.phInstall_frame ..)
        | (apply Frame.of_pair_fst (State.phInstall_frame ..); (on_goal 1 => assumption))
        | apply Frame.after (State.phInstallLocked_frame ..)
        | (apply Frame.of_pair_fst (State.phInstallLocked_frame ..); (on_goal 1 => assumption))
    | exact rfl | (fail_if_no_progress simp; exact rfl) | split | dsimp only

theorem State.descCheck_frame (s : State) (id : Nat) : Frame 0x59fa1dffdb s (State.descCheck s id) := by
  unfold State.descCheck
  iterate 80 all_goals try first
    | lift_lets
    | (intro x; refine Frame.cut (m := 0x59fa1dffdb) (s := s) (t := x) ?_ fun _ => ?_; (on_goal 1 => subst x); (on_goal 2 => clear_value x))
    | (intro x; clear_value x)
    | with_reducible first
        | apply Frame.ite | apply Frame.refl | assumption | apply Frame.after (State.copySources_frame ..)
        | apply Frame.after (State.finish_frame ..)
    | exact rfl | (fail_if_no_progress simp; exact rfl) | split | dsimp only

theorem State.descResult_frame (s : State) (id i a epoch : Nat) (r : EnvRes) :
    Frame 0x59fa1dffdb s (State.descResult s id i a epoch r) := by
  unfold State.descResult
  iterate 80 all_goals try first
    | lift_lets
    | (intro x; refine Frame.cut (m := 0x59fa1dffdb) (s := s) (t := x) ?_ fun _ => ?_; (on_goal 1 => subst x); (on_goal 2 => clear_value x))
    | (intro x; clear_value x)
    | with_reducible first
        | apply Frame.ite | apply Frame.refl | assumption | apply Frame.after (State.descCheck_frame ..)
        | apply Frame.after (State.fillInstall_frame ..)
        | (apply Frame.of_pair_fst (State.fillInstall_frame ..); (on_goal 1 => assumption))
        | apply Frame.after (State.setDesc_frame ..) | apply Frame.after (State.writeEnv_frame ..)
        | ((conv => arg 3; arg 20); apply Frame.step (State.mk_frame ..))
    | exact rfl | exact Or.inl rfl | exact Or.inr rfl | (fail_if_no_progress simp; exact rfl) | split | dsimp only

theorem State.rebuildSlot_frame (s : State) (entry slot : Nat) (j : Job) (r : EnvRes) (code missing : Nat) :
    Frame 0x44152112 s (State.rebuildSlot s entry slot j r code missing) := by
  unfold State.rebuildSlot
  iterate 80 all_goals try first
    | lift_lets
    | (intro x; refine Frame.cut (m := 0x44152112) (s := s) (t := x) ?_ fun _ => ?_; (on_goal 1 => subst x); (on_goal 2 => clear_value x))
    | (intro x; clear_value x)
    | with_reducible first
        | apply Frame.ite | apply Frame.refl | assumption | apply Frame.after (State.lettersGo_frame ..)
        | ((conv => arg 3; arg 20); apply Frame.step (State.mk_frame ..))
    | exact rfl | exact Or.inl rfl | exact Or.inr rfl | (fail_if_no_progress simp; exact rfl) | split | dsimp only

theorem State.patrolFinding_frame (s : State) (j : Job) (r : EnvRes) (code missing : Nat) :
    Frame 0x4615a912 s (State.patrolFinding s j r code missing) := by
  unfold State.patrolFinding
  iterate 80 all_goals try first
    | lift_lets
    | (intro x; refine Frame.cut (m := 0x4615a912) (s := s) (t := x) ?_ fun _ => ?_; (on_goal 1 => subst x); (on_goal 2 => clear_value x))
    | (intro x; clear_value x)
    | with_reducible first
        | apply Frame.ite | apply Frame.refl | assumption | apply Frame.after (State.settle_frame ..)
        | ((conv => arg 3; arg 20); apply Frame.step (State.mk_frame ..))
    | exact rfl | exact Or.inl rfl | exact Or.inr rfl | (fail_if_no_progress simp; exact rfl) | split | dsimp only

theorem State.memberResult_frame (s : State) (c m : Nat) (r : EnvRes) : Frame 0x2000 s (State.memberResult s c m r) := by
  unfold State.memberResult
  iterate 80 all_goals try first
    | with_reducible first
        | apply Frame.refl | assumption | apply Frame.after (State.memberDone_frame ..)
    | exact rfl | (fail_if_no_progress simp; exact rfl) | split | dsimp only

theorem State.calBad_frame (s : State) (id st : Nat) : Frame 0x200 s (State.calBad s id st) := by
  unfold State.calBad
  iterate 80 all_goals try first
    | (intro x; clear_value x)
    | with_reducible first
        | apply Frame.ite | apply Frame.refl | assumption | ((conv => arg 3; arg 20); apply Frame.step (State.mk_frame ..))
    | exact rfl | exact Or.inl rfl | exact Or.inr rfl | split | dsimp only

theorem State.jobFinal_frame (s : State) (j : Job) (r : EnvRes) (code missing : Nat) :
    Frame 0x59fe1dffdb s (State.jobFinal s j r code missing) := by
  unfold State.jobFinal
  iterate 80 all_goals try first
    | lift_lets
    | (intro x; refine Frame.cut (m := 0x59fe1dffdb) (s := s) (t := x) ?_ fun _ => ?_; (on_goal 1 => subst x); (on_goal 2 => clear_value x))
    | (intro x; clear_value x)
    | with_reducible first
        | apply Frame.ite | apply Frame.refl | assumption | apply Frame.step (State.bump_frame ..)
        | apply Frame.after (State.calBad_frame ..) | apply Frame.after (State.descResult_frame ..)
        | apply Frame.after (State.finish_frame ..) | apply Frame.after (State.memberResult_frame ..)
        | apply Frame.after (State.rebuildSlot_frame ..) | apply Frame.after (State.scanResult_frame ..)
        | apply Frame.after (State.withdraw_frame ..)
    | exact rfl | (fail_if_no_progress simp; exact rfl) | split | dsimp only

theorem State.jobFailed_frame (s : State) (j : Job) (st : Nat) : Frame 0x59fe1dffdb s (State.jobFailed s j st) := by
  unfold State.jobFailed
  iterate 80 all_goals try first
    | (intro x; clear_value x)
    | with_reducible first
        | apply Frame.ite | apply Frame.refl | assumption | apply Frame.after (State.jobFinal_frame ..)
        | apply Frame.after (State.jobLeavesDie_frame ..) | apply Frame.after (State.toContext_frame ..)
        | apply Frame.after (State.withdraw_frame ..) | ((conv => arg 3; arg 20); apply Frame.step (State.mk_frame ..))
    | exact rfl | exact Or.inl rfl | exact Or.inr rfl | (fail_if_no_progress simp; exact rfl) | split | dsimp only

theorem State.jobUnread_frame (s : State) (j : Job) (st : Nat) : Frame 0x59fe1dffdb s (State.jobUnread s j st) := by
  unfold State.jobUnread
  iterate 80 all_goals try first
    | with_reducible first
        | apply Frame.ite | apply Frame.refl | assumption | apply Frame.after (State.jobFailed_frame ..)
        | apply Frame.after (State.jobLeavesDie_frame ..) | apply Frame.after (State.toContext_frame ..)
        | apply Frame.after (State.withdraw_frame ..)
    | exact rfl | (fail_if_no_progress simp; exact rfl) | split | dsimp only

theorem State.ladderTry_frame (s : State) (j : Job) (base : Option (List Int)) :
    Frame 0x59fe1dffdb s (State.ladderTry s j base) := by
  unfold State.ladderTry
  iterate 80 all_goals try first
    | with_reducible first
        | apply Frame.refl | assumption | apply Frame.after (State.jobUnread_frame ..)
        | apply Frame.after (State.ladderRead_frame ..)
    | exact rfl | (fail_if_no_progress simp; exact rfl) | split | dsimp only

theorem State.ladderGo_frame (s : State) (j : Job) : Frame 0x59fe1dffdb s (State.ladderGo s j) := by
  unfold State.ladderGo
  iterate 80 all_goals try first
    | lift_lets
    | (intro x; refine Frame.cut (m := 0x59fe1dffdb) (s := s) (t := x) ?_ fun _ => ?_; (on_goal 1 => subst x); (on_goal 2 => clear_value x))
    | (intro x; clear_value x)
    | with_reducible first
        | apply Frame.ite | apply Frame.refl | assumption | apply Frame.step (State.bump_frame ..)
        | apply Frame.after (State.jobFailed_frame ..) | apply Frame.after (State.jobUnread_frame ..)
        | apply Frame.after (State.startLadder_frame ..) | apply Frame.after (State.toContext_frame ..)
    | exact rfl | (fail_if_no_progress simp; exact rfl) | split | dsimp only

theorem State.decodeFailed_frame (s : State) (j : Job) : Frame 0x59fe1dffdb s (State.decodeFailed s j) := by
  unfold State.decodeFailed
  iterate 80 all_goals try first
    | (intro x; clear_value x)
    | with_reducible first
        | apply Frame.ite | apply Frame.refl | assumption | apply Frame.after (State.ladderGo_frame ..)
        | apply Frame.after (State.setJob_frame ..) | ((conv => arg 3; arg 20); apply Frame.step (State.mk_frame ..))
    | exact rfl | exact Or.inl rfl | exact Or.inr rfl | (fail_if_no_progress simp; exact rfl) | split | dsimp only

theorem State.rebuildDone_frame (s : State) (entry st : Nat) : Frame 0x844152312 s (State.rebuildDone s entry st) := by
  unfold State.rebuildDone
  iterate 80 all_goals try first
    | lift_lets
    | (intro x; refine Frame.cut (m := 0x844152312) (s := u) (t := x) ?_ fun _ => ?_; (on_goal 1 => subst x); (on_goal 2 => clear_value x))
    | (intro x; refine Frame.cut (m := 0x844152312) (s := s) (t := x) ?_ fun _ => ?_; (on_goal 1 => subst x); (on_goal 2 => clear_value x))
    | (intro x; clear_value x)
    | with_reducible first
        | apply Frame.ite | apply Frame.refl | assumption | apply Frame.foldl (k := fun u _ => ?_)
        | apply Frame.after (State.cancelJob_frame ..) | apply Frame.step (State.raise_frame ..)
        | apply Frame.step (State.setF_frame ..) | apply Frame.step (State.setR_frame ..)
        | ((conv => arg 3; arg 20); apply Frame.step (State.mk_frame ..))
    | exact rfl | exact Or.inl rfl | exact Or.inr rfl | (fail_if_no_progress simp; exact rfl) | split | dsimp only

theorem State.purposeDone_frame (s : State) (st : Nat) (p : Purpose) : Frame 0x59fe1dffdb s (State.purposeDone s st p) := by
  unfold State.purposeDone
  iterate 80 all_goals try first
    | with_reducible first
        | apply Frame.refl | assumption | apply Frame.after (State.aheadDone_frame ..)
        | apply Frame.after (State.eraseAhead_frame ..) | apply Frame.after (State.finish_frame ..)
        | apply Frame.after (State.homeDone_frame ..) | apply Frame.after (State.progDone_frame ..)
        | apply Frame.after (State.rebuildDone_frame ..) | apply Frame.after (State.relocateDone_frame ..)
        | apply Frame.after (State.rowMemberDone_frame ..)
    | exact rfl | (fail_if_no_progress simp; exact rfl) | split | dsimp only

theorem State.safePurpose_frame (s : State) (st : Nat) (p : Purpose) : Frame 0x59fa1dffdb s (State.safePurpose s st p) := by
  unfold State.safePurpose
  iterate 80 all_goals try first
    | lift_lets
    | (intro x; refine Frame.cut (m := 0x59fa1dffdb) (s := s) (t := x) ?_ fun _ => ?_; (on_goal 1 => subst x); (on_goal 2 => clear_value x))
    | (intro x; clear_value x)
    | with_reducible first
        | apply Frame.ite | apply Frame.refl | assumption | apply Frame.after (State.aheadLeaves_frame ..)
        | apply Frame.after (State.eraseAhead_frame ..) | apply Frame.after (State.pageLines_frame ..)
        | apply Frame.after (State.rowMemberDone_frame ..) | apply Frame.after (State.setDesc_frame ..)
        | ((conv => arg 3; arg 20); apply Frame.step (State.mk_frame ..))
    | exact rfl | exact Or.inl rfl | exact Or.inr rfl | (fail_if_no_progress simp; exact rfl) | split | dsimp only

theorem State.tellPurposes_frame (s : State) (o : DieOp) (st : Nat) : Frame 0x59fe1dffdb s (State.tellPurposes s o st) := by
  unfold State.tellPurposes
  iterate 80 all_goals try first
    | with_reducible first
        | apply Frame.ite | apply Frame.refl | assumption | apply Frame.foldl (k := fun u _ => ?_)
        | apply Frame.after (State.purposeDone_frame ..) | apply Frame.after (State.safePurpose_frame ..)
        | apply Frame.after (State.safeSettle_frame ..) | apply Frame.after (State.together_frame ..)
    | exact rfl | (fail_if_no_progress simp; exact rfl) | split | dsimp only

theorem State.logReerased_frame (s : State) (b : Nat) : Frame 0x4000000 s (State.logReerased s b) := by
  unfold State.logReerased
  iterate 80 all_goals try first
    | lift_lets
    | (intro x; refine Frame.cut (m := 0x4000000) (s := u) (t := x) ?_ fun _ => ?_; (on_goal 1 => subst x); (on_goal 2 => clear_value x))
    | (intro x; refine Frame.cut (m := 0x4000000) (s := s) (t := x) ?_ fun _ => ?_; (on_goal 1 => subst x); (on_goal 2 => clear_value x))
    | (intro x; clear_value x)
    | with_reducible first
        | apply Frame.ite | apply Frame.refl | assumption | apply Frame.foldl (k := fun u _ => ?_)
        | apply Frame.step (State.setF_frame ..)
    | exact rfl | (fail_if_no_progress simp; exact rfl) | split | dsimp only

theorem State.eraseEffects_frame (s : State) (o : DieOp) (st : Nat) : Frame 0x4002100 s (State.eraseEffects s o st) := by
  unfold State.eraseEffects
  iterate 80 all_goals try first
    | lift_lets
    | (intro x; refine Frame.cut (m := 0x4002100) (s := u) (t := x) ?_ fun _ => ?_; (on_goal 1 => subst x); (on_goal 2 => clear_value x))
    | (intro x; refine Frame.cut (m := 0x4002100) (s := s) (t := x) ?_ fun _ => ?_; (on_goal 1 => subst x); (on_goal 2 => clear_value x))
    | (intro x; clear_value x)
    | with_reducible first
        | apply Frame.ite | apply Frame.refl | assumption | apply Frame.foldl (k := fun u _ => ?_)
        | apply Frame.after (State.addIncomplete_frame ..) | apply Frame.after (State.dropIncomplete_frame ..)
        | apply Frame.after (State.logReerased_frame ..) | apply Frame.after (State.setPoison_frame ..)
        | ((conv => arg 3; arg 20); apply Frame.step (State.mk_frame ..))
    | exact rfl | exact Or.inl rfl | exact Or.inr rfl | (fail_if_no_progress simp; exact rfl) | split | dsimp only

theorem State.writeEnded_frame (s : State) (o : DieOp) (st : Nat) : Frame 0x59fe1dffdb s (State.writeEnded s o st) := by
  unfold State.writeEnded
  iterate 80 all_goals try first
    | with_reducible first
        | apply Frame.ite | apply Frame.refl | assumption | apply Frame.after (State.eraseEffects_frame ..)
        | apply Frame.after (State.tellPurposes_frame ..)
    | exact rfl | (fail_if_no_progress simp; exact rfl) | split | dsimp only

theorem State.ledgerLost_frame (s : State) (k : Nat) : Frame 0x44150112 s (State.ledgerLost s k) := by
  unfold State.ledgerLost
  iterate 80 all_goals try first
    | lift_lets
    | (intro x; refine Frame.cut (m := 0x44150112) (s := s) (t := x) ?_ fun _ => ?_; (on_goal 1 => subst x); (on_goal 2 => clear_value x))
    | (intro x; clear_value x)
    | with_reducible first
        | apply Frame.refl | assumption | apply Frame.step (State.raise_frame ..) | apply Frame.after (State.setDie_frame ..)
        | ((conv => arg 3; arg 20); apply Frame.step (State.mk_frame ..))
    | exact rfl | exact Or.inl rfl | exact Or.inr rfl | (fail_if_no_progress simp; exact rfl) | dsimp only

theorem State.takeTemp_frame (s : State) (k : Nat) (t : Int) : Frame 0x140150112 s (State.takeTemp s k t) := by
  unfold State.takeTemp
  iterate 80 all_goals try first
    | lift_lets
    | (intro x; refine Frame.cut (m := 0x140150112) (s := s) (t := x) ?_ fun _ => ?_; (on_goal 1 => subst x); (on_goal 2 => clear_value x))
    | (intro x; clear_value x)
    | with_reducible first
        | apply Frame.ite | apply Frame.refl | assumption | apply Frame.after (State.guardUpdate_frame ..)
        | apply Frame.step (State.raise_frame ..) | apply Frame.after (State.setDie_frame ..)
        | ((conv => arg 3; arg 20); apply Frame.step (State.mk_frame ..))
    | exact rfl | exact Or.inl rfl | exact Or.inr rfl | (fail_if_no_progress simp; exact rfl) | split | dsimp only

theorem State.dropOps_frame (s : State) (l : List DieOp) (st : Nat) : Frame 0x59fe1dffdb s (State.dropOps s l st) := by
  unfold State.dropOps
  iterate 80 all_goals try first
    | with_reducible first
        | apply Frame.ite | apply Frame.refl | assumption | apply Frame.foldl (k := fun u _ => ?_)
        | apply Frame.after (State.closePool_frame ..) | apply Frame.after (State.jobUnread_frame ..)
        | apply Frame.after (State.tellPurposes_frame ..) | apply Frame.after (State.together_frame ..)
    | exact rfl | (fail_if_no_progress simp; exact rfl) | split | dsimp only

theorem State.dieDrop_frame (s : State) (k st : Nat) (all : Bool) : Frame 0x59fe1dffdb s (State.dieDrop s k st all) := by
  unfold State.dieDrop
  iterate 80 all_goals try first
    | lift_lets
    | (intro x; refine Frame.cut (m := 0x59fe1dffdb) (s := s) (t := x) ?_ fun _ => ?_; (on_goal 1 => subst x); (on_goal 2 => clear_value x))
    | (intro x; clear_value x)
    | with_reducible first
        | apply Frame.ite | apply Frame.refl | assumption | apply Frame.after (State.dropOps_frame ..)
        | apply Frame.after (State.setDie_frame ..) | apply Frame.step (State.setF_frame ..)
        | apply Frame.after (State.want_frame ..) | ((conv => arg 3; arg 20); apply Frame.step (State.mk_frame ..))
    | exact rfl | exact Or.inl rfl | exact Or.inr rfl | (fail_if_no_progress simp; exact rfl) | split | dsimp only

theorem State.dieFault_frame (s : State) (k cause : Nat) : Frame 0x59fe1dffdb s (State.dieFault s k cause) := by
  unfold State.dieFault
  iterate 80 all_goals try first
    | lift_lets
    | (intro x; refine Frame.cut (m := 0x59fe1dffdb) (s := s) (t := x) ?_ fun _ => ?_; (on_goal 1 => subst x); (on_goal 2 => clear_value x))
    | (intro x; clear_value x)
    | with_reducible first
        | apply Frame.refl | assumption | apply Frame.after (State.dieDrop_frame ..)
        | apply Frame.after (State.dieRanges_frame ..) | apply Frame.after (State.guardUpdate_frame ..)
        | apply Frame.step (State.raise_frame ..) | apply Frame.after (State.setDieSt_frame ..)
        | apply Frame.step (State.setF_frame ..)
    | exact rfl | (fail_if_no_progress simp; exact rfl) | dsimp only

end Sys2Proof.Machine
end

