-- ==== Sys2Proof/Laws/FrameSequencer.lean ====
section
/-! SUPPORT. The frame of every operation of Machine/Sequencer.lean. -/

set_option linter.all false

namespace Sys2Proof.Machine

theorem State.startOp_frame (s : State) (k : Nat) (o : DieOp) : Frame 0x84215a912 s (State.startOp s k o) := by
  unfold State.startOp
  iterate 80 all_goals try first
    | lift_lets
    | (intro x; refine Frame.cut (m := 0x84215a912) (s := s) (t := x) ?_ fun _ => ?_; (on_goal 1 => subst x); (on_goal 2 => clear_value x))
    | (intro x; clear_value x)
    | with_reducible first
        | apply Frame.ite | apply Frame.refl | assumption | apply Frame.after (State.joinAll_frame ..)
        | (apply Frame.of_pair (State.joinAll_frame ..); (on_goal 1 => assumption))
        | apply Frame.after (State.setDie_frame ..) | apply Frame.after (State.setDieSt_frame ..)
        | apply Frame.step (State.setF_frame ..) | apply Frame.after (State.startStep_frame ..)
        | apply Frame.after (State.want_frame ..) | ((conv => arg 3; arg 20); apply Frame.step (State.mk_frame ..))
    | exact rfl | exact Or.inl rfl | exact Or.inr rfl | (fail_if_no_progress simp; exact rfl) | split | dsimp only

theorem State.movePtr_frame (s : State) (k cls : Nat) (ptr : Option Nat) : Frame 0x100 s (State.movePtr s k cls ptr) := by
  unfold State.movePtr
  iterate 80 all_goals try first
    | lift_lets
    | (intro x; refine Frame.cut (m := 0x100) (s := s) (t := x) ?_ fun _ => ?_; (on_goal 1 => subst x); (on_goal 2 => clear_value x))
    | (intro x; clear_value x)
    | with_reducible first
        | apply Frame.refl | assumption | apply Frame.after (State.setDie_frame ..)
        | ((conv => arg 3; arg 20); apply Frame.step (State.mk_frame ..))
    | exact rfl | exact Or.inl rfl | exact Or.inr rfl | (fail_if_no_progress simp; exact rfl) | split | dsimp only

theorem State.grantOp_frame (s : State) (k : Nat) (o : DieOp) (ptr : Option Nat) :
    Frame 0x84215a912 s (State.grantOp s k o ptr) := by
  unfold State.grantOp
  iterate 80 all_goals try first
    | lift_lets
    | (intro x; refine Frame.cut (m := 0x84215a912) (s := s) (t := x) ?_ fun _ => ?_; (on_goal 1 => subst x); (on_goal 2 => clear_value x))
    | (intro x; clear_value x)
    | with_reducible first
        | apply Frame.ite | apply Frame.refl | assumption | apply Frame.after (State.movePtr_frame ..)
        | apply Frame.after (State.setDie_frame ..) | apply Frame.after (State.startOp_frame ..)
        | apply Frame.after (State.unwait_frame ..) | ((conv => arg 3; arg 20); apply Frame.step (State.mk_frame ..))
    | exact rfl | exact Or.inl rfl | exact Or.inr rfl | (fail_if_no_progress simp; exact rfl) | split | dsimp only

theorem State.guardHold_frame (s : State) (o : DieOp) : Frame 0x100 s (State.guardHold s o) := by
  unfold State.guardHold
  iterate 80 all_goals try first
    | (intro x; clear_value x)
    | with_reducible first
        | apply Frame.ite | apply Frame.refl | assumption | ((conv => arg 3; arg 20); apply Frame.step (State.mk_frame ..))
    | exact rfl | exact Or.inl rfl | exact Or.inr rfl | split | dsimp only

theorem State.grantIdle_frame (s : State) (k us : Nat) : Frame 0x84215a912 s (State.grantIdle s k us) := by
  unfold State.grantIdle
  iterate 80 all_goals try first
    | with_reducible first
        | apply Frame.ite | apply Frame.refl | assumption | apply Frame.after (State.eraseAhead_frame ..)
        | apply Frame.after (State.grantOp_frame ..) | apply Frame.after (State.guardHold_frame ..)
        | apply Frame.after (State.unwait_frame ..)
    | exact rfl | (fail_if_no_progress simp; exact rfl) | split | dsimp only

theorem State.extension_frame {s t : State} {k us : Nat} {c : DieOp} {p : Option Nat} (h : s.extension k us = some (c, p, t)) :
    Frame 0x100 s t := by
  unfold State.extension at h
  dsimp only at h
  split at h
  · cases h
  split at h
  · cases h
  split at h
  · cases h
  split at h
  · cases h
  split at h
  · cases h
    exact ((State.unwait_frame ..).mono rfl).trans ((State.joinAll_frame ..).mono rfl)
  split at h
  · cases h
    exact (State.unwait_frame ..).mono rfl
  · cases h

theorem State.readStamp_frame (s : State) (k : Nat) (o : DieOp) : Frame 0x100 s (State.readStamp s k o).2 := by
  unfold State.readStamp
  iterate 80 all_goals try first
    | lift_lets
    | (intro x; refine Frame.cut (m := 0x100) (s := u) (t := x) ?_ fun _ => ?_; (on_goal 1 => subst x); (on_goal 2 => clear_value x))
    | (intro x; refine Frame.cut (m := 0x100) (s := s) (t := x) ?_ fun _ => ?_; (on_goal 1 => subst x); (on_goal 2 => clear_value x))
    | (intro x; clear_value x)
    | with_reducible first
        | apply Frame.ite | apply Frame.refl | assumption | apply Frame.foldl (k := fun u _ => ?_)
        | apply Frame.after (State.setJob_frame ..) | ((conv => arg 3; arg 20); apply Frame.step (State.mk_frame ..))
    | exact rfl | exact Or.inl rfl | exact Or.inr rfl | (fail_if_no_progress simp; exact rfl) | split | dsimp only

theorem State.extendSeries_frame (s : State) (k us : Nat) : Frame 0x100 s (s.extendSeries k us) := by
  unfold State.extendSeries
  split
  · dsimp only
    split
    · exact (State.want_frame ..).mono rfl
    · exact Frame.refl s
  · have h := State.extension_frame (by assumption)
    dsimp only
    exact ((h.mono rfl).trans ((State.readStamp_frame ..).mono rfl)).trans ((((State.setDie_frame ..).mono rfl).trans
      ((State.movePtr_frame ..).mono rfl)).trans ((State.want_frame ..).mono rfl))

theorem execDieGrant_frame (r d us : Nat) (s : State) : Frames 0x84215a912 s (execDieGrant r d us s) := by
  unfold execDieGrant
  iterate 80 all_goals try first
    | lift_lets
    | (intro x; refine Frame.cut (m := 0x84215a912) (s := s) (t := x) ?_ fun _ => ?_; (on_goal 1 => subst x); (on_goal 2 => clear_value x))
    | (intro x; clear_value x)
    | with_reducible first
        | apply Frames.next | apply Frames.ite | apply Frame.ite | apply Frame.refl | assumption
        | apply Frame.after (State.extendSeries_frame ..) | apply Frame.after (State.grantIdle_frame ..)
        | apply Frame.after (State.want_frame ..)
    | exact rfl | (fail_if_no_progress simp; exact rfl) | split | dsimp only

theorem execMergeWaitExpiry_frame (r d : Nat) (s : State) : Frames 0x84215a912 s (execMergeWaitExpiry r d s) := by
  unfold execMergeWaitExpiry
  iterate 80 all_goals try first
    | lift_lets
    | (intro x; refine Frame.cut (m := 0x84215a912) (s := s) (t := x) ?_ fun _ => ?_; (on_goal 1 => subst x); (on_goal 2 => clear_value x))
    | (intro x; clear_value x)
    | with_reducible first
        | apply Frames.next | apply Frames.ite | apply Frame.ite | apply Frame.refl | assumption
        | apply Frame.after (State.startOp_frame ..)
    | exact rfl | (fail_if_no_progress simp; exact rfl) | split | dsimp only

theorem execMinRunExpiry_frame (r d : Nat) (s : State) : Frames 0x100 s (execMinRunExpiry r d s) := by
  unfold execMinRunExpiry
  iterate 80 all_goals try first
    | lift_lets
    | (intro x; refine Frame.cut (m := 0x100) (s := s) (t := x) ?_ fun _ => ?_; (on_goal 1 => subst x); (on_goal 2 => clear_value x))
    | (intro x; clear_value x)
    | with_reducible first
        | apply Frames.next | apply Frames.ite | apply Frame.ite | apply Frame.refl | assumption
        | apply Frame.after (State.setDie_frame ..) | apply Frame.after (State.want_frame ..)
        | ((conv => arg 3; arg 20); apply Frame.step (State.mk_frame ..))
    | exact rfl | exact Or.inl rfl | exact Or.inr rfl | (fail_if_no_progress simp; exact rfl) | split | dsimp only

theorem State.raiseResume_frame (s : State) (k : Nat) : Frame 0x100 s (State.raiseResume s k) := by
  unfold State.raiseResume
  iterate 80 all_goals try first
    | lift_lets
    | (intro x; refine Frame.cut (m := 0x100) (s := s) (t := x) ?_ fun _ => ?_; (on_goal 1 => subst x); (on_goal 2 => clear_value x))
    | (intro x; clear_value x)
    | with_reducible first
        | apply Frame.ite | apply Frame.refl | assumption | apply Frame.after (State.want_frame ..)
    | exact rfl | (fail_if_no_progress simp; exact rfl) | split | dsimp only

theorem execResumeHeldOperation_frame (r d : Nat) (s : State) : Frames 0x100 s (execResumeHeldOperation r d s) := by
  unfold execResumeHeldOperation
  iterate 80 all_goals try first
    | with_reducible first
        | apply Frames.next | apply Frame.refl | assumption | apply Frame.after (State.raiseResume_frame ..)
    | exact rfl | (fail_if_no_progress simp; exact rfl) | dsimp only

theorem execHoldMaxExpiry_frame (r d : Nat) (s : State) : Frames 0x100 s (execHoldMaxExpiry r d s) := by
  unfold execHoldMaxExpiry
  iterate 80 all_goals try first
    | lift_lets
    | (intro x; refine Frame.cut (m := 0x100) (s := s) (t := x) ?_ fun _ => ?_; (on_goal 1 => subst x); (on_goal 2 => clear_value x))
    | (intro x; clear_value x)
    | with_reducible first
        | apply Frames.next | apply Frames.ite | apply Frame.ite | apply Frame.refl | assumption
        | apply Frame.after (State.raiseResume_frame ..) | apply Frame.after (State.setDie_frame ..)
        | ((conv => arg 3; arg 20); apply Frame.step (State.mk_frame ..))
    | exact rfl | exact Or.inl rfl | exact Or.inr rfl | (fail_if_no_progress simp; exact rfl) | split | dsimp only

theorem execEraseBracketStep_frame (r d : Nat) (s : State) : Frames 0x4215a912 s (execEraseBracketStep r d s) := by
  unfold execEraseBracketStep
  iterate 80 all_goals try first
    | lift_lets
    | (intro x; refine Frame.cut (m := 0x4215a912) (s := s) (t := x) ?_ fun _ => ?_; (on_goal 1 => subst x); (on_goal 2 => clear_value x))
    | (intro x; clear_value x)
    | with_reducible first
        | apply Frames.next | apply Frames.ite | apply Frame.ite | apply Frame.refl | assumption
        | apply Frame.after (State.startStep_frame ..) | apply Frame.after (State.want_frame ..)
    | exact rfl | (fail_if_no_progress simp; exact rfl) | split | dsimp only

theorem State.countRead_frame (s : State) (r : Nat) (o : DieOp) : Frame 0x808000000 s (State.countRead s r o) := by
  unfold State.countRead
  iterate 80 all_goals try first
    | lift_lets
    | (intro x; refine Frame.cut (m := 0x808000000) (s := s) (t := x) ?_ fun _ => ?_; (on_goal 1 => subst x); (on_goal 2 => clear_value x))
    | (intro x; clear_value x)
    | with_reducible first
        | apply Frame.ite | apply Frame.refl | assumption | apply Frame.step (State.bump_frame ..)
    | exact rfl | (fail_if_no_progress simp; exact rfl) | split | dsimp only

theorem State.featureWrites_frame (s : State) (k fa : Nat) (vals : List Int) :
    Frame 0x10000 s (State.featureWrites s k fa vals) := by
  unfold State.featureWrites
  iterate 80 all_goals try first
    | with_reducible first
        | apply Frame.refl | assumption | apply Frame.foldl (k := fun u _ => ?_) | apply Frame.after (State.cmd_frame ..)
        | apply Frame.after (State.emit_frame ..)
    | exact rfl | (fail_if_no_progress simp; exact rfl) | dsimp only

theorem State.busDataOut_frame (s : State) (k : Nat) (d : Die) : Frame 0x10100 s (State.busDataOut s k d) := by
  unfold State.busDataOut
  iterate 80 all_goals try first
    | (intro x; clear_value x)
    | with_reducible first
        | apply Frame.refl | assumption | apply Frame.after (State.cmd_frame ..) | apply Frame.after (State.setDie_frame ..)
        | ((conv => arg 3; arg 20); apply Frame.step (State.mk_frame ..))
    | exact rfl | exact Or.inl rfl | exact Or.inr rfl | (fail_if_no_progress simp; exact rfl) | split | dsimp only

theorem State.busSuspend_frame (s : State) (r k : Nat) (d : Die) (o : DieOp) :
    Frame 0x800010100 s (State.busSuspend s r k d o) := by
  unfold State.busSuspend
  iterate 80 all_goals try first
    | lift_lets
    | (intro x; refine Frame.cut (m := 0x800010100) (s := s) (t := x) ?_ fun _ => ?_; (on_goal 1 => subst x); (on_goal 2 => clear_value x))
    | (intro x; clear_value x)
    | with_reducible first
        | apply Frame.refl | assumption | apply Frame.step (State.bump_frame ..) | apply Frame.after (State.cmd_frame ..)
        | apply Frame.after (State.setDie_frame ..) | apply Frame.after (State.setDieSt_frame ..)
        | apply Frame.step (State.setF_frame ..) | ((conv => arg 3; arg 20); apply Frame.step (State.mk_frame ..))
    | exact rfl | exact Or.inl rfl | exact Or.inr rfl | (fail_if_no_progress simp; exact rfl) | dsimp only

theorem State.busResume_frame (s : State) (r k : Nat) (d : Die) : Frame 0x800010100 s (State.busResume s r k d) := by
  unfold State.busResume
  iterate 80 all_goals try first
    | lift_lets
    | (intro x; refine Frame.cut (m := 0x800010100) (s := s) (t := x) ?_ fun _ => ?_; (on_goal 1 => subst x); (on_goal 2 => clear_value x))
    | (intro x; clear_value x)
    | with_reducible first
        | apply Frame.ite | apply Frame.refl | assumption | apply Frame.after (State.cmd_frame ..)
        | apply Frame.after (State.setDie_frame ..) | apply Frame.after (State.setDieSt_frame ..)
        | apply Frame.step (State.setF_frame ..) | ((conv => arg 3; arg 20); apply Frame.step (State.mk_frame ..))
    | exact rfl | exact Or.inl rfl | exact Or.inr rfl | (fail_if_no_progress simp; exact rfl) | split | dsimp only

theorem State.busFeature_frame (s : State) (r k g fa : Nat) (vals : List Int) :
    Frame 0x800010100 s (State.busFeature s r k g fa vals) := by
  unfold State.busFeature
  iterate 80 all_goals try first
    | (intro x; clear_value x)
    | with_reducible first
        | apply Frame.refl | assumption | apply Frame.after (State.featureWrites_frame ..)
        | apply Frame.after (State.setDie_frame ..) | apply Frame.after (State.setDieSt_frame ..)
        | apply Frame.step (State.setF_frame ..) | ((conv => arg 3; arg 20); apply Frame.step (State.mk_frame ..))
    | exact rfl | exact Or.inl rfl | exact Or.inr rfl | (fail_if_no_progress simp; exact rfl) | dsimp only

theorem State.busTemp_frame (s : State) (k : Nat) (d : Die) : Frame 0x800010100 s (State.busTemp s k d) := by
  unfold State.busTemp
  iterate 80 all_goals try first
    | (intro x; clear_value x)
    | with_reducible first
        | apply Frame.refl | assumption | apply Frame.after (State.cmd_frame ..) | apply Frame.after (State.setDie_frame ..)
        | apply Frame.after (State.setDieSt_frame ..) | ((conv => arg 3; arg 20); apply Frame.step (State.mk_frame ..))
    | exact rfl | exact Or.inl rfl | exact Or.inr rfl | (fail_if_no_progress simp; exact rfl) | dsimp only

theorem State.busRead_frame (s : State) (r k : Nat) (o : DieOp) : Frame 0x808010100 s (State.busRead s r k o) := by
  unfold State.busRead
  iterate 80 all_goals try first
    | lift_lets
    | (intro x; refine Frame.cut (m := 0x808010100) (s := s) (t := x) ?_ fun _ => ?_; (on_goal 1 => subst x); (on_goal 2 => clear_value x))
    | (intro x; clear_value x)
    | with_reducible first
        | apply Frame.refl | assumption | apply Frame.after (State.cmd_frame ..)
        | apply Frame.after (State.countRead_frame ..) | apply Frame.after (State.readStamp_frame ..)
        | (apply Frame.of_pair (State.readStamp_frame ..); (on_goal 1 => assumption))
        | apply Frame.after (State.setDie_frame ..) | apply Frame.after (State.setDieSt_frame ..)
        | ((conv => arg 3; arg 20); apply Frame.step (State.mk_frame ..))
    | exact rfl | exact Or.inl rfl | exact Or.inr rfl | (fail_if_no_progress simp; exact rfl) | split | dsimp only

theorem State.busCacheRead_frame (s : State) (r k : Nat) (d : Die) (p : DieOp) :
    Frame 0x808010100 s (State.busCacheRead s r k d p) := by
  unfold State.busCacheRead
  iterate 80 all_goals try first
    | lift_lets
    | (intro x; refine Frame.cut (m := 0x808010100) (s := s) (t := x) ?_ fun _ => ?_; (on_goal 1 => subst x); (on_goal 2 => clear_value x))
    | (intro x; clear_value x)
    | with_reducible first
        | apply Frame.ite | apply Frame.refl | assumption | apply Frame.step (State.bump_frame ..)
        | apply Frame.after (State.cmd_frame ..) | apply Frame.after (State.countRead_frame ..)
        | apply Frame.after (State.setDie_frame ..) | apply Frame.after (State.setDieSt_frame ..)
        | ((conv => arg 3; arg 20); apply Frame.step (State.mk_frame ..))
    | exact rfl | exact Or.inl rfl | exact Or.inr rfl | (fail_if_no_progress simp; exact rfl) | split | dsimp only

theorem State.busHeader_frame (s : State) (k : Nat) (d : Die) : Frame 0x10100 s (State.busHeader s k d) := by
  unfold State.busHeader
  iterate 80 all_goals try first
    | lift_lets
    | (intro x; refine Frame.cut (m := 0x10100) (s := s) (t := x) ?_ fun _ => ?_; (on_goal 1 => subst x); (on_goal 2 => clear_value x))
    | (intro x; clear_value x)
    | with_reducible first
        | apply Frame.refl | assumption | apply Frame.after (State.cmd_frame ..) | apply Frame.after (State.setDie_frame ..)
        | ((conv => arg 3; arg 20); apply Frame.step (State.mk_frame ..))
    | exact rfl | exact Or.inl rfl | exact Or.inr rfl | (fail_if_no_progress simp; exact rfl) | split | dsimp only

theorem State.busProgData_frame (s : State) (r k i : Nat) (o : DieOp) : Frame 0x10100 s (State.busProgData s r k i o) := by
  unfold State.busProgData
  iterate 80 all_goals try first
    | lift_lets
    | (intro x; refine Frame.cut (m := 0x10100) (s := s) (t := x) ?_ fun _ => ?_; (on_goal 1 => subst x); (on_goal 2 => clear_value x))
    | (intro x; clear_value x)
    | with_reducible first
        | apply Frame.ite | apply Frame.refl | assumption | apply Frame.after (State.cmd_frame ..)
        | apply Frame.after (State.emit_frame ..) | apply Frame.after (State.want_frame ..)
    | exact rfl | (fail_if_no_progress simp; exact rfl) | split | dsimp only

theorem State.busConfirm_frame (s : State) (r k : Nat) (o : DieOp) : Frame 0x800010100 s (State.busConfirm s r k o) := by
  unfold State.busConfirm
  iterate 80 all_goals try first
    | lift_lets
    | (intro x; refine Frame.cut (m := 0x800010100) (s := s) (t := x) ?_ fun _ => ?_; (on_goal 1 => subst x); (on_goal 2 => clear_value x))
    | (intro x; clear_value x)
    | with_reducible first
        | apply Frame.ite | apply Frame.refl | assumption | apply Frame.step (State.bump_frame ..)
        | apply Frame.after (State.emit_frame ..) | apply Frame.after (State.setDie_frame ..)
        | apply Frame.after (State.setDieSt_frame ..) | ((conv => arg 3; arg 20); apply Frame.step (State.mk_frame ..))
    | exact rfl | exact Or.inl rfl | exact Or.inr rfl | (fail_if_no_progress simp; exact rfl) | split | dsimp only

theorem State.busErase_frame (s : State) (r k : Nat) (o : DieOp) : Frame 0x800010100 s (State.busErase s r k o) := by
  unfold State.busErase
  iterate 80 all_goals try first
    | lift_lets
    | (intro x; refine Frame.cut (m := 0x800010100) (s := s) (t := x) ?_ fun _ => ?_; (on_goal 1 => subst x); (on_goal 2 => clear_value x))
    | (intro x; clear_value x)
    | with_reducible first
        | apply Frame.ite | apply Frame.refl | assumption | apply Frame.step (State.bump_frame ..)
        | apply Frame.after (State.cmd_frame ..) | apply Frame.after (State.setDie_frame ..)
        | ((conv => arg 3; arg 20); apply Frame.step (State.mk_frame ..))
    | exact rfl | exact Or.inl rfl | exact Or.inr rfl | (fail_if_no_progress simp; exact rfl) | split | dsimp only

theorem State.busAct_frame (s : State) (r k : Nat) (d : Die) (a : BusAct) :
    Frame 0x808010100 s (State.busAct s r k d a) := by
  unfold State.busAct
  iterate 80 all_goals try first
    | (intro x; clear_value x)
    | with_reducible first
        | apply Frame.ite | apply Frame.refl | assumption | apply Frame.after (State.busCacheRead_frame ..)
        | apply Frame.after (State.busConfirm_frame ..) | apply Frame.after (State.busDataOut_frame ..)
        | apply Frame.after (State.busErase_frame ..) | apply Frame.after (State.busFeature_frame ..)
        | apply Frame.after (State.busHeader_frame ..) | apply Frame.after (State.busProgData_frame ..)
        | apply Frame.after (State.busRead_frame ..) | apply Frame.after (State.busResume_frame ..)
        | apply Frame.after (State.busSuspend_frame ..) | apply Frame.after (State.busTemp_frame ..)
        | apply Frame.after (State.cmd_frame ..) | apply Frame.after (State.setDie_frame ..)
        | apply Frame.after (State.setDieSt_frame ..) | ((conv => arg 3; arg 20); apply Frame.step (State.mk_frame ..))
    | exact rfl | exact Or.inl rfl | exact Or.inr rfl | (fail_if_no_progress simp; exact rfl) | split | dsimp only

theorem State.busDo_frame (s : State) (k : Nat) (a : BusAct) : Frame 0x808010100 s (State.busDo s k a) := by
  unfold State.busDo
  iterate 80 all_goals try first
    | lift_lets
    | (intro x; refine Frame.cut (m := 0x808010100) (s := s) (t := x) ?_ fun _ => ?_; (on_goal 1 => subst x); (on_goal 2 => clear_value x))
    | (intro x; clear_value x)
    | with_reducible first
        | apply Frame.ite | apply Frame.refl | assumption | apply Frame.after (State.busAct_frame ..)
        | apply Frame.after (State.setDie_frame ..) | apply Frame.after (State.want_frame ..)
        | ((conv => arg 3; arg 20); apply Frame.step (State.mk_frame ..))
    | exact rfl | exact Or.inl rfl | exact Or.inr rfl | (fail_if_no_progress simp; exact rfl) | split | dsimp only

theorem State.reliefSelect_frame (s : State) (r v : Nat) : Frame 0x200010000 s (State.reliefSelect s r v) := by
  unfold State.reliefSelect
  iterate 80 all_goals try first
    | with_reducible first
        | apply Frame.ite | apply Frame.refl | assumption | apply Frame.after (State.emit_frame ..)
        | apply Frame.step (State.setF_frame ..)
    | exact rfl | (fail_if_no_progress simp; exact rfl) | split | dsimp only

theorem State.reliefGo_frame (s : State) (r : Nat) : Frame 0x200010100 s (State.reliefGo s r) := by
  unfold State.reliefGo
  iterate 80 all_goals try first
    | lift_lets
    | (intro x; refine Frame.cut (m := 0x200010100) (s := s) (t := x) ?_ fun _ => ?_; (on_goal 1 => subst x); (on_goal 2 => clear_value x))
    | (intro x; clear_value x)
    | with_reducible first
        | apply Frame.ite | apply Frame.refl | assumption | apply Frame.after (State.reliefSelect_frame ..)
        | apply Frame.step (State.setF_frame ..) | apply Frame.after (State.setRoute_frame ..)
        | ((conv => arg 3; arg 20); apply Frame.step (State.mk_frame ..))
    | exact rfl | exact Or.inl rfl | exact Or.inr rfl | (fail_if_no_progress simp; exact rfl) | split | dsimp only

theorem execBusGrant_frame (r : Nat) (s : State) : Frames 0xa08010100 s (execBusGrant r s) := by
  unfold execBusGrant
  iterate 80 all_goals try first
    | lift_lets
    | (intro x; refine Frame.cut (m := 0xa08010100) (s := s) (t := x) ?_ fun _ => ?_; (on_goal 1 => subst x); (on_goal 2 => clear_value x))
    | (intro x; clear_value x)
    | with_reducible first
        | apply Frames.next | apply Frames.ite | apply Frame.ite | apply Frame.refl | assumption
        | apply Frame.after (State.busDo_frame ..) | apply Frame.after (State.reliefGo_frame ..)
    | exact rfl | (fail_if_no_progress simp; exact rfl) | split | dsimp only

theorem State.takeCredits_frame (s : State) (j : Job) : Frame 0x100 s (State.takeCredits s j) := by
  unfold State.takeCredits
  iterate 80 all_goals try first
    | (intro x; clear_value x)
    | with_reducible first
        | apply Frame.refl | assumption | apply Frame.after (State.setJob_frame ..)
        | ((conv => arg 3; arg 20); apply Frame.step (State.mk_frame ..))
    | exact rfl | exact Or.inl rfl | exact Or.inr rfl | (fail_if_no_progress simp; exact rfl) | dsimp only

theorem State.runTake_frame (s : State) (r : Nat) (l : List Job) : Frame 0x100 s (s.runTake r l).2 := by
  induction l generalizing s with
  | nil => exact Frame.refl s
  | cons a l ih =>
    unfold State.runTake
    split
    · exact ((State.takeCredits_frame ..).mono rfl).trans (ih _)
    · exact Frame.refl s

theorem execDataOutStart_frame (r d us : Nat) (s : State) : Frames 0x800000100 s (execDataOutStart r d us s) := by
  unfold execDataOutStart
  iterate 80 all_goals try first
    | lift_lets
    | (intro x; refine Frame.cut (m := 0x800000100) (s := s) (t := x) ?_ fun _ => ?_; (on_goal 1 => subst x); (on_goal 2 => clear_value x))
    | (intro x; clear_value x)
    | with_reducible first
        | apply Frames.next | apply Frames.ite | apply Frame.ite | apply Frame.refl | assumption
        | apply Frame.step (State.bumpBy_frame ..) | apply Frame.after (State.runTake_frame ..)
        | (apply Frame.of_pair (State.runTake_frame ..); (on_goal 1 => assumption))
        | apply Frame.after (State.setDie_frame ..) | apply Frame.after (State.takeCredits_frame ..)
        | apply Frame.after (State.want_frame ..) | ((conv => arg 3; arg 20); apply Frame.step (State.mk_frame ..))
    | exact rfl | exact Or.inl rfl | exact Or.inr rfl | (fail_if_no_progress simp; exact rfl) | split | dsimp only

end Sys2Proof.Machine
end

