-- ==== Sys2Proof/Laws/FrameDieEnd.lean ====
section
/-! SUPPORT. The frame of every operation of Machine/DieEnd.lean. -/

set_option linter.all false

namespace Sys2Proof.Machine

theorem State.clearTimeouts_frame (s : State) (k : Nat) : Frame 0x800000000 s (State.clearTimeouts s k) := by
  unfold State.clearTimeouts
  iterate 80 all_goals try first
    | with_reducible first
        | apply Frame.refl | assumption | apply Frame.step (State.setF_frame ..)
    | exact rfl | (fail_if_no_progress simp; exact rfl) | dsimp only

theorem State.accountRebuild_frame (s : State) (k : Nat) (o : DieOp) (us : Nat) :
    Frame 0x100 s (State.accountRebuild s k o us) := by
  unfold State.accountRebuild
  iterate 80 all_goals try first
    | (intro x; clear_value x)
    | with_reducible first
        | apply Frame.ite | apply Frame.refl | assumption | apply Frame.after (State.setDie_frame ..)
        | ((conv => arg 3; arg 20); apply Frame.step (State.mk_frame ..))
    | exact rfl | exact Or.inl rfl | exact Or.inr rfl | (fail_if_no_progress simp; exact rfl) | split | dsimp only

theorem State.safeRelease_frame (s : State) (k : Nat) : Frame 0x850010581 s (State.safeRelease s k) := by
  unfold State.safeRelease
  iterate 80 all_goals try first
    | lift_lets
    | (intro x; refine Frame.cut (m := 0x850010581) (s := u) (t := x) ?_ fun _ => ?_; (on_goal 1 => subst x); (on_goal 2 => clear_value x))
    | (intro x; refine Frame.cut (m := 0x850010581) (s := s) (t := x) ?_ fun _ => ?_; (on_goal 1 => subst x); (on_goal 2 => clear_value x))
    | (intro x; clear_value x)
    | with_reducible first
        | apply Frame.ite | apply Frame.refl | assumption | apply Frame.foldl (k := fun u _ => ?_)
        | apply Frame.after (State.dropJob_frame ..) | apply Frame.after (State.safeSettle_frame ..)
        | apply Frame.after (State.setDie_frame ..) | apply Frame.after (State.setDieSt_frame ..)
        | apply Frame.after (State.want_frame ..) | ((conv => arg 3; arg 20); apply Frame.step (State.mk_frame ..))
    | exact rfl | exact Or.inl rfl | exact Or.inr rfl | (fail_if_no_progress simp; exact rfl) | split | dsimp only

theorem State.jobsLoaded_frame (s : State) (o : DieOp) : Frame 0x100 s (State.jobsLoaded s o) := by
  unfold State.jobsLoaded
  iterate 80 all_goals try first
    | (intro x; clear_value x)
    | with_reducible first
        | apply Frame.refl | assumption | apply Frame.foldl (k := fun u _ => ?_) | apply Frame.after (State.setJob_frame ..)
        | ((conv => arg 3; arg 20); apply Frame.step (State.mk_frame ..))
    | exact rfl | exact Or.inl rfl | exact Or.inr rfl | (fail_if_no_progress simp; exact rfl) | dsimp only

theorem State.readEnded_frame (s : State) (k us : Nat) : Frame 0x850010781 s (State.readEnded s k us) := by
  unfold State.readEnded
  iterate 80 all_goals try first
    | lift_lets
    | (intro x; refine Frame.cut (m := 0x850010781) (s := s) (t := x) ?_ fun _ => ?_; (on_goal 1 => subst x); (on_goal 2 => clear_value x))
    | (intro x; clear_value x)
    | with_reducible first
        | apply Frame.ite | apply Frame.refl | assumption | apply Frame.after (State.accountRebuild_frame ..)
        | apply Frame.after (State.clearTimeouts_frame ..) | apply Frame.after (State.closePool_frame ..)
        | apply Frame.after (State.jobsLoaded_frame ..) | apply Frame.after (State.release_frame ..)
        | apply Frame.after (State.safeRelease_frame ..) | apply Frame.after (State.setDie_frame ..)
        | apply Frame.after (State.setDieSt_frame ..) | apply Frame.after (State.wantHeader_frame ..)
        | ((conv => arg 3; arg 20); apply Frame.step (State.mk_frame ..))
    | exact rfl | exact Or.inl rfl | exact Or.inr rfl | (fail_if_no_progress simp; exact rfl) | split | dsimp only

theorem State.wpCheck_frame (s : State) (k st : Nat) : Frame 0x840150012 s (State.wpCheck s k st) := by
  unfold State.wpCheck
  iterate 80 all_goals try first
    | with_reducible first
        | apply Frame.ite | apply Frame.refl | assumption | apply Frame.step (State.raise_frame ..)
    | exact rfl | (fail_if_no_progress simp; exact rfl) | split | dsimp only

theorem State.leaveOp_frame (s : State) (k : Nat) : Frame 0x800000100 s (State.leaveOp s k) := by
  unfold State.leaveOp
  iterate 80 all_goals try first
    | (intro x; clear_value x)
    | with_reducible first
        | apply Frame.refl | assumption | apply Frame.after (State.setDie_frame ..)
        | apply Frame.after (State.setDieSt_frame ..) | apply Frame.after (State.want_frame ..)
        | ((conv => arg 3; arg 20); apply Frame.step (State.mk_frame ..))
    | exact rfl | exact Or.inl rfl | exact Or.inr rfl | (fail_if_no_progress simp; exact rfl) | dsimp only

theorem State.bracketEnd_frame (s : State) (k : Nat) (o : DieOp) : Frame 0x59fe1dffdb s (State.bracketEnd s k o) := by
  unfold State.bracketEnd
  iterate 80 all_goals try first
    | lift_lets
    | (intro x; refine Frame.cut (m := 0x59fe1dffdb) (s := s) (t := x) ?_ fun _ => ?_; (on_goal 1 => subst x); (on_goal 2 => clear_value x))
    | (intro x; clear_value x)
    | with_reducible first
        | apply Frame.ite | apply Frame.refl | assumption | apply Frame.after (State.clearTimeouts_frame ..)
        | apply Frame.after (State.driveWp_frame ..) | apply Frame.after (State.leaveOp_frame ..)
        | apply Frame.after (State.writeEnded_frame ..)
    | exact rfl | (fail_if_no_progress simp; exact rfl) | split | dsimp only

theorem State.stepEnded_frame (s : State) (k : Nat) (o : DieOp) (st : Nat) :
    Frame 0x59fe1dffdb s (State.stepEnded s k o st) := by
  unfold State.stepEnded
  iterate 80 all_goals try first
    | lift_lets
    | (intro x; refine Frame.cut (m := 0x59fe1dffdb) (s := q.2) (t := x) ?_ fun _ => ?_; (on_goal 1 => subst x); (on_goal 2 => clear_value x))
    | (intro x; refine Frame.cut (m := 0x59fe1dffdb) (s := s) (t := x) ?_ fun _ => ?_; (on_goal 1 => subst x); (on_goal 2 => clear_value x))
    | (intro x; clear_value x)
    | with_reducible first
        | apply Frame.ite | apply Frame.refl | assumption | apply Frame.after (State.bracketEnd_frame ..)
        | apply Frame.after (State.ledgerLost_frame ..) | apply Frame.after (State.setDie_frame ..)
        | apply Frame.after (State.want_frame ..) | apply Frame.after (State.wpCheck_frame ..)
        | (apply Frame.of_pair0; (on_goal 1 => assumption)) | ((conv => arg 3; arg 20); apply Frame.step (State.mk_frame ..))
    | exact rfl | exact Or.inl rfl | exact Or.inr rfl | (fail_if_no_progress simp; exact rfl) | split | dsimp only

theorem State.programEnded_frame (s : State) (k : Nat) (o : DieOp) (st : Nat) :
    Frame 0x59fe1dffdb s (State.programEnded s k o st) := by
  unfold State.programEnded
  iterate 80 all_goals try first
    | lift_lets
    | (intro x; refine Frame.cut (m := 0x59fe1dffdb) (s := s) (t := x) ?_ fun _ => ?_; (on_goal 1 => subst x); (on_goal 2 => clear_value x))
    | (intro x; clear_value x)
    | with_reducible first
        | apply Frame.ite | apply Frame.refl | assumption | apply Frame.after (State.clearTimeouts_frame ..)
        | apply Frame.after (State.driveWp_frame ..) | apply Frame.after (State.leaveOp_frame ..)
        | apply Frame.after (State.wpCheck_frame ..) | apply Frame.after (State.writeEnded_frame ..)
    | exact rfl | (fail_if_no_progress simp; exact rfl) | split | dsimp only

theorem State.controlEnded_frame (s : State) (k : Nat) : Frame 0x59fe1dffdb s (State.controlEnded s k) := by
  unfold State.controlEnded
  iterate 80 all_goals try first
    | lift_lets
    | (intro x; refine Frame.cut (m := 0x59fe1dffdb) (s := s) (t := x) ?_ fun _ => ?_; (on_goal 1 => subst x); (on_goal 2 => clear_value x))
    | (intro x; clear_value x)
    | with_reducible first
        | apply Frame.ite | apply Frame.refl | assumption | apply Frame.after (State.bracketEnd_frame ..)
        | apply Frame.after (State.clearTimeouts_frame ..) | apply Frame.after (State.raiseResume_frame ..)
        | apply Frame.after (State.safeRelease_frame ..) | apply Frame.after (State.setDie_frame ..)
        | apply Frame.after (State.setDieSt_frame ..) | apply Frame.step (State.setF_frame ..)
        | apply Frame.after (State.takeTemp_frame ..) | apply Frame.after (State.want_frame ..)
        | ((conv => arg 3; arg 20); apply Frame.step (State.mk_frame ..))
    | exact rfl | exact Or.inl rfl | exact Or.inr rfl | (fail_if_no_progress simp; exact rfl) | split | dsimp only

theorem State.pollDie_frame (s : State) (k st us : Nat) : Frame 0x59fe1dffdb s (State.pollDie s k st us) := by
  unfold State.pollDie
  iterate 80 all_goals try first
    | lift_lets
    | (intro x; refine Frame.cut (m := 0x59fe1dffdb) (s := s) (t := x) ?_ fun _ => ?_; (on_goal 1 => subst x); (on_goal 2 => clear_value x))
    | (intro x; clear_value x)
    | with_reducible first
        | apply Frame.ite | apply Frame.refl | assumption | apply Frame.after (State.accountRebuild_frame ..)
        | apply Frame.after (State.clearTimeouts_frame ..) | apply Frame.after (State.controlEnded_frame ..)
        | apply Frame.after (State.jobsLoaded_frame ..) | apply Frame.after (State.programEnded_frame ..)
        | apply Frame.after (State.readEnded_frame ..) | apply Frame.after (State.release_frame ..)
        | apply Frame.after (State.safeRelease_frame ..) | apply Frame.after (State.setDie_frame ..)
        | apply Frame.after (State.setDieSt_frame ..) | apply Frame.after (State.stepEnded_frame ..)
        | apply Frame.after (State.want_frame ..) | apply Frame.after (State.wantHeader_frame ..)
        | ((conv => arg 3; arg 20); apply Frame.step (State.mk_frame ..))
    | exact rfl | exact Or.inl rfl | exact Or.inr rfl | (fail_if_no_progress simp; exact rfl) | split | dsimp only

theorem State.poll_frame (s : State) (k st us : Nat) : Frame 0x59fe1dffdb s (State.poll s k st us) := by
  unfold State.poll
  iterate 80 all_goals try first
    | with_reducible first
        | apply Frame.refl | assumption | apply Frame.after (State.cmd_frame ..) | apply Frame.after (State.pollDie_frame ..)
    | exact rfl | (fail_if_no_progress simp; exact rfl) | dsimp only

theorem execStatusPollDue_frame (r d : Nat) (status : Byte) (us : Nat) (s : State) :
    Frames 0x59fe1dffdb s (execStatusPollDue r d status us s) := by
  unfold execStatusPollDue
  iterate 80 all_goals try first
    | lift_lets
    | (intro x; refine Frame.cut (m := 0x59fe1dffdb) (s := s) (t := x) ?_ fun _ => ?_; (on_goal 1 => subst x); (on_goal 2 => clear_value x))
    | (intro x; clear_value x)
    | with_reducible first
        | apply Frames.next | apply Frames.ite | apply Frame.ite | apply Frame.refl | assumption
        | apply Frame.after (State.poll_frame ..)
    | exact rfl | (fail_if_no_progress simp; exact rfl) | split | dsimp only

theorem execRbnRise_frame (r ce : Nat) (rises : List (Byte × Nat)) (s : State) :
    Frames 0x59fe1dffdb s (execRbnRise r ce rises s) := by
  unfold execRbnRise
  iterate 80 all_goals try first
    | with_reducible first
        | apply Frames.next | apply Frames.ite | apply Frame.ite | apply Frame.refl | assumption
        | apply Frame.foldl (k := fun u _ => ?_) | apply Frame.after (State.poll_frame ..)
    | exact rfl | (fail_if_no_progress simp; exact rfl) | split | dsimp only

theorem execRbnFault_frame (r ce : Nat) (s : State) : Frames 0x940150012 s (execRbnFault r ce s) := by
  unfold execRbnFault
  iterate 80 all_goals try first
    | with_reducible first
        | apply Frames.next | apply Frames.ite | apply Frame.ite | apply Frame.refl | assumption
        | apply Frame.step (State.raise_frame ..) | apply Frame.step (State.setF_frame ..)
    | exact rfl | (fail_if_no_progress simp; exact rfl) | split | dsimp only

theorem State.readTimedOut_frame (s : State) (o : DieOp) : Frame 0x59fe1dffdb s (State.readTimedOut s o) := by
  unfold State.readTimedOut
  iterate 80 all_goals try first
    | with_reducible first
        | apply Frame.refl | assumption | apply Frame.foldl (k := fun u _ => ?_)
        | apply Frame.after (State.closePool_frame ..) | apply Frame.after (State.jobFailed_frame ..)
        | apply Frame.after (State.together_frame ..)
    | exact rfl | (fail_if_no_progress simp; exact rfl) | dsimp only

theorem State.clearDie_frame (s : State) (k : Nat) : Frame 0x100 s (State.clearDie s k) := by
  unfold State.clearDie
  iterate 80 all_goals try first
    | lift_lets
    | (intro x; refine Frame.cut (m := 0x100) (s := s) (t := x) ?_ fun _ => ?_; (on_goal 1 => subst x); (on_goal 2 => clear_value x))
    | (intro x; clear_value x)
    | with_reducible first
        | apply Frame.refl | assumption | apply Frame.after (State.setDie_frame ..) | apply Frame.after (State.want_frame ..)
        | ((conv => arg 3; arg 20); apply Frame.step (State.mk_frame ..))
    | exact rfl | exact Or.inl rfl | exact Or.inr rfl | (fail_if_no_progress simp; exact rfl) | dsimp only

theorem State.opTimedOut_frame (s : State) (k : Nat) : Frame 0x59fe1dffdb s (State.opTimedOut s k) := by
  unfold State.opTimedOut
  iterate 80 all_goals try first
    | lift_lets
    | (intro x; refine Frame.cut (m := 0x59fe1dffdb) (s := u) (t := x) ?_ fun _ => ?_; (on_goal 1 => subst x); (on_goal 2 => clear_value x))
    | (intro x; refine Frame.cut (m := 0x59fe1dffdb) (s := s) (t := x) ?_ fun _ => ?_; (on_goal 1 => subst x); (on_goal 2 => clear_value x))
    | (intro x; clear_value x)
    | with_reducible first
        | apply Frame.ite | apply Frame.refl | assumption | apply Frame.foldl (k := fun u _ => ?_)
        | apply Frame.after (State.addIncomplete_frame ..) | apply Frame.after (State.clearDie_frame ..)
        | apply Frame.after (State.dropJob_frame ..) | apply Frame.after (State.ledgerLost_frame ..)
        | apply Frame.after (State.readTimedOut_frame ..) | apply Frame.after (State.safeSettle_frame ..)
        | apply Frame.after (State.setDie_frame ..) | apply Frame.after (State.want_frame ..)
        | apply Frame.after (State.writeEnded_frame ..) | ((conv => arg 3; arg 20); apply Frame.step (State.mk_frame ..))
    | exact rfl | exact Or.inl rfl | exact Or.inr rfl | (fail_if_no_progress simp; exact rfl) | split | dsimp only

theorem State.tempTimedOut_frame (s : State) (k : Nat) : Frame 0x100 s (State.tempTimedOut s k) := by
  unfold State.tempTimedOut
  iterate 80 all_goals try first
    | lift_lets
    | (intro x; refine Frame.cut (m := 0x100) (s := s) (t := x) ?_ fun _ => ?_; (on_goal 1 => subst x); (on_goal 2 => clear_value x))
    | (intro x; clear_value x)
    | with_reducible first
        | apply Frame.refl | assumption | apply Frame.after (State.setDie_frame ..) | apply Frame.after (State.want_frame ..)
        | ((conv => arg 3; arg 20); apply Frame.step (State.mk_frame ..))
    | exact rfl | exact Or.inl rfl | exact Or.inr rfl | (fail_if_no_progress simp; exact rfl) | dsimp only

theorem State.resetFailed_frame (s : State) (k : Nat) : Frame 0x59fe1dffdb s (State.resetFailed s k) := by
  unfold State.resetFailed
  iterate 80 all_goals try first
    | lift_lets
    | (intro x; refine Frame.cut (m := 0x59fe1dffdb) (s := s) (t := x) ?_ fun _ => ?_; (on_goal 1 => subst x); (on_goal 2 => clear_value x))
    | (intro x; clear_value x)
    | with_reducible first
        | apply Frame.ite | apply Frame.refl | assumption | apply Frame.after (State.dieFault_frame ..)
        | apply Frame.after (State.setRoute_frame ..) | ((conv => arg 3; arg 20); apply Frame.step (State.mk_frame ..))
    | exact rfl | exact Or.inl rfl | exact Or.inr rfl | (fail_if_no_progress simp; exact rfl) | split | dsimp only

theorem execDieOpTimeout_frame (r d : Nat) (s : State) : Frames 0x59fe1dffdb s (execDieOpTimeout r d s) := by
  unfold execDieOpTimeout
  iterate 80 all_goals try first
    | lift_lets | (intro x; (have hf : State → _ := x); clear hf; subst x)
    | (intro x; refine Frame.cut (m := 0x59fe1dffdb) (s := s) (t := x) ?_ fun _ => ?_; (on_goal 1 => subst x); (on_goal 2 => clear_value x))
    | (fail_if_no_progress beta_reduce) | (intro x; clear_value x)
    | with_reducible first
        | apply Frames.next | apply Frames.ite | apply Frame.ite | apply Frame.refl | assumption
        | apply Frame.after (State.clearDie_frame ..) | apply Frame.after (State.dieFault_frame ..)
        | apply Frame.after (State.opTimedOut_frame ..) | apply Frame.step (State.raise_frame ..)
        | apply Frame.after (State.resetFailed_frame ..) | apply Frame.step (State.setF_frame ..)
        | apply Frame.after (State.tempTimedOut_frame ..) | apply Frame.after (State.want_frame ..)
        | apply Frame.after (State.writeEnded_frame ..)
    | exact rfl | (fail_if_no_progress simp; exact rfl) | split | dsimp only

theorem State.guardExpired_frame (s : State) (o : DieOp) : Frame 0x59fe1dffdb s (State.guardExpired s o) := by
  unfold State.guardExpired
  iterate 80 all_goals try first
    | lift_lets
    | (intro x; refine Frame.cut (m := 0x59fe1dffdb) (s := u) (t := x) ?_ fun _ => ?_; (on_goal 1 => subst x); (on_goal 2 => clear_value x))
    | (intro x; refine Frame.cut (m := 0x59fe1dffdb) (s := s) (t := x) ?_ fun _ => ?_; (on_goal 1 => subst x); (on_goal 2 => clear_value x))
    | (intro x; clear_value x)
    | with_reducible first
        | apply Frame.ite | apply Frame.refl | assumption | apply Frame.foldl (k := fun u _ => ?_)
        | apply Frame.step (State.raise_frame ..) | apply Frame.after (State.tellPurposes_frame ..)
        | apply Frame.after (State.unwait_frame ..) | ((conv => arg 3; arg 20); apply Frame.step (State.mk_frame ..))
    | exact rfl | exact Or.inl rfl | exact Or.inr rfl | (fail_if_no_progress simp; exact rfl) | split | dsimp only

theorem execGuardWaitExpiry_frame (op : Nat) (s : State) : Frames 0x59fe1dffdb s (execGuardWaitExpiry op s) := by
  unfold execGuardWaitExpiry
  iterate 80 all_goals try first
    | with_reducible first
        | apply Frames.next | apply Frames.ite | apply Frame.ite | apply Frame.refl | assumption
        | apply Frame.after (State.guardExpired_frame ..)
    | exact rfl | (fail_if_no_progress simp; exact rfl) | split | dsimp only

theorem execWpDriveChange_frame (r : Nat) (s : State) : Frames 0x100000000 s (execWpDriveChange r s) := by
  unfold execWpDriveChange
  iterate 80 all_goals try first
    | with_reducible first
        | apply Frames.next | apply Frames.ite | apply Frame.ite | apply Frame.refl | assumption
        | apply Frame.after (State.driveWp_frame ..)
    | exact rfl | (fail_if_no_progress simp; exact rfl) | split | dsimp only

theorem execTempReadDue_frame (r d : Nat) (p1 : Byte) (s : State) : Frames 0x140150112 s (execTempReadDue r d p1 s) := by
  unfold execTempReadDue
  iterate 80 all_goals try first
    | lift_lets
    | (intro x; refine Frame.cut (m := 0x140150112) (s := s) (t := x) ?_ fun _ => ?_; (on_goal 1 => subst x); (on_goal 2 => clear_value x))
    | (intro x; clear_value x)
    | with_reducible first
        | apply Frames.next | apply Frames.ite | apply Frame.ite | apply Frame.refl | assumption
        | apply Frame.after (State.setDie_frame ..) | apply Frame.after (State.takeTemp_frame ..)
        | apply Frame.after (State.tempTurn_frame ..) | ((conv => arg 3; arg 20); apply Frame.step (State.mk_frame ..))
    | exact rfl | exact Or.inl rfl | exact Or.inr rfl | (fail_if_no_progress simp; exact rfl) | split | dsimp only

end Sys2Proof.Machine
end

