-- ==== Sys2Proof/Laws/FrameReadChannel.lean ====
section
/-! SUPPORT. The frame of every operation of Machine/ReadChannel.lean. -/

set_option linter.all false

namespace Sys2Proof.Machine

theorem State.trainErr_frame (s : State) (r n : Nat) : Frame 0x200000000 s (State.trainErr s r n) := by
  unfold State.trainErr
  iterate 80 all_goals try first
    | with_reducible first
        | apply Frame.ite | apply Frame.refl | assumption | apply Frame.step (State.setF_frame ..)
    | exact rfl | (fail_if_no_progress simp; exact rfl) | split | dsimp only

theorem State.countShift_frame (s : State) (r : Nat) : Frame 0x208000000 s (State.countShift s r) := by
  unfold State.countShift
  iterate 80 all_goals try first
    | with_reducible first
        | apply Frame.refl | assumption | apply Frame.step (State.bump_frame ..)
        | apply Frame.after (State.trainErr_frame ..)
    | exact rfl | (fail_if_no_progress simp; exact rfl) | dsimp only

theorem State.countMiss_frame (s : State) (r : Nat) : Frame 0x208000000 s (State.countMiss s r) := by
  unfold State.countMiss
  iterate 80 all_goals try first
    | with_reducible first
        | apply Frame.refl | assumption | apply Frame.step (State.bump_frame ..)
        | apply Frame.after (State.trainErr_frame ..)
    | exact rfl | (fail_if_no_progress simp; exact rfl) | dsimp only

theorem State.runGoesOn_frame (s : State) (k : Nat) : Frame 0x100 s (State.runGoesOn s k) := by
  unfold State.runGoesOn
  iterate 80 all_goals try first
    | with_reducible first
        | apply Frame.ite | apply Frame.refl | assumption | apply Frame.after (State.want_frame ..)
    | exact rfl | (fail_if_no_progress simp; exact rfl) | split | dsimp only

theorem State.envMissed_frame (s : State) (k : Nat) (j : Job) : Frame 0x5bfe1dffdb s (State.envMissed s k j) := by
  unfold State.envMissed
  iterate 80 all_goals try first
    | lift_lets
    | (intro x; refine Frame.cut (m := 0x5bfe1dffdb) (s := s) (t := x) ?_ fun _ => ?_; (on_goal 1 => subst x); (on_goal 2 => clear_value x))
    | (intro x; clear_value x)
    | with_reducible first
        | apply Frame.ite | apply Frame.refl | assumption | apply Frame.step (State.bump_frame ..)
        | apply Frame.after (State.countMiss_frame ..) | apply Frame.after (State.jobFailed_frame ..)
        | apply Frame.after (State.jobLeavesDie_frame ..) | apply Frame.after (State.ladderGo_frame ..)
        | apply Frame.after (State.runGoesOn_frame ..) | apply Frame.after (State.setJob_frame ..)
        | apply Frame.after (State.want_frame ..) | ((conv => arg 3; arg 20); apply Frame.step (State.mk_frame ..))
    | exact rfl | exact Or.inl rfl | exact Or.inr rfl | (fail_if_no_progress simp; exact rfl) | split | dsimp only

theorem State.envEmpty_frame (s : State) (j : Job) : Frame 0x59fe1dffdb s (State.envEmpty s j) := by
  unfold State.envEmpty
  iterate 80 all_goals try first
    | lift_lets
    | (intro x; refine Frame.cut (m := 0x59fe1dffdb) (s := s) (t := x) ?_ fun _ => ?_; (on_goal 1 => subst x); (on_goal 2 => clear_value x))
    | (intro x; clear_value x)
    | with_reducible first
        | apply Frame.ite | apply Frame.refl | assumption | apply Frame.step (State.bump_frame ..)
        | apply Frame.after (State.jobFinal_frame ..) | ((conv => arg 3; arg 20); apply Frame.step (State.mk_frame ..))
    | exact rfl | exact Or.inl rfl | exact Or.inr rfl | (fail_if_no_progress simp; exact rfl) | split | dsimp only

theorem State.poolAdd_frame (s : State) (k : Nat) (o : DieOp) (j : Job) (pil : Nat) :
    Frame 0x200 s (State.poolAdd s k o j pil) := by
  unfold State.poolAdd
  iterate 80 all_goals try first
    | lift_lets
    | (intro x; refine Frame.cut (m := 0x200) (s := s) (t := x) ?_ fun _ => ?_; (on_goal 1 => subst x); (on_goal 2 => clear_value x))
    | (intro x; clear_value x)
    | with_reducible first
        | apply Frame.ite | apply Frame.refl | assumption | ((conv => arg 3; arg 20); apply Frame.step (State.mk_frame ..))
    | exact rfl | exact Or.inl rfl | exact Or.inr rfl | split | dsimp only

theorem State.centreIn_frame (s : State) (k : Nat) (o : DieOp) (j : Job) (raw : Bytes) :
    Frame 0x804000300 s (State.centreIn s k o j raw) := by
  unfold State.centreIn
  iterate 80 all_goals try first
    | lift_lets
    | (intro x; refine Frame.cut (m := 0x804000300) (s := s) (t := x) ?_ fun _ => ?_; (on_goal 1 => subst x); (on_goal 2 => clear_value x))
    | (intro x; clear_value x)
    | with_reducible first
        | apply Frame.ite | apply Frame.refl | assumption | apply Frame.step (State.bump_frame ..)
        | apply Frame.after (State.jobLeavesDie_frame ..) | apply Frame.after (State.poolAdd_frame ..)
        | apply Frame.after (State.toDecoder_frame ..) | apply Frame.after (State.withdraw_frame ..)
        | ((conv => arg 3; arg 20); apply Frame.step (State.mk_frame ..))
    | exact rfl | exact Or.inl rfl | exact Or.inr rfl | (fail_if_no_progress simp; exact rfl) | split | dsimp only

theorem State.softIn_frame (s : State) (j : Job) (raw : Bytes) : Frame 0x59fe1dffdb s (State.softIn s j raw) := by
  unfold State.softIn
  iterate 80 all_goals try first
    | lift_lets
    | (intro x; refine Frame.cut (m := 0x59fe1dffdb) (s := s) (t := x) ?_ fun _ => ?_; (on_goal 1 => subst x); (on_goal 2 => clear_value x))
    | (intro x; clear_value x)
    | with_reducible first
        | apply Frame.ite | apply Frame.refl | assumption | apply Frame.after (State.jobLeavesDie_frame ..)
        | apply Frame.after (State.ladderTry_frame ..) | apply Frame.after (State.setJob_frame ..)
        | apply Frame.after (State.toDecoder_frame ..) | ((conv => arg 3; arg 20); apply Frame.step (State.mk_frame ..))
    | exact rfl | exact Or.inl rfl | exact Or.inr rfl | (fail_if_no_progress simp; exact rfl) | split | dsimp only

theorem State.envIn_frame (s : State) (k : Nat) (o : DieOp) (j : Job) (data : Bytes) :
    Frame 0x5bfe1dffdb s (State.envIn s k o j data) := by
  unfold State.envIn
  iterate 80 all_goals try first
    | lift_lets
    | (intro x; refine Frame.cut (m := 0x5bfe1dffdb) (s := s) (t := x) ?_ fun _ => ?_; (on_goal 1 => subst x); (on_goal 2 => clear_value x))
    | (intro x; clear_value x)
    | with_reducible first
        | apply Frame.ite | apply Frame.refl | assumption | apply Frame.step (State.bump_frame ..)
        | apply Frame.after (State.centreIn_frame ..) | apply Frame.after (State.countShift_frame ..)
        | apply Frame.after (State.envEmpty_frame ..) | apply Frame.after (State.envMissed_frame ..)
        | apply Frame.after (State.jobFailed_frame ..) | apply Frame.after (State.softIn_frame ..)
    | exact rfl | (fail_if_no_progress simp; exact rfl) | split | dsimp only

theorem State.rawIn_frame (s : State) (j : Job) (id : Nat) (data : Bytes) :
    Frame 0x59fe1dffdb s (State.rawIn s j id data) := by
  unfold State.rawIn
  iterate 80 all_goals try first
    | (intro x; clear_value x)
    | with_reducible first
        | apply Frame.ite | apply Frame.refl | assumption | apply Frame.after (State.fab_frame ..)
        | apply Frame.after (State.jobFinal_frame ..) | apply Frame.after (State.withdraw_frame ..)
        | ((conv => arg 3; arg 20); apply Frame.step (State.mk_frame ..))
    | exact rfl | exact Or.inl rfl | exact Or.inr rfl | (fail_if_no_progress simp; exact rfl) | split | dsimp only

theorem State.calEnvs_frame (s : State) (k : Nat) (d : Die) (j : Job) (id : Nat) (data : Bytes) (l : List Nat) (acc : Bytes) :
    Frame 0x208000200 s (s.calEnvs k d j id data l acc).1 := by
  induction l generalizing s acc with
  | nil => exact Frame.refl s
  | cons e l ih =>
    unfold State.calEnvs
    dsimp only
    split
    · exact (Frame.trans (State.bump_frame _ _ rfl rfl) (ih ..))
    split
    · exact (State.countMiss_frame ..).mono rfl
    split
    · refine Frame.trans ?_ (ih ..)
      refine Frame.trans ?_ ((State.calBad_frame ..).mono rfl)
      refine Frame.trans ?_ (State.bump_frame _ _ rfl rfl)
      split
      · exact Frame.refl s
      · exact (State.countShift_frame ..).mono rfl
    · refine Frame.trans ?_ (ih ..)
      split
      · exact Frame.refl s
      · exact (State.countShift_frame ..).mono rfl

theorem State.calPut_frame (s : State) (id n : Nat) (new : Bytes) (erased : Bool) :
    Frame 0x200 s (State.calPut s id n new erased) := by
  unfold State.calPut
  iterate 80 all_goals try first
    | lift_lets
    | (intro x; refine Frame.cut (m := 0x200) (s := s) (t := x) ?_ fun _ => ?_; (on_goal 1 => subst x); (on_goal 2 => clear_value x))
    | (intro x; clear_value x)
    | with_reducible first
        | apply Frame.ite | apply Frame.refl | assumption | ((conv => arg 3; arg 20); apply Frame.step (State.mk_frame ..))
    | exact rfl | exact Or.inl rfl | exact Or.inr rfl | split | dsimp only

theorem State.calIn_frame (s : State) (k : Nat) (j : Job) (id n : Nat) (data : Bytes) :
    Frame 0xa08000300 s (State.calIn s k j id n data) := by
  unfold State.calIn
  iterate 80 all_goals try first
    | lift_lets
    | (intro x; refine Frame.cut (m := 0xa08000300) (s := s) (t := x) ?_ fun _ => ?_; (on_goal 1 => subst x); (on_goal 2 => clear_value x))
    | (intro x; clear_value x)
    | with_reducible first
        | apply Frame.ite | apply Frame.refl | assumption | apply Frame.step (State.bump_frame ..)
        | apply Frame.after (State.calBad_frame ..) | apply Frame.after (State.calEnvs_frame ..)
        | (apply Frame.of_pair_fst (State.calEnvs_frame ..); (on_goal 1 => assumption))
        | apply Frame.after (State.calPut_frame ..) | apply Frame.after (State.setJob_frame ..)
        | apply Frame.after (State.want_frame ..) | apply Frame.after (State.withdraw_frame ..)
        | ((conv => arg 3; arg 20); apply Frame.step (State.mk_frame ..))
    | exact rfl | exact Or.inl rfl | exact Or.inr rfl | (fail_if_no_progress simp; exact rfl) | split | dsimp only

theorem execEnvelopeReceived_frame (job : Nat) (data : Bytes) (skip : Nat) (s : State) :
    Frames 0x5bfe1dffdb s (execEnvelopeReceived job data skip s) := by
  unfold execEnvelopeReceived
  iterate 80 all_goals try first
    | lift_lets
    | (intro x; refine Frame.cut (m := 0x5bfe1dffdb) (s := s) (t := x) ?_ fun _ => ?_; (on_goal 1 => subst x); (on_goal 2 => clear_value x))
    | (intro x; clear_value x)
    | with_reducible first
        | apply Frames.next | apply Frames.ite | apply Frame.ite | apply Frame.refl | assumption
        | apply Frame.after (State.calIn_frame ..) | apply Frame.after (State.dropJob_frame ..)
        | apply Frame.after (State.envIn_frame ..) | apply Frame.after (State.jobLeavesDie_frame ..)
        | apply Frame.after (State.rawIn_frame ..) | apply Frame.after (State.safeSettle_frame ..)
        | apply Frame.after (State.want_frame ..)
    | exact rfl | (fail_if_no_progress simp; exact rfl) | split | dsimp only

theorem State.headerIn_frame (s : State) (j : Job) (code : Nat) (content : Bytes) :
    Frame 0x59fe1dffdb s (State.headerIn s j code content) := by
  unfold State.headerIn
  iterate 80 all_goals try first
    | lift_lets
    | (intro x; refine Frame.cut (m := 0x59fe1dffdb) (s := s) (t := x) ?_ fun _ => ?_; (on_goal 1 => subst x); (on_goal 2 => clear_value x))
    | (intro x; clear_value x)
    | with_reducible first
        | apply Frame.ite | apply Frame.refl | assumption | apply Frame.after (State.jobFinal_frame ..)
        | apply Frame.after (State.scanHeader_frame ..) | apply Frame.after (State.setJob_frame ..)
        | ((conv => arg 3; arg 20); apply Frame.step (State.mk_frame ..))
    | exact rfl | exact Or.inl rfl | exact Or.inr rfl | (fail_if_no_progress simp; exact rfl) | split | dsimp only

theorem execHeaderReceived_frame (job : Nat) (data : Bytes) (s : State) :
    Frames 0x59fe1dffdb s (execHeaderReceived job data s) := by
  unfold execHeaderReceived
  iterate 80 all_goals try first
    | lift_lets
    | (intro x; refine Frame.cut (m := 0x59fe1dffdb) (s := s) (t := x) ?_ fun _ => ?_; (on_goal 1 => subst x); (on_goal 2 => clear_value x))
    | (intro x; clear_value x)
    | with_reducible first
        | apply Frames.next | apply Frames.ite | apply Frame.ite | apply Frame.refl | assumption
        | apply Frame.after (State.dropJob_frame ..) | apply Frame.after (State.headerIn_frame ..)
        | apply Frame.after (State.jobLeavesDie_frame ..) | apply Frame.after (State.safeSettle_frame ..)
        | apply Frame.after (State.setDie_frame ..) | apply Frame.after (State.want_frame ..)
        | apply Frame.after (State.wantHeader_frame ..) | ((conv => arg 3; arg 20); apply Frame.step (State.mk_frame ..))
    | exact rfl | exact Or.inl rfl | exact Or.inr rfl | (fail_if_no_progress simp; exact rfl) | split | dsimp only

theorem State.estimateTold_frame (s : State) (rd : Nat) (moved : Bool) :
    Frame 0x59fe1dffdb s (State.estimateTold s rd moved) := by
  unfold State.estimateTold
  iterate 80 all_goals try first
    | lift_lets
    | (intro x; refine Frame.cut (m := 0x59fe1dffdb) (s := u) (t := x) ?_ fun _ => ?_; (on_goal 1 => subst x); (on_goal 2 => clear_value x))
    | (intro x; refine Frame.cut (m := 0x59fe1dffdb) (s := s) (t := x) ?_ fun _ => ?_; (on_goal 1 => subst x); (on_goal 2 => clear_value x))
    | (intro x; clear_value x)
    | with_reducible first
        | apply Frame.refl | assumption | apply Frame.foldl (k := fun u _ => ?_)
        | apply Frame.after (State.ladderGo_frame ..) | apply Frame.after (State.setJob_frame ..)
        | ((conv => arg 3; arg 20); apply Frame.step (State.mk_frame ..))
    | exact rfl | exact Or.inl rfl | exact Or.inr rfl | (fail_if_no_progress simp; exact rfl) | split | dsimp only

theorem execDriftEstimate_frame (r d g : Nat) (s : State) : Frames 0x59fe1dffdb s (execDriftEstimate r d g s) := by
  unfold execDriftEstimate
  iterate 80 all_goals try first
    | lift_lets
    | (intro x; refine Frame.cut (m := 0x59fe1dffdb) (s := s) (t := x) ?_ fun _ => ?_; (on_goal 1 => subst x); (on_goal 2 => clear_value x))
    | (intro x; clear_value x)
    | with_reducible first
        | apply Frames.next | apply Frames.ite | apply Frame.ite | apply Frame.refl | assumption
        | apply Frame.after (State.applyEstimate_frame ..)
        | (apply Frame.of_pair (State.applyEstimate_frame ..); (on_goal 1 => assumption))
        | apply Frame.after (State.estimateTold_frame ..) | ((conv => arg 3; arg 20); apply Frame.step (State.mk_frame ..))
    | exact rfl | exact Or.inl rfl | exact Or.inr rfl | (fail_if_no_progress simp; exact rfl) | split | dsimp only

theorem execDecoderCoreFree_frame (core : Nat) (s : State) : Frames 0x300 s (execDecoderCoreFree core s) := by
  unfold execDecoderCoreFree
  iterate 80 all_goals try first
    | with_reducible first
        | apply Frames.next | apply Frames.ite | apply Frame.ite | apply Frame.refl | assumption
        | apply Frame.after (State.coreTake_frame ..)
    | exact rfl | (fail_if_no_progress simp; exact rfl) | split | dsimp only

theorem execDecodeDone_frame (core iters : Nat) (word : Bytes) (s : State) :
    Frames 0x59fe1dffdb s (execDecodeDone core iters word s) := by
  unfold execDecodeDone
  iterate 80 all_goals try first
    | lift_lets
    | (intro x; refine Frame.cut (m := 0x59fe1dffdb) (s := s) (t := x) ?_ fun _ => ?_; (on_goal 1 => subst x); (on_goal 2 => clear_value x))
    | (intro x; clear_value x)
    | with_reducible first
        | apply Frames.next | apply Frames.ite | apply Frame.ite | apply Frame.refl | assumption
        | apply Frame.after (State.countDecode_frame ..) | apply Frame.after (State.decodeFailed_frame ..)
        | apply Frame.after (State.jobFinal_frame ..) | apply Frame.after (State.setCoreJob_frame ..)
        | ((conv => arg 3; arg 20); apply Frame.step (State.mk_frame ..))
    | exact rfl | exact Or.inl rfl | exact Or.inr rfl | (fail_if_no_progress simp; exact rfl) | split | dsimp only

theorem State.coreRetire_frame (s : State) (c : Nat) : Frame 0x48150312 s (State.coreRetire s c) := by
  unfold State.coreRetire
  iterate 80 all_goals try first
    | lift_lets
    | (intro x; refine Frame.cut (m := 0x48150312) (s := s) (t := x) ?_ fun _ => ?_; (on_goal 1 => subst x); (on_goal 2 => clear_value x))
    | (intro x; clear_value x)
    | with_reducible first
        | apply Frame.ite | apply Frame.refl | assumption | apply Frame.after (State.poolShort_frame ..)
        | apply Frame.step (State.raise_frame ..) | apply Frame.after (State.setCoreJob_frame ..)
        | apply Frame.step (State.setF_frame ..) | apply Frame.after (State.setJob_frame ..)
        | ((conv => arg 3; arg 20); apply Frame.step (State.mk_frame ..))
    | exact rfl | exact Or.inl rfl | exact Or.inr rfl | (fail_if_no_progress simp; exact rfl) | split | dsimp only

theorem execDecoderSelfTestDue_frame (core : Nat) (pass : Bool) (s : State) :
    Frames 0x48150312 s (execDecoderSelfTestDue core pass s) := by
  unfold execDecoderSelfTestDue
  iterate 80 all_goals try first
    | with_reducible first
        | apply Frames.next | apply Frames.ite | apply Frame.ite | apply Frame.refl | assumption
        | apply Frame.after (State.coreRetire_frame ..)
    | exact rfl | (fail_if_no_progress simp; exact rfl) | split | dsimp only

theorem execDecoderCheckerFault_frame (core : Nat) (s : State) : Frames 0x48150312 s (execDecoderCheckerFault core s) := by
  unfold execDecoderCheckerFault
  iterate 80 all_goals try first
    | with_reducible first
        | apply Frames.next | apply Frames.ite | apply Frame.ite | apply Frame.refl | assumption
        | apply Frame.after (State.coreRetire_frame ..)
    | exact rfl | (fail_if_no_progress simp; exact rfl) | split | dsimp only

end Sys2Proof.Machine
end

