-- ==== Sys2Proof/Laws/FrameCalibration.lean ====
section
/-! SUPPORT. The frame of every operation of Machine/Calibration.lean. -/

set_option linter.all false

namespace Sys2Proof.Machine

theorem State.calReads_frame (s : State) (c : Cal) (n : Nat) : Frame 0x100 s (State.calReads s c n) := by
  unfold State.calReads
  iterate 80 all_goals try first
    | lift_lets
    | (intro x; refine Frame.cut (m := 0x100) (s := u) (t := x) ?_ fun _ => ?_; (on_goal 1 => subst x); (on_goal 2 => clear_value x))
    | (intro x; refine Frame.cut (m := 0x100) (s := s) (t := x) ?_ fun _ => ?_; (on_goal 1 => subst x); (on_goal 2 => clear_value x))
    | (intro x; clear_value x)
    | with_reducible first
        | apply Frame.refl | assumption | apply Frame.foldl (k := fun u _ => ?_)
        | apply Frame.after (State.enqueueReads_frame ..) | apply Frame.after (State.makeJobs_frame ..)
        | (apply Frame.of_pair (State.makeJobs_frame ..); (on_goal 1 => assumption))
        | ((conv => arg 3; arg 20); apply Frame.step (State.mk_frame ..))
    | exact rfl | exact Or.inl rfl | exact Or.inr rfl | (fail_if_no_progress simp; exact rfl) | split | dsimp only

theorem State.calReject_frame (s : State) (id k g cause thresh diff : Nat) :
    Frame 0x48150292 s (State.calReject s id k g cause thresh diff) := by
  unfold State.calReject
  iterate 80 all_goals try first
    | lift_lets
    | (intro x; refine Frame.cut (m := 0x48150292) (s := s) (t := x) ?_ fun _ => ?_; (on_goal 1 => subst x); (on_goal 2 => clear_value x))
    | (intro x; clear_value x)
    | with_reducible first
        | apply Frame.refl | assumption | apply Frame.after (State.calResult_frame ..)
        | apply Frame.after (State.finish_frame ..) | apply Frame.step (State.raise_frame ..)
        | ((conv => arg 3; arg 20); apply Frame.step (State.mk_frame ..))
    | exact rfl | exact Or.inl rfl | exact Or.inr rfl | (fail_if_no_progress simp; exact rfl) | dsimp only

theorem execCalibrate_frame (id : Nat) (list : Bytes) (s : State) (corr : Nat := 0) :
    Frames 0x4a150392 s (execCalibrate id list s corr) := by
  unfold execCalibrate
  iterate 80 all_goals try first
    | lift_lets
    | (intro x; refine Frame.cut (m := 0x4a150392) (s := s) (t := x) ?_ fun _ => ?_; (on_goal 1 => subst x); (on_goal 2 => clear_value x))
    | (intro x; clear_value x)
    | with_reducible first
        | apply Frames.next | apply Frames.ite | apply Frame.ite | apply Frame.refl | assumption
        | apply Frame.after (State.calReads_frame ..) | apply Frame.after (State.calReject_frame ..)
        | apply Frame.after (State.calResult_frame ..) | apply Frame.after (State.dramReads_frame ..)
        | apply Frame.after (State.finish_frame ..) | apply Frame.after (State.setDesc_frame ..)
        | ((conv => arg 3; arg 20); apply Frame.step (State.mk_frame ..))
    | exact rfl | exact Or.inl rfl | exact Or.inr rfl | (fail_if_no_progress simp; exact rfl) | split | dsimp only

theorem State.calSweep_frame (s : State) (c : Cal) : Frame 0x48150392 s (State.calSweep s c) := by
  unfold State.calSweep
  iterate 80 all_goals try first
    | lift_lets
    | (intro x; refine Frame.cut (m := 0x48150392) (s := s) (t := x) ?_ fun _ => ?_; (on_goal 1 => subst x); (on_goal 2 => clear_value x))
    | (intro x; clear_value x)
    | with_reducible first
        | apply Frame.ite | apply Frame.refl | assumption | apply Frame.after (State.calBad_frame ..)
        | apply Frame.after (State.calReads_frame ..) | apply Frame.after (State.calReject_frame ..)
        | ((conv => arg 3; arg 20); apply Frame.step (State.mk_frame ..))
    | exact rfl | exact Or.inl rfl | exact Or.inr rfl | (fail_if_no_progress simp; exact rfl) | split | dsimp only

theorem State.calDecide_frame (s : State) (c : Cal) : Frame 0x48158292 s (State.calDecide s c) := by
  unfold State.calDecide
  iterate 80 all_goals try first
    | lift_lets
    | (intro x; refine Frame.cut (m := 0x48158292) (s := u) (t := x) ?_ fun _ => ?_; (on_goal 1 => subst x); (on_goal 2 => clear_value x))
    | (intro x; refine Frame.cut (m := 0x48158292) (s := s) (t := x) ?_ fun _ => ?_; (on_goal 1 => subst x); (on_goal 2 => clear_value x))
    | (intro x; clear_value x)
    | with_reducible first
        | apply Frame.ite | apply Frame.refl | assumption | apply Frame.foldl (k := fun u _ => ?_)
        | apply Frame.after (State.calReject_frame ..) | apply Frame.after (State.calResult_frame ..)
        | apply Frame.after (State.finish_frame ..) | apply Frame.step (State.raise_frame ..)
        | apply Frame.after (State.setRecord_frame ..) | ((conv => arg 3; arg 20); apply Frame.step (State.mk_add_frame ..))
        | ((conv => arg 3; arg 20); apply Frame.step (State.mk_frame ..))
    | exact rfl | exact Or.inl rfl | exact Or.inr rfl | (fail_if_no_progress simp; exact rfl) | split | dsimp only

theorem State.calAbort_frame (s : State) (c : Cal) (st : Nat) : Frame 0x808000380 s (State.calAbort s c st) := by
  unfold State.calAbort
  iterate 80 all_goals try first
    | lift_lets
    | (intro x; refine Frame.cut (m := 0x808000380) (s := u) (t := x) ?_ fun _ => ?_; (on_goal 1 => subst x); (on_goal 2 => clear_value x))
    | (intro x; refine Frame.cut (m := 0x808000380) (s := s) (t := x) ?_ fun _ => ?_; (on_goal 1 => subst x); (on_goal 2 => clear_value x))
    | (intro x; clear_value x)
    | with_reducible first
        | apply Frame.refl | assumption | apply Frame.foldl (k := fun u _ => ?_)
        | apply Frame.after (State.calResult_frame ..) | apply Frame.after (State.finish_frame ..)
        | apply Frame.after (State.withdraw_frame ..) | ((conv => arg 3; arg 20); apply Frame.step (State.mk_frame ..))
    | exact rfl | exact Or.inl rfl | exact Or.inr rfl | (fail_if_no_progress simp; exact rfl) | split | dsimp only

theorem execCalibrationEnd_frame (id : Nat) (s : State) : Frames 0x848158392 s (execCalibrationEnd id s) := by
  unfold execCalibrationEnd
  iterate 80 all_goals try first
    | with_reducible first
        | apply Frames.next | apply Frames.ite | apply Frame.ite | apply Frame.refl | assumption
        | apply Frame.after (State.calAbort_frame ..) | apply Frame.after (State.calDecide_frame ..)
        | apply Frame.after (State.calSweep_frame ..)
    | exact rfl | (fail_if_no_progress simp; exact rfl) | split | dsimp only

theorem execGetCal_frame (id : Nat) (s : State) : Frames 0x40010081 s (execGetCal id s) := by
  unfold execGetCal
  iterate 80 all_goals try first
    | lift_lets
    | (intro x; refine Frame.cut (m := 0x40010081) (s := u) (t := x) ?_ fun _ => ?_; (on_goal 1 => subst x); (on_goal 2 => clear_value x))
    | (intro x; refine Frame.cut (m := 0x40010081) (s := s) (t := x) ?_ fun _ => ?_; (on_goal 1 => subst x); (on_goal 2 => clear_value x))
    | (intro x; clear_value x)
    | with_reducible first
        | apply Frames.next | apply Frame.refl | assumption | apply Frame.foldl (k := fun u _ => ?_)
        | apply Frame.after (State.fab_frame ..) | apply Frame.after (State.finish_frame ..)
    | exact rfl | (fail_if_no_progress simp; exact rfl) | split | dsimp only

theorem execSetCal_frame (id : Nat) (rec : Bytes) (s : State) (corr : Nat := 0) :
    Frames 0x2000280 s (execSetCal id rec s corr) := by
  unfold execSetCal
  iterate 80 all_goals try first
    | lift_lets
    | (intro x; refine Frame.cut (m := 0x2000280) (s := s) (t := x) ?_ fun _ => ?_; (on_goal 1 => subst x); (on_goal 2 => clear_value x))
    | (intro x; clear_value x)
    | with_reducible first
        | apply Frames.next | apply Frames.ite | apply Frame.ite | apply Frame.refl | assumption
        | apply Frame.after (State.dramReads_frame ..) | apply Frame.after (State.finish_frame ..)
        | apply Frame.after (State.setRecord_frame ..)
    | exact rfl | (fail_if_no_progress simp; exact rfl) | split | dsimp only

end Sys2Proof.Machine
end

