-- ==== Sys2Proof/Laws/FrameFaults.lean ====
section
/-! SUPPORT. The frame of every operation of Machine/Faults.lean. -/

set_option linter.all false

namespace Sys2Proof.Machine

theorem State.dropDescOps_frame (s : State) (id : Nat) : Frame 0x100 s (State.dropDescOps s id) := by
  unfold State.dropDescOps
  iterate 80 all_goals try first
    | lift_lets
    | (intro x; refine Frame.cut (m := 0x100) (s := s) (t := x) ?_ fun _ => ?_; (on_goal 1 => subst x); (on_goal 2 => clear_value x))
    | (intro x; clear_value x)
    | with_reducible first
        | apply Frame.refl | assumption | ((conv => arg 3; arg 20); apply Frame.step (State.mk_frame ..))
    | exact rfl | exact Or.inl rfl | exact Or.inr rfl | dsimp only

theorem State.descFault_frame (s : State) (d : Desc) : Frame 0x59fa1dffdb s (State.descFault s d) := by
  unfold State.descFault
  iterate 80 all_goals try first
    | lift_lets
    | (intro x; refine Frame.cut (m := 0x59fa1dffdb) (s := u) (t := x) ?_ fun _ => ?_; (on_goal 1 => subst x); (on_goal 2 => clear_value x))
    | (intro x; refine Frame.cut (m := 0x59fa1dffdb) (s := s) (t := x) ?_ fun _ => ?_; (on_goal 1 => subst x); (on_goal 2 => clear_value x))
    | (intro x; clear_value x)
    | with_reducible first
        | apply Frame.ite | apply Frame.refl | assumption | apply Frame.foldl (k := fun u _ => ?_)
        | apply Frame.after (State.cancelJob_frame ..) | apply Frame.after (State.dropDescOps_frame ..)
        | apply Frame.after (State.finish_frame ..) | apply Frame.after (State.flushLeaving_frame ..)
        | apply Frame.after (State.progEnd_frame ..) | apply Frame.after (State.scanFinish_frame ..)
        | apply Frame.after (State.summaryUnread_frame ..)
    | exact rfl | (fail_if_no_progress simp; exact rfl) | split | dsimp only

theorem State.scanFault_frame (s : State) (c : Scan) : Frame 0x850012781 s (State.scanFault s c) := by
  unfold State.scanFault
  iterate 80 all_goals try first
    | (intro x; clear_value x)
    | with_reducible first
        | apply Frame.ite | apply Frame.refl | assumption | apply Frame.after (State.closeScan_frame ..)
        | apply Frame.after (State.discardScan_frame ..) | ((conv => arg 3; arg 20); apply Frame.step (State.mk_frame ..))
    | exact rfl | exact Or.inl rfl | exact Or.inr rfl | (fail_if_no_progress simp; exact rfl) | split | dsimp only

theorem State.bufferFault_frame (s : State) (id : Nat) : Frame 0x59fa1dffdb s (State.bufferFault s id) := by
  unfold State.bufferFault
  iterate 80 all_goals try first
    | lift_lets
    | (intro x; refine Frame.cut (m := 0x59fa1dffdb) (s := s) (t := x) ?_ fun _ => ?_; (on_goal 1 => subst x); (on_goal 2 => clear_value x))
    | (intro x; clear_value x)
    | with_reducible first
        | apply Frame.ite | apply Frame.refl | assumption | apply Frame.after (State.descFault_frame ..)
        | apply Frame.after (State.scanFault_frame ..) | apply Frame.after (State.setDesc_frame ..)
        | ((conv => arg 3; arg 20); apply Frame.step (State.mk_frame ..))
    | exact rfl | exact Or.inl rfl | exact Or.inr rfl | (fail_if_no_progress simp; exact rfl) | split | dsimp only

theorem execBufferFault_frame (id : Nat) (s : State) (unit : Option Nat := none) :
    Frames 0x59fa1dffdb s (execBufferFault id s unit) := by
  unfold execBufferFault
  iterate 80 all_goals try first
    | with_reducible first
        | apply Frames.next | apply Frames.ite | apply Frame.ite | apply Frame.refl | assumption
        | apply Frame.after (State.bufferFault_frame ..) | apply Frame.after (State.dramUncorr_frame ..)
    | exact rfl | (fail_if_no_progress simp; exact rfl) | split | dsimp only

end Sys2Proof.Machine
end

