-- ==== Sys2Proof/Laws/FrameFlashIntegrity.lean ====
section
/-! SUPPORT. The frame of every operation of Machine/FlashIntegrity.lean. -/

set_option linter.all false

namespace Sys2Proof.Machine

theorem State.setRebuild_frame (s : State) (x : Rebuild) : Frame 0x2000 s (State.setRebuild s x) := by
  unfold State.setRebuild
  iterate 80 all_goals try first
    | (intro x; clear_value x)
    | with_reducible first
        | apply Frame.ite | apply Frame.refl | assumption | ((conv => arg 3; arg 20); apply Frame.step (State.mk_frame ..))
    | exact rfl | exact Or.inl rfl | exact Or.inr rfl | split | dsimp only

theorem State.dropRebuildJobs_frame (s : State) (entry : Nat) : Frame 0x800002300 s (State.dropRebuildJobs s entry) := by
  unfold State.dropRebuildJobs
  iterate 80 all_goals try first
    | with_reducible first
        | apply Frame.refl | assumption | apply Frame.foldl (k := fun u _ => ?_)
        | apply Frame.after (State.cancelJob_frame ..)
    | exact rfl | (fail_if_no_progress simp; exact rfl) | split | dsimp only

theorem State.rebuildSkip_frame (s : State) (entry : Nat) : Frame 0x800002300 s (State.rebuildSkip s entry) := by
  unfold State.rebuildSkip
  iterate 80 all_goals try first
    | with_reducible first
        | apply Frame.refl | assumption | apply Frame.after (State.dropRebuildJobs_frame ..)
        | apply Frame.after (State.setRebuild_frame ..)
    | exact rfl | (fail_if_no_progress simp; exact rfl) | split | dsimp only

theorem State.mapUnread_frame (s : State) (j : Job) : Frame 0x59fe1dffdb s (State.mapUnread s j) := by
  unfold State.mapUnread
  iterate 80 all_goals try first
    | with_reducible first
        | apply Frame.refl | assumption | apply Frame.after (State.bufferFault_frame ..)
        | apply Frame.after (State.jobFailed_frame ..) | apply Frame.after (State.rebuildSkip_frame ..)
        | apply Frame.after (State.withdraw_frame ..)
    | exact rfl | (fail_if_no_progress simp; exact rfl) | split | dsimp only

theorem State.uncovered_frame (s : State) (j : Job) : Frame 0x59fe1dffdb s (State.uncovered s j) := by
  unfold State.uncovered
  iterate 80 all_goals try first
    | (intro x; clear_value x)
    | with_reducible first
        | apply Frame.refl | assumption | apply Frame.after (State.jobFinal_frame ..)
        | apply Frame.after (State.patrolFinding_frame ..) | apply Frame.after (State.withdraw_frame ..)
        | ((conv => arg 3; arg 20); apply Frame.step (State.mk_frame ..))
    | exact rfl | exact Or.inl rfl | exact Or.inr rfl | (fail_if_no_progress simp; exact rfl) | split | dsimp only

theorem execReconContextTake_frame (job : Nat) (maps : List Bytes) (err : Bool) (s : State) (corr : Nat := 0) (lost : Option Nat := none) :
    Frames 0x59fe1dffdb s (execReconContextTake job maps err s corr lost) := by
  unfold execReconContextTake
  iterate 80 all_goals try first
    | lift_lets
    | (intro x; refine Frame.cut (m := 0x59fe1dffdb) (s := s) (t := x) ?_ fun _ => ?_; (on_goal 1 => subst x); (on_goal 2 => clear_value x))
    | (intro x; clear_value x)
    | with_reducible first
        | apply Frames.next | apply Frames.ite | apply Frame.ite | apply Frame.refl | assumption
        | apply Frame.after (State.dramReads_frame ..) | apply Frame.after (State.jobFailed_frame ..)
        | apply Frame.after (State.mapLost_frame ..) | apply Frame.after (State.mapUnread_frame ..)
        | apply Frame.after (State.takeContext_frame ..) | apply Frame.after (State.uncovered_frame ..)
        | apply Frame.after (State.withdraw_frame ..)
    | exact rfl | (fail_if_no_progress simp; exact rfl) | split | dsimp only

theorem State.countRecon_frame (s : State) (code : Nat) : Frame 0x44150012 s (State.countRecon s code) := by
  unfold State.countRecon
  iterate 80 all_goals try first
    | with_reducible first
        | apply Frame.ite | apply Frame.refl | assumption | apply Frame.step (State.bump_frame ..)
        | apply Frame.step (State.raise_frame ..)
    | exact rfl | (fail_if_no_progress simp; exact rfl) | split | dsimp only

theorem execReconstruction_frame (ctx : Nat) (s : State) : Frames 0x59fe1dffdb s (execReconstruction ctx s) := by
  unfold execReconstruction
  iterate 80 all_goals try first
    | lift_lets
    | (intro x; refine Frame.cut (m := 0x59fe1dffdb) (s := s) (t := x) ?_ fun _ => ?_; (on_goal 1 => subst x); (on_goal 2 => clear_value x))
    | (intro x; clear_value x)
    | with_reducible first
        | apply Frames.next | apply Frames.ite | apply Frame.ite | apply Frame.refl | assumption
        | apply Frame.after (State.countRecon_frame ..) | apply Frame.after (State.jobFinal_frame ..)
        | apply Frame.after (State.patrolFinding_frame ..) | apply Frame.after (State.withdraw_frame ..)
        | ((conv => arg 3; arg 20); apply Frame.step (State.mk_frame ..))
    | exact rfl | exact Or.inl rfl | exact Or.inr rfl | (fail_if_no_progress simp; exact rfl) | split | dsimp only

theorem State.setCursor_frame (s : State) (k i : Nat) : Frame 0x2000 s (State.setCursor s k i) := by
  unfold State.setCursor
  iterate 80 all_goals try first
    | (intro x; clear_value x)
    | with_reducible first
        | apply Frame.refl | assumption | ((conv => arg 3; arg 20); apply Frame.step (State.mk_frame ..))
    | exact rfl | exact Or.inl rfl | exact Or.inr rfl | dsimp only

theorem execPatrolRoundStart_frame (sec : Nat) (s : State) : Frames 0x2000 s (execPatrolRoundStart sec s) := by
  unfold execPatrolRoundStart
  iterate 80 all_goals try first
    | (intro x; clear_value x)
    | with_reducible first
        | apply Frames.next | apply Frames.ite | apply Frame.ite | apply Frame.refl | assumption
        | ((conv => arg 3; arg 20); apply Frame.step (State.mk_frame ..))
    | exact rfl | exact Or.inl rfl | exact Or.inr rfl | split | dsimp only

theorem State.patrolRead_frame (s : State) (k i : Nat) : Frame 0x4002100 s (State.patrolRead s k i) := by
  unfold State.patrolRead
  iterate 80 all_goals try first
    | lift_lets
    | (intro x; refine Frame.cut (m := 0x4002100) (s := s) (t := x) ?_ fun _ => ?_; (on_goal 1 => subst x); (on_goal 2 => clear_value x))
    | (intro x; clear_value x)
    | with_reducible first
        | apply Frame.ite | apply Frame.refl | assumption | apply Frame.step (State.bump_frame ..)
        | apply Frame.after (State.enqueueReads_frame ..) | apply Frame.after (State.fresh_frame ..)
        | (apply Frame.of_pair (State.fresh_frame ..); (on_goal 1 => assumption))
        | apply Frame.after (State.makeJobs_frame ..)
        | (apply Frame.of_pair (State.makeJobs_frame ..); (on_goal 1 => assumption))
        | apply Frame.after (State.setCursor_frame ..) | ((conv => arg 3; arg 20); apply Frame.step (State.mk_frame ..))
    | exact rfl | exact Or.inl rfl | exact Or.inr rfl | (fail_if_no_progress simp; exact rfl) | split | dsimp only

theorem State.patrolStep_frame (s : State) (k sec : Nat) : Frame 0x4002100 s (State.patrolStep s k sec) := by
  unfold State.patrolStep
  iterate 80 all_goals try first
    | lift_lets
    | (intro x; refine Frame.cut (m := 0x4002100) (s := s) (t := x) ?_ fun _ => ?_; (on_goal 1 => subst x); (on_goal 2 => clear_value x))
    | (intro x; clear_value x)
    | with_reducible first
        | apply Frame.ite | apply Frame.refl | assumption | apply Frame.after (State.patrolRead_frame ..)
        | apply Frame.after (State.setCursor_frame ..)
    | exact rfl | (fail_if_no_progress simp; exact rfl) | split | dsimp only

theorem State.roundCheck_frame (s : State) (sec : Nat) : Frame 0x44152012 s (State.roundCheck s sec) := by
  unfold State.roundCheck
  iterate 80 all_goals try first
    | lift_lets
    | (intro x; refine Frame.cut (m := 0x44152012) (s := s) (t := x) ?_ fun _ => ?_; (on_goal 1 => subst x); (on_goal 2 => clear_value x))
    | (intro x; clear_value x)
    | with_reducible first
        | apply Frame.ite | apply Frame.refl | assumption | apply Frame.step (State.bump_frame ..)
        | apply Frame.step (State.raise_frame ..) | apply Frame.step (State.setR_frame ..)
        | ((conv => arg 3; arg 20); apply Frame.step (State.mk_frame ..))
    | exact rfl | exact Or.inl rfl | exact Or.inr rfl | (fail_if_no_progress simp; exact rfl) | split | dsimp only

theorem execPatrolReadDue_frame (r d sec : Nat) (s : State) : Frames 0x44152112 s (execPatrolReadDue r d sec s) := by
  unfold execPatrolReadDue
  iterate 80 all_goals try first
    | lift_lets
    | (intro x; refine Frame.cut (m := 0x44152112) (s := s) (t := x) ?_ fun _ => ?_; (on_goal 1 => subst x); (on_goal 2 => clear_value x))
    | (intro x; clear_value x)
    | with_reducible first
        | apply Frames.next | apply Frames.ite | apply Frame.ite | apply Frame.refl | assumption
        | apply Frame.after (State.patrolStep_frame ..) | apply Frame.after (State.roundCheck_frame ..)
    | exact rfl | (fail_if_no_progress simp; exact rfl) | split | dsimp only

theorem State.spareWrite_frame (s : State) (hi : Bool) (v : Nat) : Frame 0x4000000 s (State.spareWrite s hi v) := by
  unfold State.spareWrite
  iterate 80 all_goals try first
    | lift_lets
    | (intro x; refine Frame.cut (m := 0x4000000) (s := s) (t := x) ?_ fun _ => ?_; (on_goal 1 => subst x); (on_goal 2 => clear_value x))
    | (intro x; clear_value x)
    | with_reducible first
        | apply Frame.ite | apply Frame.refl | assumption | apply Frame.step (State.setR_frame ..)
    | exact rfl | (fail_if_no_progress simp; exact rfl) | split | dsimp only

theorem State.letterWrite_frame (s : State) : Frame 0x40010001 s (State.letterWrite s) := by
  unfold State.letterWrite
  iterate 80 all_goals try first
    | with_reducible first
        | apply Frame.refl | assumption | apply Frame.after (State.fab_frame ..)
    | exact rfl | (fail_if_no_progress simp; exact rfl) | split | dsimp only

theorem execDeadLetterWrite_frame (s : State) : Frames 0x40012001 s (execDeadLetterWrite s) := by
  unfold execDeadLetterWrite
  iterate 80 all_goals try first
    | (intro x; clear_value x)
    | with_reducible first
        | apply Frames.next | apply Frames.ite | apply Frame.ite | apply Frame.refl | assumption
        | apply Frame.after (State.letterWrite_frame ..) | ((conv => arg 3; arg 20); apply Frame.step (State.mk_frame ..))
    | exact rfl | exact Or.inl rfl | exact Or.inr rfl | (fail_if_no_progress simp; exact rfl) | split | dsimp only

theorem State.letterAck_frame (s : State) : Frame 0x44152112 s (State.letterAck s) := by
  unfold State.letterAck
  iterate 80 all_goals try first
    | lift_lets
    | (intro x; refine Frame.cut (m := 0x44152112) (s := s) (t := x) ?_ fun _ => ?_; (on_goal 1 => subst x); (on_goal 2 => clear_value x))
    | (intro x; clear_value x)
    | with_reducible first
        | apply Frame.ite | apply Frame.refl | assumption | apply Frame.after (State.dlShow_frame ..)
        | apply Frame.after (State.fire_frame ..) | apply Frame.after (State.lettersGo_frame ..)
        | apply Frame.step (State.setF_frame ..) | ((conv => arg 3; arg 20); apply Frame.step (State.mk_frame ..))
    | exact rfl | exact Or.inl rfl | exact Or.inr rfl | (fail_if_no_progress simp; exact rfl) | split | dsimp only

theorem execDlWriteRetry_frame (s : State) : Frames 0x40012001 s (execDlWriteRetry s) := by
  unfold execDlWriteRetry
  iterate 80 all_goals try first
    | (intro x; clear_value x)
    | with_reducible first
        | apply Frames.next | apply Frames.ite | apply Frame.ite | apply Frame.refl | assumption
        | apply Frame.after (State.letterWrite_frame ..) | ((conv => arg 3; arg 20); apply Frame.step (State.mk_frame ..))
    | exact rfl | exact Or.inl rfl | exact Or.inr rfl | (fail_if_no_progress simp; exact rfl) | split | dsimp only

theorem State.dlHeadWrite_frame (s : State) (v : Nat) : Frame 0x44152112 s (State.dlHeadWrite s v) := by
  unfold State.dlHeadWrite
  iterate 80 all_goals try first
    | lift_lets
    | (intro x; refine Frame.cut (m := 0x44152112) (s := s) (t := x) ?_ fun _ => ?_; (on_goal 1 => subst x); (on_goal 2 => clear_value x))
    | (intro x; clear_value x)
    | with_reducible first
        | apply Frame.ite | apply Frame.refl | assumption | apply Frame.after (State.lettersGo_frame ..)
        | apply Frame.after (State.refuse_frame ..) | apply Frame.step (State.setF_frame ..)
    | exact rfl | (fail_if_no_progress simp; exact rfl) | split | dsimp only

theorem State.dlCfgWrite_frame (s : State) (v : Nat) : Frame 0x44152012 s (State.dlCfgWrite s v) := by
  unfold State.dlCfgWrite
  iterate 80 all_goals try first
    | lift_lets
    | (intro x; refine Frame.cut (m := 0x44152012) (s := s) (t := x) ?_ fun _ => ?_; (on_goal 1 => subst x); (on_goal 2 => clear_value x))
    | (intro x; clear_value x)
    | with_reducible first
        | apply Frame.ite | apply Frame.refl | assumption | apply Frame.after (State.refuse_frame ..)
        | apply Frame.step (State.setF_frame ..) | apply Frame.step (State.setR_frame ..)
        | ((conv => arg 3; arg 20); apply Frame.step (State.mk_frame ..))
    | exact rfl | exact Or.inl rfl | exact Or.inr rfl | (fail_if_no_progress simp; exact rfl) | split | dsimp only

theorem State.mapDone_frame (s : State) (id : Nat) : Frame 0x180 s (State.mapDone s id) := by
  unfold State.mapDone
  iterate 80 all_goals try first
    | lift_lets
    | (intro x; refine Frame.cut (m := 0x180) (s := s) (t := x) ?_ fun _ => ?_; (on_goal 1 => subst x); (on_goal 2 => clear_value x))
    | (intro x; clear_value x)
    | with_reducible first
        | apply Frame.ite | apply Frame.refl | assumption | apply Frame.after (State.setDesc_frame ..)
        | ((conv => arg 3; arg 20); apply Frame.step (State.mk_frame ..))
    | exact rfl | exact Or.inl rfl | exact Or.inr rfl | (fail_if_no_progress simp; exact rfl) | split | dsimp only

theorem State.mapFailed_frame (s : State) (id : Nat) : Frame 0x59fa1dffdb s (State.mapFailed s id) := by
  unfold State.mapFailed
  iterate 80 all_goals try first
    | lift_lets
    | (intro x; refine Frame.cut (m := 0x59fa1dffdb) (s := u) (t := x) ?_ fun _ => ?_; (on_goal 1 => subst x); (on_goal 2 => clear_value x))
    | (intro x; refine Frame.cut (m := 0x59fa1dffdb) (s := s) (t := x) ?_ fun _ => ?_; (on_goal 1 => subst x); (on_goal 2 => clear_value x))
    | (intro x; clear_value x)
    | with_reducible first
        | apply Frame.refl | assumption | apply Frame.foldl (k := fun u _ => ?_)
        | apply Frame.after (State.bufferFault_frame ..) | apply Frame.after (State.dropDescOps_frame ..)
        | apply Frame.after (State.finish_frame ..) | apply Frame.after (State.lineEnds_frame ..)
        | ((conv => arg 3; arg 20); apply Frame.step (State.mk_frame ..))
    | exact rfl | exact Or.inl rfl | exact Or.inr rfl | (fail_if_no_progress simp; exact rfl) | dsimp only

theorem execFabricWriteAcknowledgement_frame (kind : Nat) (ok : Bool) (s : State) :
    Frames 0x59fe9dffdb s (execFabricWriteAcknowledgement kind ok s) := by
  unfold execFabricWriteAcknowledgement
  iterate 80 all_goals try first
    | (intro x; clear_value x)
    | with_reducible first
        | apply Frames.next | apply Frames.ite | apply Frame.ite | apply Frame.refl | assumption
        | apply Frame.after (State.letterAck_frame ..) | apply Frame.after (State.mapDone_frame ..)
        | apply Frame.after (State.mapFailed_frame ..) | apply Frame.step (State.raise_frame ..)
        | ((conv => arg 3; arg 20); apply Frame.step (State.mk_frame ..))
    | exact rfl | exact Or.inl rfl | exact Or.inr rfl | (fail_if_no_progress simp; exact rfl) | split | dsimp only

theorem State.retire_frame (s : State) (k : Nat) : Frame 0x59fe1dffdb s (State.retire s k) := by
  unfold State.retire
  iterate 80 all_goals try first
    | lift_lets
    | (intro x; refine Frame.cut (m := 0x59fe1dffdb) (s := s) (t := x) ?_ fun _ => ?_; (on_goal 1 => subst x); (on_goal 2 => clear_value x))
    | (intro x; clear_value x)
    | with_reducible first
        | apply Frame.ite | apply Frame.refl | assumption | apply Frame.after (State.dieDrop_frame ..)
        | apply Frame.after (State.dieRanges_frame ..) | apply Frame.after (State.guardUpdate_frame ..)
        | apply Frame.step (State.raise_frame ..) | apply Frame.after (State.setDie_frame ..)
        | apply Frame.after (State.setDieSt_frame ..) | ((conv => arg 3; arg 20); apply Frame.step (State.mk_frame ..))
    | exact rfl | exact Or.inl rfl | exact Or.inr rfl | (fail_if_no_progress simp; exact rfl) | split | dsimp only

theorem execRetireDie_frame (id : Nat) (s : State) : Frames 0x59fe1dffdb s (execRetireDie id s) := by
  unfold execRetireDie
  iterate 80 all_goals try first
    | lift_lets
    | (intro x; refine Frame.cut (m := 0x59fe1dffdb) (s := s) (t := x) ?_ fun _ => ?_; (on_goal 1 => subst x); (on_goal 2 => clear_value x))
    | (intro x; clear_value x)
    | with_reducible first
        | apply Frames.next | apply Frames.ite | apply Frame.ite | apply Frame.refl | assumption
        | apply Frame.after (State.finish_frame ..) | apply Frame.after (State.retire_frame ..)
    | exact rfl | (fail_if_no_progress simp; exact rfl) | split | dsimp only

theorem execRebuild_frame (id : Nat) (s : State) : Frames 0x44152092 s (execRebuild id s) := by
  unfold execRebuild
  iterate 80 all_goals try first
    | lift_lets
    | (intro x; refine Frame.cut (m := 0x44152092) (s := s) (t := x) ?_ fun _ => ?_; (on_goal 1 => subst x); (on_goal 2 => clear_value x))
    | (intro x; clear_value x)
    | with_reducible first
        | apply Frames.next | apply Frames.ite | apply Frame.ite | apply Frame.refl | assumption
        | apply Frame.after (State.finish_frame ..) | apply Frame.step (State.raise_frame ..)
        | apply Frame.step (State.setF_frame ..) | apply Frame.step (State.setR_frame ..)
        | ((conv => arg 3; arg 20); apply Frame.step (State.mk_frame ..))
    | exact rfl | exact Or.inl rfl | exact Or.inr rfl | (fail_if_no_progress simp; exact rfl) | split | dsimp only

theorem State.unjoin_frame (s : State) (entry : Nat) : Frame 0x100 s (State.unjoin s entry) := by
  unfold State.unjoin
  iterate 80 all_goals try first
    | lift_lets
    | (intro x; refine Frame.cut (m := 0x100) (s := s) (t := x) ?_ fun _ => ?_; (on_goal 1 => subst x); (on_goal 2 => clear_value x))
    | (intro x; clear_value x)
    | with_reducible first
        | apply Frame.ite | apply Frame.refl | assumption | ((conv => arg 3; arg 20); apply Frame.step (State.mk_frame ..))
    | exact rfl | exact Or.inl rfl | exact Or.inr rfl | split | dsimp only

theorem State.rebuildErase_frame (s : State) (x : Rebuild) : Frame 0x42152912 s (State.rebuildErase s x) := by
  unfold State.rebuildErase
  iterate 80 all_goals try first
    | lift_lets
    | (intro x; refine Frame.cut (m := 0x42152912) (s := u) (t := x) ?_ fun _ => ?_; (on_goal 1 => subst x); (on_goal 2 => clear_value x))
    | (intro x; refine Frame.cut (m := 0x42152912) (s := s) (t := x) ?_ fun _ => ?_; (on_goal 1 => subst x); (on_goal 2 => clear_value x))
    | (intro x; clear_value x)
    | with_reducible first
        | apply Frame.refl | assumption | apply Frame.foldl (k := fun u _ => ?_)
        | apply Frame.after (State.enqueueErase_frame ..) | apply Frame.after (State.setRebuild_frame ..)
        | apply Frame.after (State.unjoin_frame ..) | ((conv => arg 3; arg 20); apply Frame.step (State.mk_frame ..))
    | exact rfl | exact Or.inl rfl | exact Or.inr rfl | (fail_if_no_progress simp; exact rfl) | dsimp only

theorem State.activate_frame (s : State) (x : Rebuild) : Frame 0x44152012 s (State.activate s x) := by
  unfold State.activate
  iterate 80 all_goals try first
    | lift_lets
    | (intro x; refine Frame.cut (m := 0x44152012) (s := s) (t := x) ?_ fun _ => ?_; (on_goal 1 => subst x); (on_goal 2 => clear_value x))
    | (intro x; clear_value x)
    | with_reducible first
        | apply Frame.ite | apply Frame.refl | assumption | apply Frame.step (State.raise_frame ..)
        | apply Frame.step (State.setBit_frame ..) | apply Frame.step (State.setF_frame ..)
        | apply Frame.step (State.setR_frame ..) | ((conv => arg 3; arg 20); apply Frame.step (State.mk_frame ..))
    | exact rfl | exact Or.inl rfl | exact Or.inr rfl | (rw [regGroup_bits _ _ (by decide) (by decide)]; exact rfl)
    | (fail_if_no_progress simp; exact rfl) | split | dsimp only

theorem State.rebuildNext_frame (s : State) (x : Rebuild) : Frame 0x44152012 s (State.rebuildNext s x) := by
  unfold State.rebuildNext
  iterate 80 all_goals try first
    | lift_lets
    | (intro x; refine Frame.cut (m := 0x44152012) (s := s) (t := x) ?_ fun _ => ?_; (on_goal 1 => subst x); (on_goal 2 => clear_value x))
    | (intro x; clear_value x)
    | with_reducible first
        | apply Frame.ite | apply Frame.refl | assumption | apply Frame.after (State.activate_frame ..)
        | apply Frame.step (State.setF_frame ..) | apply Frame.after (State.setRebuild_frame ..)
        | ((conv => arg 3; arg 20); apply Frame.step (State.mk_frame ..))
    | exact rfl | exact Or.inl rfl | exact Or.inr rfl | (fail_if_no_progress simp; exact rfl) | split | dsimp only

theorem State.rebuildPage_frame (s : State) (x : Rebuild) (l : Nat) : Frame 0x2100 s (State.rebuildPage s x l) := by
  unfold State.rebuildPage
  iterate 80 all_goals try first
    | lift_lets
    | (intro x; refine Frame.cut (m := 0x2100) (s := u) (t := x) ?_ fun _ => ?_; (on_goal 1 => subst x); (on_goal 2 => clear_value x))
    | (intro x; refine Frame.cut (m := 0x2100) (s := s) (t := x) ?_ fun _ => ?_; (on_goal 1 => subst x); (on_goal 2 => clear_value x))
    | (intro x; clear_value x)
    | with_reducible first
        | apply Frame.refl | assumption | apply Frame.foldl (k := fun u _ => ?_) | apply Frame.after (State.addJob_frame ..)
        | apply Frame.after (State.fresh_frame ..) | (apply Frame.of_pair (State.fresh_frame ..); (on_goal 1 => assumption))
        | apply Frame.after (State.makeJobs_frame ..)
        | (apply Frame.of_pair (State.makeJobs_frame ..); (on_goal 1 => assumption))
        | apply Frame.after (State.setRebuild_frame ..) | ((conv => arg 3; arg 20); apply Frame.step (State.mk_frame ..))
    | exact rfl | exact Or.inl rfl | exact Or.inr rfl | (fail_if_no_progress simp; exact rfl) | split | dsimp only

theorem State.rebuildEnv_frame (s : State) (q : Nat) (r : Option (Nat × Bytes × Bytes)) :
    Frame 0x8000 s (State.rebuildEnv s q r).2 := by
  unfold State.rebuildEnv
  iterate 80 all_goals try first
    | lift_lets
    | (intro x; refine Frame.cut (m := 0x8000) (s := s) (t := x) ?_ fun _ => ?_; (on_goal 1 => subst x); (on_goal 2 => clear_value x))
    | (intro x; clear_value x)
    | with_reducible first
        | apply Frame.ite | apply Frame.refl | assumption | apply Frame.after (State.draw_frame ..)
        | (apply Frame.of_pair (State.draw_frame ..); (on_goal 1 => assumption)) | apply Frame.after (State.filler_frame ..)
        | (apply Frame.of_pair (State.filler_frame ..); (on_goal 1 => assumption))
    | exact rfl | (fail_if_no_progress simp; exact rfl) | split | dsimp only

theorem State.rebuildProgram_frame (s : State) (x : Rebuild) (l : Nat) : Frame 0x400a100 s (State.rebuildProgram s x l) := by
  unfold State.rebuildProgram
  iterate 80 all_goals try first
    | lift_lets
    | (intro x; refine Frame.cut (m := 0x400a100) (s := q.2) (t := x) ?_ fun _ => ?_; (on_goal 1 => subst x); (on_goal 2 => clear_value x))
    | (intro x; refine Frame.cut (m := 0x400a100) (s := u) (t := x) ?_ fun _ => ?_; (on_goal 1 => subst x); (on_goal 2 => clear_value x))
    | (intro x; refine Frame.cut (m := 0x400a100) (s := s) (t := x) ?_ fun _ => ?_; (on_goal 1 => subst x); (on_goal 2 => clear_value x))
    | (intro x; clear_value x)
    | with_reducible first
        | apply Frame.refl | assumption | apply Frame.foldl (k := fun u _ => ?_) | apply Frame.foldl_snd (k := fun q _ => ?_)
        | apply Frame.after (State.enqueue_frame ..) | apply Frame.after (State.fresh_frame ..)
        | (apply Frame.of_pair (State.fresh_frame ..); (on_goal 1 => assumption))
        | apply Frame.after (State.rebuildEnv_frame ..)
        | (apply Frame.of_pair (State.rebuildEnv_frame ..); (on_goal 1 => assumption))
        | apply Frame.step (State.setF_frame ..) | apply Frame.after (State.setRebuild_frame ..)
        | ((conv => arg 3; arg 20); apply Frame.step (State.mk_frame ..))
    | exact rfl | exact Or.inl rfl | exact Or.inr rfl | (fail_if_no_progress simp; exact rfl) | split | dsimp only

theorem State.rebuildGo_frame (s : State) (x : Rebuild) (maps : List Bytes) (err : Bool) :
    Frame 0x84415a312 s (State.rebuildGo s x maps err) := by
  unfold State.rebuildGo
  iterate 80 all_goals try first
    | with_reducible first
        | apply Frame.ite | apply Frame.refl | assumption | apply Frame.after (State.rebuildNext_frame ..)
        | apply Frame.after (State.rebuildPage_frame ..) | apply Frame.after (State.rebuildProgram_frame ..)
        | apply Frame.after (State.rebuildSkip_frame ..)
    | exact rfl | (fail_if_no_progress simp; exact rfl) | split | dsimp only

theorem execRebuildBaseBlock_frame (entry : Nat) (maps : List Bytes) (err : Bool) (s : State) (corr : Nat := 0) (lost : Option Nat := none) :
    Frames 0x59fe1def9b s (execRebuildBaseBlock entry maps err s corr lost) := by
  unfold execRebuildBaseBlock
  iterate 80 all_goals try first
    | with_reducible first
        | apply Frames.next | apply Frames.ite | apply Frame.ite | apply Frame.refl | assumption
        | apply Frame.after (State.dramReads_frame ..) | apply Frame.after (State.mapLost_frame ..)
        | apply Frame.after (State.rebuildErase_frame ..) | apply Frame.after (State.rebuildGo_frame ..)
    | exact rfl | (fail_if_no_progress simp; exact rfl) | split | dsimp only

theorem execRebuildWindowEnd_frame (r d : Nat) (s : State) : Frames 0x100 s (execRebuildWindowEnd r d s) := by
  unfold execRebuildWindowEnd
  iterate 80 all_goals try first
    | (intro x; clear_value x)
    | with_reducible first
        | apply Frames.next | apply Frame.refl | assumption | apply Frame.after (State.setDie_frame ..)
        | ((conv => arg 3; arg 20); apply Frame.step (State.mk_frame ..))
    | exact rfl | exact Or.inl rfl | exact Or.inr rfl | (fail_if_no_progress simp; exact rfl) | dsimp only

theorem State.degradedGo_frame (s : State) : Frame 0x51c41d811a s (State.degradedGo s) := by
  unfold State.degradedGo
  iterate 80 all_goals try first
    | lift_lets
    | (intro x; refine Frame.cut (m := 0x51c41d811a) (s := s) (t := x) ?_ fun _ => ?_; (on_goal 1 => subst x); (on_goal 2 => clear_value x))
    | (intro x; clear_value x)
    | with_reducible first
        | apply Frame.ite | apply Frame.refl | assumption | apply Frame.step (State.setF_frame ..)
        | apply Frame.after (State.setMode_frame ..)
    | exact rfl | (fail_if_no_progress simp; exact rfl) | split | dsimp only

theorem execDegradedChange_frame (s : State) : Frames 0x51c41d811a s (execDegradedChange s) := by
  unfold execDegradedChange
  iterate 80 all_goals try first
    | with_reducible first
        | apply Frames.next | apply Frame.refl | assumption | apply Frame.after (State.degradedGo_frame ..)
    | exact rfl | (fail_if_no_progress simp; exact rfl) | dsimp only

end Sys2Proof.Machine
end

