-- ==== Sys2Proof/Laws/FrameRouteIf.lean ====
section
/-! SUPPORT. The frame of every operation of Machine/RouteIf.lean. -/

set_option linter.all false

namespace Sys2Proof.Machine

theorem State.adaptDfe_frame (s : State) (r l : Nat) : Frame 0x200008000 s (State.adaptDfe s r l) := by
  unfold State.adaptDfe
  iterate 80 all_goals try first
    | lift_lets
    | (intro x; refine Frame.cut (m := 0x200008000) (s := s) (t := x) ?_ fun _ => ?_; (on_goal 1 => subst x); (on_goal 2 => clear_value x))
    | (intro x; clear_value x)
    | with_reducible first
        | apply Frame.refl | assumption | apply Frame.after (State.draw_frame ..)
        | (apply Frame.of_pair (State.draw_frame ..); (on_goal 1 => assumption)) | apply Frame.step (State.setF_frame ..)
    | exact rfl | (fail_if_no_progress simp; exact rfl) | split | dsimp only

theorem State.ceCmd_frame (s : State) (r : Nat) (cmd : Nat) (addrs : List Nat) (data : Bytes) :
    Frame 0x10000 s (State.ceCmd s r cmd addrs data) := by
  unfold State.ceCmd
  iterate 80 all_goals try first
    | lift_lets
    | (intro x; refine Frame.cut (m := 0x10000) (s := u) (t := x) ?_ fun _ => ?_; (on_goal 1 => subst x); (on_goal 2 => clear_value x))
    | (intro x; refine Frame.cut (m := 0x10000) (s := s) (t := x) ?_ fun _ => ?_; (on_goal 1 => subst x); (on_goal 2 => clear_value x))
    | (intro x; clear_value x)
    | with_reducible first
        | apply Frame.ite | apply Frame.refl | assumption | apply Frame.foldl (k := fun u _ => ?_)
        | apply Frame.after (State.cmd_frame ..) | apply Frame.after (State.emit_frame ..)
    | exact rfl | (fail_if_no_progress simp; exact rfl) | split | dsimp only

theorem State.trainOut_frame (s : State) (r step : Nat) : Frame 0x10000 s (State.trainOut s r step) := by
  unfold State.trainOut
  iterate 80 all_goals try first
    | with_reducible first
        | apply Frame.refl | assumption | apply Frame.foldl (k := fun u _ => ?_) | apply Frame.after (State.emit_frame ..)
    | exact rfl | (fail_if_no_progress simp; exact rfl) | dsimp only

theorem State.dieMask_frame (s : State) (r : Nat) : Frame 0x800000000 s (State.dieMask s r) := by
  unfold State.dieMask
  iterate 80 all_goals try first
    | lift_lets
    | (intro x; refine Frame.cut (m := 0x800000000) (s := u) (t := x) ?_ fun _ => ?_; (on_goal 1 => subst x); (on_goal 2 => clear_value x))
    | (intro x; refine Frame.cut (m := 0x800000000) (s := s) (t := x) ?_ fun _ => ?_; (on_goal 1 => subst x); (on_goal 2 => clear_value x))
    | (intro x; clear_value x)
    | with_reducible first
        | apply Frame.ite | apply Frame.refl | assumption | apply Frame.foldl (k := fun u _ => ?_)
        | apply Frame.step (State.setR_frame ..)
    | exact rfl | (fail_if_no_progress simp; exact rfl) | split | dsimp only

theorem State.dieDown_frame (s : State) (k : Nat) : Frame 0x59fe1dffdb s (State.dieDown s k) := by
  unfold State.dieDown
  iterate 80 all_goals try first
    | lift_lets
    | (intro x; refine Frame.cut (m := 0x59fe1dffdb) (s := s) (t := x) ?_ fun _ => ?_; (on_goal 1 => subst x); (on_goal 2 => clear_value x))
    | (intro x; clear_value x)
    | with_reducible first
        | apply Frame.ite | apply Frame.refl | assumption | apply Frame.after (State.addIncomplete_frame ..)
        | apply Frame.after (State.dieDrop_frame ..) | apply Frame.after (State.ledgerLost_frame ..)
        | apply Frame.after (State.setDieSt_frame ..)
    | exact rfl | (fail_if_no_progress simp; exact rfl) | split | dsimp only

theorem State.drainsDone_frame (s : State) : Frame 0x401d001a s (State.drainsDone s) := by
  unfold State.drainsDone
  iterate 80 all_goals try first
    | with_reducible first
        | apply Frame.ite | apply Frame.refl | assumption | apply Frame.after (State.seamStart_frame ..)
    | exact rfl | (fail_if_no_progress simp; exact rfl) | split | dsimp only

theorem State.recalDrop_frame (s : State) (r : Nat) : Frame 0x200000000 s (State.recalDrop s r) := by
  unfold State.recalDrop
  iterate 80 all_goals try first
    | lift_lets
    | (intro x; refine Frame.cut (m := 0x200000000) (s := s) (t := x) ?_ fun _ => ?_; (on_goal 1 => subst x); (on_goal 2 => clear_value x))
    | (intro x; clear_value x)
    | with_reducible first
        | apply Frame.ite | apply Frame.refl | assumption | apply Frame.step (State.setF_frame ..)
    | exact rfl | (fail_if_no_progress simp; exact rfl) | split | dsimp only

theorem State.reimageFailed_frame (s : State) (r : Nat) (x : Route) : Frame 0x800000088 s (State.reimageFailed s r x) := by
  unfold State.reimageFailed
  iterate 80 all_goals try first
    | lift_lets
    | (intro x; refine Frame.cut (m := 0x800000088) (s := s) (t := x) ?_ fun _ => ?_; (on_goal 1 => subst x); (on_goal 2 => clear_value x))
    | (intro x; clear_value x)
    | with_reducible first
        | apply Frame.refl | assumption | apply Frame.after (State.dieMask_frame ..)
        | apply Frame.after (State.finish_frame ..) | ((conv => arg 3; arg 20); apply Frame.step (State.mk_frame ..))
    | exact rfl | exact Or.inl rfl | exact Or.inr rfl | (fail_if_no_progress simp; exact rfl) | split | dsimp only

theorem State.trainEnded_frame (s : State) (r : Nat) : Frame 0x100 s (State.trainEnded s r) := by
  unfold State.trainEnded
  iterate 80 all_goals try first
    | (intro x; clear_value x)
    | with_reducible first
        | apply Frame.ite | apply Frame.refl | assumption | ((conv => arg 3; arg 20); apply Frame.step (State.mk_frame ..))
    | exact rfl | exact Or.inl rfl | exact Or.inr rfl | split | dsimp only

theorem State.routeDown_frame (s : State) (r cause : Nat) : Frame 0x5bfe1dffdb s (State.routeDown s r cause) := by
  unfold State.routeDown
  iterate 80 all_goals try first
    | lift_lets
    | (intro x; refine Frame.cut (m := 0x5bfe1dffdb) (s := u) (t := x) ?_ fun _ => ?_; (on_goal 1 => subst x); (on_goal 2 => clear_value x))
    | (intro x; refine Frame.cut (m := 0x5bfe1dffdb) (s := s) (t := x) ?_ fun _ => ?_; (on_goal 1 => subst x); (on_goal 2 => clear_value x))
    | (intro x; clear_value x)
    | with_reducible first
        | apply Frame.ite | apply Frame.refl | assumption | apply Frame.foldl (k := fun u _ => ?_)
        | apply Frame.after (State.dieDown_frame ..) | apply Frame.after (State.dieRanges_frame ..)
        | apply Frame.after (State.drainsDone_frame ..) | apply Frame.after (State.emit_frame ..)
        | apply Frame.after (State.guardUpdate_frame ..) | apply Frame.step (State.raiseAll_frame ..)
        | apply Frame.after (State.recalDrop_frame ..) | apply Frame.after (State.reimageFailed_frame ..)
        | apply Frame.step (State.setF_frame ..) | apply Frame.after (State.setRoute_frame ..)
        | apply Frame.after (State.trainEnded_frame ..) | ((conv => arg 3; arg 20); apply Frame.step (State.mk_frame ..))
    | exact rfl | exact Or.inl rfl | exact Or.inr rfl | (fail_if_no_progress simp; exact rfl)
    | (intro f hf; fin_cases hf <;> exact rfl)
    | (intro f hf; simp only [List.cons_append, List.nil_append, List.mem_cons, List.not_mem_nil, or_false] at hf; (first | (rcases hf with rfl | rfl <;> (first | exact rfl | (simp; exact rfl))) | (subst hf; (first | exact rfl | (simp; exact rfl)))))
    | split | dsimp only

theorem State.trainTo_frame (s : State) (r n : Nat) : Frame 0x200010100 s (State.trainTo s r n) := by
  unfold State.trainTo
  iterate 80 all_goals try first
    | lift_lets
    | (intro x; refine Frame.cut (m := 0x200010100) (s := s) (t := x) ?_ fun _ => ?_; (on_goal 1 => subst x); (on_goal 2 => clear_value x))
    | (intro x; clear_value x)
    | with_reducible first
        | apply Frame.ite | apply Frame.refl | assumption | apply Frame.after (State.reliefSelect_frame ..)
        | apply Frame.after (State.setRoute_frame ..) | apply Frame.after (State.trainOut_frame ..)
        | ((conv => arg 3; arg 20); apply Frame.step (State.mk_frame ..))
    | exact rfl | exact Or.inl rfl | exact Or.inr rfl | (fail_if_no_progress simp; exact rfl) | split | dsimp only

theorem State.retrainStart_frame (s : State) (r : Nat) : Frame 0x200010100 s (State.retrainStart s r) := by
  unfold State.retrainStart
  iterate 80 all_goals try first
    | lift_lets
    | (intro x; refine Frame.cut (m := 0x200010100) (s := s) (t := x) ?_ fun _ => ?_; (on_goal 1 => subst x); (on_goal 2 => clear_value x))
    | (intro x; clear_value x)
    | with_reducible first
        | apply Frame.refl | assumption | apply Frame.step (State.setF_frame ..)
        | apply Frame.after (State.setRoute_frame ..) | apply Frame.after (State.trainTo_frame ..)
        | ((conv => arg 3; arg 20); apply Frame.step (State.mk_frame ..))
    | exact rfl | exact Or.inl rfl | exact Or.inr rfl | (fail_if_no_progress simp; exact rfl) | dsimp only

theorem execRouteDrainEnd_frame (r : Nat) (s : State) : Frames 0x5bfe1dffdb s (execRouteDrainEnd r s) := by
  unfold execRouteDrainEnd
  iterate 80 all_goals try first
    | lift_lets
    | (intro x; refine Frame.cut (m := 0x5bfe1dffdb) (s := s) (t := x) ?_ fun _ => ?_; (on_goal 1 => subst x); (on_goal 2 => clear_value x))
    | (intro x; clear_value x)
    | with_reducible first
        | apply Frames.next | apply Frames.ite | apply Frame.ite | apply Frame.refl | assumption
        | apply Frame.after (State.drainsDone_frame ..) | apply Frame.after (State.retrainStart_frame ..)
        | apply Frame.after (State.routeDown_frame ..) | apply Frame.after (State.setRoute_frame ..)
        | ((conv => arg 3; arg 20); apply Frame.step (State.mk_frame ..))
    | exact rfl | exact Or.inl rfl | exact Or.inr rfl | (fail_if_no_progress simp; exact rfl) | split | dsimp only

theorem execDrainLimitExpiry_frame (r : Nat) (s : State) : Frames 0x5bfe1dffdb s (execDrainLimitExpiry r s) := by
  unfold execDrainLimitExpiry
  iterate 80 all_goals try first
    | lift_lets
    | (intro x; refine Frame.cut (m := 0x5bfe1dffdb) (s := s) (t := x) ?_ fun _ => ?_; (on_goal 1 => subst x); (on_goal 2 => clear_value x))
    | (intro x; clear_value x)
    | with_reducible first
        | apply Frames.next | apply Frames.ite | apply Frame.ite | apply Frame.refl | assumption
        | apply Frame.after (State.drainRelease_frame ..) | apply Frame.after (State.imgState_frame ..)
        | apply Frame.after (State.routeDown_frame ..)
    | exact rfl | (fail_if_no_progress simp; exact rfl) | split | dsimp only

theorem State.downReq_frame (s : State) (r : Nat) : Frame 0x4340150112 s (State.downReq s r) := by
  unfold State.downReq
  iterate 80 all_goals try first
    | lift_lets
    | (intro x; refine Frame.cut (m := 0x4340150112) (s := s) (t := x) ?_ fun _ => ?_; (on_goal 1 => subst x); (on_goal 2 => clear_value x))
    | (intro x; clear_value x)
    | with_reducible first
        | apply Frame.ite | apply Frame.refl | assumption | apply Frame.after (State.guardUpdate_frame ..)
        | apply Frame.after (State.refuse_frame ..) | apply Frame.step (State.setF_frame ..)
        | apply Frame.after (State.setRoute_frame ..) | ((conv => arg 3; arg 20); apply Frame.step (State.mk_frame ..))
    | exact rfl | exact Or.inl rfl | exact Or.inr rfl | (fail_if_no_progress simp; exact rfl) | split | dsimp only

theorem execVccqFault_frame (r : Nat) (s : State) : Frames 0x5bfe1dffdb s (execVccqFault r s) := by
  unfold execVccqFault
  iterate 80 all_goals try first
    | with_reducible first
        | apply Frames.next | apply Frames.ite | apply Frame.ite | apply Frame.refl | assumption
        | apply Frame.after (State.routeDown_frame ..)
    | exact rfl | (fail_if_no_progress simp; exact rfl) | split | dsimp only

theorem execSafeToRemove_frame (r : Nat) (s : State) : Frames 0x200000000 s (execSafeToRemove r s) := by
  unfold execSafeToRemove
  iterate 80 all_goals try first
    | with_reducible first
        | apply Frames.next | apply Frames.ite | apply Frame.ite | apply Frame.refl | assumption
        | apply Frame.step (State.setF_frame ..)
    | exact rfl | (fail_if_no_progress simp; exact rfl) | split | dsimp only

theorem State.retireLane_frame (s : State) (r k : Nat) : Frame 0x240150012 s (State.retireLane s r k) := by
  unfold State.retireLane
  iterate 80 all_goals try first
    | lift_lets
    | (intro x; refine Frame.cut (m := 0x240150012) (s := s) (t := x) ?_ fun _ => ?_; (on_goal 1 => subst x); (on_goal 2 => clear_value x))
    | (intro x; clear_value x)
    | with_reducible first
        | apply Frame.refl | assumption | apply Frame.step (State.raise_frame ..)
        | apply Frame.after (State.reliefSelect_frame ..) | apply Frame.step (State.setF_frame ..)
    | exact rfl | (fail_if_no_progress simp; exact rfl) | dsimp only

theorem State.laneFailed_frame (s : State) (r k : Nat) : Frame 0x5bfe1dffdb s (State.laneFailed s r k) := by
  unfold State.laneFailed
  iterate 80 all_goals try first
    | with_reducible first
        | apply Frame.ite | apply Frame.refl | assumption | apply Frame.after (State.retireLane_frame ..)
        | apply Frame.after (State.routeDown_frame ..)
    | exact rfl | (fail_if_no_progress simp; exact rfl) | split | dsimp only

theorem State.dqxFailed_frame (s : State) (r : Nat) : Frame 0x240150012 s (State.dqxFailed s r) := by
  unfold State.dqxFailed
  iterate 80 all_goals try first
    | with_reducible first
        | apply Frame.refl | assumption | apply Frame.step (State.raise_frame ..) | apply Frame.step (State.setF_frame ..)
    | exact rfl | (fail_if_no_progress simp; exact rfl) | dsimp only

theorem State.recalEnd_frame (s : State) (r : Nat) : Frame 0x200000100 s (State.recalEnd s r) := by
  unfold State.recalEnd
  iterate 80 all_goals try first
    | lift_lets
    | (intro x; refine Frame.cut (m := 0x200000100) (s := s) (t := x) ?_ fun _ => ?_; (on_goal 1 => subst x); (on_goal 2 => clear_value x))
    | (intro x; clear_value x)
    | with_reducible first
        | apply Frame.ite | apply Frame.refl | assumption | apply Frame.step (State.setF_frame ..)
        | apply Frame.after (State.setRoute_frame ..) | ((conv => arg 3; arg 20); apply Frame.step (State.mk_frame ..))
    | exact rfl | exact Or.inl rfl | exact Or.inr rfl | (fail_if_no_progress simp; exact rfl) | split | dsimp only

theorem State.recalLane_frame (s : State) (r k : Nat) : Frame 0x200010100 s (State.recalLane s r k) := by
  unfold State.recalLane
  iterate 80 all_goals try first
    | (intro x; clear_value x)
    | with_reducible first
        | apply Frame.refl | assumption | apply Frame.after (State.recalEnd_frame ..)
        | apply Frame.after (State.reliefGo_frame ..) | apply Frame.step (State.setF_frame ..)
        | apply Frame.after (State.setRoute_frame ..) | ((conv => arg 3; arg 20); apply Frame.step (State.mk_frame ..))
    | exact rfl | exact Or.inl rfl | exact Or.inr rfl | (fail_if_no_progress simp; exact rfl) | split | dsimp only

theorem State.recalStart_frame (s : State) (r : Nat) : Frame 0x200010100 s (State.recalStart s r) := by
  unfold State.recalStart
  iterate 80 all_goals try first
    | lift_lets
    | (intro x; refine Frame.cut (m := 0x200010100) (s := s) (t := x) ?_ fun _ => ?_; (on_goal 1 => subst x); (on_goal 2 => clear_value x))
    | (intro x; clear_value x)
    | with_reducible first
        | apply Frame.ite | apply Frame.refl | assumption | apply Frame.after (State.recalLane_frame ..)
        | apply Frame.step (State.setF_frame ..) | apply Frame.after (State.setRoute_frame ..)
        | ((conv => arg 3; arg 20); apply Frame.step (State.mk_frame ..))
    | exact rfl | exact Or.inl rfl | exact Or.inr rfl | (fail_if_no_progress simp; exact rfl) | split | dsimp only

theorem State.recalResume_frame (s : State) (r : Nat) : Frame 0x200010100 s (State.recalResume s r) := by
  unfold State.recalResume
  iterate 80 all_goals try first
    | lift_lets
    | (intro x; refine Frame.cut (m := 0x200010100) (s := s) (t := x) ?_ fun _ => ?_; (on_goal 1 => subst x); (on_goal 2 => clear_value x))
    | (intro x; clear_value x)
    | with_reducible first
        | apply Frame.ite | apply Frame.refl | assumption | apply Frame.after (State.recalLane_frame ..)
        | apply Frame.after (State.reliefGo_frame ..) | apply Frame.after (State.reliefSelect_frame ..)
        | apply Frame.step (State.setF_frame ..) | apply Frame.after (State.setRoute_frame ..)
        | ((conv => arg 3; arg 20); apply Frame.step (State.mk_frame ..))
    | exact rfl | exact Or.inl rfl | exact Or.inr rfl | (fail_if_no_progress simp; exact rfl) | split | dsimp only

theorem State.recalNow_frame (s : State) (r : Nat) : Frame 0x200010100 s (State.recalNow s r) := by
  unfold State.recalNow
  iterate 80 all_goals try first
    | with_reducible first
        | apply Frame.refl | assumption | apply Frame.after (State.recalStart_frame ..)
        | apply Frame.step (State.setF_frame ..)
    | exact rfl | (fail_if_no_progress simp; exact rfl) | dsimp only

theorem execRecalPeriodExpiry_frame (r : Nat) (s : State) : Frames 0x200010100 s (execRecalPeriodExpiry r s) := by
  unfold execRecalPeriodExpiry
  iterate 80 all_goals try first
    | with_reducible first
        | apply Frames.next | apply Frames.ite | apply Frame.ite | apply Frame.refl | assumption
        | apply Frame.after (State.recalStart_frame ..)
    | exact rfl | (fail_if_no_progress simp; exact rfl) | split | dsimp only

theorem State.recalTemp_frame (s : State) : Frame 0x200010100 s (State.recalTemp s) := by
  unfold State.recalTemp
  iterate 80 all_goals try first
    | lift_lets
    | (intro x; refine Frame.cut (m := 0x200010100) (s := u) (t := x) ?_ fun _ => ?_; (on_goal 1 => subst x); (on_goal 2 => clear_value x))
    | (intro x; refine Frame.cut (m := 0x200010100) (s := s) (t := x) ?_ fun _ => ?_; (on_goal 1 => subst x); (on_goal 2 => clear_value x))
    | (intro x; clear_value x)
    | with_reducible first
        | apply Frame.ite | apply Frame.refl | assumption | apply Frame.foldl (k := fun u _ => ?_)
        | apply Frame.after (State.recalStart_frame ..)
    | exact rfl | (fail_if_no_progress simp; exact rfl) | split | dsimp only

theorem State.trainGo_frame (s : State) (r : Nat) : Frame 0x4b00010188 s (State.trainGo s r) := by
  unfold State.trainGo
  iterate 80 all_goals try first
    | lift_lets
    | (intro x; refine Frame.cut (m := 0x4b00010188) (s := u) (t := x) ?_ fun _ => ?_; (on_goal 1 => subst x); (on_goal 2 => clear_value x))
    | (intro x; refine Frame.cut (m := 0x4b00010188) (s := s) (t := x) ?_ fun _ => ?_; (on_goal 1 => subst x); (on_goal 2 => clear_value x))
    | (intro x; clear_value x)
    | with_reducible first
        | apply Frame.ite | apply Frame.refl | assumption | apply Frame.foldl (k := fun u _ => ?_)
        | apply Frame.after (State.emit_frame ..) | apply Frame.after (State.reimageFailed_frame ..)
        | apply Frame.step (State.setF_frame ..) | apply Frame.after (State.setRoute_frame ..)
        | apply Frame.after (State.trainEnded_frame ..) | ((conv => arg 3; arg 20); apply Frame.step (State.mk_frame ..))
    | exact rfl | exact Or.inl rfl | exact Or.inr rfl | (fail_if_no_progress simp; exact rfl) | split | dsimp only

theorem State.trainReset_frame (s : State) (r : Nat) : Frame 0x10000 s (State.trainReset s r) := by
  unfold State.trainReset
  iterate 80 all_goals try first
    | with_reducible first
        | apply Frame.refl | assumption | apply Frame.foldl (k := fun u _ => ?_) | apply Frame.after (State.emit_frame ..)
    | exact rfl | (fail_if_no_progress simp; exact rfl) | dsimp only

theorem State.paramPages_frame (s : State) (r : Nat) (data : List Bytes) :
    Frame 0x59fe1dffdb s (State.paramPages s r data) := by
  unfold State.paramPages
  iterate 80 all_goals try first
    | lift_lets
    | (intro x; refine Frame.cut (m := 0x59fe1dffdb) (s := u) (t := x) ?_ fun _ => ?_; (on_goal 1 => subst x); (on_goal 2 => clear_value x))
    | (intro x; refine Frame.cut (m := 0x59fe1dffdb) (s := s) (t := x) ?_ fun _ => ?_; (on_goal 1 => subst x); (on_goal 2 => clear_value x))
    | (intro x; clear_value x)
    | with_reducible first
        | apply Frame.ite | apply Frame.refl | assumption | apply Frame.foldl (k := fun u _ => ?_)
        | apply Frame.after (State.dieFault_frame ..) | apply Frame.after (State.emit_frame ..)
        | apply Frame.step (State.raise_frame ..) | apply Frame.after (State.setDie_frame ..)
        | apply Frame.step (State.setF_frame ..) | apply Frame.step (State.setR_frame ..)
    | exact rfl | (fail_if_no_progress simp; exact rfl) | split | dsimp only

theorem State.selectRate_frame (s : State) (r : Nat) : Frame 0x200010000 s (State.selectRate s r) := by
  unfold State.selectRate
  iterate 80 all_goals try first
    | lift_lets
    | (intro x; refine Frame.cut (m := 0x200010000) (s := s) (t := x) ?_ fun _ => ?_; (on_goal 1 => subst x); (on_goal 2 => clear_value x))
    | (intro x; clear_value x)
    | with_reducible first
        | apply Frame.refl | assumption | apply Frame.after (State.ceCmd_frame ..) | apply Frame.step (State.setF_frame ..)
    | exact rfl | (fail_if_no_progress simp; exact rfl) | dsimp only

theorem State.readTraining_frame (s : State) (r : Nat) (data : List Bytes) :
    Frame 0x5bfe1dffdb s (State.readTraining s r data) := by
  unfold State.readTraining
  iterate 80 all_goals try first
    | lift_lets
    | (intro x; refine Frame.cut (m := 0x5bfe1dffdb) (s := u) (t := x) ?_ fun _ => ?_; (on_goal 1 => subst x); (on_goal 2 => clear_value x))
    | (intro x; refine Frame.cut (m := 0x5bfe1dffdb) (s := s) (t := x) ?_ fun _ => ?_; (on_goal 1 => subst x); (on_goal 2 => clear_value x))
    | (intro x; clear_value x)
    | with_reducible first
        | apply Frame.ite | apply Frame.refl | assumption | apply Frame.foldl (k := fun u _ => ?_)
        | apply Frame.after (State.dqxFailed_frame ..) | apply Frame.after (State.laneFailed_frame ..)
        | apply Frame.after (State.reliefSelect_frame ..) | apply Frame.step (State.setF_frame ..)
    | exact rfl | (fail_if_no_progress simp; exact rfl) | split | dsimp only

theorem State.writeTraining_frame (s : State) (r : Nat) (data : List Bytes) :
    Frame 0x200000000 s (State.writeTraining s r data) := by
  unfold State.writeTraining
  iterate 80 all_goals try first
    | with_reducible first
        | apply Frame.refl | assumption | apply Frame.foldl (k := fun u _ => ?_) | apply Frame.step (State.setF_frame ..)
    | exact rfl | (fail_if_no_progress simp; exact rfl) | dsimp only

theorem State.xrateRefused_frame (s : State) (r : Nat) : Frame 0x240150012 s (State.xrateRefused s r) := by
  unfold State.xrateRefused
  iterate 80 all_goals try first
    | with_reducible first
        | apply Frame.refl | assumption | apply Frame.step (State.raise_frame ..) | apply Frame.step (State.setF_frame ..)
    | exact rfl | (fail_if_no_progress simp; exact rfl) | dsimp only

theorem State.extendedRate_frame (s : State) (r : Nat) (data : List Bytes) :
    Frame 0x240158112 s (State.extendedRate s r data) := by
  unfold State.extendedRate
  iterate 80 all_goals try first
    | lift_lets
    | (intro x; refine Frame.cut (m := 0x240158112) (s := u) (t := x) ?_ fun _ => ?_; (on_goal 1 => subst x); (on_goal 2 => clear_value x))
    | (intro x; refine Frame.cut (m := 0x240158112) (s := s) (t := x) ?_ fun _ => ?_; (on_goal 1 => subst x); (on_goal 2 => clear_value x))
    | (intro x; clear_value x)
    | with_reducible first
        | apply Frame.ite | apply Frame.refl | assumption | apply Frame.foldl (k := fun u _ => ?_)
        | apply Frame.after (State.adaptDfe_frame ..) | apply Frame.after (State.ceCmd_frame ..)
        | apply Frame.step (State.setF_frame ..) | apply Frame.after (State.trainTo_frame ..)
        | apply Frame.after (State.xrateRefused_frame ..)
    | exact rfl | (fail_if_no_progress simp; exact rfl) | split | dsimp only

theorem State.firstTemp_frame (s : State) (k : Nat) : Frame 0x140150112 s (State.firstTemp s k) := by
  unfold State.firstTemp
  iterate 80 all_goals try first
    | (intro x; clear_value x)
    | with_reducible first
        | apply Frame.ite | apply Frame.refl | assumption | apply Frame.after (State.setDie_frame ..)
        | apply Frame.after (State.takeTemp_frame ..) | ((conv => arg 3; arg 20); apply Frame.step (State.mk_frame ..))
    | exact rfl | exact Or.inl rfl | exact Or.inr rfl | (fail_if_no_progress simp; exact rfl) | split | dsimp only

theorem State.trainUp_frame (s : State) (r : Nat) : Frame 0x4b44150112 s (State.trainUp s r) := by
  unfold State.trainUp
  iterate 80 all_goals try first
    | lift_lets
    | (intro x; refine Frame.cut (m := 0x4b44150112) (s := u) (t := x) ?_ fun _ => ?_; (on_goal 1 => subst x); (on_goal 2 => clear_value x))
    | (intro x; refine Frame.cut (m := 0x4b44150112) (s := s) (t := x) ?_ fun _ => ?_; (on_goal 1 => subst x); (on_goal 2 => clear_value x))
    | (intro x; clear_value x)
    | with_reducible first
        | apply Frame.ite | apply Frame.refl | assumption | apply Frame.foldl (k := fun u _ => ?_)
        | apply Frame.after (State.firstTemp_frame ..) | apply Frame.after (State.guardUpdate_frame ..)
        | apply Frame.after (State.recalResume_frame ..) | apply Frame.after (State.recalStart_frame ..)
        | apply Frame.step (State.setBit_frame ..) | apply Frame.after (State.setDieSt_frame ..)
        | apply Frame.step (State.setF_frame ..) | apply Frame.step (State.setR_frame ..)
        | apply Frame.after (State.setRoute_frame ..) | ((conv => arg 3; arg 20); apply Frame.step (State.mk_frame ..))
    | exact rfl | exact Or.inl rfl | exact Or.inr rfl | (rw [regGroup_bits _ _ (by decide) (by decide)]; exact rfl)
    | (fail_if_no_progress simp; exact rfl) | split | dsimp only

theorem State.dqxTakes_frame (s : State) (r k : Nat) (data : List Bytes) :
    Frame 0x200000000 s (State.dqxTakes s r k data) := by
  unfold State.dqxTakes
  iterate 80 all_goals try first
    | lift_lets
    | (intro x; refine Frame.cut (m := 0x200000000) (s := u) (t := x) ?_ fun _ => ?_; (on_goal 1 => subst x); (on_goal 2 => clear_value x))
    | (intro x; refine Frame.cut (m := 0x200000000) (s := s) (t := x) ?_ fun _ => ?_; (on_goal 1 => subst x); (on_goal 2 => clear_value x))
    | (intro x; clear_value x)
    | with_reducible first
        | apply Frame.refl | assumption | apply Frame.foldl (k := fun u _ => ?_) | apply Frame.step (State.setF_frame ..)
    | exact rfl | (fail_if_no_progress simp; exact rfl) | dsimp only

theorem State.verify_frame (s : State) (r : Nat) (ok : Bool) (data : List Bytes) :
    Frame 0x5bfe1dffdb s (State.verify s r ok data) := by
  unfold State.verify
  iterate 80 all_goals try first
    | lift_lets
    | (intro x; refine Frame.cut (m := 0x5bfe1dffdb) (s := u) (t := x) ?_ fun _ => ?_; (on_goal 1 => subst x); (on_goal 2 => clear_value x))
    | (intro x; refine Frame.cut (m := 0x5bfe1dffdb) (s := s) (t := x) ?_ fun _ => ?_; (on_goal 1 => subst x); (on_goal 2 => clear_value x))
    | (intro x; clear_value x)
    | with_reducible first
        | apply Frame.ite | apply Frame.refl | assumption | apply Frame.foldl (k := fun u _ => ?_)
        | apply Frame.after (State.dqxTakes_frame ..) | apply Frame.after (State.laneFailed_frame ..)
        | apply Frame.after (State.routeDown_frame ..) | apply Frame.step (State.setF_frame ..)
        | apply Frame.after (State.trainTo_frame ..) | apply Frame.after (State.trainUp_frame ..)
        | apply Frame.after (State.xrateRefused_frame ..)
    | exact rfl | (fail_if_no_progress simp; exact rfl) | split | dsimp only

theorem State.recLog_frame (s : State) (found : List (Nat × Nat)) : Frame 0x4000000 s (State.recLog s found) := by
  unfold State.recLog
  iterate 80 all_goals try first
    | lift_lets
    | (intro x; refine Frame.cut (m := 0x4000000) (s := u) (t := x) ?_ fun _ => ?_; (on_goal 1 => subst x); (on_goal 2 => clear_value x))
    | (intro x; refine Frame.cut (m := 0x4000000) (s := s) (t := x) ?_ fun _ => ?_; (on_goal 1 => subst x); (on_goal 2 => clear_value x))
    | (intro x; clear_value x)
    | with_reducible first
        | apply Frame.ite | apply Frame.refl | assumption | apply Frame.foldl (k := fun u _ => ?_)
        | apply Frame.step (State.setR_frame ..)
    | exact rfl | (fail_if_no_progress simp; exact rfl) | split | dsimp only

theorem State.roomForRange_frame (s : State) : Frame 0x42150812 s (State.roomForRange s) := by
  unfold State.roomForRange
  iterate 80 all_goals try first
    | with_reducible first
        | apply Frame.ite | apply Frame.refl | assumption | apply Frame.after (State.rangeWalkEnd_frame ..)
    | exact rfl | (fail_if_no_progress simp; exact rfl) | split | dsimp only

theorem State.eraseLost_frame (s : State) (k b : Nat) : Frame 0x842152912 s (State.eraseLost s k b) := by
  unfold State.eraseLost
  iterate 80 all_goals try first
    | lift_lets
    | (intro x; refine Frame.cut (m := 0x842152912) (s := s) (t := x) ?_ fun _ => ?_; (on_goal 1 => subst x); (on_goal 2 => clear_value x))
    | (intro x; clear_value x)
    | with_reducible first
        | apply Frame.refl | assumption | apply Frame.step (State.bump_frame ..) | apply Frame.after (State.cmd_frame ..)
        | apply Frame.after (State.eraseRange_frame ..) | apply Frame.after (State.roomForRange_frame ..)
    | exact rfl | (fail_if_no_progress simp; exact rfl) | dsimp only

theorem State.scanLost_frame (s : State) (k : Nat) (data : List Bytes) (log : Bool) :
    Frame 0x846152912 s (State.scanLost s k data log) := by
  unfold State.scanLost
  iterate 80 all_goals try first
    | lift_lets
    | (intro x; refine Frame.cut (m := 0x846152912) (s := u) (t := x) ?_ fun _ => ?_; (on_goal 1 => subst x); (on_goal 2 => clear_value x))
    | (intro x; refine Frame.cut (m := 0x846152912) (s := s) (t := x) ?_ fun _ => ?_; (on_goal 1 => subst x); (on_goal 2 => clear_value x))
    | (intro x; clear_value x)
    | with_reducible first
        | apply Frame.ite | apply Frame.refl | assumption | apply Frame.foldl (k := fun u _ => ?_)
        | apply Frame.after (State.addIncomplete_frame ..) | apply Frame.after (State.eraseLost_frame ..)
        | apply Frame.step (State.raise_frame ..) | apply Frame.after (State.recLog_frame ..)
        | apply Frame.step (State.satF_frame ..) | apply Frame.after (State.scanReads_frame ..)
        | apply Frame.after (State.setDie_frame ..) | apply Frame.step (State.setF_frame ..)
        | ((conv => arg 3; arg 20); apply Frame.step (State.mk_frame ..))
    | exact rfl | exact Or.inl rfl | exact Or.inr rfl | (fail_if_no_progress simp; exact rfl) | split | dsimp only

theorem State.scanFound_frame (s : State) (k : Nat) (found : Option (Nat × Bytes × Nat)) (log : Bool) :
    Frame 0x44150112 s (State.scanFound s k found log) := by
  unfold State.scanFound
  iterate 80 all_goals try first
    | lift_lets
    | (intro x; refine Frame.cut (m := 0x44150112) (s := s) (t := x) ?_ fun _ => ?_; (on_goal 1 => subst x); (on_goal 2 => clear_value x))
    | (intro x; clear_value x)
    | with_reducible first
        | apply Frame.ite | apply Frame.refl | assumption | apply Frame.after (State.addIncomplete_frame ..)
        | apply Frame.step (State.raise_frame ..) | apply Frame.after (State.recLog_frame ..)
        | apply Frame.step (State.satF_frame ..) | apply Frame.after (State.setDie_frame ..)
        | ((conv => arg 3; arg 20); apply Frame.step (State.mk_frame ..))
    | exact rfl | exact Or.inl rfl | exact Or.inr rfl | (fail_if_no_progress simp; exact rfl) | split | dsimp only

theorem State.scanDie_frame (s : State) (k : Nat) (data : List Bytes) (log : Bool) :
    Frame 0x846152912 s (State.scanDie s k data log) := by
  unfold State.scanDie
  iterate 80 all_goals try first
    | lift_lets
    | (intro x; refine Frame.cut (m := 0x846152912) (s := s) (t := x) ?_ fun _ => ?_; (on_goal 1 => subst x); (on_goal 2 => clear_value x))
    | (intro x; clear_value x)
    | with_reducible first
        | apply Frame.ite | apply Frame.refl | assumption | apply Frame.after (State.scanFound_frame ..)
        | apply Frame.after (State.scanLost_frame ..) | apply Frame.after (State.scanReads_frame ..)
    | exact rfl | (fail_if_no_progress simp; exact rfl) | split | dsimp only

theorem State.scanRoute_frame (s : State) (r : Nat) (data : List Bytes) (log : Bool) :
    Frame 0x846152912 s (State.scanRoute s r data log) := by
  unfold State.scanRoute
  iterate 80 all_goals try first
    | with_reducible first
        | apply Frame.refl | assumption | apply Frame.foldl (k := fun u _ => ?_) | apply Frame.after (State.scanDie_frame ..)
    | exact rfl | (fail_if_no_progress simp; exact rfl) | dsimp only

theorem State.driveStep_frame (s : State) (k : Nat) : Frame 0x808010100 s (State.driveStep s k) := by
  unfold State.driveStep
  iterate 80 all_goals try first
    | with_reducible first
        | apply Frame.refl | assumption | apply Frame.foldl (k := fun u _ => ?_) | apply Frame.after (State.busDo_frame ..)
        | apply Frame.after (State.want_frame ..)
    | exact rfl | (fail_if_no_progress simp; exact rfl) | split | dsimp only

theorem State.stepThrough_frame (s : State) (k : Nat) (o : DieOp) (n st : Nat) :
    Frame 0x59fe1dffdb s (State.stepThrough s k o n st) := by
  unfold State.stepThrough
  iterate 80 all_goals try first
    | lift_lets
    | (intro x; refine Frame.cut (m := 0x59fe1dffdb) (s := s) (t := x) ?_ fun _ => ?_; (on_goal 1 => subst x); (on_goal 2 => clear_value x))
    | (intro x; clear_value x)
    | with_reducible first
        | apply Frame.refl | assumption | apply Frame.after (State.driveStep_frame ..)
        | apply Frame.after (State.roomForRange_frame ..) | apply Frame.after (State.startStep_frame ..)
        | apply Frame.after (State.stepEnded_frame ..)
    | exact rfl | (fail_if_no_progress simp; exact rfl) | split | dsimp only

theorem State.runBracket_frame (n : Nat) (s : State) (k : Nat) (sts : Bytes) :
    Frame 0x59fe1dffdb s (State.runBracket n s k sts) := by
  induction n generalizing s sts with
  | zero => exact Frame.refl s
  | succ n ih =>
    unfold State.runBracket
    split
    · exact Frame.refl s
    split
    · exact ((State.stepThrough_frame ..).mono rfl).trans (ih _ _)
    · exact Frame.refl s

theorem State.recoverBlock_frame (s : State) (key : Nat) (sts : Bytes) : Frame 0x59fe1dffdb s (s.recoverBlock key sts) := by
  refine Frame.trans ?_ ((State.runBracket_frame ..).mono rfl)
  exact (((((State.roomForRange_frame ..).mono rfl).trans ((State.eraseRange_frame ..).mono rfl)).trans ((State.fresh_frame ..).mono rfl)).trans
    ((State.setDie_frame ..).mono rfl)).trans ((State.setDieSt_frame ..).mono rfl)

theorem State.recoverRoute_frame (s : State) (r : Nat) (data : List Bytes) :
    Frame 0x59fe1dffdb s (State.recoverRoute s r data) := by
  unfold State.recoverRoute
  iterate 80 all_goals try first
    | lift_lets
    | (intro x; refine Frame.cut (m := 0x59fe1dffdb) (s := u) (t := x) ?_ fun _ => ?_; (on_goal 1 => subst x); (on_goal 2 => clear_value x))
    | (intro x; refine Frame.cut (m := 0x59fe1dffdb) (s := s) (t := x) ?_ fun _ => ?_; (on_goal 1 => subst x); (on_goal 2 => clear_value x))
    | (intro x; clear_value x)
    | with_reducible first
        | apply Frame.ite | apply Frame.refl | assumption | apply Frame.foldl (k := fun u _ => ?_)
        | apply Frame.after (State.recoverBlock_frame ..) | ((conv => arg 3; arg 20); apply Frame.step (State.mk_frame ..))
    | exact rfl | exact Or.inl rfl | exact Or.inr rfl | (fail_if_no_progress simp; exact rfl) | split | dsimp only

theorem State.reimageDone_frame (s : State) (r id : Nat) : Frame 0x180 s (State.reimageDone s r id) := by
  unfold State.reimageDone
  iterate 80 all_goals try first
    | lift_lets
    | (intro x; refine Frame.cut (m := 0x180) (s := u) (t := x) ?_ fun _ => ?_; (on_goal 1 => subst x); (on_goal 2 => clear_value x))
    | (intro x; refine Frame.cut (m := 0x180) (s := s) (t := x) ?_ fun _ => ?_; (on_goal 1 => subst x); (on_goal 2 => clear_value x))
    | (intro x; clear_value x)
    | with_reducible first
        | apply Frame.refl | assumption | apply Frame.foldl (k := fun u _ => ?_) | apply Frame.after (State.finish_frame ..)
        | apply Frame.after (State.setRoute_frame ..) | ((conv => arg 3; arg 20); apply Frame.step (State.mk_frame ..))
    | exact rfl | exact Or.inl rfl | exact Or.inr rfl | (fail_if_no_progress simp; exact rfl) | dsimp only

theorem execTrainingStepDone_frame (r : Nat) (ok : Bool) (data : List Bytes) (s : State) :
    Frames 0x5bfe1dffdb s (execTrainingStepDone r ok data s) := by
  unfold execTrainingStepDone
  iterate 80 all_goals try first
    | lift_lets
    | (intro x; refine Frame.cut (m := 0x5bfe1dffdb) (s := s) (t := x) ?_ fun _ => ?_; (on_goal 1 => subst x); (on_goal 2 => clear_value x))
    | (intro x; clear_value x)
    | with_reducible first
        | apply Frames.next | apply Frames.ite | apply Frame.ite | apply Frame.refl | assumption
        | apply Frame.after (State.extendedRate_frame ..) | apply Frame.after (State.paramPages_frame ..)
        | apply Frame.after (State.readTraining_frame ..) | apply Frame.after (State.recoverRoute_frame ..)
        | apply Frame.after (State.reimageDone_frame ..) | apply Frame.after (State.routeDown_frame ..)
        | apply Frame.after (State.scanRoute_frame ..) | apply Frame.after (State.selectRate_frame ..)
        | apply Frame.step (State.setF_frame ..) | apply Frame.after (State.trainEnded_frame ..)
        | apply Frame.after (State.trainReset_frame ..) | apply Frame.after (State.trainTo_frame ..)
        | apply Frame.after (State.verify_frame ..) | apply Frame.after (State.writeTraining_frame ..)
    | exact rfl | (fail_if_no_progress simp; exact rfl) | split | dsimp only

theorem execVccqGoodTimeout_frame (r : Nat) (s : State) : Frames 0x5bfe1dffdb s (execVccqGoodTimeout r s) := by
  unfold execVccqGoodTimeout
  iterate 80 all_goals try first
    | with_reducible first
        | apply Frames.next | apply Frames.ite | apply Frame.ite | apply Frame.refl | assumption
        | apply Frame.after (State.routeDown_frame ..)
    | exact rfl | (fail_if_no_progress simp; exact rfl) | split | dsimp only

theorem State.clearTraining_frame (s : State) (r : Nat) : Frame 0x200000000 s (State.clearTraining s r) := by
  unfold State.clearTraining
  iterate 80 all_goals try first
    | lift_lets
    | (intro x; refine Frame.cut (m := 0x200000000) (s := u) (t := x) ?_ fun _ => ?_; (on_goal 1 => subst x); (on_goal 2 => clear_value x))
    | (intro x; refine Frame.cut (m := 0x200000000) (s := s) (t := x) ?_ fun _ => ?_; (on_goal 1 => subst x); (on_goal 2 => clear_value x))
    | (intro x; clear_value x)
    | with_reducible first
        | apply Frame.refl | assumption | apply Frame.foldl (k := fun u _ => ?_) | apply Frame.step (State.setF_frame ..)
        | apply Frame.step (State.setR_frame ..)
    | exact rfl | (fail_if_no_progress simp; exact rfl) | dsimp only

theorem State.tryImage_frame (s : State) (r : Nat) : Frame 0x108 s (State.tryImage s r) := by
  unfold State.tryImage
  iterate 80 all_goals try first
    | lift_lets
    | (intro x; refine Frame.cut (m := 0x108) (s := s) (t := x) ?_ fun _ => ?_; (on_goal 1 => subst x); (on_goal 2 => clear_value x))
    | (intro x; clear_value x)
    | with_reducible first
        | apply Frame.refl | assumption | apply Frame.after (State.setRoute_frame ..)
        | ((conv => arg 3; arg 20); apply Frame.step (State.mk_frame ..))
    | exact rfl | exact Or.inl rfl | exact Or.inr rfl | (fail_if_no_progress simp; exact rfl) | dsimp only

theorem State.unretire_frame (s : State) (r : Nat) : Frame 0x800000100 s (State.unretire s r) := by
  unfold State.unretire
  iterate 80 all_goals try first
    | lift_lets
    | (intro x; refine Frame.cut (m := 0x800000100) (s := u) (t := x) ?_ fun _ => ?_; (on_goal 1 => subst x); (on_goal 2 => clear_value x))
    | (intro x; refine Frame.cut (m := 0x800000100) (s := s) (t := x) ?_ fun _ => ?_; (on_goal 1 => subst x); (on_goal 2 => clear_value x))
    | (intro x; clear_value x)
    | with_reducible first
        | apply Frame.ite | apply Frame.refl | assumption | apply Frame.foldl (k := fun u _ => ?_)
        | apply Frame.after (State.setDie_frame ..) | apply Frame.step (State.setR_frame ..)
        | ((conv => arg 3; arg 20); apply Frame.step (State.mk_frame ..))
    | exact rfl | exact Or.inl rfl | exact Or.inr rfl | (fail_if_no_progress simp; exact rfl) | split | dsimp only

theorem execRouteReimage_frame (id : Nat) (s : State) : Frames 0xa00000188 s (execRouteReimage id s) := by
  unfold execRouteReimage
  iterate 80 all_goals try first
    | lift_lets
    | (intro x; refine Frame.cut (m := 0xa00000188) (s := s) (t := x) ?_ fun _ => ?_; (on_goal 1 => subst x); (on_goal 2 => clear_value x))
    | (intro x; clear_value x)
    | with_reducible first
        | apply Frames.next | apply Frames.ite | apply Frame.ite | apply Frame.refl | assumption
        | apply Frame.after (State.clearTraining_frame ..) | apply Frame.after (State.dieMask_frame ..)
        | apply Frame.after (State.finish_frame ..) | apply Frame.after (State.routeDown_frame ..)
        | apply Frame.after (State.setDesc_frame ..) | apply Frame.after (State.setRoute_frame ..)
        | apply Frame.after (State.tryImage_frame ..) | apply Frame.after (State.unretire_frame ..)
        | ((conv => arg 3; arg 20); apply Frame.step (State.mk_frame ..))
    | exact rfl | exact Or.inl rfl | exact Or.inr rfl | (fail_if_no_progress simp; exact rfl) | split | dsimp only

theorem State.phaseA_frame (s : State) (r k : Nat) (shift : Int) : Frame 0x200008000 s (State.phaseA s r k shift) := by
  unfold State.phaseA
  iterate 80 all_goals try first
    | lift_lets
    | (intro x; refine Frame.cut (m := 0x200008000) (s := u) (t := x) ?_ fun _ => ?_; (on_goal 1 => subst x); (on_goal 2 => clear_value x))
    | (intro x; refine Frame.cut (m := 0x200008000) (s := s) (t := x) ?_ fun _ => ?_; (on_goal 1 => subst x); (on_goal 2 => clear_value x))
    | (intro x; clear_value x)
    | with_reducible first
        | apply Frame.ite | apply Frame.refl | assumption | apply Frame.foldl (k := fun u _ => ?_)
        | apply Frame.after (State.adaptDfe_frame ..) | apply Frame.step (State.setF_frame ..)
    | exact rfl | (fail_if_no_progress simp; exact rfl) | split | dsimp only

theorem State.sweepFailed_frame (s : State) (r l : Nat) : Frame 0x240150012 s (State.sweepFailed s r l) := by
  unfold State.sweepFailed
  iterate 80 all_goals try first
    | with_reducible first
        | apply Frame.refl | assumption | apply Frame.step (State.raise_frame ..) | apply Frame.step (State.satF_frame ..)
    | exact rfl | (fail_if_no_progress simp; exact rfl) | dsimp only

theorem State.laneMoves_frame (s : State) (r k : Nat) (shift : Int) : Frame 0x200008000 s (State.laneMoves s r k shift) := by
  unfold State.laneMoves
  iterate 80 all_goals try first
    | lift_lets
    | (intro x; refine Frame.cut (m := 0x200008000) (s := s) (t := x) ?_ fun _ => ?_; (on_goal 1 => subst x); (on_goal 2 => clear_value x))
    | (intro x; clear_value x)
    | with_reducible first
        | apply Frame.ite | apply Frame.refl | assumption | apply Frame.after (State.adaptDfe_frame ..)
        | apply Frame.step (State.setF_frame ..)
    | exact rfl | (fail_if_no_progress simp; exact rfl) | split | dsimp only

theorem State.phaseD_frame (s : State) (r k : Nat) : Frame 0x200010100 s (State.phaseD s r k) := by
  unfold State.phaseD
  iterate 80 all_goals try first
    | lift_lets
    | (intro x; refine Frame.cut (m := 0x200010100) (s := s) (t := x) ?_ fun _ => ?_; (on_goal 1 => subst x); (on_goal 2 => clear_value x))
    | (intro x; clear_value x)
    | with_reducible first
        | apply Frame.refl | assumption | apply Frame.after (State.recalLane_frame ..)
        | apply Frame.after (State.reliefSelect_frame ..) | apply Frame.step (State.setF_frame ..)
    | exact rfl | (fail_if_no_progress simp; exact rfl) | dsimp only

theorem State.liveFailed_frame (s : State) (r k : Nat) : Frame 0x5bfe1dffdb s (State.liveFailed s r k) := by
  unfold State.liveFailed
  iterate 80 all_goals try first
    | lift_lets
    | (intro x; refine Frame.cut (m := 0x5bfe1dffdb) (s := s) (t := x) ?_ fun _ => ?_; (on_goal 1 => subst x); (on_goal 2 => clear_value x))
    | (intro x; clear_value x)
    | with_reducible first
        | apply Frame.ite | apply Frame.refl | assumption | apply Frame.after (State.laneFailed_frame ..)
        | apply Frame.after (State.recalLane_frame ..)
    | exact rfl | (fail_if_no_progress simp; exact rfl) | split | dsimp only

theorem State.phaseAEnd_frame (s : State) (r eye : Nat) (shift : Int) (c : Recal) :
    Frame 0x240158112 s (State.phaseAEnd s r eye shift c) := by
  unfold State.phaseAEnd
  iterate 80 all_goals try first
    | lift_lets
    | (intro x; refine Frame.cut (m := 0x240158112) (s := s) (t := x) ?_ fun _ => ?_; (on_goal 1 => subst x); (on_goal 2 => clear_value x))
    | (intro x; clear_value x)
    | with_reducible first
        | apply Frame.ite | apply Frame.refl | assumption | apply Frame.after (State.dqxFailed_frame ..)
        | apply Frame.after (State.phaseA_frame ..) | apply Frame.after (State.phaseD_frame ..)
        | apply Frame.step (State.setF_frame ..) | apply Frame.after (State.setRoute_frame ..)
        | apply Frame.after (State.sweepFailed_frame ..) | ((conv => arg 3; arg 20); apply Frame.step (State.mk_frame ..))
    | exact rfl | exact Or.inl rfl | exact Or.inr rfl | (fail_if_no_progress simp; exact rfl) | split | dsimp only

theorem State.phaseCEnd_frame (s : State) (r eye : Nat) (shift : Int) (c : Recal) :
    Frame 0x5bfe1dffdb s (State.phaseCEnd s r eye shift c) := by
  unfold State.phaseCEnd
  iterate 80 all_goals try first
    | lift_lets
    | (intro x; refine Frame.cut (m := 0x5bfe1dffdb) (s := s) (t := x) ?_ fun _ => ?_; (on_goal 1 => subst x); (on_goal 2 => clear_value x))
    | (intro x; clear_value x)
    | with_reducible first
        | apply Frame.ite | apply Frame.refl | assumption | apply Frame.after (State.laneMoves_frame ..)
        | apply Frame.after (State.liveFailed_frame ..) | apply Frame.after (State.phaseD_frame ..)
        | apply Frame.step (State.setF_frame ..) | apply Frame.after (State.sweepFailed_frame ..)
    | exact rfl | (fail_if_no_progress simp; exact rfl) | split | dsimp only

theorem execRecalPhaseDone_frame (r eye : Nat) (shift : Int) (disagree : Nat) (s : State) :
    Frames 0x5bfe1dffdb s (execRecalPhaseDone r eye shift disagree s) := by
  unfold execRecalPhaseDone
  iterate 80 all_goals try first
    | with_reducible first
        | apply Frames.next | apply Frames.ite | apply Frame.ite | apply Frame.refl | assumption
        | apply Frame.after (State.phaseAEnd_frame ..) | apply Frame.after (State.phaseCEnd_frame ..)
        | apply Frame.after (State.trainErr_frame ..)
    | exact rfl | (fail_if_no_progress simp; exact rfl) | split | dsimp only

theorem State.burstOut_frame (s : State) (r : Nat) : Frame 0x10000 s (State.burstOut s r) := by
  unfold State.burstOut
  iterate 80 all_goals try first
    | with_reducible first
        | apply Frame.refl | assumption | apply Frame.after (State.emit_frame ..)
    | exact rfl | (fail_if_no_progress simp; exact rfl) | split | dsimp only

theorem execForceGapExpiry_frame (r : Nat) (s : State) : Frames 0x10100 s (execForceGapExpiry r s) := by
  unfold execForceGapExpiry
  iterate 80 all_goals try first
    | (intro x; clear_value x)
    | with_reducible first
        | apply Frames.next | apply Frames.ite | apply Frame.ite | apply Frame.refl | assumption
        | apply Frame.after (State.burstOut_frame ..) | apply Frame.after (State.setRoute_frame ..)
        | ((conv => arg 3; arg 20); apply Frame.step (State.mk_frame ..))
    | exact rfl | exact Or.inl rfl | exact Or.inr rfl | (fail_if_no_progress simp; exact rfl) | split | dsimp only

theorem State.sweepEnd_frame (s : State) (r eye : Nat) (shift : Int) (c : Recal) :
    Frame 0x5bfe1dffdb s (State.sweepEnd s r eye shift c) := by
  unfold State.sweepEnd
  iterate 80 all_goals try first
    | lift_lets
    | (intro x; refine Frame.cut (m := 0x5bfe1dffdb) (s := s) (t := x) ?_ fun _ => ?_; (on_goal 1 => subst x); (on_goal 2 => clear_value x))
    | (intro x; clear_value x)
    | with_reducible first
        | apply Frame.ite | apply Frame.refl | assumption | apply Frame.after (State.laneMoves_frame ..)
        | apply Frame.after (State.liveFailed_frame ..) | apply Frame.after (State.recalLane_frame ..)
        | apply Frame.step (State.setF_frame ..) | apply Frame.after (State.sweepFailed_frame ..)
    | exact rfl | (fail_if_no_progress simp; exact rfl) | split | dsimp only

theorem execTrainingBurst_frame (r errors : Nat) (done : Bool) (eye : Nat) (shift : Int) (s : State) :
    Frames 0x5bfe1dffdb s (execTrainingBurst r errors done eye shift s) := by
  unfold execTrainingBurst
  iterate 80 all_goals try first
    | lift_lets
    | (intro x; refine Frame.cut (m := 0x5bfe1dffdb) (s := s) (t := x) ?_ fun _ => ?_; (on_goal 1 => subst x); (on_goal 2 => clear_value x))
    | (intro x; clear_value x)
    | with_reducible first
        | apply Frames.next | apply Frames.ite | apply Frame.ite | apply Frame.refl | assumption
        | apply Frame.after (State.burstOut_frame ..) | apply Frame.after (State.setRoute_frame ..)
        | apply Frame.after (State.sweepEnd_frame ..) | apply Frame.after (State.trainErr_frame ..)
        | ((conv => arg 3; arg 20); apply Frame.step (State.mk_frame ..))
    | exact rfl | exact Or.inl rfl | exact Or.inr rfl | (fail_if_no_progress simp; exact rfl) | split | dsimp only

theorem State.retrainDrain_frame (s : State) (r : Nat) : Frame 0x4140000100 s (State.retrainDrain s r) := by
  unfold State.retrainDrain
  iterate 80 all_goals try first
    | (intro x; clear_value x)
    | with_reducible first
        | apply Frame.refl | assumption | apply Frame.after (State.guardUpdate_frame ..)
        | apply Frame.step (State.setF_frame ..) | apply Frame.after (State.setRoute_frame ..)
        | ((conv => arg 3; arg 20); apply Frame.step (State.mk_frame ..))
    | exact rfl | exact Or.inl rfl | exact Or.inr rfl | (fail_if_no_progress simp; exact rfl) | dsimp only

theorem execTrainErrWindowEnd_frame (r : Nat) (s : State) : Frames 0x4340150112 s (execTrainErrWindowEnd r s) := by
  unfold execTrainErrWindowEnd
  iterate 80 all_goals try first
    | lift_lets
    | (intro x; refine Frame.cut (m := 0x4340150112) (s := s) (t := x) ?_ fun _ => ?_; (on_goal 1 => subst x); (on_goal 2 => clear_value x))
    | (intro x; clear_value x)
    | with_reducible first
        | apply Frames.next | apply Frames.ite | apply Frame.ite | apply Frame.refl | assumption
        | apply Frame.after (State.guardUpdate_frame ..) | apply Frame.step (State.raise_frame ..)
        | apply Frame.after (State.recalStart_frame ..) | apply Frame.after (State.retrainDrain_frame ..)
        | apply Frame.step (State.setF_frame ..) | apply Frame.after (State.setRoute_frame ..)
        | ((conv => arg 3; arg 20); apply Frame.step (State.mk_frame ..))
    | exact rfl | exact Or.inl rfl | exact Or.inr rfl | (fail_if_no_progress simp; exact rfl) | split | dsimp only

end Sys2Proof.Machine
end

