-- ==== Sys2Proof/Laws/FrameModes.lean ====
section
/-! SUPPORT. The frame of every operation of Machine/Modes.lean. -/

set_option linter.all false

namespace Sys2Proof.Machine

theorem State.leaveHalt_frame (s : State) : Frame 0x40002 s (State.leaveHalt s) := by
  unfold State.leaveHalt
  iterate 80 all_goals try first
    | (intro x; clear_value x)
    | with_reducible first
        | apply Frame.ite | apply Frame.refl | assumption | apply Frame.step (State.setF_frame ..)
        | ((conv => arg 3; arg 20); apply Frame.step (State.mk_frame ..))
    | exact rfl | exact Or.inl rfl | exact Or.inr rfl | (fail_if_no_progress simp; exact rfl) | split | dsimp only

theorem State.setLevel_frame (s : State) (l : Nat) : Frame 0x2080040002 s (State.setLevel s l) := by
  unfold State.setLevel
  iterate 80 all_goals try first
    | lift_lets
    | (intro x; refine Frame.cut (m := 0x2080040002) (s := s) (t := x) ?_ fun _ => ?_; (on_goal 1 => subst x); (on_goal 2 => clear_value x))
    | (intro x; clear_value x)
    | with_reducible first
        | apply Frame.ite | apply Frame.refl | assumption | apply Frame.after (State.leaveHalt_frame ..)
        | apply Frame.step (State.setF_frame ..)
    | exact rfl | (fail_if_no_progress simp; exact rfl) | split | dsimp only

theorem State.endSession_frame (s : State) : Frame 0x20c0150012 s (State.endSession s) := by
  unfold State.endSession
  iterate 80 all_goals try first
    | with_reducible first
        | apply Frame.ite | apply Frame.refl | assumption | apply Frame.step (State.raise_frame ..)
        | apply Frame.step (State.setF_frame ..) | apply Frame.after (State.setLevel_frame ..)
    | exact rfl | (fail_if_no_progress simp; exact rfl) | split | dsimp only

theorem State.drawNonce_frame (s : State) : Frame 0x8004 s (State.drawNonce s) := by
  unfold State.drawNonce
  iterate 80 all_goals try first
    | (intro x; clear_value x)
    | with_reducible first
        | apply Frame.refl | assumption | ((conv => arg 3; arg 20); apply Frame.step (State.mk_add_frame ..))
        | ((conv => arg 3; arg 20); apply Frame.step (State.mk_frame ..))
    | exact rfl | exact Or.inl rfl | exact Or.inr rfl | dsimp only

theorem State.lockLatch_frame (s : State) (cause : Nat) : Frame 0x20c0155816 s (State.lockLatch s cause) := by
  unfold State.lockLatch
  iterate 80 all_goals try first
    | lift_lets
    | (intro x; refine Frame.cut (m := 0x20c0155816) (s := s) (t := x) ?_ fun _ => ?_; (on_goal 1 => subst x); (on_goal 2 => clear_value x))
    | (intro x; clear_value x)
    | with_reducible first
        | apply Frame.ite | apply Frame.refl | assumption | apply Frame.step (State.raiseAll_frame ..)
        | apply Frame.step (State.setF_frame ..) | ((conv => arg 3; arg 20); apply Frame.step (State.mk_frame ..))
    | exact rfl | exact Or.inl rfl | exact Or.inr rfl | (fail_if_no_progress simp; exact rfl)
    | (intro f hf; fin_cases hf <;> exact rfl) | split | dsimp only

theorem State.lockdown_frame (s : State) (cause : Nat) : Frame 0x79f81dff9f s (State.lockdown s cause) := by
  unfold State.lockdown
  iterate 80 all_goals try first
    | with_reducible first
        | apply Frame.ite | apply Frame.refl | assumption | apply Frame.after (State.enterSafe_frame ..)
        | apply Frame.after (State.lockLatch_frame ..)
    | exact rfl | (fail_if_no_progress simp; exact rfl) | split | dsimp only

theorem State.secCtrl_frame (s : State) (v : Nat) : Frame 0x79f81fff9f s (State.secCtrl s v) := by
  unfold State.secCtrl
  iterate 80 all_goals try first
    | (intro x; (have hf : Fuses := x); clear hf; subst x) | (intro x; clear_value x)
    | with_reducible first
        | apply Frame.ite | apply Frame.refl | assumption | apply Frame.after (State.lockdown_frame ..)
        | apply Frame.after (State.refuse_frame ..) | apply Frame.step (State.setF_frame ..)
        | apply Frame.after (State.setLevel_frame ..) | ((conv => arg 3; arg 20); apply Frame.step (State.mk_seal_frame ..))
        | ((conv => arg 3; arg 20); apply Frame.step (State.mk_frame ..))
    | exact rfl | exact Or.inl rfl | exact Or.inr rfl | (fail_if_no_progress simp; exact rfl) | split | dsimp only

theorem State.dbgCtrl_frame (s : State) (v : Nat) : Frame 0x20c0150012 s (State.dbgCtrl s v) := by
  unfold State.dbgCtrl
  iterate 80 all_goals try first
    | lift_lets
    | (intro x; refine Frame.cut (m := 0x20c0150012) (s := s) (t := x) ?_ fun _ => ?_; (on_goal 1 => subst x); (on_goal 2 => clear_value x))
    | (intro x; clear_value x)
    | with_reducible first
        | apply Frame.ite | apply Frame.refl | assumption | apply Frame.after (State.endSession_frame ..)
        | apply Frame.after (State.refuse_frame ..) | apply Frame.step (State.setF_frame ..)
        | apply Frame.after (State.setLevel_frame ..)
    | exact rfl | (fail_if_no_progress simp; exact rfl) | split | dsimp only

theorem State.authEnd_frame (s : State) (b : Bytes) (read : Bool) : Frame 0x20c0158016 s (State.authEnd s b read) := by
  unfold State.authEnd
  iterate 80 all_goals try first
    | lift_lets
    | (intro x; refine Frame.cut (m := 0x20c0158016) (s := s) (t := x) ?_ fun _ => ?_; (on_goal 1 => subst x); (on_goal 2 => clear_value x))
    | (intro x; clear_value x)
    | with_reducible first
        | apply Frame.ite | apply Frame.refl | assumption | apply Frame.after (State.drawNonce_frame ..)
        | apply Frame.step (State.raise_frame ..) | apply Frame.step (State.setF_frame ..)
        | apply Frame.after (State.setLevel_frame ..)
    | exact rfl | (fail_if_no_progress simp; exact rfl) | split | dsimp only

theorem execDbgSessionExpiry_frame (s : State) : Frames 0x20c0150012 s (execDbgSessionExpiry s) := by
  unfold execDbgSessionExpiry
  iterate 80 all_goals try first
    | with_reducible first
        | apply Frames.next | apply Frame.refl | assumption | apply Frame.after (State.endSession_frame ..)
    | exact rfl | (fail_if_no_progress simp; exact rfl) | dsimp only

theorem State.withdrawAll_frame (s : State) : Frame 0x10000 s (State.withdrawAll s) := by
  unfold State.withdrawAll
  iterate 80 all_goals try first
    | with_reducible first
        | apply Frame.ite | apply Frame.refl | assumption | apply Frame.foldl (k := fun u _ => ?_)
        | apply Frame.after (State.emit_frame ..) | apply Frame.after (State.withdraw_frame ..)
    | exact rfl | (fail_if_no_progress simp; exact rfl) | split | dsimp only

theorem State.pinsOnly_frame (s : State) : Frame 0x7fffffffff s s.pinsOnly where
  pending := rfl
  fuses := rfl
  sealStays := id
  left := ⟨[], by simp [State.pinsOnly]⟩
  drawn := le_refl _
  regsWf := fun _ => wf_nil _
  bnd := fun q => absurd q (by decide)
  mode := fun q => absurd q (by decide)
  sec := fun q => absurd q (by decide)
  img := fun q => absurd q (by decide)
  ntc := fun q => absurd q (by decide)
  pm := fun q => absurd q (by decide)
  q := fun q => absurd q (by decide)
  descs := fun q => absurd q (by decide)
  seq := fun q => absurd q (by decide)
  rc := fun q => absurd q (by decide)
  so := fun q => absurd q (by decide)
  ph := fun q => absurd q (by decide)
  mi := fun q => absurd q (by decide)
  fi := fun q => absurd q (by decide)
  hb := fun q => absurd q (by decide)
  free := fun _ => rfl
  out := fun _ => rfl
  sealed := fun _ => rfl
  reg := fun off q => by rw [Frame.anyGroup off rfl] at q; cases q
  modeCode := fun q => absurd q (by decide)
  secCode := fun q => absurd q (by decide)
  routeStates := fun q => absurd q (by decide)

theorem State.keepLatch_frame (s t : State) : Frame 0x20c0000000 s (State.keepLatch s t) := by
  unfold State.keepLatch
  iterate 80 all_goals try first
    | lift_lets
    | (intro x; refine Frame.cut (m := 0x20c0000000) (s := s) (t := x) ?_ fun _ => ?_; (on_goal 1 => subst x); (on_goal 2 => clear_value x))
    | (intro x; clear_value x)
    | with_reducible first
        | apply Frame.ite | apply Frame.refl | assumption | apply Frame.step (State.setF_frame ..)
    | exact rfl | (fail_if_no_progress simp; exact rfl) | split | dsimp only

theorem State.supplyGone_frame (s : State) : Frame 0x7fffffffff s (State.supplyGone s) := by
  unfold State.supplyGone
  iterate 80 all_goals try first
    | with_reducible first
        | apply Frame.ite | apply Frame.refl | assumption | apply Frame.after (State.islands_frame ..)
        | apply Frame.after (State.pinsOnly_frame ..) | apply Frame.step (State.setF_frame ..)
    | exact rfl | (fail_if_no_progress simp; exact rfl) | split | dsimp only

theorem State.goOff_frame (s : State) (cause : Nat) : Frame 0x7fffffffff s (State.goOff s cause) := by
  unfold State.goOff
  iterate 80 all_goals try first
    | lift_lets
    | (intro x; refine Frame.cut (m := 0x7fffffffff) (s := s) (t := x) ?_ fun _ => ?_; (on_goal 1 => subst x); (on_goal 2 => clear_value x))
    | (intro x; clear_value x)
    | with_reducible first
        | apply Frame.ite | apply Frame.refl | assumption | apply Frame.after (State.emit_frame ..)
        | apply Frame.after (State.islands_frame ..) | apply Frame.after (State.keepLatch_frame ..)
        | apply Frame.after (State.pinsOnly_frame ..) | apply Frame.step (State.setF_frame ..)
        | apply Frame.after (State.supplyGone_frame ..) | apply Frame.after (State.withdrawAll_frame ..)
    | exact rfl | (fail_if_no_progress simp; exact rfl) | split | dsimp only

theorem State.powerUp_frame (s : State) : Frame 0x7fffffffff s (State.powerUp s) := by
  unfold State.powerUp
  iterate 80 all_goals try first
    | lift_lets
    | (intro x; refine Frame.cut (m := 0x7fffffffff) (s := s) (t := x) ?_ fun _ => ?_; (on_goal 1 => subst x); (on_goal 2 => clear_value x))
    | (intro x; clear_value x)
    | with_reducible first
        | apply Frame.ite | apply Frame.refl | assumption | apply Frame.after (State.drawNonce_frame ..)
        | apply Frame.after (State.keepLatch_frame ..) | apply Frame.after (State.pinsOnly_frame ..)
        | apply Frame.step (State.raise_frame ..) | apply Frame.step (State.setF_frame ..)
        | ((conv => arg 3; arg 20); apply Frame.step (State.mk_frame ..))
    | exact rfl | exact Or.inl rfl | exact Or.inr rfl | (fail_if_no_progress simp; exact rfl) | split | dsimp only

theorem execPowerOn_frame (s : State) : Frames 0x7fffffffff s (execPowerOn s) := by
  unfold execPowerOn
  iterate 80 all_goals try first
    | with_reducible first
        | apply Frames.next | apply Frames.ite | apply Frame.ite | apply Frame.refl | assumption
        | apply Frame.after (State.powerUp_frame ..)
    | exact rfl | (fail_if_no_progress simp; exact rfl) | split | dsimp only

theorem execResetAssert_frame (kind : Nat) (s : State) : Frames 0x7fffffffff s (execResetAssert kind s) := by
  unfold execResetAssert
  iterate 80 all_goals try first
    | (intro x; clear_value x)
    | with_reducible first
        | apply Frames.next | apply Frame.refl | assumption | apply Frame.after (State.goOff_frame ..)
        | ((conv => arg 3; arg 20); apply Frame.step (State.mk_frame ..))
    | exact rfl | exact Or.inl rfl | exact Or.inr rfl | (fail_if_no_progress simp; exact rfl) | split | dsimp only

theorem State.wake_frame (s : State) (cause src : Nat) : Frame 0x1040048007 s (State.wake s cause src) := by
  unfold State.wake
  iterate 80 all_goals try first
    | lift_lets
    | (intro x; refine Frame.cut (m := 0x1040048007) (s := s) (t := x) ?_ fun _ => ?_; (on_goal 1 => subst x); (on_goal 2 => clear_value x))
    | (intro x; clear_value x)
    | with_reducible first
        | apply Frame.ite | apply Frame.refl | assumption | apply Frame.after (State.drawNonce_frame ..)
        | apply Frame.after (State.islands_frame ..) | apply Frame.step (State.setF_frame ..)
        | ((conv => arg 3; arg 20); apply Frame.step (State.mk_frame ..))
    | exact rfl | exact Or.inl rfl | exact Or.inr rfl | (fail_if_no_progress simp; exact rfl) | split | dsimp only

theorem State.watchFire_frame (s : State) (src : Nat) : Frame 0x1040148007 s (State.watchFire s src) := by
  unfold State.watchFire
  iterate 80 all_goals try first
    | with_reducible first
        | apply Frame.ite | apply Frame.refl | assumption | apply Frame.step (State.setBit_frame ..)
        | apply Frame.after (State.wake_frame ..)
    | exact rfl | (rw [regGroup_bits _ _ (by decide) (by decide)]; exact rfl) | (fail_if_no_progress simp; exact rfl) | split
    | dsimp only

theorem State.aonRaise_frame {m : Nat} (s : State) (f : Field) (src : Nat) (h : m.testBit (18 + regGroup f.off) = true)
    (ha : Frame.apart m (regGroup f.off) f = true) (hn : 0x1040158017 ||| m = m) : Frame m s (s.aonRaise f src) := by
  unfold State.aonRaise
  split
  · refine Frame.cut (State.setF_frame s f 1 h ha) fun k => ?_
    generalize s.setF f 1 = t at k
    dsimp only
    split
    · exact (State.watchFire_frame ..).after k (Frame.or_trans rfl hn)
    · exact k
  · exact State.raise_frame s f h ha (Frame.or_trans rfl hn)

theorem execWatchWake_frame (cause src : Nat) (s : State) : Frames 0x1040148007 s (execWatchWake cause src s) := by
  unfold execWatchWake
  iterate 80 all_goals try first
    | with_reducible first
        | apply Frames.next | apply Frames.ite | apply Frame.ite | apply Frame.refl | assumption
        | apply Frame.after (State.holdWake_frame ..) | apply Frame.after (State.wake_frame ..)
        | apply Frame.after (State.watchFire_frame ..)
    | exact rfl | (fail_if_no_progress simp; exact rfl) | split | dsimp only

theorem execWakeTimerExpiry_frame (s : State) : Frames 0x1040048007 s (execWakeTimerExpiry s) := by
  unfold execWakeTimerExpiry
  iterate 80 all_goals try first
    | with_reducible first
        | apply Frames.next | apply Frames.ite | apply Frame.ite | apply Frame.refl | assumption
        | apply Frame.after (State.holdWake_frame ..) | apply Frame.after (State.wake_frame ..)
    | exact rfl | (fail_if_no_progress simp; exact rfl) | split | dsimp only

theorem State.safeCause_frame (s : State) (cause : Nat) : Frame 0x59f81de79b s (State.safeCause s cause) := by
  unfold State.safeCause
  iterate 80 all_goals try first
    | with_reducible first
        | apply Frame.ite | apply Frame.refl | assumption | apply Frame.after (State.enterSafe_frame ..)
    | exact rfl | (fail_if_no_progress simp; exact rfl) | split | dsimp only

theorem execBringupDone_frame (checker : Bool) (bad : List (Nat × Nat)) (cores lanes : List Nat) (s : State) :
    Frames 0x59fa1dff9b s (execBringupDone checker bad cores lanes s) := by
  unfold execBringupDone
  iterate 80 all_goals try first
    | lift_lets
    | (intro x; refine Frame.cut (m := 0x59fa1dff9b) (s := u) (t := x) ?_ fun _ => ?_; (on_goal 1 => subst x); (on_goal 2 => clear_value x))
    | (intro x; refine Frame.cut (m := 0x59fa1dff9b) (s := s) (t := x) ?_ fun _ => ?_; (on_goal 1 => subst x); (on_goal 2 => clear_value x))
    | (intro x; clear_value x)
    | with_reducible first
        | apply Frames.next | apply Frames.ite | apply Frame.ite | apply Frame.refl | assumption
        | apply Frame.foldl (k := fun u _ => ?_) | apply Frame.after (State.coreRetire_frame ..)
        | apply Frame.after (State.enterSafe_frame ..) | apply Frame.after (State.imgState_frame ..)
        | apply Frame.after (State.laneRetire_frame ..) | apply Frame.after (State.selfTest_frame ..)
        | apply Frame.after (State.setMode_frame ..) | ((conv => arg 3; arg 20); apply Frame.step (State.mk_frame ..))
    | exact rfl | exact Or.inl rfl | exact Or.inr rfl | (fail_if_no_progress simp; exact rfl) | split | dsimp only

theorem State.modeResult_frame (s : State) (code : Nat) : Frame 0x40150012 s (State.modeResult s code) := by
  unfold State.modeResult
  iterate 80 all_goals try first
    | with_reducible first
        | apply Frame.refl | assumption | apply Frame.after (State.fire_frame ..) | apply Frame.step (State.setF_frame ..)
    | exact rfl | (fail_if_no_progress simp; exact rfl) | dsimp only

theorem State.modeAccept_frame (s : State) (m : Nat) : Frame 0x59f81de79b s (State.modeAccept s m) := by
  unfold State.modeAccept
  iterate 80 all_goals try first
    | (intro x; clear_value x)
    | with_reducible first
        | apply Frame.ite | apply Frame.refl | assumption | apply Frame.after (State.enterSafe_frame ..)
        | apply Frame.after (State.holdWake_frame ..) | apply Frame.step (State.setF_frame ..)
        | ((conv => arg 3; arg 20); apply Frame.step (State.mk_frame ..))
    | exact rfl | exact Or.inl rfl | exact Or.inr rfl | (fail_if_no_progress simp; exact rfl) | split | dsimp only

theorem State.modeJudge_frame (s : State) (m : Nat) (ack : Bool) : Frame 0x59f81de79b s (State.modeJudge s m ack) := by
  unfold State.modeJudge
  iterate 80 all_goals try first
    | lift_lets
    | (intro x; refine Frame.cut (m := 0x59f81de79b) (s := s) (t := x) ?_ fun _ => ?_; (on_goal 1 => subst x); (on_goal 2 => clear_value x))
    | (intro x; clear_value x)
    | with_reducible first
        | apply Frame.ite | apply Frame.refl | assumption | apply Frame.after (State.modeAccept_frame ..)
        | apply Frame.after (State.modeResult_frame ..)
    | exact rfl | (fail_if_no_progress simp; exact rfl) | split | dsimp only

theorem State.modeRequest_frame (s : State) (v : Nat) (pm : Bool) : Frame 0x59f81de7bb s (State.modeRequest s v pm) := by
  unfold State.modeRequest
  iterate 80 all_goals try first
    | lift_lets
    | (intro x; refine Frame.cut (m := 0x59f81de7bb) (s := s) (t := x) ?_ fun _ => ?_; (on_goal 1 => subst x); (on_goal 2 => clear_value x))
    | (intro x; clear_value x)
    | with_reducible first
        | apply Frame.ite | apply Frame.refl | assumption | apply Frame.after (State.modeJudge_frame ..)
        | apply Frame.after (State.modeResult_frame ..) | apply Frame.step (State.setF_frame ..)
        | ((conv => arg 3; arg 20); apply Frame.step (State.mk_frame ..))
    | exact rfl | exact Or.inl rfl | exact Or.inr rfl | (fail_if_no_progress simp; exact rfl) | split | dsimp only

theorem State.trainStart_frame (s : State) : Frame 0x6c156312 s (State.trainStart s) := by
  unfold State.trainStart
  iterate 80 all_goals try first
    | lift_lets
    | (intro x; refine Frame.cut (m := 0x6c156312) (s := u) (t := x) ?_ fun _ => ?_; (on_goal 1 => subst x); (on_goal 2 => clear_value x))
    | (intro x; refine Frame.cut (m := 0x6c156312) (s := s) (t := x) ?_ fun _ => ?_; (on_goal 1 => subst x); (on_goal 2 => clear_value x))
    | (intro x; clear_value x)
    | with_reducible first
        | apply Frame.ite | apply Frame.refl | assumption | apply Frame.foldl (k := fun u _ => ?_)
        | apply Frame.after (State.bumpAll_frame ..) | apply Frame.step (State.raise_frame ..)
        | apply Frame.step (State.setF_frame ..) | apply Frame.step (State.setR_frame ..)
        | ((conv => arg 3; arg 20); apply Frame.step (State.mk_frame ..))
    | exact rfl | exact Or.inl rfl | exact Or.inr rfl | (fail_if_no_progress simp; exact rfl) | split | dsimp only

theorem State.leaveForImage_frame (s : State) : Frame 0x5bff1dffdb s (State.leaveForImage s) := by
  unfold State.leaveForImage
  iterate 80 all_goals try first
    | lift_lets
    | (intro x; refine Frame.cut (m := 0x5bff1dffdb) (s := u) (t := x) ?_ fun _ => ?_; (on_goal 1 => subst x); (on_goal 2 => clear_value x))
    | (intro x; refine Frame.cut (m := 0x5bff1dffdb) (s := s) (t := x) ?_ fun _ => ?_; (on_goal 1 => subst x); (on_goal 2 => clear_value x))
    | (intro x; clear_value x)
    | with_reducible first
        | apply Frame.refl | assumption | apply Frame.foldl (k := fun u _ => ?_)
        | apply Frame.after (State.floorShow_frame ..) | apply Frame.after (State.phCount_frame ..)
        | apply Frame.after (State.routeDown_frame ..) | apply Frame.after (State.scanShow_frame ..)
        | apply Frame.step (State.setF_frame ..) | apply Frame.step (State.setR_frame ..)
        | ((conv => arg 3; arg 20); apply Frame.step (State.mk_frame ..))
    | exact rfl | exact Or.inl rfl | exact Or.inr rfl | (fail_if_no_progress simp; exact rfl) | dsimp only

theorem State.leaveForMaint_frame (s : State) (cause : Nat) : Frame 0x824006300 s (State.leaveForMaint s cause) := by
  unfold State.leaveForMaint
  iterate 80 all_goals try first
    | lift_lets
    | (intro x; refine Frame.cut (m := 0x824006300) (s := u) (t := x) ?_ fun _ => ?_; (on_goal 1 => subst x); (on_goal 2 => clear_value x))
    | (intro x; refine Frame.cut (m := 0x824006300) (s := s) (t := x) ?_ fun _ => ?_; (on_goal 1 => subst x); (on_goal 2 => clear_value x))
    | (intro x; clear_value x)
    | with_reducible first
        | apply Frame.ite | apply Frame.refl | assumption | apply Frame.foldl (k := fun u _ => ?_)
        | apply Frame.after (State.bumpAll_frame ..) | apply Frame.after (State.setDie_frame ..)
        | apply Frame.after (State.setDieSt_frame ..) | apply Frame.step (State.setF_frame ..)
        | apply Frame.step (State.setR_frame ..) | ((conv => arg 3; arg 20); apply Frame.step (State.mk_frame ..))
    | exact rfl | exact Or.inl rfl | exact Or.inr rfl | (fail_if_no_progress simp; exact rfl) | split | dsimp only

theorem tset_foldl_wf {α : Type} (f : α → Nat) (g : α → W32) (l : List α) (r : Tbl W32) (h : r.wf regReset) :
    (l.foldl (fun r x => tset regReset r (f x) (g x)) r).wf regReset := by
  induction l generalizing r with
  | nil => exact h
  | cons x l ih => exact ih _ (wf_tset _ _ _ _ h)

theorem State.mk_regs_frame (t : State) (r : Tbl W32) (h : r.wf regReset) (bnd : Bnd) (mode : ModeCtl) (sec : Sec) (img : Img) (ntc : Ntc)
    (pm : Pm) (q : Qe) (descs : List Desc) (seq : Seq) (rc : Rc) (so : So) (ph : Ph) (mi : Mi) (fi : Fi) (hb : Hb) :
    Frame 0x7fffffffff t ⟨t.pending, r, t.freeCtr, t.out, t.fuses, bnd, mode, sec, img, ntc, pm, q, descs, seq, rc, so, ph, mi, fi, hb⟩ where
  pending := rfl
  fuses := rfl
  sealStays := id
  left := ⟨[], by simp⟩
  drawn := le_refl _
  regsWf := fun _ => h
  bnd := fun q => absurd q (by decide)
  mode := fun q => absurd q (by decide)
  sec := fun q => absurd q (by decide)
  img := fun q => absurd q (by decide)
  ntc := fun q => absurd q (by decide)
  pm := fun q => absurd q (by decide)
  q := fun q => absurd q (by decide)
  descs := fun q => absurd q (by decide)
  seq := fun q => absurd q (by decide)
  rc := fun q => absurd q (by decide)
  so := fun q => absurd q (by decide)
  ph := fun q => absurd q (by decide)
  mi := fun q => absurd q (by decide)
  fi := fun q => absurd q (by decide)
  hb := fun q => absurd q (by decide)
  free := fun _ => rfl
  out := fun _ => rfl
  sealed := fun _ => rfl
  reg := fun off q => by rw [Frame.anyGroup off rfl] at q; cases q
  modeCode := fun q => absurd q (by decide)
  secCode := fun q => absurd q (by decide)
  routeStates := fun q => absurd q (by decide)

theorem State.watchEnter_frame (s : State) : Frame 0x7fffffffff s s.watchEnter := by
  unfold State.watchEnter
  lift_lets
  iterate 60 all_goals try first
    | (intro x; refine Frame.cut (m := 0x7fffffffff) (s := u) (t := x) ?_ fun hx => ?_; (on_goal 1 => subst x); (on_goal 2 => clear_value x))
    | (intro x; refine Frame.cut (m := 0x7fffffffff) (s := s) (t := x) ?_ fun hx => ?_; (on_goal 1 => subst x); (on_goal 2 => clear_value x))
    | (intro x; have hf : Tbl W32 := x; clear hf; have hx : x.wf regReset := tset_foldl_wf _ _ _ _ (wf_nil _); clear_value x)
    | (intro x; clear_value x)
    | with_reducible apply Frame.refl
    | with_reducible assumption
    | with_reducible apply Frame.after (State.setLevel_frame ..)
    | with_reducible apply Frame.after (State.endSession_frame ..)
    | with_reducible apply Frame.after (State.withdrawAll_frame ..)
    | with_reducible apply Frame.after (State.emit_frame ..)
    | with_reducible apply Frame.step (State.setF_frame ..)
    | with_reducible apply Frame.after (State.islands_frame ..)
    | with_reducible apply Frame.step (State.setBit_frame ..)
    | with_reducible apply Frame.foldl (k := fun u _ => ?_)
    | (fail_if_no_progress with_reducible apply Frame.step (State.mk_regs_frame _ _ (by assumption) ..))
    | with_reducible apply Frame.after (State.pinsOnly_frame ..)
    | exact rfl
    | exact Frame.anyGroup _ rfl
    | exact Frame.anyField _ rfl

theorem State.quiesceEnter_frame (s : State) : Frame 0x51c01d811a s (State.quiesceEnter s) := by
  unfold State.quiesceEnter
  iterate 80 all_goals try first
    | lift_lets
    | (intro x; refine Frame.cut (m := 0x51c01d811a) (s := s) (t := x) ?_ fun _ => ?_; (on_goal 1 => subst x); (on_goal 2 => clear_value x))
    | (intro x; clear_value x)
    | with_reducible first
        | apply Frame.ite | apply Frame.refl | assumption | apply Frame.step (State.setF_frame ..)
        | apply Frame.after (State.setMode_frame ..) | ((conv => arg 3; arg 20); apply Frame.step (State.mk_frame ..))
    | exact rfl | exact Or.inl rfl | exact Or.inr rfl | (fail_if_no_progress simp; exact rfl) | split | dsimp only

theorem State.modeEnter_frame (s : State) (m : Nat) : Frame 0x7fffffffff s (State.modeEnter s m) := by
  unfold State.modeEnter
  iterate 80 all_goals try first
    | lift_lets
    | (intro x; refine Frame.cut (m := 0x7fffffffff) (s := s) (t := x) ?_ fun _ => ?_; (on_goal 1 => subst x); (on_goal 2 => clear_value x))
    | (intro x; clear_value x)
    | with_reducible first
        | apply Frame.ite | apply Frame.refl | assumption | apply Frame.after (State.emit_frame ..)
        | apply Frame.after (State.leaveForImage_frame ..) | apply Frame.after (State.leaveForMaint_frame ..)
        | apply Frame.after (State.quiesceEnter_frame ..) | apply Frame.step (State.setF_frame ..)
        | apply Frame.after (State.setMode_frame ..) | apply Frame.after (State.trainStart_frame ..)
        | apply Frame.after (State.watchEnter_frame ..)
    | exact rfl | (fail_if_no_progress simp; exact rfl) | split | dsimp only

theorem State.trainOver_frame (s : State) : Frame 0x59fc9de79b s (State.trainOver s) := by
  unfold State.trainOver
  iterate 80 all_goals try first
    | lift_lets
    | (intro x; refine Frame.cut (m := 0x59fc9de79b) (s := s) (t := x) ?_ fun _ => ?_; (on_goal 1 => subst x); (on_goal 2 => clear_value x))
    | (intro x; clear_value x)
    | with_reducible first
        | apply Frame.ite | apply Frame.refl | assumption | apply Frame.after (State.enterSafe_frame ..)
        | apply Frame.after (State.genStale_frame ..) | apply Frame.after (State.imgState_frame ..)
        | apply Frame.step (State.raise_frame ..) | apply Frame.step (State.setF_frame ..)
        | apply Frame.after (State.setMode_frame ..) | ((conv => arg 3; arg 20); apply Frame.step (State.mk_frame ..))
    | exact rfl | exact Or.inl rfl | exact Or.inr rfl | (fail_if_no_progress simp; exact rfl) | split | dsimp only

theorem execTrainDone_frame (s : State) : Frames 0x59fc9de79b s (execTrainDone s) := by
  unfold execTrainDone
  iterate 80 all_goals try first
    | lift_lets
    | (intro x; refine Frame.cut (m := 0x59fc9de79b) (s := s) (t := x) ?_ fun _ => ?_; (on_goal 1 => subst x); (on_goal 2 => clear_value x))
    | (intro x; clear_value x)
    | with_reducible first
        | apply Frames.next | apply Frames.ite | apply Frame.ite | apply Frame.refl | assumption
        | apply Frame.after (State.trainOver_frame ..)
    | exact rfl | (fail_if_no_progress simp; exact rfl) | split | dsimp only

end Sys2Proof.Machine
end

