-- ==== Sys2Proof/Laws/FrameQueue.lean ====
section
/-! SUPPORT. The frame of every operation of Machine/Queue.lean. -/

set_option linter.all false

namespace Sys2Proof.Machine

theorem State.setCq_frame (s : State) (n : Nat) (c : Option CQ) : Frame 0x40 s (State.setCq s n c) := by
  unfold State.setCq
  iterate 80 all_goals try first
    | (intro x; clear_value x)
    | with_reducible first
        | apply Frame.refl | assumption | ((conv => arg 3; arg 20); apply Frame.step (State.mk_frame ..))
    | exact rfl | exact Or.inl rfl | exact Or.inr rfl | dsimp only

theorem State.dbIgnored_frame (s : State) (n kind cause v : Nat) :
    Frame 0x41150012 s (State.dbIgnored s n kind cause v) := by
  unfold State.dbIgnored
  iterate 80 all_goals try first
    | lift_lets
    | (intro x; refine Frame.cut (m := 0x41150012) (s := s) (t := x) ?_ fun _ => ?_; (on_goal 1 => subst x); (on_goal 2 => clear_value x))
    | (intro x; clear_value x)
    | with_reducible first
        | apply Frame.refl | assumption | apply Frame.step (State.bump_frame ..) | apply Frame.step (State.raise_frame ..)
        | apply Frame.step (State.setR_frame ..)
    | exact rfl | (fail_if_no_progress simp; exact rfl) | dsimp only

theorem State.sqDoor_frame (s : State) (n v : Nat) (own : Bool) : Frame 0x41150052 s (State.sqDoor s n v own) := by
  unfold State.sqDoor
  iterate 80 all_goals try first
    | lift_lets
    | (intro x; refine Frame.cut (m := 0x41150052) (s := s) (t := x) ?_ fun _ => ?_; (on_goal 1 => subst x); (on_goal 2 => clear_value x))
    | (intro x; clear_value x)
    | with_reducible first
        | apply Frame.ite | apply Frame.refl | assumption | apply Frame.after (State.dbIgnored_frame ..)
        | apply Frame.after (State.setSq_frame ..) | ((conv => arg 3; arg 20); apply Frame.step (State.mk_frame ..))
    | exact rfl | exact Or.inl rfl | exact Or.inr rfl | (fail_if_no_progress simp; exact rfl) | split | dsimp only

theorem State.cqDoor_frame (s : State) (n v : Nat) : Frame 0x41150052 s (State.cqDoor s n v) := by
  unfold State.cqDoor
  iterate 80 all_goals try first
    | (intro x; clear_value x)
    | with_reducible first
        | apply Frame.ite | apply Frame.refl | assumption | apply Frame.after (State.dbIgnored_frame ..)
        | apply Frame.after (State.setCq_frame ..) | ((conv => arg 3; arg 20); apply Frame.step (State.mk_frame ..))
    | exact rfl | exact Or.inl rfl | exact Or.inr rfl | (fail_if_no_progress simp; exact rfl) | split | dsimp only

theorem State.doorGate_frame (s : State) (off n : Nat) (v : W32) : Frame 0x40150016 s (State.doorGate s off n v).1 := by
  unfold State.doorGate
  iterate 80 all_goals try first
    | lift_lets
    | (intro x; refine Frame.cut (m := 0x40150016) (s := s) (t := x) ?_ fun _ => ?_; (on_goal 1 => subst x); (on_goal 2 => clear_value x))
    | (intro x; clear_value x)
    | with_reducible first
        | apply Frame.ite | apply Frame.refl | assumption | apply Frame.after (State.holdWake_frame ..)
        | apply Frame.after (State.refuse_frame ..) | ((conv => arg 3; arg 20); apply Frame.step (State.mk_frame ..))
    | exact rfl | exact Or.inl rfl | exact Or.inr rfl | (fail_if_no_progress simp; exact rfl) | split | dsimp only

theorem State.sqDoorWrite_frame (s : State) (n : Nat) (v : W32) (own : Bool) :
    Frame 0x41150056 s (State.sqDoorWrite s n v own) := by
  unfold State.sqDoorWrite
  iterate 80 all_goals try first
    | lift_lets
    | (intro x; refine Frame.cut (m := 0x41150056) (s := s) (t := x) ?_ fun _ => ?_; (on_goal 1 => subst x); (on_goal 2 => clear_value x))
    | (intro x; clear_value x)
    | with_reducible first
        | apply Frame.ite | apply Frame.refl | assumption | apply Frame.after (State.doorGate_frame ..)
        | (apply Frame.of_pair_fst (State.doorGate_frame ..); (on_goal 1 => assumption))
        | apply Frame.after (State.sqDoor_frame ..)
    | exact rfl | (fail_if_no_progress simp; exact rfl) | split | dsimp only

theorem State.cqDoorWrite_frame (s : State) (n : Nat) (v : W32) : Frame 0x41150056 s (State.cqDoorWrite s n v) := by
  unfold State.cqDoorWrite
  iterate 80 all_goals try first
    | lift_lets
    | (intro x; refine Frame.cut (m := 0x41150056) (s := s) (t := x) ?_ fun _ => ?_; (on_goal 1 => subst x); (on_goal 2 => clear_value x))
    | (intro x; clear_value x)
    | with_reducible first
        | apply Frame.ite | apply Frame.refl | assumption | apply Frame.after (State.cqDoor_frame ..)
        | apply Frame.after (State.doorGate_frame ..)
        | (apply Frame.of_pair_fst (State.doorGate_frame ..); (on_goal 1 => assumption))
    | exact rfl | (fail_if_no_progress simp; exact rfl) | split | dsimp only

theorem execSqDoorbell_frame (n : Nat) (v : W32) (own : Bool) (s : State) :
    Frames 0x41150056 s (execSqDoorbell n v own s) := by
  unfold execSqDoorbell
  iterate 80 all_goals try first
    | with_reducible first
        | apply Frames.next | apply Frames.ite | apply Frame.ite | apply Frame.refl | assumption
        | apply Frame.after (State.sqDoorWrite_frame ..)
    | exact rfl | (fail_if_no_progress simp; exact rfl) | split | dsimp only

theorem execCqDoorbell_frame (n : Nat) (v : W32) (s : State) : Frames 0x41150056 s (execCqDoorbell n v s) := by
  unfold execCqDoorbell
  iterate 80 all_goals try first
    | with_reducible first
        | apply Frames.next | apply Frames.ite | apply Frame.ite | apply Frame.refl | assumption
        | apply Frame.after (State.cqDoorWrite_frame ..)
    | exact rfl | (fail_if_no_progress simp; exact rfl) | split | dsimp only

theorem State.entryResp_frame (s : State) (addr resp : Nat) : Frame 0x42150012 s (State.entryResp s addr resp) := by
  unfold State.entryResp
  iterate 80 all_goals try first
    | with_reducible first
        | apply Frame.ite | apply Frame.refl | assumption | apply Frame.after (State.dramCorrected_frame ..)
        | apply Frame.after (State.dramUncorr_frame ..)
    | exact rfl | (fail_if_no_progress simp; exact rfl) | split | dsimp only

theorem State.cacheEntry_frame (s : State) (n : Nat) (q : SQ) (bytes : Bytes) (resp : Nat) :
    Frame 0x42151052 s (State.cacheEntry s n q bytes resp) := by
  unfold State.cacheEntry
  iterate 80 all_goals try first
    | lift_lets
    | (intro x; refine Frame.cut (m := 0x42151052) (s := s) (t := x) ?_ fun _ => ?_; (on_goal 1 => subst x); (on_goal 2 => clear_value x))
    | (intro x; clear_value x)
    | with_reducible first
        | apply Frame.ite | apply Frame.refl | assumption | apply Frame.after (State.entryResp_frame ..)
        | apply Frame.after (State.setSq_frame ..) | ((conv => arg 3; arg 20); apply Frame.step (State.mk_frame ..))
    | exact rfl | exact Or.inl rfl | exact Or.inr rfl | (fail_if_no_progress simp; exact rfl) | split | dsimp only

theorem execEntryFetch_frame (n : Nat) (bytes : Bytes) (resp : Nat) (s : State) (begins : Bool := false) :
    Frames 0x42151052 s (execEntryFetch n bytes resp s begins) := by
  unfold execEntryFetch
  iterate 80 all_goals try first
    | (intro x; clear_value x)
    | with_reducible first
        | apply Frames.next | apply Frames.ite | apply Frame.ite | apply Frame.refl | assumption
        | apply Frame.after (State.cacheEntry_frame ..) | apply Frame.after (State.entryResp_frame ..)
        | apply Frame.after (State.setSq_frame ..) | ((conv => arg 3; arg 20); apply Frame.step (State.mk_frame ..))
    | exact rfl | exact Or.inl rfl | exact Or.inr rfl | (fail_if_no_progress simp; exact rfl) | split | dsimp only

theorem execOwnRecheckExpiry_frame (n : Nat) (bytes : Bytes) (resp : Nat) (s : State) :
    Frames 0x42151052 s (execOwnRecheckExpiry n bytes resp s) := by
  unfold execOwnRecheckExpiry
  iterate 80 all_goals try first
    | with_reducible first
        | apply Frames.next | apply Frames.ite | apply Frame.ite | apply Frame.refl | assumption
        | apply Frame.after (State.cacheEntry_frame ..)
    | exact rfl | (fail_if_no_progress simp; exact rfl) | split | dsimp only

theorem State.clearOwn_frame (s : State) (n : Nat) (q : SQ) (e : Cached) (cause : Nat) :
    Frame 0x40010041 s (State.clearOwn s n q e cause) := by
  unfold State.clearOwn
  iterate 80 all_goals try first
    | (intro x; clear_value x)
    | with_reducible first
        | apply Frame.ite | apply Frame.refl | assumption | apply Frame.after (State.fab_frame ..)
        | ((conv => arg 3; arg 20); apply Frame.step (State.mk_frame ..))
    | exact rfl | exact Or.inl rfl | exact Or.inr rfl | (fail_if_no_progress simp; exact rfl) | split | dsimp only

theorem State.admitEnvs_frame (s : State) (b : Bytes) : Frame 0x59fa1dffdb s (State.admitEnvs s b).2 := by
  unfold State.admitEnvs
  iterate 80 all_goals try first
    | lift_lets
    | (intro x; refine Frame.cut (m := 0x59fa1dffdb) (s := s) (t := x) ?_ fun _ => ?_; (on_goal 1 => subst x); (on_goal 2 => clear_value x))
    | (intro x; clear_value x)
    | with_reducible first
        | apply Frame.ite | apply Frame.refl | assumption | apply Frame.after (State.envChecks_frame ..)
        | (apply Frame.of_pair (State.envChecks_frame ..); (on_goal 1 => assumption))
    | exact rfl | (fail_if_no_progress simp; exact rfl) | split | dsimp only

theorem State.admitHead_frame (s : State) (n : Nat) (q : SQ) (e : Cached) :
    Frame 0x59fb1dffdb s (State.admitHead s n q e) := by
  unfold State.admitHead
  iterate 80 all_goals try first
    | lift_lets
    | (intro x; refine Frame.cut (m := 0x59fb1dffdb) (s := s) (t := x) ?_ fun _ => ?_; (on_goal 1 => subst x); (on_goal 2 => clear_value x))
    | (intro x; clear_value x)
    | with_reducible first
        | apply Frame.ite | apply Frame.refl | assumption | apply Frame.after (State.admitEnvs_frame ..)
        | (apply Frame.of_pair (State.admitEnvs_frame ..); (on_goal 1 => assumption))
        | apply Frame.step (State.bump_frame ..) | apply Frame.after (State.clearOwn_frame ..)
        | apply Frame.after (State.fresh_frame ..) | (apply Frame.of_pair (State.fresh_frame ..); (on_goal 1 => assumption))
        | apply Frame.step (State.raise_frame ..) | apply Frame.after (State.safeSettle_frame ..)
        | apply Frame.step (State.setBit_frame ..) | apply Frame.step (State.setR_frame ..)
        | apply Frame.after (State.setSq_frame ..) | (apply Frame.of_pair0; (on_goal 1 => assumption))
        | ((conv => arg 3; arg 20); apply Frame.step (State.mk_frame ..))
    | exact rfl | exact Or.inl rfl | exact Or.inr rfl | (rw [regGroup_bits _ _ (by decide) (by decide)]; exact rfl)
    | (fail_if_no_progress simp; exact rfl) | split | dsimp only

theorem execAdmission_frame (s : State) : Frames 0x59fb1dffdb s (execAdmission s) := by
  unfold execAdmission
  iterate 80 all_goals try first
    | (intro x; clear_value x)
    | with_reducible first
        | apply Frames.next | apply Frame.refl | assumption | apply Frame.after (State.admitHead_frame ..)
        | ((conv => arg 3; arg 20); apply Frame.step (State.mk_frame ..))
    | exact rfl | exact Or.inl rfl | exact Or.inr rfl | (fail_if_no_progress simp; exact rfl) | split | dsimp only

theorem State.writeCompletion_frame (s : State) (n : Nat) (q : SQ) (cqn : Nat) (c : CQ) (d : Desc) (left : Nat) :
    Frame 0x40010041 s (State.writeCompletion s n q cqn c d left) := by
  unfold State.writeCompletion
  iterate 80 all_goals try first
    | lift_lets
    | (intro x; refine Frame.cut (m := 0x40010041) (s := s) (t := x) ?_ fun _ => ?_; (on_goal 1 => subst x); (on_goal 2 => clear_value x))
    | (intro x; clear_value x)
    | with_reducible first
        | apply Frame.ite | apply Frame.refl | assumption | apply Frame.after (State.fab_frame ..)
        | apply Frame.after (State.setCq_frame ..) | apply Frame.after (State.setSq_frame ..)
        | ((conv => arg 3; arg 20); apply Frame.step (State.mk_frame ..))
    | exact rfl | exact Or.inl rfl | exact Or.inr rfl | (fail_if_no_progress simp; exact rfl) | split | dsimp only

theorem execCompletionWrite_frame (n : Nat) (s : State) : Frames 0x40010041 s (execCompletionWrite n s) := by
  unfold execCompletionWrite
  iterate 80 all_goals try first
    | with_reducible first
        | apply Frames.next | apply Frames.fault | apply Frames.ite | apply Frame.ite | apply Frame.refl | assumption
        | apply Frame.after (State.writeCompletion_frame ..)
    | exact rfl | (fail_if_no_progress simp; exact rfl) | split | dsimp only

theorem execCqWriteAck_frame (n : Nat) (s : State) : Frames 0x401500d2 s (execCqWriteAck n s) := by
  unfold execCqWriteAck
  iterate 80 all_goals try first
    | lift_lets
    | (intro x; refine Frame.cut (m := 0x401500d2) (s := s) (t := x) ?_ fun _ => ?_; (on_goal 1 => subst x); (on_goal 2 => clear_value x))
    | (intro x; clear_value x)
    | with_reducible first
        | apply Frames.next | apply Frames.fault | apply Frames.ite | apply Frame.ite | apply Frame.refl | assumption
        | apply Frame.after (State.fire_frame ..) | apply Frame.after (State.fresh_frame ..)
        | (apply Frame.of_pair (State.fresh_frame ..); (on_goal 1 => assumption)) | apply Frame.after (State.setCq_frame ..)
        | apply Frame.after (State.setSq_frame ..) | ((conv => arg 3; arg 20); apply Frame.step (State.mk_frame ..))
    | exact rfl | exact Or.inl rfl | exact Or.inr rfl | (fail_if_no_progress simp; exact rfl) | split | dsimp only

theorem execMailbagTimeout_frame (n : Nat) (s : State) : Frames 0x40 s (execMailbagTimeout n s) := by
  unfold execMailbagTimeout
  iterate 80 all_goals try first
    | lift_lets
    | (intro x; refine Frame.cut (m := 0x40) (s := s) (t := x) ?_ fun _ => ?_; (on_goal 1 => subst x); (on_goal 2 => clear_value x))
    | (intro x; clear_value x)
    | with_reducible first
        | apply Frames.next | apply Frames.ite | apply Frame.ite | apply Frame.refl | assumption
        | apply Frame.after (State.fresh_frame ..) | (apply Frame.of_pair (State.fresh_frame ..); (on_goal 1 => assumption))
        | apply Frame.after (State.setSq_frame ..) | ((conv => arg 3; arg 20); apply Frame.step (State.mk_frame ..))
    | exact rfl | exact Or.inl rfl | exact Or.inr rfl | (fail_if_no_progress simp; exact rfl) | split | dsimp only

theorem execCqWriteError_frame (n : Nat) (s : State) : Frames 0x41150052 s (execCqWriteError n s) := by
  unfold execCqWriteError
  iterate 80 all_goals try first
    | (intro x; clear_value x)
    | with_reducible first
        | apply Frames.next | apply Frames.fault | apply Frames.ite | apply Frame.ite | apply Frame.refl | assumption
        | apply Frame.step (State.raise_frame ..) | apply Frame.step (State.setBit_frame ..)
        | apply Frame.after (State.setCq_frame ..) | ((conv => arg 3; arg 20); apply Frame.step (State.mk_frame ..))
    | exact rfl | exact Or.inl rfl | exact Or.inr rfl | (rw [regGroup_bits _ _ (by decide) (by decide)]; exact rfl)
    | (fail_if_no_progress simp; exact rfl) | split | dsimp only

theorem State.resumeSq_frame (s : State) (n : Nat) : Frame 0x1000040 s (State.resumeSq s n) := by
  unfold State.resumeSq
  iterate 80 all_goals try first
    | (intro x; clear_value x)
    | with_reducible first
        | apply Frame.refl | assumption | apply Frame.step (State.setBit_frame ..) | apply Frame.after (State.setSq_frame ..)
        | ((conv => arg 3; arg 20); apply Frame.step (State.mk_frame ..))
    | exact rfl | exact Or.inl rfl | exact Or.inr rfl | (rw [regGroup_bits _ _ (by decide) (by decide)]; exact rfl)
    | (fail_if_no_progress simp; exact rfl) | split | dsimp only

theorem State.resumeCq_frame (s : State) (n : Nat) : Frame 0x41010041 s (State.resumeCq s n) := by
  unfold State.resumeCq
  iterate 80 all_goals try first
    | lift_lets
    | (intro x; refine Frame.cut (m := 0x41010041) (s := s) (t := x) ?_ fun _ => ?_; (on_goal 1 => subst x); (on_goal 2 => clear_value x))
    | (intro x; clear_value x)
    | with_reducible first
        | apply Frame.ite | apply Frame.refl | assumption | apply Frame.after (State.fab_frame ..)
        | apply Frame.step (State.setBit_frame ..) | apply Frame.after (State.setCq_frame ..)
        | ((conv => arg 3; arg 20); apply Frame.step (State.mk_frame ..))
    | exact rfl | exact Or.inl rfl | exact Or.inr rfl | (rw [regGroup_bits _ _ (by decide) (by decide)]; exact rfl)
    | (fail_if_no_progress simp; exact rfl) | split | dsimp only

theorem execResumeQueue_frame (id : Nat) (s : State) : Frames 0x410100c1 s (execResumeQueue id s) := by
  unfold execResumeQueue
  iterate 80 all_goals try first
    | lift_lets
    | (intro x; refine Frame.cut (m := 0x410100c1) (s := s) (t := x) ?_ fun _ => ?_; (on_goal 1 => subst x); (on_goal 2 => clear_value x))
    | (intro x; clear_value x)
    | with_reducible first
        | apply Frames.next | apply Frames.ite | apply Frame.ite | apply Frame.refl | assumption
        | apply Frame.after (State.finish_frame ..) | apply Frame.after (State.resumeCq_frame ..)
        | apply Frame.after (State.resumeSq_frame ..)
    | exact rfl | (fail_if_no_progress simp; exact rfl) | split | dsimp only

theorem execCreateCq_frame (id : Nat) (s : State) : Frames 0xd0 s (execCreateCq id s) := by
  unfold execCreateCq
  iterate 80 all_goals try first
    | lift_lets
    | (intro x; refine Frame.cut (m := 0xd0) (s := s) (t := x) ?_ fun _ => ?_; (on_goal 1 => subst x); (on_goal 2 => clear_value x))
    | (intro x; clear_value x)
    | with_reducible first
        | apply Frames.next | apply Frames.ite | apply Frame.ite | apply Frame.refl | assumption
        | apply Frame.after (State.finish_frame ..) | apply Frame.after (State.setCq_frame ..)
        | ((conv => arg 3; arg 20); apply Frame.step (State.mk_frame ..))
    | exact rfl | exact Or.inl rfl | exact Or.inr rfl | (fail_if_no_progress simp; exact rfl) | split | dsimp only

theorem execCreateSq_frame (id : Nat) (s : State) : Frames 0xc0 s (execCreateSq id s) := by
  unfold execCreateSq
  iterate 80 all_goals try first
    | lift_lets
    | (intro x; refine Frame.cut (m := 0xc0) (s := s) (t := x) ?_ fun _ => ?_; (on_goal 1 => subst x); (on_goal 2 => clear_value x))
    | (intro x; clear_value x)
    | with_reducible first
        | apply Frames.next | apply Frames.fault | apply Frames.ite | apply Frame.ite | apply Frame.refl | assumption
        | apply Frame.after (State.finish_frame ..) | apply Frame.after (State.setSq_frame ..)
        | ((conv => arg 3; arg 20); apply Frame.step (State.mk_frame ..))
    | exact rfl | exact Or.inl rfl | exact Or.inr rfl | (fail_if_no_progress simp; exact rfl) | split | dsimp only

theorem execDeleteCq_frame (id : Nat) (s : State) : Frames 0x10000c0 s (execDeleteCq id s) := by
  unfold execDeleteCq
  iterate 80 all_goals try first
    | lift_lets
    | (intro x; refine Frame.cut (m := 0x10000c0) (s := s) (t := x) ?_ fun _ => ?_; (on_goal 1 => subst x); (on_goal 2 => clear_value x))
    | (intro x; clear_value x)
    | with_reducible first
        | apply Frames.next | apply Frames.ite | apply Frame.ite | apply Frame.refl | assumption
        | apply Frame.after (State.finish_frame ..) | apply Frame.step (State.setBit_frame ..)
        | apply Frame.after (State.setCq_frame ..)
    | exact rfl | (rw [regGroup_bits _ _ (by decide) (by decide)]; exact rfl) | (fail_if_no_progress simp; exact rfl) | split
    | dsimp only

theorem execInvalidateEntries_frame (id : Nat) (s : State) : Frames 0xc0 s (execInvalidateEntries id s) := by
  unfold execInvalidateEntries
  iterate 80 all_goals try first
    | lift_lets
    | (intro x; refine Frame.cut (m := 0xc0) (s := s) (t := x) ?_ fun _ => ?_; (on_goal 1 => subst x); (on_goal 2 => clear_value x))
    | (intro x; clear_value x)
    | with_reducible first
        | apply Frames.next | apply Frames.ite | apply Frame.ite | apply Frame.refl | assumption
        | apply Frame.after (State.finish_frame ..) | apply Frame.after (State.setSq_frame ..)
        | ((conv => arg 3; arg 20); apply Frame.step (State.mk_frame ..))
    | exact rfl | exact Or.inl rfl | exact Or.inr rfl | (fail_if_no_progress simp; exact rfl) | split | dsimp only

theorem State.dropFailedWrite_frame (s : State) (n cqn : Nat) : Frame 0x40 s (State.dropFailedWrite s n cqn) := by
  unfold State.dropFailedWrite
  iterate 80 all_goals try first
    | (intro x; clear_value x)
    | with_reducible first
        | apply Frame.ite | apply Frame.refl | assumption | apply Frame.after (State.setCq_frame ..)
        | ((conv => arg 3; arg 20); apply Frame.step (State.mk_frame ..))
    | exact rfl | exact Or.inl rfl | exact Or.inr rfl | (fail_if_no_progress simp; exact rfl) | split | dsimp only

theorem execSqDeleteEnd_frame (n : Nat) (s : State) : Frames 0x10000c0 s (execSqDeleteEnd n s) := by
  unfold execSqDeleteEnd
  iterate 80 all_goals try first
    | lift_lets
    | (intro x; refine Frame.cut (m := 0x10000c0) (s := s) (t := x) ?_ fun _ => ?_; (on_goal 1 => subst x); (on_goal 2 => clear_value x))
    | (intro x; clear_value x)
    | with_reducible first
        | apply Frames.next | apply Frames.fault | apply Frames.ite | apply Frame.ite | apply Frame.refl | assumption
        | apply Frame.after (State.dropFailedWrite_frame ..) | apply Frame.after (State.finish_frame ..)
        | apply Frame.step (State.setBit_frame ..) | apply Frame.after (State.setSq_frame ..)
        | ((conv => arg 3; arg 20); apply Frame.step (State.mk_frame ..))
    | exact rfl | exact Or.inl rfl | exact Or.inr rfl | (rw [regGroup_bits _ _ (by decide) (by decide)]; exact rfl)
    | (fail_if_no_progress simp; exact rfl) | split | dsimp only

theorem State.adminOpen_frame (s : State) : Frame 0x50 s (State.adminOpen s) := by
  unfold State.adminOpen
  iterate 80 all_goals try first
    | lift_lets
    | (intro x; refine Frame.cut (m := 0x50) (s := s) (t := x) ?_ fun _ => ?_; (on_goal 1 => subst x); (on_goal 2 => clear_value x))
    | (intro x; clear_value x)
    | with_reducible first
        | apply Frame.ite | apply Frame.refl | assumption | apply Frame.after (State.setCq_frame ..)
        | apply Frame.after (State.setSq_frame ..) | ((conv => arg 3; arg 20); apply Frame.step (State.mk_frame ..))
    | exact rfl | exact Or.inl rfl | exact Or.inr rfl | (fail_if_no_progress simp; exact rfl) | split | dsimp only

theorem State.adminEnableWrite_frame (s : State) (v : Nat) : Frame 0x41150052 s (State.adminEnableWrite s v) := by
  unfold State.adminEnableWrite
  iterate 80 all_goals try first
    | lift_lets
    | (intro x; refine Frame.cut (m := 0x41150052) (s := s) (t := x) ?_ fun _ => ?_; (on_goal 1 => subst x); (on_goal 2 => clear_value x))
    | (intro x; clear_value x)
    | with_reducible first
        | apply Frame.ite | apply Frame.refl | assumption | apply Frame.after (State.adminOpen_frame ..)
        | apply Frame.after (State.refuse_frame ..) | apply Frame.step (State.setBit_frame ..)
        | apply Frame.after (State.setCq_frame ..) | apply Frame.step (State.setF_frame ..)
        | apply Frame.after (State.setSq_frame ..)
    | exact rfl | (rw [regGroup_bits _ _ (by decide) (by decide)]; exact rfl) | (fail_if_no_progress simp; exact rfl) | split
    | dsimp only

theorem State.adminFieldsWrite_frame (s : State) (v : Nat) : Frame 0x41150012 s (State.adminFieldsWrite s v) := by
  unfold State.adminFieldsWrite
  iterate 80 all_goals try first
    | with_reducible first
        | apply Frame.ite | apply Frame.refl | assumption | apply Frame.after (State.refuse_frame ..)
        | apply Frame.step (State.setF_frame ..)
    | exact rfl | (fail_if_no_progress simp; exact rfl) | split | dsimp only

theorem State.adminResumeWrite_frame (s : State) (v : Nat) : Frame 0x41010041 s (State.adminResumeWrite s v) := by
  unfold State.adminResumeWrite
  iterate 80 all_goals try first
    | with_reducible first
        | apply Frame.ite | apply Frame.refl | assumption | apply Frame.after (State.resumeCq_frame ..)
        | apply Frame.after (State.resumeSq_frame ..)
    | exact rfl | (fail_if_no_progress simp; exact rfl) | split | dsimp only

theorem State.adminCfgWrite_frame (s : State) (v : Nat) : Frame 0x41150053 s (State.adminCfgWrite s v) := by
  unfold State.adminCfgWrite
  iterate 80 all_goals try first
    | with_reducible first
        | apply Frame.refl | assumption | apply Frame.after (State.adminEnableWrite_frame ..)
        | apply Frame.after (State.adminFieldsWrite_frame ..) | apply Frame.after (State.adminResumeWrite_frame ..)
    | exact rfl | (fail_if_no_progress simp; exact rfl) | dsimp only

end Sys2Proof.Machine
end

