-- ==== Sys2Proof/Laws/FrameDescriptors.lean ====
section
/-! SUPPORT. The frame of every operation of Machine/Descriptors.lean. -/

set_option linter.all false

namespace Sys2Proof.Machine

theorem State.earlyResult_frame (s : State) (id i a : Nat) (r : EnvRes) :
    Frame 0x42151893 s (State.earlyResult s id i a r) := by
  unfold State.earlyResult
  iterate 80 all_goals try first
    | lift_lets
    | (intro x; refine Frame.cut (m := 0x42151893) (s := s) (t := x) ?_ fun _ => ?_; (on_goal 1 => subst x); (on_goal 2 => clear_value x))
    | (intro x; clear_value x)
    | with_reducible first
        | apply Frame.ite | apply Frame.refl | assumption | apply Frame.after (State.fillInstall_frame ..)
        | (apply Frame.of_pair_fst (State.fillInstall_frame ..); (on_goal 1 => assumption))
        | apply Frame.after (State.setDesc_frame ..) | apply Frame.after (State.writeEnv_frame ..)
        | ((conv => arg 3; arg 20); apply Frame.step (State.mk_frame ..))
    | exact rfl | exact Or.inl rfl | exact Or.inr rfl | (fail_if_no_progress simp; exact rfl) | split | dsimp only

theorem State.readStart_frame (s : State) (d : Desc) (header ladder recon : Bool) :
    Frame 0x59fe1dffdb s (State.readStart s d header ladder recon) := by
  unfold State.readStart
  iterate 80 all_goals try first
    | lift_lets
    | (intro x; refine Frame.cut (m := 0x59fe1dffdb) (s := u) (t := x) ?_ fun _ => ?_; (on_goal 1 => subst x); (on_goal 2 => clear_value x))
    | (intro x; refine Frame.cut (m := 0x59fe1dffdb) (s := s) (t := x) ?_ fun _ => ?_; (on_goal 1 => subst x); (on_goal 2 => clear_value x))
    | (intro x; clear_value x)
    | with_reducible first
        | apply Frame.ite | apply Frame.refl | assumption | apply Frame.foldl (k := fun u _ => ?_)
        | apply Frame.after (State.descCheck_frame ..) | apply Frame.after (State.earlyResult_frame ..)
        | apply Frame.after (State.enqueueReads_frame ..) | apply Frame.after (State.jobFailed_frame ..)
        | apply Frame.after (State.makeJobs_frame ..)
        | (apply Frame.of_pair (State.makeJobs_frame ..); (on_goal 1 => assumption))
        | apply Frame.after (State.setDesc_frame ..) | ((conv => arg 3; arg 20); apply Frame.step (State.mk_frame ..))
    | exact rfl | exact Or.inl rfl | exact Or.inr rfl | (fail_if_no_progress simp; exact rfl) | split | dsimp only

theorem execRead_frame (id : Nat) (s : State) : Frames 0x59fe1dffdb s (execRead id s) := by
  unfold execRead
  iterate 80 all_goals try first
    | with_reducible first
        | apply Frames.next | apply Frame.refl | assumption | apply Frame.after (State.readStart_frame ..)
    | exact rfl | (fail_if_no_progress simp; exact rfl) | split | dsimp only

theorem execReadHeaders_frame (id : Nat) (s : State) : Frames 0x59fe1dffdb s (execReadHeaders id s) := by
  unfold execReadHeaders
  iterate 80 all_goals try first
    | with_reducible first
        | apply Frames.next | apply Frame.refl | assumption | apply Frame.after (State.readStart_frame ..)
    | exact rfl | (fail_if_no_progress simp; exact rfl) | split | dsimp only

theorem execCopy_frame (id : Nat) (s : State) : Frames 0x59fe1dffdb s (execCopy id s) := by
  unfold execCopy
  iterate 80 all_goals try first
    | with_reducible first
        | apply Frames.next | apply Frame.refl | assumption | apply Frame.after (State.readStart_frame ..)
    | exact rfl | (fail_if_no_progress simp; exact rfl) | split | dsimp only

theorem execLoadPigeonhole_frame (id : Nat) (s : State) : Frames 0x59fe1dffdb s (execLoadPigeonhole id s) := by
  unfold execLoadPigeonhole
  iterate 80 all_goals try first
    | with_reducible first
        | apply Frames.next | apply Frame.refl | assumption | apply Frame.after (State.readStart_frame ..)
    | exact rfl | (fail_if_no_progress simp; exact rfl) | split | dsimp only

theorem State.abortScans_frame (s : State) (n : Nat) : Frame 0x50010481 s (State.abortScans s n) := by
  unfold State.abortScans
  iterate 80 all_goals try first
    | lift_lets
    | (intro x; refine Frame.cut (m := 0x50010481) (s := u) (t := x) ?_ fun _ => ?_; (on_goal 1 => subst x); (on_goal 2 => clear_value x))
    | (intro x; refine Frame.cut (m := 0x50010481) (s := s) (t := x) ?_ fun _ => ?_; (on_goal 1 => subst x); (on_goal 2 => clear_value x))
    | (intro x; clear_value x)
    | with_reducible first
        | apply Frame.refl | assumption | apply Frame.foldl (k := fun u _ => ?_)
        | apply Frame.after (State.closeScan_frame ..) | apply Frame.after (State.scanFinish_frame ..)
        | apply Frame.after (State.summaryUnread_frame ..)
    | exact rfl | (fail_if_no_progress simp; exact rfl) | dsimp only

theorem execDeleteSq_frame (id : Nat) (s : State) : Frames 0x52019dc1 s (execDeleteSq id s) := by
  unfold execDeleteSq
  iterate 80 all_goals try first
    | lift_lets
    | (intro x; refine Frame.cut (m := 0x52019dc1) (s := s) (t := x) ?_ fun _ => ?_; (on_goal 1 => subst x); (on_goal 2 => clear_value x))
    | (intro x; clear_value x)
    | with_reducible first
        | apply Frames.next | apply Frames.ite | apply Frame.ite | apply Frame.refl | assumption
        | apply Frame.after (State.abortScans_frame ..) | apply Frame.after (State.finish_frame ..)
        | apply Frame.after (State.flushLeaving_frame ..) | apply Frame.after (State.setDesc_frame ..)
        | apply Frame.after (State.setSq_frame ..) | ((conv => arg 3; arg 20); apply Frame.step (State.mk_frame ..))
    | exact rfl | exact Or.inl rfl | exact Or.inr rfl | (fail_if_no_progress simp; exact rfl) | split | dsimp only

theorem execDiagPing_frame (id : Nat) (s : State) : Frames 0x80 s (execDiagPing id s) := by
  unfold execDiagPing
  iterate 80 all_goals try first
    | with_reducible first
        | apply Frames.next | apply Frame.refl | assumption | apply Frame.after (State.finish_frame ..)
    | exact rfl | (fail_if_no_progress simp; exact rfl) | split | dsimp only

theorem execDiagNoticeTest_frame (id : Nat) (s : State) : Frames 0x40150092 s (execDiagNoticeTest id s) := by
  unfold execDiagNoticeTest
  iterate 80 all_goals try first
    | with_reducible first
        | apply Frames.next | apply Frame.refl | assumption | apply Frame.after (State.finish_frame ..)
        | apply Frame.after (State.fire_frame ..)
    | exact rfl | (fail_if_no_progress simp; exact rfl) | split | dsimp only

theorem State.rawStart_frame (s : State) (d : Desc) : Frame 0x180 s (State.rawStart s d) := by
  unfold State.rawStart
  iterate 80 all_goals try first
    | lift_lets
    | (intro x; refine Frame.cut (m := 0x180) (s := s) (t := x) ?_ fun _ => ?_; (on_goal 1 => subst x); (on_goal 2 => clear_value x))
    | (intro x; clear_value x)
    | with_reducible first
        | apply Frame.ite | apply Frame.refl | assumption | apply Frame.after (State.enqueueReads_frame ..)
        | apply Frame.after (State.makeJobs_frame ..)
        | (apply Frame.of_pair (State.makeJobs_frame ..); (on_goal 1 => assumption))
        | apply Frame.after (State.setDesc_frame ..) | ((conv => arg 3; arg 20); apply Frame.step (State.mk_frame ..))
    | exact rfl | exact Or.inl rfl | exact Or.inr rfl | (fail_if_no_progress simp; exact rfl) | split | dsimp only

theorem execDiagRawRead_frame (id : Nat) (s : State) : Frames 0x180 s (execDiagRawRead id s) := by
  unfold execDiagRawRead
  iterate 80 all_goals try first
    | with_reducible first
        | apply Frames.next | apply Frame.refl | assumption | apply Frame.after (State.finish_frame ..)
        | apply Frame.after (State.rawStart_frame ..)
    | exact rfl | (fail_if_no_progress simp; exact rfl) | split | dsimp only

end Sys2Proof.Machine
end

