-- ==== Sys2Proof/Laws/FrameNotice.lean ====
section
/-! SUPPORT. The frame of every operation of Machine/Notice.lean. -/

set_option linter.all false

namespace Sys2Proof.Machine

theorem State.presentTo_frame (s : State) (c src : Nat) : Frame 0x10010 s (State.presentTo s c src) := by
  unfold State.presentTo
  iterate 80 all_goals try first
    | (intro x; clear_value x)
    | with_reducible first
        | apply Frame.refl | assumption | apply Frame.after (State.emit_frame ..)
        | apply Frame.after (State.setCore_frame ..) | ((conv => arg 3; arg 20); apply Frame.step (State.mk_frame ..))
    | exact rfl | exact Or.inl rfl | exact Or.inr rfl | (fail_if_no_progress simp; exact rfl) | dsimp only

theorem State.arbitrate_frame (s : State) (c : Nat) : Frame 0x10010 s (State.arbitrate s c) := by
  unfold State.arbitrate
  iterate 80 all_goals try first
    | lift_lets
    | (intro x; refine Frame.cut (m := 0x10010) (s := s) (t := x) ?_ fun _ => ?_; (on_goal 1 => subst x); (on_goal 2 => clear_value x))
    | (intro x; clear_value x)
    | with_reducible first
        | apply Frame.ite | apply Frame.refl | assumption | apply Frame.after (State.emit_frame ..)
        | apply Frame.after (State.presentTo_frame ..) | apply Frame.after (State.releaseIdle_frame ..)
        | apply Frame.after (State.setCore_frame ..) | apply Frame.after (State.withdraw_frame ..)
        | ((conv => arg 3; arg 20); apply Frame.step (State.mk_frame ..))
    | exact rfl | exact Or.inl rfl | exact Or.inr rfl | (fail_if_no_progress simp; exact rfl) | split | dsimp only

theorem State.stackFault_frame (s : State) (c cause named : Nat) :
    Frame 0x40350012 s (State.stackFault s c cause named) := by
  unfold State.stackFault
  iterate 80 all_goals try first
    | lift_lets
    | (intro x; refine Frame.cut (m := 0x40350012) (s := s) (t := x) ?_ fun _ => ?_; (on_goal 1 => subst x); (on_goal 2 => clear_value x))
    | (intro x; clear_value x)
    | with_reducible first
        | apply Frame.refl | assumption | apply Frame.after (State.fire_frame ..)
        | apply Frame.after (State.setCore_frame ..) | apply Frame.step (State.setF_frame ..)
        | ((conv => arg 3; arg 20); apply Frame.step (State.mk_frame ..))
    | exact rfl | exact Or.inl rfl | exact Or.inr rfl | (fail_if_no_progress simp; exact rfl) | dsimp only

theorem State.endNotice_frame (s : State) (c off v : Nat) (fast : Bool) :
    Frame 0x40350012 s (State.endNotice s c off v fast) := by
  unfold State.endNotice
  iterate 80 all_goals try first
    | lift_lets
    | (intro x; refine Frame.cut (m := 0x40350012) (s := s) (t := x) ?_ fun _ => ?_; (on_goal 1 => subst x); (on_goal 2 => clear_value x))
    | (intro x; clear_value x)
    | with_reducible first
        | apply Frame.ite | apply Frame.refl | assumption | apply Frame.after (State.refuse_frame ..)
        | apply Frame.step (State.setBit_frame ..) | apply Frame.after (State.setCore_frame ..)
        | apply Frame.after (State.stackFault_frame ..) | ((conv => arg 3; arg 20); apply Frame.step (State.mk_frame ..))
    | exact rfl | exact Or.inl rfl | exact Or.inr rfl | (rw [regGroup_bits _ _ (by decide) (by decide)]; exact rfl)
    | (fail_if_no_progress simp; exact rfl) | split | dsimp only

theorem State.stackReset_frame (s : State) (c : Nat) : Frame 0x300010 s (State.stackReset s c) := by
  unfold State.stackReset
  iterate 80 all_goals try first
    | lift_lets
    | (intro x; refine Frame.cut (m := 0x300010) (s := u) (t := x) ?_ fun _ => ?_; (on_goal 1 => subst x); (on_goal 2 => clear_value x))
    | (intro x; refine Frame.cut (m := 0x300010) (s := s) (t := x) ?_ fun _ => ?_; (on_goal 1 => subst x); (on_goal 2 => clear_value x))
    | (intro x; clear_value x)
    | with_reducible first
        | apply Frame.refl | assumption | apply Frame.foldl (k := fun u _ => ?_) | apply Frame.step (State.setBit_frame ..)
        | apply Frame.after (State.setCore_frame ..) | apply Frame.step (State.setR_frame ..)
        | ((conv => arg 3; arg 20); apply Frame.step (State.mk_frame ..))
    | exact rfl | exact Or.inl rfl | exact Or.inr rfl | (rw [regGroup_bits _ _ (by decide) (by decide)]; exact rfl)
    | (fail_if_no_progress simp; exact rfl) | dsimp only

theorem execSourceFire_frame (src : Nat) (s : State) : Frames 0x40150012 s (execSourceFire src s) := by
  unfold execSourceFire
  iterate 80 all_goals try first
    | with_reducible first
        | apply Frames.next | apply Frame.refl | assumption | apply Frame.after (State.fire_frame ..)
    | exact rfl | (fail_if_no_progress simp; exact rfl) | dsimp only

theorem State.letterbox_frame (s : State) (v : Nat) : Frame 0x40150012 s (State.letterbox s v) := by
  unfold State.letterbox
  iterate 80 all_goals try first
    | with_reducible first
        | apply Frame.ite | apply Frame.refl | assumption | apply Frame.after (State.fire_frame ..)
        | apply Frame.after (State.refuse_frame ..)
    | exact rfl | (fail_if_no_progress simp; exact rfl) | split | dsimp only

theorem execNoticeArbitration_frame (c : Nat) (s : State) : Frames 0x10010 s (execNoticeArbitration c s) := by
  unfold execNoticeArbitration
  iterate 80 all_goals try first
    | with_reducible first
        | apply Frames.next | apply Frames.ite | apply Frame.ite | apply Frame.refl | assumption
        | apply Frame.after (State.arbitrate_frame ..)
    | exact rfl | (fail_if_no_progress simp; exact rfl) | split | dsimp only

theorem execNoticeAccept_frame (c : Nat) (s : State) : Frames 0x100010 s (execNoticeAccept c s) := by
  unfold execNoticeAccept
  iterate 80 all_goals try first
    | lift_lets
    | (intro x; refine Frame.cut (m := 0x100010) (s := s) (t := x) ?_ fun _ => ?_; (on_goal 1 => subst x); (on_goal 2 => clear_value x))
    | (intro x; clear_value x)
    | with_reducible first
        | apply Frames.next | apply Frames.ite | apply Frame.ite | apply Frame.refl | assumption
        | apply Frame.step (State.setBit_frame ..) | apply Frame.after (State.setCore_frame ..)
        | ((conv => arg 3; arg 20); apply Frame.step (State.mk_frame ..))
    | exact rfl | exact Or.inl rfl | exact Or.inr rfl | (rw [regGroup_bits _ _ (by decide) (by decide)]; exact rfl)
    | (fail_if_no_progress simp; exact rfl) | split | dsimp only

theorem execNoticePopEnd_frame (c : Nat) (s : State) (parity : Bool := false) :
    Frames 0x40358012 s (execNoticePopEnd c s parity) := by
  unfold execNoticePopEnd
  iterate 80 all_goals try first
    | lift_lets
    | (intro x; refine Frame.cut (m := 0x40358012) (s := s) (t := x) ?_ fun _ => ?_; (on_goal 1 => subst x); (on_goal 2 => clear_value x))
    | (intro x; clear_value x)
    | with_reducible first
        | apply Frames.next | apply Frames.ite | apply Frame.ite | apply Frame.refl | assumption
        | apply Frame.after (State.arbitrate_frame ..) | apply Frame.after (State.draw_frame ..)
        | (apply Frame.of_pair (State.draw_frame ..); (on_goal 1 => assumption)) | apply Frame.after (State.setCore_frame ..)
        | apply Frame.after (State.stackFault_frame ..) | ((conv => arg 3; arg 20); apply Frame.step (State.mk_frame ..))
    | exact rfl | exact Or.inl rfl | exact Or.inr rfl | (fail_if_no_progress simp; exact rfl) | split | dsimp only

theorem State.stackResets_frame (s : State) (v : Nat) : Frame 0x300010 s (State.stackResets s v) := by
  unfold State.stackResets
  iterate 80 all_goals try first
    | with_reducible first
        | apply Frame.ite | apply Frame.refl | assumption | apply Frame.foldl (k := fun u _ => ?_)
        | apply Frame.after (State.stackReset_frame ..)
    | exact rfl | (fail_if_no_progress simp; exact rfl) | split | dsimp only

theorem execModTimerExpiry_frame (g : Nat) (s : State) : Frames 0x10 s (execModTimerExpiry g s) := by
  unfold execModTimerExpiry
  iterate 80 all_goals try first
    | with_reducible first
        | apply Frames.next | apply Frames.ite | apply Frame.ite | apply Frame.refl | assumption
        | apply Frame.after (State.releaseGroup_frame ..)
    | exact rfl | (fail_if_no_progress simp; exact rfl) | split | dsimp only

theorem execCoreIdleChange_frame (c : Nat) (idle : Bool) (s : State) : Frames 0x110010 s (execCoreIdleChange c idle s) := by
  unfold execCoreIdleChange
  iterate 80 all_goals try first
    | lift_lets
    | (intro x; refine Frame.cut (m := 0x110010) (s := u) (t := x) ?_ fun _ => ?_; (on_goal 1 => subst x); (on_goal 2 => clear_value x))
    | (intro x; refine Frame.cut (m := 0x110010) (s := s) (t := x) ?_ fun _ => ?_; (on_goal 1 => subst x); (on_goal 2 => clear_value x))
    | (intro x; clear_value x)
    | with_reducible first
        | apply Frames.next | apply Frames.ite | apply Frame.ite | apply Frame.refl | assumption
        | apply Frame.foldl (k := fun u _ => ?_) | apply Frame.after (State.releaseIdle_frame ..)
        | apply Frame.after (State.setCore_frame ..) | apply Frame.after (State.strand_frame ..)
        | apply Frame.after (State.watchWake_frame ..) | ((conv => arg 3; arg 20); apply Frame.step (State.mk_frame ..))
    | exact rfl | exact Or.inl rfl | exact Or.inr rfl | (fail_if_no_progress simp; exact rfl) | split | dsimp only

theorem execRedirectTimeout_frame (src : Nat) (s : State) : Frames 0x110010 s (execRedirectTimeout src s) := by
  unfold execRedirectTimeout
  iterate 80 all_goals try first
    | lift_lets
    | (intro x; refine Frame.cut (m := 0x110010) (s := s) (t := x) ?_ fun _ => ?_; (on_goal 1 => subst x); (on_goal 2 => clear_value x))
    | (intro x; clear_value x)
    | with_reducible first
        | apply Frames.next | apply Frames.ite | apply Frame.ite | apply Frame.refl | assumption
        | apply Frame.after (State.strand_frame ..) | apply Frame.after (State.watchWake_frame ..)
        | ((conv => arg 3; arg 20); apply Frame.step (State.mk_frame ..))
    | exact rfl | exact Or.inl rfl | exact Or.inr rfl | (fail_if_no_progress simp; exact rfl) | split | dsimp only

end Sys2Proof.Machine
end

