-- ==== Sys2Proof/Laws/FrameAccess.lean ====
section
/-! SUPPORT. The frame of every operation of Machine/Access.lean. -/

set_option linter.all false

namespace Sys2Proof.Machine

theorem State.freeWord_frame (s : State) (w : Nat) : Frame 0x8000 s (State.freeWord s w).2 := by
  unfold State.freeWord
  iterate 80 all_goals try first
    | (intro x; clear_value x)
    | with_reducible first
        | apply Frame.refl | assumption | ((conv => arg 3; arg 20); apply Frame.step (State.mk_add_frame ..))
        | ((conv => arg 3; arg 20); apply Frame.step (State.mk_frame ..))
    | exact rfl | exact Or.inl rfl | exact Or.inr rfl | dsimp only

theorem State.wordData_frame (s : State) (w : Nat) : Frame 0x8000 s (State.wordData s w).2 := by
  unfold State.wordData
  iterate 80 all_goals try first
    | with_reducible first
        | apply Frame.ite | apply Frame.refl | assumption | apply Frame.after (State.freeWord_frame ..)
        | (apply Frame.of_pair (State.freeWord_frame ..); (on_goal 1 => assumption))
    | exact rfl | (fail_if_no_progress simp; exact rfl) | split | dsimp only

theorem State.windowRead_frame (s : State) : Frame 0x59fa1dffdb s (State.windowRead s).2 := by
  unfold State.windowRead
  iterate 80 all_goals try first
    | lift_lets
    | (intro x; refine Frame.cut (m := 0x59fa1dffdb) (s := s) (t := x) ?_ fun _ => ?_; (on_goal 1 => subst x); (on_goal 2 => clear_value x))
    | (intro x; clear_value x)
    | with_reducible first
        | apply Frame.ite | apply Frame.refl | assumption | apply Frame.after (State.freeWord_frame ..)
        | (apply Frame.of_pair (State.freeWord_frame ..); (on_goal 1 => assumption))
        | apply Frame.after (State.readWord_frame ..)
        | (apply Frame.of_triple (State.readWord_frame ..); (on_goal 1 => assumption))
        | apply Frame.after (State.wordData_frame ..)
        | (apply Frame.of_pair (State.wordData_frame ..); (on_goal 1 => assumption))
    | exact rfl | (fail_if_no_progress simp; exact rfl) | split | dsimp only

theorem winData_apart (m i : Nat) : Frame.apart m (regGroup (R.DBG_WIN_DATA i)) ⟨R.DBG_WIN_DATA i, 0, 32⟩ = true := by
  have h0 : R.DBG_WIN_DATA i ≠ R.MODE := by unfold R.DBG_WIN_DATA R.MODE; omega
  have h1 : R.DBG_WIN_DATA i ≠ R.SEC_STATUS := by unfold R.DBG_WIN_DATA R.SEC_STATUS; omega
  simp [Frame.apart, h0, h1]

theorem State.windowData_frame (s : State) (v : Nat) : Frame 0x80010000 s (State.windowData s v) := by
  unfold State.windowData
  iterate 80 all_goals try first
    | lift_lets
    | (intro x; refine Frame.cut (m := 0x80010000) (s := u) (t := x) ?_ fun _ => ?_; (on_goal 1 => subst x); (on_goal 2 => clear_value x))
    | (intro x; refine Frame.cut (m := 0x80010000) (s := s) (t := x) ?_ fun _ => ?_; (on_goal 1 => subst x); (on_goal 2 => clear_value x))
    | (intro x; clear_value x)
    | with_reducible first
        | apply Frame.refl | assumption | apply Frame.foldl (k := fun u _ => ?_) | apply Frame.after (State.emit_frame ..)
        | apply Frame.step (State.setR_frame ..)
    | exact rfl | (fail_if_no_progress simp; exact rfl) | exact winData_apart _ _ | dsimp only

theorem execDbgWinData0Read_frame (s : State) : Frames 0x59fa1dffdb s (execDbgWinData0Read s) := by
  unfold execDbgWinData0Read
  iterate 80 all_goals try first
    | with_reducible first
        | apply Frames.next | apply Frames.ite | apply Frame.ite | apply Frame.refl | assumption
        | apply Frame.after (State.logErr_frame ..) | apply Frame.after (State.windowData_frame ..)
        | apply Frame.after (State.windowRead_frame ..)
        | (apply Frame.of_pair (State.windowRead_frame ..); (on_goal 1 => assumption))
    | exact rfl | (fail_if_no_progress simp; exact rfl) | split | dsimp only

theorem State.putWord_frame (s : State) (w v : Nat) : Frame 0x1800 s (State.putWord s w v) := by
  unfold State.putWord
  iterate 80 all_goals try first
    | lift_lets
    | (intro x; refine Frame.cut (m := 0x1800) (s := s) (t := x) ?_ fun _ => ?_; (on_goal 1 => subst x); (on_goal 2 => clear_value x))
    | (intro x; clear_value x)
    | with_reducible first
        | apply Frame.ite | apply Frame.refl | assumption | apply Frame.after (State.setLine_frame ..)
        | apply Frame.after (State.wordsRewritten_frame ..) | ((conv => arg 3; arg 20); apply Frame.step (State.mk_frame ..))
    | exact rfl | exact Or.inl rfl | exact Or.inr rfl | (fail_if_no_progress simp; exact rfl) | split | dsimp only

theorem State.windowWrite_frame (s : State) (i : Nat) (v : W32) : Frame 0xc0151812 s (State.windowWrite s i v) := by
  unfold State.windowWrite
  iterate 80 all_goals try first
    | lift_lets
    | (intro x; refine Frame.cut (m := 0xc0151812) (s := s) (t := x) ?_ fun _ => ?_; (on_goal 1 => subst x); (on_goal 2 => clear_value x))
    | (intro x; clear_value x)
    | with_reducible first
        | apply Frame.ite | apply Frame.refl | assumption | apply Frame.after (State.putWord_frame ..)
        | apply Frame.after (State.refuse_frame ..) | apply Frame.step (State.setR_frame ..)
    | exact rfl | (fail_if_no_progress simp; exact rfl) | exact winData_apart _ _ | split | dsimp only

theorem execDbgWinData3Write_frame (v : W32) (s : State) : Frames 0xc0151812 s (execDbgWinData3Write v s) := by
  unfold execDbgWinData3Write
  iterate 80 all_goals try first
    | with_reducible first
        | apply Frames.next | apply Frames.ite | apply Frame.ite | apply Frame.refl | assumption
        | apply Frame.after (State.windowWrite_frame ..)
    | exact rfl | (fail_if_no_progress simp; exact rfl) | split | dsimp only

theorem State.pendWrite_frame (s : State) (w v : Nat) : Frame 0x40150012 s (State.pendWrite s w v) := by
  unfold State.pendWrite
  iterate 80 all_goals try first
    | lift_lets
    | (intro x; refine Frame.cut (m := 0x40150012) (s := u) (t := x) ?_ fun _ => ?_; (on_goal 1 => subst x); (on_goal 2 => clear_value x))
    | (intro x; refine Frame.cut (m := 0x40150012) (s := s) (t := x) ?_ fun _ => ?_; (on_goal 1 => subst x); (on_goal 2 => clear_value x))
    | (intro x; clear_value x)
    | with_reducible first
        | apply Frame.ite | apply Frame.refl | assumption | apply Frame.foldl (k := fun u _ => ?_)
        | apply Frame.after (State.holdWake_frame ..) | apply Frame.step (State.setR_frame ..)
        | apply Frame.after (State.watchWake_frame ..) | ((conv => arg 3; arg 20); apply Frame.step (State.mk_frame ..))
    | exact rfl | exact Or.inl rfl | exact Or.inr rfl | (fail_if_no_progress simp; exact rfl) | split | dsimp only

theorem State.sleepWrite_frame (s : State) (v : Nat) : Frame 0x110010 s (State.sleepWrite s v) := by
  unfold State.sleepWrite
  iterate 80 all_goals try first
    | lift_lets
    | (intro x; refine Frame.cut (m := 0x110010) (s := u) (t := x) ?_ fun _ => ?_; (on_goal 1 => subst x); (on_goal 2 => clear_value x))
    | (intro x; refine Frame.cut (m := 0x110010) (s := s) (t := x) ?_ fun _ => ?_; (on_goal 1 => subst x); (on_goal 2 => clear_value x))
    | (intro x; clear_value x)
    | with_reducible first
        | apply Frame.refl | assumption | apply Frame.foldl (k := fun u _ => ?_) | apply Frame.step (State.setR_frame ..)
        | apply Frame.after (State.strand_frame ..) | apply Frame.after (State.watchWake_frame ..)
        | ((conv => arg 3; arg 20); apply Frame.step (State.mk_frame ..))
    | exact rfl | exact Or.inl rfl | exact Or.inr rfl | (fail_if_no_progress simp; exact rfl) | dsimp only

theorem State.expertKey_frame (s : State) (v : Nat) : Frame 0x80000000 s (State.expertKey s v) := by
  unfold State.expertKey
  iterate 80 all_goals try first
    | with_reducible first
        | apply Frame.refl | assumption | apply Frame.step (State.setF_frame ..)
    | exact rfl | (fail_if_no_progress simp; exact rfl) | dsimp only

theorem State.adminBaseWrite_frame (s : State) (off : Nat) (v : W32) :
    Frame 0x7ffffd0012 s (State.adminBaseWrite s off v) := by
  unfold State.adminBaseWrite
  iterate 80 all_goals try first
    | with_reducible first
        | apply Frame.ite | apply Frame.refl | assumption | apply Frame.after (State.refuse_frame ..)
        | apply Frame.step (State.setR_frame ..)
    | exact rfl | (fail_if_no_progress simp; exact rfl) | exact Frame.anyGroup _ rfl | exact Frame.anyField _ rfl | split
    | dsimp only

theorem State.phyCtrl_frame (s : State) (r v : Nat) : Frame 0x4340150112 s (State.phyCtrl s r v) := by
  unfold State.phyCtrl
  iterate 80 all_goals try first
    | lift_lets
    | (intro x; refine Frame.cut (m := 0x4340150112) (s := s) (t := x) ?_ fun _ => ?_; (on_goal 1 => subst x); (on_goal 2 => clear_value x))
    | (intro x; clear_value x)
    | with_reducible first
        | apply Frame.ite | apply Frame.refl | assumption | apply Frame.after (State.downReq_frame ..)
        | apply Frame.after (State.recalNow_frame ..) | apply Frame.step (State.setF_frame ..)
    | exact rfl | (fail_if_no_progress simp; exact rfl) | split | dsimp only

theorem State.plainWrite_frame (s : State) (row : RegRow) (off : Nat) (v : W32) :
    Frame 0x7ffffc0000 s (State.plainWrite s row off v) := by
  unfold State.plainWrite
  iterate 80 all_goals try first
    | lift_lets
    | (intro x; refine Frame.cut (m := 0x7ffffc0000) (s := s) (t := x) ?_ fun _ => ?_; (on_goal 1 => subst x); (on_goal 2 => clear_value x))
    | (intro x; clear_value x)
    | with_reducible first
        | apply Frame.refl | assumption | apply Frame.step (State.setR_frame ..)
    | exact rfl | (fail_if_no_progress simp; exact rfl) | exact Frame.anyGroup _ rfl | exact Frame.anyField _ rfl
    | dsimp only

theorem State.applyWrite_frame (s : State) (row : RegRow) (off : Nat) (v : W32) :
    Frame 0x7fffffffff s (State.applyWrite s row off v) := by
  unfold State.applyWrite
  iterate 80 all_goals try first
    | lift_lets
    | (intro x; refine Frame.cut (m := 0x7fffffffff) (s := s) (t := x) ?_ fun _ => ?_; (on_goal 1 => subst x); (on_goal 2 => clear_value x))
    | (intro x; clear_value x)
    | with_reducible first
        | apply Frame.ite | apply Frame.refl | assumption | apply Frame.after (State.adminBaseWrite_frame ..)
        | apply Frame.after (State.adminCfgWrite_frame ..) | apply Frame.after (State.dbgCtrl_frame ..)
        | apply Frame.after (State.dlCfgWrite_frame ..) | apply Frame.after (State.dlHeadWrite_frame ..)
        | apply Frame.after (State.endNotice_frame ..) | apply Frame.after (State.expertKey_frame ..)
        | apply Frame.after (State.guardUpdate_frame ..) | apply Frame.after (State.imgCtrlWrite_frame ..)
        | apply Frame.after (State.islands_frame ..) | apply Frame.after (State.letterbox_frame ..)
        | apply Frame.after (State.modeRequest_frame ..) | apply Frame.after (State.pendWrite_frame ..)
        | apply Frame.after (State.phyCtrl_frame ..) | apply Frame.after (State.plainWrite_frame ..)
        | apply Frame.after (State.pmCtrlWrite_frame ..) | apply Frame.after (State.secCtrl_frame ..)
        | apply Frame.after (State.sleepWrite_frame ..) | apply Frame.after (State.spareWrite_frame ..)
        | apply Frame.after (State.stackResets_frame ..) | apply Frame.after (State.windowWrite_frame ..)
    | exact rfl | (fail_if_no_progress simp; exact rfl) | exact Frame.anyGroup _ rfl | exact Frame.anyField _ rfl | split
    | dsimp only

theorem State.doorWrite_frame (s : State) (off : Nat) (v : W32) : Frame 0x7ffffd8056 s (State.doorWrite s off v) := by
  unfold State.doorWrite
  iterate 80 all_goals try first
    | lift_lets
    | (intro x; refine Frame.cut (m := 0x7ffffd8056) (s := s) (t := x) ?_ fun _ => ?_; (on_goal 1 => subst x); (on_goal 2 => clear_value x))
    | (intro x; clear_value x)
    | with_reducible first
        | apply Frame.ite | apply Frame.refl | assumption | apply Frame.after (State.cqDoorWrite_frame ..)
        | apply Frame.after (State.draw_frame ..) | (apply Frame.of_pair (State.draw_frame ..); (on_goal 1 => assumption))
        | apply Frame.after (State.sqDoorWrite_frame ..)
    | exact rfl | (fail_if_no_progress simp; exact rfl) | exact Frame.anyGroup _ rfl | exact Frame.anyField _ rfl | split
    | dsimp only

theorem State.releaseHeld_frame (s : State) : Frame 0x7fffffffff s (State.releaseHeld s) := by
  unfold State.releaseHeld
  iterate 80 all_goals try first
    | (intro x; clear_value x)
    | with_reducible first
        | apply Frame.ite | apply Frame.refl | assumption | apply Frame.foldl (k := fun u _ => ?_)
        | apply Frame.after (State.applyWrite_frame ..) | apply Frame.after (State.doorWrite_frame ..)
        | ((conv => arg 3; arg 20); apply Frame.step (State.mk_frame ..))
    | exact rfl | exact Or.inl rfl | exact Or.inr rfl | (fail_if_no_progress simp; exact rfl) | split | dsimp only

theorem State.takeWrite_frame (s : State) (row : RegRow) (off : Nat) (v : W32) :
    Frame 0x7fffffffff s (State.takeWrite s row off v) := by
  unfold State.takeWrite
  iterate 80 all_goals try first
    | lift_lets
    | (intro x; refine Frame.cut (m := 0x7fffffffff) (s := s) (t := x) ?_ fun _ => ?_; (on_goal 1 => subst x); (on_goal 2 => clear_value x))
    | (intro x; clear_value x)
    | with_reducible first
        | apply Frame.ite | apply Frame.refl | assumption | apply Frame.after (State.applyWrite_frame ..)
        | apply Frame.after (State.downReq_frame ..) | apply Frame.after (State.releaseHeld_frame ..)
        | ((conv => arg 3; arg 20); apply Frame.step (State.mk_frame ..))
    | exact rfl | exact Or.inl rfl | exact Or.inr rfl | (fail_if_no_progress simp; exact rfl) | exact Frame.anyGroup _ rfl
    | exact Frame.anyField _ rfl | split | dsimp only

theorem State.writeReg_frame (s : State) (off : Nat) (v : W32) : Frame 0x7fffffffff s (State.writeReg s off v) := by
  unfold State.writeReg
  iterate 80 all_goals try first
    | lift_lets
    | (intro x; refine Frame.cut (m := 0x7fffffffff) (s := s) (t := x) ?_ fun _ => ?_; (on_goal 1 => subst x); (on_goal 2 => clear_value x))
    | (intro x; clear_value x)
    | with_reducible first
        | apply Frame.ite | apply Frame.refl | assumption | apply Frame.after (State.doorWrite_frame ..)
        | apply Frame.after (State.logErr_frame ..) | apply Frame.after (State.takeWrite_frame ..)
    | exact rfl | (fail_if_no_progress simp; exact rfl) | exact Frame.anyGroup _ rfl | exact Frame.anyField _ rfl | split
    | dsimp only

theorem execDiagRegSnapshot_frame (id : Nat) (list : Bytes) (s : State) (corr : Nat := 0) :
    Frames 0x42010081 s (execDiagRegSnapshot id list s corr) := by
  unfold execDiagRegSnapshot
  iterate 80 all_goals try first
    | lift_lets
    | (intro x; refine Frame.cut (m := 0x42010081) (s := s) (t := x) ?_ fun _ => ?_; (on_goal 1 => subst x); (on_goal 2 => clear_value x))
    | (intro x; clear_value x)
    | with_reducible first
        | apply Frames.next | apply Frames.ite | apply Frame.ite | apply Frame.refl | assumption
        | apply Frame.after (State.dramReads_frame ..) | apply Frame.after (State.fab_frame ..)
        | apply Frame.after (State.finish_frame ..)
    | exact rfl | (fail_if_no_progress simp; exact rfl) | split | dsimp only

end Sys2Proof.Machine
end

