-- ==== Sys2Proof/Laws/FrameBoundary.lean ====
section
/-! SUPPORT. The frame of every operation of Machine/Boundary.lean. -/

set_option linter.all false

namespace Sys2Proof.Machine

theorem State.vinLowLevel_frame (s : State) (uv : Nat) : Frame 0x140150113 s (State.vinLowLevel s uv) := by
  unfold State.vinLowLevel
  iterate 80 all_goals try first
    | lift_lets
    | (intro x; refine Frame.cut (m := 0x140150113) (s := s) (t := x) ?_ fun _ => ?_; (on_goal 1 => subst x); (on_goal 2 => clear_value x))
    | (intro x; clear_value x)
    | with_reducible first
        | apply Frame.ite | apply Frame.refl | assumption | apply Frame.after (State.guardUpdate_frame ..)
        | apply Frame.step (State.raise_frame ..) | ((conv => arg 3; arg 20); apply Frame.step (State.mk_frame ..))
    | exact rfl | exact Or.inl rfl | exact Or.inr rfl | (fail_if_no_progress simp; exact rfl) | split | dsimp only

theorem State.vinHighLevel_frame (s : State) (uv : Nat) : Frame 0x1040158017 s (State.vinHighLevel s uv) := by
  unfold State.vinHighLevel
  iterate 80 all_goals try first
    | lift_lets
    | (intro x; refine Frame.cut (m := 0x1040158017) (s := s) (t := x) ?_ fun _ => ?_; (on_goal 1 => subst x); (on_goal 2 => clear_value x))
    | (intro x; clear_value x)
    | with_reducible first
        | apply Frame.ite | apply Frame.refl | assumption | apply Frame.step (State.aonRaise_frame ..)
        | ((conv => arg 3; arg 20); apply Frame.step (State.mk_frame ..))
    | exact rfl | exact Or.inl rfl | exact Or.inr rfl | (fail_if_no_progress simp; exact rfl) | split | dsimp only

theorem execVinLevelChange_frame (uv : Nat) (s : State) : Frames 0x7fffffffff s (execVinLevelChange uv s) := by
  unfold execVinLevelChange
  iterate 80 all_goals try first
    | lift_lets
    | (intro x; refine Frame.cut (m := 0x7fffffffff) (s := s) (t := x) ?_ fun _ => ?_; (on_goal 1 => subst x); (on_goal 2 => clear_value x))
    | (intro x; clear_value x)
    | with_reducible first
        | apply Frames.next | apply Frames.ite | apply Frame.ite | apply Frame.refl | assumption
        | apply Frame.step (State.aonRaise_frame ..) | apply Frame.after (State.goOff_frame ..)
        | apply Frame.after (State.releaseHeld_frame ..) | apply Frame.after (State.safeCause_frame ..)
        | apply Frame.after (State.supplyGone_frame ..) | apply Frame.after (State.vinHighLevel_frame ..)
        | apply Frame.after (State.vinLowLevel_frame ..) | ((conv => arg 3; arg 20); apply Frame.step (State.mk_frame ..))
    | exact rfl | exact Or.inl rfl | exact Or.inr rfl | (fail_if_no_progress simp; exact rfl) | split | dsimp only

theorem State.junctionActs_frame (s : State) (t : Int) : Frame 0x5bf81de79f s (State.junctionActs s t) := by
  unfold State.junctionActs
  iterate 80 all_goals try first
    | lift_lets
    | (intro x; refine Frame.cut (m := 0x5bf81de79f) (s := s) (t := x) ?_ fun _ => ?_; (on_goal 1 => subst x); (on_goal 2 => clear_value x))
    | (intro x; clear_value x)
    | with_reducible first
        | apply Frame.ite | apply Frame.refl | assumption | apply Frame.step (State.aonRaise_frame ..)
        | apply Frame.after (State.recalTemp_frame ..) | apply Frame.after (State.safeCause_frame ..)
        | ((conv => arg 3; arg 20); apply Frame.step (State.mk_frame ..))
    | exact rfl | exact Or.inl rfl | exact Or.inr rfl | (fail_if_no_progress simp; exact rfl) | split | dsimp only

theorem execJunctionSample_frame (readings : List Int) (s : State) :
    Frames 0x7fffffffff s (execJunctionSample readings s) := by
  unfold execJunctionSample
  iterate 80 all_goals try first
    | lift_lets
    | (intro x; refine Frame.cut (m := 0x7fffffffff) (s := u) (t := x) ?_ fun _ => ?_; (on_goal 1 => subst x); (on_goal 2 => clear_value x))
    | (intro x; refine Frame.cut (m := 0x7fffffffff) (s := s) (t := x) ?_ fun _ => ?_; (on_goal 1 => subst x); (on_goal 2 => clear_value x))
    | (intro x; clear_value x)
    | with_reducible first
        | apply Frames.next | apply Frames.ite | apply Frame.ite | apply Frame.refl | assumption
        | apply Frame.foldl (k := fun u _ => ?_) | apply Frame.step (State.aonRaise_frame ..)
        | apply Frame.after (State.draw_frame ..) | (apply Frame.of_pair (State.draw_frame ..); (on_goal 1 => assumption))
        | apply Frame.after (State.junctionActs_frame ..) | apply Frame.after (State.releaseHeld_frame ..)
        | apply Frame.step (State.setF_frame ..) | ((conv => arg 3; arg 20); apply Frame.step (State.mk_frame ..))
    | exact rfl | exact Or.inl rfl | exact Or.inr rfl | (fail_if_no_progress simp; exact rfl) | split | dsimp only

theorem execXtalSilent_frame (s : State) : Frames 0x1040158017 s (execXtalSilent s) := by
  unfold execXtalSilent
  iterate 80 all_goals try first
    | (intro x; clear_value x)
    | with_reducible first
        | apply Frames.next | apply Frames.ite | apply Frame.ite | apply Frame.refl | assumption
        | apply Frame.step (State.aonRaise_frame ..) | ((conv => arg 3; arg 20); apply Frame.step (State.mk_frame ..))
    | exact rfl | exact Or.inl rfl | exact Or.inr rfl | (fail_if_no_progress simp; exact rfl) | split | dsimp only

theorem execCrystalEdgesReturn_frame (s : State) : Frames 0x1 s (execCrystalEdgesReturn s) := by
  unfold execCrystalEdgesReturn
  iterate 80 all_goals try first
    | (intro x; clear_value x)
    | with_reducible first
        | apply Frames.next | apply Frames.ite | apply Frame.ite | apply Frame.refl | assumption
        | ((conv => arg 3; arg 20); apply Frame.step (State.mk_frame ..))
    | exact rfl | exact Or.inl rfl | exact Or.inr rfl | split | dsimp only

theorem execTimeRefSilent_frame (s : State) : Frames 0x1 s (execTimeRefSilent s) := by
  unfold execTimeRefSilent
  iterate 80 all_goals try first
    | with_reducible first
        | apply Frames.next | apply Frames.ite | apply Frame.ite | apply Frame.refl | assumption
        | apply Frame.after (State.timeStop_frame ..)
    | exact rfl | (fail_if_no_progress simp; exact rfl) | split | dsimp only

theorem execFabResponseTimeout_frame (s : State) : Frames 0x40150012 s (execFabResponseTimeout s) := by
  unfold execFabResponseTimeout
  iterate 80 all_goals try first
    | with_reducible first
        | apply Frames.next | apply Frames.ite | apply Frame.ite | apply Frame.refl | assumption
        | apply Frame.step (State.raise_frame ..)
    | exact rfl | (fail_if_no_progress simp; exact rfl) | split | dsimp only

theorem execAgingMeasure_frame (i v : Nat) (s : State) : Frames 0x1040158017 s (execAgingMeasure i v s) := by
  unfold execAgingMeasure
  iterate 80 all_goals try first
    | lift_lets
    | (intro x; refine Frame.cut (m := 0x1040158017) (s := s) (t := x) ?_ fun _ => ?_; (on_goal 1 => subst x); (on_goal 2 => clear_value x))
    | (intro x; clear_value x)
    | with_reducible first
        | apply Frames.next | apply Frames.ite | apply Frame.ite | apply Frame.refl | assumption
        | apply Frame.step (State.aonRaise_frame ..) | apply Frame.step (State.setF_frame ..)
    | exact rfl | (fail_if_no_progress simp; exact rfl) | split | dsimp only

theorem execDramPortStall_frame (port routes : Nat) (s : State) : Frames 0x40000001 s (execDramPortStall port routes s) := by
  unfold execDramPortStall
  iterate 80 all_goals try first
    | (intro x; clear_value x)
    | with_reducible first
        | apply Frames.next | apply Frames.ite | apply Frame.ite | apply Frame.refl | assumption
        | apply Frame.step (State.bump_frame ..) | ((conv => arg 3; arg 20); apply Frame.step (State.mk_frame ..))
    | exact rfl | exact Or.inl rfl | exact Or.inr rfl | (fail_if_no_progress simp; exact rfl) | split | dsimp only

theorem execPortBufferHalfEmpty_frame (port : Nat) (s : State) : Frames 0x1 s (execPortBufferHalfEmpty port s) := by
  unfold execPortBufferHalfEmpty
  iterate 80 all_goals try first
    | (intro x; clear_value x)
    | with_reducible first
        | apply Frames.next | apply Frame.refl | assumption | ((conv => arg 3; arg 20); apply Frame.step (State.mk_frame ..))
    | exact rfl | exact Or.inl rfl | exact Or.inr rfl | dsimp only

theorem execDramSrRise_frame (s : State) : Frames 0x40000000 s (execDramSrRise s) := by
  unfold execDramSrRise
  iterate 80 all_goals try first
    | with_reducible first
        | apply Frames.next | apply Frames.ite | apply Frame.ite | apply Frame.refl | assumption
        | apply Frame.step (State.setF_frame ..)
    | exact rfl | (fail_if_no_progress simp; exact rfl) | split | dsimp only

theorem execSrHoldExpiry_frame (s : State) : Frames 0x7fffffffff s (execSrHoldExpiry s) := by
  unfold execSrHoldExpiry
  iterate 80 all_goals try first
    | with_reducible first
        | apply Frames.next | apply Frames.ite | apply Frame.ite | apply Frame.refl | assumption
        | apply Frame.step (State.raise_frame ..) | apply Frame.after (State.releaseHeld_frame ..)
        | apply Frame.after (State.safeCause_frame ..)
    | exact rfl | (fail_if_no_progress simp; exact rfl) | split | dsimp only

theorem execDramSrExitAck_frame (s : State) : Frames 0x40010001 s (execDramSrExitAck s) := by
  unfold execDramSrExitAck
  iterate 80 all_goals try first
    | lift_lets
    | (intro x; refine Frame.cut (m := 0x40010001) (s := s) (t := x) ?_ fun _ => ?_; (on_goal 1 => subst x); (on_goal 2 => clear_value x))
    | (intro x; clear_value x)
    | with_reducible first
        | apply Frames.next | apply Frames.ite | apply Frame.ite | apply Frame.refl | assumption
        | apply Frame.step (State.setF_frame ..) | ((conv => arg 3; arg 20); apply Frame.step (State.mk_out_frame ..))
        | ((conv => arg 3; arg 20); apply Frame.step (State.mk_frame ..))
    | exact rfl | exact Or.inl rfl | exact Or.inr rfl | (fail_if_no_progress simp; exact rfl) | split | dsimp only

theorem execModPresentChange_frame (r : Nat) (present : Bool) (s : State) :
    Frames 0x5bfe1dffdf s (execModPresentChange r present s) := by
  unfold execModPresentChange
  iterate 80 all_goals try first
    | lift_lets
    | (intro x; refine Frame.cut (m := 0x5bfe1dffdf) (s := s) (t := x) ?_ fun _ => ?_; (on_goal 1 => subst x); (on_goal 2 => clear_value x))
    | (intro x; clear_value x)
    | with_reducible first
        | apply Frames.next | apply Frames.ite | apply Frame.ite | apply Frame.refl | assumption
        | apply Frame.step (State.raise_frame ..) | apply Frame.after (State.routeDown_frame ..)
        | apply Frame.step (State.setF_frame ..) | apply Frame.after (State.watchFire_frame ..)
    | exact rfl | (fail_if_no_progress simp; exact rfl) | split | dsimp only

theorem execAliveToggle_frame (s : State) : Frames 0x10001 s (execAliveToggle s) := by
  unfold execAliveToggle
  iterate 80 all_goals try first
    | (intro x; clear_value x)
    | with_reducible first
        | apply Frames.next | apply Frames.ite | apply Frame.ite | apply Frame.refl | assumption
        | apply Frame.after (State.emit_frame ..) | ((conv => arg 3; arg 20); apply Frame.step (State.mk_frame ..))
    | exact rfl | exact Or.inl rfl | exact Or.inr rfl | (fail_if_no_progress simp; exact rfl) | split | dsimp only

end Sys2Proof.Machine
end

