-- ==== Sys2Proof/Laws/FrameControl.lean ====
section
/-! SUPPORT. The frame of every operation of Machine/Control.lean. -/

set_option linter.all false

namespace Sys2Proof.Machine

theorem execModeRequest_frame (v : W32) (pm : Bool) (s : State) : Frames 0x7fffffffff s (execModeRequest v pm s) := by
  unfold execModeRequest
  iterate 80 all_goals try first
    | with_reducible first
        | apply Frames.next | apply Frames.ite | apply Frame.ite | apply Frame.refl | assumption
        | apply Frame.after (State.modeRequest_frame ..) | apply Frame.after (State.releaseHeld_frame ..)
        | apply Frame.after (State.writeReg_frame ..)
    | exact rfl | (fail_if_no_progress simp; exact rfl) | split | dsimp only

theorem execPendingRequestJudge_frame (s : State) : Frames 0x7fffffffff s (execPendingRequestJudge s) := by
  unfold execPendingRequestJudge
  iterate 80 all_goals try first
    | lift_lets
    | (intro x; refine Frame.cut (m := 0x7fffffffff) (s := s) (t := x) ?_ fun _ => ?_; (on_goal 1 => subst x); (on_goal 2 => clear_value x))
    | (intro x; clear_value x)
    | with_reducible first
        | apply Frames.next | apply Frames.ite | apply Frame.ite | apply Frame.refl | assumption
        | apply Frame.after (State.modeJudge_frame ..) | apply Frame.after (State.releaseHeld_frame ..)
        | apply Frame.step (State.setF_frame ..) | ((conv => arg 3; arg 20); apply Frame.step (State.mk_frame ..))
    | exact rfl | exact Or.inl rfl | exact Or.inr rfl | (fail_if_no_progress simp; exact rfl) | split | dsimp only

theorem execModeEntered_frame (s : State) : Frames 0x7fffffffff s (execModeEntered s) := by
  unfold execModeEntered
  iterate 80 all_goals try first
    | with_reducible first
        | apply Frames.next | apply Frames.ite | apply Frame.ite | apply Frame.refl | assumption
        | apply Frame.after (State.modeEnter_frame ..) | apply Frame.after (State.releaseHeld_frame ..)
    | exact rfl | (fail_if_no_progress simp; exact rfl) | split | dsimp only

theorem execSeamTimeout_frame (cycles : Nat) (s : State) : Frames 0x7fffffffff s (execSeamTimeout cycles s) := by
  unfold execSeamTimeout
  iterate 80 all_goals try first
    | with_reducible first
        | apply Frames.next | apply Frames.ite | apply Frame.ite | apply Frame.refl | assumption
        | apply Frame.after (State.releaseHeld_frame ..) | apply Frame.after (State.seamAbandon_frame ..)
    | exact rfl | (fail_if_no_progress simp; exact rfl) | split | dsimp only

theorem execSeamCopyDone_frame (cycles : Nat) (s : State) : Frames 0x7fffffffff s (execSeamCopyDone cycles s) := by
  unfold execSeamCopyDone
  iterate 80 all_goals try first
    | lift_lets
    | (intro x; refine Frame.cut (m := 0x7fffffffff) (s := s) (t := x) ?_ fun _ => ?_; (on_goal 1 => subst x); (on_goal 2 => clear_value x))
    | (intro x; clear_value x)
    | with_reducible first
        | apply Frames.next | apply Frames.ite | apply Frame.ite | apply Frame.refl | assumption
        | apply Frame.after (State.releaseHeld_frame ..) | apply Frame.after (State.seamCopied_frame ..)
        | apply Frame.step (State.setF_frame ..) | ((conv => arg 3; arg 20); apply Frame.step (State.mk_frame ..))
    | exact rfl | exact Or.inl rfl | exact Or.inr rfl | (fail_if_no_progress simp; exact rfl) | split | dsimp only

theorem execTrainingStart_frame (r : Nat) (s : State) : Frames 0x7fffffffff s (execTrainingStart r s) := by
  unfold execTrainingStart
  iterate 80 all_goals try first
    | lift_lets
    | (intro x; refine Frame.cut (m := 0x7fffffffff) (s := s) (t := x) ?_ fun _ => ?_; (on_goal 1 => subst x); (on_goal 2 => clear_value x))
    | (intro x; clear_value x)
    | with_reducible first
        | apply Frames.next | apply Frames.ite | apply Frame.ite | apply Frame.refl | assumption
        | apply Frame.after (State.releaseHeld_frame ..) | apply Frame.after (State.trainGo_frame ..)
    | exact rfl | (fail_if_no_progress simp; exact rfl) | split | dsimp only

theorem execTimeRestart_frame (ticks : Nat) (s : State) : Frames 0x7fffffffff s (execTimeRestart ticks s) := by
  unfold execTimeRestart
  iterate 80 all_goals try first
    | lift_lets
    | (intro x; refine Frame.cut (m := 0x7fffffffff) (s := s) (t := x) ?_ fun _ => ?_; (on_goal 1 => subst x); (on_goal 2 => clear_value x))
    | (intro x; clear_value x)
    | with_reducible first
        | apply Frames.next | apply Frames.ite | apply Frame.ite | apply Frame.refl | assumption
        | apply Frame.after (State.pmRefresh_frame ..) | apply Frame.after (State.releaseHeld_frame ..)
        | ((conv => arg 3; arg 20); apply Frame.step (State.mk_frame ..))
    | exact rfl | exact Or.inl rfl | exact Or.inr rfl | (fail_if_no_progress simp; exact rfl) | split | dsimp only

theorem State.fatalRead_frame (s : State) (addr : Nat) : Frame 0x7fffffffff s (State.fatalRead s addr) := by
  unfold State.fatalRead
  iterate 80 all_goals try first
    | with_reducible first
        | apply Frame.refl | assumption | apply Frame.after (State.dramUncorr_frame ..)
        | apply Frame.after (State.enterSafe_frame ..) | apply Frame.step (State.raise_frame ..)
        | apply Frame.after (State.releaseHeld_frame ..)
    | exact rfl | (fail_if_no_progress simp; exact rfl) | dsimp only

theorem execPeerReadDue_frame (i : Nat) (bytes : Bytes) (resp : Nat) (s : State) :
    Frames 0x7fffffffff s (execPeerReadDue i bytes resp s) := by
  unfold execPeerReadDue
  iterate 80 all_goals try first
    | with_reducible first
        | apply Frames.next | apply Frames.ite | apply Frame.ite | apply Frame.refl | assumption
        | apply Frame.after (State.dramCorrected_frame ..) | apply Frame.after (State.fatalRead_frame ..)
        | apply Frame.after (State.peerRead_frame ..)
    | exact rfl | (fail_if_no_progress simp; exact rfl) | split | dsimp only

theorem execDbgAuthDone_frame (token : Bytes) (resp : Nat) (s : State) :
    Frames 0x7fffffffff s (execDbgAuthDone token resp s) := by
  unfold execDbgAuthDone
  iterate 80 all_goals try first
    | lift_lets
    | (intro x; refine Frame.cut (m := 0x7fffffffff) (s := s) (t := x) ?_ fun _ => ?_; (on_goal 1 => subst x); (on_goal 2 => clear_value x))
    | (intro x; clear_value x)
    | with_reducible first
        | apply Frames.next | apply Frames.ite | apply Frame.ite | apply Frame.refl | assumption
        | apply Frame.after (State.authEnd_frame ..) | apply Frame.after (State.dramCorrected_frame ..)
        | apply Frame.after (State.fatalRead_frame ..)
    | exact rfl | (fail_if_no_progress simp; exact rfl) | split | dsimp only

theorem execTamperAssert_frame (s : State) : Frames 0x7fffffffff s (execTamperAssert s) := by
  unfold execTamperAssert
  iterate 80 all_goals try first
    | with_reducible first
        | apply Frames.next | apply Frames.ite | apply Frame.ite | apply Frame.refl | assumption
        | apply Frame.after (State.lockLatch_frame ..) | apply Frame.after (State.lockdown_frame ..)
        | apply Frame.after (State.releaseHeld_frame ..) | apply Frame.after (State.wake_frame ..)
    | exact rfl | (fail_if_no_progress simp; exact rfl) | split | dsimp only

theorem State.secondPasses_frame (s : State) : Frame 0x80004000 s (State.secondPasses s) := by
  unfold State.secondPasses
  iterate 80 all_goals try first
    | lift_lets
    | (intro x; refine Frame.cut (m := 0x80004000) (s := s) (t := x) ?_ fun _ => ?_; (on_goal 1 => subst x); (on_goal 2 => clear_value x))
    | (intro x; clear_value x)
    | with_reducible first
        | apply Frame.ite | apply Frame.refl | assumption | apply Frame.step (State.setF_frame ..)
        | ((conv => arg 3; arg 20); apply Frame.step (State.mk_frame ..))
    | exact rfl | exact Or.inl rfl | exact Or.inr rfl | (fail_if_no_progress simp; exact rfl) | split | dsimp only

theorem execKeyStoreCheck_frame (mismatch : Bool) (s : State) : Frames 0x7fffffffff s (execKeyStoreCheck mismatch s) := by
  unfold execKeyStoreCheck
  iterate 80 all_goals try first
    | with_reducible first
        | apply Frames.next | apply Frames.ite | apply Frame.ite | apply Frame.refl | assumption
        | apply Frame.after (State.lockdown_frame ..) | apply Frame.after (State.releaseHeld_frame ..)
        | apply Frame.after (State.secondPasses_frame ..)
    | exact rfl | (fail_if_no_progress simp; exact rfl) | split | dsimp only

end Sys2Proof.Machine
end

