-- ==== Sys2Proof/Laws/FrameRegRows.lean ====
section
/-! SUPPORT. The frame of every operation of Machine/RegRows.lean. -/

set_option linter.all false

namespace Sys2Proof.Machine

theorem execRegisterWrite_frame (off : Nat) (v : W32) (s : State) : Frames 0x7fffffffff s (execRegisterWrite off v s) := by
  unfold execRegisterWrite
  iterate 80 all_goals try first
    | with_reducible first
        | apply Frames.next | apply Frame.refl | assumption | apply Frame.after (State.writeReg_frame ..)
    | exact rfl | (fail_if_no_progress simp; exact rfl) | dsimp only

theorem execWidthRejectedAccess_frame (off : Nat) (write : Bool) (s : State) :
    Frames 0x40150012 s (execWidthRejectedAccess off write s) := by
  unfold execWidthRejectedAccess
  iterate 80 all_goals try first
    | with_reducible first
        | apply Frames.next | apply Frames.ite | apply Frame.ite | apply Frame.refl | assumption
        | apply Frame.after (State.emit_frame ..) | apply Frame.after (State.logErr_frame ..)
    | exact rfl | (fail_if_no_progress simp; exact rfl) | split | dsimp only

theorem execReservedOffsetAccess_frame (off : Nat) (write : Bool) (s : State) :
    Frames 0x40150012 s (execReservedOffsetAccess off write s) := by
  unfold execReservedOffsetAccess
  iterate 80 all_goals try first
    | lift_lets
    | (intro x; refine Frame.cut (m := 0x40150012) (s := s) (t := x) ?_ fun _ => ?_; (on_goal 1 => subst x); (on_goal 2 => clear_value x))
    | (intro x; clear_value x)
    | with_reducible first
        | apply Frames.next | apply Frames.ite | apply Frame.ite | apply Frame.refl | assumption
        | apply Frame.after (State.emit_frame ..) | apply Frame.after (State.logErr_frame ..)
    | exact rfl | (fail_if_no_progress simp; exact rfl) | split | dsimp only

theorem execExpertKeyWrite_frame (v : W32) (s : State) : Frames 0x7fffffffff s (execExpertKeyWrite v s) := by
  unfold execExpertKeyWrite
  iterate 80 all_goals try first
    | with_reducible first
        | apply Frames.next | apply Frame.refl | assumption | apply Frame.after (State.writeReg_frame ..)
    | exact rfl | (fail_if_no_progress simp; exact rfl) | dsimp only

theorem execImgLoad_frame (v : W32) (s : State) : Frames 0x7fffffffff s (execImgLoad v s) := by
  unfold execImgLoad
  iterate 80 all_goals try first
    | with_reducible first
        | apply Frames.next | apply Frame.refl | assumption | apply Frame.after (State.writeReg_frame ..)
    | exact rfl | (fail_if_no_progress simp; exact rfl) | dsimp only

theorem execImgApply_frame (v : W32) (s : State) : Frames 0x7fffffffff s (execImgApply v s) := by
  unfold execImgApply
  iterate 80 all_goals try first
    | with_reducible first
        | apply Frames.next | apply Frame.refl | assumption | apply Frame.after (State.writeReg_frame ..)
    | exact rfl | (fail_if_no_progress simp; exact rfl) | dsimp only

theorem execImgDiscard_frame (v : W32) (s : State) : Frames 0x7fffffffff s (execImgDiscard v s) := by
  unfold execImgDiscard
  iterate 80 all_goals try first
    | with_reducible first
        | apply Frames.next | apply Frame.refl | assumption | apply Frame.after (State.writeReg_frame ..)
    | exact rfl | (fail_if_no_progress simp; exact rfl) | dsimp only

theorem execLetterbox_frame (v : W32) (s : State) : Frames 0x7fffffffff s (execLetterbox v s) := by
  unfold execLetterbox
  iterate 80 all_goals try first
    | with_reducible first
        | apply Frames.next | apply Frame.refl | assumption | apply Frame.after (State.writeReg_frame ..)
    | exact rfl | (fail_if_no_progress simp; exact rfl) | dsimp only

theorem execNoticeEoi_frame (c : Nat) (v : W32) (s : State) : Frames 0x7fffffffff s (execNoticeEoi c v s) := by
  unfold execNoticeEoi
  iterate 80 all_goals try first
    | with_reducible first
        | apply Frames.next | apply Frames.ite | apply Frame.ite | apply Frame.refl | assumption
        | apply Frame.after (State.writeReg_frame ..)
    | exact rfl | (fail_if_no_progress simp; exact rfl) | split | dsimp only

theorem execNoticeFastEoi_frame (c : Nat) (v : W32) (s : State) : Frames 0x7fffffffff s (execNoticeFastEoi c v s) := by
  unfold execNoticeFastEoi
  iterate 80 all_goals try first
    | with_reducible first
        | apply Frames.next | apply Frames.ite | apply Frame.ite | apply Frame.refl | assumption
        | apply Frame.after (State.writeReg_frame ..)
    | exact rfl | (fail_if_no_progress simp; exact rfl) | split | dsimp only

theorem execStackReset_frame (v : W32) (s : State) : Frames 0x7fffffffff s (execStackReset v s) := by
  unfold execStackReset
  iterate 80 all_goals try first
    | with_reducible first
        | apply Frames.next | apply Frame.refl | assumption | apply Frame.after (State.writeReg_frame ..)
    | exact rfl | (fail_if_no_progress simp; exact rfl) | dsimp only

theorem execStepPermit_frame (v : W32) (s : State) : Frames 0x7fffffffff s (execStepPermit v s) := by
  unfold execStepPermit
  iterate 80 all_goals try first
    | with_reducible first
        | apply Frames.next | apply Frame.refl | assumption | apply Frame.after (State.writeReg_frame ..)
    | exact rfl | (fail_if_no_progress simp; exact rfl) | dsimp only

theorem execAdminEnable_frame (v : W32) (s : State) : Frames 0x7fffffffff s (execAdminEnable v s) := by
  unfold execAdminEnable
  iterate 80 all_goals try first
    | with_reducible first
        | apply Frames.next | apply Frame.refl | assumption | apply Frame.after (State.writeReg_frame ..)
    | exact rfl | (fail_if_no_progress simp; exact rfl) | dsimp only

theorem execAdminResume_frame (v : W32) (s : State) : Frames 0x7fffffffff s (execAdminResume v s) := by
  unfold execAdminResume
  iterate 80 all_goals try first
    | with_reducible first
        | apply Frames.next | apply Frame.refl | assumption | apply Frame.after (State.writeReg_frame ..)
    | exact rfl | (fail_if_no_progress simp; exact rfl) | dsimp only

theorem execDlCfgEnable_frame (v : W32) (s : State) : Frames 0x7fffffffff s (execDlCfgEnable v s) := by
  unfold execDlCfgEnable
  iterate 80 all_goals try first
    | with_reducible first
        | apply Frames.next | apply Frame.refl | assumption | apply Frame.after (State.writeReg_frame ..)
    | exact rfl | (fail_if_no_progress simp; exact rfl) | dsimp only

theorem execDlHeadWrite_frame (v : W32) (s : State) : Frames 0x7fffffffff s (execDlHeadWrite v s) := by
  unfold execDlHeadWrite
  iterate 80 all_goals try first
    | with_reducible first
        | apply Frames.next | apply Frame.refl | assumption | apply Frame.after (State.writeReg_frame ..)
    | exact rfl | (fail_if_no_progress simp; exact rfl) | dsimp only

theorem execSpareAreaWrite_frame (hi : Bool) (v : W32) (s : State) : Frames 0x7fffffffff s (execSpareAreaWrite hi v s) := by
  unfold execSpareAreaWrite
  iterate 80 all_goals try first
    | with_reducible first
        | apply Frames.next | apply Frames.ite | apply Frame.ite | apply Frame.refl | assumption
        | apply Frame.after (State.writeReg_frame ..)
    | exact rfl | (fail_if_no_progress simp; exact rfl) | split | dsimp only

theorem execDownReq_frame (r : Nat) (s : State) : Frames 0x7fffffffff s (execDownReq r s) := by
  unfold execDownReq
  iterate 80 all_goals try first
    | with_reducible first
        | apply Frames.next | apply Frames.ite | apply Frame.ite | apply Frame.refl | assumption
        | apply Frame.after (State.writeReg_frame ..)
    | exact rfl | (fail_if_no_progress simp; exact rfl) | split | dsimp only

theorem execRecalNow_frame (r : Nat) (s : State) : Frames 0x7fffffffff s (execRecalNow r s) := by
  unfold execRecalNow
  iterate 80 all_goals try first
    | with_reducible first
        | apply Frames.next | apply Frames.ite | apply Frame.ite | apply Frame.refl | assumption
        | apply Frame.after (State.writeReg_frame ..)
    | exact rfl | (fail_if_no_progress simp; exact rfl) | split | dsimp only

theorem execSealFuseCommand_frame (v : W32) (s : State) : Frames 0x7fffffffff s (execSealFuseCommand v s) := by
  unfold execSealFuseCommand
  iterate 80 all_goals try first
    | with_reducible first
        | apply Frames.next | apply Frame.refl | assumption | apply Frame.after (State.writeReg_frame ..)
    | exact rfl | (fail_if_no_progress simp; exact rfl) | dsimp only

theorem execLockdownCommand_frame (v : W32) (s : State) : Frames 0x7fffffffff s (execLockdownCommand v s) := by
  unfold execLockdownCommand
  iterate 80 all_goals try first
    | with_reducible first
        | apply Frames.next | apply Frame.refl | assumption | apply Frame.after (State.writeReg_frame ..)
    | exact rfl | (fail_if_no_progress simp; exact rfl) | dsimp only

theorem execDbgAuth_frame (v : W32) (s : State) : Frames 0x7fffffffff s (execDbgAuth v s) := by
  unfold execDbgAuth
  iterate 80 all_goals try first
    | with_reducible first
        | apply Frames.next | apply Frame.refl | assumption | apply Frame.after (State.writeReg_frame ..)
    | exact rfl | (fail_if_no_progress simp; exact rfl) | dsimp only

theorem execDbgEnd_frame (v : W32) (s : State) : Frames 0x7fffffffff s (execDbgEnd v s) := by
  unfold execDbgEnd
  iterate 80 all_goals try first
    | with_reducible first
        | apply Frames.next | apply Frame.refl | assumption | apply Frame.after (State.writeReg_frame ..)
    | exact rfl | (fail_if_no_progress simp; exact rfl) | dsimp only

theorem execDbgLevelWrite_frame (v : W32) (s : State) : Frames 0x7fffffffff s (execDbgLevelWrite v s) := by
  unfold execDbgLevelWrite
  iterate 80 all_goals try first
    | with_reducible first
        | apply Frames.next | apply Frame.refl | assumption | apply Frame.after (State.writeReg_frame ..)
    | exact rfl | (fail_if_no_progress simp; exact rfl) | dsimp only

end Sys2Proof.Machine
end

