-- ==== Sys2Proof/Laws/Writes.lean ====
section
/-! SUPPORT. A register write that reaches its register at once. -/

namespace Sys2Proof.Machine
namespace State

variable {s : State}

/-- With nothing held there is nothing to release. -/
theorem releaseHeld_nil (h : s.sec.heldWrites = []) : s.releaseHeld = s := by
  have e : ({ s with sec := { s.sec with heldWrites := [] } } : State) = s := by
    rw [← h]
  unfold State.releaseHeld
  rw [e, h]
  rfl

theorem shown_nil (h : s.sec.heldWrites = []) (off : Nat) : s.shown off = s.getR off := by
  unfold State.shown
  rw [h]
  rfl

/-- A write that reaches a register whose row holds no locked field applies its value; nothing is held after it either. -/
theorem writeReg_takes {off : Nat} {row : RegRow} {v : W32} (h : s.takes off) (hr : regRow? off = some row) (hd : isDoor off = false)
    (hm : s.lockedMask row = 0) (hh : (s.applyWrite row off v).sec.heldWrites = []) : s.writeReg off v = s.applyWrite row off v := by
  obtain ⟨h1, h2, h3, h4⟩ := h
  have hmask : maskIn 0 v.toNat (s.shown off).toNat = v.toNat := by
    unfold maskIn
    rw [Nat.and_zero, Nat.xor_zero, Nat.or_zero]
    have : (0xFFFFFFFF : Nat) = 2 ^ 32 - 1 := by decide
    rw [this, Nat.and_two_pow_sub_one_eq_mod, Nat.mod_eq_of_lt v.isLt]
  have hv : BitVec.ofNat 32 v.toNat = v := by simp
  have hl : decide ((v.toNat ^^^ (s.shown off).toNat) &&& 0 ≠ 0) = false := by simp
  unfold State.writeReg
  rw [if_neg (by simp [h1]), hr]
  dsimp only
  rw [if_neg (by simp [hd]), hm, hmask, hl, hv, if_neg (fun q => h2 q.1), if_neg (by decide)]
  unfold State.takeWrite
  rw [if_neg (by simp [h3]), releaseHeld_nil hh]

end State
end Sys2Proof.Machine
end

