-- ==== Sys2Proof/WellFormed.lean ====
section
/-! DEFINITION. Which commands are well formed: route, die, core, queue and source numbers inside their ranges, and
data of the length the spec gives it. -/

namespace Sys2Proof

/-- A command's operands lie in their ranges. -/
def Instr.wellFormed : Instr → Bool
  | .registerWrite off _ => decide (off < 2 ^ 20)
  | .widthRejectedAccess off _ => decide (off < 2 ^ 20)
  | .reservedOffsetAccess off _ => decide (off < 2 ^ 20)
  | .expertKeyWrite _ => true
  | .imgLoad _ => true
  | .imgFetchDone _ _ => true
  | .imgVerifyDone => true
  | .imgApply _ => true
  | .imgDiscard _ => true
  | .routeDrainEnd r => decide (r < 32)
  | .drainLimitExpiry r => decide (r < 32)
  | .seamBoundaryReached => true
  | .seamTimeout cycles => decide (cycles < 2 ^ 20)
  | .seamCopyDone cycles => decide (cycles < 2 ^ 20)
  | .dieGrant r d _ => decide (r < 32 ∧ d < 16)
  | .mergeWaitExpiry r d => decide (r < 32 ∧ d < 16)
  | .busGrant r => decide (r < 32)
  | .dataOutStart r d _ => decide (r < 32 ∧ d < 16)
  | .statusPollDue r d _ _ => decide (r < 32 ∧ d < 16)
  | .rbnRise r ce _ => decide (r < 32 ∧ ce < 4)
  | .rbnFault r ce => decide (r < 32 ∧ ce < 4)
  | .dieOpTimeout r d => decide (r < 32 ∧ d < 16)
  | .wpDriveChange r => decide (r < 32)
  | .tempReadDue r d _ => decide (r < 32 ∧ d < 16)
  | .program _ _ _ _ => true
  | .programStripe _ _ _ _ _ lost => lost.all fun a => decide (a < 2 ^ 48)
  | .rowMemberProgramStart _ m => decide (m < 16)
  | .rowComplete _ => true
  | .flushStripe _ _ _ lost => lost.all fun a => decide (a < 2 ^ 48)
  | .guardWaitExpiry _ => true
  | .erase _ _ _ lost => lost.all fun a => decide (a < 2 ^ 48)
  | .eraseBracketStep r d => decide (r < 32 ∧ d < 16)
  | .minRunExpiry r d => decide (r < 32 ∧ d < 16)
  | .resumeHeldOperation r d => decide (r < 32 ∧ d < 16)
  | .holdMaxExpiry r d => decide (r < 32 ∧ d < 16)
  | .trainingStart r => decide (r < 32)
  | .trainingStepDone r _ _ => decide (r < 32)
  | .vccqGoodTimeout r => decide (r < 32)
  | .guardedReeraseRelease r => decide (r < 32)
  | .recalNow r => decide (r < 32)
  | .recalPeriodExpiry r => decide (r < 32)
  | .recalPhaseDone r _ shift _ => decide (r < 32 ∧ -24 ≤ shift ∧ shift ≤ 24)
  | .trainingBurst r _ _ _ shift => decide (r < 32 ∧ -24 ≤ shift ∧ shift ≤ 24)
  | .forceGapExpiry r => decide (r < 32)
  | .trainErrWindowEnd r => decide (r < 32)
  | .downReq r => decide (r < 32)
  | .modPresentChange r _ => decide (r < 32)
  | .vccqFault r => decide (r < 32)
  | .safeToRemove r => decide (r < 32)
  | .routeReimage _ => true
  | .envelopeReceived _ _ _ => true
  | .headerReceived _ _ => true
  | .driftEstimate r d g => decide (r < 32 ∧ d < 16 ∧ g < 8)
  | .decoderCoreFree core => decide (core < 68)
  | .decodeDone core _ word => decide (core < 68 ∧ word.length = 4640)
  | .decoderSelfTestDue core _ => decide (core < 68)
  | .decoderCheckerFault core => decide (core < 68)
  | .calibrate _ _ _ => true
  | .calibrationEnd _ => true
  | .getCal _ => true
  | .setCal _ _ _ => true
  | .scan _ _ _ _ => true
  | .scanStart _ => true
  | .itemFetch _ _ _ => true
  | .positionAdmit _ => true
  | .laneEvaluateDone _ _ => true
  | .positionRetire _ => true
  | .scanEnd _ => true
  | .laneSelfTestDue lane _ => decide (lane < 34)
  | .laneFault lane => decide (lane < 34)
  | .sqDoorbell n _ _ => decide (n < 1024)
  | .cqDoorbell n _ => decide (n < 1024)
  | .entryFetch n _ resp _ => decide (n < 1024) && decide (resp < 7)
  | .ownRecheckExpiry n _ resp => decide (n < 1024 ∧ resp < 7)
  | .admission => true
  | .completionWrite n => decide (n < 1024)
  | .cqWriteAck n => decide (n < 1024)
  | .mailbagTimeout n => decide (n < 1024)
  | .cqWriteError n => decide (n < 1024)
  | .createSq _ => true
  | .createCq _ => true
  | .deleteSq _ => true
  | .sqDeleteEnd n => decide (n < 1024)
  | .deleteCq _ => true
  | .resumeQueue _ => true
  | .invalidateEntries _ => true
  | .adminEnable _ => true
  | .adminResume _ => true
  | .read _ => true
  | .readHeaders _ => true
  | .copy _ => true
  | .diagPing _ => true
  | .diagRegSnapshot _ _ _ => true
  | .diagNoticeTest _ => true
  | .diagRawRead _ => true
  | .bufferFault _ unit => unit.all fun a => decide (a < 2 ^ 48)
  | .sourceFire src => decide (src < 256)
  | .letterbox _ => true
  | .noticeArbitration c => decide (c < 8)
  | .noticeAccept c => decide (c < 8)
  | .noticeEoi c _ => decide (c < 8)
  | .noticeFastEoi c _ => decide (c < 8)
  | .noticePopEnd c _ => decide (c < 8)
  | .stackReset _ => true
  | .modTimerExpiry g => decide (g < 16)
  | .coreIdleChange c _ => decide (c < 8)
  | .redirectTimeout src => decide (src < 256)
  | .writeBack bank => decide (bank < 1536)
  | .scrubRead bank err _ => decide (bank < 1537 ∧ err < 2 ^ 144)
  | .scrubDeadline bank err _ => decide (bank < 1537 ∧ err < 2 ^ 144)
  | .rangeWalkEnd => true
  | .loadPigeonhole _ => true
  | .lockWays _ => true
  | .unlockWays _ => true
  | .reconContextTake _ _ _ _ lost => lost.all fun a => decide (a < 2 ^ 48)
  | .reconstruction _ => true
  | .patrolRoundStart _ => true
  | .patrolReadDue r d _ => decide (r < 32 ∧ d < 16)
  | .spareAreaWrite _ _ => true
  | .deadLetterWrite => true
  | .dlHeadWrite _ => true
  | .dlCfgEnable _ => true
  | .dlWriteRetry => true
  | .retireDie _ => true
  | .rebuild _ => true
  | .rebuildBaseBlock entry _ _ _ lost => decide (entry < 16) && lost.all fun a => decide (a < 2 ^ 48)
  | .rebuildWindowEnd r d => decide (r < 32 ∧ d < 16)
  | .degradedChange => true
  | .postmarkTick => true
  | .ppsEdge tod tu _ => decide (tod < 2 ^ 48 ∧ tu < 4)
  | .stepPermit _ => true
  | .holdoverExpiry => true
  | .timeRestart _ => true
  | .nowNsRead => true
  | .beaconDue => true
  | .peerReadDue i _ resp => decide (i < 16 ∧ resp < 5)
  | .homeCommit _ => true
  | .twinSelect _ _ => true
  | .sealSet _ _ _ => true
  | .sealUnlock _ _ _ => true
  | .sealLockoutExpiry k => decide (k < 64)
  | .modeRequest _ _ => true
  | .pendingRequestJudge => true
  | .modeEntered => true
  | .powerOn => true
  | .bringupDone _ _ _ _ => true
  | .trainDone => true
  | .wakeTimerExpiry => true
  | .watchWake _ _ => true
  | .sealFuseCommand _ => true
  | .lockdownCommand _ => true
  | .keyStoreCheck _ => true
  | .tamperAssert => true
  | .dbgAuth _ => true
  | .dbgAuthDone _ _ => true
  | .dbgEnd _ => true
  | .dbgSessionExpiry => true
  | .dbgLevelWrite _ => true
  | .dbgWinData0Read => true
  | .dbgWinData3Write _ => true
  | .vinLevelChange _ => true
  | .junctionSample readings => decide (readings.length = 8)
  | .resetAssert kind => decide (kind < 6)
  | .xtalSilent => true
  | .timeRefSilent => true
  | .fabResponseTimeout => true
  | .agingMeasure i _ => decide (i < 4)
  | .dramPortStall port routes => decide (port < 2 && routes < 2 ^ 32)
  | .portBufferHalfEmpty port => decide (port < 2)
  | .dramSrRise => true
  | .srHoldExpiry => true
  | .dramSrExitAck => true
  | .aliveToggle => true
  | .ppsEdgeMissed => true
  | .crystalEdgesReturn => true
  | .fabricWriteAcknowledgement kind _ => decide (kind < 4)

end Sys2Proof
end

