-- ==== Sys2Proof/Tests/Slice0.lean ====
section
/-! SUPPORT. Small tests: the well-formedness smoke test, values the spec writes out in its worked examples, and a witness for the
hypotheses of every clause of the statements. -/

namespace Sys2Proof.Tests

set_option Elab.async false

open Sys2Proof Sys2Proof.Machine

/-! ### Ill-formed commands are refused by the check -/

theorem test_ill_formed_offset : Instr.wellFormed (.registerWrite 0x100000 0) = false := by decide
theorem test_ill_formed_cycles : Instr.wellFormed (.seamTimeout 0x100000) = false := by decide
theorem test_ill_formed_route : Instr.wellFormed (.trainingStart 32) = false := by decide
theorem test_ill_formed_die : Instr.wellFormed (.minRunExpiry 0 16) = false := by decide
theorem test_ill_formed_chip_enable : Instr.wellFormed (.rbnFault 0 4) = false := by decide
theorem test_ill_formed_member : Instr.wellFormed (.rowMemberProgramStart 0 16) = false := by decide
theorem test_ill_formed_shift : Instr.wellFormed (.recalPhaseDone 0 0 25 0) = false := by decide
theorem test_ill_formed_group : Instr.wellFormed (.driftEstimate 0 0 8) = false := by decide
theorem test_ill_formed_core : Instr.wellFormed (.decoderCoreFree 68) = false := by decide
theorem test_ill_formed_word : Instr.wellFormed (.decodeDone 0 0 []) = false := by decide
theorem test_ill_formed_lane : Instr.wellFormed (.laneFault 34) = false := by decide
theorem test_ill_formed_queue : Instr.wellFormed (.completionWrite 1024) = false := by decide
theorem test_ill_formed_response : Instr.wellFormed (.entryFetch 0 [] 7 false) = false := by decide
theorem test_ill_formed_source : Instr.wellFormed (.sourceFire 256) = false := by decide
theorem test_ill_formed_cpu_core : Instr.wellFormed (.noticeAccept 8) = false := by decide
theorem test_ill_formed_timer : Instr.wellFormed (.modTimerExpiry 16) = false := by decide
theorem test_ill_formed_bank : Instr.wellFormed (.writeBack 1536) = false := by decide
theorem test_ill_formed_entry : Instr.wellFormed (.rebuildBaseBlock 16 [] false 0 none) = false := by decide
theorem test_ill_formed_time : Instr.wellFormed (.ppsEdge (2 ^ 48) 0 0) = false := by decide
theorem test_ill_formed_peer : Instr.wellFormed (.peerReadDue 16 [] 0) = false := by decide
theorem test_ill_formed_seal : Instr.wellFormed (.sealLockoutExpiry 64) = false := by decide
theorem test_ill_formed_readings : Instr.wellFormed (.junctionSample []) = false := by decide
theorem test_ill_formed_reset : Instr.wellFormed (.resetAssert 6) = false := by decide
theorem test_ill_formed_regulator : Instr.wellFormed (.agingMeasure 4 0) = false := by decide
theorem test_ill_formed_port : Instr.wellFormed (.portBufferHalfEmpty 2) = false := by decide
theorem test_ill_formed_write_kind : Instr.wellFormed (.fabricWriteAcknowledgement 4 true) = false := by decide

/-- The table gives no row bits, so no word spells a command. -/
theorem test_no_word_spells_a_command : decodeTableWord 32 0 = none := rfl

/-- A small configuration: routes 0 and 1 with sixteen dies each, one geometry class, one layout over route 0. -/
def cfg0 : ImgCfg :=
  { mask := 3, geos := [{ blocks := 1024, pages := 64, planes := 2 }], layouts := [List.range 16],
    routes := [{ dies := 0xFFFF, rate := 3600, relief := 2, errLimit := 10 }, { dies := 0xFFFF, rate := 3600 }] ++ List.replicate 30 {} }

/-- Mode `m`, with routes 0 and 1 UP and die 0 idle. -/
def inMode (m : Nat) : State :=
  let s : State := { State.reset with img := { cfg := cfg0, effMask := 3, eff := cfg0.routes } }
  (((s.setF F.MODE_MODE m).setF (F.RT_STATUS_STATE 0) 2).setF (F.RT_STATUS_STATE 1) 2).setDieSt 0 1

/-- Descriptor 5 of queue `sq`: opcode `op`, the listed bytes, the rest zero. -/
def dsc (sq op : Nat) (l : List (Nat × Nat)) : Desc :=
  { id := 5, sq := sq, admitNs := 0,
    bytes := (List.range 64).map fun i => BitVec.ofNat 8 (((0, op) :: l).lookup i |>.getD 0) }

/-- `s` with one descriptor. -/
def withD (s : State) (d : Desc) : State := { s with descs := [d] }

/-- `s` with an admin descriptor that executes. -/
def adm (s : State) (op : Nat) (l : List (Nat × Nat)) : State := withD s (dsc 0 op l)

/-- A die operation of class `cls` on block 4 of die 0. -/
def opn (cls : Nat) : DieOp := { id := 9, ord := 9, cls := cls, origin := .queue 1, pages := [65536] }

/-- `s` with die 0 in a state, holding `d`. -/
def die0 (s : State) (st : Nat) (d : Die) : State := (s.setDie 0 d).setDieSt 0 st

/-- An envelope job of descriptor 5 on block 4 of die 0. -/
def job7 : Job := { id := 7, ord := 7, addr := 65536, dest := .desc 5 0, origin := .queue 1 }

/-- `s` with that job's descriptor and the jobs `l`. -/
def withJ (s : State) (l : List Job) : State :=
  let s : State := withD s { dsc 1 1 [] with results := [none] }
  { s with seq := { s.seq with jobs := l } }

/-- `s` with one submission queue 1 and its completion queue 1. -/
def withQ (s : State) (q : SQ) (c : CQ) : State := { s with q := { s.q with sqs := [(1, some q)], cqs := [(1, some c)] } }

/-- `s` with route 0's record. -/
def rt0 (s : State) (st : Nat) (x : Route) : State := (s.setRoute 0 x).setF (F.RT_STATUS_STATE 0) st

/-- The content and payload of each envelope of a PROGRAM_STRIPE, as the statements write them. -/
def envsOf (s : State) (d : Desc) (buf md : Bytes) (n used : Nat) : List (Bytes × Bytes) :=
  (List.range n).map fun i =>
    (s.progContent d.bytes md (slice buf (4096 * i) 4096) i ((used + i) % 14), slice buf (4096 * i) 4096)

/-- A transfer that is given its own length carries just that. -/
theorem carried_self (n : Nat) (data : Bytes) (h : data.length = n) : carried n 0 data = data := by
  subst h; simp [carried, slice]

/-- A ledger entry, INTENT of block 0 (Table 4-2). -/
def ledgerEntry : Bytes := [0x45, 0x4C, 0x44, 0x47, 1] ++ List.replicate 55 0 ++ leBytes 4 2050752075

/-- The parity of the code word that carries it under an all-zero header, block column 130 first (R138). -/
def ledgerParity : List Nat := [
  0xa3a2267555da18655948b651de1600001e8eff92c00000000000000000000000,
  0x51d1133aaaed0c32aca45b28ef0b000011c9805ba00000000000000000000000,
  0x51d1133aaaed0c32aca45b28ef0b000011c9805ba00000000000000000000000,
  0x51d1133aaaed0c32ac07f90ecd8b000011c9805ba00000000000000000000000,
  0x51d113cedd119a32ac07f90ecd8b000011c9805ba00000000000000000000000,
  0x51d113cedd119a32ac07f90ecd8b000011c9805ba00000000000000000000000,
  0x51d113cedd119a32ac07f90ecd8b000011c9805ba00000000000000000000000,
  0x51d113cedd1139908a25790ecd8b000011c9805ba00000000000000000000000,
  0xf27335bb88cb2eb2aca4af5f139d00000f477fc9600000000000000000000000,
  0xf27335bb88cb2eb2aca4af5f139d00000f477fc9600000000000000000000000,
  0xf27335bb88cb2eb2aca4af5f139d00000f477fc9600000000000000000000000,
  0xf27335182aed0c32aca4af5f139d00000f477fc9600000000000000000000000,
  0xf27335182aed0c32aca45b28ef0b00000f477fc9600000000000000000000000,
  0xf27335182aed0c32aca45b28ef0b00000f477fc9600000000000000000000000,
  0xf27335182aed0c32aca45b28ef0b00000f477fc9600000000000000000000000]

/-- That code word. -/
def ledgerWord : Bytes :=
  List.replicate 64 0 ++ ledgerEntry ++ List.replicate 4032 0 ++ ledgerParity.flatMap (leBytes 32)
/-! ### Values from the spec's worked examples -/

/-- The state after a command, or the state it started from where it does not answer a next one. -/
def ran (c : Instr) (s : State) : State :=
  match exec c s with
  | .next t => t
  | _ => s

/-- Table 6-6: the content bytes of the worked header. -/
theorem test_worked_header :
    Header.bytes { postmark := 0x6AB13B80 * 2 ^ 32 + 0x3B9ACA03, column := 0x211A7, slab := 48211, origin := 1203, zmin := 0x3FB1E, zmax := 0x20D0,
                   count := 1820, stripe := 5, format := 2 } =
    [0x03, 0xCA, 0x9A, 0x3B, 0x80, 0x3B, 0xB1, 0x6A, 0, 0, 0xA7, 0x11, 2, 0, 0x53, 0xBC, 0, 0, 0xB3, 0x04, 0x78, 0xEC, 0x0F, 0x0D, 0x02,
      0xC7, 0x4B, 0, 0, 0] := by decide +kernel

/-- The worked header's envelope address 3.12.1071.355.2. -/
theorem test_worked_address : mkAddr (dieKey 3 12) 1071 355 2 = 0x000F010BC58E := by decide

/-- R320: 5 is later than 0xFFFF_FFF0, and 0x8000_0000 and 0 lie too far apart. -/
theorem test_serial_order : serialLater 32 5 0xFFFFFFF0 = true ∧ serialLater 32 0xFFFFFFF0 5 = false ∧ genApart 0x80000000 0 = true := by decide

/-- Table 19-3: the zone values of LT −1,500 for E0, E1 and E2. -/
theorem test_zone_values : zonePred 2 (-1820) 3300 (-1500) 0 = 1 ∧ zonePred 2 (-1600) (-1510) (-1500) 0 = 2 ∧
    zonePred 2 (-1250) 8400 (-1500) 0 = 0 := by decide

/-- Table 19-5 step 3: the reserved flag bit in slot 5 of SQ 7 stops the queue with cause 2. -/
theorem test_reserved_flag_stops_queue :
    let q : SQ := { base := 4096, k := 5, cq := 7, head := 5, tail := 8, cache := [{ slot := 5, bytes := [0x01, 0x88, 0x05, 0x01] ++ List.replicate 60 0 }] }
    let t := ran .admission { inMode 4 with q := { (inMode 4).q with sqs := [(7, some q)], cqs := [(7, some { base := 8192, k := 5 })] } }
    t.getR R.Q_STOP_LOG = 0x08070005 ∧ t.getR (R.Q_STOPPED 0) = 0x80 ∧ t.getF F.Q_EVENT_QUEUE_STOP = 1 := by decide +kernel

/-- The worked dead letter: LOST, from patrol, UNCORRECTABLE, sequence 3, poisoned. -/
theorem test_worked_dead_letter :
    let s : State := { inMode 4 with fi := { seq := 3 } }
    slice (s.letterBytes { addr := 0x12409B8FE7, byRebuild := false, status := 0x010, code := 0, kind := 1, round := 0x11,
                           content := some (Header.bytes { column := 0x30A10, slab := 77140 }) }) 0 44 =
    [1, 1, 0x10, 0x00, 3, 0, 0, 0, 0xE7, 0x8F, 0x9B, 0x40, 0x12, 0, 0, 0, 0, 0, 0, 0, 0, 0, 0, 0, 0x10, 0x0A, 3, 0, 0x54, 0x2D, 1, 0] ++ List.replicate 10 0 ++ [3, 0] := by decide +kernel

/-- R9: a write changes the RW fields of `ENS_FI_CTRL`, bits 11 to 0, and no reserved bit. -/
theorem test_register_write : (ran (.registerWrite R.FI_CTRL 0xFFFFFFFF) (inMode 4)).getR R.FI_CTRL = 0xFFF := by decide +kernel

/-- A step on an empty queue idles. -/
theorem test_idle : step State.reset = .next State.reset := rfl

/-! ### A valid twin, its check codes symbolic: the kernel need not compute one over a whole twin -/

theorem crcBits_lt (n c : Nat) (h : c < 2 ^ 32) : crcBits n c < 2 ^ 32 := by
  induction n generalizing c with
  | zero => exact h
  | succ n ih =>
    simp only [crcBits]
    split
    · exact ih _ (Nat.xor_lt_two_pow (lt_of_le_of_lt (Nat.shiftRight_le c 1) h) (by decide))
    · exact ih _ (lt_of_le_of_lt (Nat.shiftRight_le c 1) h)

theorem crc32c_lt (b : Bytes) : crc32c b < 2 ^ 32 := by
  have h (l : Bytes) (c : Nat) (hc : c < 2 ^ 32) : l.foldl (fun c b => crcBits 8 (c ^^^ b.toNat)) c < 2 ^ 32 := by
    induction l generalizing c with
    | nil => exact hc
    | cons x l ih => exact ih _ (crcBits_lt _ _ (Nat.xor_lt_two_pow hc (lt_trans x.isLt (by decide))))
  exact Nat.xor_lt_two_pow (h b _ (by decide)) (by decide)

theorem leNat_leBytes4 (x : Nat) (h : x < 2 ^ 32) : leNat (leBytes 4 x) = x := by
  simp only [leBytes, leNat, BitVec.toNat_ofNat]; omega

/-- A slice inside the second of three parts. -/
theorem slice_mid (a b c : Bytes) (k n : Nat) (hk : k = a.length) (hn : n = b.length) : slice (a ++ b ++ c) k n = b := by
  subst hk hn
  simp [slice]

/-- A list with its CRC after it. -/
def withCrc (b : Bytes) : Bytes := b ++ leBytes 4 (crc32c b)

theorem withCrc_ok (b : Bytes) (n : Nat) (h : n = b.length) : field (withCrc b) n 4 = crc32c (slice (withCrc b) 0 n) := by
  have h1 : slice (withCrc b) n 4 = leBytes 4 (crc32c b) := by
    have := slice_mid b (leBytes 4 (crc32c b)) [] n 4 h (by simp [leBytes]); simpa [withCrc] using this
  have h2 : slice (withCrc b) 0 n = b := by
    have := slice_mid [] b (leBytes 4 (crc32c b)) 0 n rfl h; simpa [withCrc] using this
  rw [field, h1, h2, leNat_leBytes4 _ (crc32c_lt b)]

/-- The 80 pages before a commit page of twin `t`, all zero but the summary. -/
def twinPages (t : Byte) : List Bytes :=
  withCrc ([0x45, 0x4E, 0x53, 0x48, 1, t] ++ List.replicate 4086 0) :: List.replicate 79 [0]

/-- A twin with its commit page. -/
def validTwin (t : Byte) : List Bytes :=
  twinPages t ++ [withCrc ([0x45, 0x4E, 0x53, 0x43, 1, t] ++ List.replicate 6 0 ++
    leBytes 4 (crc32c ((twinPages t).map fun b => slice b 0 4096).flatten) ++ List.replicate 44 0)]

theorem twin_class (s : State) (t : Nat) (ht : t < 2) (h : s.twinGone t = none) (o : s.originId = 0) :
    s.twinClass t (validTwin (BitVec.ofNat 8 t)) = 0 := by
  obtain rfl | rfl : t = 0 ∨ t = 1 := by omega
  all_goals
    have hc : ∀ u : Byte, (validTwin u).getD 80 [] = withCrc ([0x45, 0x4E, 0x53, 0x43, 1, u] ++ List.replicate 6 0 ++
      leBytes 4 (crc32c ((twinPages u).map fun b => slice b 0 4096).flatten) ++ List.replicate 44 0) := fun u => rfl
    have ht : ∀ u : Byte, (validTwin u).take 80 = twinPages u := fun u => rfl
    have hd : ∀ u : Byte, (validTwin u).headD [] = withCrc ([0x45, 0x4E, 0x53, 0x48, 1, u] ++ List.replicate 4086 0) := fun u => rfl
    have hx : ∀ (u : Byte) (x : Nat), x < 2 ^ 32 → field (withCrc ([0x45, 0x4E, 0x53, 0x43, 1, u] ++ List.replicate 6 0 ++ leBytes 4 x ++ List.replicate 44 0)) 12 4 = x := by
      intro u x hx
      have e := slice_mid ([0x45, 0x4E, 0x53, 0x43, 1, u] ++ List.replicate 6 0) (leBytes 4 x) (List.replicate 44 0 ++
        leBytes 4 (crc32c ([0x45, 0x4E, 0x53, 0x43, 1, u] ++ List.replicate 6 0 ++ leBytes 4 x ++ List.replicate 44 0))) 12 4 rfl rfl
      rw [field, withCrc, List.append_assoc, e, leNat_leBytes4 x hx]
    have hz (u : Byte) (x : Nat) := withCrc_ok ([0x45, 0x4E, 0x53, 0x43, 1, u] ++ List.replicate 6 0 ++ leBytes 4 x ++ List.replicate 44 0) 60 rfl
    have hs (u : Byte) := withCrc_ok ([0x45, 0x4E, 0x53, 0x48, 1, u] ++ List.replicate 4086 0) 4092 (by rw [List.length_append, List.length_replicate]; rfl)
    unfold State.twinClass
    simp only [hc, ht, hd, h, o, hx _ _ (crc32c_lt _), hz, hs]
    rw [if_neg (by simp), if_neg, if_neg, if_neg, if_neg]
    · intro e; exact e rfl
    · rintro (e | e | e | e | e | e)
      · exact Bool.false_ne_true e
      · exact e rfl
      · exact e (by decide +kernel)
      · exact e (by decide +kernel)
      · exact e (by decide +kernel)
      · exact e rfl
    · rintro (e | e | e | e)
      · exact List.cons_ne_nil _ _ e
      all_goals exact e rfl
    · intro e; exact List.cons_ne_nil _ _ e

/-! ### Witnesses: each clause's hypotheses are met together -/

/-- The hypotheses of each clause of `Obligations.RefusedAccessesAreLogged` are met. -/
theorem witness_RefusedAccessesAreLogged :
    (∃ (s : State) (off : Nat), s.answers = true ∧ off % 4 = 0 ∧ off < 2 ^ 20 ∧ regRow? off = none) ∧
    (∃ (s : State) (off : Nat), s.answers = true ∧ off < 2 ^ 20) :=
  ⟨⟨inMode 4, 0x28, by decide +kernel⟩,
   ⟨inMode 4, 0xFFFFF, by decide +kernel⟩⟩

/-- The hypotheses of `Obligations.PlainWriteFollowsAccessCodes` are met. -/
theorem witness_PlainWriteFollowsAccessCodes : ∃ (s : State) (off : Nat) (v : W32) (row : RegRow), s.takes off ∧
      regRow? off = some row ∧ actsOnWrite off = false ∧ (v.toNat ^^^ (s.getR off).toNat) &&& s.lockedMask row = 0 :=
  ⟨inMode 4, R.FI_CTRL, 0x0F#32, (regRow? R.FI_CTRL).get (by decide), by (unfold State.takes; decide +kernel)⟩

/-- The hypotheses of each clause of `Obligations.ExpertAccessGuardsItsFields` are met. -/
theorem witness_ExpertAccessGuardsItsFields :
    (∃ (s : State) (off : Nat) (v : W32) (row : RegRow), s.takes off ∧ s.expertOpen = false ∧ off ∈ [R.PM_HOLD_X, R.Q_X, R.MI_X, R.FI_X, R.RC_DEC_X, R.SO_X, R.HB_X, R.PWR_BND_X] ∧
      regRow? off = some row ∧ (v.toNat ^^^ (s.getR off).toNat) &&& row.rwx ≠ 0) ∧
    (∃ (s : State), s.takes R.EXPERT_KEY) :=
  ⟨⟨inMode 4, R.Q_X, 0xFF#32, (regRow? R.Q_X).get (by decide), by (unfold State.takes; decide +kernel)⟩,
   ⟨inMode 4, by (unfold State.takes; decide +kernel)⟩⟩

/-- The hypotheses of each clause of `Obligations.ImageCommandsActOrAreRefused` are met. -/
theorem witness_ImageCommandsActOrAreRefused :
    (∃ (s : State) (v : W32), s.takes R.IMG_CTRL ∧ v.toNat % 8 = 1 ∧ s.secState ≠ 3 ∧ s.getF F.IMG_STATUS_STATE ∈ [0, 3, 6, 7] ∧
      s.modeNow ∈ [2, 4, 5, 11]) ∧
    (∃ (s : State) (v : W32), s.takes R.IMG_CTRL ∧ v.toNat % 8 = 1 ∧ s.secState ≠ 3 ∧ s.getF F.IMG_STATUS_STATE ∈ [1, 2, 4, 5]) ∧
    (∃ (s : State) (v : W32), s.takes R.IMG_CTRL ∧ v.toNat % 8 = 2 ∧ s.secState ≠ 3 ∧ s.modeNow = 2 ∧ s.getF F.IMG_STATUS_STATE = 3) ∧
    (∃ (s : State) (v : W32), s.takes R.IMG_CTRL ∧ v.toNat % 8 = 4 ∧ s.getF F.IMG_STATUS_STATE ∈ [1, 2, 3, 7]) :=
  ⟨⟨inMode 2, 1, by (unfold State.takes; decide +kernel)⟩,
   ⟨(inMode 4).setF F.IMG_STATUS_STATE 5, 1, by (unfold State.takes; decide +kernel)⟩,
   ⟨(inMode 2).setF F.IMG_STATUS_STATE 3, 2, by (unfold State.takes; decide +kernel)⟩,
   ⟨(inMode 4).setF F.IMG_STATUS_STATE 7, 4, by (unfold State.takes; decide +kernel)⟩⟩

/-- The hypotheses of each clause of `Obligations.ImagesAreFetchedAndVerified` are met. -/
theorem witness_ImagesAreFetchedAndVerified :
    (∃ (s : State), s.getF F.IMG_STATUS_STATE = 1) ∧
    (∃ (s : State), s.getF F.IMG_STATUS_STATE = 1) ∧
    (∃ (s : State), s.getF F.IMG_STATUS_STATE = 2 ∧ s.mode.watchImage = false) :=
  ⟨⟨(inMode 2).setF F.IMG_STATUS_STATE 1, by decide +kernel⟩,
   ⟨(inMode 2).setF F.IMG_STATUS_STATE 1, by decide +kernel⟩,
   ⟨(inMode 2).setF F.IMG_STATUS_STATE 2, by decide +kernel⟩⟩

/-- The hypotheses of each clause of `Obligations.SeamEndsUnderNewOrOldImage` are met. -/
theorem witness_SeamEndsUnderNewOrOldImage :
    (∃ (s : State), s.getF F.IMG_STATUS_STATE = 5 ∧ s.modeNow ≠ 2 ∧ s.sec.heldWrites = [] ∧ (∀ e ∈ s.rc.cores, e.2 = none)) ∧
    (∃ (s : State), s.getF F.IMG_STATUS_STATE = 5 ∧ s.modeNow ≠ 2 ∧ s.sec.heldWrites = [] ∧ (∃ e ∈ s.rc.cores, e.2 ≠ none)) ∧
    (∃ (s : State), s.getF F.IMG_STATUS_STATE = 5 ∧ s.modeNow ≠ 2 ∧ s.sec.heldWrites = [] ∧ s.img.boundary = false) ∧
    (∃ (s : State), s.getF F.IMG_STATUS_STATE = 5 ∧ s.modeNow ≠ 2 ∧ s.sec.heldWrites = [] ∧ s.img.boundary = true ∧
      s.mode.watchImage = false) :=
  ⟨⟨(inMode 4).setF F.IMG_STATUS_STATE 5, by decide +kernel⟩,
   ⟨{ (inMode 4).setF F.IMG_STATUS_STATE 5 with rc := { cores := [(0, some 7)] } }, by decide +kernel⟩,
   ⟨(inMode 4).setF F.IMG_STATUS_STATE 5, by decide +kernel⟩,
   ⟨{ (inMode 4).setF F.IMG_STATUS_STATE 5 with img := { (inMode 4).img with boundary := true } }, by decide +kernel⟩⟩

/-- The hypotheses of each clause of `Obligations.FiresFollowSourceState` are met. -/
theorem witness_FiresFollowSourceState :
    (∃ (s : State) (src : Nat), src < 256 ∧ ¬(19 ≤ src ∧ src ≤ 31) ∧ s.srcEn src = false) ∧
    (∃ (s : State) (src : Nat), src < 256 ∧ ¬(19 ≤ src ∧ src ≤ 31) ∧ s.srcEn src = true ∧ s.srcActive src = true) ∧
    (∃ (s : State) (src : Nat), src < 256 ∧ ¬(19 ≤ src ∧ src ≤ 31) ∧ s.srcEn src = true ∧ s.srcActive src = false ∧ s.srcPend src = true) ∧
    (∃ (s : State) (src : Nat), src < 256 ∧ ¬(19 ≤ src ∧ src ≤ 31) ∧ s.srcEn src = true ∧ s.srcActive src = false ∧ s.srcPend src = false) ∧
    (∃ (s : State) (v : W32), s.takes R.LETTERBOX ∧ 64 ≤ v.toNat ∧ v.toNat < 256) ∧
    (∃ (s : State) (v : W32), s.takes R.LETTERBOX ∧ v.toNat < 64) :=
  ⟨⟨inMode 4, 255, by decide +kernel⟩,
   ⟨((inMode 4).setF (srcField 255 4 1) 1).setBit (R.NTC_ACTIVE 0) 255 true, 255, by decide +kernel⟩,
   ⟨((inMode 4).setF (srcField 255 4 1) 1).setBit (R.NTC_PEND 0) 255 true, 255, by decide +kernel⟩,
   ⟨((inMode 4).setF (srcField 255 4 1) 1), 255, by decide +kernel⟩,
   ⟨inMode 4, 255, by (unfold State.takes; decide +kernel)⟩,
   ⟨inMode 4, 63, by (unfold State.takes; decide +kernel)⟩⟩

/-- The hypotheses of each clause of `Obligations.AcceptsAndEndsMoveTheStack` are met. -/
theorem witness_AcceptsAndEndsMoveTheStack :
    (∃ (s : State) (c : Nat) (src : Nat), src < 256 ∧ (s.core c).presented = some src) ∧
    (∃ (s : State) (c : Nat) (top : Nat) (lvl : Nat) (v : W32) (rest : List (Nat × Nat)), c < 8 ∧ s.takes (R.NTC_EOI c) ∧
      (s.core c).stack = (top, lvl) :: rest ∧ lvl ≠ 16 ∧ v.toNat = top ∧ top < 256) ∧
    (∃ (s : State) (c : Nat) (top : Nat) (v : W32) (rest : List (Nat × Nat)), c < 8 ∧ s.takes (R.NTF_EOI c) ∧ (s.core c).stack = (top,
      16) :: rest ∧ v.toNat = top ∧ top < 256) ∧
    (∃ (s : State) (c : Nat) (v : W32), c < 8 ∧ s.takes R.NTC_STACK_RESET ∧ v.toNat = 2 ^ c) :=
  ⟨⟨(inMode 4).setCore 7 { presented := some 255 }, 7, 255, by decide +kernel⟩,
   ⟨(inMode 4).setCore 7 { stack := [(255, 9), (70, 5)] }, 7, 255, 9, 255, [(70, 5)], by (unfold State.takes; decide +kernel)⟩,
   ⟨(inMode 4).setCore 7 { stack := [(9, 16)] }, 7, 9, 9, [], by (unfold State.takes; decide +kernel)⟩,
   ⟨inMode 4, 7, 0x80, by (unfold State.takes; decide +kernel)⟩⟩

/-- The hypotheses of each clause of `Obligations.ArbitrationPresentsTheHighestSource` are met. -/
theorem witness_ArbitrationPresentsTheHighestSource :
    (∃ (s : State) (u : State) (c : Nat) (x : Nat), ((s.core c).presented = none ∨ (∃ p, (s.core c).presented = some p ∧
      u.presentable c p = true ∧ s.srcLevel p < s.srcLevel x)) ∧ c < 8 ∧ u = s.releaseIdle c ∧ (s.core c).popping = false ∧ x < 256 ∧
      u.presentable c x = true ∧ (∀ y,
      y < 256 → u.presentable c y = true → s.srcLevel y < s.srcLevel x ∨ (s.srcLevel y = s.srcLevel x ∧ x ≤ y))) ∧
    (∃ (s : State) (c : Nat) (p : Nat), c < 8 ∧ (s.core c).popping = false ∧ (s.core c).presented = some p ∧
      (s.releaseIdle c).presentable c p = false) ∧
    (∃ (s : State) (c : Nat), c < 8 ∧ (s.core c).popping = true) ∧
    (∃ (s : State) (c : Nat), c < 8 ∧ (s.core c).popping = true) :=
  ⟨⟨((inMode 4).setBit (R.NTC_PEND 0) 70 true).setBit (R.NTC_MASK 0) 70 false,
      (((inMode 4).setBit (R.NTC_PEND 0) 70 true).setBit (R.NTC_MASK 0) 70 false).releaseIdle 0, 0, 70, (Or.inl (by decide +kernel)),
      by decide +kernel⟩,
   ⟨(inMode 4).setCore 0 { presented := some 70 }, 0, 70, by decide +kernel⟩,
   ⟨(inMode 4).setCore 0 { popping := true }, 0, by decide +kernel⟩,
   ⟨(inMode 4).setCore 0 { popping := true }, 0, by decide +kernel⟩⟩

/-- The hypotheses of each clause of `Obligations.HeldAndSleepingSourcesAreDelivered` are met. -/
theorem witness_HeldAndSleepingSourcesAreDelivered :
    (∃ (s : State) (g : Nat), g ∈ s.ntc.timing) ∧
    (∃ (c : Nat), c < 8) ∧
    (∃ (c : Nat), c < 8) ∧
    (∃ (s : State) (src : Nat), src < 256 ∧ s.srcPend src = true ∧ s.sleeps (s.srcTarget src) = true ∧ s.srcWatch src = true) ∧
    (∃ (s : State) (src : Nat), src < 256 ∧ s.srcPend src = true ∧ s.sleeps (s.srcTarget src) = true ∧ s.srcWatch src = false ∧
      s.getF F.NTC_X_REDIRECT_OFF = 0) :=
  ⟨⟨{ inMode 4 with ntc := { timing := [15] } }, 15, by decide +kernel⟩,
   ⟨7, by decide +kernel⟩,
   ⟨7, by decide +kernel⟩,
   ⟨((((inMode 4).setR R.NTC_SLEEP 1).setCore 0 { idle := true }).setBit (R.NTC_PEND 0) 70 true).setF (srcField 70 5 1) 1, 70,
      by decide +kernel⟩,
   ⟨((((inMode 4).setR R.NTC_SLEEP 1).setCore 0 { idle := true }).setBit (R.NTC_PEND 0) 70 true), 70, by decide +kernel⟩⟩

/-- The hypotheses of each clause of `Obligations.PostmarkAdvancesEachTick` are met. -/
theorem witness_PostmarkAdvancesEachTick :
    (∃ (s : State), s.timeRuns = true ∧ s.pm.stepNs = 0 ∧ s.pm.slew = 0 ∧ s.pm.r = 0 ∧ s.pm.frac < 2 ^ 32 ∧ s.pm.ns < 10 ^ 9 ∧
      s.pm.sec + 1 < 2 ^ 48) ∧
    (∃ (s : State), s.timeRuns = true ∧ s.pm.stepNs = 0 ∧ s.pm.slew ≠ 0) ∧
    (∃ (s : State), s.bnd.timeRefOk = false) :=
  ⟨⟨{ inMode 4 with pm := { sec := 5, ns := 999999999, own := 1 } }, by decide +kernel⟩,
   ⟨{ inMode 4 with pm := { slew := 8 } }, by decide +kernel⟩,
   ⟨{ inMode 4 with bnd := { timeRefOk := false } }, by decide +kernel⟩⟩

/-- The hypotheses of each clause of `Obligations.TimeIsSetHeldAndRestarted` are met. -/
theorem witness_TimeIsSetHeldAndRestarted :
    (∃ (s : State) (tod : Nat) (tu : Nat), s.timeRuns = true ∧ s.pm.own = 0 ∧ s.pm.firstEdge = true ∧ 0 < tu ∧ tu < 4 ∧ tod < 2 ^ 48) ∧
    (∃ (s : State), s.timeRuns = true ∧ s.pm.own = 3) ∧
    (∃ (s : State), s.pm.own = 2) ∧
    (∃ (s : State) (v : W32), s.takes R.PM_CTRL ∧ v.toNat.testBit 0 = true) ∧
    (∃ (s : State), s.answers = true) ∧
    (∃ (s : State) (ticks : Nat), s.bnd.timeRefOk = false ∧ s.answers = true ∧ s.sec.heldWrites = [] ∧
      s.pm.sec * 10 ^ 9 * 2 ^ 32 + s.pm.ns * 2 ^ 32 + s.pm.frac + ticks * 10 ^ 9 * 2 ^ 17 < 2 ^ 48 * 10 ^ 9 * 2 ^ 32) :=
  ⟨⟨inMode 4, 7, 3, by decide +kernel⟩,
   ⟨{ inMode 4 with pm := { own := 3 } }, by decide +kernel⟩,
   ⟨{ inMode 4 with pm := { own := 2 } }, by decide +kernel⟩,
   ⟨inMode 4, 1, by (unfold State.takes; decide +kernel)⟩,
   ⟨inMode 4, by decide +kernel⟩,
   ⟨{ inMode 4 with bnd := { timeRefOk := false } }, 32768, by decide +kernel⟩⟩

/-- The hypotheses of each clause of `Obligations.TimeIsReadAndExchanged` are met. -/
theorem witness_TimeIsReadAndExchanged :
    (∃ (s : State), s.answers = true) ∧
    (∃ (s : State), s.beaconsOn = true ∧ s.getF F.PWR_DRAM_SR = 0) ∧
    (∃ (s : State) (i : Nat) (b : Bytes), s.beaconsOn = true ∧ i < 16 ∧ s.getF (F.PM_PEER_LO_EN i) = 1 ∧ peerValid b = true ∧
      (tget (fun _ => ({} : Peer)) s.pm.peers i).seq ≠ some (field b 8 4)) ∧
    (∃ (s : State) (i : Nat), s.beaconsOn = true ∧ i < 16 ∧ s.getF (F.PM_PEER_LO_EN i) = 1 ∧
      2 ≤ (tget (fun _ => ({} : Peer)) s.pm.peers i).misses) :=
  ⟨⟨inMode 4, by decide +kernel⟩,
   ⟨((inMode 4).setF F.PM_BCN_CFG_EN 1), by decide +kernel⟩,
   ⟨(((inMode 4).setF F.PM_BCN_CFG_EN 1).setF (F.PM_PEER_LO_EN 15) 1), 15, ([0x45, 0x4E, 0x53, 0x42] ++ List.replicate 24 0 ++
      leBytes 4 (crc32c ([0x45, 0x4E, 0x53, 0x42] ++ List.replicate 24 0))), by decide +kernel⟩,
   ⟨{ (((inMode 4).setF F.PM_BCN_CFG_EN 1).setF (F.PM_PEER_LO_EN 15) 1) with pm := { peers := [(15, { misses := 2 })] } }, 15,
      by decide +kernel⟩⟩

/-- The hypotheses of each clause of `Obligations.SecurityCommandsSealAndLock` are met. -/
theorem witness_SecurityCommandsSealAndLock :
    (∃ (s : State) (v : W32), s.takes R.SEC_CTRL ∧ v.toNat = 0x5EA10F32 ∧ s.secState = 0 ∧ s.modeNow = 11) ∧
    (∃ (s : State) (v : W32), s.takes R.SEC_CTRL ∧ v.toNat = 0x5EA10F32 ∧ ¬(s.secState = 0 ∧ s.modeNow = 11)) ∧
    (∃ (s : State) (c : Instr) (cause : Nat), ((c = .tamperAssert ∧ cause = 1 ∧ s.answers = true ∧
      s.sec.heldWrites = []) ∨ (c = .keyStoreCheck true ∧ cause = 2 ∧ s.answers = true ∧
      s.sec.heldWrites = []) ∨ (c = .lockdownCommand 0x10CD0A11#32 ∧ cause = 3 ∧ s.takes R.SEC_CTRL)) ∧ s.secState ≠ 3) ∧
    (∃ (s : State) (c : Instr) (cause : Nat), ((c = .tamperAssert ∧ cause = 1 ∧ s.answers = true ∧
      s.sec.heldWrites = []) ∨ (c = .keyStoreCheck true ∧ cause = 2 ∧ s.answers = true ∧
      s.sec.heldWrites = []) ∨ (c = .lockdownCommand 0x10CD0A11#32 ∧ cause = 3 ∧ s.takes R.SEC_CTRL)) ∧ s.secState = 3) :=
  ⟨⟨inMode 11, 0x5EA10F32, by (unfold State.takes; decide +kernel)⟩,
   ⟨inMode 4, 0x5EA10F32, by (unfold State.takes; decide +kernel)⟩,
   ⟨inMode 4, .lockdownCommand 0x10CD0A11#32, 3, by (unfold State.takes; decide +kernel)⟩,
   ⟨(inMode 4).setF F.SEC_STATUS_STATE 3, .tamperAssert, 1, by (unfold State.takes; decide +kernel)⟩⟩

/-- The hypotheses of each clause of `Obligations.DebugSessionsOpenAndEnd` are met. -/
theorem witness_DebugSessionsOpenAndEnd :
    (∃ (s : State) (v : W32), s.takes R.DBG_CTRL ∧ s.secState = 1 ∧ v.toNat % 16 = 1 + 4 * s.dbgLevel ∧
      s.getF F.SEC_STATUS_AUTH_FAILS < 5) ∧
    (∃ (s : State), s.answers = true ∧ s.getF F.DBG_CTRL_AUTH = 1 ∧ s.secState = 1) ∧
    (∃ (s : State) (c : Instr), (c = .dbgSessionExpiry ∨ (∃ v, c = .dbgEnd v ∧ v.toNat % 16 = 2 ∧ s.takes R.DBG_CTRL)) ∧ s.secState = 2) ∧
    (∃ (s : State) (v : W32), s.takes R.DBG_CTRL ∧ s.secState = 0 ∧ v.toNat % 4 = 0 ∧ bits v.toNat 2 2 ≠ 3) ∧
    (∃ (s : State), s.modeNow ≠ 0) :=
  ⟨⟨(inMode 4).setF F.SEC_STATUS_STATE 1, 1, by (unfold State.takes; decide +kernel)⟩,
   ⟨((inMode 4).setF F.SEC_STATUS_STATE 1).setF F.DBG_CTRL_AUTH 1, by decide +kernel⟩,
   ⟨(inMode 4).setF F.SEC_STATUS_STATE 2, .dbgSessionExpiry, (Or.inl rfl), by decide +kernel⟩,
   ⟨inMode 4, 8, by (unfold State.takes; decide +kernel)⟩,
   ⟨inMode 1, by decide +kernel⟩⟩

/-- The hypotheses of each clause of `Obligations.SupplyAndTemperatureAct` are met. -/
theorem witness_SupplyAndTemperatureAct :
    (∃ (s : State) (uv : Nat), s.answers = true ∧ 1000000 ≤ uv ∧ uv < 1620000) ∧
    (∃ (s : State) (uv : Nat), s.answers = true ∧ 1730000 ≤ uv ∧ uv ≤ 1870000) ∧
    (∃ (s : State) (readings : List Int) (x : Int), s.answers = true ∧ s.sec.heldWrites = [] ∧ readings.length = 8 ∧ (∀ y ∈ readings,
      -55 ≤ y ∧ y ≤ x) ∧ x ∈ readings ∧ 170 ≤ x ∧ x ≤ 175 ∧ 9 ≤ s.bnd.critRun ∧ s.modeNow ≠ 1 ∧ s.modeNow ≠ 10) ∧
    (∃ (s : State) (readings : List Int) (x : Int), s.answers = true ∧ s.sec.heldWrites = [] ∧ readings.length = 8 ∧ (∀ y ∈ readings,
      -55 ≤ y ∧ y ≤ x) ∧ x ∈ readings ∧ x < 100) :=
  ⟨⟨inMode 4, 1619999, by decide +kernel⟩,
   ⟨inMode 4, 1870000, by decide +kernel⟩,
   ⟨{ inMode 4 with bnd := { critRun := 9 } }, [170, 170, 170, 170, 170, 170, 170, 175], 175, by decide +kernel⟩,
   ⟨inMode 4, List.replicate 8 (-55), -55, by decide +kernel⟩⟩

/-- The hypotheses of each clause of `Obligations.ClocksAgingAndHeartbeat` are met. -/
theorem witness_ClocksAgingAndHeartbeat :
    (∃ (s : State), s.answers = true ∧ s.bnd.xtalOk = true) ∧
    (∃ (s : State), s.modeNow ≠ 0) ∧
    (∃ (s : State), s.answers = true) ∧
    (∃ (s : State) (i : Nat), s.answers = true ∧ i < 4) ∧
    (∃ (s : State), s.answers = true) :=
  ⟨⟨inMode 4, by decide +kernel⟩,
   ⟨inMode 1, by decide +kernel⟩,
   ⟨inMode 4, by decide +kernel⟩,
   ⟨inMode 4, 3, by decide +kernel⟩,
   ⟨inMode 4, by decide +kernel⟩⟩

/-- The hypotheses of each clause of `Obligations.PortsAndModulesAreFollowed` are met. -/
theorem witness_PortsAndModulesAreFollowed :
    (∃ (s : State) (port : Nat), s.answers = true ∧ port < s.bnd.stalled.length ∧ port < 2) ∧
    (∃ (s : State) (port : Nat), s.answers = true ∧ port < s.bnd.stalled.length ∧ port < 2) ∧
    (∃ (s : State), s.answers = true) ∧
    (∃ (s : State), s.getF F.PWR_DRAM_SR = 1) ∧
    (∃ (s : State), s.getF F.PWR_DRAM_HOLDING = 1 ∧ s.sec.heldWrites = [] ∧ s.answers = true ∧ s.modeNow ≠ 1 ∧ s.modeNow ≠ 10) ∧
    (∃ (s : State) (r : Nat), r < 32 ∧ s.answers = true ∧ s.modeNow ≠ 1 ∧ s.getF (F.RT_PHY_STATUS_MOD_PRESENT r) = 0) ∧
    (∃ (s : State) (r : Nat), r < 32 ∧ s.answers = true ∧ s.modeNow ≠ 1 ∧ s.getF (F.RT_PHY_STATUS_MOD_PRESENT r) = 1 ∧ s.routeSt r ≠ 0) :=
  ⟨⟨inMode 4, 1, by decide +kernel⟩,
   ⟨inMode 4, 1, by decide +kernel⟩,
   ⟨inMode 4, by decide +kernel⟩,
   ⟨(inMode 4).setF F.PWR_DRAM_SR 1, by decide +kernel⟩,
   ⟨(inMode 4).setF F.PWR_DRAM_HOLDING 1, by decide +kernel⟩,
   ⟨inMode 4, 31, by decide +kernel⟩,
   ⟨((inMode 4).setF (F.RT_PHY_STATUS_MOD_PRESENT 31) 1).setF (F.RT_STATUS_STATE 31) 2, 31, by decide +kernel⟩⟩

/-- The hypotheses of each clause of `Obligations.ModeRequestsAreJudged` are met. -/
theorem witness_ModeRequestsAreJudged :
    (∃ (s : State) (pm : Bool), s.answers = true ∧ s.sec.heldWrites = [] ∧ (pm = false → s.takes R.MODE_REQ) ∧
      s.getF F.MODE_REQ_PENDING = 0 ∧ s.getF F.MODE_CHANGING = 1) ∧
    (∃ (s : State) (v : W32) (pm : Bool), s.answers = true ∧ s.sec.heldWrites = [] ∧ (pm = false → s.takes R.MODE_REQ) ∧
      s.getF F.MODE_REQ_PENDING = 0 ∧ s.getF F.MODE_CHANGING = 0 ∧ s.modeHeld (v.toNat % 16) = false ∧ v.toNat % 16 = s.modeNow) ∧
    (∃ (s : State) (v : W32) (pm : Bool), s.answers = true ∧ s.sec.heldWrites = [] ∧ (pm = false → s.takes R.MODE_REQ) ∧
      s.getF F.MODE_REQ_PENDING = 0 ∧ s.getF F.MODE_CHANGING = 0 ∧ s.modeHeld (v.toNat % 16) = false ∧
      (s.modeNow = 4 ∨ s.modeNow = 5) ∧ (v.toNat % 16 ∈ [6, 11] ∨ (v.toNat % 16 = 9 ∧ s.dbgLevel = 2))) ∧
    (∃ (s : State) (v : W32) (pm : Bool), s.answers = true ∧ s.sec.heldWrites = [] ∧ (pm = false → s.takes R.MODE_REQ) ∧
      s.getF F.MODE_REQ_PENDING = 0 ∧ s.getF F.MODE_CHANGING = 0 ∧ s.modeHeld (v.toNat % 16) = false ∧
      (s.modeNow = 4 ∨ s.modeNow = 5) ∧ v.toNat % 16 = 9 ∧ s.dbgLevel ≠ 2) ∧
    (∃ (s : State) (v : W32) (pm : Bool), s.answers = true ∧ s.sec.heldWrites = [] ∧ (pm = false → s.takes R.MODE_REQ) ∧
      s.getF F.MODE_REQ_PENDING = 0 ∧ s.getF F.MODE_CHANGING = 0 ∧ s.modeHeld (v.toNat % 16) = false ∧
      (s.modeNow = 4 ∨ s.modeNow = 5) ∧ v.toNat % 16 ∈ [0, 1, 2, 3, 7, 8, 12, 13, 14, 15]) ∧
    (∃ (s : State) (v : W32) (pm : Bool), s.answers = true ∧ s.sec.heldWrites = [] ∧ (pm = false → s.takes R.MODE_REQ) ∧
      s.getF F.MODE_REQ_PENDING = 0 ∧ s.getF F.MODE_CHANGING = 0 ∧ s.modeHeld (v.toNat % 16) = false ∧ v.toNat % 16 = 10 ∧
      s.modeNow ≠ 1 ∧ s.modeNow ≠ 10) :=
  ⟨⟨(inMode 4).setF F.MODE_CHANGING 1, false, by (unfold State.takes; decide +kernel)⟩,
   ⟨inMode 4, 4, false, by (unfold State.takes; decide +kernel)⟩,
   ⟨inMode 4, 11, false, by (unfold State.takes; decide +kernel)⟩,
   ⟨inMode 4, 9, false, by (unfold State.takes; decide +kernel)⟩,
   ⟨inMode 4, 15, false, by (unfold State.takes; decide +kernel)⟩,
   ⟨inMode 4, 10, false, by (unfold State.takes; decide +kernel)⟩⟩

/-- The hypotheses of each clause of `Obligations.RequestsWaitAndChangesComplete` are met. -/
theorem witness_RequestsWaitAndChangesComplete :
    (∃ (s : State) (q : ModeReq), s.mode.held = some q ∧ s.modeHeld q.mode = false ∧ s.getF F.MODE_CHANGING = 0 ∧
      s.sec.heldWrites = [] ∧ (s.modeNow = 4 ∨ s.modeNow = 5) ∧ q.mode ∈ [6, 11]) ∧
    (∃ (s : State) (m : Nat), s.mode.target = some m ∧ m ∈ [3, 6, 7, 9, 11] ∧ s.sec.heldWrites = [] ∧ s.modeNow ≠ 7 ∧
      (m = 7 → s.writesSettled = true)) ∧
    (∃ (s : State), s.mode.target = some 8 ∧ s.writesSettled = true ∧ s.modeNow = 6) :=
  ⟨⟨{ inMode 4 with mode := { held := some { mode := 6, ackLoss := false, pm := false } } }, { mode := 6, ackLoss := false, pm := false },
      by decide +kernel⟩,
   ⟨{ inMode 4 with mode := { target := some 11 } }, 11, by decide +kernel⟩,
   ⟨{ inMode 6 with mode := { target := some 8 } }, by decide +kernel⟩⟩

/-- The hypotheses of each clause of `Obligations.ResetsEnterOffAndPowerOnLeavesIt` are met. -/
theorem witness_ResetsEnterOffAndPowerOnLeavesIt :
    (∃ (s : State) (kind : Nat), s.answers = true ∧ kind < 2 ∧ 1000000 ≤ s.bnd.vinUv) ∧
    (∃ (s : State), s.modeNow = 0 ∧ 1710000 ≤ s.bnd.vinUv ∧ s.bnd.railsGood = true ∧ s.bnd.supplyGood = true ∧ s.bnd.resetN = true) ∧
    (∃ (s : State), s.modeNow = 0 ∧ s.bnd.resetN = false) :=
  ⟨⟨{ inMode 4 with bnd := { vinUv := 1000000 } }, 1, by decide +kernel⟩,
   ⟨{ inMode 0 with bnd := { vinUv := 1710000 } }, by decide +kernel⟩,
   ⟨{ inMode 0 with bnd := { resetN := false } }, by decide +kernel⟩⟩

/-- The hypotheses of each clause of `Obligations.BringupAndTrainEnd` are met. -/
theorem witness_BringupAndTrainEnd :
    (∃ (s : State), s.modeNow = 1 ∧ s.secState ≠ 3 ∧ s.bnd.vinUv ≤ 1980000 ∧ s.getF F.MODE_WOKE = 0 ∧ s.rc.retired.length < 68 ∧
      s.so.laneBad.length < 34) ∧
    (∃ (s : State), s.modeNow = 1 ∧ s.secState ≠ 3) ∧
    (∃ (s : State), s.modeNow = 3 ∧ s.mode.target = none ∧ s.hb.imgGen = none ∧ (∀ r, r < 32 → (s.route r).train = 0 ∧
      (s.routeOn r = true → r ∈ s.seq.scanned)) ∧ s.getF F.HB_STATUS_OUTCOME ≠ 0 ∧ s.seq.overflow = true) ∧
    (∃ (s : State), s.modeNow = 3 ∧ s.mode.target = none ∧ s.hb.imgGen = none ∧ (∀ r, r < 32 → (s.route r).train = 0 ∧
      (s.routeOn r = true → r ∈ s.seq.scanned)) ∧ s.getF F.HB_STATUS_OUTCOME ≠ 0 ∧ s.seq.overflow = false ∧
      3 ≤ s.getF F.HB_STATUS_OUTCOME) ∧
    (∃ (s : State), s.modeNow = 3 ∧ s.mode.target = none ∧ s.hb.imgGen = none ∧ (∀ r, r < 32 → (s.route r).train = 0 ∧
      (s.routeOn r = true → r ∈ s.seq.scanned)) ∧ s.getF F.HB_STATUS_OUTCOME ≠ 0 ∧ s.seq.overflow = false ∧
      s.getF F.HB_STATUS_OUTCOME < 3 ∧ s.mode.watchImage = false) :=
  ⟨⟨inMode 1, by decide +kernel⟩,
   ⟨inMode 1, by decide +kernel⟩,
   ⟨({ inMode 3 with seq := { scanned := [0, 1], overflow := true } } : State).setF F.HB_STATUS_OUTCOME 1, by decide +kernel⟩,
   ⟨({ inMode 3 with seq := { scanned := [0, 1] } } : State).setF F.HB_STATUS_OUTCOME 3, by decide +kernel⟩,
   ⟨({ inMode 3 with seq := { scanned := [0, 1] } } : State).setF F.HB_STATUS_OUTCOME 2, by decide +kernel⟩⟩

/-- The hypotheses of each clause of `Obligations.WakesAndDegradedChanges` are met. -/
theorem witness_WakesAndDegradedChanges :
    (∃ (s : State) (c : Instr) (cause : Nat), s.modeNow = 8 ∧ ((c = .watchWake 1 0 ∧ cause = 1) ∨ (c = .wakeTimerExpiry ∧ cause = 3 ∧
      s.getR R.PWR_WAKE_TIMER ≠ 0))) ∧
    (∃ (s : State) (src : Nat), s.modeNow = 8 ∧ (src = 2 ∨ (32 ≤ src ∧ src < 64)) ∧ s.srcWatch src = true) ∧
    (∃ (s : State) (c : Instr) (cause : Nat), s.modeNow = 7 ∧ s.mode.target = none ∧ ((c = .watchWake 1 0 ∧
      cause = 1) ∨ (c = .wakeTimerExpiry ∧ cause = 3 ∧ s.getR R.PWR_WAKE_TIMER ≠ 0))) ∧
    (∃ (s : State), s.mode.target = none ∧ s.modeNow = 4 ∧ s.degCause ≠ 0) ∧
    (∃ (s : State), s.mode.target = none ∧ s.modeNow = 5 ∧ s.degCause = 0) :=
  ⟨⟨inMode 8, .watchWake 1 0, 1, by decide +kernel⟩,
   ⟨(inMode 8).setF (srcField 63 5 1) 1, 63, by decide +kernel⟩,
   ⟨inMode 7, .watchWake 1 0, 1, by decide +kernel⟩,
   ⟨(inMode 4).setF (F.RT_STATUS_STATE 0) 0, by decide +kernel⟩,
   ⟨inMode 5, by decide +kernel⟩⟩

/-- The hypotheses of each clause of `Obligations.DoorbellsMoveTheRings` are met. -/
theorem witness_DoorbellsMoveTheRings :
    (∃ (s : State) (n : Nat) (v : W32) (q : SQ), n < 1024 ∧ s.answers = true ∧ s.modeNow ≠ 7 ∧ (s.modeNow = 10 → n = 0) ∧
      s.getF F.IMG_STATUS_STATE ≠ 5 ∧ s.sq n = some q ∧ q.deleting = false ∧ v.toNat < q.size ∧
      (v.toNat + q.size - q.tail) % q.size ≠ 0 ∧ (v.toNat + q.size - q.tail) % q.size ≤ q.size - q.count) ∧
    (∃ (s : State) (n : Nat) (v : W32) (q : SQ), n < 1024 ∧ s.answers = true ∧ s.modeNow ≠ 7 ∧ (s.modeNow = 10 → n = 0) ∧
      s.getF F.IMG_STATUS_STATE ≠ 5 ∧ s.sq n = some q ∧ q.deleting = false ∧ q.size ≤ v.toNat) ∧
    (∃ (s : State) (n : Nat) (v : W32) (c : CQ), n < 1024 ∧ s.answers = true ∧ s.modeNow ≠ 7 ∧ (s.modeNow = 10 → n = 0) ∧
      s.getF F.IMG_STATUS_STATE ≠ 5 ∧ s.cq n = some c ∧ v.toNat < c.size ∧ (v.toNat + c.size - c.head) % c.size ≤ c.unreleased) :=
  ⟨⟨withQ (inMode 4) { cq := 1, tail := 3, count := 3, batches := [(0, 3)] } {}, 1, 15, { cq := 1, tail := 3, count := 3, batches := [(0, 3)] },
      by decide +kernel⟩,
   ⟨withQ (inMode 4) { cq := 1, tail := 3, count := 3, batches := [(0, 3)] } {}, 1, 16, { cq := 1, tail := 3, count := 3, batches := [(0, 3)] },
      by decide +kernel⟩,
   ⟨withQ (inMode 4) {} { tail := 15 }, 1, 15, { tail := 15 }, by decide +kernel⟩⟩

/-- The hypotheses of each clause of `Obligations.EntriesAreCachedAndAdmitted` are met. -/
theorem witness_EntriesAreCachedAndAdmitted :
    (∃ (s : State) (n : Nat) (q : SQ), s.sq n = some q ∧ s.admits n = true ∧ q.stopped = false ∧ q.deleting = false ∧
      q.cache.length + q.fetching < q.count ∧ q.cache.length + q.fetching < clampNat 1 16 (s.getF F.Q_X_PREFETCH) ∧
      s.cachedCount < 2048 ∧ q.ownWait = false) ∧
    (∃ (s : State) (n : Nat) (q : SQ) (p : SQ) (b : Bytes) (c : Nat → Instr), (((∀ resp, c resp = .entryFetch n b resp) ∧
      s.coreRuns = true ∧ q.stale = [] ∧ 0 < q.fetching ∧ p = { q with fetching := q.fetching - 1 }) ∨ ((∀ resp,
      c resp = .ownRecheckExpiry n b resp) ∧ s.fetches n q = true ∧ q.ownWait = true ∧ p = q)) ∧ s.sq n = some q ∧
      bit (field b 1 1) 7 = true) ∧
    (∃ (s : State) (n : Nat) (q : SQ) (p : SQ) (b : Bytes) (c : Nat → Instr), (((∀ resp, c resp = .entryFetch n b resp) ∧
      s.coreRuns = true ∧ q.stale = [] ∧ 0 < q.fetching ∧ p = { q with fetching := q.fetching - 1 }) ∨ ((∀ resp,
      c resp = .ownRecheckExpiry n b resp) ∧ s.fetches n q = true ∧ q.ownWait = true ∧ p = q)) ∧ s.sq n = some q ∧
      bit (field b 1 1) 7 = false) ∧
    (∃ (s : State) (n : Nat) (q : SQ) (p : SQ) (b : Bytes) (c : Nat → Instr), (((∀ resp, c resp = .entryFetch n b resp) ∧
      s.coreRuns = true ∧ q.stale = [] ∧ 0 < q.fetching ∧ p = { q with fetching := q.fetching - 1 }) ∨ ((∀ resp,
      c resp = .ownRecheckExpiry n b resp) ∧ s.fetches n q = true ∧ q.ownWait = true ∧ p = q)) ∧ s.sq n = some q) ∧
    (∃ (s : State) (n : Nat) (slot : Nat) (q : SQ) (l : List Nat), s.sq n = some q ∧ s.coreRuns = true ∧ q.stale = slot :: l) ∧
    (∃ (s : State) (n : Nat) (ptr : Nat) (q : SQ) (e : Cached) (l : List Cached), s.admitPick = some (n, ptr) ∧ n < 1024 ∧
      s.sq n = some q ∧ q.cache = e :: l ∧ s.entryCause n e = 0) ∧
    (∃ (s : State) (n : Nat) (ptr : Nat) (q : SQ) (e : Cached) (l : List Cached), s.admitPick = some (n, ptr) ∧ n < 1024 ∧
      s.sq n = some q ∧ q.cache = e :: l ∧ s.entryCause n e ≠ 0) :=
  ⟨⟨withQ (inMode 4) { cq := 1, tail := 3, count := 3, batches := [(0, 3)] } {}, 1, { cq := 1, tail := 3, count := 3, batches := [(0, 3)] },
      by decide +kernel⟩,
   ⟨withQ (inMode 4) { cq := 1, tail := 3, count := 3, batches := [(0, 3)], fetching := 1 } {}, 1, { cq := 1, tail := 3, count := 3, batches := [(0, 3)], fetching := 1 },
      { cq := 1, tail := 3, count := 3, batches := [(0, 3)], fetching := 0 }, (0#8 :: 0x80#8 :: []),
      fun resp => Instr.entryFetch 1 (0#8 :: 0x80#8 :: []) resp, (Or.inl ⟨fun _ => rfl, by decide +kernel⟩), by decide +kernel⟩,
   ⟨withQ (inMode 4) { cq := 1, tail := 3, count := 3, batches := [(0, 3)], fetching := 1 } {}, 1, { cq := 1, tail := 3, count := 3, batches := [(0, 3)], fetching := 1 },
      { cq := 1, tail := 3, count := 3, batches := [(0, 3)], fetching := 0 }, [], fun resp => Instr.entryFetch 1 [] resp,
      (Or.inl ⟨fun _ => rfl, by decide +kernel⟩), by decide +kernel⟩,
   ⟨withQ (inMode 4) { cq := 1, tail := 3, count := 3, batches := [(0, 3)], fetching := 1 } {}, 1, { cq := 1, tail := 3, count := 3, batches := [(0, 3)], fetching := 1 },
      { cq := 1, tail := 3, count := 3, batches := [(0, 3)], fetching := 0 }, [], fun resp => Instr.entryFetch 1 [] resp,
      (Or.inl ⟨fun _ => rfl, by decide +kernel⟩), by decide +kernel⟩,
   ⟨withQ (inMode 4) { cq := 1, tail := 3, count := 3, batches := [(0, 3)], stale := [3] } {}, 1, 3, { cq := 1, tail := 3, count := 3, batches := [(0, 3)], stale := [3] },
      [], by decide +kernel⟩,
   ⟨withQ (inMode 4) { cq := 1, count := 1, cache := [{ slot := 0, bytes := (dsc 1 1 []).bytes }], batches := [(0, 1)] } {}, 1, 2,
      { cq := 1, count := 1, cache := [{ slot := 0, bytes := (dsc 1 1 []).bytes }], batches := [(0, 1)] }, { slot := 0, bytes := (dsc 1 1 []).bytes },
      [], by decide +kernel⟩,
   ⟨withQ (inMode 4) { cq := 1, count := 1, cache := [{ slot := 0, bytes := (dsc 1 9 []).bytes }], batches := [(0, 1)] } {}, 1, 2,
      { cq := 1, count := 1, cache := [{ slot := 0, bytes := (dsc 1 9 []).bytes }], batches := [(0, 1)] }, { slot := 0, bytes := (dsc 1 9 []).bytes },
      [], by decide +kernel⟩⟩

/-- The hypotheses of each clause of `Obligations.CompletionsAreWrittenAndEnd` are met. -/
theorem witness_CompletionsAreWrittenAndEnd :
    (∃ (s : State) (n : Nat) (st : Nat) (w : Nat) (l : Nat) (q : SQ) (c : CQ) (d : Desc), s.sq n = some q ∧ s.cq q.cq = some c ∧
      q.order.head?.bind s.desc? = some d ∧ d.status = some st ∧ s.writableAt q = some (w, l) ∧ s.writesNext q.cq c = some n ∧
      s.writesOut = true ∧ n ∉ s.q.owns ∧ c.fault = false ∧ c.inflight = none ∧ c.unreleased < c.size - 1 ∧ s.getF F.PWR_DRAM_SR = 0) ∧
    (∃ (s : State) (n : Nat) (q : SQ), s.sq n = some q ∧ q.mailHeld = 0 ∧ batchLen q.quota (s.finishedRun q) 0 = none) ∧
    (∃ (s : State) (n : Nat) (m : Nat) (a : Nat) (id : Nat) (last : Bool) (b : Bytes) (c : CQ) (q : SQ) (l : List Nat),
      s.cq n = some c ∧ c.inflight = some (m, last, a, b) ∧ c.fault = false ∧ s.sq m = some q ∧ q.order = id :: l) ∧
    (∃ (s : State) (n : Nat) (c : CQ), n < 1024 ∧ s.cq n = some c ∧ c.inflight ≠ none ∧ c.fault = false) :=
  ⟨⟨withD (withQ (inMode 4) { cq := 1, order := [5] } {}) { dsc 1 1 [] with status := some 0 }, 1, 0, 0, 1, { cq := 1, order := [5] },
      {}, { dsc 1 1 [] with status := some 0 }, by decide +kernel⟩,
   ⟨withQ (inMode 4) { cq := 1 } {}, 1, { cq := 1 }, by decide +kernel⟩,
   ⟨withQ (inMode 4) { cq := 1, order := [5] } { inflight := some (1, true, 64, []) }, 1, 1, 64, 5, true, [], { inflight := some (1, true, 64, []) },
      { cq := 1, order := [5] }, [], by decide +kernel⟩,
   ⟨withQ (inMode 4) { cq := 1, order := [5] } { inflight := some (1, true, 64, []) }, 1, { inflight := some (1, true, 64, []) },
      by decide +kernel⟩⟩

/-- The hypotheses of each clause of `Obligations.QueuesAreCreatedAndDeleted` are met. -/
theorem witness_QueuesAreCreatedAndDeleted :
    (∃ (s : State) (id : Nat) (d : Desc), s.adminRuns id 0x41 d ∧ 1 ≤ field d.bytes 4 2 ∧ field d.bytes 4 2 ≤ d.limits.getD 1 0 ∧
      s.cq (field d.bytes 4 2) = none ∧ 4 ≤ field d.bytes 16 1 ∧ field d.bytes 16 1 ≤ d.limits.getD 2 0 ∧
      (field d.bytes 17 1 = 0 ∨ 64 ≤ field d.bytes 17 1)) ∧
    (∃ (s : State) (id : Nat) (d : Desc) (c : CQ), s.adminRuns id 0x40 d ∧ 1 ≤ field d.bytes 4 2 ∧
      field d.bytes 4 2 ≤ d.limits.getD 0 0 ∧ s.sq (field d.bytes 4 2) = none ∧ 4 ≤ field d.bytes 16 1 ∧
      field d.bytes 16 1 ≤ d.limits.getD 2 0 ∧ field d.bytes 6 2 ≠ 0 ∧ s.cq (field d.bytes 6 2) = some c ∧ c.fault = false ∧
      1 ≤ field d.bytes 18 2 ∧ field d.bytes 18 2 ≤ 256 ∧ s.quotaSum + field d.bytes 18 2 ≤ 4096) ∧
    (∃ (s : State) (id : Nat) (d : Desc) (c : CQ), s.adminRuns id 0x43 d ∧ s.cq (field d.bytes 4 2) = some c ∧
      s.boundSqs (field d.bytes 4 2) = []) ∧
    (∃ (s : State) (id : Nat) (d : Desc) (q : SQ), s.adminRuns id 0x42 d ∧ s.sq (field d.bytes 4 2) = some q ∧ q.deleting = false) ∧
    (∃ (s : State) (n : Nat) (id : Nat) (q : SQ) (c : CQ) (d : Desc), s.sq n = some q ∧ q.deleting = true ∧ q.order = [] ∧
      s.cq q.cq = some c ∧ c.fault = false ∧ s.desc? id = some d ∧ d.id = id ∧ d.status = none ∧ d.bufferFault = false ∧
      (s.descs.find? fun d => d.sq = 0 && d.op = 0x42 && d.started && d.status.isNone && field d.bytes 4 2 = n) = some d) :=
  ⟨⟨withD (inMode 4) ({ dsc 0 0x41 [(4, 64), (16, 12), (17, 64)] with limits := [64, 64, 12, 16] }), 5, { dsc 0 0x41 [(4, 64), (16, 12), (17, 64)] with limits := [64, 64, 12, 16] },
      by (unfold State.adminRuns; decide +kernel)⟩,
   ⟨withD (withQ (inMode 4) {} {}) ({ dsc 0 0x40 [(4, 64), (6, 1), (16, 4), (19, 1)] with limits := [64, 64, 12, 16] }), 5,
      { dsc 0 0x40 [(4, 64), (6, 1), (16, 4), (19, 1)] with limits := [64, 64, 12, 16] }, {},
      by (unfold State.adminRuns; decide +kernel)⟩,
   ⟨adm (withQ (inMode 4) {} {}) 0x43 [(4, 1)], 5, dsc 0 0x43 [(4, 1)], {}, by (unfold State.adminRuns; decide +kernel)⟩,
   ⟨adm (withQ (inMode 4) {} {}) 0x42 [(4, 1)], 5, dsc 0 0x42 [(4, 1)], {}, by (unfold State.adminRuns; decide +kernel)⟩,
   ⟨withD (withQ (inMode 4) { cq := 1, deleting := true } {}) { dsc 0 0x42 [(4, 1)] with started := true }, 1, 5, { cq := 1, deleting := true },
      {}, { dsc 0 0x42 [(4, 1)] with started := true }, by decide +kernel⟩⟩

/-- The hypotheses of each clause of `Obligations.QueuesAreResumedAndEnabled` are met. -/
theorem witness_QueuesAreResumedAndEnabled :
    (∃ (s : State) (id : Nat) (d : Desc) (q : SQ), s.adminRuns id 0x44 d ∧ field d.bytes 6 1 = 0 ∧ s.sq (field d.bytes 4 2) = some q ∧
      q.deleting = false) ∧
    (∃ (s : State) (id : Nat) (d : Desc) (q : SQ), s.adminRuns id 0x45 d ∧ field d.bytes 4 2 ≠ 0xFFFF ∧ s.sq (field d.bytes 4 2) = some q) ∧
    (∃ (s : State) (v : W32), s.takes R.Q_ADMIN_CFG ∧ s.getF F.Q_ADMIN_CFG_EN = 0 ∧ v.toNat.testBit 0 = true ∧ v.toNat.testBit 1 = false) ∧
    (∃ (s : State) (v : W32) (q : SQ) (c : CQ), s.takes R.Q_ADMIN_CFG ∧ s.getF F.Q_ADMIN_CFG_EN = 1 ∧ v.toNat.testBit 0 = true ∧
      v.toNat.testBit 1 = true ∧ bits v.toNat 2 16 = bits (s.getR R.Q_ADMIN_CFG).toNat 2 16 ∧ s.sq 0 = some q ∧ s.cq 0 = some c ∧
      c.fault = false) :=
  ⟨⟨adm (withQ (inMode 4) {} {}) 0x44 [(4, 1)], 5, dsc 0 0x44 [(4, 1)], {}, by (unfold State.adminRuns; decide +kernel)⟩,
   ⟨adm (withQ (inMode 4) {} {}) 0x45 [(4, 1)], 5, dsc 0 0x45 [(4, 1)], {}, by (unfold State.adminRuns; decide +kernel)⟩,
   ⟨inMode 4, 1, by (unfold State.takes; decide +kernel)⟩,
   ⟨{ (inMode 4).setF F.Q_ADMIN_CFG_EN 1 with q := { sqs := [(0, some {})], cqs := [(0, some {})] } },
      BitVec.ofNat 32 (3 + 4 * bits (((inMode 4).setF F.Q_ADMIN_CFG_EN 1).getR R.Q_ADMIN_CFG).toNat 2 16), {}, {},
      by (unfold State.takes; decide +kernel)⟩⟩

/-- The hypotheses of `Obligations.ReadsGoToTheirDies` are met. -/
theorem witness_ReadsGoToTheirDies : ∃ (s : State) (id : Nat) (d : Desc) (c : Instr) (hdr : Bool) (ladder : Bool) (recon : Bool),
      ((c = .read id ∧ s.ioRuns id 0x01 d ∧ hdr = false ∧ ladder = !bit (field d.bytes 4 1) 1 ∧
      recon = !bit (field d.bytes 4 1) 2) ∨ (c = .readHeaders id ∧ s.ioRuns id 0x02 d ∧ hdr = true ∧ ladder = true ∧
      recon = true) ∨ (c = .copy id ∧ s.ioRuns id 0x07 d ∧ hdr = false ∧ ladder = true ∧ recon = true) ∨ (c = .loadPigeonhole id ∧
      s.adminRuns id 0x48 d ∧ hdr = false ∧ ladder = true ∧ recon = true)) ∧ 0 < d.results.length ∧ (∀ r ∈ d.results, r = none) ∧
      d.gone = [] ∧ (∀ i, i < d.results.length → s.unreadable (field d.bytes 8 8 + i) true = none) :=
  ⟨withD (inMode 4) { dsc 1 1 [(10, 1)] with results := [none] }, 5, { dsc 1 1 [(10, 1)] with results := [none] }, .read 5, false,
      true, true, by (unfold State.adminRuns State.ioRuns; decide +kernel)⟩

/-- The hypotheses of each clause of `Obligations.DiagSubcodesAct` are met. -/
theorem witness_DiagSubcodesAct :
    (∃ (s : State) (id : Nat) (d : Desc), s.adminRuns id 0x70 d ∧ field d.bytes 4 1 = 0) ∧
    (∃ (s : State) (u : State) (id : Nat) (corr : Nat) (d : Desc) (list : Bytes), s.adminRuns id 0x70 d ∧ field d.bytes 4 1 = 1 ∧
      s.getF F.PWR_DRAM_SR = 0 ∧ u = s.dramReads corr ∧ (∀ i, i < field d.bytes 16 4 → field list (4 * i) 4 % 4 = 0 ∧
      field list (4 * i) 4 < 2 ^ 20)) ∧
    (∃ (s : State) (u : State) (id : Nat) (corr : Nat) (d : Desc) (list : Bytes), s.adminRuns id 0x70 d ∧ field d.bytes 4 1 = 1 ∧
      s.getF F.PWR_DRAM_SR = 0 ∧ u = s.dramReads corr ∧ (∃ i, i < field d.bytes 16 4 ∧
      (field list (4 * i) 4 % 4 ≠ 0 ∨ 2 ^ 20 ≤ field list (4 * i) 4))) ∧
    (∃ (s : State) (id : Nat) (d : Desc), s.adminRuns id 0x70 d ∧ field d.bytes 4 1 = 2 ∧ field d.bytes 6 2 < 256 ∧
      ¬(19 ≤ field d.bytes 6 2 ∧ field d.bytes 6 2 ≤ 31) ∧ s.srcEn (field d.bytes 6 2) = true ∧
      s.srcActive (field d.bytes 6 2) = false) ∧
    (∃ (s : State) (id : Nat) (d : Desc), s.adminRuns id 0x70 d ∧ field d.bytes 4 1 = 3 ∧ (∀ r ∈ d.results, r = none) ∧ d.gone = [] ∧
      s.unreadable (field d.bytes 8 8) true = none) :=
  ⟨⟨adm (inMode 4) 0x70 [], 5, dsc 0 0x70 [], by (unfold State.adminRuns; decide +kernel)⟩,
   ⟨adm (inMode 4) 0x70 [(4, 1), (16, 2)], (adm (inMode 4) 0x70 [(4, 1), (16, 2)]).dramReads 0, 5, 0, dsc 0 0x70 [(4, 1), (16, 2)], [],
      by (unfold State.adminRuns; decide +kernel)⟩,
   ⟨adm (inMode 4) 0x70 [(4, 1), (16, 2)], (adm (inMode 4) 0x70 [(4, 1), (16, 2)]).dramReads 0, 5, 0, dsc 0 0x70 [(4, 1), (16, 2)],
      [1], by (unfold State.adminRuns; decide +kernel)⟩,
   ⟨adm ((inMode 4).setF (srcField 255 4 1) 1) 0x70 [(4, 2), (6, 255)], 5, dsc 0 0x70 [(4, 2), (6, 255)],
      by (unfold State.adminRuns; decide +kernel)⟩,
   ⟨adm (inMode 4) 0x70 [(4, 3), (10, 1)], 5, dsc 0 0x70 [(4, 3), (10, 1)], by (unfold State.adminRuns; decide +kernel)⟩⟩

/-- The hypotheses of each clause of `Obligations.PigeonholeWaysAndRanges` are met. -/
theorem witness_PigeonholeWaysAndRanges :
    (∃ (s : State) (id : Nat) (d : Desc), s.adminRuns id 0x49 d ∧ field d.bytes 4 2 ≠ 0xFFFF ∧ s.memorySound ∧
      (idxWhere 16 fun w => bit (field d.bytes 6 2) w || (s.line (field d.bytes 4 2) w).locked).length ≤ 8) ∧
    (∃ (s : State) (id : Nat) (d : Desc), s.adminRuns id 0x49 d ∧ field d.bytes 4 2 ≠ 0xFFFF ∧ s.memorySound ∧
      8 < (idxWhere 16 fun w => bit (field d.bytes 6 2) w || (s.line (field d.bytes 4 2) w).locked).length) ∧
    (∃ (s : State) (id : Nat) (d : Desc), s.adminRuns id 0x4A d ∧ field d.bytes 4 2 ≠ 0xFFFF ∧ s.memorySound) ∧
    (∃ (s : State) (r : Range), (s.ph.ranges.find? fun x => !x.walked) = some r ∧ s.ph.lines.wf (fun _ => {}) = true) :=
  ⟨⟨adm (inMode 4) 0x49 [(6, 0xFF)], 5, dsc 0 0x49 [(6, 0xFF)], by (unfold State.adminRuns State.memorySound; decide +kernel)⟩,
   ⟨adm (inMode 4) 0x49 [(6, 0xFF), (7, 1)], 5, dsc 0 0x49 [(6, 0xFF), (7, 1)],
      by (unfold State.adminRuns State.memorySound; decide +kernel)⟩,
   ⟨adm (inMode 4) 0x4A [], 5, dsc 0 0x4A [], by (unfold State.adminRuns State.memorySound; decide +kernel)⟩,
   ⟨{ inMode 4 with ph := { ranges := [{ epoch := 1, dies := [0], blocks := none }] } }, { epoch := 1, dies := [0], blocks := none },
      by decide +kernel⟩⟩

/-- The hypotheses of each clause of `Obligations.WordsAreScrubbedAndWrittenBack` are met. -/
theorem witness_WordsAreScrubbedAndWrittenBack :
    (∃ (s : State) (bank : Nat) (w : Nat) (k : Nat) (rest : Nat), (s.mi.backs.find? fun b => b.1 / 4096 = bank) = some (w, k, rest)) ∧
    (∃ (s : State) (c : Instr) (bank : Nat) (err : Nat) (ms : Nat) (i : Nat) (w : Nat) (e : Nat) (n : Nat), s.scrubs bank = true ∧
      bank < 1536 ∧ tget (fun _ => 0) s.mi.cursors bank = i ∧ i + 1 < 4096 ∧ w = 4096 * bank + i ∧ e = s.wordErr w ^^^ err % 2 ^ 144 ∧
      s.getF F.MI_INJECT_X_ARM = 0 ∧ tget (fun _ => none) s.mi.failed bank = none ∧ ((c = .scrubRead bank err ms ∧
      n = 0) ∨ (c = .scrubDeadline bank err ms ∧ n = 1)) ∧ e = 0) ∧
    (∃ (s : State) (c : Instr) (bank : Nat) (err : Nat) (ms : Nat) (i : Nat) (w : Nat) (e : Nat) (n : Nat) (k : Nat) (st : Bytes),
      s.scrubs bank = true ∧ bank < 1536 ∧ tget (fun _ => 0) s.mi.cursors bank = i ∧ i + 1 < 4096 ∧ w = 4096 * bank + i ∧
      e = s.wordErr w ^^^ err % 2 ^ 144 ∧ s.getF F.MI_INJECT_X_ARM = 0 ∧ tget (fun _ => none) s.mi.failed bank = none ∧
      ((c = .scrubRead bank err ms ∧ n = 0) ∨ (c = .scrubDeadline bank err ms ∧ n = 1)) ∧ decodeErr none e = .corrected k st ∧
      s.getF F.MI_X_WRITEBACK_OFF = 0 ∧ (∀ b ∈ s.mi.backs, b.1 ≠ w) ∧ (w, k) ∉ s.mi.cured) :=
  ⟨⟨{ inMode 4 with mi := { backs := [(4096, 0, 0)] } }, 1, 4096, 0, 0, by decide +kernel⟩,
   ⟨((inMode 4).setF F.MI_CTRL_SCRUB_EN 1), .scrubRead 0 0 0, 0, 0, 0, 0, 0, 0, 0, by decide +kernel⟩,
   ⟨((inMode 4).setF F.MI_CTRL_SCRUB_EN 1), .scrubRead 0 1 0, 0, 1, 0, 0, 0, 1, 0, 0, List.replicate 18 0, by decide +kernel⟩⟩

/-- The hypotheses of each clause of `Obligations.TheDebugWindowReadsAndWrites` are met. -/
theorem witness_TheDebugWindowReadsAndWrites :
    (∃ (s : State) (w : Nat), s.answers = true ∧ s.windowMode = true ∧ w = s.getF F.DBG_WIN_ADDR_WORD ∧ w < 0x600000 ∧
      s.windowSees w = false) ∧
    (∃ (s : State) (w : Nat), s.answers = true ∧ s.windowMode = true ∧ w = s.getF F.DBG_WIN_ADDR_WORD ∧ w < 0x600000 ∧
      s.windowSees w = true ∧ 0x400000 ≤ w ∧ w < 0x580000 ∧ (s.line ((w - 0x400000) / 4096) (w % 4096 / 256)).valid = true ∧
      s.wordErr w = 0 ∧ s.getF F.MI_INJECT_X_ARM = 0 ∧ tget (fun _ => none) s.mi.failed (w / 4096) = none) ∧
    (∃ (s : State) (w : Nat) (v : Nat), s.answers = true ∧ s.windowMode = true ∧ w = s.getF F.DBG_WIN_ADDR_WORD ∧ w < 0x600000 ∧
      s.windowSees w = true ∧ w < 0x400000 ∧ tget (fun _ => none) s.mi.data w = some v ∧ s.wordErr w = 0 ∧
      s.getF F.MI_INJECT_X_ARM = 0 ∧ tget (fun _ => none) s.mi.failed (w / 4096) = none) ∧
    (∃ (s : State) (w : Nat), s.answers = true ∧ s.windowWrites = true ∧ w = s.getF F.DBG_WIN_ADDR_WORD ∧ w < 0x600000 ∧
      (w < 0x400000 ∨ 0x580000 ≤ w)) ∧
    (∃ (s : State) (w : Nat) (st : Nat) (way : Nat), s.answers = true ∧ s.windowWrites = true ∧ w = s.getF F.DBG_WIN_ADDR_WORD ∧
      w < 0x600000 ∧ 0x400000 ≤ w ∧ w < 0x580000 ∧ st = (w - 0x400000) / 4096 ∧ way = w % 4096 / 256 ∧ (s.line st way).valid = true) ∧
    (∃ (s : State) (w : Nat), s.answers = true ∧ s.windowMode = true ∧ w = s.getF F.DBG_WIN_ADDR_WORD ∧ 0x600000 ≤ w ∧
      s.windowSees w = true) ∧
    (∃ (s : State) (w : Nat), s.answers = true ∧ s.windowMode = true ∧ w = s.getF F.DBG_WIN_ADDR_WORD ∧ 0x600000 ≤ w ∧
      s.windowWrites = true) :=
  ⟨⟨(inMode 4).setF F.DBG_WIN_ADDR_WORD 0x5FFFFF, 0x5FFFFF, by decide +kernel⟩,
   ⟨{ (((inMode 4).setF F.SEC_STATUS_DEBUG 2).setF F.DBG_WIN_ADDR_WORD 0x400000) with ph := { lines := [(0, { valid := true })] } },
      0x400000, by decide +kernel⟩,
   ⟨{ (((inMode 4).setF F.SEC_STATUS_DEBUG 2).setF F.DBG_WIN_ADDR_WORD 1) with mi := { data := [(1, some 7)] } }, 1, 7, by decide +kernel⟩,
   ⟨(((inMode 4).setF F.SEC_STATUS_DEBUG 2).setF F.DBG_WIN_ADDR_WORD 0x3FFFFF), 0x3FFFFF, by decide +kernel⟩,
   ⟨{ (((inMode 4).setF F.SEC_STATUS_DEBUG 2).setF F.DBG_WIN_ADDR_WORD 0x400000) with ph := { lines := [(0, { valid := true })] } },
      0x400000, 0, 0, by decide +kernel⟩,
   ⟨(((inMode 4).setF F.SEC_STATUS_DEBUG 2).setF F.DBG_WIN_ADDR_WORD 0x600000), 0x600000, by decide +kernel⟩,
   ⟨(((inMode 4).setF F.SEC_STATUS_DEBUG 2).setF F.DBG_WIN_ADDR_WORD 0x600000), 0x600000, by decide +kernel⟩⟩

/-- The hypotheses of each clause of `Obligations.DiesAreGranted` are met. -/
theorem witness_DiesAreGranted :
    (∃ (s : State) (r : Nat) (d : Nat) (us : Nat) (k : Nat) (o : DieOp) (ptr : Option Nat), r < 32 ∧ d < 16 ∧ k = dieKey r d ∧
      s.grants r = true ∧ s.dieSt k = 1 ∧ (s.die k).op = none ∧ (s.die k).want = none ∧ s.resumeDue k = false ∧
      s.pickOp k (s.belowShare k us) = some (o, ptr) ∧ o.cls = 1 ∧ s.mergeWaits o = false) ∧
    (∃ (s : State) (r : Nat) (d : Nat) (us : Nat) (k : Nat) (o : DieOp) (ptr : Option Nat), r < 32 ∧ d < 16 ∧ k = dieKey r d ∧
      s.grants r = true ∧ s.dieSt k = 1 ∧ (s.die k).op = none ∧ (s.die k).want = none ∧ s.resumeDue k = false ∧
      s.pickOp k (s.belowShare k us) = some (o, ptr) ∧ o.cls = 2 ∧ s.guardHolds r = false ∧ s.firstReerase o = none) ∧
    (∃ (s : State) (r : Nat) (d : Nat) (us : Nat) (k : Nat) (o : DieOp) (ptr : Option Nat) (p : _), r < 32 ∧ d < 16 ∧ k = dieKey r d ∧
      s.grants r = true ∧ s.dieSt k = 1 ∧ (s.die k).op = none ∧ (s.die k).want = none ∧ s.resumeDue k = false ∧
      s.pickOp k (s.belowShare k us) = some (o, ptr) ∧ o.cls = 2 ∧ s.guardHolds r = false ∧ s.firstReerase o = some p) ∧
    (∃ (s : State) (r : Nat) (d : Nat) (us : Nat) (k : Nat) (o : DieOp) (ptr : Option Nat), r < 32 ∧ d < 16 ∧ k = dieKey r d ∧
      s.grants r = true ∧ s.dieSt k = 1 ∧ (s.die k).op = none ∧ (s.die k).want = none ∧ s.resumeDue k = false ∧
      s.pickOp k (s.belowShare k us) = some (o, ptr) ∧ o.cls = 3 ∧ s.guardHolds r = false ∧ o.noLedger = false ∧ o.switch = false ∧
      o.step = 0 ∧ (s.die k).ledger.due = false) ∧
    (∃ (s : State) (r : Nat) (d : Nat) (us : Nat) (k : Nat) (o : DieOp) (ptr : Option Nat), r < 32 ∧ d < 16 ∧ k = dieKey r d ∧
      s.grants r = true ∧ s.dieSt k = 1 ∧ (s.die k).op = none ∧ (s.die k).want = none ∧ s.resumeDue k = false ∧
      s.pickOp k (s.belowShare k us) = some (o, ptr) ∧ o.cls ≠ 1 ∧ s.guardHolds r = true) ∧
    (∃ (s : State) (r : Nat) (d : Nat) (k : Nat), k = dieKey r d ∧ s.grants r = true ∧ s.suspendDue k = true ∧ (s.die k).minRun = true) ∧
    (∃ (s : State) (r : Nat) (d : Nat) (k : Nat) (o : DieOp), k = dieKey r d ∧ (s.die k).op = some o ∧ o.merging = true ∧ o.cls = 1 ∧
      s.grants r = true) ∧
    (∃ (s : State) (r : Nat) (d : Nat) (k : Nat) (o : DieOp), k = dieKey r d ∧ (s.die k).op = some o ∧ o.running = true ∧
      (s.dieSt k = 5 ∨ s.dieSt k = 6)) ∧
    (∃ (s : State) (r : Nat) (d : Nat) (k : Nat), k = dieKey r d ∧ s.dieSt k = 1 ∧ (s.die k).op = none ∧ (s.die k).want = none ∧
      (s.issues = true ∨ s.modeNow = 10) ∧ s.resumeDue k = true) ∧
    (∃ (s : State) (r : Nat) (d : Nat) (k : Nat), k = dieKey r d ∧ s.dieSt k = 1 ∧ (s.die k).op = none ∧ (s.die k).want = none ∧
      (s.issues = true ∨ s.modeNow = 10) ∧ (s.die k).held.isSome = true) ∧
    (∃ (s : State) (r : Nat) (d : Nat) (k : Nat) (n : Nat) (o : DieOp), k = dieKey r d ∧ (s.die k).op = some o ∧ s.dieSt k = 6 ∧
      o.running = false ∧ (s.die k).want = none ∧ (s.issues = true ∨ s.modeNow = 10) ∧ s.nextStep k o = some n ∧
      s.ledgerErased k n = none) ∧
    (∃ (s : State) (r : Nat) (d : Nat) (k : Nat) (n : Nat) (o : DieOp) (b : Nat), k = dieKey r d ∧ (s.die k).op = some o ∧
      s.dieSt k = 6 ∧ o.running = false ∧ (s.die k).want = none ∧ (s.issues = true ∨ s.modeNow = 10) ∧ s.nextStep k o = some n ∧
      s.ledgerErased k n = some b ∧ s.ph.ranges.length < 8) ∧
    (∃ (s : State) (r : Nat) (d : Nat) (k : Nat) (n : Nat) (o : DieOp) (b : Nat), k = dieKey r d ∧ (s.die k).op = some o ∧
      s.dieSt k = 6 ∧ o.running = false ∧ (s.die k).want = none ∧ (s.issues = true ∨ s.modeNow = 10) ∧ s.nextStep k o = some n ∧
      s.ledgerErased k n = some b ∧ 8 ≤ s.ph.ranges.length) :=
  ⟨⟨{ inMode 4 with seq := { (inMode 4).seq with waiting := [opn 1] } }, 0, 0, 0, 0, opn 1, some 2, by decide +kernel⟩,
   ⟨({ inMode 4 with seq := { (inMode 4).seq with waiting := [opn 2] } } : State).setF (F.RT_STATUS_WP 0) 1, 0, 0, 0, 0, opn 2, some 2,
      by decide +kernel⟩,
   ⟨({ inMode 4 with seq := { (inMode 4).seq with waiting := [{ opn 2 with purpose := [.progDesc 5] }], incomplete := [4] } } : State).setF (F.RT_STATUS_WP 0) 1,
      0, 0, 0, 0, { opn 2 with purpose := [.progDesc 5] }, some 2, 65536, by decide +kernel⟩,
   ⟨({ inMode 4 with seq := { (inMode 4).seq with waiting := [opn 3] } } : State).setF (F.RT_STATUS_WP 0) 1, 0, 0, 0, 0, opn 3, some 2,
      by decide +kernel⟩,
   ⟨(({ inMode 4 with seq := { (inMode 4).seq with waiting := [opn 3] } } : State).setR R.PWR_WG_STATUS 1), 0, 0, 0, 0, opn 3, some 2,
      by decide +kernel⟩,
   ⟨(die0 ({ (inMode 4).setF (F.RT_VCMD_ERASE_SUSPEND 0) 0xD5 with seq := { (inMode 4).seq with waiting := [{ opn 1 with pages := [81920] }] } }) 6 { op := some { opn 3 with vcmd := 0xFFFFFFFF, susp := 0xFFFFFFFF, suspX := 0xFFFFFFFF, step := 2, running := true }, minRun := true }),
      0, 0, 0, by decide +kernel⟩,
   ⟨die0 (inMode 4) 1 { op := some { opn 1 with merging := true } }, 0, 0, 0, { opn 1 with merging := true }, by decide +kernel⟩,
   ⟨die0 (inMode 4) 5 { op := some { opn 2 with running := true } }, 0, 0, 0, { opn 2 with running := true }, by decide +kernel⟩,
   ⟨(die0 (inMode 4) 1 { held := some (opn 3), holdMax := true }), 0, 0, 0, by decide +kernel⟩,
   ⟨(die0 (inMode 4) 1 { held := some (opn 3), holdMax := true }), 0, 0, 0, by decide +kernel⟩,
   ⟨die0 (inMode 4) 6 { op := some { opn 3 with step := 1 } }, 0, 0, 0, 2, { opn 3 with step := 1 }, by decide +kernel⟩,
   ⟨die0 (inMode 4) 6 { op := some { opn 3 with step := 5, switch := true } }, 0, 0, 0, 6, { opn 3 with step := 5, switch := true },
      1022, by decide +kernel⟩,
   ⟨{ (die0 (inMode 4) 6 { op := some { opn 3 with step := 5, switch := true } } : State) with ph := { ranges := List.replicate 8 { epoch := 1, dies := [0], blocks := none } } },
      0, 0, 0, 6, { opn 3 with step := 5, switch := true }, 1022, by decide +kernel⟩⟩

/-- The hypotheses of each clause of `Obligations.TheBusAndTheCreditsServeOneActivity` are met. -/
theorem witness_TheBusAndTheCreditsServeOneActivity :
    (∃ (s : State) (r : Nat) (d : Nat) (k : Nat) (a : BusAct) (o : DieOp), r < 32 ∧ d < 16 ∧ k = dieKey r d ∧ s.routeUp r = true ∧
      s.busBusy r = false ∧ (s.route r).burst = false ∧ (∀ c, (s.route r).recal = some c → c.phase ≠ 0) ∧ s.busPick r = some (k, a) ∧
      (s.die k).op = some o ∧ a = .read ∧ s.needsFeature o = false) ∧
    (∃ (s : State) (r : Nat) (d : Nat) (k : Nat) (a : BusAct) (o : DieOp) (g : Nat) (vals : List Int), r < 32 ∧ d < 16 ∧
      k = dieKey r d ∧ s.routeUp r = true ∧ s.busBusy r = false ∧ (s.route r).burst = false ∧ (∀ c,
      (s.route r).recal = some c → c.phase ≠ 0) ∧ s.busPick r = some (k, a) ∧ (s.die k).op = some o ∧ ((a = .read ∧
      s.needsFeature o = true ∧ g = s.opGroup o ∧ vals = s.opThresholds o) ∨ a = .feature g vals)) ∧
    (∃ (s : State) (r : Nat) (d : Nat) (k : Nat) (a : BusAct) (o : DieOp) (c : DieOp), r < 32 ∧ d < 16 ∧ k = dieKey r d ∧
      s.routeUp r = true ∧ s.busBusy r = false ∧ (s.route r).burst = false ∧ (∀ c, (s.route r).recal = some c → c.phase ≠ 0) ∧
      s.busPick r = some (k, a) ∧ (s.die k).op = some o ∧ (s.die k).next = some c ∧ a = .cacheRead) ∧
    (∃ (s : State) (r : Nat) (d : Nat) (k : Nat) (a : BusAct), r < 32 ∧ d < 16 ∧ k = dieKey r d ∧ s.routeUp r = true ∧
      s.busBusy r = false ∧ (s.route r).burst = false ∧ (∀ c, (s.route r).recal = some c → c.phase ≠ 0) ∧ s.busPick r = some (k, a) ∧
      a = .cacheEnd ∧ (s.die k).op.isSome = true) ∧
    (∃ (s : State) (r : Nat) (d : Nat) (k : Nat) (a : BusAct) (o : DieOp) (j : Job), r < 32 ∧ d < 16 ∧ k = dieKey r d ∧
      s.routeUp r = true ∧ s.busBusy r = false ∧ (s.route r).burst = false ∧ (∀ c, (s.route r).recal = some c → c.phase ≠ 0) ∧
      s.busPick r = some (k, a) ∧ (s.die k).op = some o ∧ (s.die k).moving = some j.id ∧ s.job? j.id = some j ∧ a = .dataOut) ∧
    (∃ (s : State) (r : Nat) (d : Nat) (k : Nat) (a : BusAct) (o : DieOp) (j : Job), r < 32 ∧ d < 16 ∧ k = dieKey r d ∧
      s.routeUp r = true ∧ s.busBusy r = false ∧ (s.route r).burst = false ∧ (∀ c, (s.route r).recal = some c → c.phase ≠ 0) ∧
      s.busPick r = some (k, a) ∧ (s.die k).op = some o ∧ s.headerJob k = some j ∧ a = .header) ∧
    (∃ (s : State) (r : Nat) (d : Nat) (k : Nat) (a : BusAct) (o : DieOp) (i : Nat), r < 32 ∧ d < 16 ∧ k = dieKey r d ∧
      s.routeUp r = true ∧ s.busBusy r = false ∧ (s.route r).burst = false ∧ (∀ c, (s.route r).recal = some c → c.phase ≠ 0) ∧
      s.busPick r = some (k, a) ∧ (s.die k).op = some o ∧ a = .progData i) ∧
    (∃ (s : State) (r : Nat) (d : Nat) (k : Nat) (a : BusAct) (o : DieOp), r < 32 ∧ d < 16 ∧ k = dieKey r d ∧ s.routeUp r = true ∧
      s.busBusy r = false ∧ (s.route r).burst = false ∧ (∀ c, (s.route r).recal = some c → c.phase ≠ 0) ∧ s.busPick r = some (k, a) ∧
      (s.die k).op = some o ∧ a = .confirm ∧ o.cls = 2) ∧
    (∃ (s : State) (r : Nat) (d : Nat) (k : Nat) (a : BusAct) (o : DieOp), r < 32 ∧ d < 16 ∧ k = dieKey r d ∧ s.routeUp r = true ∧
      s.busBusy r = false ∧ (s.route r).burst = false ∧ (∀ c, (s.route r).recal = some c → c.phase ≠ 0) ∧ s.busPick r = some (k, a) ∧
      (s.die k).op = some o ∧ a = .eraseCmd) ∧
    (∃ (s : State) (r : Nat) (d : Nat) (k : Nat) (a : BusAct), r < 32 ∧ d < 16 ∧ k = dieKey r d ∧ s.routeUp r = true ∧
      s.busBusy r = false ∧ (s.route r).burst = false ∧ (∀ c, (s.route r).recal = some c → c.phase ≠ 0) ∧ s.busPick r = some (k, a) ∧
      a = .temp) ∧
    (∃ (s : State) (r : Nat) (d : Nat) (k : Nat) (a : BusAct) (o : DieOp), r < 32 ∧ d < 16 ∧ k = dieKey r d ∧ s.routeUp r = true ∧
      s.busBusy r = false ∧ (s.route r).burst = false ∧ (∀ c, (s.route r).recal = some c → c.phase ≠ 0) ∧ s.busPick r = some (k, a) ∧
      (s.die k).op = some o ∧ a = .suspend) ∧
    (∃ (s : State) (r : Nat) (d : Nat) (k : Nat) (a : BusAct) (o : DieOp), r < 32 ∧ d < 16 ∧ k = dieKey r d ∧ s.routeUp r = true ∧
      s.busBusy r = false ∧ (s.route r).burst = false ∧ (∀ c, (s.route r).recal = some c → c.phase ≠ 0) ∧ s.busPick r = some (k, a) ∧
      (s.die k).held = some o ∧ (s.die k).op = none ∧ a = .resume) ∧
    (∃ (s : State) (r : Nat) (d : Nat) (k : Nat) (a : BusAct), r < 32 ∧ d < 16 ∧ k = dieKey r d ∧ s.routeUp r = true ∧
      s.busBusy r = false ∧ (s.route r).burst = false ∧ (∀ c, (s.route r).recal = some c → c.phase ≠ 0) ∧ s.busPick r = some (k, a) ∧
      a = .reset ∧ s.dieSt k ≠ 8) ∧
    (∃ (s : State) (r : Nat) (d : Nat) (k : Nat) (j : Job) (l : List Job), r < 32 ∧ d < 16 ∧ k = dieKey r d ∧ s.issues = true ∧
      s.routeUp r = true ∧ s.dieSt k = 4 ∧ (s.die k).want = none ∧ (s.die k).moving = none ∧ s.wholeJobs k = j :: l ∧
      s.creditsFree r j = false) ∧
    (∃ (s : State) (r : Nat) (d : Nat) (k : Nat) (j : Job) (l : List Job), r < 32 ∧ d < 16 ∧ k = dieKey r d ∧ s.issues = true ∧
      s.routeUp r = true ∧ s.dieSt k = 4 ∧ (s.die k).want = none ∧ (s.die k).moving = none ∧ s.wholeJobs k = j :: l ∧
      s.creditsFree r j = true) :=
  ⟨⟨die0 (inMode 4) 1 { op := some (opn 1), want := some .read }, 0, 0, 0, .read, opn 1, by decide +kernel⟩,
   ⟨die0 (inMode 4) 1 { op := some (opn 1), want := some (.feature 0 [1, 2]) }, 0, 0, 0, .feature 0 [1, 2], opn 1, 0, [1, 2],
      by decide +kernel⟩,
   ⟨die0 (inMode 4) 4 { op := some (opn 1), want := some .cacheRead, next := some (opn 1) }, 0, 0, 0, .cacheRead, opn 1, opn 1,
      by decide +kernel⟩,
   ⟨die0 (inMode 4) 4 { op := some (opn 1), want := some .cacheEnd }, 0, 0, 0, .cacheEnd, by decide +kernel⟩,
   ⟨die0 (withJ (inMode 4) [{ job7 with phase := .inDie }]) 4 { op := some { opn 1 with jobs := [7] }, want := some .dataOut, moving := some 7 },
      0, 0, 0, .dataOut, { opn 1 with jobs := [7] }, { job7 with phase := .inDie }, by decide +kernel⟩,
   ⟨die0 (withJ (inMode 4) [{ job7 with phase := .inDie, header := true }]) 4 { op := some { opn 1 with jobs := [7] }, want := some .header },
      0, 0, 0, .header, { opn 1 with jobs := [7] }, { job7 with phase := .inDie, header := true }, by decide +kernel⟩,
   ⟨die0 ((inMode 4).setF (F.RT_STATUS_WP 0) 1) 1 { op := some (opn 2), want := some (.progData 0) }, 0, 0, 0, .progData 0, opn 2, 0,
      by decide +kernel⟩,
   ⟨die0 ((inMode 4).setF (F.RT_STATUS_WP 0) 1) 1 { op := some (opn 2), want := some .confirm }, 0, 0, 0, .confirm, opn 2,
      by decide +kernel⟩,
   ⟨die0 (inMode 4) 6 { op := some (opn 3), want := some .eraseCmd }, 0, 0, 0, .eraseCmd, opn 3, by decide +kernel⟩,
   ⟨die0 (inMode 4) 1 { tempDue := some 5 }, 0, 0, 0, .temp, by decide +kernel⟩,
   ⟨die0 (inMode 4) 6 { op := some { opn 3 with running := true }, want := some .suspend }, 0, 0, 0, .suspend,
      { opn 3 with running := true }, by decide +kernel⟩,
   ⟨die0 (inMode 4) 1 { held := some (opn 3), want := some .resume }, 0, 0, 0, .resume, opn 3, by decide +kernel⟩,
   ⟨die0 (inMode 4) 1 { want := some .reset }, 0, 0, 0, .reset, by decide +kernel⟩,
   ⟨{ (die0 (withJ (inMode 4) [{ job7 with phase := .inDie }]) 4 { op := some { opn 1 with jobs := [7] } }) with bnd := { stalled := [1, 0] } },
      0, 0, 0, { job7 with phase := .inDie }, [], by decide +kernel⟩,
   ⟨(die0 (withJ (inMode 4) [{ job7 with phase := .inDie }]) 4 { op := some { opn 1 with jobs := [7] } }), 0, 0, 0,
      { job7 with phase := .inDie }, [], by decide +kernel⟩⟩

/-- The hypotheses of each clause of `Obligations.StatusEndsDieOperations` are met. -/
theorem witness_StatusEndsDieOperations :
    (∃ (s : State) (c : Instr) (r : Nat) (d : Nat) (us : Nat) (k : Nat) (st : Byte) (said : List Output) (p1 : Byte), r < 32 ∧ d < 16 ∧
      k = dieKey r d ∧ s.polls r = true ∧ bit st.toNat 6 = true ∧ bit st.toNat 5 = true ∧ s.modeNow ≠ 10 ∧ (s.die k).retiring = false ∧
      ((c = .statusPollDue r d st us ∧ (s.pollOnly k = true ∨ s.busyOf r (d / 4) ≠ [k])) ∨ (c = .rbnRise r (d / 4) [(st, us)] ∧
      s.pollOnly k = false ∧ s.busyOf r (d / 4) = [k])) ∧ said = s.out ++ [.dieCmd r d [0x78] []] ∧ s.dieSt k = 7 ∧
      (s.die k).tempRun = some p1) ∧
    (∃ (s : State) (c : Instr) (r : Nat) (d : Nat) (us : Nat) (k : Nat) (st : Byte) (said : List Output) (o : DieOp), r < 32 ∧ d < 16 ∧
      k = dieKey r d ∧ s.polls r = true ∧ bit st.toNat 6 = true ∧ bit st.toNat 5 = true ∧ s.modeNow ≠ 10 ∧ (s.die k).retiring = false ∧
      ((c = .statusPollDue r d st us ∧ (s.pollOnly k = true ∨ s.busyOf r (d / 4) ≠ [k])) ∨ (c = .rbnRise r (d / 4) [(st, us)] ∧
      s.pollOnly k = false ∧ s.busyOf r (d / 4) = [k])) ∧ said = s.out ++ [.dieCmd r d [0x78] []] ∧ (s.die k).op = some o ∧
      (s.die k).want = none ∧ (s.die k).tempRun = none ∧ s.dieSt k = 2 ∧ o.jobs ≠ []) ∧
    (∃ (s : State) (c : Instr) (r : Nat) (d : Nat) (us : Nat) (k : Nat) (st : Byte) (said : List Output) (o : DieOp), r < 32 ∧ d < 16 ∧
      k = dieKey r d ∧ s.polls r = true ∧ bit st.toNat 6 = true ∧ bit st.toNat 5 = true ∧ s.modeNow ≠ 10 ∧ (s.die k).retiring = false ∧
      ((c = .statusPollDue r d st us ∧ (s.pollOnly k = true ∨ s.busyOf r (d / 4) ≠ [k])) ∨ (c = .rbnRise r (d / 4) [(st, us)] ∧
      s.pollOnly k = false ∧ s.busyOf r (d / 4) = [k])) ∧ said = s.out ++ [.dieCmd r d [0x78] []] ∧ (s.die k).op = some o ∧
      (s.die k).want = none ∧ (s.die k).tempRun = none ∧ s.dieSt k = 7 ∧ o.cls ≠ 1 ∧ o.running = true) ∧
    (∃ (s : State) (c : Instr) (r : Nat) (d : Nat) (us : Nat) (k : Nat) (st : Byte) (said : List Output) (o : DieOp) (n : _), r < 32 ∧
      d < 16 ∧ k = dieKey r d ∧ s.polls r = true ∧ bit st.toNat 6 = true ∧ bit st.toNat 5 = true ∧ s.modeNow ≠ 10 ∧
      (s.die k).retiring = false ∧ ((c = .statusPollDue r d st us ∧
      (s.pollOnly k = true ∨ s.busyOf r (d / 4) ≠ [k])) ∨ (c = .rbnRise r (d / 4) [(st, us)] ∧ s.pollOnly k = false ∧
      s.busyOf r (d / 4) = [k])) ∧ said = s.out ++ [.dieCmd r d [0x78] []] ∧ (s.die k).op = some o ∧ (s.die k).want = none ∧
      (s.die k).tempRun = none ∧ s.dieSt k = 7 ∧ o.cls ≠ 1 ∧ o.running = false ∧ s.nextStep k o = some n) ∧
    (∃ (s : State) (c : Instr) (r : Nat) (d : Nat) (us : Nat) (k : Nat) (st : Byte) (said : List Output) (o : DieOp), r < 32 ∧ d < 16 ∧
      k = dieKey r d ∧ s.polls r = true ∧ bit st.toNat 6 = true ∧ bit st.toNat 5 = true ∧ s.modeNow ≠ 10 ∧ (s.die k).retiring = false ∧
      ((c = .statusPollDue r d st us ∧ (s.pollOnly k = true ∨ s.busyOf r (d / 4) ≠ [k])) ∨ (c = .rbnRise r (d / 4) [(st, us)] ∧
      s.pollOnly k = false ∧ s.busyOf r (d / 4) = [k])) ∧ said = s.out ++ [.dieCmd r d [0x78] []] ∧ (s.die k).op = some o ∧
      (s.die k).want = none ∧ (s.die k).tempRun = none ∧ s.dieSt k = 7 ∧ o.cls = 1) ∧
    (∃ (s : State) (c : Instr) (r : Nat) (d : Nat) (us : Nat) (k : Nat) (st : Byte) (said : List Output) (o : DieOp), r < 32 ∧ d < 16 ∧
      k = dieKey r d ∧ s.polls r = true ∧ bit st.toNat 6 = true ∧ bit st.toNat 5 = true ∧ s.modeNow ≠ 10 ∧ (s.die k).retiring = false ∧
      ((c = .statusPollDue r d st us ∧ (s.pollOnly k = true ∨ s.busyOf r (d / 4) ≠ [k])) ∨ (c = .rbnRise r (d / 4) [(st, us)] ∧
      s.pollOnly k = false ∧ s.busyOf r (d / 4) = [k])) ∧ said = s.out ++ [.dieCmd r d [0x78] []] ∧ (s.die k).op = some o ∧
      (s.die k).want = none ∧ (s.die k).tempRun = none ∧ s.dieSt k = 6 ∧ o.running = true ∧ o.noLedger = false ∧ o.step = 2) ∧
    (∃ (s : State) (c : Instr) (r : Nat) (d : Nat) (us : Nat) (k : Nat) (st : Byte) (said : List Output) (o : DieOp), r < 32 ∧ d < 16 ∧
      k = dieKey r d ∧ s.polls r = true ∧ bit st.toNat 6 = true ∧ bit st.toNat 5 = true ∧ s.modeNow ≠ 10 ∧ (s.die k).retiring = false ∧
      ((c = .statusPollDue r d st us ∧ (s.pollOnly k = true ∨ s.busyOf r (d / 4) ≠ [k])) ∨ (c = .rbnRise r (d / 4) [(st, us)] ∧
      s.pollOnly k = false ∧ s.busyOf r (d / 4) = [k])) ∧ said = s.out ++ [.dieCmd r d [0x78] []] ∧ (s.die k).op = some o ∧
      (s.die k).want = none ∧ (s.die k).tempRun = none ∧ s.dieSt k = 6 ∧ o.running = true ∧ o.noLedger = false ∧ o.step = 1 ∧
      bit st.toNat 0 = false ∧ bit st.toNat 7 = true) ∧
    (∃ (s : State) (c : Instr) (r : Nat) (d : Nat) (us : Nat) (k : Nat) (st : Byte) (said : List Output) (o : DieOp), r < 32 ∧ d < 16 ∧
      k = dieKey r d ∧ s.polls r = true ∧ bit st.toNat 6 = true ∧ bit st.toNat 5 = true ∧ s.modeNow ≠ 10 ∧ (s.die k).retiring = false ∧
      ((c = .statusPollDue r d st us ∧ (s.pollOnly k = true ∨ s.busyOf r (d / 4) ≠ [k])) ∨ (c = .rbnRise r (d / 4) [(st, us)] ∧
      s.pollOnly k = false ∧ s.busyOf r (d / 4) = [k])) ∧ said = s.out ++ [.dieCmd r d [0x78] []] ∧ (s.die k).op = some o ∧
      (s.die k).want = none ∧ (s.die k).tempRun = none ∧ s.dieSt k = 6 ∧ o.running = true ∧ o.noLedger = false ∧ o.step = 1 ∧
      o.switch = false ∧ (bit st.toNat 0 = true ∨ bit st.toNat 7 = false)) ∧
    (∃ (s : State) (c : Instr) (r : Nat) (d : Nat) (us : Nat) (k : Nat) (st : Byte) (said : List Output) (o : DieOp) (id : Nat) (e : Desc),
      r < 32 ∧ d < 16 ∧ k = dieKey r d ∧ s.polls r = true ∧ bit st.toNat 6 = true ∧ bit st.toNat 5 = true ∧ s.modeNow ≠ 10 ∧
      (s.die k).retiring = false ∧ ((c = .statusPollDue r d st us ∧
      (s.pollOnly k = true ∨ s.busyOf r (d / 4) ≠ [k])) ∨ (c = .rbnRise r (d / 4) [(st, us)] ∧ s.pollOnly k = false ∧
      s.busyOf r (d / 4) = [k])) ∧ said = s.out ++ [.dieCmd r d [0x78] []] ∧ (s.die k).op = some o ∧ (s.die k).want = none ∧
      (s.die k).tempRun = none ∧ s.dieSt k = 6 ∧ o.running = true ∧ o.noLedger = false ∧ o.step = 3 ∧ o.cls = 3 ∧ o.switch = false ∧
      o.purpose = [.eraseDesc id] ∧ s.desc? id = some e ∧ e.status = none ∧ e.bufferFault = false ∧ o.erased = true ∧
      o.failed = false) ∧
    (∃ (s : State) (c : Instr) (r : Nat) (d : Nat) (us : Nat) (k : Nat) (st : Byte) (said : List Output) (o : DieOp) (id : Nat) (e : Desc),
      r < 32 ∧ d < 16 ∧ k = dieKey r d ∧ s.polls r = true ∧ bit st.toNat 6 = true ∧ bit st.toNat 5 = true ∧ s.modeNow ≠ 10 ∧
      (s.die k).retiring = false ∧ ((c = .statusPollDue r d st us ∧
      (s.pollOnly k = true ∨ s.busyOf r (d / 4) ≠ [k])) ∨ (c = .rbnRise r (d / 4) [(st, us)] ∧ s.pollOnly k = false ∧
      s.busyOf r (d / 4) = [k])) ∧ said = s.out ++ [.dieCmd r d [0x78] []] ∧ (s.die k).op = some o ∧ (s.die k).want = none ∧
      (s.die k).tempRun = none ∧ s.dieSt k = 6 ∧ o.running = true ∧ o.noLedger = false ∧ o.step = 3 ∧ o.cls = 3 ∧ o.switch = false ∧
      o.purpose = [.eraseDesc id] ∧ s.desc? id = some e ∧ e.status = none ∧ e.bufferFault = false ∧ o.erased = true ∧ o.failed = true) ∧
    (∃ (s : State) (c : Instr) (r : Nat) (d : Nat) (us : Nat) (k : Nat) (st : Byte) (said : List Output) (o : DieOp) (id : Nat) (e : Desc) (page : Nat) (data : List Bytes),
      r < 32 ∧ d < 16 ∧ k = dieKey r d ∧ s.polls r = true ∧ bit st.toNat 6 = true ∧ bit st.toNat 5 = true ∧ s.modeNow ≠ 10 ∧
      (s.die k).retiring = false ∧ ((c = .statusPollDue r d st us ∧
      (s.pollOnly k = true ∨ s.busyOf r (d / 4) ≠ [k])) ∨ (c = .rbnRise r (d / 4) [(st, us)] ∧ s.pollOnly k = false ∧
      s.busyOf r (d / 4) = [k])) ∧ said = s.out ++ [.dieCmd r d [0x78] []] ∧ (s.die k).op = some o ∧ (s.die k).want = none ∧
      (s.die k).tempRun = none ∧ s.dieSt k = 5 ∧ o.cls = 2 ∧ o.purpose = [.progDesc id] ∧ s.desc? id = some e ∧ e.status = none ∧
      e.op = 0x04 ∧ e.bufferFault = false ∧ e.pages = [(page, data)] ∧ s.memorySound ∧ bit st.toNat 7 = true ∧ bit st.toNat 0 = false) ∧
    (∃ (s : State) (c : Instr) (r : Nat) (d : Nat) (us : Nat) (k : Nat) (st : Byte) (said : List Output) (o : DieOp) (id : Nat) (e : Desc) (page : Nat) (data : List Bytes),
      r < 32 ∧ d < 16 ∧ k = dieKey r d ∧ s.polls r = true ∧ bit st.toNat 6 = true ∧ bit st.toNat 5 = true ∧ s.modeNow ≠ 10 ∧
      (s.die k).retiring = false ∧ ((c = .statusPollDue r d st us ∧
      (s.pollOnly k = true ∨ s.busyOf r (d / 4) ≠ [k])) ∨ (c = .rbnRise r (d / 4) [(st, us)] ∧ s.pollOnly k = false ∧
      s.busyOf r (d / 4) = [k])) ∧ said = s.out ++ [.dieCmd r d [0x78] []] ∧ (s.die k).op = some o ∧ (s.die k).want = none ∧
      (s.die k).tempRun = none ∧ s.dieSt k = 5 ∧ o.cls = 2 ∧ o.purpose = [.progDesc id] ∧ s.desc? id = some e ∧ e.status = none ∧
      e.op = 0x04 ∧ e.bufferFault = false ∧ e.pages = [(page, data)] ∧ s.memorySound ∧
      (bit st.toNat 7 = false ∨ bit st.toNat 0 = true)) ∧
    (∃ (s : State) (r : Nat) (ce : Nat), r < 32 ∧ ce < 4 ∧ s.polls r = true ∧ s.getF (F.RT_CTRL_POLL_ONLY r) = 0 ∧
      s.getF (F.RT_STATUS_RBN_FALLBACK r) = 0 ∧ s.busyOf r ce = []) :=
  ⟨⟨(die0 (inMode 4) 7 { tempRun := some 0x80#8 }).setF (F.RT_STATUS_RBN_FALLBACK 0) 1, .statusPollDue 0 0 0x60 0, 0, 0, 0, 0, 0x60,
      [.dieCmd 0 0 [0x78] []], 0x80#8, by decide +kernel⟩,
   ⟨(die0 (inMode 4) 2 { op := some { opn 1 with jobs := [7] } }).setF (F.RT_STATUS_RBN_FALLBACK 0) 1, .statusPollDue 0 0 0x60 0, 0, 0,
      0, 0, 0x60, [.dieCmd 0 0 [0x78] []], { opn 1 with jobs := [7] }, by decide +kernel⟩,
   ⟨(die0 (inMode 4) 7 { op := some { opn 3 with step := 2, running := true } }).setF (F.RT_STATUS_RBN_FALLBACK 0) 1,
      .statusPollDue 0 0 0x60 0, 0, 0, 0, 0, 0x60, [.dieCmd 0 0 [0x78] []], { opn 3 with step := 2, running := true },
      by decide +kernel⟩,
   ⟨(die0 (inMode 4) 7 { op := some { opn 3 with step := 1 } }).setF (F.RT_STATUS_RBN_FALLBACK 0) 1, .statusPollDue 0 0 0x60 0, 0, 0,
      0, 0, 0x60, [.dieCmd 0 0 [0x78] []], { opn 3 with step := 1 }, 2, by decide +kernel⟩,
   ⟨(die0 (inMode 4) 7 { op := some (opn 1) }).setF (F.RT_STATUS_RBN_FALLBACK 0) 1, .statusPollDue 0 0 0x60 0, 0, 0, 0, 0, 0x60,
      [.dieCmd 0 0 [0x78] []], (opn 1), by decide +kernel⟩,
   ⟨(die0 (inMode 4) 6 { op := some { opn 3 with step := 2, running := true } }).setF (F.RT_STATUS_RBN_FALLBACK 0) 1,
      .statusPollDue 0 0 0xE0 0, 0, 0, 0, 0, 0xE0, [.dieCmd 0 0 [0x78] []], { opn 3 with step := 2, running := true },
      by decide +kernel⟩,
   ⟨(die0 (inMode 4) 6 { op := some { opn 3 with step := 1, running := true } }).setF (F.RT_STATUS_RBN_FALLBACK 0) 1,
      .statusPollDue 0 0 0xE0 0, 0, 0, 0, 0, 0xE0, [.dieCmd 0 0 [0x78] []], { opn 3 with step := 1, running := true },
      by decide +kernel⟩,
   ⟨(die0 (inMode 4) 6 { op := some { opn 3 with step := 1, running := true } }).setF (F.RT_STATUS_RBN_FALLBACK 0) 1,
      .statusPollDue 0 0 0xE1 0, 0, 0, 0, 0, 0xE1, [.dieCmd 0 0 [0x78] []], { opn 3 with step := 1, running := true },
      by decide +kernel⟩,
   ⟨(die0 (withD (inMode 4) (dsc 1 6 [])) 6 { op := some { opn 3 with step := 3, running := true, purpose := [.eraseDesc 5], erased := true } }).setF (F.RT_STATUS_RBN_FALLBACK 0) 1,
      .statusPollDue 0 0 0xE0 0, 0, 0, 0, 0, 0xE0, [.dieCmd 0 0 [0x78] []], { opn 3 with step := 3, running := true, purpose := [.eraseDesc 5], erased := true },
      5, (dsc 1 6 []), by decide +kernel⟩,
   ⟨(die0 (withD (inMode 4) (dsc 1 6 [])) 6 { op := some { opn 3 with step := 3, running := true, purpose := [.eraseDesc 5], erased := true, failed := true } }).setF (F.RT_STATUS_RBN_FALLBACK 0) 1,
      .statusPollDue 0 0 0xE0 0, 0, 0, 0, 0, 0xE0, [.dieCmd 0 0 [0x78] []], { opn 3 with step := 3, running := true, purpose := [.eraseDesc 5], erased := true, failed := true },
      5, (dsc 1 6 []), by decide +kernel⟩,
   ⟨(die0 (withD (inMode 4) { dsc 1 4 [] with pages := [(65536, [])] }) 5 { op := some { opn 2 with running := true, purpose := [.progDesc 5] } }).setF (F.RT_STATUS_RBN_FALLBACK 0) 1,
      .statusPollDue 0 0 0xE0 0, 0, 0, 0, 0, 0xE0, [.dieCmd 0 0 [0x78] []], { opn 2 with running := true, purpose := [.progDesc 5] },
      5, { dsc 1 4 [] with pages := [(65536, [])] }, 65536, ([] : List Bytes), by (unfold State.memorySound; decide +kernel)⟩,
   ⟨(die0 (withD (inMode 4) { dsc 1 4 [] with pages := [(65536, [])] }) 5 { op := some { opn 2 with running := true, purpose := [.progDesc 5] } }).setF (F.RT_STATUS_RBN_FALLBACK 0) 1,
      .statusPollDue 0 0 0xE1 0, 0, 0, 0, 0, 0xE1, [.dieCmd 0 0 [0x78] []], { opn 2 with running := true, purpose := [.progDesc 5] },
      5, { dsc 1 4 [] with pages := [(65536, [])] }, 65536, ([] : List Bytes), by (unfold State.memorySound; decide +kernel)⟩,
   ⟨(inMode 4).setF (F.RT_STATUS_STATE 31) 2, 31, 3, by decide +kernel⟩⟩

/-- The hypotheses of each clause of `Obligations.TimeoutsGuardAndTemperaturesAct` are met. -/
theorem witness_TimeoutsGuardAndTemperaturesAct :
    (∃ (s : State) (r : Nat) (d : Nat) (k : Nat) (n : Nat) (o : DieOp) (id : Nat) (e : Desc) (page : Nat) (data : List Bytes), r < 32 ∧
      d < 16 ∧ k = dieKey r d ∧ n = s.getF (F.RT_DIE_TIMEOUTS r d) ∧ s.modeNow ≠ 10 ∧ (s.die k).tempRun = none ∧
      s.resetRuns k = false ∧ s.timerRuns k = true ∧ (s.die k).op = some o ∧ s.desc? id = some e ∧ e.status = none ∧
      e.bufferFault = false ∧ n < 2 ∧ s.dieSt k = 5 ∧ o.cls = 2 ∧ o.purpose = [.progDesc id] ∧ e.op = 0x04 ∧ e.pages = [(page, data)]) ∧
    (∃ (s : State) (r : Nat) (d : Nat) (k : Nat) (n : Nat) (o : DieOp) (id : Nat) (e : Desc), r < 32 ∧ d < 16 ∧ k = dieKey r d ∧
      n = s.getF (F.RT_DIE_TIMEOUTS r d) ∧ s.modeNow ≠ 10 ∧ (s.die k).tempRun = none ∧ s.resetRuns k = false ∧ s.timerRuns k = true ∧
      (s.die k).op = some o ∧ s.desc? id = some e ∧ e.status = none ∧ e.bufferFault = false ∧ n < 2 ∧ s.dieSt k = 6 ∧ o.cls = 3 ∧
      o.step = 2 ∧ o.purpose = [.eraseDesc id]) ∧
    (∃ (s : State) (r : Nat) (d : Nat) (k : Nat) (n : Nat) (o : DieOp) (id : Nat) (e : Desc) (i : Nat) (j : _), r < 32 ∧ d < 16 ∧
      k = dieKey r d ∧ n = s.getF (F.RT_DIE_TIMEOUTS r d) ∧ s.modeNow ≠ 10 ∧ (s.die k).tempRun = none ∧ s.resetRuns k = false ∧
      s.timerRuns k = true ∧ (s.die k).op = some o ∧ s.desc? id = some e ∧ e.status = none ∧ e.bufferFault = false ∧ n < 2 ∧
      s.dieSt k = 2 ∧ o.cls = 1 ∧ o.jobs = [i] ∧ (s.die k).next = none ∧ s.job? i = some j ∧ j.dest = .desc id 0 ∧ e.op = 0x01 ∧
      e.started = true ∧ e.results = [none]) ∧
    (∃ (s : State) (r : Nat) (d : Nat) (k : Nat) (n : Nat) (o : DieOp), r < 32 ∧ d < 16 ∧ k = dieKey r d ∧
      n = s.getF (F.RT_DIE_TIMEOUTS r d) ∧ s.modeNow ≠ 10 ∧ (s.die k).tempRun = none ∧ s.resetRuns k = false ∧ s.timerRuns k = true ∧
      (s.die k).op = some o ∧ s.dieSt k = 6 ∧ o.cls = 3 ∧ (o.step = 1 ∨ o.step = 3) ∧ n < 2) ∧
    (∃ (s : State) (r : Nat) (d : Nat) (k : Nat) (n : Nat) (o : DieOp) (id : Nat) (e : Desc) (page : Nat) (data : List Bytes), r < 32 ∧
      d < 16 ∧ k = dieKey r d ∧ n = s.getF (F.RT_DIE_TIMEOUTS r d) ∧ s.modeNow ≠ 10 ∧ (s.die k).tempRun = none ∧
      s.resetRuns k = false ∧ s.timerRuns k = true ∧ (s.die k).op = some o ∧ s.dieSt k = 5 ∧ o.cls = 2 ∧ o.purpose = [.progDesc id] ∧
      s.desc? id = some e ∧ e.status = none ∧ e.bufferFault = false ∧ e.op = 0x04 ∧ e.pages = [(page, data)] ∧ (s.die k).held = none ∧
      s.waitingFor k = [] ∧ 2 ≤ n ∧ n < 255) ∧
    (∃ (s : State) (r : Nat) (d : Nat) (k : Nat), r < 32 ∧ d < 16 ∧ k = dieKey r d ∧ s.modeNow ≠ 10 ∧ (s.die k).tempRun = none ∧
      (s.resetRuns k = true ∨ (s.timerRuns k = true ∧ s.dieSt k = 7)) ∧ (s.die k).next = none ∧ (s.die k).held = none ∧
      s.waitingFor k = [] ∧ (s.die k).op = none) ∧
    (∃ (s : State) (r : Nat) (d : Nat) (k : Nat) (o : DieOp) (id : Nat) (e : Desc), r < 32 ∧ d < 16 ∧ k = dieKey r d ∧ s.modeNow ≠ 10 ∧
      (s.die k).tempRun = none ∧ (s.resetRuns k = true ∨ (s.timerRuns k = true ∧ s.dieSt k = 7)) ∧ (s.die k).next = none ∧
      (s.die k).held = none ∧ s.waitingFor k = [] ∧ (s.die k).op = some o ∧ o.cls = 3 ∧ o.running = false ∧
      o.purpose = [.eraseDesc id] ∧ s.desc? id = some e ∧ e.status = none ∧ e.bufferFault = false) ∧
    (∃ (s : State) (r : Nat) (d : Nat) (k : Nat) (p1 : Byte), r < 32 ∧ d < 16 ∧ k = dieKey r d ∧ s.timerRuns k = true ∧ s.dieSt k = 7 ∧
      (s.die k).tempRun = some p1 ∧ s.resetRuns k = false ∧ s.getF (F.RT_DIE_TIMEOUTS r d) < 2) ∧
    (∃ (s : State) (o : DieOp), (s.seq.waiting.find? (·.id = o.id)) = some o ∧ o.guardWait = true ∧ s.guardHolds (o.die / 16) = true ∧
      s.issues = true ∧ o.origin = .rebuild) ∧
    (∃ (s : State) (o : DieOp), (s.seq.waiting.find? (·.id = o.id)) = some o ∧ o.guardWait = true ∧ s.guardHolds (o.die / 16) = true ∧
      s.issues = true ∧ o.origin ≠ .rebuild ∧ .eraseGuarded ∈ o.purpose) ∧
    (∃ (s : State) (o : DieOp) (id : Nat) (e : Desc), (s.seq.waiting.find? (·.id = o.id)) = some o ∧ o.guardWait = true ∧
      s.guardHolds (o.die / 16) = true ∧ s.issues = true ∧ o.origin ≠ .rebuild ∧
      (o.purpose = [.eraseDesc id] ∨ (o.purpose = [.progDesc id] ∧ e.pages ≠ [])) ∧ s.desc? id = some e ∧ e.status = none ∧
      e.bufferFault = false) ∧
    (∃ (s : State) (r : Nat), r < 32 ∧ s.wpAllowed r = true) ∧
    (∃ (s : State) (r : Nat), r < 32 ∧ s.wpAllowed r = false ∧ (s.writesBusy r = false ∨ s.routeSt r = 0)) ∧
    (∃ (s : State) (r : Nat), r < 32 ∧ s.wpAllowed r = false ∧ s.writesBusy r = true ∧ s.routeSt r ≠ 0) ∧
    (∃ (s : State) (r : Nat) (d : Nat) (k : Nat), r < 32 ∧ d < 16 ∧ k = dieKey r d ∧ s.dieOn k = true ∧ s.routeSt r = 2 ∧
      s.tempRuns = true ∧ s.getF F.PWR_WG_CTRL_TEMP_FA ≠ 0) ∧
    (∃ (s : State) (r : Nat) (d : Nat) (k : Nat), r < 32 ∧ d < 16 ∧ k = dieKey r d ∧ s.dieOn k = true ∧ s.routeSt r = 2 ∧
      s.tempRuns = true ∧ s.getF F.PWR_WG_CTRL_TEMP_FA = 0) :=
  ⟨⟨die0 (withD (inMode 4) { dsc 1 4 [] with pages := [(65536, [])] }) 5 { op := some { opn 2 with running := true, purpose := [.progDesc 5] } },
      0, 0, 0, 0, { opn 2 with running := true, purpose := [.progDesc 5] }, 5, { dsc 1 4 [] with pages := [(65536, [])] }, 65536,
      ([] : List Bytes), by decide +kernel⟩,
   ⟨die0 (withD (inMode 4) (dsc 1 6 [])) 6 { op := some { opn 3 with step := 2, running := true, purpose := [.eraseDesc 5] } }, 0, 0,
      0, 0, { opn 3 with step := 2, running := true, purpose := [.eraseDesc 5] }, 5, (dsc 1 6 []), by decide +kernel⟩,
   ⟨die0 { withJ (inMode 4) [{ job7 with phase := .inDie }] with descs := [{ dsc 1 1 [] with results := [none], started := true }] } 2 { op := some { opn 1 with jobs := [7] } },
      0, 0, 0, 0, { opn 1 with jobs := [7] }, 5, { dsc 1 1 [] with results := [none], started := true }, 7,
      { job7 with phase := .inDie }, by decide +kernel⟩,
   ⟨die0 (withD (inMode 4) (dsc 1 6 [])) 6 { op := some { opn 3 with step := 1, running := true, purpose := [.eraseDesc 5] } }, 0, 0,
      0, 0, { opn 3 with step := 1, running := true, purpose := [.eraseDesc 5] }, by decide +kernel⟩,
   ⟨(die0 (withD (inMode 4) { dsc 1 4 [] with pages := [(65536, [])] }) 5 { op := some { opn 2 with running := true, purpose := [.progDesc 5] } }).setF (F.RT_DIE_TIMEOUTS 0 0) 2,
      0, 0, 0, 2, { opn 2 with running := true, purpose := [.progDesc 5] }, 5, { dsc 1 4 [] with pages := [(65536, [])] }, 65536,
      ([] : List Bytes), by decide +kernel⟩,
   ⟨die0 (inMode 4) 7 {}, 0, 0, 0, by decide +kernel⟩,
   ⟨die0 (withD (inMode 4) (dsc 1 6 [])) 7 { op := some { opn 3 with purpose := [.eraseDesc 5] } }, 0, 0, 0,
      { opn 3 with purpose := [.eraseDesc 5] }, 5, (dsc 1 6 []), by decide +kernel⟩,
   ⟨die0 (inMode 4) 7 { tempRun := some 0x80#8 }, 0, 0, 0, 0x80#8, by decide +kernel⟩,
   ⟨({ inMode 4 with seq := { (inMode 4).seq with waiting := [{ opn 3 with guardWait := true, purpose := [.eraseGuarded], origin := .rebuild }] } }).setR R.PWR_WG_STATUS 1,
      { opn 3 with guardWait := true, purpose := [.eraseGuarded], origin := .rebuild }, by decide +kernel⟩,
   ⟨({ inMode 4 with seq := { (inMode 4).seq with waiting := [{ opn 3 with guardWait := true, purpose := [.eraseGuarded] }] } }).setR R.PWR_WG_STATUS 1,
      { opn 3 with guardWait := true, purpose := [.eraseGuarded] }, by decide +kernel⟩,
   ⟨(withD { inMode 4 with seq := { (inMode 4).seq with waiting := [{ opn 3 with guardWait := true, purpose := [.eraseDesc 5] }] } } (dsc 1 6 [])).setR R.PWR_WG_STATUS 1,
      { opn 3 with guardWait := true, purpose := [.eraseDesc 5] }, 5, (dsc 1 6 []), by decide +kernel⟩,
   ⟨inMode 4, 1, by decide +kernel⟩,
   ⟨inMode 10, 31, by decide +kernel⟩,
   ⟨die0 (inMode 10) 5 {}, 0, by decide +kernel⟩,
   ⟨(inMode 4).setF F.PWR_WG_CTRL_TEMP_FA 0xE7, 0, 0, 0, by decide +kernel⟩,
   ⟨inMode 4, 0, 0, 0, by decide +kernel⟩⟩

/-- The hypotheses of each clause of `Obligations.ProgramsAndErasesAreStarted` are met. -/
theorem witness_ProgramsAndErasesAreStarted :
    (∃ (s : State) (id : Nat) (n : Nat) (a : Nat) (d : Desc) (md : Bytes), s.ioRuns id 0x04 d ∧ n = field d.bytes 16 4 ∧
      a = field d.bytes 8 8 ∧ (List.range n).all (metaOk d.bytes md) = false) ∧
    (∃ (s : State) (id : Nat) (n : Nat) (a : Nat) (d : Desc) (md : Bytes) (st : Nat), s.ioRuns id 0x04 d ∧ n = field d.bytes 16 4 ∧
      a = field d.bytes 8 8 ∧ (List.range n).all (metaOk d.bytes md) = true ∧ d.late = some st) ∧
    (∃ (s : State) (id : Nat) (n : Nat) (a : Nat) (d : Desc) (md : Bytes) (st : Nat), s.ioRuns id 0x04 d ∧ n = field d.bytes 16 4 ∧
      a = field d.bytes 8 8 ∧ (List.range n).all (metaOk d.bytes md) = true ∧ 4 ≤ n ∧ d.late = none ∧
      s.writeDie (addrDie a) = some st) ∧
    (∃ (s : State) (id : Nat) (n : Nat) (a : Nat) (d : Desc) (md : Bytes), s.ioRuns id 0x04 d ∧ n = field d.bytes 16 4 ∧
      a = field d.bytes 8 8 ∧ (List.range n).all (metaOk d.bytes md) = true ∧ 4 ≤ n ∧ d.late = none ∧ s.writeDie (addrDie a) = none ∧
      s.mustReerase (s.busAddr a) = false) ∧
    (∃ (s : State) (id : Nat) (n : Nat) (a : Nat) (d : Desc) (md : Bytes), s.ioRuns id 0x04 d ∧ n = field d.bytes 16 4 ∧
      a = field d.bytes 8 8 ∧ (List.range n).all (metaOk d.bytes md) = true ∧ 4 ≤ n ∧ d.late = none ∧ s.writeDie (addrDie a) = none ∧
      s.mustReerase (s.busAddr a) = true) ∧
    (∃ (s : State) (id : Nat) (a : Nat) (d : Desc) (maps : List Bytes) (js : List Nat) (st : Nat), s.ioRuns id 0x06 d ∧
      a = field d.bytes 8 8 ∧ js = (List.range s.img.cfg.layouts.length).filter (s.covers maps (addrDie a) (addrBlock a)) ∧
      s.writeDie (addrDie a) = some st) ∧
    (∃ (s : State) (id : Nat) (a : Nat) (d : Desc) (maps : List Bytes) (js : List Nat), s.ioRuns id 0x06 d ∧ a = field d.bytes 8 8 ∧
      js = (List.range s.img.cfg.layouts.length).filter (s.covers maps (addrDie a) (addrBlock a)) ∧ s.writeDie (addrDie a) = none ∧
      s.ph.ranges.length < 8) ∧
    (∃ (s : State) (id : Nat) (a : Nat) (d : Desc) (maps : List Bytes) (js : List Nat), s.ioRuns id 0x06 d ∧ a = field d.bytes 8 8 ∧
      js = (List.range s.img.cfg.layouts.length).filter (s.covers maps (addrDie a) (addrBlock a)) ∧ s.writeDie (addrDie a) = none ∧
      8 ≤ s.ph.ranges.length) ∧
    (∃ (s : State) (id : Nat) (a : Nat) (d : Desc) (maps : List Bytes) (js : List Nat), s.ioRuns id 0x06 d ∧ a = field d.bytes 8 8 ∧
      js = (List.range s.img.cfg.layouts.length).filter (s.covers maps (addrDie a) (addrBlock a))) ∧
    (∃ (s : State) (r : Nat), s.guardHolds r = false ∧ (s.modeNow = 4 ∨ s.modeNow = 5 ∨ s.modeNow = 11) ∧ s.routeSt r = 2) ∧
    (∃ (s : State) (id : Nat) (d : Desc), s.desc? id = some d ∧ d.status = none ∧ d.bufferFault = false ∧ buffersRead d = false ∧
      s.writesOut = true ∧ (∀ c ∈ s.so.scans, c.id ≠ id) ∧ (∀ j ∈ s.seq.jobs, j.serves id = false) ∧ d.op = 0x03) ∧
    (∃ (s : State) (id : Nat) (d : Desc), s.desc? id = some d ∧ d.status = none ∧ d.bufferFault = false ∧ buffersRead d = false ∧
      s.writesOut = true ∧ (∀ c ∈ s.so.scans, c.id ≠ id) ∧ (∀ j ∈ s.seq.jobs, j.serves id = false) ∧ d.op ≠ 0x03 ∧
      (s.dropDescOps id).descInDie id = false) ∧
    (∃ (s : State) (id : Nat) (d : Desc) (unit : Option Nat), s.desc? id = some d ∧ d.status = none ∧ d.bufferFault = false ∧
      buffersRead d = false ∧ s.writesOut = true ∧ (∀ c ∈ s.so.scans, c.id ≠ id) ∧ (∀ j ∈ s.seq.jobs, j.serves id = false) ∧
      d.op ≠ 0x03 ∧ (s.dropDescOps id).descInDie id = true ∧ unit = none) ∧
    (∃ (s : State) (id : Nat) (d : Desc) (unit : Option Nat) (u : Nat), s.desc? id = some d ∧ d.status = none ∧ d.bufferFault = false ∧
      buffersRead d = false ∧ s.writesOut = true ∧ (∀ c ∈ s.so.scans, c.id ≠ id) ∧ (∀ j ∈ s.seq.jobs, j.serves id = false) ∧
      d.op ≠ 0x03 ∧ unit = some u) :=
  ⟨⟨withD (inMode 4) (dsc 1 4 [(4, 3), (10, 1), (16, 4)]), 5, 4, 65536, dsc 1 4 [(4, 3), (10, 1), (16, 4)], [3],
      by (unfold State.ioRuns; decide +kernel)⟩,
   ⟨withD (inMode 4) ({ dsc 1 4 [(10, 1), (16, 4)] with late := some 0x30 }), 5, 4, 65536, { dsc 1 4 [(10, 1), (16, 4)] with late := some 0x30 },
      [], 0x30, by (unfold State.ioRuns; decide +kernel)⟩,
   ⟨withD ((inMode 4).setDieSt 0 9) (dsc 1 4 [(10, 1), (16, 4)]), 5, 4, 65536, dsc 1 4 [(10, 1), (16, 4)], [], 0x061,
      by (unfold State.ioRuns; decide +kernel)⟩,
   ⟨withD (inMode 4) (dsc 1 4 [(10, 1), (16, 4)]), 5, 4, 65536, dsc 1 4 [(10, 1), (16, 4)], [], by (unfold State.ioRuns; decide +kernel)⟩,
   ⟨withD ({ inMode 4 with seq := { (inMode 4).seq with incomplete := [4] } }) (dsc 1 4 [(10, 1), (16, 4)]), 5, 4, 65536, dsc 1 4 [(10, 1), (16, 4)],
      [], by (unfold State.ioRuns; decide +kernel)⟩,
   ⟨withD ((inMode 4).setDieSt 0 9) (dsc 1 6 [(10, 1)]), 5, 65536, dsc 1 6 [(10, 1)], [], [], 0x061,
      by (unfold State.ioRuns; decide +kernel)⟩,
   ⟨withD (inMode 4) (dsc 1 6 [(10, 1)]), 5, 65536, dsc 1 6 [(10, 1)], [], [], by (unfold State.ioRuns; decide +kernel)⟩,
   ⟨withD ({ inMode 4 with ph := { ranges := List.replicate 8 { epoch := 1, dies := [0], blocks := none } } }) (dsc 1 6 [(10, 1)]), 5,
      65536, dsc 1 6 [(10, 1)], [], [], by (unfold State.ioRuns; decide +kernel)⟩,
   ⟨withD (inMode 4) (dsc 1 6 [(10, 1)]), 5, 65536, dsc 1 6 [(10, 1)], [], [], by (unfold State.ioRuns; decide +kernel)⟩,
   ⟨inMode 11, 0, by decide +kernel⟩,
   ⟨withD (inMode 4) (dsc 1 3 []), 5, dsc 1 3 [], by decide +kernel⟩,
   ⟨withD (inMode 4) (dsc 1 5 []), 5, dsc 1 5 [], by decide +kernel⟩,
   ⟨die0 (withD (inMode 4) (dsc 1 6 [])) 6 { op := some { opn 3 with step := 2, running := true, purpose := [.eraseDesc 5] } }, 5,
      dsc 1 6 [], none, by decide +kernel⟩,
   ⟨withD (inMode 4) (dsc 1 5 []), 5, dsc 1 5 [], some 0x10000, 0x10000, by decide +kernel⟩⟩

/-- The hypotheses of each clause of `Obligations.StripeRowsFillAndComplete` are met. -/
theorem witness_StripeRowsFillAndComplete :
    (∃ (s : State) (id : Nat) (n : Nat) (a : Nat) (j : Nat) (d : Desc) (buf : Bytes) (md : Bytes) (maps : List Bytes) (envs : Nat → List (Bytes × Bytes)) (used : Nat),
      envs = (fun used => (List.range n).map fun i => (s.progContent d.bytes md (slice buf (4096 * i) 4096) i ((used + i) % 14),
      slice buf (4096 * i) 4096)) ∧ s.ioRuns id 0x05 d ∧ n = field d.bytes 16 4 ∧ a = field d.bytes 8 8 ∧ j = field d.bytes 5 1 ∧
      s.sqLeaving d.sq = false ∧ (∀ r, s.rowFind j (addrBlock a) (addrPage a) = some r → r.mapAck = true ∧ used = r.filled.length) ∧
      (s.rowFind j (addrBlock a) (addrPage a) = none → used = 0) ∧
      (s.mapOn = false ∨ s.rowClash maps j (addrBlock a) = true ∨ s.rowSize j < used + n ∨ (List.range n).all (metaOk d.bytes md) = false)) ∧
    (∃ (s : State) (id : Nat) (n : Nat) (a : Nat) (j : Nat) (d : Desc) (buf : Bytes) (md : Bytes) (maps : List Bytes) (envs : Nat → List (Bytes × Bytes)) (st : Nat),
      envs = (fun used => (List.range n).map fun i => (s.progContent d.bytes md (slice buf (4096 * i) 4096) i ((used + i) % 14),
      slice buf (4096 * i) 4096)) ∧ s.ioRuns id 0x05 d ∧ n = field d.bytes 16 4 ∧ a = field d.bytes 8 8 ∧ j = field d.bytes 5 1 ∧
      s.sqLeaving d.sq = false ∧ s.mapOn = true ∧ s.rowClash maps j (addrBlock a) = false ∧
      (List.range n).all (metaOk d.bytes md) = true ∧ s.rowFind j (addrBlock a) (addrPage a) = none ∧ n ≤ s.rowSize j ∧
      d.late = some st) ∧
    (∃ (s : State) (id : Nat) (n : Nat) (a : Nat) (j : Nat) (d : Desc) (buf : Bytes) (md : Bytes) (maps : List Bytes) (envs : Nat → List (Bytes × Bytes)),
      envs = (fun used => (List.range n).map fun i => (s.progContent d.bytes md (slice buf (4096 * i) 4096) i ((used + i) % 14),
      slice buf (4096 * i) 4096)) ∧ s.ioRuns id 0x05 d ∧ n = field d.bytes 16 4 ∧ a = field d.bytes 8 8 ∧ j = field d.bytes 5 1 ∧
      s.sqLeaving d.sq = false ∧ s.mapOn = true ∧ s.rowClash maps j (addrBlock a) = false ∧
      (List.range n).all (metaOk d.bytes md) = true ∧ s.rowFind j (addrBlock a) (addrPage a) = none ∧ n ≤ s.rowSize j ∧ d.late = none) ∧
    (∃ (s : State) (id : Nat) (n : Nat) (a : Nat) (j : Nat) (d : Desc) (buf : Bytes) (md : Bytes) (maps : List Bytes) (envs : Nat → List (Bytes × Bytes)) (r : Row),
      envs = (fun used => (List.range n).map fun i => (s.progContent d.bytes md (slice buf (4096 * i) 4096) i ((used + i) % 14),
      slice buf (4096 * i) 4096)) ∧ s.ioRuns id 0x05 d ∧ n = field d.bytes 16 4 ∧ a = field d.bytes 8 8 ∧ j = field d.bytes 5 1 ∧
      s.sqLeaving d.sq = false ∧ s.mapOn = true ∧ s.rowClash maps j (addrBlock a) = false ∧
      (List.range n).all (metaOk d.bytes md) = true ∧ s.rowFind j (addrBlock a) (addrPage a) = some r ∧ r.mapAck = true ∧
      r.filled.length + n ≤ s.rowSize j ∧ d.late = none) ∧
    (∃ (s : State) (id : Nat) (n : Nat) (a : Nat) (j : Nat) (d : Desc) (buf : Bytes) (md : Bytes) (envs : Nat → List (Bytes × Bytes)) (r : Row),
      envs = (fun used => (List.range n).map fun i => (s.progContent d.bytes md (slice buf (4096 * i) 4096) i ((used + i) % 14),
      slice buf (4096 * i) 4096)) ∧ s.ioRuns id 0x05 d ∧ n = field d.bytes 16 4 ∧ a = field d.bytes 8 8 ∧ j = field d.bytes 5 1 ∧
      s.sqLeaving d.sq = false ∧ s.rowFind j (addrBlock a) (addrPage a) = some r ∧ r.mapAck = false) ∧
    (∃ (s : State) (id : Nat) (n : Nat) (a : Nat) (j : Nat) (d : Desc) (buf : Bytes) (md : Bytes) (envs : Nat → List (Bytes × Bytes)),
      envs = (fun used => (List.range n).map fun i => (s.progContent d.bytes md (slice buf (4096 * i) 4096) i ((used + i) % 14),
      slice buf (4096 * i) 4096)) ∧ s.ioRuns id 0x05 d ∧ n = field d.bytes 16 4 ∧ a = field d.bytes 8 8 ∧ j = field d.bytes 5 1 ∧
      s.sqLeaving d.sq = false ∧ s.rowFind j (addrBlock a) (addrPage a) = none ∧ s.mapOn = true) ∧
    (∃ (s : State) (id : Nat) (a : Nat) (j : Nat) (d : Desc) (maps : List Bytes), s.ioRuns id 0x08 d ∧ a = field d.bytes 8 8 ∧
      j = field d.bytes 5 1 ∧ s.mapOn = true ∧ s.rowClash maps j (addrBlock a) = false ∧
      s.rowFind j (addrBlock a) (addrPage a) = none) ∧
    (∃ (s : State) (id : Nat) (a : Nat) (j : Nat) (d : Desc) (maps : List Bytes) (r : Row), s.ioRuns id 0x08 d ∧
      a = field d.bytes 8 8 ∧ j = field d.bytes 5 1 ∧ s.mapOn = true ∧ s.rowClash maps j (addrBlock a) = false ∧
      s.rowFind j (addrBlock a) (addrPage a) = some r ∧ r.mapAck = true ∧ r.filled.length ≤ s.rowSize j) ∧
    (∃ (s : State) (id : Nat) (a : Nat) (j : Nat) (d : Desc) (maps : List Bytes), s.ioRuns id 0x08 d ∧ a = field d.bytes 8 8 ∧
      j = field d.bytes 5 1 ∧ s.rowFind j (addrBlock a) (addrPage a) = none ∧
      (s.mapOn = false ∨ s.rowClash maps j (addrBlock a) = true)) ∧
    (∃ (s : State) (id : Nat) (a : Nat) (j : Nat) (d : Desc), s.ioRuns id 0x08 d ∧ a = field d.bytes 8 8 ∧ j = field d.bytes 5 1 ∧
      s.rowFind j (addrBlock a) (addrPage a) = none ∧ s.mapOn = true) ∧
    (∃ (s : State) (row : Nat) (m : Nat) (k : Nat) (r : Row) (pages : List Nat), s.row? row = some r ∧ m < 16 ∧ m ∉ r.started ∧
      r.mapAck = true ∧ s.memberReady r m = true ∧ s.modeNow ≠ 10 ∧ k = (s.layout r.layout).getD m 0 ∧
      pages = (List.range (s.rowPlanes r.layout)).map (fun i => s.busAddr (mkAddr k (r.base + i) r.page 0)) ∧ s.memberGone k = none ∧
      pages.find? s.mustReerase = none) ∧
    (∃ (s : State) (row : Nat) (m : Nat) (k : Nat) (r : Row) (pages : List Nat) (p : Nat), s.row? row = some r ∧ m < 16 ∧
      m ∉ r.started ∧ r.mapAck = true ∧ s.memberReady r m = true ∧ s.modeNow ≠ 10 ∧ k = (s.layout r.layout).getD m 0 ∧
      pages = (List.range (s.rowPlanes r.layout)).map (fun i => s.busAddr (mkAddr k (r.base + i) r.page 0)) ∧ s.memberGone k = none ∧
      pages.find? s.mustReerase = some p) ∧
    (∃ (s : State) (row : Nat) (m : Nat) (k : Nat) (r : Row) (pages : List Nat) (st : Nat), s.row? row = some r ∧ m < 16 ∧
      m ∉ r.started ∧ r.mapAck = true ∧ s.memberReady r m = true ∧ s.modeNow ≠ 10 ∧ k = (s.layout r.layout).getD m 0 ∧
      pages = (List.range (s.rowPlanes r.layout)).map (fun i => s.busAddr (mkAddr k (r.base + i) r.page 0)) ∧
      s.memberGone k = some st ∧ (∀ e ∈ r.members, e.1 ≠ m)) ∧
    (∃ (s : State) (row : Nat) (r : Row), (∀ w ∈ r.waits, ∃ e, s.desc? w.1 = some e ∧ e.status = none ∧ e.bufferFault = false) ∧
      s.row? row = some r ∧ 16 ≤ r.members.length ∧ (r.waits.map Prod.fst).Nodup ∧ (∀ e ∈ r.members, e.2 = 0)) ∧
    (∃ (s : State) (row : Nat) (r : Row) (m : Nat) (st : Nat), (∀ w ∈ r.waits, ∃ e, s.desc? w.1 = some e ∧ e.status = none ∧
      e.bufferFault = false) ∧ (∀ i e, i < m → (r.members.find? (·.1 = i)) = some e → e.2 = 0) ∧ s.row? row = some r ∧
      16 ≤ r.members.length ∧ (r.waits.map Prod.fst).Nodup ∧ m < 16 ∧ (r.members.find? (·.1 = m)) = some (m, st) ∧ st ≠ 0) :=
  ⟨⟨withD (inMode 4) (dsc 1 5 [(10, 1), (16, 4)]), 5, 4, 65536, 0, dsc 1 5 [(10, 1), (16, 4)], [], [], [],
      envsOf (withD (inMode 4) (dsc 1 5 [(10, 1), (16, 4)])) (dsc 1 5 [(10, 1), (16, 4)]) [] [] 4, 0, (rfl),
      by (unfold State.ioRuns; decide +kernel)⟩,
   ⟨withD ((inMode 4).setF F.FI_SMAP_LO_EN 1) ({ dsc 1 5 [(10, 1), (16, 4)] with late := some 0x30 }), 5, 4, 65536, 0, { dsc 1 5 [(10, 1), (16, 4)] with late := some 0x30 },
      [], [], [], envsOf (withD ((inMode 4).setF F.FI_SMAP_LO_EN 1) ({ dsc 1 5 [(10, 1), (16, 4)] with late := some 0x30 })) ({ dsc 1 5 [(10, 1), (16, 4)] with late := some 0x30 }) [] [] 4,
      0x30, (rfl), by (unfold State.ioRuns; decide +kernel)⟩,
   ⟨withD ((inMode 4).setF F.FI_SMAP_LO_EN 1) (dsc 1 5 [(10, 1), (16, 112)]), 5, 112, 65536, 0, dsc 1 5 [(10, 1), (16, 112)], [], [],
      [], envsOf (withD ((inMode 4).setF F.FI_SMAP_LO_EN 1) (dsc 1 5 [(10, 1), (16, 112)])) (dsc 1 5 [(10, 1), (16, 112)]) [] [] 112,
      (rfl), by (unfold State.ioRuns; decide +kernel)⟩,
   ⟨withD { ((inMode 4).setF F.FI_SMAP_LO_EN 1) with seq := { ((inMode 4).setF F.FI_SMAP_LO_EN 1).seq with rows := [({ id := 3, layout := 0, base := 4, page := 0, opener := 5 } : Row)] } } (dsc 1 5 [(10, 1), (16, 4)]),
      5, 4, 65536, 0, dsc 1 5 [(10, 1), (16, 4)], [], [], [],
      envsOf (withD { ((inMode 4).setF F.FI_SMAP_LO_EN 1) with seq := { ((inMode 4).setF F.FI_SMAP_LO_EN 1).seq with rows := [({ id := 3, layout := 0, base := 4, page := 0, opener := 5 } : Row)] } } (dsc 1 5 [(10, 1), (16, 4)])) (dsc 1 5 [(10, 1), (16, 4)]) [] [] 4,
      ({ id := 3, layout := 0, base := 4, page := 0, opener := 5 } : Row), (rfl), by (unfold State.ioRuns; decide +kernel)⟩,
   ⟨withD { ((inMode 4).setF F.FI_SMAP_LO_EN 1) with seq := { ((inMode 4).setF F.FI_SMAP_LO_EN 1).seq with rows := [({ id := 3, layout := 0, base := 4, page := 0, opener := 5, mapAck := false } : Row)] } } (dsc 1 5 [(10, 1), (16, 4)]),
      5, 4, 65536, 0, dsc 1 5 [(10, 1), (16, 4)], [], [],
      envsOf (withD { ((inMode 4).setF F.FI_SMAP_LO_EN 1) with seq := { ((inMode 4).setF F.FI_SMAP_LO_EN 1).seq with rows := [({ id := 3, layout := 0, base := 4, page := 0, opener := 5, mapAck := false } : Row)] } } (dsc 1 5 [(10, 1), (16, 4)])) (dsc 1 5 [(10, 1), (16, 4)]) [] [] 4,
      ({ id := 3, layout := 0, base := 4, page := 0, opener := 5, mapAck := false } : Row), (rfl),
      by (unfold State.ioRuns; decide +kernel)⟩,
   ⟨withD ((inMode 4).setF F.FI_SMAP_LO_EN 1) (dsc 1 5 [(10, 1), (16, 4)]), 5, 4, 65536, 0, dsc 1 5 [(10, 1), (16, 4)], [], [],
      envsOf (withD ((inMode 4).setF F.FI_SMAP_LO_EN 1) (dsc 1 5 [(10, 1), (16, 4)])) (dsc 1 5 [(10, 1), (16, 4)]) [] [] 4, (rfl),
      by (unfold State.ioRuns; decide +kernel)⟩,
   ⟨withD ((inMode 4).setF F.FI_SMAP_LO_EN 1) (dsc 1 8 [(10, 1)]), 5, 65536, 0, dsc 1 8 [(10, 1)], [],
      by (unfold State.ioRuns; decide +kernel)⟩,
   ⟨withD { ((inMode 4).setF F.FI_SMAP_LO_EN 1) with seq := { ((inMode 4).setF F.FI_SMAP_LO_EN 1).seq with rows := [({ id := 3, layout := 0, base := 4, page := 0, opener := 5 } : Row)] } } (dsc 1 8 [(10, 1)]),
      5, 65536, 0, dsc 1 8 [(10, 1)], [], ({ id := 3, layout := 0, base := 4, page := 0, opener := 5 } : Row),
      by (unfold State.ioRuns; decide +kernel)⟩,
   ⟨withD (inMode 4) (dsc 1 8 [(10, 1)]), 5, 65536, 0, dsc 1 8 [(10, 1)], [], by (unfold State.ioRuns; decide +kernel)⟩,
   ⟨withD ((inMode 4).setF F.FI_SMAP_LO_EN 1) (dsc 1 8 [(10, 1)]), 5, 65536, 0, dsc 1 8 [(10, 1)],
      by (unfold State.ioRuns; decide +kernel)⟩,
   ⟨{ ((inMode 4).setF F.FI_SMAP_LO_EN 1) with seq := { ((inMode 4).setF F.FI_SMAP_LO_EN 1).seq with rows := [({ id := 3, layout := 0, base := 4, page := 0, opener := 5, filled := List.replicate 112 ([], []) } : Row)] } },
      3, 0, 0, ({ id := 3, layout := 0, base := 4, page := 0, opener := 5, filled := List.replicate 112 ([], []) } : Row),
      (List.range (({ ((inMode 4).setF F.FI_SMAP_LO_EN 1) with seq := { ((inMode 4).setF F.FI_SMAP_LO_EN 1).seq with rows := [({ id := 3, layout := 0, base := 4, page := 0, opener := 5, filled := List.replicate 112 ([], []) } : Row)] } }).rowPlanes 0)).map (fun i => ({ ((inMode 4).setF F.FI_SMAP_LO_EN 1) with seq := { ((inMode 4).setF F.FI_SMAP_LO_EN 1).seq with rows := [({ id := 3, layout := 0, base := 4, page := 0, opener := 5, filled := List.replicate 112 ([], []) } : Row)] } }).busAddr (mkAddr 0 (4 + i) 0 0)),
      by decide +kernel⟩,
   ⟨{ ((inMode 4).setF F.FI_SMAP_LO_EN 1) with seq := { ((inMode 4).setF F.FI_SMAP_LO_EN 1).seq with incomplete := [4], rows := [({ id := 3, layout := 0, base := 4, page := 0, opener := 5, filled := List.replicate 112 ([], []) } : Row)] } },
      3, 0, 0, ({ id := 3, layout := 0, base := 4, page := 0, opener := 5, filled := List.replicate 112 ([], []) } : Row),
      (List.range (({ ((inMode 4).setF F.FI_SMAP_LO_EN 1) with seq := { ((inMode 4).setF F.FI_SMAP_LO_EN 1).seq with incomplete := [4], rows := [({ id := 3, layout := 0, base := 4, page := 0, opener := 5, filled := List.replicate 112 ([], []) } : Row)] } }).rowPlanes 0)).map (fun i => ({ ((inMode 4).setF F.FI_SMAP_LO_EN 1) with seq := { ((inMode 4).setF F.FI_SMAP_LO_EN 1).seq with incomplete := [4], rows := [({ id := 3, layout := 0, base := 4, page := 0, opener := 5, filled := List.replicate 112 ([], []) } : Row)] } }).busAddr (mkAddr 0 (4 + i) 0 0)),
      65536, by decide +kernel⟩,
   ⟨({ ((inMode 4).setF F.FI_SMAP_LO_EN 1) with seq := { ((inMode 4).setF F.FI_SMAP_LO_EN 1).seq with rows := [({ id := 3, layout := 0, base := 4, page := 0, opener := 5, filled := List.replicate 112 ([], []) } : Row)] } } : State).setDieSt 15 8,
      3, 15, 15, ({ id := 3, layout := 0, base := 4, page := 0, opener := 5, filled := List.replicate 112 ([], []) } : Row),
      (List.range (({ ((inMode 4).setF F.FI_SMAP_LO_EN 1) with seq := { ((inMode 4).setF F.FI_SMAP_LO_EN 1).seq with rows := [({ id := 3, layout := 0, base := 4, page := 0, opener := 5, filled := List.replicate 112 ([], []) } : Row)] } }).rowPlanes 0)).map (fun i => ({ ((inMode 4).setF F.FI_SMAP_LO_EN 1) with seq := { ((inMode 4).setF F.FI_SMAP_LO_EN 1).seq with rows := [({ id := 3, layout := 0, base := 4, page := 0, opener := 5, filled := List.replicate 112 ([], []) } : Row)] } }).busAddr (mkAddr 15 (4 + i) 0 0)),
      St.dieRetired, by decide +kernel⟩,
   ⟨withD { ((inMode 4).setF F.FI_SMAP_LO_EN 1) with seq := { ((inMode 4).setF F.FI_SMAP_LO_EN 1).seq with rows := [({ id := 3, layout := 0, base := 4, page := 0, opener := 5, members := (List.range 16).map (·, 0), waits := [(5, 4)] } : Row)] } } (dsc 1 5 []),
      3, ({ id := 3, layout := 0, base := 4, page := 0, opener := 5, members := (List.range 16).map (·, 0), waits := [(5, 4)] } : Row),
      (by intro w h; simp at h; subst h; exact ⟨dsc 1 5 [], by decide +kernel⟩), by decide +kernel⟩,
   ⟨withD { ((inMode 4).setF F.FI_SMAP_LO_EN 1) with seq := { ((inMode 4).setF F.FI_SMAP_LO_EN 1).seq with rows := [({ id := 3, layout := 0, base := 4, page := 0, opener := 5, members := (List.range 16).map fun m => (m, if m = 15 then 0x02 else 0), waits := [(5, 4)] } : Row)] } } (dsc 1 5 []),
      3, ({ id := 3, layout := 0, base := 4, page := 0, opener := 5, members := (List.range 16).map fun m => (m, if m = 15 then 0x02 else 0), waits := [(5, 4)] } : Row),
      15, 0x02, (by intro w h; simp at h; subst h; exact ⟨dsc 1 5 [], by decide +kernel⟩),
      (by intro i e h he; exact (by decide +kernel : ∀ i < 15, (((List.range 16).map fun m => (m,
      if m = 15 then 2 else 0)).find? (·.1 = i)).all (fun e : Nat × Nat => e.2 = 0) = true) i h |> fun q => by rw [he] at q; simpa using q),
      by decide +kernel⟩⟩

/-- The hypotheses of each clause of `Obligations.RoutesDrainAndGoDown` are met. -/
theorem witness_RoutesDrainAndGoDown :
    (∃ (s : State) (r : Nat), r < 32 ∧ s.takes (R.RT_PHY_CTRL r) ∧ s.modeNow = 11 ∧ s.routeSt r = 2 ∧ (r < 2 → s.routeSt (1 - r) = 2) ∧
      (s.route r).drainDown = false) ∧
    (∃ (s : State) (r : Nat) (c : Instr) (cause : Nat), r < 32 ∧ s.routeSt r ≠ 0 ∧ s.getF F.IMG_STATUS_STATE ≠ 4 ∧
      ((c = .routeDrainEnd r ∧ cause = 1 ∧ s.routeSt r = 3 ∧ s.routeQuiet r = true ∧ (s.route r).retrain = false ∧
      (s.route r).drainDown = true) ∨ (c = .drainLimitExpiry r ∧ cause = 1 ∧ s.routeSt r = 3 ∧
      (s.route r).drainDown = true) ∨ (c = .vccqFault r ∧ cause = 5) ∨ (c = .vccqGoodTimeout r ∧ cause = 5 ∧ (s.route r).train = 1))) ∧
    (∃ (s : State) (r : Nat), r < 32 ∧ s.routeSt r = 3 ∧ s.routeQuiet r = true ∧ (s.route r).retrain = false ∧
      (s.route r).drainDown = false ∧ (s.route r).drainImage = true ∧ (∃ i, i ∈ s.img.draining ∧ i ≠ r ∧ (s.route i).drained = false ∧
      s.routeSt i ≠ 0)) ∧
    (∃ (s : State) (r : Nat), r < 32 ∧ s.routeSt r = 3 ∧ s.routeQuiet r = true ∧ (s.route r).retrain = false ∧
      (s.route r).drainDown = false ∧ (s.route r).drainImage = false ∧ (s.route r).drainRetrain = true) ∧
    (∃ (s : State) (r : Nat), s.routeSt r = 3 ∧ (s.route r).drainDown = false ∧ (s.route r).drainImage = true ∧
      (s.route r).drained = false ∧ s.getF F.IMG_STATUS_STATE = 4 ∧ (∀ i ∈ s.img.draining, i < 32)) ∧
    (∃ (s : State) (r : Nat), r < 32 ∧ s.routeSt r = 0) :=
  ⟨⟨inMode 11, 0, by (unfold State.takes; decide +kernel)⟩,
   ⟨(inMode 4).setF (F.RT_STATUS_STATE 31) 2, 31, .vccqFault 31, 5, by decide +kernel⟩,
   ⟨{ rt0 (inMode 4) 3 { drainImage := true } with img := { (inMode 4).img with draining := [0, 1] } }, 0, by decide +kernel⟩,
   ⟨rt0 (inMode 4) 3 { drainRetrain := true }, 0, by decide +kernel⟩,
   ⟨{ (rt0 (inMode 4) 3 { drainImage := true }).setF F.IMG_STATUS_STATE 4 with img := { (inMode 4).img with draining := [0, 1] } }, 0,
      by decide +kernel⟩,
   ⟨inMode 4, 31, by decide +kernel⟩⟩

/-- The hypotheses of each clause of `Obligations.RoutesAreTrained` are met. -/
theorem witness_RoutesAreTrained :
    (∃ (s : State) (id : Nat) (r : Nat) (d : Desc), s.adminRuns id 0x62 d ∧ r = field d.bytes 4 1 ∧ r < 32 ∧ s.routeSt r ≠ 0) ∧
    (∃ (s : State) (id : Nat) (r : Nat) (d : Desc), s.adminRuns id 0x62 d ∧ r = field d.bytes 4 1 ∧ r < 32 ∧ s.routeSt r = 0 ∧
      r < s.img.eff.length ∧ bit s.img.cfg.mask r = true) ∧
    (∃ (s : State) (id : Nat) (r : Nat) (d : Desc), s.adminRuns id 0x62 d ∧ r = field d.bytes 4 1 ∧ r < 32 ∧ s.routeSt r = 0 ∧
      r < s.img.eff.length ∧ bit s.img.cfg.mask r = false) ∧
    (∃ (s : State) (r : Nat), r < 32 ∧ s.routeSt r = 0 ∧ (s.route r).train = 0 ∧ s.sec.heldWrites = [] ∧ ((s.modeNow = 3 ∧
      s.routeOn r = true ∧ r ∉ s.seq.scanned) ∨ (s.modeNow = 11 ∧ (s.route r).reimage.isSome = true)) ∧
      s.getF (F.RT_PHY_STATUS_MOD_PRESENT r) = 1) ∧
    (∃ (s : State) (r : Nat), r < 32 ∧ s.routeSt r = 0 ∧ (s.route r).train = 0 ∧ s.sec.heldWrites = [] ∧ ((s.modeNow = 3 ∧
      s.routeOn r = true ∧ r ∉ s.seq.scanned) ∨ (s.modeNow = 11 ∧ (s.route r).reimage.isSome = true)) ∧
      s.getF (F.RT_PHY_STATUS_MOD_PRESENT r) = 0 ∧ (s.route r).reimage = none ∧ (s.route r).before = none) ∧
    (∃ (s : State) (r : Nat) (id : Nat) (e : Desc), r < 32 ∧ s.routeSt r = 0 ∧ (s.route r).train = 0 ∧ s.sec.heldWrites = [] ∧
      ((s.modeNow = 3 ∧ s.routeOn r = true ∧ r ∉ s.seq.scanned) ∨ (s.modeNow = 11 ∧ (s.route r).reimage.isSome = true)) ∧
      s.getF (F.RT_PHY_STATUS_MOD_PRESENT r) = 0 ∧ (s.route r).reimage = some id ∧ s.desc? id = some e ∧ e.status = none ∧
      e.bufferFault = false) ∧
    (∃ (s : State) (r : Nat) (n : Nat), r < 32 ∧ n = (s.route r).train ∧ [3, 4, 5, 6, 11].contains s.modeNow = true ∧ n = 1) ∧
    (∃ (s : State) (r : Nat) (n : Nat), r < 32 ∧ n = (s.route r).train ∧ [3, 4, 5, 6, 11].contains s.modeNow = true ∧ n = 2) ∧
    (∃ (s : State) (r : Nat) (n : Nat) (data : List Bytes) (proto : Nat), (∀ (i k : Nat),
      (s.routeDies r)[i]? = some k → i = 0 → field (data.getD i []) 0 1 = proto) ∧ (∃ (i k : Nat), (s.routeDies r)[i]? = some k ∧
      field (data.getD i []) 0 1 = proto ∧ s.pageFits k (data.getD i []) = true) ∧ r < 32 ∧ n = (s.route r).train ∧ [3, 4, 5, 6, 11].contains s.modeNow = true ∧
      n = 3 ∧ (s.route r).resetBad = [] ∧ (∀ k ∈ s.routeDies r, s.retired k = false) ∧ (proto = 1 ∨ proto = 2) ∧ s.routeDies r ≠ [] ∧
      s.seq.waiting = []) ∧
    (∃ (s : State) (r : Nat) (n : Nat) (data : List Bytes) (proto : Nat), (∀ (i k : Nat),
      (s.routeDies r)[i]? = some k → i = 0 → field (data.getD i []) 0 1 = proto) ∧ (∀ (i k : Nat),
      (s.routeDies r)[i]? = some k → s.pageFits k (data.getD i []) = false) ∧ r < 32 ∧ n = (s.route r).train ∧ [3, 4, 5, 6, 11].contains s.modeNow = true ∧
      n = 3 ∧ (s.route r).resetBad = [] ∧ (∀ k ∈ s.routeDies r, s.retired k = false) ∧ (proto = 1 ∨ proto = 2) ∧ s.routeDies r ≠ [] ∧
      s.seq.waiting = [] ∧ s.routeSt r ≠ 0) ∧
    (∃ (s : State) (r : Nat) (n : Nat), r < 32 ∧ n = (s.route r).train ∧ [3, 4, 5, 6, 11].contains s.modeNow = true ∧ n = 4) ∧
    (∃ (s : State) (r : Nat) (n : Nat), r < 32 ∧ n = (s.route r).train ∧ [3, 4, 5, 6, 11].contains s.modeNow = true ∧ n ∈ [5, 6, 16, 26]) ∧
    (∃ (s : State) (r : Nat) (n : Nat) (data : List Bytes), r < 32 ∧ n = (s.route r).train ∧ [3, 4, 5, 6, 11].contains s.modeNow = true ∧
      n ∈ [7, 17, 27] ∧ (s.route r).minEye ≤ 255 ∧ s.routeSt r ≠ 0 ∧ (∀ c ∈ s.goodCes r, ∀ l,
      l < 9 → (s.route r).minEye ≤ field (data.getD c []) l 1)) ∧
    (∃ (s : State) (r : Nat) (n : Nat), r < 32 ∧ n = (s.route r).train ∧ [3, 4, 5, 6, 11].contains s.modeNow = true ∧ n ∈ [8, 18, 28]) ∧
    (∃ (s : State) (r : Nat) (n : Nat), r < 32 ∧ n = (s.route r).train ∧ [3, 4, 5, 6, 11].contains s.modeNow = true ∧ n = 9 ∧
      s.getF (F.RT_XRATE_FA r) = 0) ∧
    (∃ (s : State) (r : Nat) (n : Nat) (data : List Bytes), r < 32 ∧ n = (s.route r).train ∧ [3, 4, 5, 6, 11].contains s.modeNow = true ∧
      n = 9 ∧ s.getF (F.RT_XRATE_FA r) ≠ 0 ∧ (∀ c ∈ s.goodCes r, field (data.getD c []) 0 1 = s.getF (F.RT_XRATE_VALUE r))) ∧
    (∃ (s : State) (r : Nat) (n : Nat), r < 32 ∧ n = (s.route r).train ∧ [3, 4, 5, 6, 11].contains s.modeNow = true ∧ n ∉ [0, 10, 12, 13] ∧
      s.routeSt r ≠ 0 ∧ s.getF F.IMG_STATUS_STATE ≠ 4) ∧
    (∃ (s : State) (r : Nat) (n : Nat) (data : List Bytes), r < 32 ∧ n = (s.route r).train ∧ [3, 4, 5, 6, 11].contains s.modeNow = true ∧
      n = 10 ∧ s.routeSt r ≠ 0 ∧ (∀ l ∈ s.lanesInUse r, (s.route r).minEye ≤ field (data.headD []) l 1) ∧ (s.route r).retrain = false) ∧
    (∃ (s : State) (r : Nat) (n : Nat) (data : List Bytes), r < 32 ∧ n = (s.route r).train ∧ [3, 4, 5, 6, 11].contains s.modeNow = true ∧
      n = 10 ∧ s.routeSt r ≠ 0 ∧ (∀ l ∈ s.lanesInUse r, (s.route r).minEye ≤ field (data.headD []) l 1) ∧ (s.route r).retrain = true ∧
      (s.route r).recal = none) ∧
    (∃ (s : State) (r : Nat) (n : Nat) (data : List Bytes) (ok : Bool), r < 32 ∧ n = (s.route r).train ∧ [3, 4, 5, 6, 11].contains s.modeNow = true ∧
      n = 10 ∧ 3600 < s.getF (F.RT_PHY_STATUS_RATE r) ∧ (ok = false ∨ (∃ l ∈ s.lanesInUse r,
      field (data.headD []) l 1 < (s.route r).minEye))) ∧
    (∃ (s : State) (r : Nat) (n : Nat) (data : List Bytes) (id : Nat) (e : Desc), r < 32 ∧ n = (s.route r).train ∧ [3, 4, 5, 6, 11].contains s.modeNow = true ∧
      n = 12 ∧ s.tempsIn r = true ∧ (∀ k ∈ s.serviceDies r, (s.die k).ledger.lost = false ∧
      s.scanErased data k ((s.geo k).blocks - 1) 0 = true ∧ s.scanErased data k ((s.geo k).blocks - 2) 0 = true) ∧
      (s.route r).reimage = some id ∧ s.desc? id = some e ∧ e.status = none ∧ e.bufferFault = false) ∧
    (∃ (s : State) (r : Nat) (n : Nat) (data : List Bytes), r < 32 ∧ n = (s.route r).train ∧ [3, 4, 5, 6, 11].contains s.modeNow = true ∧
      n = 12 ∧ s.tempsIn r = true ∧ (∀ k ∈ s.serviceDies r, (s.die k).ledger.lost = false ∧
      s.scanErased data k ((s.geo k).blocks - 1) 0 = true ∧ s.scanErased data k ((s.geo k).blocks - 2) 0 = true) ∧
      (s.route r).reimage = none) ∧
    (∃ (s : State) (r : Nat) (n : Nat) (data : List Bytes) (k : Nat) (e : Bytes) (nx : Nat) (l : List Nat) (m : List Nat), r < 32 ∧
      n = (s.route r).train ∧ [3, 4, 5, 6, 11].contains s.modeNow = true ∧ n = 12 ∧ s.modeNow = 3 ∧ s.tempsIn r = true ∧
      s.serviceDies r = [k] ∧ (s.route r).reimage = none ∧ (s.die k).ledger.lost = false ∧
      ledgerState (s.scanErased data k ((s.geo k).blocks - 1)) (s.scanEntry data k ((s.geo k).blocks - 1)) (s.geo k).pages = (some (some (e,
      nx)), l) ∧
      ledgerState (s.scanErased data k ((s.geo k).blocks - 2)) (s.scanEntry data k ((s.geo k).blocks - 2)) (s.geo k).pages = (some none,
      m) ∧ field e 4 1 = 1 ∧ s.seq.incomplete.length ≤ 1020) ∧
    (∃ (s : State) (r : Nat) (n : Nat) (data : List Bytes) (k : Nat) (l : List Nat), r < 32 ∧ n = (s.route r).train ∧ [3, 4, 5, 6, 11].contains s.modeNow = true ∧
      n = 12 ∧ s.modeNow = 3 ∧ s.tempsIn r = true ∧ s.serviceDies r = [k] ∧ (s.route r).reimage = none ∧
      ledgerState (s.scanErased data k ((s.geo k).blocks - 1)) (s.scanEntry data k ((s.geo k).blocks - 1)) (s.geo k).pages = (none,
      l) ∧ s.seq.incomplete.length + (s.greyBlocks k data).length ≤ 1024) ∧
    (∃ (s : State) (r : Nat) (n : Nat), r < 32 ∧ n = (s.route r).train ∧ [3, 4, 5, 6, 11].contains s.modeNow = true ∧ n = 13 ∧
      s.modeNow = 3 ∧ s.allScanned = true ∧ s.diesIdle r = true ∧ (∀ x ∈ s.seq.incomplete, x / 65536 / 16 ≠ r)) :=
  ⟨⟨adm (inMode 11) 0x62 [(4, 1)], 5, 1, dsc 0 0x62 [(4, 1)], by (unfold State.adminRuns; decide +kernel)⟩,
   ⟨adm (rt0 (inMode 11) 0 {}) 0x62 [], 5, 0, dsc 0 0x62 [], by (unfold State.adminRuns; decide +kernel)⟩,
   ⟨adm (rt0 { inMode 11 with img := { (inMode 11).img with cfg := { cfg0 with mask := 2 } } } 0 {}) 0x62 [], 5, 0, dsc 0 0x62 [],
      by (unfold State.adminRuns; decide +kernel)⟩,
   ⟨(rt0 (inMode 3) 0 {}).setF (F.RT_PHY_STATUS_MOD_PRESENT 0) 1, 0, by decide +kernel⟩,
   ⟨(rt0 (inMode 3) 0 {}).setF (F.RT_PHY_STATUS_MOD_PRESENT 0) 0, 0, by decide +kernel⟩,
   ⟨(adm (rt0 (inMode 11) 0 { reimage := some 5 }) 0x62 []).setF (F.RT_PHY_STATUS_MOD_PRESENT 0) 0, 0, 5, dsc 0 0x62 [], by decide +kernel⟩,
   ⟨rt0 ({ inMode 3 with img := { (inMode 3).img with eff := [{ dies := 1, rate := 3600, relief := 2 }] } }) 1 { train := 1 }, 0, 1,
      by decide +kernel⟩,
   ⟨rt0 ({ inMode 3 with img := { (inMode 3).img with eff := [{ dies := 1, rate := 3600, relief := 2 }] } }) 1 { train := 2 }, 0, 2,
      by decide +kernel⟩,
   ⟨rt0 ({ inMode 3 with img := { (inMode 3).img with eff := [{ dies := 1, rate := 3600, relief := 2 }] } }) 1 { train := 3 }, 0, 3,
      [[1] ++ leBytes 4 1024 ++ [64, 0] ++ leBytes 4 18432 ++ [2]], 1,
      (by intro i k h e; rw [show State.routeDies _ 0 = [0] by decide +kernel] at h; subst e; decide +kernel), (⟨0, 0,
      by decide +kernel⟩), by decide +kernel⟩,
   ⟨rt0 ({ inMode 3 with img := { (inMode 3).img with eff := [{ dies := 1, rate := 3600, relief := 2 }] } }) 1 { train := 3 }, 0, 3,
      [[1] ++ leBytes 4 1023 ++ [64, 0] ++ leBytes 4 18432 ++ [2]], 1,
      (by intro i k h e; rw [show State.routeDies _ 0 = [0] by decide +kernel] at h; subst e; decide +kernel),
      (by intro i k h; rw [show State.routeDies _ 0 = [0] by decide +kernel] at h; cases i with | zero => cases h; decide +kernel | succ n => simp at h),
      by decide +kernel⟩,
   ⟨rt0 ({ inMode 3 with img := { (inMode 3).img with eff := [{ dies := 1, rate := 3600, relief := 2 }] } }) 1 { train := 4 }, 0, 4,
      by decide +kernel⟩,
   ⟨rt0 ({ inMode 3 with img := { (inMode 3).img with eff := [{ dies := 1, rate := 3600, relief := 2 }] } }) 1 { train := 26 }, 0, 26,
      by decide +kernel⟩,
   ⟨rt0 ({ inMode 3 with img := { (inMode 3).img with eff := [{ dies := 1, rate := 3600, relief := 2 }] } }) 1 { train := 27 }, 0, 27,
      List.replicate 4 (List.replicate 9 16), by decide +kernel⟩,
   ⟨rt0 ({ inMode 3 with img := { (inMode 3).img with eff := [{ dies := 1, rate := 3600, relief := 2 }] } }) 1 { train := 28 }, 0, 28,
      by decide +kernel⟩,
   ⟨rt0 ({ inMode 3 with img := { (inMode 3).img with eff := [{ dies := 1, rate := 3600, relief := 2 }] } }) 1 { train := 9 }, 0, 9,
      by decide +kernel⟩,
   ⟨(rt0 ({ inMode 3 with img := { (inMode 3).img with eff := [{ dies := 1, rate := 3600, relief := 2 }] } }) 1 { train := 9 }).setF (F.RT_XRATE_FA 0) 0x60 |>.setF (F.RT_XRATE_VALUE 0) 0x40,
      0, 9, [[0x40]], by decide +kernel⟩,
   ⟨rt0 ({ inMode 3 with img := { (inMode 3).img with eff := [{ dies := 1, rate := 3600, relief := 2 }] } }) 1 { train := 28 }, 0, 28,
      by decide +kernel⟩,
   ⟨rt0 ({ inMode 3 with img := { (inMode 3).img with eff := [{ dies := 1, rate := 3600, relief := 2 }] } }) 1 { train := 10 }, 0, 10,
      [List.replicate 9 16], by decide +kernel⟩,
   ⟨rt0 ({ inMode 4 with img := { (inMode 3).img with eff := [{ dies := 1, rate := 3600, relief := 2 }] } }) 3 { train := 10, retrain := true },
      0, 10, [List.replicate 9 16], by decide +kernel⟩,
   ⟨(rt0 ({ inMode 3 with img := { (inMode 3).img with eff := [{ dies := 1, rate := 3600, relief := 2 }] } }) 1 { train := 10 }).setF (F.RT_PHY_STATUS_RATE 0) 4800,
      0, 10, [], false, by decide +kernel⟩,
   ⟨(adm (rt0 ({ inMode 11 with img := { (inMode 3).img with eff := [{ dies := 1, rate := 3600, relief := 2 }] } }) 2 { train := 12, reimage := some 5 }) 0x62 []).setDie 0 { temp := some 25 },
      0, 12, [], 5, dsc 0 0x62 [], by decide +kernel⟩,
   ⟨(rt0 ({ inMode 3 with img := { (inMode 3).img with eff := [{ dies := 1, rate := 3600, relief := 2 }] } }) 2 { train := 12 }).setDie 0 { temp := some 25 },
      0, 12, [], by decide +kernel⟩,
   ⟨((rt0 ({ inMode 3 with img := { (inMode 3).img with cfg := { cfg0 with geos := [{ blocks := 8, pages := 4, planes := 1 }] }, eff := [{ dies := 1, rate := 3600, relief := 2 }] } }) 2 { train := 12 }).setDie 0 { temp := some 25 }).setF F.RC_ENV_X_PILOT_CHECK_OFF 1,
      0, 12, [[0, 7, 0, 0, 0, 255] ++ [0xB3, 0x4E, 0x3C] ++ List.replicate 18429 0, [0, 7, 0, 0, 0, 0] ++ ledgerWord], 0, ledgerEntry,
      1, [0, 2, 1], [0], by decide +kernel⟩,
   ⟨(rt0 ({ inMode 3 with img := { (inMode 3).img with cfg := { cfg0 with geos := [{ blocks := 8, pages := 4, planes := 1 }] }, eff := [{ dies := 1, rate := 3600, relief := 2 }] } }) 2 { train := 12 }).setDie 0 { temp := some 25 },
      0, 12, [[0, 7, 0, 0, 0, 255] ++ List.replicate 18432 0], 0, [0, 2, 1], by decide +kernel⟩,
   ⟨(rt0 ({ inMode 3 with img := { (inMode 3).img with eff := [{ dies := 1, rate := 3600, relief := 2 }] }, seq := { scanned := [1] } }) 2 { train := 13 }).setDie 0 { temp := some 25 },
      0, 13, by decide +kernel⟩⟩

/-- The hypotheses of each clause of `Obligations.RoutesAreRecalibrated` are met. -/
theorem witness_RoutesAreRecalibrated :
    (∃ (s : State) (r : Nat) (c : Instr), r < 32 ∧ ((c = .recalNow r ∧ s.takes (R.RT_PHY_CTRL r)) ∨ c = .recalPeriodExpiry r) ∧
      s.routeUp r = true ∧ (s.route r).recal = none ∧ s.getF (F.RT_LANE_STATE r 0) ≠ 2) ∧
    (∃ (s : State) (r : Nat) (k : Nat) (eye : Nat) (c : Recal), r < 32 ∧ k < 8 ∧ (s.route r).recal = some c ∧ c.lane = k ∧
      s.recalRuns r = true ∧ s.busGap r = true ∧ c.phase = 1 ∧ c.minEye ≤ eye) ∧
    (∃ (s : State) (r : Nat) (k : Nat) (eye : Nat) (c : Recal), r < 32 ∧ k < 8 ∧ (s.route r).recal = some c ∧ c.lane = k ∧
      s.recalRuns r = true ∧ s.busGap r = true ∧ c.phase = 1 ∧ eye < c.minEye ∧ 1 ≤ s.getF (F.RT_LANE_FAILS r 8)) ∧
    (∃ (s : State) (r : Nat) (k : Nat) (eye : Nat) (c : Recal), r < 32 ∧ k < 8 ∧ (s.route r).recal = some c ∧ c.lane = k ∧
      s.recalRuns r = true ∧ s.busGap r = true ∧ c.phase = 2 ∧ c.minEye ≤ eye ∧ k = 7) ∧
    (∃ (s : State) (r : Nat) (k : Nat) (eye : Nat) (c : Recal), r < 32 ∧ k < 8 ∧ (s.route r).recal = some c ∧ c.lane = k ∧
      s.recalRuns r = true ∧ s.busGap r = true ∧ c.phase = 2 ∧ eye < c.minEye ∧ 1 ≤ s.getF (F.RT_LANE_FAILS r k) ∧
      (s.routeCfg r).relief = 2 ∧ s.reliefFree r = true) ∧
    (∃ (s : State) (r : Nat) (k : Nat) (eye : Nat) (c : Recal), r < 32 ∧ k < 8 ∧ (s.route r).recal = some c ∧ c.lane = k ∧
      s.recalRuns r = true ∧ s.busGap r = true ∧ c.phase = 2 ∧ eye < c.minEye ∧ 1 ≤ s.getF (F.RT_LANE_FAILS r k) ∧
      ((s.routeCfg r).relief ≠ 2 ∨ s.reliefFree r = false) ∧ s.getF F.IMG_STATUS_STATE ≠ 4) ∧
    (∃ (s : State) (r : Nat) (k : Nat) (c : Recal), (s.route r).recal = some c ∧ (c.phase = 1 ∨ c.phase = 2) ∧ s.recalRuns r = true ∧
      s.busGap r = true ∧ s.burstFree r = true ∧ s.burstDie r = some k) ∧
    (∃ (s : State) (r : Nat) (errors : Nat) (n : Nat), r < 32 ∧ s.routeUp r = true ∧ (s.route r).retrain = false ∧
      (s.route r).drainRetrain = false ∧ n = min 65535 (s.getF (F.RT_TRAIN_ERR_COUNT r) + errors) ∧ (s.route r).burst = true) ∧
    (∃ (s : State) (r : Nat) (errors : Nat) (n : Nat) (done : Bool) (c : Recal), r < 32 ∧ s.routeUp r = true ∧
      (s.route r).retrain = false ∧ (s.route r).drainRetrain = false ∧ n = min 65535 (s.getF (F.RT_TRAIN_ERR_COUNT r) + errors) ∧
      (s.route r).recal = some c ∧ (s.route r).burst = false ∧ c.phase = 3 ∧ s.recalRuns r = true ∧ s.burstFree r = true ∧
      done = false) ∧
    (∃ (s : State) (r : Nat) (errors : Nat) (eye : Nat) (n : Nat) (done : Bool) (c : Recal), r < 32 ∧ s.routeUp r = true ∧
      (s.route r).retrain = false ∧ (s.route r).drainRetrain = false ∧ n = min 65535 (s.getF (F.RT_TRAIN_ERR_COUNT r) + errors) ∧
      (s.route r).recal = some c ∧ (s.route r).burst = false ∧ c.phase = 3 ∧ s.recalRuns r = true ∧ s.burstFree r = true ∧
      done = true ∧ c.lane = 7 ∧ c.minEye ≤ eye) ∧
    (∃ (s : State) (r : Nat) (n : Nat), r < 32 ∧ s.routeUp r = true ∧ (s.route r).retrain = false ∧ (s.route r).drainRetrain = false ∧
      n = s.getF (F.RT_TRAIN_ERR_COUNT r)) :=
  ⟨⟨inMode 4, 1, .recalNow 1, by (unfold State.takes; decide +kernel)⟩,
   ⟨rt0 (inMode 4) 2 { recal := some { lane := 7, phase := 1 } }, 0, 7, 48, { lane := 7, phase := 1 }, by decide +kernel⟩,
   ⟨(rt0 (inMode 4) 2 { recal := some { lane := 7, phase := 1 } }).setF (F.RT_LANE_FAILS 0 8) 1, 0, 7, 0, { lane := 7, phase := 1 },
      by decide +kernel⟩,
   ⟨rt0 (inMode 4) 2 { recal := some { lane := 7, phase := 2 } }, 0, 7, 48, { lane := 7, phase := 2 }, by decide +kernel⟩,
   ⟨((rt0 (inMode 4) 2 { recal := some { lane := 7, phase := 2 } }).setF (F.RT_LANE_FAILS 0 7) 1).setF (F.RT_LANE_STATE 0 8) 3, 0, 7,
      0, { lane := 7, phase := 2 }, by decide +kernel⟩,
   ⟨((rt0 (inMode 4) 2 { recal := some { lane := 7, phase := 2 } }).setF (F.RT_LANE_FAILS 0 7) 1).setF (F.RT_LANE_STATE 0 8) 1, 0, 7,
      0, { lane := 7, phase := 2 }, by decide +kernel⟩,
   ⟨rt0 (inMode 4) 2 { recal := some { lane := 0, phase := 2 } }, 0, 0, { lane := 0, phase := 2 }, by decide +kernel⟩,
   ⟨rt0 (inMode 4) 2 { recal := some { lane := 0, phase := 3 }, burst := true }, 0, 65536, 65535, by decide +kernel⟩,
   ⟨rt0 (inMode 4) 2 { recal := some { lane := 0, phase := 3 } }, 0, 1, 1, false, { lane := 0, phase := 3 }, by decide +kernel⟩,
   ⟨rt0 (inMode 4) 2 { recal := some { lane := 7, phase := 3 } }, 0, 1, 48, 1, true, { lane := 7, phase := 3 }, by decide +kernel⟩,
   ⟨inMode 4, 0, 0, by decide +kernel⟩⟩

/-- The hypotheses of each clause of `Obligations.EnvelopesAreReceived` are met. -/
theorem witness_EnvelopesAreReceived :
    (∃ (s : State) (job : Nat) (id : Nat) (i : Nat) (lead : Nat) (skip : Nat) (k : Nat) (data : Bytes) (buf : Bytes) (j : Job) (o : DieOp) (e : Desc),
      buf = carried (s.die k).runBytes skip data ∧ s.job? job = some j ∧ k = s.jobDie j ∧ (s.die k).moving = some job ∧
      (s.die k).want = none ∧ (s.die k).op = some o ∧ o.base = none ∧ s.routeUp (k / 16) = true ∧ s.pipeRuns = true ∧
      j.header = false ∧ j.step = 0 ∧ j.dest = .desc id i ∧ s.desc? id = some e ∧ e.status = none ∧ e.bufferFault = false ∧
      i < e.results.length ∧ lead = 4608 * (addrEnv j.addr - (s.die k).runAt) ∧
      envErased (s.die k).envCtrl (slice buf lead 4608) = true) ∧
    (∃ (s : State) (job : Nat) (id : Nat) (i : Nat) (lead : Nat) (skip : Nat) (k : Nat) (data : Bytes) (buf : Bytes) (j : Job) (o : DieOp) (e : Desc) (p : Nat),
      buf = carried (s.die k).runBytes skip data ∧ s.job? job = some j ∧ k = s.jobDie j ∧ (s.die k).moving = some job ∧
      (s.die k).want = none ∧ (s.die k).op = some o ∧ o.base = none ∧ s.routeUp (k / 16) = true ∧ s.pipeRuns = true ∧
      j.header = false ∧ j.step = 0 ∧ j.dest = .desc id i ∧ s.desc? id = some e ∧ e.status = none ∧ e.bufferFault = false ∧
      i < e.results.length ∧ lead = 4608 * (addrEnv j.addr - (s.die k).runAt) ∧
      envErased (s.die k).envCtrl (slice buf lead 4608) = false ∧ alignAt (s.die k).envX j.addr buf lead = some p ∧
      misdelivered (s.die k).envX j.addr (gatherPilots (leNat (slice buf p 4608))) = false) ∧
    (∃ (s : State) (job : Nat) (id : Nat) (i : Nat) (lead : Nat) (skip : Nat) (k : Nat) (data : Bytes) (buf : Bytes) (j : Job) (o : DieOp) (e : Desc) (p : Nat),
      buf = carried (s.die k).runBytes skip data ∧ s.job? job = some j ∧ k = s.jobDie j ∧ (s.die k).moving = some job ∧
      (s.die k).want = none ∧ (s.die k).op = some o ∧ o.base = none ∧ s.routeUp (k / 16) = true ∧ s.pipeRuns = true ∧
      j.header = false ∧ j.step = 0 ∧ j.dest = .desc id i ∧ s.desc? id = some e ∧ e.status = none ∧ e.bufferFault = false ∧
      i < e.results.length ∧ lead = 4608 * (addrEnv j.addr - (s.die k).runAt) ∧
      envErased (s.die k).envCtrl (slice buf lead 4608) = false ∧ alignAt (s.die k).envX j.addr buf lead = some p ∧
      misdelivered (s.die k).envX j.addr (gatherPilots (leNat (slice buf p 4608))) = true) ∧
    (∃ (s : State) (job : Nat) (id : Nat) (i : Nat) (lead : Nat) (skip : Nat) (k : Nat) (data : Bytes) (buf : Bytes) (j : Job) (o : DieOp) (e : Desc),
      buf = carried (s.die k).runBytes skip data ∧ s.job? job = some j ∧ k = s.jobDie j ∧ (s.die k).moving = some job ∧
      (s.die k).want = none ∧ (s.die k).op = some o ∧ o.base = none ∧ s.routeUp (k / 16) = true ∧ s.pipeRuns = true ∧
      j.header = false ∧ j.step = 0 ∧ j.dest = .desc id i ∧ s.desc? id = some e ∧ e.status = none ∧ e.bufferFault = false ∧
      i < e.results.length ∧ lead = 4608 * (addrEnv j.addr - (s.die k).runAt) ∧
      envErased (s.die k).envCtrl (slice buf lead 4608) = false ∧ alignAt (s.die k).envX j.addr buf lead = none ∧ j.tries < 2) ∧
    (∃ (s : State) (job : Nat) (id : Nat) (i : Nat) (lead : Nat) (skip : Nat) (k : Nat) (data : Bytes) (buf : Bytes) (j : Job) (o : DieOp) (e : Desc),
      buf = carried (s.die k).runBytes skip data ∧ s.job? job = some j ∧ k = s.jobDie j ∧ (s.die k).moving = some job ∧
      (s.die k).want = none ∧ (s.die k).op = some o ∧ o.base = none ∧ s.routeUp (k / 16) = true ∧ s.pipeRuns = true ∧
      j.header = false ∧ j.step = 0 ∧ j.dest = .desc id i ∧ s.desc? id = some e ∧ e.status = none ∧ e.bufferFault = false ∧
      i < e.results.length ∧ lead = 4608 * (addrEnv j.addr - (s.die k).runAt) ∧
      envErased (s.die k).envCtrl (slice buf lead 4608) = false ∧ alignAt (s.die k).envX j.addr buf lead = none ∧ 2 ≤ j.tries) ∧
    (∃ (s : State) (job : Nat) (id : Nat) (k : Nat) (j : Job) (e : Desc), s.job? job = some j ∧ k = s.jobDie j ∧
      (s.die k).moving = some job ∧ (s.die k).want = none ∧ s.routeUp (k / 16) = true ∧ s.pipeRuns = true ∧ j.header = false ∧
      j.dest = .raw id ∧ s.desc? id = some e ∧ e.status = none ∧ e.bufferFault = false ∧ s.getF F.PWR_DRAM_SR = 0) ∧
    (∃ (s : State) (job : Nat) (id : Nat) (i : Nat) (k : Nat) (data : Bytes) (j : Job) (e : Desc) (code : Nat) (content : Bytes),
      s.job? job = some j ∧ k = s.jobDie j ∧ (s.die k).moving = some job ∧ (s.die k).want = none ∧ s.routeUp (k / 16) = true ∧
      s.pipeRuns = true ∧ j.header = true ∧ j.hdrDone = false ∧ j.dest = .desc id i ∧ s.desc? id = some e ∧ e.status = none ∧
      e.bufferFault = false ∧ i < e.results.length ∧ headerCode (s.die k).envCtrl j.addr data = (code, content) ∧
      (code ≠ 3 ∨ bit (field e.bytes 4 1) 0 = false)) ∧
    (∃ (s : State) (job : Nat) (id : Nat) (i : Nat) (k : Nat) (data : Bytes) (j : Job) (e : Desc), s.job? job = some j ∧
      k = s.jobDie j ∧ (s.die k).moving = some job ∧ (s.die k).want = none ∧ s.routeUp (k / 16) = true ∧ s.pipeRuns = true ∧
      j.header = true ∧ j.hdrDone = false ∧ j.dest = .desc id i ∧ s.desc? id = some e ∧ e.status = none ∧ e.bufferFault = false ∧
      i < e.results.length ∧ (headerCode (s.die k).envCtrl j.addr data).1 = 3 ∧ bit (field e.bytes 4 1) 0 = true) :=
  ⟨⟨(die0 (withJ (inMode 4) [{ job7 with phase := .inDie }]) 4 { op := some (opn 1), moving := some 7, runLen := 1 }), 7, 5, 0, 0, 0,
      0, List.replicate 4610 0xFF, List.replicate 4610 0xFF, { job7 with phase := .inDie }, opn 1,
      { dsc 1 1 [] with results := [none] }, ((carried_self _ _ (by simp only [List.length_replicate]; decide +kernel)).symm),
      by decide +kernel⟩,
   ⟨(die0 (withJ (inMode 4) [{ job7 with phase := .inDie }]) 4 { op := some (opn 1), moving := some 7, runLen := 1, envX := 2 ^ F.RC_ENV_X_PILOT_CHECK_OFF.lo }),
      7, 5, 0, 0, 0, 0, [0xB3, 0x4E, 0x3C] ++ List.replicate 4607 0, [0xB3, 0x4E, 0x3C] ++ List.replicate 4607 0,
      { job7 with phase := .inDie }, opn 1, { dsc 1 1 [] with results := [none] }, 0,
      ((carried_self _ _ (by simp only [List.length_append, List.length_replicate]; decide +kernel)).symm), by decide +kernel⟩,
   ⟨(die0 (withJ (inMode 4) [{ job7 with phase := .inDie }]) 4 { op := some (opn 1), moving := some 7, runLen := 1 }), 7, 5, 0, 0, 0,
      0, [0xB3, 0x4E, 0x3C] ++ List.replicate 4607 0, [0xB3, 0x4E, 0x3C] ++ List.replicate 4607 0, { job7 with phase := .inDie },
      opn 1, { dsc 1 1 [] with results := [none] }, 0, ((carried_self _ _ (by simp only [List.length_append, List.length_replicate]; decide +kernel)).symm),
      by decide +kernel⟩,
   ⟨(die0 (withJ (inMode 4) [{ job7 with phase := .inDie }]) 4 { op := some (opn 1), moving := some 7, runLen := 1 }), 7, 5, 0, 0, 0,
      0, List.replicate 4610 0, List.replicate 4610 0, { job7 with phase := .inDie }, opn 1, { dsc 1 1 [] with results := [none] },
      ((carried_self _ _ (by simp only [List.length_replicate]; decide +kernel)).symm), by decide +kernel⟩,
   ⟨(die0 (withJ (inMode 4) [{ job7 with phase := .inDie, tries := 2 }]) 4 { op := some (opn 1), moving := some 7, runLen := 1 }), 7,
      5, 0, 0, 0, 0, List.replicate 4610 0, List.replicate 4610 0, { job7 with phase := .inDie, tries := 2 }, opn 1,
      { dsc 1 1 [] with results := [none] }, ((carried_self _ _ (by simp only [List.length_replicate]; decide +kernel)).symm),
      by decide +kernel⟩,
   ⟨(die0 (withJ (inMode 4) [{ job7 with dest := .raw 5, phase := .inDie }]) 4 { op := some (opn 1), moving := some 7, runLen := 1 }),
      7, 5, 0, { job7 with dest := .raw 5, phase := .inDie }, { dsc 1 1 [] with results := [none] }, by decide +kernel⟩,
   ⟨(die0 (withJ (inMode 4) [{ job7 with phase := .inDie, header := true }]) 4 { op := some (opn 1), moving := some 7, runLen := 1 }),
      7, 5, 0, 0, List.replicate 40 0xFF, { job7 with phase := .inDie, header := true }, { dsc 1 1 [] with results := [none] }, 2,
      ([] : Bytes), by decide +kernel⟩,
   ⟨{ (die0 (withJ (inMode 4) [{ job7 with phase := .inDie, header := true }]) 4 { op := some (opn 1), moving := some 7, runLen := 1 }) with descs := [{ dsc 1 1 [(4, 1)] with results := [none] }] },
      7, 5, 0, 0, [1], { job7 with phase := .inDie, header := true }, { dsc 1 1 [(4, 1)] with results := [none] }, by decide +kernel⟩⟩

/-- The hypotheses of each clause of `Obligations.DecodersAndDriftServe` are met. -/
theorem witness_DecodersAndDriftServe :
    (∃ (s : State) (r : Nat) (d : Nat) (g : Nat) (x : Nat) (p : Pool) (c : Nat),
      (s.rc.pools.find? fun q => q.closed && q.die = dieKey r d && q.group = g) = some p ∧ s.pipeRuns = true ∧ (∀ j ∈ s.seq.jobs,
      j.rd ≠ p.rd) ∧ x = recKey p.die p.group ∧ c = s.dieClass p.die ∧ s.poolCells p = []) ∧
    (∃ (s : State) (r : Nat) (d : Nat) (g : Nat) (x : Nat) (p : Pool) (c : Nat),
      (s.rc.pools.find? fun q => q.closed && q.die = dieKey r d && q.group = g) = some p ∧ s.pipeRuns = true ∧ (∀ j ∈ s.seq.jobs,
      j.rd ≠ p.rd) ∧ x = recKey p.die p.group ∧ c = s.dieClass p.die ∧ s.poolCells p ≠ [] ∧
      (s.keptF p.regs F.RC_PILOT_PLAUSIBLE < s.rberQ c p.ptype (s.poolCells p) ∨ p.version ≠ s.version x)) ∧
    (∃ (s : State) (r : Nat) (d : Nat) (g : Nat) (x : Nat) (p : Pool) (c : Nat),
      (s.rc.pools.find? fun q => q.closed && q.die = dieKey r d && q.group = g) = some p ∧ s.pipeRuns = true ∧ (∀ j ∈ s.seq.jobs,
      j.rd ≠ p.rd) ∧ x = recKey p.die p.group ∧ c = s.dieClass p.die ∧ s.poolCells p ≠ [] ∧
      s.rberQ c p.ptype (s.poolCells p) ≤ s.keptF p.regs F.RC_PILOT_PLAUSIBLE ∧ p.version = s.version x) ∧
    (∃ (s : State) (core : Nat) (r : Nat) (j : Job), s.stagesTake = true ∧ s.coreWorks core = true ∧ s.coreJob core = none ∧
      s.decodeRoute = some r ∧ (s.decWaiting.find? fun x => s.jobRoute x = r) = some j) ∧
    (∃ (s : State) (core : Nat) (iters : Nat) (job : Nat) (id : Nat) (i : Nat) (word : Bytes) (j : Job) (e : Desc),
      s.coreJob core = some job ∧ s.job? job = some j ∧ s.pipeRuns = true ∧ j.dest = .desc id i ∧ s.desc? id = some e ∧
      e.status = none ∧ e.bufferFault = false ∧ i < e.results.length ∧ s.decodeOk j iters word = true) ∧
    (∃ (s : State) (core : Nat) (iters : Nat) (job : Nat) (id : Nat) (i : Nat) (word : Bytes) (j : Job) (e : Desc),
      s.coreJob core = some job ∧ s.job? job = some j ∧ s.pipeRuns = true ∧ j.dest = .desc id i ∧ s.desc? id = some e ∧
      e.status = none ∧ e.bufferFault = false ∧ i < e.results.length ∧ s.decodeOk j iters word = false ∧ j.step = 0 ∧
      j.offGroup = false ∧ (∃ p ∈ s.rc.pools, p.rd = j.rd)) ∧
    (∃ (s : State) (core : Nat) (iters : Nat) (job : Nat) (id : Nat) (i : Nat) (word : Bytes) (j : Job) (e : Desc),
      s.coreJob core = some job ∧ s.job? job = some j ∧ s.pipeRuns = true ∧ j.dest = .desc id i ∧ s.desc? id = some e ∧
      e.status = none ∧ e.bufferFault = false ∧ i < e.results.length ∧ s.decodeOk j iters word = false ∧ j.step ≠ 0 ∧
      s.nextLadder j = 4 ∧ j.recon = true) ∧
    (∃ (s : State) (core : Nat) (iters : Nat) (job : Nat) (id : Nat) (i : Nat) (word : Bytes) (j : Job) (e : Desc),
      s.coreJob core = some job ∧ s.job? job = some j ∧ s.pipeRuns = true ∧ j.dest = .desc id i ∧ s.desc? id = some e ∧
      e.status = none ∧ e.bufferFault = false ∧ i < e.results.length ∧ s.decodeOk j iters word = false ∧ j.step ≠ 0 ∧
      s.nextLadder j = 3 ∧ s.unreadable j.addr true = none) ∧
    (∃ (s : State) (c : Instr) (core : Nat), (∀ job, s.coreJob core = some job → (s.job? job).isSome = true) ∧ core < 68 ∧
      s.coreWorks core = true ∧ ((c = .decoderSelfTestDue core false ∧ s.pipeRuns = true ∧
      s.coreJob core = none) ∨ (c = .decoderCheckerFault core ∧ s.coreRuns = true))) :=
  ⟨⟨{ inMode 4 with rc := { (inMode 4).rc with pools := [{ rd := 3, die := 0, group := 0, ptype := 0, version := 0, pilots := [], closed := true }] } },
      0, 0, 0, 0, { rd := 3, die := 0, group := 0, ptype := 0, version := 0, pilots := [], closed := true }, 0, by decide +kernel⟩,
   ⟨{ (inMode 4).setF F.RC_CELL_BITS_BITS 1 with rc := { (inMode 4).rc with pools := [{ rd := 3, die := 0, group := 0, ptype := 0, version := 1, pilots := [(65536, 0)], closed := true }] } },
      0, 0, 0, 0, { rd := 3, die := 0, group := 0, ptype := 0, version := 1, pilots := [(65536, 0)], closed := true }, 0,
      by decide +kernel⟩,
   ⟨{ (inMode 4).setF F.RC_CELL_BITS_BITS 1 with rc := { (inMode 4).rc with pools := [{ rd := 3, die := 0, group := 0, ptype := 0, version := 0, pilots := [(65536, pilotBits 65536)], closed := true }] } },
      0, 0, 0, 0, { rd := 3, die := 0, group := 0, ptype := 0, version := 0, pilots := [(65536, pilotBits 65536)], closed := true }, 0,
      by decide +kernel⟩,
   ⟨{ withJ (inMode 4) [{ job7 with phase := .received, decIn := true }] with rc := { (inMode 4).rc with decQueue := [7] } }, 0, 0,
      { job7 with phase := .received, decIn := true }, by decide +kernel⟩,
   ⟨{ withJ (inMode 4) [{ job7 with phase := .decoding 0 }] with rc := { (inMode 4).rc with cores := [(0, some 7)] } }, 0, 0, 7, 5, 0,
      List.replicate 4640 0, { job7 with phase := .decoding 0 }, { dsc 1 1 [] with results := [none] }, by decide +kernel⟩,
   ⟨{ withJ (inMode 4) [{ job7 with phase := .decoding 0, rd := 3 }] with rc := { (inMode 4).rc with pools := [{ rd := 3, die := 0, group := 0, ptype := 0, version := 0, pilots := [], closed := true }], cores := [(0, some 7)] } },
      0, 0, 7, 5, 0, [1], { job7 with phase := .decoding 0, rd := 3 }, { dsc 1 1 [] with results := [none] }, by decide +kernel⟩,
   ⟨{ withJ (inMode 4) [{ job7 with phase := .decoding 0, step := 3 }] with rc := { (inMode 4).rc with cores := [(0, some 7)] } }, 0,
      0, 7, 5, 0, [1], { job7 with phase := .decoding 0, step := 3 }, { dsc 1 1 [] with results := [none] }, by decide +kernel⟩,
   ⟨{ withJ (inMode 4) [{ job7 with phase := .decoding 0, step := 2 }] with rc := { (inMode 4).rc with cores := [(0, some 7)] } }, 0,
      0, 7, 5, 0, [1], { job7 with phase := .decoding 0, step := 2 }, { dsc 1 1 [] with results := [none] }, by decide +kernel⟩,
   ⟨inMode 4, .decoderSelfTestDue 3 false, 3, (fun job h => nomatch (show (none : Option Nat) = some job from h)), by decide +kernel⟩⟩

/-- The hypotheses of each clause of `Obligations.CalibrationsDecide` are met. -/
theorem witness_CalibrationsDecide :
    (∃ (s : State) (id : Nat) (src : Nat) (k : Nat) (g : Nat) (b : Nat) (d : Desc) (list : Bytes) (l : List (Nat × Nat)) (ls : List (Nat × Nat)),
      s.adminRuns id 0x50 d ∧ src = addrDie (field d.bytes 8 8) ∧ k = s.busDie src ∧ g = field d.bytes 4 1 ∧
      l = calList (field d.bytes 16 4) list ∧ b = s.dieBits k ∧ g < 8 ∧ ls = l.filter (fun w => !s.erasePending (mkAddr src w.1 0 0)) ∧
      s.calListOk k g l = false) ∧
    (∃ (s : State) (id : Nat) (src : Nat) (k : Nat) (g : Nat) (b : Nat) (d : Desc) (list : Bytes) (l : List (Nat × Nat)) (ls : List (Nat × Nat)),
      s.adminRuns id 0x50 d ∧ src = addrDie (field d.bytes 8 8) ∧ k = s.busDie src ∧ g = field d.bytes 4 1 ∧
      l = calList (field d.bytes 16 4) list ∧ b = s.dieBits k ∧ g < 8 ∧ ls = l.filter (fun w => !s.erasePending (mkAddr src w.1 0 0)) ∧
      s.calListOk k g l = true ∧ s.dieGone k = true) ∧
    (∃ (s : State) (id : Nat) (src : Nat) (k : Nat) (g : Nat) (b : Nat) (d : Desc) (list : Bytes) (l : List (Nat × Nat)) (ls : List (Nat × Nat)),
      s.adminRuns id 0x50 d ∧ src = addrDie (field d.bytes 8 8) ∧ k = s.busDie src ∧ g = field d.bytes 4 1 ∧
      l = calList (field d.bytes 16 4) list ∧ b = s.dieBits k ∧ g < 8 ∧ ls = l.filter (fun w => !s.erasePending (mkAddr src w.1 0 0)) ∧
      s.calListOk k g l = true ∧ s.dieGone k = false ∧ s.routeUp (k / 16) = false) ∧
    (∃ (s : State) (id : Nat) (src : Nat) (k : Nat) (g : Nat) (b : Nat) (d : Desc) (list : Bytes) (l : List (Nat × Nat)) (ls : List (Nat × Nat)),
      s.adminRuns id 0x50 d ∧ src = addrDie (field d.bytes 8 8) ∧ k = s.busDie src ∧ g = field d.bytes 4 1 ∧
      l = calList (field d.bytes 16 4) list ∧ b = s.dieBits k ∧ g < 8 ∧ ls = l.filter (fun w => !s.erasePending (mkAddr src w.1 0 0)) ∧
      s.calListOk k g l = true ∧ s.dieGone k = false ∧ s.routeUp (k / 16) = true ∧ (b = 0 ∨ ls.length < s.calMin [])) ∧
    (∃ (s : State) (id : Nat) (src : Nat) (k : Nat) (g : Nat) (b : Nat) (d : Desc) (list : Bytes) (l : List (Nat × Nat)) (ls : List (Nat × Nat)),
      s.adminRuns id 0x50 d ∧ src = addrDie (field d.bytes 8 8) ∧ k = s.busDie src ∧ g = field d.bytes 4 1 ∧
      l = calList (field d.bytes 16 4) list ∧ b = s.dieBits k ∧ g < 8 ∧ ls = l.filter (fun w => !s.erasePending (mkAddr src w.1 0 0)) ∧
      s.calListOk k g l = true ∧ s.dieGone k = false ∧ s.routeUp (k / 16) = true ∧ b ≠ 0 ∧ s.calMin [] ≤ ls.length) ∧
    (∃ (s : State) (job : Nat) (id : Nat) (n : Nat) (skip : Nat) (k : Nat) (data : Bytes) (j : Job), s.job? job = some j ∧
      k = s.jobDie j ∧ (s.die k).moving = some job ∧ (s.die k).want = none ∧ s.routeUp (k / 16) = true ∧ s.pipeRuns = true ∧
      j.header = false ∧ j.dest = .cal id n ∧ 2 ≤ j.tries ∧ (s.die k).runAt < 4 ∧
      envErased (s.die k).envCtrl (slice (carried (s.die k).runBytes skip data) 0 4608) = false ∧
      alignAt (s.die k).envX (4 * (j.addr / 4) + (s.die k).runAt) (carried (s.die k).runBytes skip data) 0 = none) ∧
    (∃ (s : State) (id : Nat) (c : Cal) (e : Desc) (st : Nat), (s.rc.cals.find? (·.desc = id)) = some c ∧ s.pipeRuns = true ∧
      s.desc? id = some e ∧ e.status = none ∧ e.bufferFault = false ∧ c.die < 512 ∧ c.group < 8 ∧ c.bad = some st) ∧
    (∃ (s : State) (id : Nat) (c : Cal) (e : Desc) (lines : List Nat), (s.rc.cals.find? (·.desc = id)) = some c ∧ (∀ x ∈ c.reads,
      x.off = none ∧ 18432 ≤ x.raw.length) ∧ s.pipeRuns = true ∧ s.desc? id = some e ∧ e.status = none ∧ e.bufferFault = false ∧
      c.die < 512 ∧ c.group < 8 ∧ c.bad = none ∧ c.sweeping = false ∧
      lines = ((c.reads.filter fun x => !((c.reads.filter (s.calDrops c)).map CalRead.line).contains x.line).map CalRead.line).eraseDups ∧
      lines.length < s.calMin c.regs) ∧
    (∃ (s : State) (id : Nat) (c : Cal) (e : Desc) (lines : List Nat), (s.rc.cals.find? (·.desc = id)) = some c ∧ (∀ x ∈ c.reads,
      x.off = none ∧ 18432 ≤ x.raw.length) ∧ s.pipeRuns = true ∧ s.desc? id = some e ∧ e.status = none ∧ e.bufferFault = false ∧
      c.die < 512 ∧ c.group < 8 ∧ c.bad = none ∧ c.sweeping = false ∧
      lines = ((c.reads.filter fun x => !((c.reads.filter (s.calDrops c)).map CalRead.line).contains x.line).map CalRead.line).eraseDups ∧
      s.calMin c.regs ≤ lines.length ∧ (∀ x ∈ c.reads, s.unreadable x.page true = none)) ∧
    (∃ (s : State) (id : Nat) (c : Cal) (e : Desc), (s.rc.cals.find? (·.desc = id)) = some c ∧ (∀ x ∈ c.reads, 18432 ≤ x.raw.length) ∧
      (∀ x ∈ s.calResults c, ∃ u v, x.2 = (some u, some v) ∧ (u - v).natAbs ≤ c.tol) ∧ s.pipeRuns = true ∧ s.desc? id = some e ∧
      e.status = none ∧ e.bufferFault = false ∧ c.die < 512 ∧ c.group < 8 ∧ c.bad = none ∧ c.sweeping = true) ∧
    (∃ (s : State) (id : Nat) (c : Cal) (e : Desc), (s.rc.cals.find? (·.desc = id)) = some c ∧ (∀ x ∈ c.reads, 18432 ≤ x.raw.length) ∧
      (∃ x ∈ s.calResults c, ∀ u v, x.2 = (some u, some v) → c.tol < (u - v).natAbs) ∧ s.pipeRuns = true ∧ s.desc? id = some e ∧
      e.status = none ∧ e.bufferFault = false ∧ c.die < 512 ∧ c.group < 8 ∧ c.bad = none ∧ c.sweeping = true) ∧
    (∃ (s : State) (id : Nat) (d : Desc), s.adminRuns id 0x51 d ∧ s.getF F.PWR_DRAM_SR = 0) ∧
    (∃ (s : State) (id : Nat) (x : Nat) (d : Desc) (rec : Bytes), s.adminRuns id 0x52 d ∧
      x = recKey (addrDie (field d.bytes 8 8)) (field d.bytes 4 1) ∧ s.recordOk x (slice rec 0 64) = true) ∧
    (∃ (s : State) (id : Nat) (x : Nat) (d : Desc) (rec : Bytes), s.adminRuns id 0x52 d ∧
      x = recKey (addrDie (field d.bytes 8 8)) (field d.bytes 4 1) ∧ s.recordOk x (slice rec 0 64) = false) :=
  ⟨⟨adm (inMode 4) 0x50 [(16, 2)], 5, 0, 0, 0, (adm (inMode 4) 0x50 [(16, 2)]).dieBits 0, dsc 0 0x50 [(16, 2)], [], [(0, 0), (0, 0)],
      [(0, 0), (0, 0)], by (unfold State.adminRuns; decide +kernel)⟩,
   ⟨(adm (inMode 4) 0x50 []).setDieSt 0 9, 5, 0, 0, 0, ((adm (inMode 4) 0x50 []).setDieSt 0 9).dieBits 0, dsc 0 0x50 [], [], [], [],
      by (unfold State.adminRuns; decide +kernel)⟩,
   ⟨(adm (inMode 4) 0x50 []).setF (F.RT_STATUS_STATE 0) 0, 5, 0, 0, 0,
      ((adm (inMode 4) 0x50 []).setF (F.RT_STATUS_STATE 0) 0).dieBits 0, dsc 0 0x50 [], [], [], [],
      by (unfold State.adminRuns; decide +kernel)⟩,
   ⟨adm (inMode 4) 0x50 [], 5, 0, 0, 0, (adm (inMode 4) 0x50 []).dieBits 0, dsc 0 0x50 [], [], [], [],
      by (unfold State.adminRuns; decide +kernel)⟩,
   ⟨(adm ((inMode 4).setF F.RC_CELL_BITS_BITS 1) 0x50 [(16, 1)]).setF F.RC_CAL_X_MIN_WORDLINES 1, 5, 0, 0, 0,
      ((adm ((inMode 4).setF F.RC_CELL_BITS_BITS 1) 0x50 [(16, 1)]).setF F.RC_CAL_X_MIN_WORDLINES 1).dieBits 0, dsc 0 0x50 [(16, 1)],
      [], [(0, 0)], [(0, 0)], by (unfold State.adminRuns; decide +kernel)⟩,
   ⟨(die0 (withJ (inMode 4) [{ job7 with phase := .inDie, dest := .cal 5 0, tries := 2 }]) 4 { op := some (opn 1), moving := some 7, runLen := 4 }),
      7, 5, 0, 0, 0, [], { job7 with phase := .inDie, dest := .cal 5 0, tries := 2 }, by decide +kernel⟩,
   ⟨{ adm (inMode 4) 0x50 [] with rc := { (inMode 4).rc with cals := [{ desc := 5, die := 0, group := 0, live := [], lines := [], bad := some 0x060 }] } },
      5, { desc := 5, die := 0, group := 0, live := [], lines := [], bad := some 0x060 }, dsc 0 0x50 [], 0x060, (rfl),
      by decide +kernel⟩,
   ⟨{ adm (inMode 4) 0x50 [] with rc := { (inMode 4).rc with cals := [{ desc := 5, die := 0, group := 0, live := [], lines := [], reads := [{ page := 65536, line := 0, ptype := 0, off := none, raw := List.replicate 18432 0, erased := true }] }] } },
      5, { desc := 5, die := 0, group := 0, live := [], lines := [], reads := [{ page := 65536, line := 0, ptype := 0, off := none, raw := List.replicate 18432 0, erased := true }] },
      dsc 0 0x50 [], [], (rfl), (fun x h => by have e := List.mem_singleton.mp h; subst e; exact ⟨rfl,
      (List.length_replicate (n := 18432) (a := (0 : Byte))).ge⟩), by decide +kernel⟩,
   ⟨(({ adm (inMode 4) 0x50 [] with rc := { (inMode 4).rc with cals := [{ desc := 5, die := 0, group := 0, live := [], lines := [], reads := [{ page := 65536, line := 0, ptype := 0, off := none, raw := List.replicate 18432 0xFF }] }] } }).setF F.RC_CAL_X_MIN_WORDLINES 1).setF F.RC_CELL_BITS_BITS 0,
      5, { desc := 5, die := 0, group := 0, live := [], lines := [], reads := [{ page := 65536, line := 0, ptype := 0, off := none, raw := List.replicate 18432 0xFF }] },
      dsc 0 0x50 [], [0], (rfl), (fun x h => by have e := List.mem_singleton.mp h; subst e; exact ⟨rfl,
      (List.length_replicate (n := 18432) (a := (0xFF : Byte))).ge⟩), by decide +kernel⟩,
   ⟨{ adm ((((inMode 4).setF F.RC_CELL_BITS_BITS 1).setF F.RC_CAL_X_HALF_WIDTH 10).setF F.RC_CAL_X_SWEEP_STEP 4) 0x50 [] with rc := { ((((inMode 4).setF F.RC_CELL_BITS_BITS 1).setF F.RC_CAL_X_HALF_WIDTH 10).setF F.RC_CAL_X_SWEEP_STEP 4).rc with cals := [{ desc := 5, die := 0, group := 0, live := [], lines := [], sweeping := true, tol := 6, reads := [{ page := 65536, line := 0, ptype := 0, off := some (-10), raw := List.replicate 18432 0 }] }] } },
      5, { desc := 5, die := 0, group := 0, live := [], lines := [], sweeping := true, tol := 6, reads := [{ page := 65536, line := 0, ptype := 0, off := some (-10), raw := List.replicate 18432 0 }] },
      dsc 0 0x50 [], (rfl),
      (fun x h => by have e := List.mem_singleton.mp h; subst e; exact (List.length_replicate (n := 18432) (a := (0 : Byte))).ge),
      (by intro x h; rw [show State.calResults _ _ = [(1, some 0, some (-6))] by decide +kernel] at h; simp at h; subst h; exact ⟨0,
      -6, rfl, by decide⟩), by decide +kernel⟩,
   ⟨{ adm ((((inMode 4).setF F.RC_CELL_BITS_BITS 1).setF F.RC_CAL_X_HALF_WIDTH 10).setF F.RC_CAL_X_SWEEP_STEP 4) 0x50 [] with rc := { ((((inMode 4).setF F.RC_CELL_BITS_BITS 1).setF F.RC_CAL_X_HALF_WIDTH 10).setF F.RC_CAL_X_SWEEP_STEP 4).rc with cals := [{ desc := 5, die := 0, group := 0, live := [], lines := [], sweeping := true, tol := 5, reads := [{ page := 65536, line := 0, ptype := 0, off := some (-10), raw := List.replicate 18432 0 }] }] } },
      5, { desc := 5, die := 0, group := 0, live := [], lines := [], sweeping := true, tol := 5, reads := [{ page := 65536, line := 0, ptype := 0, off := some (-10), raw := List.replicate 18432 0 }] },
      dsc 0 0x50 [], (rfl),
      (fun x h => by have e := List.mem_singleton.mp h; subst e; exact (List.length_replicate (n := 18432) (a := (0 : Byte))).ge),
      (⟨(1, some 0, some (-6)), by rw [show State.calResults _ _ = [(1, some 0, some (-6))] by decide +kernel]; simp,
      by intro u v h; simp at h; obtain ⟨rfl, rfl⟩ := h; decide⟩), by decide +kernel⟩,
   ⟨adm (inMode 4) 0x51 [], 5, dsc 0 0x51 [], by (unfold State.adminRuns; decide +kernel)⟩,
   ⟨adm (inMode 4) 0x52 [], 5, 0, dsc 0 0x52 [], (inMode 4).defaultRecord 0, by (unfold State.adminRuns; decide +kernel)⟩,
   ⟨adm (inMode 4) 0x52 [], 5, 0, dsc 0 0x52 [], [], by (unfold State.adminRuns; decide +kernel)⟩⟩

/-- The hypotheses of each clause of `Obligations.ScansStartAndAdmit` are met. -/
theorem witness_ScansStartAndAdmit :
    (∃ (s : State) (id : Nat) (d : Desc) (plan : Bytes) (p : Bytes), s.ioRuns id 0x03 d ∧ p = slice plan 0 256 ∧
      (planOk p = false ∨ field d.bytes 16 4 < planCapacity p ∨ tokenStart p (slice d.bytes 32 16) = none)) ∧
    (∃ (s : State) (id : Nat) (d : Desc) (plan : Bytes) (p : Bytes) (first : Nat × Nat), s.ioRuns id 0x03 d ∧ p = slice plan 0 256 ∧
      planOk p = true ∧ planCapacity p ≤ field d.bytes 16 4 ∧ tokenStart p (slice d.bytes 32 16) = some first) ∧
    (∃ (s : State) (id : Nat) (c : Scan), s.scan? id = some c ∧ c.active = false ∧ s.activeScans < 16 ∧ (∀ x ∈ s.so.scans,
      x.active = false → id ≤ x.id)) ∧
    (∃ (s : State) (id : Nat) (c : Scan), s.scan? id = some c ∧ c.active = true ∧ c.stop = none ∧ c.nextItem < planItems c.plan ∧
      s.pipeRuns = true) ∧
    (∃ (s : State) (id : Nat) (c : Scan) (p : Position), s.scan? id = some c ∧ c.active = true ∧ c.stop = none ∧ s.issues = true ∧
      c.candidates.find? (s.slotsFit c) = some p ∧ s.memorySound ∧ p.addrs ≠ [] ∧ (∀ h ∈ p.hdrs, h = none) ∧ (∀ a ∈ p.addrs,
      s.preCheck a = none ∧ s.phFind a = none)) ∧
    (∃ (s : State) (id : Nat) (c : Scan), s.scan? id = some c ∧ c.active = true ∧ c.stop = none ∧ s.issues = true ∧
      c.candidates.find? (s.slotsFit c) = none) :=
  ⟨⟨withD (inMode 4) (dsc 1 3 []), 5, dsc 1 3 [], [], slice [] 0 256, by (unfold State.ioRuns; decide +kernel)⟩,
   ⟨withD (inMode 4) (dsc 1 3 [(16, 200)]), 5, dsc 1 3 [(16, 200)], ([0x45, 0x4E, 0x53, 0x50, 1, 1, 0, 0, 0, 0, 0, 0, 0, 3, 0, 0, 1] ++
      List.replicate 31 0 ++ [64] ++ List.replicate 15 0 ++ [0, 0, 0, 0, 1] ++ List.replicate 187 0), slice ([0x45, 0x4E, 0x53, 0x50, 1, 1, 0, 0, 0, 0, 0, 0, 0, 3, 0, 0, 1] ++
      List.replicate 31 0 ++ [64] ++ List.replicate 15 0 ++ [0, 0, 0, 0, 1] ++ List.replicate 187 0) 0 256, (0, 0),
      by (unfold State.ioRuns; decide +kernel)⟩,
   ⟨{ withD (inMode 4) (dsc 1 3 [(16, 200)]) with so := { scans := [{ id := 5, plan := ([0x45, 0x4E, 0x53, 0x50, 1, 1, 0, 0, 0, 0, 0, 0, 0, 3, 0, 0, 1] ++ List.replicate 31 0 ++ [64] ++ List.replicate 15 0 ++ [0, 0, 0, 0, 1] ++ List.replicate 187 0), buffer := 4096, capacity := 200 }] } },
      5, { id := 5, plan := ([0x45, 0x4E, 0x53, 0x50, 1, 1, 0, 0, 0, 0, 0, 0, 0, 3, 0, 0, 1] ++ List.replicate 31 0 ++ [64] ++ List.replicate 15 0 ++ [0, 0, 0, 0, 1] ++ List.replicate 187 0), buffer := 4096, capacity := 200 },
      by decide +kernel⟩,
   ⟨{ withD (inMode 4) (dsc 1 3 [(16, 200)]) with so := { scans := [{ id := 5, plan := ([0x45, 0x4E, 0x53, 0x50, 1, 1, 0, 0, 0, 0, 0, 0, 0, 3, 0, 0, 1] ++ List.replicate 31 0 ++ [64] ++ List.replicate 15 0 ++ [0, 0, 0, 0, 1] ++ List.replicate 187 0), buffer := 4096, capacity := 200, active := true }] } },
      5, { id := 5, plan := ([0x45, 0x4E, 0x53, 0x50, 1, 1, 0, 0, 0, 0, 0, 0, 0, 3, 0, 0, 1] ++ List.replicate 31 0 ++ [64] ++ List.replicate 15 0 ++ [0, 0, 0, 0, 1] ++ List.replicate 187 0), buffer := 4096, capacity := 200, active := true },
      by decide +kernel⟩,
   ⟨{ withD (inMode 4) (dsc 1 3 [(16, 200)]) with so := { scans := [{ id := 5, plan := ([0x45, 0x4E, 0x53, 0x50, 1, 1, 0, 0, 0, 0, 0, 0, 0, 3, 0, 0, 1] ++ List.replicate 31 0 ++ [64] ++ List.replicate 15 0 ++ [0, 0, 0, 0, 1] ++ List.replicate 187 0), buffer := 4096, capacity := 200, active := true, nextItem := 1, positions := [({ key := 0, item := 0, env := 0, addrs := [65536], hdrs := [none], res := [none] } : Position)] }] } },
      5, { id := 5, plan := ([0x45, 0x4E, 0x53, 0x50, 1, 1, 0, 0, 0, 0, 0, 0, 0, 3, 0, 0, 1] ++ List.replicate 31 0 ++ [64] ++ List.replicate 15 0 ++ [0, 0, 0, 0, 1] ++ List.replicate 187 0), buffer := 4096, capacity := 200, active := true, nextItem := 1, positions := [({ key := 0, item := 0, env := 0, addrs := [65536], hdrs := [none], res := [none] } : Position)] },
      ({ key := 0, item := 0, env := 0, addrs := [65536], hdrs := [none], res := [none] } : Position),
      by (unfold State.memorySound; decide +kernel)⟩,
   ⟨{ withD (inMode 4) (dsc 1 3 [(16, 200)]) with so := { scans := [{ id := 5, plan := ([0x45, 0x4E, 0x53, 0x50, 1, 1, 0, 0, 0, 0, 0, 0, 0, 3, 0, 0, 1] ++ List.replicate 31 0 ++ [64] ++ List.replicate 15 0 ++ [0, 0, 0, 0, 1] ++ List.replicate 187 0), buffer := 4096, capacity := 200, active := true }] } },
      5, { id := 5, plan := ([0x45, 0x4E, 0x53, 0x50, 1, 1, 0, 0, 0, 0, 0, 0, 0, 3, 0, 0, 1] ++ List.replicate 31 0 ++ [64] ++ List.replicate 15 0 ++ [0, 0, 0, 0, 1] ++ List.replicate 187 0), buffer := 4096, capacity := 200, active := true },
      by decide +kernel⟩⟩

/-- The hypotheses of each clause of `Obligations.ScansRetireAndEnd` are met. -/
theorem witness_ScansRetireAndEnd :
    (∃ (s : State) (id : Nat) (key : Nat) (c : Scan) (p : Position) (h : Bytes), s.scan? id = some c ∧
      (c.positions.find? (·.key = key)) = some p ∧ p.outcome = 7 ∧ s.stagesRun = true ∧ p.head 0 = .known h) ∧
    (∃ (s : State) (id : Nat) (c : Scan) (p : Position) (l : List Position), s.scan? id = some c ∧ c.positions = p :: l ∧
      c.stop = none ∧ s.pipeRuns = true ∧ s.getF F.PWR_DRAM_SR = 0 ∧ (p.outcome = 1 ∨ p.outcome = 2 ∨ p.outcome = 3)) ∧
    (∃ (s : State) (id : Nat) (c : Scan) (p : Position) (l : List Position) (b : Bytes), s.scan? id = some c ∧ c.positions = p :: l ∧
      c.stop = none ∧ s.pipeRuns = true ∧ s.getF F.PWR_DRAM_SR = 0 ∧ p.outcome = 5 ∧ p.rows ≠ [] ∧ planOut c.plan ≠ 3 ∧
      b = positionRecord c.plan p ∧ field c.plan 20 4 = 0 ∧ c.out + b.length ≤ c.capacity) ∧
    (∃ (s : State) (id : Nat) (c : Scan) (p : Position) (l : List Position) (b : Bytes), s.scan? id = some c ∧ c.positions = p :: l ∧
      c.stop = none ∧ s.pipeRuns = true ∧ s.getF F.PWR_DRAM_SR = 0 ∧ p.outcome = 5 ∧ p.rows ≠ [] ∧ planOut c.plan ≠ 3 ∧
      b = positionRecord c.plan p ∧ field c.plan 20 4 = 0 ∧ c.capacity < c.out + b.length) ∧
    (∃ (s : State) (id : Nat) (c : Scan) (p : Position) (l : List Position), s.scan? id = some c ∧ c.positions = p :: l ∧
      c.stop = none ∧ s.pipeRuns = true ∧ s.getF F.PWR_DRAM_SR = 0 ∧ p.outcome = 6 ∧ planFlag c.plan 2 = false) ∧
    (∃ (s : State) (id : Nat) (c : Scan) (e : Desc), s.scan? id = some c ∧ c.active = true ∧ s.pipeRuns = true ∧
      (c.stop.isSome = true ∨ (c.positions = [] ∧ planItems c.plan ≤ c.nextItem)) ∧ s.desc? id = some e ∧ e.status = none ∧
      e.bufferFault = false ∧ s.getF F.PWR_DRAM_SR = 0 ∧ planOut c.plan ≠ 3) ∧
    (∃ (s : State) (id : Nat) (c : Scan) (e : Desc), s.scan? id = some c ∧ c.active = true ∧ s.pipeRuns = true ∧
      (c.stop.isSome = true ∨ (c.positions = [] ∧ planItems c.plan ≤ c.nextItem)) ∧ s.desc? id = some e ∧ e.status = none ∧
      e.bufferFault = false ∧ s.getF F.PWR_DRAM_SR = 0 ∧ planOut c.plan = 3) ∧
    (∃ (s : State) (c : Instr) (lane : Nat), s.laneWorks lane = true ∧ ((c = .laneSelfTestDue lane false ∧
      s.pipeRuns = true) ∨ c = .laneFault lane)) :=
  ⟨⟨{ withD (inMode 4) (dsc 1 3 [(16, 200)]) with so := { scans := [{ id := 5, plan := ([0x45, 0x4E, 0x53, 0x50, 1, 1, 0, 0, 0, 0, 0, 0, 0, 3, 0, 0, 1] ++ List.replicate 31 0 ++ [64] ++ List.replicate 15 0 ++ [0, 0, 0, 0, 1] ++ List.replicate 187 0), buffer := 4096, capacity := 200, active := true, nextItem := 1, positions := [({ key := 0, item := 0, env := 0, addrs := [65536], outcome := 7, res := [some { status := 0, content := List.replicate 30 0 }] } : Position)] }] } },
      5, 0, { id := 5, plan := ([0x45, 0x4E, 0x53, 0x50, 1, 1, 0, 0, 0, 0, 0, 0, 0, 3, 0, 0, 1] ++ List.replicate 31 0 ++ [64] ++ List.replicate 15 0 ++ [0, 0, 0, 0, 1] ++ List.replicate 187 0), buffer := 4096, capacity := 200, active := true, nextItem := 1, positions := [({ key := 0, item := 0, env := 0, addrs := [65536], outcome := 7, res := [some { status := 0, content := List.replicate 30 0 }] } : Position)] },
      ({ key := 0, item := 0, env := 0, addrs := [65536], outcome := 7, res := [some { status := 0, content := List.replicate 30 0 }] } : Position),
      List.replicate 30 0, by decide +kernel⟩,
   ⟨{ withD (inMode 4) (dsc 1 3 [(16, 200)]) with so := { scans := [{ id := 5, plan := ([0x45, 0x4E, 0x53, 0x50, 1, 1, 0, 0, 0, 0, 0, 0, 0, 3, 0, 0, 1] ++ List.replicate 31 0 ++ [64] ++ List.replicate 15 0 ++ [0, 0, 0, 0, 1] ++ List.replicate 187 0), buffer := 4096, capacity := 200, active := true, nextItem := 1, positions := [({ key := 0, item := 0, env := 0, addrs := [65536], outcome := 1 } : Position)] }] } },
      5, { id := 5, plan := ([0x45, 0x4E, 0x53, 0x50, 1, 1, 0, 0, 0, 0, 0, 0, 0, 3, 0, 0, 1] ++ List.replicate 31 0 ++ [64] ++ List.replicate 15 0 ++ [0, 0, 0, 0, 1] ++ List.replicate 187 0), buffer := 4096, capacity := 200, active := true, nextItem := 1, positions := [({ key := 0, item := 0, env := 0, addrs := [65536], outcome := 1 } : Position)] },
      ({ key := 0, item := 0, env := 0, addrs := [65536], outcome := 1 } : Position), [], by decide +kernel⟩,
   ⟨{ withD (inMode 4) (dsc 1 3 [(16, 200)]) with so := { scans := [{ id := 5, plan := ([0x45, 0x4E, 0x53, 0x50, 1, 1, 0, 0, 0, 0, 0, 0, 0, 2, 0, 0, 1] ++ List.replicate 31 0 ++ [64] ++ List.replicate 15 0 ++ [0, 0, 0, 0, 1] ++ List.replicate 187 0), buffer := 4096, capacity := 100000, active := true, nextItem := 1, positions := [({ key := 0, item := 0, env := 0, addrs := [65536], outcome := 5, rows := [0], res := [some { status := 0, content := List.replicate 30 0 }] } : Position)] }] } },
      5, { id := 5, plan := ([0x45, 0x4E, 0x53, 0x50, 1, 1, 0, 0, 0, 0, 0, 0, 0, 2, 0, 0, 1] ++ List.replicate 31 0 ++ [64] ++ List.replicate 15 0 ++ [0, 0, 0, 0, 1] ++ List.replicate 187 0), buffer := 4096, capacity := 100000, active := true, nextItem := 1, positions := [({ key := 0, item := 0, env := 0, addrs := [65536], outcome := 5, rows := [0], res := [some { status := 0, content := List.replicate 30 0 }] } : Position)] },
      ({ key := 0, item := 0, env := 0, addrs := [65536], outcome := 5, rows := [0], res := [some { status := 0, content := List.replicate 30 0 }] } : Position),
      [], positionRecord ([0x45, 0x4E, 0x53, 0x50, 1, 1, 0, 0, 0, 0, 0, 0, 0, 2, 0, 0, 1] ++ List.replicate 31 0 ++ [64] ++
      List.replicate 15 0 ++ [0, 0, 0, 0, 1] ++ List.replicate 187 0) (({ key := 0, item := 0, env := 0, addrs := [65536], outcome := 5, rows := [0], res := [some { status := 0, content := List.replicate 30 0 }] } : Position)),
      by decide +kernel⟩,
   ⟨{ withD (inMode 4) (dsc 1 3 [(16, 200)]) with so := { scans := [{ id := 5, plan := ([0x45, 0x4E, 0x53, 0x50, 1, 1, 0, 0, 0, 0, 0, 0, 0, 2, 0, 0, 1] ++ List.replicate 31 0 ++ [64] ++ List.replicate 15 0 ++ [0, 0, 0, 0, 1] ++ List.replicate 187 0), buffer := 4096, capacity := 10, active := true, nextItem := 1, positions := [({ key := 0, item := 0, env := 0, addrs := [65536], outcome := 5, rows := [0], res := [some { status := 0, content := List.replicate 30 0 }] } : Position)] }] } },
      5, { id := 5, plan := ([0x45, 0x4E, 0x53, 0x50, 1, 1, 0, 0, 0, 0, 0, 0, 0, 2, 0, 0, 1] ++ List.replicate 31 0 ++ [64] ++ List.replicate 15 0 ++ [0, 0, 0, 0, 1] ++ List.replicate 187 0), buffer := 4096, capacity := 10, active := true, nextItem := 1, positions := [({ key := 0, item := 0, env := 0, addrs := [65536], outcome := 5, rows := [0], res := [some { status := 0, content := List.replicate 30 0 }] } : Position)] },
      ({ key := 0, item := 0, env := 0, addrs := [65536], outcome := 5, rows := [0], res := [some { status := 0, content := List.replicate 30 0 }] } : Position),
      [], positionRecord ([0x45, 0x4E, 0x53, 0x50, 1, 1, 0, 0, 0, 0, 0, 0, 0, 2, 0, 0, 1] ++ List.replicate 31 0 ++ [64] ++
      List.replicate 15 0 ++ [0, 0, 0, 0, 1] ++ List.replicate 187 0) (({ key := 0, item := 0, env := 0, addrs := [65536], outcome := 5, rows := [0], res := [some { status := 0, content := List.replicate 30 0 }] } : Position)),
      by decide +kernel⟩,
   ⟨{ withD (inMode 4) (dsc 1 3 [(16, 200)]) with so := { scans := [{ id := 5, plan := ([0x45, 0x4E, 0x53, 0x50, 1, 1, 0, 0, 0, 0, 0, 0, 0, 3, 0, 0, 1] ++ List.replicate 31 0 ++ [64] ++ List.replicate 15 0 ++ [0, 0, 0, 0, 1] ++ List.replicate 187 0), buffer := 4096, capacity := 200, active := true, nextItem := 1, positions := [({ key := 0, item := 0, env := 0, addrs := [65536], outcome := 6, cause := 1, status := 0x010 } : Position)] }] } },
      5, { id := 5, plan := ([0x45, 0x4E, 0x53, 0x50, 1, 1, 0, 0, 0, 0, 0, 0, 0, 3, 0, 0, 1] ++ List.replicate 31 0 ++ [64] ++ List.replicate 15 0 ++ [0, 0, 0, 0, 1] ++ List.replicate 187 0), buffer := 4096, capacity := 200, active := true, nextItem := 1, positions := [({ key := 0, item := 0, env := 0, addrs := [65536], outcome := 6, cause := 1, status := 0x010 } : Position)] },
      ({ key := 0, item := 0, env := 0, addrs := [65536], outcome := 6, cause := 1, status := 0x010 } : Position), [],
      by decide +kernel⟩,
   ⟨{ withD (inMode 4) (dsc 1 3 [(16, 200)]) with so := { scans := [{ id := 5, plan := ([0x45, 0x4E, 0x53, 0x50, 1, 1, 0, 0, 0, 0, 0, 0, 0, 2, 0, 0, 1] ++ List.replicate 31 0 ++ [64] ++ List.replicate 15 0 ++ [0, 0, 0, 0, 1] ++ List.replicate 187 0), buffer := 4096, capacity := 200, active := true, nextItem := 1 }] } },
      5, { id := 5, plan := ([0x45, 0x4E, 0x53, 0x50, 1, 1, 0, 0, 0, 0, 0, 0, 0, 2, 0, 0, 1] ++ List.replicate 31 0 ++ [64] ++ List.replicate 15 0 ++ [0, 0, 0, 0, 1] ++ List.replicate 187 0), buffer := 4096, capacity := 200, active := true, nextItem := 1 },
      dsc 1 3 [(16, 200)], by decide +kernel⟩,
   ⟨{ withD (inMode 4) (dsc 1 3 [(16, 200)]) with so := { scans := [{ id := 5, plan := ([0x45, 0x4E, 0x53, 0x50, 1, 1, 0, 0, 0, 0, 0, 0, 0, 3, 0, 0, 1] ++ List.replicate 31 0 ++ [64] ++ List.replicate 15 0 ++ [0, 0, 0, 0, 1] ++ List.replicate 187 0), buffer := 4096, capacity := 200, active := true, nextItem := 1 }] } },
      5, { id := 5, plan := ([0x45, 0x4E, 0x53, 0x50, 1, 1, 0, 0, 0, 0, 0, 0, 0, 3, 0, 0, 1] ++ List.replicate 31 0 ++ [64] ++ List.replicate 15 0 ++ [0, 0, 0, 0, 1] ++ List.replicate 187 0), buffer := 4096, capacity := 200, active := true, nextItem := 1 },
      dsc 1 3 [(16, 200)], by decide +kernel⟩,
   ⟨inMode 4, .laneFault 3, 3, by decide +kernel⟩⟩

/-- The hypotheses of each clause of `Obligations.ReconstructionAndPatrolProceed` are met. -/
theorem witness_ReconstructionAndPatrolProceed :
    (∃ (s : State) (job : Nat) (maps : List Bytes) (err : Bool) (lost : Option Nat) (j : Job) (l : Nat), (∀ a, s.phFind a = none) ∧
      s.job? job = some j ∧ j.phase = .waitCtx ∧ s.stagesTake = true ∧ j.recon = true ∧ (s.mapOn = true → err = false ∧ lost = none) ∧
      s.coveredBy maps (addrDie j.addr) (addrBlock j.addr) = some l ∧ s.ctxFree j = true ∧ s.memorySound) ∧
    (∃ (s : State) (job : Nat) (maps : List Bytes) (err : Bool) (lost : Option Nat) (j : Job) (l : Nat), s.job? job = some j ∧
      j.phase = .waitCtx ∧ s.stagesTake = true ∧ j.recon = true ∧ (s.mapOn = true → err = false ∧ lost = none) ∧
      s.coveredBy maps (addrDie j.addr) (addrBlock j.addr) = some l ∧ s.ctxFree j = false) ∧
    (∃ (s : State) (job : Nat) (maps : List Bytes) (err : Bool) (lost : Option Nat) (j : Job) (id : Nat) (i : Nat) (e : Desc),
      s.job? job = some j ∧ j.phase = .waitCtx ∧ s.stagesTake = true ∧ j.recon = true ∧ (s.mapOn = true → err = false ∧ lost = none) ∧
      s.coveredBy maps (addrDie j.addr) (addrBlock j.addr) = none ∧ j.dest = .desc id i ∧ s.desc? id = some e ∧ e.status = none ∧
      e.bufferFault = false ∧ i < e.results.length) ∧
    (∃ (s : State) (ctx : Nat) (id : Nat) (i : Nat) (c : Ctx) (j : Job) (e : Desc) (st : Nat) (code : Nat) (missing : Nat) (content : Bytes) (payload : Bytes),
      reconstruct c.position ((List.range 16).map fun m => (posOf m (s.slotOf c.layout c.target),
      (c.results.getD m none).getD .lost)) (s.getF F.FI_X_RECON_CHECK_OFF = 1) = (st, code, missing, content, payload) ∧
      s.ctx? ctx = some c ∧ s.job? c.job = some j ∧ (∀ x ∈ c.results, x.isSome = true) ∧ s.stagesRun = true ∧ j.dest = .desc id i ∧
      s.desc? id = some e ∧ e.status = none ∧ e.bufferFault = false ∧ i < e.results.length) ∧
    (∃ (s : State) (sec : Nat), s.patrolRuns = true ∧ s.fi.roundOn = false ∧
      (s.fi.rounds = false ∨ s.getF F.FI_X_PACE_OFF = 1 ∨ s.roundSeconds ≤ sec)) ∧
    (∃ (s : State) (r : Nat) (d : Nat) (sec : Nat) (k : Nat) (i : Nat) (page : Nat), r < 32 ∧ d < 16 ∧ k = dieKey r d ∧
      i = s.cursor k ∧ s.patrolRuns = true ∧ s.fi.roundOn = true ∧ s.patrolled k = true ∧ i + 1 < s.pagePositions k ∧
      s.patrolOut k = false ∧ tget (fun _ => 0) s.fi.erasedSeen k < 4 ∧ s.patrolSkips k (i / max 1 (s.geo k).pages) = false ∧
      (s.getF F.FI_X_PACE_OFF = 1 ∨ i * s.roundSeconds ≤ sec * s.pagePositions k) ∧
      page = mkAddr k (i / (s.geo k).pages) (i % (s.geo k).pages) 0 ∧ (s.geo k).pages ≤ 4096 ∧ (s.geo k).blocks ≤ 65536 ∧ (∀ e,
      e < 4 → page + e ∉ s.fi.poison) ∧ (∀ j ∈ s.seq.jobs, j.id < s.seq.nextId)) ∧
    (∃ (s : State) (r : Nat) (d : Nat), s.patrolRuns = true ∧ s.fi.roundOn = true ∧ (∀ k,
      k < 512 → s.patrolled k = true → s.pagePositions k ≤ s.cursor k) ∧ r < 32 ∧ d < 16) :=
  ⟨⟨((withJ (inMode 4) [{ job7 with phase := .waitCtx }]).setF F.FI_SMAP_LO_EN 1), 7, [List.replicate 64 255], false, none,
      { job7 with phase := .waitCtx }, 0, (fun a => by rfl), by (unfold State.memorySound; decide +kernel)⟩,
   ⟨{ ((withJ (inMode 4) [{ job7 with phase := .waitCtx }]).setF F.FI_SMAP_LO_EN 1) with fi := { ctxs := List.replicate 16 { id := 3, job := 7, layout := 0, target := 65536, position := 0, results := List.replicate 16 (some .erased) } } },
      7, [List.replicate 64 255], false, none, { job7 with phase := .waitCtx }, 0, by decide +kernel⟩,
   ⟨withJ (inMode 4) [{ job7 with phase := .waitCtx }], 7, [], false, none, { job7 with phase := .waitCtx }, 5, 0,
      { dsc 1 1 [] with results := [none] }, by decide +kernel⟩,
   ⟨{ withJ (inMode 4) [{ job7 with phase := .inCtx }] with fi := { ctxs := [{ id := 3, job := 7, layout := 0, target := 65536, position := 0, results := List.replicate 16 (some .erased) }] } },
      3, 5, 0, { id := 3, job := 7, layout := 0, target := 65536, position := 0, results := List.replicate 16 (some .erased) },
      { job7 with phase := .inCtx }, { dsc 1 1 [] with results := [none] }, St.erased, 1, 0, [], List.replicate 4096 0, (Eq.refl _),
      by decide +kernel⟩,
   ⟨((inMode 4).setF F.FI_DL_CFG_EN 1), 0, by decide +kernel⟩,
   ⟨({ ((inMode 4).setF F.FI_DL_CFG_EN 1) with fi := { roundOn := true } }).setF F.FI_X_PACE_OFF 1, 0, 3, 0, 3, 0, mkAddr 3 0 0 0,
      by decide +kernel⟩,
   ⟨{ { ((inMode 4).setF F.FI_DL_CFG_EN 1) with fi := { roundOn := true } } with img := { ((inMode 4).setF F.FI_DL_CFG_EN 1).img with eff := [] } },
      0, 0, by decide +kernel⟩⟩

/-- The hypotheses of each clause of `Obligations.LettersAndMapWritesAreAcknowledged` are met. -/
theorem witness_LettersAndMapWritesAreAcknowledged :
    (∃ (s : State) (v : W32), s.takes R.FI_DL_CFG ∧ s.getF F.FI_DL_CFG_EN = 0 ∧ bit v.toNat 0 = true) ∧
    (∃ (s : State) (v : W32) (n : Nat), s.takes R.FI_DL_HEAD ∧ n = 2 ^ s.fi.dlK ∧ s.fi.dlK ≤ 16 ∧ (∀ f ∈ s.fi.findings,
      f.ready = false) ∧ v.toNat < n ∧ (v.toNat + n - s.getF F.FI_DL_HEAD_HEAD % n) % n ≤ s.dlUnreleased) ∧
    (∃ (s : State) (v : W32) (n : Nat), s.takes R.FI_DL_HEAD ∧ n = 2 ^ s.fi.dlK ∧ s.fi.dlK ≤ 16 ∧ (∀ f ∈ s.fi.findings,
      f.ready = false) ∧ (n ≤ v.toNat ∨ s.dlUnreleased < (v.toNat + n - s.getF F.FI_DL_HEAD_HEAD % n) % n)) ∧
    (∃ (s : State) (b : Bytes) (l : List Bytes), s.fi.letters = b :: l ∧ s.writesOut = true ∧ s.getF F.PWR_DRAM_SR = 0 ∧
      s.getF F.FI_DL_CFG_EN = 1 ∧ s.fi.writing = false ∧ s.dlFull = false) ∧
    (∃ (s : State) (b : Bytes) (l : List Bytes), s.fi.letters = b :: l ∧ s.writesOut = true ∧ s.getF F.PWR_DRAM_SR = 0 ∧
      s.fi.writing = true ∧ s.fi.dlFailed = true) ∧
    (∃ (s : State) (b : Bytes) (l : List Bytes) (tail : Nat), s.fi.letters = b :: l ∧ s.fi.writing = true ∧ s.fi.dlFailed = false ∧
      tail = s.getF F.FI_DL_TAIL_TAIL + 1 ∧ s.fi.dlK ≤ 16 ∧ (∀ f ∈ s.fi.findings, f.ready = false)) ∧
    (∃ (s : State) (b : Bytes) (l : List Bytes) (tail : Nat), s.fi.letters = b :: l ∧ s.fi.writing = true ∧ s.fi.dlFailed = false ∧
      tail = s.getF F.FI_DL_TAIL_TAIL + 1 ∧ s.fi.dlK ≤ 16 ∧ (∀ f ∈ s.fi.findings, f.ready = false)) ∧
    (∃ (s : State) (id : Nat) (l : List Nat), s.fi.mapWrites = id :: l ∧ id ∉ l) ∧
    (∃ (s : State) (id : Nat) (l : List Nat) (e : Desc), s.fi.mapWrites = id :: l ∧ s.desc? id = some e ∧ e.status = none ∧
      e.bufferFault = false) ∧
    (∃ (s : State) (n : Nat) (l : List Nat), s.q.owns = n :: l) ∧
    (∃ (s : State), s.takes R.FI_SPARE_RANGE) ∧
    (∃ (s : State), s.takes R.FI_SPARE) :=
  ⟨⟨inMode 4, 1, by (unfold State.takes; decide +kernel)⟩,
   ⟨((inMode 4).setF F.FI_DL_CFG_EN 1), 0, 16, by (unfold State.takes; decide +kernel)⟩,
   ⟨((inMode 4).setF F.FI_DL_CFG_EN 1), 99, 16, by (unfold State.takes; decide +kernel)⟩,
   ⟨({ ((inMode 4).setF F.FI_DL_CFG_EN 1) with fi := { letters := [List.replicate 64 0] } }), List.replicate 64 0, [], by decide +kernel⟩,
   ⟨({ ((inMode 4).setF F.FI_DL_CFG_EN 1) with fi := { letters := [List.replicate 64 0], writing := true, dlFailed := true } }),
      List.replicate 64 0, [], by decide +kernel⟩,
   ⟨({ ((inMode 4).setF F.FI_DL_CFG_EN 1) with fi := { letters := [List.replicate 64 0], writing := true } }), List.replicate 64 0, [],
      1, by decide +kernel⟩,
   ⟨({ ((inMode 4).setF F.FI_DL_CFG_EN 1) with fi := { letters := [List.replicate 64 0], writing := true } }), List.replicate 64 0, [],
      1, by decide +kernel⟩,
   ⟨{ withD (inMode 4) (dsc 1 4 []) with fi := { mapWrites := [5] } }, 5, [], by decide +kernel⟩,
   ⟨{ withD (inMode 4) (dsc 1 4 []) with fi := { mapWrites := [5] } }, 5, [], dsc 1 4 [], by decide +kernel⟩,
   ⟨{ inMode 4 with q := { owns := [3] } }, 3, [], by decide +kernel⟩,
   ⟨inMode 4, by (unfold State.takes; decide +kernel)⟩,
   ⟨inMode 4, by (unfold State.takes; decide +kernel)⟩⟩

/-- The hypotheses of each clause of `Obligations.DiesAreRetiredAndRebuilt` are met. -/
theorem witness_DiesAreRetiredAndRebuilt :
    (∃ (s : State) (id : Nat) (k : Nat) (d : Desc), s.adminRuns id 0x60 d ∧ k = addrDie (field d.bytes 8 8) ∧ s.retired k = true) ∧
    (∃ (s : State) (id : Nat) (k : Nat) (d : Desc), s.adminRuns id 0x60 d ∧ k = addrDie (field d.bytes 8 8) ∧ s.retired k = false ∧
      s.dieSt k = 1 ∧ (s.die k).op = none ∧ (s.die k).held = none ∧ s.waitingFor k = []) ∧
    (∃ (s : State) (id : Nat) (k : Nat) (d : Desc), s.adminRuns id 0x60 d ∧ k = addrDie (field d.bytes 8 8) ∧ s.retired k = false ∧
      s.dieBusy k = true ∧ (s.die k).held = none ∧ s.waitingFor k = []) ∧
    (∃ (s : State) (id : Nat) (source : Nat) (target : Nat) (d : Desc) (toTarget : Bool), s.adminRuns id 0x61 d ∧
      source = addrDie (field d.bytes 8 8) ∧ toTarget = bit (field d.bytes 4 1) 0 ∧
      target = (if toTarget = true then addrDie (field d.bytes 20 8) else source) ∧ s.rebuildCheck toTarget source target = none) ∧
    (∃ (s : State) (id : Nat) (source : Nat) (target : Nat) (d : Desc) (toTarget : Bool) (i : Nat), s.adminRuns id 0x61 d ∧
      source = addrDie (field d.bytes 8 8) ∧ toTarget = bit (field d.bytes 4 1) 0 ∧
      target = (if toTarget = true then addrDie (field d.bytes 20 8) else source) ∧ s.rebuildCheck toTarget source target = some i) ∧
    (∃ (s : State) (entry : Nat) (x : Rebuild), s.rebuild? entry = some x ∧ s.rebuildRuns = true ∧ x.busy = 0 ∧ entry < 16 ∧
      x.erased = false) ∧
    (∃ (s : State) (entry : Nat) (maps : List Bytes) (err : Bool) (lost : Option Nat) (x : Rebuild), s.rebuild? entry = some x ∧
      s.rebuildRuns = true ∧ x.busy = 0 ∧ entry < 16 ∧ x.erased = true ∧ x.layout = none ∧ x.redo = [] ∧
      (s.mapOn = true → err = false ∧ lost = none) ∧ s.coveredBy maps x.source x.base = none ∧ x.after < s.rebuildLast x.source) ∧
    (∃ (s : State) (entry : Nat) (maps : List Bytes) (err : Bool) (lost : Option Nat) (x : Rebuild), s.rebuild? entry = some x ∧
      s.rebuildRuns = true ∧ x.busy = 0 ∧ entry < 16 ∧ x.erased = true ∧ x.layout = none ∧ x.redo = [] ∧
      (s.mapOn = true → err = false ∧ lost = none) ∧ s.coveredBy maps x.source x.base = none ∧ s.rebuildLast x.source ≤ x.after) :=
  ⟨⟨(adm (inMode 4) 0x60 []).setDieSt 0 9, 5, 0, dsc 0 0x60 [], by (unfold State.adminRuns; decide +kernel)⟩,
   ⟨(adm (inMode 4) 0x60 [(11, 0x40)]).setDieSt 1 1, 5, 1, dsc 0 0x60 [(11, 0x40)], by (unfold State.adminRuns; decide +kernel)⟩,
   ⟨(adm (inMode 4) 0x60 [(11, 0x40)]).setDieSt 1 2, 5, 1, dsc 0 0x60 [(11, 0x40)], by (unfold State.adminRuns; decide +kernel)⟩,
   ⟨adm (inMode 4) 0x61 [], 5, 0, 0, dsc 0 0x61 [], false, by (unfold State.adminRuns; decide +kernel)⟩,
   ⟨((adm ((inMode 4).setF F.FI_DL_CFG_EN 1) 0x61 [(11, 0x40)]).setF F.FI_SMAP_LO_EN 1).setR (R.FI_STALE 0) 2, 5, 1, 1,
      dsc 0 0x61 [(11, 0x40)], false, 0, by (unfold State.adminRuns; decide +kernel)⟩,
   ⟨{ ((inMode 4).setF F.FI_DL_CFG_EN 1) with fi := { rebuilds := [{ entry := 0, source := 1, target := 1, inPlace := true, previous := 0 }] } },
      0, { entry := 0, source := 1, target := 1, inPlace := true, previous := 0 }, by decide +kernel⟩,
   ⟨{ ((inMode 4).setF F.FI_DL_CFG_EN 1) with fi := { rebuilds := [{ entry := 0, source := 1, target := 1, inPlace := true, previous := 0, erased := true }] } },
      0, [], false, none, { entry := 0, source := 1, target := 1, inPlace := true, previous := 0, erased := true }, by decide +kernel⟩,
   ⟨{ ((inMode 4).setF F.FI_DL_CFG_EN 1) with fi := { rebuilds := [{ entry := 0, source := 1, target := 1, inPlace := true, previous := 0, erased := true, after := 1022 }] } },
      0, [], false, none, { entry := 0, source := 1, target := 1, inPlace := true, previous := 0, erased := true, after := 1022 },
      by decide +kernel⟩⟩

/-- The hypotheses of each clause of `Obligations.HomeCommitsAndSeals` are met. -/
theorem witness_HomeCommitsAndSeals :
    (∃ (s : State) (id : Nat) (d : Desc) (st : Nat), s.adminRuns id 0x5A d ∧ s.twinGone s.commitTwin = some st) ∧
    (∃ (s : State) (id : Nat) (d : Desc), s.adminRuns id 0x5A d ∧ s.twinGone s.commitTwin = none) ∧
    (∃ (s : State) (a : List Bytes) (b : List Bytes) (ga : Nat) (gb : Nat), s.twinClass 0 a = 0 ∧ s.modeNow = 3 ∧
      s.getF F.HB_STATUS_OUTCOME = 0 ∧ (∀ r, r < 2 → s.routeOn r = true → r ∈ s.seq.scanned) ∧ ga = field (a.getD 80 []) 8 4 ∧
      gb = field (b.getD 80 []) 8 4 ∧ (s.twinClass 1 b ≠ 0 ∨ genApart gb ga = true ∨ serialLater 32 gb ga = false)) ∧
    (∃ (s : State) (a : List Bytes) (b : List Bytes) (ga : Nat) (gb : Nat), s.twinClass 1 b = 0 ∧ s.modeNow = 3 ∧
      s.getF F.HB_STATUS_OUTCOME = 0 ∧ (∀ r, r < 2 → s.routeOn r = true → r ∈ s.seq.scanned) ∧ ga = field (a.getD 80 []) 8 4 ∧
      gb = field (b.getD 80 []) 8 4 ∧ (s.twinClass 0 a ≠ 0 ∨ (genApart gb ga = false ∧ serialLater 32 gb ga = true))) ∧
    (∃ (s : State) (a : List Bytes) (b : List Bytes) (ga : Nat) (gb : Nat), s.modeNow = 3 ∧ s.getF F.HB_STATUS_OUTCOME = 0 ∧ (∀ r,
      r < 2 → s.routeOn r = true → r ∈ s.seq.scanned) ∧ ga = field (a.getD 80 []) 8 4 ∧ gb = field (b.getD 80 []) 8 4 ∧
      s.twinClass 0 a ≠ 0 ∧ s.twinClass 1 b ≠ 0) ∧
    (∃ (s : State) (id : Nat) (k : Nat) (cred : Bytes) (d : Desc), s.adminRuns id 0x58 d ∧ k = field d.bytes 4 1 ∧
      (passwordOk (slice cred 0 65) true = false ∨ passwordOk (slice cred 65 65) false = false ∨ ((s.seal k).state = 0 ∧
      field (slice cred 0 65) 0 1 ≠ 0) ∨ ((s.seal k).state ≠ 0 ∧ field (slice cred 0 65) 0 1 = 0))) ∧
    (∃ (s : State) (id : Nat) (k : Nat) (cred : Bytes) (d : Desc), s.adminRuns id 0x58 d ∧ k = field d.bytes 4 1 ∧
      passwordOk (slice cred 0 65) true = true ∧ passwordOk (slice cred 65 65) false = true ∧
      ((s.seal k).state = 0 ↔ field (slice cred 0 65) 0 1 = 0) ∧ s.sealLocked k = true) ∧
    (∃ (s : State) (id : Nat) (k : Nat) (cred : Bytes) (d : Desc), (s.seal k).accepts (slice cred 0 65) = false ∧
      s.adminRuns id 0x58 d ∧ k = field d.bytes 4 1 ∧ passwordOk (slice cred 0 65) true = true ∧
      passwordOk (slice cred 65 65) false = true ∧ ((s.seal k).state = 0 ↔ field (slice cred 0 65) 0 1 = 0) ∧ s.sealLocked k = false ∧
      (s.seal k).state ≠ 0) ∧
    (∃ (s : State) (id : Nat) (k : Nat) (cred : Bytes) (d : Desc), s.adminRuns id 0x58 d ∧ k = field d.bytes 4 1 ∧
      passwordOk (slice cred 0 65) true = true ∧ passwordOk (slice cred 65 65) false = true ∧
      ((s.seal k).state = 0 ↔ field (slice cred 0 65) 0 1 = 0) ∧ s.sealLocked k = false ∧
      ((s.seal k).state ≠ 0 → (s.seal k).accepts (slice cred 0 65) = true) ∧ s.twinGone s.commitTwin = none) ∧
    (∃ (s : State) (id : Nat) (k : Nat) (n : Nat) (pw : Bytes) (d : Desc), s.adminRuns id 0x59 d ∧ k = field d.bytes 4 1 ∧
      n = satInc 8 (s.seal k).fails ∧ (passwordOk (slice pw 0 65) false = false ∨ (s.seal k).state = 0)) ∧
    (∃ (s : State) (id : Nat) (k : Nat) (n : Nat) (pw : Bytes) (d : Desc), s.adminRuns id 0x59 d ∧ k = field d.bytes 4 1 ∧
      n = satInc 8 (s.seal k).fails ∧ passwordOk (slice pw 0 65) false = true ∧ (s.seal k).state ≠ 0 ∧ s.sealLocked k = true) ∧
    (∃ (s : State) (id : Nat) (k : Nat) (n : Nat) (pw : Bytes) (d : Desc), (s.seal k).accepts (slice pw 0 65) = false ∧
      s.adminRuns id 0x59 d ∧ k = field d.bytes 4 1 ∧ n = satInc 8 (s.seal k).fails ∧ passwordOk (slice pw 0 65) false = true ∧
      (s.seal k).state ≠ 0 ∧ s.sealLocked k = false ∧ s.getF F.HB_X_LOCKOUT_OFF = 0) ∧
    (∃ (s : State) (id : Nat) (k : Nat) (n : Nat) (pw : Bytes) (d : Desc), (s.seal k).accepts (slice pw 0 65) = true ∧
      s.adminRuns id 0x59 d ∧ k = field d.bytes 4 1 ∧ n = satInc 8 (s.seal k).fails ∧ passwordOk (slice pw 0 65) false = true ∧
      (s.seal k).state ≠ 0 ∧ s.sealLocked k = false) ∧
    (∃ (k : Nat), k < 64) :=
  ⟨⟨rt0 (adm (inMode 4) 0x5A []) 0 {}, 5, dsc 0 0x5A [], St.routeDown, by (unfold State.adminRuns; decide +kernel)⟩,
   ⟨adm (inMode 4) 0x5A [], 5, dsc 0 0x5A [], by (unfold State.adminRuns; decide +kernel)⟩,
   ⟨{ inMode 3 with seq := { scanned := [0, 1] } }, validTwin 0, [], 0, 0,
      (twin_class _ 0 (by decide) (by decide +kernel) (by decide +kernel)), by decide +kernel⟩,
   ⟨{ inMode 3 with seq := { scanned := [0, 1] } }, [], validTwin 1, 0, 0,
      (twin_class _ 1 (by decide) (by decide +kernel) (by decide +kernel)), by decide +kernel⟩,
   ⟨{ inMode 3 with seq := { scanned := [0, 1] } }, [], [], 0, 0, by decide +kernel⟩,
   ⟨{ adm (inMode 4) 0x58 [] with hb := { seals := [(0, ({} : Seal))] } }, 5, 0, [], dsc 0 0x58 [],
      by (unfold State.adminRuns; decide +kernel)⟩,
   ⟨{ adm (inMode 4) 0x58 [] with hb := { seals := [(0, ({ state := 1, lockout := 9 } : Seal))] } }, 5, 0,
      (8 :: List.replicate 8 0x41 ++ List.replicate 56 0) ++ (8 :: List.replicate 8 0x41 ++ List.replicate 56 0), dsc 0 0x58 [],
      by (unfold State.adminRuns; decide +kernel)⟩,
   ⟨{ adm (inMode 4) 0x58 [] with hb := { seals := [(0, ({ state := 1, hash := 0 :: Config.sha256 (slice (8 :: List.replicate 8 0x41 ++ List.replicate 56 0) 1 (field (8 :: List.replicate 8 0x41 ++ List.replicate 56 0) 0 1)) } : Seal))] } },
      5, 0, (8 :: List.replicate 8 0x41 ++ List.replicate 56 0) ++ (8 :: List.replicate 8 0x41 ++ List.replicate 56 0), dsc 0 0x58 [],
      (by unfold Seal.accepts; exact decide_eq_false (fun h => List.cons_ne_self (0 : Byte) _ h.symm)),
      by (unfold State.adminRuns; decide +kernel)⟩,
   ⟨{ adm (inMode 4) 0x58 [] with hb := { seals := [(0, ({} : Seal))] } }, 5, 0, (List.replicate 65 0 : Bytes) ++
      (8 :: List.replicate 8 0x41 ++ List.replicate 56 0), dsc 0 0x58 [], by (unfold State.adminRuns; decide +kernel)⟩,
   ⟨{ adm (inMode 4) 0x59 [] with hb := { seals := [(0, ({} : Seal))] } }, 5, 0, 1, [], dsc 0 0x59 [],
      by (unfold State.adminRuns; decide +kernel)⟩,
   ⟨{ adm (inMode 4) 0x59 [] with hb := { seals := [(0, ({ state := 1, lockout := 9 } : Seal))] } }, 5, 0, 1,
      (8 :: List.replicate 8 0x41 ++ List.replicate 56 0), dsc 0 0x59 [], by (unfold State.adminRuns; decide +kernel)⟩,
   ⟨{ adm (inMode 4) 0x59 [] with hb := { seals := [(0, ({ state := 1, hash := 0 :: Config.sha256 (slice (8 :: List.replicate 8 0x41 ++ List.replicate 56 0) 1 (field (8 :: List.replicate 8 0x41 ++ List.replicate 56 0) 0 1)) } : Seal))] } },
      5, 0, 1, (8 :: List.replicate 8 0x41 ++ List.replicate 56 0), dsc 0 0x59 [],
      (by unfold Seal.accepts; exact decide_eq_false (fun h => List.cons_ne_self (0 : Byte) _ h.symm)),
      by (unfold State.adminRuns; decide +kernel)⟩,
   ⟨{ adm (inMode 4) 0x59 [] with hb := { seals := [(0, ({ state := 1, hash := Config.sha256 (slice (8 :: List.replicate 8 0x41 ++ List.replicate 56 0) 1 (field (8 :: List.replicate 8 0x41 ++ List.replicate 56 0) 0 1)) } : Seal))] } },
      5, 0, 1, (8 :: List.replicate 8 0x41 ++ List.replicate 56 0), dsc 0 0x59 [], (by unfold Seal.accepts; exact decide_eq_true rfl),
      by (unfold State.adminRuns; decide +kernel)⟩,
   ⟨63, by decide +kernel⟩⟩

/-- The hypotheses of each clause of `Obligations.DeleteCqFollowsItsBinding` are met. -/
theorem witness_DeleteCqFollowsItsBinding :
    (∃ (s : State) (id : Nat) (n : Nat) (d : Desc), s.adminRuns id 0x43 d ∧ n = field d.bytes 4 2 ∧ s.cq n = none) ∧
    (∃ (s : State) (id : Nat) (n : Nat) (d : Desc) (m : Nat) (x : SQ), s.adminRuns id 0x43 d ∧ n = field d.bytes 4 2 ∧ (m,
      some x) ∈ s.q.sqs ∧ x.cq = n) ∧
    (∃ (s : State) (id : Nat) (n : Nat) (d : Desc), (∀ m x, (m, some x) ∈ s.q.sqs → x.cq ≠ n) ∧ s.adminRuns id 0x43 d ∧
      n = field d.bytes 4 2 ∧ (s.cq n).isSome = true) :=
  ⟨⟨adm (inMode 4) 0x43 [(4, 9)], 5, 9, dsc 0 0x43 [(4, 9)], by (unfold State.adminRuns; decide +kernel)⟩,
   ⟨withQ (adm (inMode 4) 0x43 [(4, 1)]) { base := 4096, cq := 1 } {}, 5, 1, dsc 0 0x43 [(4, 1)], 1, { base := 4096, cq := 1 },
      by (unfold State.adminRuns; decide +kernel)⟩,
   ⟨withQ (adm (inMode 4) 0x43 [(4, 1)]) {} {}, 5, 1, dsc 0 0x43 [(4, 1)], (by intro m x h; simp [withQ] at h; simp [h.2]),
      by (unfold State.adminRuns; decide +kernel)⟩⟩

/-- The hypotheses of `Obligations.CompletionsCarryTheirFields` are met. -/
theorem witness_CompletionsCarryTheirFields : ∃ (s : State) (n : Nat) (st : Nat) (ns : Nat) (q : SQ) (c : CQ) (d : Desc),
      s.sq n = some q ∧ s.cq q.cq = some c ∧ q.order.head?.bind s.desc? = some d ∧ d.status = some st ∧ d.mailbag = false ∧
      q.mailHeld = 0 ∧ s.writesNext q.cq c = some n ∧ s.writesOut = true ∧ n ∉ s.q.owns ∧ c.fault = false ∧ c.inflight = none ∧
      c.unreleased < c.size - 1 ∧ s.getF F.PWR_DRAM_SR = 0 ∧ c.base % 16 = 0 ∧ ns = s.nowNs - d.admitNs ∧ q.head < 2 ^ 16 ∧ n < 1024 :=
  ⟨withQ (withD (inMode 4) { dsc 1 1 [] with status := some 0 }) { cq := 1, order := [5] } {}, 1, 0, (inMode 4).nowNs, { cq := 1, order := [5] },
      {}, { dsc 1 1 [] with status := some 0 }, by decide +kernel⟩

/-- The hypotheses of each clause of `Obligations.ImageLengthsAreHeldToTheirLimits` are met. -/
theorem witness_ImageLengthsAreHeldToTheirLimits :
    (∃ (s : State) (len : Nat), s.getF F.IMG_STATUS_STATE = 2 ∧ s.mode.watchImage = false ∧ len = s.getF F.IMG_LEN_LEN ∧
      (len < 368 ∨ 262144 < len ∨ len % 8 ≠ 0)) ∧
    (∃ (s : State) (len : Nat), s.getF F.IMG_STATUS_STATE = 2 ∧ s.mode.watchImage = false ∧ len = s.getF F.IMG_LEN_LEN ∧ 368 ≤ len ∧
      len ≤ 262144 ∧ len % 8 = 0 ∧ field s.img.staging 8 4 = len) :=
  ⟨⟨(inMode 2).setF F.IMG_STATUS_STATE 2, 0, by decide +kernel⟩,
   ⟨{ ((inMode 2).setF F.IMG_STATUS_STATE 2).setF F.IMG_LEN_LEN 368 with img := { staging := [0, 0, 0, 0, 0, 0, 0, 0, 0x70, 1] } },
      368, by decide +kernel⟩⟩

/-- The hypotheses of each clause of `Obligations.StepRunsTheFrontCommand` are met. -/
theorem witness_StepRunsTheFrontCommand :
    (∃ (s : State) (c : Instr) (rest : List Instr), s.pending = c :: rest) ∧
    (∃ (s : State) (t : State) (c : Instr) (rest : List Instr), step s = .next t ∧ s.pending = c :: rest) ∧
    (∃ (s : State), s.pending = []) :=
  ⟨⟨{ inMode 4 with pending := [.postmarkTick] }, .postmarkTick, [], by decide +kernel⟩,
   ⟨{ inMode 4 with pending := [.resetAssert 0] }, ran (.resetAssert 0) (inMode 4), .resetAssert 0, [], (rfl), by decide +kernel⟩,
   ⟨inMode 4, by decide +kernel⟩⟩

/-- The hypotheses of `Obligations.EveryStepKeepsTheInvariant` are met. -/
theorem witness_EveryStepKeepsTheInvariant : ∃ (f : Fuses) (o : List Output) (s : State) (t : State), StateInv f o s ∧ step s = .next t :=
  ⟨(inMode 4).fuses, [], { inMode 4 with pending := [.resetAssert 0] }, ran (.resetAssert 0) (inMode 4),
      (by unfold StateInv; decide +kernel), (rfl)⟩

/-- The hypotheses of `Obligations.EveryCommandKeepsItsFrame` are met. -/
theorem witness_EveryCommandKeepsItsFrame : ∃ (c : Instr) (s : State) (t : State), exec c s = .next t :=
  ⟨.resetAssert 0, inMode 4, ran (.resetAssert 0) (inMode 4), (rfl)⟩

/-- The hypotheses of each clause of `Obligations.OnlyNamedCommandsMoveModesSecurityAndRoutes` are met. -/
theorem witness_OnlyNamedCommandsMoveModesSecurityAndRoutes :
    (∃ (s : State) (t : State), step s = .next t ∧
      (t.modeNow ≠ s.modeNow ∨ t.getF F.MODE_PREV ≠ s.getF F.MODE_PREV ∨ t.getF F.MODE_SAFE_CAUSE ≠ s.getF F.MODE_SAFE_CAUSE)) ∧
    (∃ (s : State) (t : State), step s = .next t ∧ (t.secState ≠ s.secState ∨ t.dbgLevel ≠ s.dbgLevel)) ∧
    (∃ (s : State) (t : State) (r : Nat), step s = .next t ∧ t.routeSt r ≠ s.routeSt r) :=
  ⟨⟨{ (inMode 4).setF F.SEC_STATUS_STATE 2 with pending := [.resetAssert 0] },
      ran (.resetAssert 0) ((inMode 4).setF F.SEC_STATUS_STATE 2), (rfl), by decide +kernel⟩,
   ⟨{ (inMode 4).setF F.SEC_STATUS_STATE 2 with pending := [.resetAssert 0] },
      ran (.resetAssert 0) ((inMode 4).setF F.SEC_STATUS_STATE 2), (rfl), by decide +kernel⟩,
   ⟨{ (inMode 4).setF F.SEC_STATUS_STATE 2 with pending := [.resetAssert 0] },
      ran (.resetAssert 0) ((inMode 4).setF F.SEC_STATUS_STATE 2), 0, (rfl), by decide +kernel⟩⟩

end Sys2Proof.Tests
end

section
/-! PROOFS. Register writes by the access codes of Table 0-2 (R9), and what expert access guards (R12). -/

namespace Sys2Proof.Machine

/-! ### Bits of a word -/

/-- A value put into a word keeps its low 32 bits. -/
theorem testBit_word {i : Nat} (n : Nat) (hi : i < 32) : (BitVec.ofNat 32 n).toNat.testBit i = n.testBit i := by
  rw [BitVec.toNat_ofNat, Nat.testBit_mod_two_pow, decide_eq_true hi, Bool.true_and]

/-- A mask's complement, as the model writes it. -/
theorem testBit_ones_xor {i : Nat} (m : Nat) (hi : i < 32) : (0xFFFFFFFF ^^^ m).testBit i = !m.testBit i := by
  have ones : (0xFFFFFFFF : Nat).testBit i = true := by
    rw [show (0xFFFFFFFF : Nat) = 2 ^ 32 - 1 from rfl, Nat.testBit_two_pow_sub_one, decide_eq_true hi]
  rw [Nat.testBit_xor, ones, Bool.true_xor]

theorem testBit_maskIn {i : Nat} (m v x : Nat) (hi : i < 32) :
    (maskIn m v x).testBit i = if m.testBit i then x.testBit i else v.testBit i := by
  unfold maskIn
  rw [Nat.testBit_or, Nat.testBit_and, Nat.testBit_and, testBit_ones_xor m hi]
  cases m.testBit i <;> simp

/-- Words that agree on a mask: taking its bits from either gives the same word. -/
theorem maskIn_of_agree {m : Nat} {v x : W32} (h : (v.toNat ^^^ x.toNat) &&& m = 0) :
    BitVec.ofNat 32 (maskIn m v.toNat x.toNat) = v := by
  refine BitVec.eq_of_getLsbD_eq fun i hi => ?_
  have hbit : ((v.toNat ^^^ x.toNat) &&& m).testBit i = false := by rw [h, Nat.zero_testBit]
  rw [Nat.testBit_and, Nat.testBit_xor] at hbit
  refine (testBit_word _ hi).trans ?_
  rw [testBit_maskIn _ _ _ hi]
  split
  next hm =>
    have same : v.toNat.testBit i = x.toNat.testBit i := by simpa [hm] using hbit
    exact same.symm
  next => rfl

/-! ### The rows of the register map -/

/-- No bit of the row's registers is stored, cleared or set by a write: all are RO or WO (Table 0-2). -/
def RegRow.storesNothing (row : RegRow) : Bool :=
  row.rw = 0 && row.rwx = 0 && row.rwl = 0 && row.w1c = 0 && row.w1s = 0

/-- RWX is the one access code by which a write to the row's registers stores anything (Table 0-2). -/
def RegRow.expertOnly (row : RegRow) : Bool :=
  row.rw = 0 && row.rwl = 0 && row.w1c = 0 && row.w1s = 0

/-- The registers that hold RWX fields alone, as `Obligations.ExpertAccessGuardsItsFields` names them. -/
abbrev expertRegs : List Nat := [R.PM_HOLD_X, R.Q_X, R.MI_X, R.FI_X, R.RC_DEC_X, R.SO_X, R.HB_X, R.PWR_BND_X]

theorem expertRegs_rows : ∀ off ∈ expertRegs, (regRow? off).all RegRow.expertOnly = true := by decide

theorem expertRegs_plain : ∀ off ∈ expertRegs, actsOnWrite off = false := by decide

theorem expertRegs_still : ∀ off ∈ expertRegs,
    State.still off ∧ off ≠ R.ERR_ADDR ∧ off ≠ R.ERR_COUNT ∧ off ≠ R.ERR_CAUSE := by decide

theorem MODE_storesNothing : (regRow? R.MODE).all RegRow.storesNothing = true := by decide

theorem SEC_STATUS_storesNothing : (regRow? R.SEC_STATUS).all RegRow.storesNothing = true := by decide

/-- No register lies above the 32 route blocks (R388). -/
theorem regPageRows_above {p : Nat} (h : 64 ≤ p) : regPageRows p = [] := by
  unfold regPageRows
  split
  iterate 16 · omega
  · exact if_neg (by omega)

theorem RT_STATUS_storesNothing (r : Nat) : (regRow? (R.RT_STATUS r)).all RegRow.storesNothing = true := by
  by_cases hr : r < 32
  · have blocks : ∀ r < 32, (regRow? (R.RT_STATUS r)).all RegRow.storesNothing = true := by decide
    exact blocks r hr
  · have habove : regRow? (R.RT_STATUS r) = none := by
      unfold regRow?
      rw [regPageRows_above (by unfold R.RT_STATUS; omega)]
      rfl
    rw [habove]
    rfl

/-- A doorbell is not a plain register. -/
theorem isDoor_of_plain {off : Nat} (h : actsOnWrite off = false) : isDoor off = false := by
  simp only [actsOnWrite, Bool.or_eq_false_iff] at h
  obtain ⟨⟨-, hdoor⟩, -⟩ := h
  unfold isDoor
  rw [hdoor, Bool.false_and]

namespace State

variable (s : State)

/-! ### A plain write (Table 0-2) -/

/-- A plain write bit by bit, by the access codes. -/
theorem testBit_getR_plainWrite {i : Nat} (row : RegRow) (off : Nat) (v : W32) (hi : i < 32) :
    ((s.plainWrite row off v).getR off).toNat.testBit i =
      (((if (row.rw ||| row.rwx ||| row.rwl).testBit i then v.toNat.testBit i else (s.getR off).toNat.testBit i) &&
        !(v.toNat.testBit i && row.w1c.testBit i)) || (v.toNat.testBit i && row.w1s.testBit i)) := by
  unfold State.plainWrite
  rw [getR_setR_same, testBit_word _ hi, Nat.testBit_or, Nat.testBit_and, Nat.testBit_and, testBit_maskIn _ _ _ hi,
    testBit_ones_xor _ hi, Nat.testBit_and]

theorem getR_plainWrite_ne {off x : Nat} (row : RegRow) (v : W32) (h : x ≠ off) :
    (s.plainWrite row off v).getR x = s.getR x :=
  getR_setR_ne s _ h

/-- A write that carries the current value in every RWX bit changes no register of a row of RWX fields alone. -/
theorem getR_plainWrite_expertOnly {row : RegRow} {off : Nat} {v : W32} (hrow : row.expertOnly = true)
    (hv : ∀ i < 32, row.rwx.testBit i = true → v.toNat.testBit i = (s.getR off).toNat.testBit i) :
    (s.plainWrite row off v).getR off = s.getR off := by
  simp only [RegRow.expertOnly, Bool.and_eq_true, decide_eq_true_eq] at hrow
  obtain ⟨⟨⟨hrw, hrwl⟩, hw1c⟩, hw1s⟩ := hrow
  refine BitVec.eq_of_getLsbD_eq fun i hi => (testBit_getR_plainWrite s row off v hi).trans ?_
  rw [hrw, hrwl, hw1c, hw1s, Nat.zero_or, Nat.or_zero, Nat.zero_testBit]
  simp only [Bool.and_false, Bool.not_false, Bool.and_true, Bool.or_false]
  split
  next hx => exact hv i hi hx
  next => rfl

/-- A plain write leaves every field of a register whose row stores nothing. -/
theorem getF_plainWrite_of_storesNothing {row : RegRow} {off : Nat} (f : Field) (v : W32) (hr : regRow? off = some row)
    (hf : (regRow? f.off).all RegRow.storesNothing = true) : (s.plainWrite row off v).getF f = s.getF f := by
  by_cases ho : f.off = off
  · rw [ho, hr, Option.all_some] at hf
    simp only [RegRow.storesNothing, Bool.and_eq_true, decide_eq_true_eq] at hf
    obtain ⟨⟨⟨⟨hrw, hrwx⟩, hrwl⟩, hw1c⟩, hw1s⟩ := hf
    have same : (s.plainWrite row off v).getR off = s.getR off :=
      getR_plainWrite_expertOnly s (by simp [RegRow.expertOnly, hrw, hrwl, hw1c, hw1s]) (by simp [hrwx])
    unfold State.getF
    rw [ho, same]
  · unfold State.getF
    rw [getR_plainWrite_ne s row v ho]

/-- A plain write changes its register's group alone: the mode code, the security level and the route states are RO. -/
theorem plainWrite_group_frame {row : RegRow} {off : Nat} (v : W32) (hr : regRow? off = some row) :
    Frame (may [.regs (regGroup off)]) s (s.plainWrite row off v) :=
  { Frame.refl s with
    regsWf := wf_tset _ _ _ _
    reg := fun x hx => getR_plainWrite_ne s row v fun e => by simp [may, Part.place, e, Nat.testBit_two_pow_self] at hx
    modeCode := fun _ => getF_plainWrite_of_storesNothing s _ v hr MODE_storesNothing
    secCode := fun _ => getF_plainWrite_of_storesNothing s _ v hr SEC_STATUS_storesNothing
    routeStates := fun _ r => getF_plainWrite_of_storesNothing s _ v hr (RT_STATUS_storesNothing r) }

/-! ### A write that reaches its register -/

/-- A register whose write does no more than store takes it by the access codes alone. -/
theorem applyWrite_plain {off : Nat} (row : RegRow) (v : W32) (h : actsOnWrite off = false) :
    s.applyWrite row off v = s.plainWrite row off v := by
  simp only [actsOnWrite, Bool.or_eq_false_iff, List.contains_cons, List.contains_nil, beq_eq_false_iff_ne,
    decide_eq_false_iff_not, Bool.and_eq_false_iff, ne_eq] at h
  unfold State.applyWrite
  simp only [h, if_false]
  obtain ⟨-, hphy⟩ := h
  exact if_neg fun ⟨hlow, hhigh, hctrl⟩ => hphy.elim (· ⟨hlow, hhigh⟩) (· hctrl)

theorem takeWrite_plain {off : Nat} (row : RegRow) (v : W32) (hc : s.clockStopped off = false) (hh : s.sec.heldWrites = [])
    (hp : actsOnWrite off = false) : s.takeWrite row off v = s.plainWrite row off v := by
  unfold State.takeWrite
  rw [if_neg (by simp [hc]), applyWrite_plain s row v hp]
  exact releaseHeld_nil hh

/-- A write that reaches its register and leaves the locked bits alone is taken whole. -/
theorem writeReg_of_unlocked {s : State} {off : Nat} {row : RegRow} {v : W32} (h : s.takes off) (hr : regRow? off = some row)
    (hd : isDoor off = false) (hm : (v.toNat ^^^ (s.getR off).toNat) &&& s.lockedMask row = 0) :
    s.writeReg off v = s.takeWrite row off v := by
  obtain ⟨hanswers, hsafe, -, hheld⟩ := h
  unfold State.writeReg
  rw [if_neg (by simp [hanswers]), hr]
  dsimp only
  rw [if_neg (by simp [hd]), if_neg fun q => hsafe q.1, shown_nil hheld, maskIn_of_agree hm, hm]
  rfl

/-- A write that reaches its register and would change a locked bit is logged as LOCKED and taken with the locked bits as they are. -/
theorem writeReg_of_locked {s : State} {off : Nat} {row : RegRow} {v : W32} (h : s.takes off) (hr : regRow? off = some row)
    (hd : isDoor off = false) (hm : (v.toNat ^^^ (s.getR off).toNat) &&& s.lockedMask row ≠ 0) :
    s.writeReg off v = (s.logErr 3 off true).takeWrite row off
      (BitVec.ofNat 32 (maskIn (s.lockedMask row) v.toNat (s.getR off).toNat)) := by
  obtain ⟨hanswers, hsafe, -, hheld⟩ := h
  unfold State.writeReg
  rw [if_neg (by simp [hanswers]), hr]
  dsimp only
  rw [if_neg (by simp [hd]), if_neg fun q => hsafe q.1, shown_nil hheld, decide_eq_true hm]
  rfl

/-! ### What the error log leaves -/

theorem getR_logErr_ne {off : Nat} (kind a : Nat) (w : Bool) (h : still off)
    (he : off ≠ R.ERR_ADDR ∧ off ≠ R.ERR_COUNT ∧ off ≠ R.ERR_CAUSE) : (s.logErr kind a w).getR off = s.getR off := by
  obtain ⟨haddr, hcount, hcause⟩ := he
  unfold State.logErr
  rw [raise_getR_ne _ h hcause, getR_bump_ne _ hcount, getR_setR_ne _ _ haddr]

theorem getR_logErr_count (kind a : Nat) (w : Bool) : (s.logErr kind a w).getR R.ERR_COUNT = s.getR R.ERR_COUNT + 1 := by
  unfold State.logErr
  rw [raise_getR_ne _ (by decide) (show R.ERR_COUNT ≠ R.ERR_CAUSE by decide), getR_bump_same, getR_setR_ne _ _ (by decide)]

theorem getF_logErr_cause {kind : Nat} (a : Nat) (w : Bool) (hk : kind ≤ 32) :
    (s.logErr kind a w).getF ⟨R.ERR_CAUSE, kind - 1, 1⟩ = 1 := by
  unfold State.logErr
  exact raise_getF _ (by show still R.ERR_CAUSE; decide) rfl (by show kind - 1 + 1 ≤ 32; omega)

/-- MODE is the low four bits of the mode code. -/
theorem modeNow_eq_code : s.modeNow = s.getF ⟨R.MODE, 0, 12⟩ % 2 ^ 4 := by
  unfold State.modeNow State.getF bits F.MODE_MODE
  rw [Nat.mod_mod_of_dvd _ (by decide)]

theorem modeNow_of_frame {m : Nat} {s t : State} (h : Frame m s t) (hm : m.testBit 36 = false) : t.modeNow = s.modeNow := by
  rw [modeNow_eq_code, modeNow_eq_code, h.modeCode hm]

/-- A logged access stops and starts no clock. -/
theorem clockStopped_logErr (kind a : Nat) (w : Bool) (off : Nat) : (s.logErr kind a w).clockStopped off = s.clockStopped off := by
  have hframe := State.logErr_frame s kind a w
  have hdec : (s.logErr kind a w).getF F.PWR_X_HOLD_DEC_ON = s.getF F.PWR_X_HOLD_DEC_ON := by
    unfold State.getF
    rw [getR_logErr_ne s kind a w (by decide) (by decide)]
  unfold State.clockStopped
  rw [modeNow_of_frame hframe (by decide), hframe.bnd (by decide), hdec]
  simp only [hframe.routeStates (by decide)]

/-- While expert access is closed, a register of RWX fields alone has its RWX bits for its locked bits. -/
theorem lockedMask_expertOnly {s : State} {row : RegRow} (hclosed : s.expertOpen = false) (hrow : row.expertOnly = true) :
    s.lockedMask row = row.rwx := by
  simp only [RegRow.expertOnly, Bool.and_eq_true, decide_eq_true_eq] at hrow
  obtain ⟨⟨⟨-, hrwl⟩, -⟩, -⟩ := hrow
  unfold State.lockedMask
  simp [hclosed, hrwl]

/-- A write that would change an RWX field of a register that expert access guards is logged, and nothing is stored. -/
theorem writeReg_closed {s : State} {off : Nat} {v : W32} {row : RegRow} (htakes : s.takes off) (hclosed : s.expertOpen = false)
    (hoff : off ∈ expertRegs) (hr : regRow? off = some row) (hchange : (v.toNat ^^^ (s.getR off).toNat) &&& row.rwx ≠ 0) :
    (s.writeReg off v).getR off = s.getR off ∧ ∀ x ≠ off, (s.writeReg off v).getR x = (s.logErr 3 off true).getR x := by
  have hplain := expertRegs_plain off hoff
  have hrow : row.expertOnly = true := by simpa [hr] using expertRegs_rows off hoff
  obtain ⟨hstill, hlog⟩ := expertRegs_still off hoff
  have hlocked := State.lockedMask_expertOnly hclosed hrow
  have hkept : (s.logErr 3 off true).getR off = s.getR off := s.getR_logErr_ne 3 off true hstill hlog
  have hwrite := State.writeReg_of_locked htakes hr (isDoor_of_plain hplain) (hlocked ▸ hchange)
  obtain ⟨-, -, hclock, hheld⟩ := htakes
  rw [hlocked, State.takeWrite_plain _ row _ ((s.clockStopped_logErr 3 off true off).trans hclock)
    (by rw [(State.logErr_frame s 3 off true).sec (by decide), hheld]) hplain] at hwrite
  rw [hwrite]
  refine ⟨?_, fun x hx => State.getR_plainWrite_ne _ row _ hx⟩
  rw [← hkept]
  refine State.getR_plainWrite_expertOnly _ hrow fun i hi hx => ?_
  rw [testBit_word _ hi, testBit_maskIn _ _ _ hi, if_pos hx]

/-! ### The expert key (R12) -/

theorem getF_expertKey (v : Nat) :
    (s.expertKey v).getF F.SEC_STATUS_EXPERT_OPEN = if v = 0x5A17 ∧ s.secState ≠ 3 then 1 else 0 := by
  unfold State.expertKey
  rw [getF_setF_same s _ _ (by decide)]
  by_cases hopen : v = 0x5A17 ∧ s.secState ≠ 3
  · simp [hopen, b2n, F.SEC_STATUS_EXPERT_OPEN]
  · rw [if_neg hopen, show (decide (v = 0x5A17) && decide (s.secState ≠ 3)) = false by simpa using hopen]
    rfl

/-- The key's register has no locked bit: a write of it takes effect. -/
theorem writeReg_key {s : State} {v : W32} (h : s.takes R.EXPERT_KEY) : s.writeReg R.EXPERT_KEY v = s.expertKey v.toNat := by
  obtain ⟨row, hr, hrwx, hrwl⟩ : ∃ row, regRow? R.EXPERT_KEY = some row ∧ row.rwx = 0 ∧ row.rwl = 0 :=
    ⟨_, rfl, rfl, rfl⟩
  have hkey : s.applyWrite row R.EXPERT_KEY v = s.expertKey v.toNat := rfl
  have hheld : (s.expertKey v.toNat).sec.heldWrites = [] := by
    obtain ⟨-, -, -, hnone⟩ := h
    exact hnone
  rw [writeReg_takes h hr (by decide) (by simp [State.lockedMask, hrwx, hrwl]) (hkey ▸ hheld), hkey]

end State

/-! ### The statements -/

/-- Settles O2: the write that reaches a plain register is `State.plainWrite`, and the codes act bit by bit. -/
theorem plainWriteFollowsAccessCodes : Obligations.PlainWriteFollowsAccessCodes := by
  intro s off v row htakes hr hplain hm
  have hwrite : s.writeReg off v = s.plainWrite row off v := by
    rw [State.writeReg_of_unlocked htakes hr (isDoor_of_plain hplain) hm]
    obtain ⟨-, -, hclock, hheld⟩ := htakes
    exact s.takeWrite_plain row v hclock hheld hplain
  refine ⟨s.plainWrite row off v, congrArg Host.Outcome.next hwrite, ?_, ?_, ?_⟩
  · exact fun i hi => s.testBit_getR_plainWrite row off v hi
  · exact fun x hx => s.getR_plainWrite_ne row v hx
  · exact s.plainWrite_group_frame v hr

/-- Settles O3: a guarded register keeps its value through `State.writeReg_closed`, and the key's write is `State.expertKey`. -/
theorem expertAccessGuardsItsFields : Obligations.ExpertAccessGuardsItsFields := by
  refine ⟨fun s off v row htakes hclosed hoff hr hchange => ?_, fun s v htakes => ?_⟩
  · obtain ⟨hsame, hothers⟩ := State.writeReg_closed htakes hclosed hoff hr hchange
    obtain ⟨-, -, hcount, hcause⟩ := expertRegs_still off hoff
    refine ⟨s.writeReg off v, rfl, hsame, ?_, ?_⟩
    · rw [hothers _ hcount.symm, State.getR_logErr_count]
    · have hlogged := s.getF_logErr_cause (kind := 3) off true (by decide)
      unfold State.getF at hlogged ⊢
      rwa [hothers _ hcause.symm]
  · refine ⟨s.expertKey v.toNat, congrArg Host.Outcome.next (State.writeReg_key htakes), s.getF_expertKey _, ?_, ?_⟩
    · exact fun x hx => State.getR_setF_ne s _ hx
    · exact State.expertKey_frame s v.toNat

end Sys2Proof.Machine
end

section
/-! PROOFS. What a framed step keeps of the parts that later proofs read, and reads after writes of descriptors and rows. -/

namespace Sys2Proof.Machine

/-! ### Lists -/

/-- A fold whose every step changes nothing. -/
theorem foldl_eq_self {α β : Type} {f : β → α → β} {b : β} {l : List α} (h : ∀ x ∈ l, f b x = b) : l.foldl f b = b := by
  induction l with
  | nil => rfl
  | cons x l ih =>
    rw [List.foldl_cons, h x (by simp)]
    exact ih fun y hy => h y (by simp [hy])

/-- Where the elements with the key of `y` become `y`, a search for that key finds `y`. -/
theorem find?_replace_same {α : Type} {key : α → Nat} {l : List α} {x y : α} (h : l.find? (key · = key y) = some x) :
    (l.map fun z => if key z = key y then y else z).find? (key · = key y) = some y := by
  induction l with
  | nil => cases h
  | cons z l ih =>
    by_cases hz : key z = key y
    · simp [hz]
    · rw [List.find?_cons_of_neg (by simpa using hz)] at h
      simpa [hz] using ih h

/-- A search for another key finds what it found before. -/
theorem find?_replace_ne {α : Type} {key : α → Nat} {y : α} {k : Nat} (l : List α) (hk : k ≠ key y) :
    (l.map fun z => if key z = key y then y else z).find? (key · = k) = l.find? (key · = k) := by
  induction l with
  | nil => rfl
  | cons z l ih =>
    by_cases hz : key z = key y
    · have hne : ¬ key y = k := fun e => hk e.symm
      simp [hz, hne, ih]
    · simp [hz, List.find?_cons, ih]

theorem mem_insertBy {α : Type} {f : α → Nat} {x y : α} {l : List α} : x ∈ insertBy f y l ↔ x = y ∨ x ∈ l := by
  induction l with
  | nil => simp [insertBy]
  | cons z l ih =>
    unfold insertBy
    split
    · simp
    · simp [ih, or_left_comm]

/-- Sorting keeps the members of a list. -/
theorem mem_sortBy {α : Type} {f : α → Nat} {x : α} {l : List α} : x ∈ sortBy f l ↔ x ∈ l := by
  have hfold : ∀ acc, x ∈ l.foldl (fun acc x => insertBy f x acc) acc ↔ x ∈ acc ∨ x ∈ l := by
    induction l with
    | nil => simp
    | cons z l ih => intro acc; simp [ih, mem_insertBy, or_assoc, or_left_comm]
  simpa [sortBy] using hfold []

namespace Frame

variable {m : Nat} {s t : State}

/-! ### Waiting operations, jobs, rows and dies -/

theorem rows (h : Frame m s t) (h8 : m.testBit 8 = false) : t.seq.rows = s.seq.rows := by rw [h.seq h8]
theorem waiting (h : Frame m s t) (h8 : m.testBit 8 = false) : t.seq.waiting = s.seq.waiting := by rw [h.seq h8]
theorem ahead (h : Frame m s t) (h8 : m.testBit 8 = false) : t.seq.ahead = s.seq.ahead := by rw [h.seq h8]
theorem dies (h : Frame m s t) (h8 : m.testBit 8 = false) : t.seq.dies = s.seq.dies := by rw [h.seq h8]

theorem row? (h : Frame m s t) (h8 : m.testBit 8 = false) (id : Nat) : t.row? id = s.row? id := by
  unfold State.row?; rw [h.rows h8]

theorem rowFind (h : Frame m s t) (h8 : m.testBit 8 = false) (j b p : Nat) : t.rowFind j b p = s.rowFind j b p := by
  unfold State.rowFind; rw [h.rows h8]

theorem desc? (h : Frame m s t) (h7 : m.testBit 7 = false) (id : Nat) : t.desc? id = s.desc? id := by
  unfold State.desc?; rw [h.descs h7]

theorem sqLeaving (h : Frame m s t) (h6 : m.testBit 6 = false) (n : Nat) : t.sqLeaving n = s.sqLeaving n := by
  unfold State.sqLeaving State.sq; rw [h.q h6]

/-! ### Fields of registers -/

theorem getF (h : Frame m s t) {f : Field} (hf : m.testBit (18 + regGroup f.off) = false) : t.getF f = s.getF f := by
  unfold State.getF; rw [h.reg _ hf]

theorem coaState (h : Frame m s t) (h26 : m.testBit 26 = false) (i : Nat) : t.getF (F.FI_COA_A_STATE i) = s.getF (F.FI_COA_A_STATE i) :=
  h.getF (by rw [regGroup_F_FI_COA_A_STATE]; exact h26)

theorem coaSource (h : Frame m s t) (h26 : m.testBit 26 = false) (i : Nat) :
    dieKey (t.getF (F.FI_COA_A_SRC_ROUTE i)) (t.getF (F.FI_COA_A_SRC_DIE i)) =
      dieKey (s.getF (F.FI_COA_A_SRC_ROUTE i)) (s.getF (F.FI_COA_A_SRC_DIE i)) := by
  rw [h.getF (by rw [regGroup_F_FI_COA_A_SRC_ROUTE]; exact h26), h.getF (by rw [regGroup_F_FI_COA_A_SRC_DIE]; exact h26)]

theorem coaTarget (h : Frame m s t) (h26 : m.testBit 26 = false) (i : Nat) :
    dieKey (t.getF (F.FI_COA_A_TGT_ROUTE i)) (t.getF (F.FI_COA_A_TGT_DIE i)) =
      dieKey (s.getF (F.FI_COA_A_TGT_ROUTE i)) (s.getF (F.FI_COA_A_TGT_DIE i)) := by
  rw [h.getF (by rw [regGroup_F_FI_COA_A_TGT_ROUTE]; exact h26), h.getF (by rw [regGroup_F_FI_COA_A_TGT_DIE]; exact h26)]

/-! ### Changes of address (R303) -/

theorem busDie (h : Frame m s t) (h26 : m.testBit 26 = false) (k : Nat) : t.busDie k = s.busDie k := by
  unfold State.busDie State.coaOf
  simp only [h.coaState h26, h.coaSource h26, h.coaTarget h26]

theorem busAddr (h : Frame m s t) (h26 : m.testBit 26 = false) (a : Nat) : t.busAddr a = s.busAddr a := by
  unfold State.busAddr; rw [h.busDie h26]

theorem logicalDie (h : Frame m s t) (h26 : m.testBit 26 = false) (k : Nat) : t.logicalDie k = s.logicalDie k := by
  unfold State.logicalDie
  simp only [h.coaState h26, h.coaSource h26, h.coaTarget h26]

/-! ### Dies that cannot be used (R17, R84) -/

theorem dieGone (h : Frame m s t) (h26 : m.testBit 26 = false) (h35 : m.testBit 35 = false) (hd : t.seq.dies = s.seq.dies) (k : Nat) :
    t.dieGone k = s.dieGone k := by
  have hstate : t.dieSt k = s.dieSt k := h.getF (by rw [regGroup_F_RT_DIE_STATE]; exact h35)
  have hstale : t.stale k = s.stale k := by
    have hoff : R.FI_STALE 0 + 4 * (k / 32 % 32) < 0x9000 ∧ 0x8000 ≤ R.FI_STALE 0 + 4 * (k / 32 % 32) := by
      unfold R.FI_STALE; omega
    have hgroup : regGroup (R.FI_STALE 0 + 4 * (k / 32 % 32)) = 8 := by
      unfold regGroup; rw [if_pos (by omega)]; omega
    unfold State.stale State.getBit
    rw [h.reg _ (by rw [hgroup]; exact h26)]
  unfold State.dieGone State.retired State.die
  rw [hstate, hstale, hd]

theorem routeSt (h : Frame m s t) (h32 : m.testBit 32 = false) (r : Nat) : t.routeSt r = s.routeSt r :=
  h.getF (by rw [regGroup_F_RT_STATUS_STATE]; exact h32)

theorem unreadable (h : Frame m s t) (h26 : m.testBit 26 = false) (h32 : m.testBit 32 = false) (h35 : m.testBit 35 = false)
    (hd : t.seq.dies = s.seq.dies) (a : Nat) (act : Bool) : t.unreadable a act = s.unreadable a act := by
  unfold State.unreadable
  simp only [h.busDie h26, h.routeSt h32, h.dieGone h26 h35 hd]

theorem writeDie (h : Frame m s t) (h26 : m.testBit 26 = false) (h32 : m.testBit 32 = false) (h35 : m.testBit 35 = false)
    (hd : t.seq.dies = s.seq.dies) (k : Nat) : t.writeDie k = s.writeDie k := by
  unfold State.writeDie State.routeUp
  simp only [h.busDie h26, h.routeSt h32, h.dieGone h26 h35 hd]

end Frame

namespace State

variable {s : State}

/-! ### Descriptors: read after write -/

theorem id_of_desc? {id : Nat} {d : Desc} (h : s.desc? id = some d) : d.id = id := by simpa using List.find?_some h

theorem desc?_setDesc_same {d x : Desc} (h : s.desc? d.id = some x) : (s.setDesc d).desc? d.id = some d := find?_replace_same h

theorem desc?_setDesc_ne {d : Desc} {id : Nat} (h : id ≠ d.id) : (s.setDesc d).desc? id = s.desc? id := find?_replace_ne _ h

/-- A descriptor that starts is found as started. -/
theorem desc?_started {id : Nat} {d : Desc} (h : s.desc? id = some d) :
    (s.setDesc { d with started := true }).desc? id = some { d with started := true } := by
  obtain rfl := id_of_desc? h
  exact desc?_setDesc_same (d := { d with started := true }) h

/-! ### Ends of descriptors (R214) -/

/-- The finish of a descriptor that has not ended is one write of it, decided under the next number. -/
theorem finish_open {id : Nat} {d : Desc} (st n : Nat) (h : s.desc? id = some d) (hopen : d.status = none) :
    s.finish id st n = s.fresh.2.setDesc { d with status := some (if d.bufferFault then 0x043 else st), count := n, pages := [],
                                                  doneAt := s.seq.nextId } := by
  unfold State.finish
  simp only [h, hopen]
  rfl

/-- A descriptor without a buffer fault that has not ended ends with the status and count it is given. -/
theorem ended_finish {id : Nat} {d : Desc} (st n : Nat) (h : s.desc? id = some d) (hopen : d.status = none) (hbuf : d.bufferFault = false) :
    (s.finish id st n).ended id st n := by
  obtain rfl := id_of_desc? h
  rw [finish_open st n h hopen]
  exact ⟨_, desc?_setDesc_same (s := s.fresh.2) (d := { d with status := _, count := _, pages := _, doneAt := _ }) h,
    by simp [hbuf], rfl⟩

theorem desc?_finish_ne {id other : Nat} (st n : Nat) (h : other ≠ id) : (s.finish id st n).desc? other = s.desc? other := by
  unfold State.finish
  split
  next d hd =>
    split
    · exact desc?_setDesc_ne (s := s.fresh.2) (by rw [id_of_desc? hd]; exact h)
    · rfl
  · rfl

/-- What one event finishes stays ended where it counts as decided at one time. -/
theorem ended_together {id st n : Nat} (k : Nat) (h : s.ended id st n) : (s.together k).ended id st n := by
  obtain ⟨e, hfind, hst, hn⟩ := h
  have hkey : ((fun d : Desc => decide (d.id = id)) ∘ fun d => if k ≤ d.doneAt then { d with doneAt := k } else d) =
      fun d => decide (d.id = id) := by
    funext d
    by_cases hk : k ≤ d.doneAt <;> simp [hk]
  have hfound : (s.together k).desc? id = some (if k ≤ e.doneAt then { e with doneAt := k } else e) := by
    unfold State.together State.desc? at *
    rw [List.find?_map, hkey, hfind]
    rfl
  refine ⟨_, hfound, ?_, ?_⟩ <;> split <;> assumption

end State

end Sys2Proof.Machine
end

section
/-! PROOFS. Read descriptors become jobs and page reads (R17, R231, R234, R237, R280). -/

namespace Sys2Proof.Machine

namespace State

variable {s : State}

/-! ### Jobs -/

/-- `n` numbers have been given out. -/
def numbered (s : State) (n : Nat) : State := { s with seq := { s.seq with nextId := s.seq.nextId + n } }

theorem numbered_frame (n : Nat) : Frame 0 s (s.numbered n) := { Frame.refl (m := 0) s with seq := fun _ => rfl }

theorem makeJobs_eq (l : List Job) : s.makeJobs l =
    (l.mapIdx fun i j => { j with id := s.seq.nextId + i, epoch := s.ph.epoch },
      s.numbered l.length) := by
  induction l generalizing s with
  | nil => rfl
  | cons j l ih =>
    have hcons : s.makeJobs (j :: l) =
        ({ j with id := s.seq.nextId, epoch := (s.fresh.2.makeJobs l).2.ph.epoch } :: (s.fresh.2.makeJobs l).1,
          (s.fresh.2.makeJobs l).2) := rfl
    rw [hcons, ih]
    simp only [State.fresh, State.numbered, List.mapIdx_cons, List.length_cons, Nat.add_zero, Nat.add_assoc, Nat.add_comm 1]

/-- Jobs that are added stand behind those there were, in order. -/
theorem foldl_addJob (l : List Job) :
    l.foldl State.addJob s = { s with seq := { s.seq with jobs := s.seq.jobs ++ l } } := by
  induction l generalizing s with
  | nil => simp
  | cons j l ih => rw [List.foldl_cons, ih]; simp [State.addJob]

/-- A step that adds every job whose die can be read as one that waits for it adds them all so. -/
theorem foldl_addJob_readable {f : State → Job → State} {l : List Job}
    (hf : ∀ u j, u.unreadable j.addr true = none → f u j = u.addJob { j with phase := .waitDie })
    (h : ∀ j ∈ l, s.unreadable j.addr true = none) :
    l.foldl f s = { s with seq := { s.seq with jobs := s.seq.jobs ++ l.map fun j => { j with phase := .waitDie } } } := by
  rw [← foldl_addJob, List.foldl_map]
  induction l generalizing s with
  | nil => rfl
  | cons j l ih =>
    rw [List.foldl_cons, List.foldl_cons, hf s j (h j (by simp))]
    refine ih fun x hx => ?_
    rw [(State.addJob_frame s _).unreadable (by decide) (by decide) (by decide) rfl]
    exact h x (by simp [hx])

/-! ### Page reads (R66) -/

theorem mem_sortJobs {l : List Nat} {x : Nat} : x ∈ s.sortJobs l ↔ x ∈ l := mem_sortBy

/-- Jobs that no scan reads for get a page read of their own. -/
theorem enqueueRead_own {j : Job} (p : Nat) (l : List Job) (h : j.scan? = none) :
    s.enqueueRead p (j :: l) none true = s.fresh.2.enqueue
      { id := s.seq.nextId, ord := j.ord, cls := 1, origin := j.origin, pages := [p],
        jobs := s.fresh.2.sortJobs ((j :: l).map (·.id)), base := none, join := true && !homeBlock p } := by
  have hnone : ∀ ops : List DieOp, ops.find? (fun o => j.scan?.any fun id => s.sharedBy id p o) = none := fun ops => by
    simp [h]
  unfold State.enqueueRead
  simp only [Option.isNone_none, Bool.true_and, hnone]
  rfl

/-- Every page of the list has a page read among those that wait, with all its jobs. -/
theorem foldl_enqueueRead {go : List Job} (hscan : ∀ j ∈ go, j.scan? = none) (ps : List Nat)
    (hps : ∀ p ∈ ps, ∃ j ∈ go, j.addr / 4 = p) :
    let t := ps.foldl (fun s p => s.enqueueRead (s.busAddr (4 * p)) (go.filter fun j => j.addr / 4 = p) none true) s
    t.seq.jobs = s.seq.jobs ∧ t.seq.dies = s.seq.dies ∧ s.seq.waiting ⊆ t.seq.waiting ∧
      ∀ p ∈ ps, ∃ o ∈ t.seq.waiting, o.cls = 1 ∧ o.pages = [s.busAddr (4 * p)] ∧ ∀ j ∈ go, j.addr / 4 = p → j.id ∈ o.jobs := by
  induction ps generalizing s with
  | nil => simp
  | cons p ps ih =>
    obtain ⟨x, hx, hxp⟩ := hps p (by simp)
    obtain ⟨j, l, hgo⟩ : ∃ j l, go.filter (fun j => j.addr / 4 = p) = j :: l :=
      List.exists_cons_of_ne_nil (List.ne_nil_of_mem (List.mem_filter.2 ⟨hx, by simpa using hxp⟩))
    have hj : j.scan? = none := hscan j (List.mem_of_mem_filter (hgo ▸ List.mem_cons_self))
    rw [List.foldl_cons, hgo, enqueueRead_own _ _ hj, ← hgo]
    set o : DieOp :=
      { id := s.seq.nextId, ord := j.ord, cls := 1, origin := j.origin, pages := [s.busAddr (4 * p)],
        jobs := s.fresh.2.sortJobs ((go.filter fun j => j.addr / 4 = p).map (·.id)), base := none,
        join := true && !homeBlock (s.busAddr (4 * p)) }
    have hframe : Frame 0x100 s (s.fresh.2.enqueue o) := (State.enqueue_frame _ _).after ((State.fresh_frame s).mono rfl) rfl
    obtain ⟨hjobs, hdies, hwait, hreads⟩ := ih (s := s.fresh.2.enqueue o) fun q hq => hps q (by simp [hq])
    have hkept : s.seq.waiting ++ [o] ⊆ _ := hwait
    refine ⟨hjobs, hdies, fun y hy => hkept (by simp [hy]), fun q hq => ?_⟩
    rcases List.mem_cons.1 hq with rfl | hq
    · refine ⟨o, hkept (by simp), rfl, rfl, fun y hy hyq => mem_sortJobs.2 ?_⟩
      exact List.mem_map_of_mem (List.mem_filter.2 ⟨hy, by simpa using hyq⟩)
    · obtain ⟨r, hr, hcls, hpages, hin⟩ := hreads q hq
      exact ⟨r, hr, hcls, hpages.trans (by rw [hframe.busAddr (by decide)]), hin⟩

/-- Jobs that no scan reads for and whose dies can be read are added, each waiting with a read of its page. -/
theorem enqueueReads_readable {l : List Job} {gone : List Nat} (hgone : gone = []) (hscan : ∀ j ∈ l, j.scan? = none)
    (hread : ∀ j ∈ l, s.unreadable j.addr true = none) :
    let t := s.enqueueReads l none true gone
    t.seq.jobs = s.seq.jobs ++ l.map (fun j => { j with phase := .waitDie }) ∧ t.seq.dies = s.seq.dies ∧
      ∀ j ∈ l, ∃ o ∈ t.seq.waiting, o.cls = 1 ∧ o.pages = [s.busAddr (4 * (j.addr / 4))] ∧ j.id ∈ o.jobs := by
  set u : State := { s with seq := { s.seq with jobs := s.seq.jobs ++ l.map fun j => { j with phase := .waitDie } } } with hu
  have hframe : Frame 0x100 s u := by
    rw [hu, ← foldl_addJob]
    exact Frame.foldl (Frame.refl s) fun _ _ => State.addJob_frame ..
  have hgo : (l.filter fun j => (u.unreadable j.addr true).isNone) = l := List.filter_eq_self.2 fun j hj => by
    rw [hframe.unreadable (by decide) (by decide) (by decide) rfl, hread j hj]; rfl
  subst hgone
  unfold State.enqueueReads
  simp only [List.contains_nil, Bool.not_false]
  rw [foldl_addJob_readable (fun u j hj => by rw [hj]) hread, ← hu, hgo]
  obtain ⟨tjobs, tdies, -, treads⟩ := foldl_enqueueRead (s := u) hscan (l.map fun j => j.addr / 4).eraseDups
    (by simp [List.mem_eraseDups])
  refine ⟨tjobs, tdies, fun j hj => ?_⟩
  obtain ⟨o, ho, hcls, hpages, hin⟩ := treads (j.addr / 4) (by simp [List.mem_eraseDups]; exact ⟨j, hj, rfl⟩)
  exact ⟨o, ho, hcls, hpages.trans (by rw [hframe.busAddr (by decide)]), hin j hj rfl⟩

/-! ### Descriptors that read (R17) -/

/-- A descriptor with an envelope that has no outcome goes on. -/
theorem descCheck_undecided {id : Nat} {d : Desc} (h : s.desc? id = some d) (hopen : d.results.any Option.isNone = true) :
    s.descCheck id = s := by
  unfold State.descCheck
  simp only [h]
  rw [if_pos (Or.inr (Or.inr hopen))]

end State

/-- The job of envelope `i` of a read descriptor, numbered from `first` on. -/
def Desc.readJob (d : Desc) (header ladder recon : Bool) (first i : Nat) : Job :=
  { id := first + i, ord := d.id, addr := field d.bytes 8 8 + i, dest := .desc d.id i, origin := .queue d.sq, header := header,
    ladder := ladder, recon := recon, phUse := d.fills, epoch := d.epoch }

/-- The jobs of a read descriptor none of whose envelopes is decided. -/
def Desc.readJobs (d : Desc) (header ladder recon : Bool) (first : Nat) : List Job :=
  (List.range d.results.length).map (d.readJob header ladder recon first)

/-- As `State.readStart` makes them: drafted without a number, numbered in order, at the epoch of the admission. -/
theorem Desc.readJobs_eq (d : Desc) (header ladder recon : Bool) (first epoch : Nat) :
    (((List.range d.results.length).map fun i =>
      ({ id := 0, ord := d.id, addr := field d.bytes 8 8 + i, dest := .desc d.id i, origin := .queue d.sq, header := header,
         ladder := ladder, recon := recon, phUse := d.fills } : Job)).mapIdx (fun i j => { j with id := first + i, epoch := epoch })).map
        (fun j => { j with epoch := d.epoch }) = d.readJobs header ladder recon first :=
  List.ext_getElem (by simp [Desc.readJobs]) fun i _ _ => by simp [Desc.readJobs, Desc.readJob]

/-- A job of the descriptor is that of one of its envelopes. -/
theorem Desc.mem_readJobs {d : Desc} {header ladder recon : Bool} {first : Nat} {j : Job} :
    j ∈ d.readJobs header ladder recon first ↔ ∃ i, i < d.results.length ∧ d.readJob header ladder recon first i = j := by
  simp [Desc.readJobs]

namespace State

variable {s : State}

/-- A read descriptor has started and the numbers of its jobs are given out. -/
def readBegun (s : State) (d : Desc) : State := (s.setDesc { d with started := true }).numbered d.results.length

theorem readBegun_frame (d : Desc) : Frame 0x80 s (s.readBegun d) :=
  (numbered_frame _).after (State.setDesc_frame s _) rfl

section

variable {d : Desc} (header ladder recon : Bool) (hgone : d.gone = [])
  (hread : ∀ i, i < d.results.length → s.unreadable (field d.bytes 8 8 + i) true = none)

include hgone hread

/-- What the start of an undecided read descriptor whose dies can all be read leaves: its jobs are added, each waiting with a read of its
page. -/
theorem enqueueReads_readBegun :
    let t := (s.readBegun d).enqueueReads (d.readJobs header ladder recon s.seq.nextId) none true d.gone
    t.seq.jobs = s.seq.jobs ++ d.readJobs header ladder recon s.seq.nextId ∧ t.seq.dies = s.seq.dies ∧
      ∀ i, i < d.results.length → ∃ o ∈ t.seq.waiting, o.cls = 1 ∧ s.seq.nextId + i ∈ o.jobs ∧
        o.pages = [s.busAddr (4 * ((field d.bytes 8 8 + i) / 4))] := by
  have hbegun := s.readBegun_frame d
  obtain ⟨hjobs, hdies, hreads⟩ := enqueueReads_readable (s := s.readBegun d) (l := d.readJobs header ladder recon s.seq.nextId) hgone
    (by simp [Desc.readJobs, Desc.readJob, Job.scan?])
    (by
      intro j hj
      obtain ⟨i, hi, rfl⟩ := Desc.mem_readJobs.1 hj
      rw [hbegun.unreadable (by decide) (by decide) (by decide) rfl]
      exact hread i hi)
  refine ⟨hjobs.trans (by rw [Desc.readJobs, List.map_map]; rfl), hdies, fun i hi => ?_⟩
  obtain ⟨o, ho, hcls, hpages, hin⟩ := hreads _ (Desc.mem_readJobs.2 ⟨i, hi, rfl⟩)
  exact ⟨o, ho, hcls, hin, hpages.trans (by rw [hbegun.busAddr (by decide)]; rfl)⟩

/-- A descriptor none of whose envelopes is decided starts: one job an envelope. -/
theorem readStart_undecided (hd : s.desc? d.id = some d) (hne : 0 < d.results.length) (hnone : ∀ r ∈ d.results, r = none) :
    s.readStart d header ladder recon =
      (s.readBegun d).enqueueReads (d.readJobs header ladder recon s.seq.nextId) none true d.gone := by
  have hrs : (d.results.mapIdx fun i r => (i, r)) = (List.range d.results.length).map fun i => (i, none) := by
    refine List.ext_getElem (by simp) fun i hi _ => ?_
    simp [hnone _ (List.getElem_mem _)]
  have hframe := State.enqueueReads_frame (s.readBegun d) (d.readJobs header ladder recon s.seq.nextId) none true d.gone
  have hbegun := hframe.after ((s.readBegun_frame d).mono (m := 0x180) rfl) rfl
  obtain ⟨-, hdies, -⟩ := enqueueReads_readBegun header ladder recon hgone hread
  unfold State.readStart
  simp only [hrs, List.foldl_map, List.foldl_fixed, List.filterMap_map, Function.comp_def, Option.isSome_none, Bool.false_eq_true,
    if_false, List.filterMap_eq_map', makeJobs_eq, Desc.readJobs_eq, List.length_map, List.length_range]
  change State.descCheck (List.foldl _ ((s.readBegun d).enqueueReads (d.readJobs header ladder recon s.seq.nextId) none true d.gone)
    ((d.readJobs header ladder recon s.seq.nextId).filter fun j => !j.recon)) d.id = _
  rw [foldl_eq_self fun j hj => ?_]
  · obtain ⟨r, hr⟩ := List.exists_mem_of_length_pos hne
    exact descCheck_undecided (d := { d with started := true }) ((hframe.desc? (by decide) d.id).trans (desc?_started hd))
      (List.any_eq_true.2 ⟨r, hr, by rw [hnone r hr]; rfl⟩)
  · obtain ⟨i, hi, rfl⟩ := Desc.mem_readJobs.1 (List.mem_of_mem_filter hj)
    have hact : (!d.gone.contains (addrDie (d.readJob header ladder recon s.seq.nextId i).addr)) = true := by rw [hgone]; rfl
    rw [hact, hbegun.unreadable (by decide) (by decide) (by decide) hdies]
    simp only [Desc.readJob, hread i hi]

end

/-! ### The commands that read -/

theorem toStart_of_ioRuns {id op : Nat} {d : Desc} (h : s.ioRuns id op d) : s.toStart id op = some d := by
  obtain ⟨hd, hop, hstarted, hopen, -⟩ := h
  unfold State.toStart
  simp [hd, hop, hstarted, hopen]

theorem execRead_runs {id : Nat} {d : Desc} (h : s.ioRuns id 0x01 d) :
    execRead id s = .next (s.readStart d false (!bit (field d.bytes 4 1) 1) (!bit (field d.bytes 4 1) 2)) := by
  unfold execRead; rw [toStart_of_ioRuns h]

theorem execReadHeaders_runs {id : Nat} {d : Desc} (h : s.ioRuns id 0x02 d) :
    execReadHeaders id s = .next (s.readStart d true true true) := by
  unfold execReadHeaders; rw [toStart_of_ioRuns h]

theorem execCopy_runs {id : Nat} {d : Desc} (h : s.ioRuns id 0x07 d) : execCopy id s = .next (s.readStart d false true true) := by
  unfold execCopy; rw [toStart_of_ioRuns h]

theorem execLoadPigeonhole_runs {id : Nat} {d : Desc} (h : s.adminRuns id 0x48 d) :
    execLoadPigeonhole id s = .next (s.readStart d false true true) := by
  unfold execLoadPigeonhole; rw [h.1]

end State

/-- Settles O29: each of the four commands is `State.readStart`, and an undecided descriptor's start is its jobs' page reads. -/
theorem readsGoToTheirDies : Obligations.ReadsGoToTheirDies := by
  intro s id d c hdr ladder recon hcmd hne hnone hgone hread
  obtain ⟨hexec, hd⟩ : exec c s = .next (s.readStart d hdr ladder recon) ∧ s.desc? id = some d := by
    rcases hcmd with ⟨rfl, hrun, rfl, rfl, rfl⟩ | ⟨rfl, hrun, rfl, rfl, rfl⟩ | ⟨rfl, hrun, rfl, rfl, rfl⟩ | ⟨rfl, hrun, rfl, rfl, rfl⟩
    · exact ⟨State.execRead_runs hrun, hrun.1⟩
    · exact ⟨State.execReadHeaders_runs hrun, hrun.1⟩
    · exact ⟨State.execCopy_runs hrun, hrun.1⟩
    · exact ⟨State.execLoadPigeonhole_runs hrun, hrun.2.1⟩
  obtain rfl := State.id_of_desc? hd
  obtain ⟨hjobs, -, hreads⟩ := State.enqueueReads_readBegun hdr ladder recon hgone hread
  have hframe := State.enqueueReads_frame (s.readBegun d) (d.readJobs hdr ladder recon s.seq.nextId) none true d.gone
  rw [State.readStart_undecided hdr ladder recon hgone hread hd hne hnone] at hexec
  refine ⟨_, { d with started := true }, hexec, ?_, rfl, hjobs, hreads, ?_⟩
  · exact (hframe.desc? (by decide) d.id).trans (State.desc?_started hd)
  · exact hframe.after ((s.readBegun_frame d).mono rfl) rfl

end Sys2Proof.Machine
end

section
/-! PROOFS. Stripe rows: what fills them, how their members are programmed, and how they complete (R88 to R93, R110, R287). -/

namespace Sys2Proof.Machine

/-! ### What a framed step keeps of the row checks -/

namespace Frame

variable {m : Nat} {s t : State}

theorem mapOn (h : Frame m s t) (h26 : m.testBit 26 = false) : t.mapOn = s.mapOn := by
  unfold State.mapOn; rw [h.getF (f := F.FI_SMAP_LO_EN) h26]

theorem rowSize (h : Frame m s t) (h3 : m.testBit 3 = false) (j : Nat) : t.rowSize j = s.rowSize j := by
  unfold State.rowSize State.geo State.dieClass State.routeCfg State.layout; rw [h.img h3]

theorem mapIdx (h : Frame m s t) (h3 : m.testBit 3 = false) (j b : Nat) : t.mapIdx j b = s.mapIdx j b := by
  unfold State.mapIdx State.geo State.dieClass State.routeCfg State.layout; rw [h.img h3]

theorem rowClash (h : Frame m s t) (h3 : m.testBit 3 = false) (h26 : m.testBit 26 = false) (maps : List Bytes) (j b : Nat) :
    t.rowClash maps j b = s.rowClash maps j b := by
  unfold State.rowClash State.covers
  simp only [h.mapOn h26, h.mapIdx h3]
  unfold State.layout
  rw [h.img h3]

theorem postmark (h : Frame m s t) (h5 : m.testBit 5 = false) (h23 : m.testBit 23 = false) : t.postmark = s.postmark := by
  unfold State.postmark State.pmQuality
  rw [h.pm h5, h.getF (f := F.PM_STATUS_TU_QUALITY) h23]

theorem originId (h : Frame m s t) (h18 : m.testBit 18 = false) : t.originId = s.originId := by
  unfold State.originId
  rw [h.fuses, h.getF (f := F.ORIGIN_ORIGIN) h18]

theorem progContent (h : Frame m s t) (h5 : m.testBit 5 = false) (h18 : m.testBit 18 = false) (h23 : m.testBit 23 = false)
    (d md p : Bytes) (i q : Nat) : t.progContent d md p i q = s.progContent d md p i q := by
  unfold State.progContent
  rw [h.postmark h5 h23, h.originId h18]

end Frame

namespace State

variable {s : State}

/-! ### Rows: read after write -/

theorem id_of_row? {id : Nat} {r : Row} (h : s.row? id = some r) : r.id = id := by simpa using List.find?_some h

theorem row?_setRow_same {r x : Row} (h : s.row? r.id = some x) : (s.setRow r).row? r.id = some r := find?_replace_same h

theorem mem_setRow {r x : Row} (h : x ∈ s.seq.rows) (hid : x.id = r.id) : r ∈ (s.setRow r).seq.rows :=
  List.mem_map.2 ⟨x, h, if_pos hid⟩

/-- A row that takes envelopes is written with them; what its lines need beside that leaves the rows alone. -/
theorem rowAppend_after (r : Row) (envs : List (Bytes × Bytes)) (alloc : Bool) (due : Nat) :
    Frame 0x2001800 (s.setRow { r with filled := r.filled ++ envs, due := due }) (s.rowAppend r envs alloc due) := by
  cases alloc
  · exact Frame.refl _
  · exact Frame.foldl (Frame.refl _) fun _ _ => State.allocPage_frame ..

/-- An SQ that is not being deleted leaves its rows as they are. -/
theorem flushLeaving_stays {n : Nat} (due : Nat) (h : s.sqLeaving n = false) : s.flushLeaving n due = s := by
  unfold State.flushLeaving; exact if_pos h

/-! ### Descriptors that end at their checks -/

/-- An I/O descriptor that ends before it starts has its status and count; beside it only the corrected units are counted. -/
theorem ended_finish_dramReads {id op : Nat} {d : Desc} (corr st n : Nat) (h : s.ioRuns id op d) :
    ((s.dramReads corr).finish id st n).ended id st n ∧ Frame (may [.descs, .regs 7]) s ((s.dramReads corr).finish id st n) := by
  obtain ⟨hd, -, -, hopen, hbuf⟩ := h
  have hframe := State.dramReads_frame s corr
  exact ⟨ended_finish st n ((hframe.desc? (by decide) id).trans hd) hopen hbuf, (State.finish_frame ..).after (hframe.mono rfl) rfl⟩

/-- The end of a descriptor at its checks leaves the rows of an SQ that is not being deleted. -/
theorem flushLeaving_finish (id corr st n sq : Nat) (h : s.sqLeaving sq = false) :
    ((s.dramReads corr).finish id st n).flushLeaving sq id = (s.dramReads corr).finish id st n := by
  refine flushLeaving_stays id ?_
  rw [(State.finish_frame ..).sqLeaving (by decide), (State.dramReads_frame ..).sqLeaving (by decide), h]

/-! ### PROGRAM_STRIPE (R88, R90, R287) -/

/-- The envelopes of a PROGRAM_STRIPE, encoded for the positions behind the first `used`. -/
def stripeEnvs (s : State) (d : Desc) (buf md : Bytes) (used : Nat) : List (Bytes × Bytes) :=
  (List.range (field d.bytes 16 4)).map fun i =>
    (s.progContent d.bytes md (slice buf (4096 * i) 4096) i ((used + i) % 14), slice buf (4096 * i) 4096)

/-- A PROGRAM_STRIPE breaks a check: the map is off, another layout has the block, the row is too short, or its metadata is wrong. -/
abbrev stripeRefused (s : State) (maps : List Bytes) (md : Bytes) (d : Desc) (used : Nat) : Prop :=
  s.mapOn = false ∨ s.rowClash maps (field d.bytes 5 1) (addrBlock (field d.bytes 8 8)) = true ∨
    s.rowSize (field d.bytes 5 1) < used + field d.bytes 16 4 ∨ (!(List.range (field d.bytes 16 4)).all (metaOk d.bytes md)) = true

/-- The map bit of the row of a PROGRAM_STRIPE, as it was read. -/
def rowBit (s : State) (maps : List Bytes) (d : Desc) : Bool :=
  lineBit (maps.getD (field d.bytes 5 1) []) (s.mapIdx (field d.bytes 5 1) (addrBlock (field d.bytes 8 8)))

/-- The row that a PROGRAM_STRIPE opens. -/
def newRow (s : State) (maps : List Bytes) (d : Desc) : Row :=
  { id := s.seq.nextId, layout := field d.bytes 5 1, base := addrBlock (field d.bytes 8 8), page := addrPage (field d.bytes 8 8),
    opener := d.sq, mapAck := s.rowBit maps d }

/-- The map bit of that row is written where it does not stand. -/
def mapBitSet (s : State) (maps : List Bytes) (d : Desc) : State :=
  if s.rowBit maps d then s
  else s.writeMapLine maps (field d.bytes 5 1) (s.mapIdx (field d.bytes 5 1) (addrBlock (field d.bytes 8 8))) true

/-- Row `r` stands behind the others, and descriptor `id` waits for its map write, if there is one. -/
def rowAdded (s : State) (r : Row) (id : Nat) : State :=
  { s with seq := { s.seq with rows := s.seq.rows ++ [r] },
           fi := { s.fi with mapWrites := if r.mapAck then s.fi.mapWrites else s.fi.mapWrites ++ [id] } }

/-- A PROGRAM_STRIPE opens its row. -/
def rowOpened (s : State) (maps : List Bytes) (d : Desc) : State := (s.fresh.2.mapBitSet maps d).rowAdded (s.newRow maps d) d.id

/-- A PROGRAM_STRIPE fills row `r` with its envelopes. -/
def stripeFilled (s : State) (r : Row) (d : Desc) (envs : List (Bytes × Bytes)) : State :=
  ((s.setDesc { d with started := true }).rowAppend { r with waits := r.waits ++ [(d.id, field d.bytes 16 4)] } envs true d.id).flushLeaving
    d.sq d.id

section

variable {id : Nat} {d : Desc} (buf md : Bytes) (maps : List Bytes) (corr : Nat) (hrun : s.ioRuns id 0x05 d)

include hrun

/-- While the map write that opens its row is out, a PROGRAM_STRIPE waits. -/
theorem execProgramStripe_waits {r : Row} (lost : Option Nat)
    (hfind : s.rowFind (field d.bytes 5 1) (addrBlock (field d.bytes 8 8)) (addrPage (field d.bytes 8 8)) = some r)
    (hack : r.mapAck = false) : execProgramStripe id buf md maps s corr lost = .next s := by
  obtain ⟨hd, hop, hstarted, hopen, -⟩ := hrun
  unfold execProgramStripe
  simp [hd, hop, hstarted, hopen, hfind, hack]

theorem execProgramStripe_lost (u : Nat)
    (hfind : s.rowFind (field d.bytes 5 1) (addrBlock (field d.bytes 8 8)) (addrPage (field d.bytes 8 8)) = none)
    (hmap : s.mapOn = true) : execProgramStripe id buf md maps s corr (some u) = .next (s.dramUncorr u).memFatal := by
  obtain ⟨hd, hop, hstarted, hopen, -⟩ := hrun
  unfold execProgramStripe
  simp [hd, hop, hstarted, hopen, hfind, hmap, State.mapLost]

/-- Otherwise it ends at a check, or fills the row that is open or that it opens. -/
theorem execProgramStripe_goes {old : Option Row}
    (hfind : s.rowFind (field d.bytes 5 1) (addrBlock (field d.bytes 8 8)) (addrPage (field d.bytes 8 8)) = old)
    (hack : ∀ r, old = some r → r.mapAck = true) :
    execProgramStripe id buf md maps s corr none =
      let u := s.dramReads corr
      let used := old.elim 0 fun r => r.filled.length
      if u.stripeRefused maps md d used then .next ((u.finish id St.malformed 0).flushLeaving d.sq id)
      else if d.late.isSome then .next ((u.finish id (d.late.getD 0) 0).flushLeaving d.sq id)
      else
        let p := old.elim (u.newRow maps d, u.rowOpened maps d) fun r => (r, u)
        .next (p.2.stripeFilled p.1 d (p.2.stripeEnvs d buf md used)) := by
  obtain ⟨hd, hop, hstarted, hopen, -⟩ := hrun
  obtain rfl := id_of_desc? hd
  unfold execProgramStripe
  have hwait : (old.any fun r => !r.mapAck) = false := by
    cases old with
    | none => rfl
    | some r => simp [hack r rfl]
  have hgo : ¬(d.op ≠ 0x05 ∨ d.started = true ∨ d.status.isSome = true) := by simp [hop, hstarted, hopen]
  simp only [hd, if_neg hgo, hfind, hwait, Bool.false_eq_true, Option.isSome_none, if_false, and_false]
  cases old <;> rfl

end

theorem mem_rowOpened (maps : List Bytes) (d : Desc) : s.newRow maps d ∈ (s.rowOpened maps d).seq.rows :=
  List.mem_append_right _ (List.mem_singleton_self _)

theorem mapBitSet_frame (maps : List Bytes) (d : Desc) : Frame 0x40010001 s (s.mapBitSet maps d) :=
  Frame.ite (Frame.refl s) (State.writeMapLine_frame ..)

theorem rowAdded_frame (r : Row) (id : Nat) : Frame 0x2100 s (s.rowAdded r id) :=
  { Frame.refl (m := 0x2100) s with seq := fun q => absurd q (by decide), fi := fun q => absurd q (by decide) }

theorem rowOpened_frame (maps : List Bytes) (d : Desc) : Frame 0x40012101 s (s.rowOpened maps d) :=
  (rowAdded_frame ..).after ((mapBitSet_frame maps d).after ((State.fresh_frame s).mono rfl) rfl) rfl

/-- The map write of a row that is opened is its descriptor's, and there is none where the bit stands. -/
theorem rowOpened_mapWrites (maps : List Bytes) (d : Desc) :
    (s.rowOpened maps d).fi.mapWrites = s.fi.mapWrites ++ (if (s.newRow maps d).mapAck then [] else [d.id]) := by
  have hfi : (s.fresh.2.mapBitSet maps d).fi = s.fi := (mapBitSet_frame maps d).fi (by decide)
  unfold rowOpened rowAdded
  dsimp only
  rw [hfi]
  split <;> simp

/-- A row that is filled holds the envelopes behind those it had; the descriptor has started and waits for it. -/
theorem stripeFilled_fills {d : Desc} {r x : Row} (envs : List (Bytes × Bytes)) (hd : s.desc? d.id = some d) (hrow : x ∈ s.seq.rows)
    (hid : x.id = r.id) (hsq : s.sqLeaving d.sq = false) :
    { r with filled := r.filled ++ envs, waits := r.waits ++ [(d.id, field d.bytes 16 4)], due := d.id } ∈
        (s.stripeFilled r d envs).seq.rows ∧
      (s.stripeFilled r d envs).desc? d.id = some { d with started := true } ∧ (s.stripeFilled r d envs).fi = s.fi := by
  have hkept := rowAppend_after (s := s.setDesc { d with started := true }) { r with waits := r.waits ++ [(d.id, field d.bytes 16 4)] } envs
    true d.id
  have hstay : s.stripeFilled r d envs = (s.setDesc { d with started := true }).rowAppend
      { r with waits := r.waits ++ [(d.id, field d.bytes 16 4)] } envs true d.id :=
    flushLeaving_stays _ ((hkept.sqLeaving (by decide) d.sq).trans hsq)
  rw [hstay]
  refine ⟨?_, (hkept.desc? (by decide) d.id).trans (desc?_started hd), hkept.fi (by decide)⟩
  rw [hkept.rows (by decide)]
  exact mem_setRow (s := s.setDesc { d with started := true }) hrow hid

theorem stripeEnvs_of_frame {m : Nat} {t : State} (h : Frame m s t) (h5 : m.testBit 5 = false) (h18 : m.testBit 18 = false)
    (h23 : m.testBit 23 = false) (d : Desc) (buf md : Bytes) (used : Nat) : t.stripeEnvs d buf md used = s.stripeEnvs d buf md used := by
  unfold stripeEnvs
  simp only [h.progContent h5 h18 h23]

theorem stripeRefused_of_frame {m : Nat} {t : State} (h : Frame m s t) (h3 : m.testBit 3 = false) (h26 : m.testBit 26 = false)
    (maps : List Bytes) (md : Bytes) (d : Desc) (used : Nat) : t.stripeRefused maps md d used ↔ s.stripeRefused maps md d used := by
  unfold stripeRefused
  rw [h.mapOn h26, h.rowClash h3 h26, h.rowSize h3]

section

variable {id : Nat} {d : Desc} {old : Option Row} (buf md : Bytes) (maps : List Bytes) (corr : Nat) (hrun : s.ioRuns id 0x05 d)
  (hfind : s.rowFind (field d.bytes 5 1) (addrBlock (field d.bytes 8 8)) (addrPage (field d.bytes 8 8)) = old)
  (hack : ∀ r, old = some r → r.mapAck = true)

include hrun hfind hack

/-- A PROGRAM_STRIPE that breaks no check fills the row that is open, or that it opens. -/
theorem execProgramStripe_fills (hok : ¬ s.stripeRefused maps md d (old.elim 0 fun r => r.filled.length)) (hlate : d.late = none) :
    execProgramStripe id buf md maps s corr none =
      let p := old.elim ((s.dramReads corr).newRow maps d, (s.dramReads corr).rowOpened maps d) fun r => (r, s.dramReads corr)
      .next (p.2.stripeFilled p.1 d (s.stripeEnvs d buf md (old.elim 0 fun r => r.filled.length))) := by
  have hread := State.dramReads_frame s corr
  have hopened := (rowOpened_frame (s := s.dramReads corr) maps d).after (hread.mono (m := 0x42012101) rfl) rfl
  rw [execProgramStripe_goes buf md maps corr hrun hfind hack]
  dsimp only
  rw [if_neg (mt (stripeRefused_of_frame hread (by decide) (by decide) maps md d _).1 hok), hlate, if_neg (by decide)]
  cases old with
  | none => exact congrArg (fun e => Host.Outcome.next (State.stripeFilled _ _ d e)) (stripeEnvs_of_frame hopened rfl rfl rfl ..)
  | some r => exact congrArg (fun e => Host.Outcome.next (State.stripeFilled _ _ d e)) (stripeEnvs_of_frame hread rfl rfl rfl ..)

variable (hsq : s.sqLeaving d.sq = false)

include hsq

/-- One that breaks a check ends MALFORMED, its SQ's rows as they are. -/
theorem execProgramStripe_refused (hbad : s.stripeRefused maps md d (old.elim 0 fun r => r.filled.length)) :
    execProgramStripe id buf md maps s corr none = .next ((s.dramReads corr).finish id St.malformed 0) := by
  have hread := State.dramReads_frame s corr
  rw [execProgramStripe_goes buf md maps corr hrun hfind hack]
  dsimp only
  rw [if_pos ((stripeRefused_of_frame hread (by decide) (by decide) maps md d _).2 hbad), flushLeaving_finish _ _ _ _ _ hsq]

/-- One whose checks of R84 gave a status ends with it. -/
theorem execProgramStripe_late {st : Nat} (hok : ¬ s.stripeRefused maps md d (old.elim 0 fun r => r.filled.length))
    (hlate : d.late = some st) : execProgramStripe id buf md maps s corr none = .next ((s.dramReads corr).finish id st 0) := by
  have hread := State.dramReads_frame s corr
  rw [execProgramStripe_goes buf md maps corr hrun hfind hack]
  dsimp only
  rw [if_neg (mt (stripeRefused_of_frame hread (by decide) (by decide) maps md d _).1 hok), hlate,
    if_pos (show (some st).isSome = true from rfl), Option.getD_some, flushLeaving_finish _ _ _ _ _ hsq]

end

end State

end Sys2Proof.Machine
end

section
/-! PROOFS. FLUSH_STRIPE, the programs of a row's members, and the end of a row (R92, R93, R110). -/

namespace Sys2Proof.Machine

namespace State

variable {s : State}

/-! ### FLUSH_STRIPE (R92) -/

/-- `n` fillers for the positions behind the first `used`. -/
def fillers (s : State) (used n : Nat) : List (Bytes × Bytes) × State :=
  (List.range n).foldl (fun acc i => (acc.1 ++ [(acc.2.filler ((used + i) % 14)).1], (acc.2.filler ((used + i) % 14)).2)) ([], s)

theorem fillers_succ (used n : Nat) : s.fillers used (n + 1) =
    ((s.fillers used n).1 ++ [((s.fillers used n).2.filler ((used + n) % 14)).1], ((s.fillers used n).2.filler ((used + n) % 14)).2) := by
  simp [fillers, List.range_succ]

theorem length_fillers (used n : Nat) : (s.fillers used n).1.length = n := by
  induction n with
  | zero => rfl
  | succ n ih => rw [fillers_succ, List.length_append, ih]; rfl

theorem fillers_frame (used n : Nat) : Frame 0x8000 s (s.fillers used n).2 := by
  induction n with
  | zero => exact Frame.refl s
  | succ n ih => rw [fillers_succ]; exact ih.trans (State.filler_frame _ ((used + n) % 14))

/-- A flush writes the row with its fillers. -/
theorem rowFlush_eq (r : Row) (due : Nat) : (s.rowFlush r due).2 =
    (s.fillers r.filled.length (s.rowSize r.layout - r.filled.length)).2.setRow
      { r with filled := r.filled ++ (s.fillers r.filled.length (s.rowSize r.layout - r.filled.length)).1, due := due } := rfl

/-- A FLUSH_STRIPE fills up row `r` and waits for it. -/
def flushFilled (s : State) (r : Row) (d : Desc) : State :=
  ((s.setDesc { d with started := true }).rowFlush
    { r with waits := r.waits ++ [(d.id, s.rowSize (field d.bytes 5 1) - r.filled.length)] } d.id).2

/-- A row that is flushed holds as many envelopes as it has positions, what it held before them. -/
theorem flushFilled_fills {d : Desc} {r : Row} (hrow : r ∈ s.seq.rows) (hlayout : r.layout = field d.bytes 5 1)
    (hle : r.filled.length ≤ s.rowSize (field d.bytes 5 1)) :
    ∃ r' ∈ (s.flushFilled r d).seq.rows, r'.id = r.id ∧ r'.filled.length = s.rowSize (field d.bytes 5 1) ∧
      r'.filled.take r.filled.length = r.filled ∧
      r'.waits = r.waits ++ [(d.id, s.rowSize (field d.bytes 5 1) - r.filled.length)] ∧ r'.due = d.id := by
  have hsize : (s.setDesc { d with started := true }).rowSize r.layout = s.rowSize (field d.bytes 5 1) := by rw [hlayout]; rfl
  have hdraw := fillers_frame (s := s.setDesc { d with started := true }) r.filled.length
    (s.rowSize (field d.bytes 5 1) - r.filled.length)
  unfold flushFilled
  rw [rowFlush_eq]
  dsimp only
  rw [hsize]
  refine ⟨_, mem_setRow (x := r) ((hdraw.rows (by decide)).symm ▸ hrow) rfl, rfl, ?_, List.take_left, rfl, rfl⟩
  rw [List.length_append, length_fillers]
  omega

theorem flushFilled_frame (r : Row) (d : Desc) : Frame (may [.descs, .flash, .freeValues]) s (s.flushFilled r d) := by
  unfold flushFilled
  rw [rowFlush_eq]
  exact (State.setRow_frame ..).after ((fillers_frame ..).after ((State.setDesc_frame ..).mono rfl) rfl) rfl

section

variable {id : Nat} {d : Desc} (maps : List Bytes) (corr : Nat) (hrun : s.ioRuns id 0x08 d)

include hrun

theorem execFlushStripe_lost (u : Nat)
    (hfind : s.rowFind (field d.bytes 5 1) (addrBlock (field d.bytes 8 8)) (addrPage (field d.bytes 8 8)) = none)
    (hmap : s.mapOn = true) : execFlushStripe id maps s corr (some u) = .next (s.dramUncorr u).memFatal := by
  obtain ⟨hd, hop, hstarted, hopen, -⟩ := hrun
  unfold execFlushStripe
  simp [hd, hop, hstarted, hopen, hfind, hmap, State.mapLost]

/-- A FLUSH_STRIPE whose row waits for no map write ends at its check or without a row, or fills its row up. -/
theorem execFlushStripe_goes {old : Option Row}
    (hfind : s.rowFind (field d.bytes 5 1) (addrBlock (field d.bytes 8 8)) (addrPage (field d.bytes 8 8)) = old)
    (hack : ∀ r, old = some r → r.mapAck = true) :
    execFlushStripe id maps s corr none =
      if s.mapOn = false ∨ s.rowClash maps (field d.bytes 5 1) (addrBlock (field d.bytes 8 8)) = true then
        .next ((s.dramReads corr).finish id St.malformed 0)
      else .next (old.elim ((s.dramReads corr).finish id St.ok 0) fun r => (s.dramReads corr).flushFilled r d) := by
  have hread := State.dramReads_frame s corr
  have hwait : (old.any fun r => !r.mapAck) = false := by
    cases old with
    | none => rfl
    | some r => simp [hack r rfl]
  obtain ⟨hd, hop, hstarted, hopen, -⟩ := hrun
  obtain rfl := id_of_desc? hd
  have hgo : ¬(d.op ≠ 0x08 ∨ d.started = true ∨ d.status.isSome = true) := by simp [hop, hstarted, hopen]
  unfold execFlushStripe
  simp only [hd, if_neg hgo, hfind, hwait, Bool.false_eq_true, Option.isSome_none, if_false, and_false, hread.mapOn rfl,
    hread.rowClash rfl rfl, hread.rowFind rfl]
  cases old <;> rfl

end

/-! ### The programs of a row's members (R93, R110) -/

theorem memberGone_setRow (r : Row) (k : Nat) : (s.setRow r).memberGone k = s.memberGone k := by
  unfold State.memberGone
  rw [(State.setRow_frame s r).writeDie (by decide) (by decide) (by decide) rfl]
  rfl

/-- A member whose program cannot be made has a failing status. -/
theorem memberGone_ne_ok {k st : Nat} (h : s.memberGone k = some st) : st ≠ St.ok := by
  unfold State.memberGone State.writeDie at h
  dsimp only at h
  split at h
  · cases h; decide
  · split at h
    · cases h; decide
    · split at h
      · cases h; decide
      · cases h

/-- The program of member `m` of a row. -/
def memberProg (s : State) (r : Row) (m : Nat) : DieOp :=
  { id := s.seq.nextId, ord := r.due, cls := 2, origin := .queue r.opener,
    pages := (List.range (s.rowPlanes r.layout)).map fun i =>
      s.busAddr (mkAddr ((s.layout r.layout).getD m 0) (r.base + i) r.page 0),
    purpose := (List.range (s.rowPlanes r.layout)).map fun _ => .progRow r.id m, data := s.memberPages r m }

theorem startMember_goes {r : Row} {m : Nat} (h : s.memberGone ((s.layout r.layout).getD m 0) = none) :
    s.startMember r m = s.fresh.2.enqueueProg (s.memberProg r m) := by
  unfold State.startMember
  simp only [h]
  rfl

theorem startMember_gone {r : Row} {m st : Nat} (h : s.memberGone ((s.layout r.layout).getD m 0) = some st) :
    s.startMember r m = s.rowMemberDone r.id m st := by
  unfold State.startMember
  simp only [h]

/-- A member's program stands aside for the first of its blocks that must be re-erased. -/
theorem firstReerase_memberProg (r : Row) (m : Nat) (t : State) :
    t.firstReerase (s.memberProg r m) = (s.memberProg r m).pages.find? t.mustReerase := by
  have hplanes : 0 < s.rowPlanes r.layout := by unfold State.rowPlanes; omega
  unfold State.firstReerase
  refine if_pos (List.any_eq_true.2 ⟨.progRow r.id m, ?_, rfl⟩)
  exact List.mem_map.2 ⟨0, List.mem_range.2 hplanes, rfl⟩

/-- The range invalidation of an erase touches neither waiting operations nor rows nor programs that stand aside. -/
theorem eraseRange_keeps (k : Nat) (blocks : List Nat) :
    (s.eraseRange k blocks).seq.waiting = s.seq.waiting ∧ (s.eraseRange k blocks).seq.rows = s.seq.rows ∧
      (s.eraseRange k blocks).seq.ahead = s.seq.ahead := by
  have hframe := State.phRange_frame s [k] (some blocks)
  exact ⟨hframe.waiting (by decide), hframe.rows (by decide), hframe.ahead (by decide)⟩

/-- What waits for a place in the list of ranges is noted, and touches none of them either. -/
theorem rangeWait_keeps :
    (s.raise F.MI_PH_EVENT_RANGE_WAIT).seq.waiting = s.seq.waiting ∧ (s.raise F.MI_PH_EVENT_RANGE_WAIT).seq.rows = s.seq.rows ∧
      (s.raise F.MI_PH_EVENT_RANGE_WAIT).seq.ahead = s.seq.ahead := by
  have hframe := State.raise_frame (m := 0x42150012) s F.MI_PH_EVENT_RANGE_WAIT rfl rfl rfl
  exact ⟨hframe.waiting rfl, hframe.rows rfl, hframe.ahead rfl⟩

/-- An erase waits behind the operations there were; rows and the programs that stand aside are as they were. -/
theorem enqueueErase_waits (k b : Nat) (p : Purpose) (origin : Origin) (ord : Nat) (recovery : Bool) :
    ∃ o : DieOp, (s.enqueueErase k [b] p origin ord recovery).seq.waiting = s.seq.waiting ++ [o] ∧ o.cls = 3 ∧ o.purpose = [p] ∧
      o.pages = [s.busAddr (mkAddr k b 0 0)] ∧ (s.enqueueErase k [b] p origin ord recovery).seq.rows = s.seq.rows ∧
      (s.enqueueErase k [b] p origin ord recovery).seq.ahead = s.seq.ahead := by
  unfold State.enqueueErase
  dsimp only
  by_cases hfull : 8 ≤ s.ph.ranges.length
  · obtain ⟨hwaiting, hrows, hahead⟩ := rangeWait_keeps (s := s)
    rw [decide_eq_true hfull, if_pos rfl]
    exact ⟨_, congrArg (· ++ [_]) hwaiting, rfl, rfl, rfl, hrows, hahead⟩
  · obtain ⟨hwaiting, hrows, hahead⟩ := eraseRange_keeps (s := s) k [b]
    rw [decide_eq_false hfull, if_neg (by decide)]
    exact ⟨_, congrArg (· ++ [_]) hwaiting, rfl, rfl, rfl, hrows, hahead⟩

/-- A program that a re-erase of the block of page `p` goes before stands aside, and the erase waits. -/
theorem eraseAhead_waits (o : DieOp) (p : Nat) :
    ∃ e : DieOp, (s.eraseAhead o p).seq.ahead = s.seq.ahead ++ [o] ∧ (s.eraseAhead o p).seq.waiting = s.seq.waiting ++ [e] ∧ e.cls = 3 ∧
      e.purpose = [.eraseAhead o.id] ∧ e.pages = [s.busAddr (mkAddr (s.logicalDie (addrDie p)) (addrBlock p) 0 0)] ∧
      (s.eraseAhead o p).seq.rows = s.seq.rows := by
  obtain ⟨e, hwaiting, hcls, hpurpose, hpages, hrows, hahead⟩ :=
    enqueueErase_waits (s := { s with seq := { s.seq with ahead := s.seq.ahead ++ [o] } }) (s.logicalDie (addrDie p)) (addrBlock p)
      (.eraseAhead o.id) o.origin o.ord true
  exact ⟨e, hahead, hwaiting, hcls, hpurpose, hpages, hrows⟩

/-- Pending lines of a page that was not programmed are dropped: the flash and the descriptors are as they were. -/
theorem pageLines_dropped_frame (page : Nat) : Frame 0x42150812 s (s.pageLines page false) := by
  refine Frame.foldl (Frame.refl s) fun u e => ?_
  unfold State.lineEnds
  split
  · exact State.phDrop_frame ..
  · exact Frame.refl u

/-- A member that fails has its status recorded, the lines of its pages dropped. -/
theorem rowMemberDone_failed {r : Row} {m st : Nat} (hrow : s.row? r.id = some r) (hnew : ∀ e ∈ r.members, e.1 ≠ m) (hst : st ≠ St.ok) :
    ∃ u, s.rowMemberDone r.id m st = u.setRow { r with members := r.members ++ [(m, st)] } ∧ Frame 0x42150812 s u := by
  have hany : r.members.any (·.1 = m) = false := List.any_eq_false.2 fun e he => by simpa using hnew e he
  refine ⟨_, ?_, Frame.foldl (l := List.range (s.rowPlanes r.layout)) (Frame.refl s) fun u i =>
    pageLines_dropped_frame (mkAddr ((u.layout r.layout).getD m 0) (r.base + i) r.page 0)⟩
  unfold State.rowMemberDone
  simp only [hrow, hany, hst, decide_false, Bool.false_eq_true, if_false]

end State

/-- The row notes that member `m` has been started. -/
def Row.noting (r : Row) (m : Nat) : Row := { r with started := r.started ++ [m] }

namespace State

variable {s : State}

/-- A member that can be programmed starts. -/
theorem execRowMemberProgramStart_goes {row m : Nat} {r : Row} (hrow : s.row? row = some r) (hm : m < 16) (hnew : m ∉ r.started)
    (hack : r.mapAck = true) (hready : s.memberReady r m = true) (hmode : s.modeNow ≠ 10) :
    execRowMemberProgramStart row m s =
      .next ((s.setRow (r.noting m)).startMember (r.noting m) m) := by
  unfold execRowMemberProgramStart
  simp only [hrow]
  exact if_neg (by simp [hnew, hack, hready, hmode, hm])

end State

/-! ### The end of a row (R93) -/

/-- The status of member `m` of a row, where it failed. -/
def Row.badMember (r : Row) (m : Nat) : Option Nat :=
  (r.members.find? (·.1 = m)).bind fun e => if e.2 ≠ St.ok then some e.2 else none

/-- The status of a row: that of its first failing member. -/
def Row.status (r : Row) : Nat := ((List.range 16).filterMap r.badMember).headD St.ok

theorem Row.status_ok {r : Row} (h : ∀ e ∈ r.members, e.2 = St.ok) : r.status = St.ok := by
  have hgood : ∀ m ∈ List.range 16, r.badMember m = none := fun m _ => by
    unfold Row.badMember
    cases hf : r.members.find? (·.1 = m) with
    | none => rfl
    | some e => simp [h e (List.mem_of_find?_eq_some hf)]
  unfold Row.status
  rw [List.filterMap_eq_nil_iff.2 hgood]
  rfl

theorem Row.status_failed {r : Row} {m st : Nat} (hm : m < 16) (hfind : r.members.find? (·.1 = m) = some (m, st)) (hst : st ≠ St.ok)
    (hfirst : ∀ i e, i < m → r.members.find? (·.1 = i) = some e → e.2 = St.ok) : r.status = st := by
  have hbad : r.badMember m = some st := by
    unfold Row.badMember
    rw [hfind]
    exact if_pos hst
  have hgood : ∀ i ∈ List.range m, r.badMember i = none := fun i hi => by
    unfold Row.badMember
    cases hf : r.members.find? (·.1 = i) with
    | none => rfl
    | some e => simp [hfirst i e (List.mem_range.1 hi) hf]
  have hsplit : List.range 16 = List.range m ++ m :: (List.range (15 - m)).map (m + 1 + ·) := by
    rw [show (16 : Nat) = m + (15 - m + 1) by omega, List.range_add, List.range_succ_eq_map]
    simp [Function.comp_def, Nat.add_assoc, Nat.add_comm 1]
  unfold Row.status
  rw [hsplit, List.filterMap_append, List.filterMap_eq_nil_iff.2 hgood, List.filterMap_cons_some hbad]
  rfl

namespace State

variable {s : State}

/-- One descriptor that waits for a row ends with the row's status: its count is its own only where the row passed, or a flush's. -/
def waitEnds (st : Nat) (s : State) (w : Nat × Nat) : State :=
  match s.desc? w.1 with
  | some d => s.finish w.1 st (if st = St.ok ∨ d.op = 0x08 then w.2 else 0)
  | none => s

theorem desc?_waitEnds_ne {st id : Nat} {w : Nat × Nat} (h : id ≠ w.1) : (s.waitEnds st w).desc? id = s.desc? id := by
  unfold waitEnds
  split
  · exact desc?_finish_ne _ _ h
  · rfl

theorem desc?_foldl_waitEnds_ne {st id : Nat} {l : List (Nat × Nat)} (h : id ∉ l.map Prod.fst) :
    (l.foldl (waitEnds st) s).desc? id = s.desc? id := by
  induction l generalizing s with
  | nil => rfl
  | cons w l ih =>
    rw [List.map_cons, List.mem_cons, not_or] at h
    rw [List.foldl_cons, ih h.2, desc?_waitEnds_ne h.1]

/-- Every descriptor that waits for a row ends. -/
theorem ended_foldl_waitEnds {st : Nat} {l : List (Nat × Nat)} (hnodup : (l.map Prod.fst).Nodup) {w : Nat × Nat} (hw : w ∈ l) {e : Desc}
    (he : s.desc? w.1 = some e) (hopen : e.status = none) (hbuf : e.bufferFault = false) :
    (l.foldl (waitEnds st) s).ended w.1 st (if st = St.ok ∨ e.op = 0x08 then w.2 else 0) := by
  induction l generalizing s with
  | nil => cases hw
  | cons x l ih =>
    rw [List.map_cons, List.nodup_cons] at hnodup
    obtain ⟨hx, hl⟩ := hnodup
    rw [List.foldl_cons]
    rcases List.mem_cons.1 hw with rfl | hw
    · have hend : (s.waitEnds st w).ended w.1 st (if st = St.ok ∨ e.op = 0x08 then w.2 else 0) := by
        unfold waitEnds
        rw [he]
        exact ended_finish _ _ he hopen hbuf
      unfold State.ended
      rwa [desc?_foldl_waitEnds_ne hx]
    · refine ih hl hw ?_
      rw [desc?_waitEnds_ne, he]
      exact fun h => hx (h ▸ List.mem_map_of_mem hw)

/-- A row all of whose members have ended leaves, and what waits for it ends at one time. -/
theorem execRowComplete_goes {row : Nat} {r : Row} (hrow : s.row? row = some r) (hall : 16 ≤ r.members.length) :
    ∃ t, execRowComplete row s = .next t ∧ t.seq.rows = ((r.waits.foldl (waitEnds r.status) s).together s.seq.nextId).seq.rows.filter
      (fun x => x.id ≠ r.id) ∧ t.descs = ((r.waits.foldl (waitEnds r.status) s).together s.seq.nextId).descs := by
  unfold execRowComplete
  simp only [hrow]
  rw [if_neg (by omega)]
  exact ⟨_, rfl, rfl, rfl⟩

end State

end Sys2Proof.Machine
end

section
/-! PROOFS. The statement about stripe rows (R20, R84, R88, R90, R92, R93, R110, R235, R287). -/

namespace Sys2Proof.Machine

namespace State

variable {s : State}

/-! ### Rows that are filled (R88, R90, R92) -/

section

variable {d : Desc} (buf md : Bytes) (maps : List Bytes) (corr : Nat) (hrun : s.ioRuns d.id 0x05 d)

include hrun

/-- A PROGRAM_STRIPE without a row opens one with its envelopes, and waits for it and for its map write. -/
theorem programStripe_opens (hsq : s.sqLeaving d.sq = false)
    (hfind : s.rowFind (field d.bytes 5 1) (addrBlock (field d.bytes 8 8)) (addrPage (field d.bytes 8 8)) = none)
    (hok : ¬ s.stripeRefused maps md d 0) (hlate : d.late = none) :
    ∃ t r e, execProgramStripe d.id buf md maps s corr none = .next t ∧ r ∈ t.seq.rows ∧ r.layout = field d.bytes 5 1 ∧
      r.base = addrBlock (field d.bytes 8 8) ∧ r.page = addrPage (field d.bytes 8 8) ∧ r.filled = s.stripeEnvs d buf md 0 ∧
      r.waits = [(d.id, field d.bytes 16 4)] ∧ r.opener = d.sq ∧ r.due = d.id ∧
      r.mapAck = lineBit (maps.getD (field d.bytes 5 1) []) (s.mapIdx (field d.bytes 5 1) (addrBlock (field d.bytes 8 8))) ∧
      t.desc? d.id = some e ∧ e.started = true ∧ e.status = none ∧
      t.fi.mapWrites = s.fi.mapWrites ++ (if r.mapAck then [] else [d.id]) := by
  have hexec := execProgramStripe_fills buf md maps corr hrun hfind (by simp) hok hlate
  obtain ⟨hd, -, -, hopen, -⟩ := hrun
  have hread := State.dramReads_frame s corr
  have hopened := (rowOpened_frame (s := s.dramReads corr) maps d).after (hread.mono (m := 0x42012101) rfl) rfl
  obtain ⟨hrow, hstarted, hfi⟩ := stripeFilled_fills (s.stripeEnvs d buf md 0) ((hopened.desc? (by decide) d.id).trans hd)
    (mem_rowOpened (s := s.dramReads corr) maps d) rfl ((hopened.sqLeaving (by decide) d.sq).trans hsq)
  refine ⟨_, _, _, hexec, hrow, rfl, rfl, rfl, rfl, rfl, rfl, rfl, ?_, hstarted, rfl, hopen, ?_⟩
  · exact congrArg (lineBit _) (hread.mapIdx (by decide) _ _)
  · exact (congrArg Fi.mapWrites hfi).trans (rowOpened_mapWrites (s := s.dramReads corr) maps d)

/-- A PROGRAM_STRIPE whose row is open puts its envelopes behind those it holds, and waits for it. -/
theorem programStripe_fillsOn {r : Row} (hsq : s.sqLeaving d.sq = false)
    (hfind : s.rowFind (field d.bytes 5 1) (addrBlock (field d.bytes 8 8)) (addrPage (field d.bytes 8 8)) = some r)
    (hack : r.mapAck = true) (hok : ¬ s.stripeRefused maps md d r.filled.length) (hlate : d.late = none) :
    ∃ t r' e, execProgramStripe d.id buf md maps s corr none = .next t ∧ r' ∈ t.seq.rows ∧ r'.id = r.id ∧
      r'.filled = r.filled ++ s.stripeEnvs d buf md r.filled.length ∧ r'.waits = r.waits ++ [(d.id, field d.bytes 16 4)] ∧ r'.due = d.id ∧
      t.desc? d.id = some e ∧ e.started = true ∧ e.status = none := by
  have hexec := execProgramStripe_fills buf md maps corr hrun hfind (by simpa using hack) hok hlate
  obtain ⟨hd, -, -, hopen, -⟩ := hrun
  have hread := State.dramReads_frame s corr
  obtain ⟨hrow, hstarted, -⟩ := stripeFilled_fills (s := s.dramReads corr) (s.stripeEnvs d buf md r.filled.length)
    ((hread.desc? (by decide) d.id).trans hd) ((hread.rows (by decide)).symm ▸ List.mem_of_find?_eq_some hfind) rfl
    ((hread.sqLeaving (by decide) d.sq).trans hsq)
  exact ⟨_, _, _, hexec, hrow, rfl, rfl, rfl, rfl, hstarted, rfl, hopen⟩

end

section

variable {d : Desc} (maps : List Bytes) (corr : Nat) (hrun : s.ioRuns d.id 0x08 d) (hmap : s.mapOn = true)
  (hclash : s.rowClash maps (field d.bytes 5 1) (addrBlock (field d.bytes 8 8)) = false)

include hrun hmap hclash

/-- A FLUSH_STRIPE without a row ends. -/
theorem flushStripe_ends (hfind : s.rowFind (field d.bytes 5 1) (addrBlock (field d.bytes 8 8)) (addrPage (field d.bytes 8 8)) = none) :
    execFlushStripe d.id maps s corr none = .next ((s.dramReads corr).finish d.id St.ok 0) := by
  rw [execFlushStripe_goes maps corr hrun hfind (by simp), if_neg (by simp [hmap, hclash])]
  rfl

/-- A FLUSH_STRIPE whose row is open fills it up, and waits for it. -/
theorem flushStripe_fills {r : Row}
    (hfind : s.rowFind (field d.bytes 5 1) (addrBlock (field d.bytes 8 8)) (addrPage (field d.bytes 8 8)) = some r)
    (hack : r.mapAck = true) (hle : r.filled.length ≤ s.rowSize (field d.bytes 5 1)) :
    ∃ t r', execFlushStripe d.id maps s corr none = .next t ∧ r' ∈ t.seq.rows ∧ r'.id = r.id ∧
      r'.filled.length = s.rowSize (field d.bytes 5 1) ∧ r'.filled.take r.filled.length = r.filled ∧
      r'.waits = r.waits ++ [(d.id, s.rowSize (field d.bytes 5 1) - r.filled.length)] ∧ r'.due = d.id ∧
      Frame (may [.descs, .flash, .freeValues, .regs 7]) s t := by
  have hread := State.dramReads_frame s corr
  have hlayout : r.layout = field d.bytes 5 1 := by
    have hfound := List.find?_some hfind
    simp only [Bool.and_eq_true, decide_eq_true_eq] at hfound
    obtain ⟨⟨hlayout, -⟩, -⟩ := hfound
    exact hlayout
  obtain ⟨r', hrow, hid, hfull, htake, hwaits, hdue⟩ := flushFilled_fills (s := s.dramReads corr) (d := d)
    ((hread.rows (by decide)).symm ▸ List.mem_of_find?_eq_some hfind) hlayout hle
  refine ⟨_, r', ?_, hrow, hid, hfull, htake, hwaits, hdue, (flushFilled_frame r d).after (hread.mono rfl) rfl⟩
  rw [execFlushStripe_goes maps corr hrun hfind (by simpa using hack), if_neg (by simp [hmap, hclash])]
  rfl

end

/-! ### Members (R93, R110) -/

section

variable {r : Row} {m : Nat} (hrow : s.row? r.id = some r)

/-- A member whose blocks need no re-erase is programmed. -/
theorem startMember_programs (hgone : s.memberGone ((s.layout r.layout).getD m 0) = none)
    (hnone : (s.memberProg r m).pages.find? s.mustReerase = none) : s.startMember r m = s.fresh.2.enqueue (s.memberProg r m) := by
  rw [startMember_goes hgone]
  unfold State.enqueueProg
  rw [firstReerase_memberProg, show s.fresh.2.mustReerase = s.mustReerase from rfl, hnone]

/-- Any other stands aside for the re-erase of the first block that needs it. -/
theorem startMember_reerases {p : Nat} (hgone : s.memberGone ((s.layout r.layout).getD m 0) = none)
    (hfirst : (s.memberProg r m).pages.find? s.mustReerase = some p) :
    s.startMember r m = s.fresh.2.eraseAhead (s.memberProg r m) p := by
  rw [startMember_goes hgone]
  unfold State.enqueueProg
  rw [firstReerase_memberProg, show s.fresh.2.mustReerase = s.mustReerase from rfl, hfirst]

include hrow

theorem row?_noting : (s.setRow (r.noting m)).row? r.id = some (r.noting m) := row?_setRow_same (r := r.noting m) hrow

/-- A member that is programmed: its program waits, and the row notes it. -/
theorem noted_programs (hgone : s.memberGone ((s.layout r.layout).getD m 0) = none)
    (hnone : (s.memberProg r m).pages.find? s.mustReerase = none) :
    ∃ t o, (s.setRow (r.noting m)).startMember (r.noting m) m = t ∧ t.seq.waiting = s.seq.waiting ++ [o] ∧ o.cls = 2 ∧ o.ord = r.due ∧
      o.data = s.memberPages r m ∧ o.pages = (s.memberProg r m).pages ∧ t.row? r.id = some (r.noting m) ∧
      Frame (may [.flash]) s t :=
  ⟨_, _, startMember_programs ((memberGone_setRow ..).trans hgone) hnone, rfl, rfl, rfl, rfl, rfl, row?_noting hrow,
    (State.enqueue_frame ..).after (((State.fresh_frame _).mono rfl).after (State.setRow_frame s (r.noting m)) rfl) rfl⟩

/-- A member that stands aside: its program, the erase it waits for, and the row that notes it. -/
theorem noted_reerases {p : Nat} (hgone : s.memberGone ((s.layout r.layout).getD m 0) = none)
    (hfirst : (s.memberProg r m).pages.find? s.mustReerase = some p) :
    ∃ t o, (s.setRow (r.noting m)).startMember (r.noting m) m = t ∧
      t.seq.ahead = s.seq.ahead ++ [(s.setRow (r.noting m)).memberProg (r.noting m) m] ∧ t.seq.waiting = s.seq.waiting ++ [o] ∧ o.cls = 3 ∧
      o.purpose = [.eraseAhead ((s.setRow (r.noting m)).memberProg (r.noting m) m).id] ∧
      o.pages = [s.busAddr (mkAddr (s.logicalDie (addrDie p)) (addrBlock p) 0 0)] ∧ t.row? r.id = some (r.noting m) := by
  obtain ⟨o, hahead, hwaiting, hcls, hpurpose, hpages, hrows⟩ := eraseAhead_waits (s := (s.setRow (r.noting m)).fresh.2)
    ((s.setRow (r.noting m)).memberProg (r.noting m) m) p
  refine ⟨_, o, startMember_reerases ((memberGone_setRow ..).trans hgone) hfirst, hahead, hwaiting, hcls, hpurpose, hpages, ?_⟩
  unfold State.row?
  rw [hrows]
  exact row?_noting hrow

/-- A member that cannot be programmed has its status recorded, and nothing waits for its die. -/
theorem noted_fails {st : Nat} (hgone : s.memberGone ((s.layout r.layout).getD m 0) = some st) (hnew : ∀ e ∈ r.members, e.1 ≠ m) :
    ∃ t, (s.setRow (r.noting m)).startMember (r.noting m) m = t ∧
      t.row? r.id = some { r with started := r.started ++ [m], members := r.members ++ [(m, st)] } ∧ t.descs = s.descs ∧
      t.seq.waiting = s.seq.waiting ∧ t.seq.dies = s.seq.dies := by
  obtain ⟨u, hdone, hdropped⟩ := rowMemberDone_failed (r := r.noting m) (row?_noting hrow) hnew (memberGone_ne_ok hgone)
  refine ⟨_, (startMember_gone ((memberGone_setRow ..).trans hgone)).trans hdone, ?_, hdropped.descs (by decide),
    hdropped.waiting (by decide), hdropped.dies (by decide)⟩
  exact row?_setRow_same (r := { r.noting m with members := r.members ++ [(m, st)] })
    ((hdropped.row? (by decide) r.id).trans (row?_noting hrow))

end

/-! ### Rows that complete (R93) -/

/-- A row all of whose members have ended leaves, and every descriptor that waits for it ends with the row's status. -/
theorem rowComplete_ends {row : Nat} {r : Row} (hrow : s.row? row = some r) (hall : 16 ≤ r.members.length)
    (hnodup : (r.waits.map Prod.fst).Nodup)
    (hopen : ∀ w ∈ r.waits, ∃ e, s.desc? w.1 = some e ∧ e.status = none ∧ e.bufferFault = false) :
    ∃ t, execRowComplete row s = .next t ∧ t.row? row = none ∧ Frame (may [.descs, .flash]) s t ∧
      ∀ w ∈ r.waits, ∀ e, s.desc? w.1 = some e → t.ended w.1 r.status (if r.status = St.ok ∨ e.op = 0x08 then w.2 else 0) := by
  obtain ⟨t, hexec, hrows, hdescs⟩ := execRowComplete_goes hrow hall
  obtain rfl := id_of_row? hrow
  refine ⟨t, hexec, ?_, execRowComplete_frame r.id s t hexec, fun w hw e he => ?_⟩
  · unfold State.row?
    rw [hrows, List.find?_eq_none]
    simp
  · obtain ⟨x, hx, hst, hbuf⟩ := hopen w hw
    obtain rfl : x = e := Option.some.inj (hx.symm.trans he)
    have hend := ended_together s.seq.nextId (ended_foldl_waitEnds (st := r.status) hnodup hw he hst hbuf)
    unfold State.ended State.desc? at hend ⊢
    rwa [hdescs]

end State

/-- Settles O39: each command ends at its checks, or fills its row by `State.stripeFilled` or `State.flushFilled`; a member goes by
`State.startMember`, and what waits for a row ends with `Row.status`. -/
theorem stripeRowsFillAndComplete : Obligations.StripeRowsFillAndComplete := by
  refine ⟨?program, ?flush, ?member, ?complete⟩
  case program =>
    rintro s id n a j corr d buf md maps envs hrun rfl rfl rfl hsq rfl
    obtain rfl := State.id_of_desc? hrun.1
    refine ⟨fun used hsome hnone hbad => ?_, fun hmap hclash hmeta => ⟨fun st hfind hfit hlate => ?_, fun hfind hfit hlate => ?_,
      fun r hfind hack hfit hlate => ?_⟩, fun r hfind hack lost => ?_, fun u hfind hmap => ?_⟩
    · have hused : used = (s.rowFind (field d.bytes 5 1) (addrBlock (field d.bytes 8 8)) (addrPage (field d.bytes 8 8))).elim 0
          fun r => r.filled.length := by
        cases hfind : s.rowFind (field d.bytes 5 1) (addrBlock (field d.bytes 8 8)) (addrPage (field d.bytes 8 8)) with
        | none => exact hnone hfind
        | some r => exact (hsome r hfind).2
      exact ⟨_, State.execProgramStripe_refused buf md maps corr hrun rfl (fun r hr => (hsome r hr).1) hsq
        (by simpa [State.stripeRefused, ← hused] using hbad), State.ended_finish_dramReads corr St.malformed 0 hrun⟩
    · exact ⟨_, State.execProgramStripe_late buf md maps corr hrun hfind (by simp) hsq
        (by simp [State.stripeRefused, hmap, hclash, hmeta, hfit]) hlate, State.ended_finish_dramReads corr st 0 hrun⟩
    · exact State.programStripe_opens buf md maps corr hrun hsq hfind (by simp [State.stripeRefused, hmap, hclash, hmeta, hfit]) hlate
    · exact State.programStripe_fillsOn buf md maps corr hrun hsq hfind hack
        (by simp [State.stripeRefused, hmap, hclash, hmeta, hfit]) hlate
    · exact State.execProgramStripe_waits buf md maps corr hrun lost hfind hack
    · exact State.execProgramStripe_lost buf md maps corr hrun u hfind hmap
  case flush =>
    rintro s id a j corr d maps hrun rfl rfl
    obtain rfl := State.id_of_desc? hrun.1
    refine ⟨fun hmap hclash hfind => ?_, fun r hmap hclash hfind hack hle => ?_, fun hfind hbad => ?_, fun u hfind hmap => ?_⟩
    · exact ⟨_, State.flushStripe_ends maps corr hrun hmap hclash hfind, State.ended_finish_dramReads corr St.ok 0 hrun⟩
    · exact State.flushStripe_fills maps corr hrun hmap hclash hfind hack hle
    · exact ⟨_, (State.execFlushStripe_goes maps corr hrun hfind (by simp)).trans (if_pos hbad),
        State.ended_finish_dramReads corr St.malformed 0 hrun⟩
    · exact State.execFlushStripe_lost maps corr hrun u hfind hmap
  case member =>
    rintro s row m k r pages hrow hm hnew hack hready hmode rfl rfl
    obtain rfl := State.id_of_row? hrow
    have hexec := State.execRowMemberProgramStart_goes hrow hm hnew hack hready hmode
    refine ⟨fun hgone hnone => ?_, fun p hgone hfirst => ?_, fun st hgone hmember => ?_⟩
    · obtain ⟨t, o, ht, hprogram⟩ := State.noted_programs hrow hgone hnone
      exact ⟨t, o, ht ▸ hexec, hprogram⟩
    · obtain ⟨t, o, ht, hahead, hwaiting, hcls, hpurpose, hpages, hnoted⟩ := State.noted_reerases hrow hgone hfirst
      exact ⟨t, o, _, ht ▸ hexec, hahead, rfl, rfl, rfl, rfl, hwaiting, hcls, hpurpose, hpages, hnoted⟩
    · obtain ⟨t, ht, hfailed⟩ := State.noted_fails hrow hgone hmember
      exact ⟨t, ht ▸ hexec, hfailed⟩
  case complete =>
    intro s row r hrow hall hnodup hopen
    obtain ⟨t, hexec, hleft, hframe, hends⟩ := State.rowComplete_ends hrow hall hnodup hopen
    refine ⟨fun hgood => ⟨t, hexec, hleft, fun w hw => ?_, hframe⟩, fun m st hm hfind hst hfirst =>
      ⟨t, hexec, hleft, fun w hw e he => ?_, hframe⟩⟩
    · obtain ⟨e, he, -⟩ := hopen w hw
      simpa [Row.status_ok hgood, St.ok] using hends w hw e he
    · have hend := hends w hw e he
      rw [Row.status_failed hm hfind hst hfirst] at hend
      simpa [show st ≠ St.ok from hst] using hend

end Sys2Proof.Machine
end


section
/-! PROOFS. Structure images: their state register, and what LOAD, APPLY, DISCARD, a fetch and a verification leave (R36, R44 to R56). -/

namespace Sys2Proof.Machine
namespace State

variable {s : State}

/-! ### The state register of the image loader (R44) -/

/-- What is staged has no part in a register. -/
theorem getR_ite_img (c : Prop) [Decidable c] (i : Img) (off : Nat) : State.getR (if c then { s with img := i } else s) off = s.getR off := by
  split <;> rfl

/-- A register that no notice touches holds what the three fields of the loader's state make of it. -/
theorem getR_imgState {off : Nat} (st cause sec : Nat) (h : still off) : (s.imgState st cause sec).getR off =
    (((s.setF F.IMG_STATUS_STATE st).setF F.IMG_STATUS_CAUSE cause).setF F.IMG_STATUS_SECTION sec).getR off := by
  unfold State.imgState
  generalize ((s.setF F.IMG_STATUS_STATE st).setF F.IMG_STATUS_CAUSE cause).setF F.IMG_STATUS_SECTION sec = u
  dsimp only
  rw [← getR_ite_img (s := u) (st = 0 ∨ st = 6 ∨ st = 7) { u.img with staging := [] } off]
  split
  · exact fire_getR _ _ h
  · rfl

theorem getR_imgState_ne {off : Nat} (st cause sec : Nat) (h : still off) (hoff : off ≠ R.IMG_STATUS) :
    (s.imgState st cause sec).getR off = s.getR off := by
  rw [getR_imgState st cause sec h, getR_setF_ne _ _ hoff, getR_setF_ne _ _ hoff, getR_setF_ne _ _ hoff]

theorem getF_imgState {f : Field} (st cause sec : Nat) (h : still f.off) : (s.imgState st cause sec).getF f =
    (((s.setF F.IMG_STATUS_STATE st).setF F.IMG_STATUS_CAUSE cause).setF F.IMG_STATUS_SECTION sec).getF f := by
  unfold State.getF
  rw [getR_imgState st cause sec h]

theorem getF_imgState_state (st cause sec : Nat) : (s.imgState st cause sec).getF F.IMG_STATUS_STATE = st % 8 := by
  rw [getF_imgState st cause sec (by decide), getF_setF_ne _ _ (by decide) (by decide), getF_setF_ne _ _ (by decide) (by decide),
    getF_setF_same _ _ _ (by decide)]
  rfl

theorem getF_imgState_cause (st cause sec : Nat) : (s.imgState st cause sec).getF F.IMG_STATUS_CAUSE = cause % 256 := by
  rw [getF_imgState st cause sec (by decide), getF_setF_ne _ _ (by decide) (by decide), getF_setF_same _ _ _ (by decide)]
  rfl

theorem getF_imgState_section (st cause sec : Nat) : (s.imgState st cause sec).getF F.IMG_STATUS_SECTION = sec % 256 := by
  rw [getF_imgState st cause sec (by decide), getF_setF_same _ _ _ (by decide)]
  rfl

/-- EMPTY, APPLIED and REJECTED hold nothing in staging. -/
theorem imgState_img (st cause sec : Nat) :
    (s.imgState st cause sec).img = if st = 0 ∨ st = 6 ∨ st = 7 then { s.img with staging := [] } else s.img := by
  have hfields : (((s.setF F.IMG_STATUS_STATE st).setF F.IMG_STATUS_CAUSE cause).setF F.IMG_STATUS_SECTION sec).img = s.img := rfl
  unfold State.imgState
  generalize ((s.setF F.IMG_STATUS_STATE st).setF F.IMG_STATUS_CAUSE cause).setF F.IMG_STATUS_SECTION sec = u at hfields ⊢
  have hput : (if st = 0 ∨ st = 6 ∨ st = 7 then { u with img := { u.img with staging := [] } } else u : State).img =
      if st = 0 ∨ st = 6 ∨ st = 7 then { s.img with staging := [] } else s.img := by
    rw [← hfields]
    split <;> rfl
  dsimp only
  rw [← hput]
  split
  · exact (State.fire_frame _ 5).img (by decide)
  · rfl

theorem imgState_active (st cause sec : Nat) : (s.imgState st cause sec).img.active = s.img.active := by
  rw [imgState_img]; split <;> rfl

theorem imgState_cfg (st cause sec : Nat) : (s.imgState st cause sec).img.cfg = s.img.cfg := by
  rw [imgState_img]; split <;> rfl

theorem imgState_draining (st cause sec : Nat) : (s.imgState st cause sec).img.draining = s.img.draining := by
  rw [imgState_img]; split <;> rfl

theorem imgState_staging (st cause sec : Nat) :
    (s.imgState st cause sec).img.staging = if st = 0 ∨ st = 6 ∨ st = 7 then [] else s.img.staging := by
  rw [imgState_img]; split <;> rfl

/-- Outside APPLIED and REJECTED no notice fires: only the image's part and its registers change. -/
theorem imgState_silent_frame {st : Nat} (cause sec : Nat) (h : st ≠ 6 ∧ st ≠ 7) :
    Frame (may [.image, .regs 1]) s (s.imgState st cause sec) := by
  have hfields : Frame (may [.image, .regs 1]) s
      (((s.setF F.IMG_STATUS_STATE st).setF F.IMG_STATUS_CAUSE cause).setF F.IMG_STATUS_SECTION sec) :=
    (setF_frame _ _ _ rfl rfl).step ((setF_frame _ _ _ rfl rfl).step (setF_frame s _ _ rfl rfl))
  unfold State.imgState
  generalize ((s.setF F.IMG_STATUS_STATE st).setF F.IMG_STATUS_CAUSE cause).setF F.IMG_STATUS_SECTION sec = u at hfields ⊢
  dsimp only
  rw [if_neg (by omega)]
  split
  · exact { hfields with img := fun q => absurd q (by decide) }
  · exact hfields

end State
end Sys2Proof.Machine
end

section
/-! PROOFS. Structure images: LOAD, APPLY and DISCARD, the fetch and the verification (R36, R45, R50, R51, R56). -/

namespace Sys2Proof.Machine
namespace State

variable {s : State}

/-! ### Commands to the loader (R50, R51, R56) -/

/-- `ENS_IMG_CTRL` has no locked bit: a write of it takes effect. -/
theorem writeReg_imgCtrl {v : W32} (h : s.takes R.IMG_CTRL) : s.writeReg R.IMG_CTRL v = s.imgCtrlWrite v.toNat := by
  obtain ⟨row, hr, hrwx, hrwl⟩ : ∃ row, regRow? R.IMG_CTRL = some row ∧ row.rwx = 0 ∧ row.rwl = 0 := ⟨_, rfl, rfl, rfl⟩
  have hctrl : s.applyWrite row R.IMG_CTRL v = s.imgCtrlWrite v.toNat := rfl
  have hheld : (s.imgCtrlWrite v.toNat).sec.heldWrites = [] := by
    obtain ⟨-, -, -, hnone⟩ := h
    rw [(State.imgCtrlWrite_frame s v.toNat).sec (by decide), hnone]
  rw [writeReg_takes h hr (by decide) (by simp [State.lockedMask, hrwx, hrwl]) (hctrl ▸ hheld), hctrl]

theorem imgCtrlWrite_load {v : Nat} (h : v % 8 = 1) : s.imgCtrlWrite v = s.imgLoad := by unfold State.imgCtrlWrite; simp only [h]
theorem imgCtrlWrite_apply {v : Nat} (h : v % 8 = 2) : s.imgCtrlWrite v = s.imgApply := by unfold State.imgCtrlWrite; simp only [h]
theorem imgCtrlWrite_discard {v : Nat} (h : v % 8 = 4) : s.imgCtrlWrite v = s.imgDiscard := by unfold State.imgCtrlWrite; simp only [h]

/-- Staging is empty and a wake's image is looked for no more: what a LOAD leaves beside the loader's state. -/
def stagingCleared (s : State) : State :=
  { s with img := { s.img with staging := [] }, mode := { s.mode with watchImage := false } }

theorem stagingCleared_frame (s : State) : Frame (may [.image, .modeCtl]) s s.stagingCleared :=
  { Frame.refl s with mode := fun q => absurd q (by decide), img := fun q => absurd q (by decide) }

/-- A LOAD that is honoured (R50). -/
theorem imgLoad_starts (hsec : s.secState ≠ 3) (hst : s.getF F.IMG_STATUS_STATE ∈ [0, 3, 6, 7]) (hmode : s.modeNow ∈ [2, 4, 5, 11]) :
    s.imgLoad = s.stagingCleared.imgState 1 0 0 := by
  have hbusy : ¬ [1, 2, 4, 5].contains (s.getF F.IMG_STATUS_STATE) = true := by
    generalize s.getF F.IMG_STATUS_STATE = st at hst
    revert st
    decide
  unfold State.imgLoad
  dsimp only
  rw [if_neg hsec, if_neg hbusy, if_neg (by simpa [State.imgMode, ← or_iff_not_imp_left] using hmode)]
  rfl

/-- A LOAD during a fetch, a verification or an apply (R56). -/
theorem imgLoad_refused (hsec : s.secState ≠ 3) (hst : s.getF F.IMG_STATUS_STATE ∈ [1, 2, 4, 5]) : s.imgLoad = s.refuse R.IMG_CTRL := by
  unfold State.imgLoad
  dsimp only
  rw [if_neg hsec, if_pos (by simpa using hst)]

/-- An APPLY of a staged image in IMAGE (R51). -/
theorem imgApply_image (hsec : s.secState ≠ 3) (hmode : s.modeNow = 2) (hst : s.getF F.IMG_STATUS_STATE = 3) : s.imgApply = s.seamStart := by
  unfold State.imgApply
  dsimp only
  rw [if_neg hsec, if_neg (by simp [hst]), if_neg (by simp [State.imgMode, hmode]), if_pos hmode]

/-- A DISCARD outside an apply, of an image that is on its way, staged or rejected (R56). -/
theorem imgDiscard_empties (hst : s.getF F.IMG_STATUS_STATE ∈ [1, 2, 3, 7]) : s.imgDiscard = s.imgState 0 0 0 := by
  unfold State.imgDiscard
  simp only [List.mem_cons, List.not_mem_nil, or_false] at hst
  rcases hst with h | h | h | h <;> simp only [h]

/-! ### Seams begin (R53) -/

theorem seamStart_img : s.seamStart.img = { s.img with boundary := false } := imgState_img 5 0 0

theorem getF_seamStart_state : s.seamStart.getF F.IMG_STATUS_STATE = 5 := getF_imgState_state 5 0 0

theorem seamStart_silent_frame (s : State) : Frame (may [.image, .regs 1]) s s.seamStart :=
  (imgState_silent_frame (st := 5) 0 0 (by decide)).step { Frame.refl s with img := fun q => absurd q (by decide) }

/-! ### What a refused write leaves -/

theorem refuse_img (off : Nat) : (s.refuse off).img = s.img := (State.refuse_frame s off).img (by decide)

theorem getF_refuse_state (off : Nat) : (s.refuse off).getF F.IMG_STATUS_STATE = s.getF F.IMG_STATUS_STATE :=
  congrArg (fun w : W32 => bits w.toNat 0 3) (getR_logErr_ne s 4 off true (by decide) (by decide))

end State

/-- Settles O4: a write to `ENS_IMG_CTRL` is `State.imgLoad`, `State.imgApply` or `State.imgDiscard`, each with its next loader state. -/
theorem imageCommandsActOrAreRefused : Obligations.ImageCommandsActOrAreRefused := by
  refine ⟨fun s v htakes hv hsec => ⟨fun hst hmode => ?load, fun hst => ?busy⟩, fun s v htakes hv hsec hmode hst => ?apply,
    fun s v htakes hv hst => ?discard⟩
  case load =>
    refine ⟨s.stagingCleared.imgState 1 0 0, congrArg Host.Outcome.next ?_, State.getF_imgState_state .., State.getF_imgState_cause ..,
      ?_, ?_, ?_⟩
    · rw [State.writeReg_imgCtrl htakes, State.imgCtrlWrite_load hv, State.imgLoad_starts hsec hst hmode]
    · rw [State.imgState_staging]; rfl
    · rw [State.imgState_active]; rfl
    · exact ((State.imgState_silent_frame 0 0 (by decide)).mono rfl).step (s.stagingCleared_frame.mono rfl)
  case busy =>
    refine ⟨s.refuse R.IMG_CTRL, congrArg Host.Outcome.next ?_, State.getF_refuse_state _, State.refuse_img _,
      State.getF_logErr_cause s (kind := 4) _ true (by decide), State.getR_logErr_count s 4 _ true⟩
    rw [State.writeReg_imgCtrl htakes, State.imgCtrlWrite_load hv, State.imgLoad_refused hsec hst]
  case apply =>
    refine ⟨s.seamStart, congrArg Host.Outcome.next ?_, State.getF_seamStart_state, ?_, ?_, s.seamStart_silent_frame⟩
    · rw [State.writeReg_imgCtrl htakes, State.imgCtrlWrite_apply hv, State.imgApply_image hsec hmode hst]
    · rw [State.seamStart_img]
    · rw [State.seamStart_img]
  case discard =>
    refine ⟨s.imgState 0 0 0, congrArg Host.Outcome.next ?_, State.getF_imgState_state .., State.getF_imgState_cause ..,
      State.imgState_staging .., State.imgState_active .., State.imgState_silent_frame 0 0 (by decide)⟩
    rw [State.writeReg_imgCtrl htakes, State.imgCtrlWrite_discard hv, State.imgDiscard_empties hst]

namespace State

variable {s : State}

/-! ### Fetches and verifications (R45) -/

/-- A clean fetch. -/
theorem execImgFetchDone_clean (data : Bytes) (hst : s.getF F.IMG_STATUS_STATE = 1) : execImgFetchDone data 0 s =
    .next (({ s with img := { s.img with staging := slice data 0 (min 262144 (s.getF F.IMG_LEN_LEN)) } } : State).imgState 2 0 0) := by
  unfold execImgFetchDone
  rw [if_neg (by simp [hst])]
  rfl

/-- A fetch that met a fabric error. -/
theorem execImgFetchDone_error (data : Bytes) (hst : s.getF F.IMG_STATUS_STATE = 1) :
    execImgFetchDone data 1 s = .next (s.imgState 7 0x01 0xFF) := by
  unfold execImgFetchDone
  rw [if_neg (by simp [hst])]
  rfl

/-- A verification that finds no fault stages the image, where no wake from WATCH waits for it. -/
theorem execImgVerifyDone_passes (hst : s.getF F.IMG_STATUS_STATE = 2) (hwatch : s.mode.watchImage = false)
    (h : s.imgVerify s.img.staging = none) : execImgVerifyDone s = .next (s.imgState 3 0 0) := by
  unfold execImgVerifyDone
  rw [if_neg (by simp [hst]), h]
  simp [hwatch]

/-- A verification that finds a fault rejects the image with it; the active image and its configuration stay. -/
theorem execImgVerifyDone_rejects {p : Nat × Nat} (hst : s.getF F.IMG_STATUS_STATE = 2) (h : s.imgVerify s.img.staging = some p) :
    ∃ t : State, execImgVerifyDone s = .next t ∧ t.img.active = s.img.active ∧ t.img.cfg = s.img.cfg ∧ t.getF F.IMG_STATUS_STATE = 7 ∧
      t.getF F.IMG_STATUS_CAUSE = p.1 % 256 ∧ t.getF F.IMG_STATUS_SECTION = p.2 % 256 ∧ t.img.staging = [] := by
  obtain ⟨u, hexec, himg⟩ : ∃ u : State, execImgVerifyDone s = .next (u.imgState 7 p.1 p.2) ∧ u.img = s.img := by
    unfold execImgVerifyDone
    rw [if_neg (by simp [hst]), h]
    refine ⟨_, rfl, ?_⟩
    split
    · exact (State.genStale_frame _ 1).img (by decide)
    · rfl
  exact ⟨_, hexec, by rw [imgState_active, himg], by rw [imgState_cfg, himg], getF_imgState_state .., getF_imgState_cause ..,
    getF_imgState_section .., imgState_staging ..⟩

/-- LENGTH is the first check of Table 2-5: the image's length lies within its limits, is a multiple of 8 and is that of the header. -/
abbrev lengthOk (s : State) : Prop :=
  368 ≤ s.getF F.IMG_LEN_LEN ∧ s.getF F.IMG_LEN_LEN ≤ 262144 ∧ s.getF F.IMG_LEN_LEN % 8 = 0 ∧ field s.img.staging 8 4 = s.getF F.IMG_LEN_LEN

theorem imgVerify_length (h : ¬ s.lengthOk) : s.imgVerify s.img.staging = some (0x02, 0xFF) := by
  unfold State.imgVerify
  refine if_pos ?_
  simp only [State.lengthOk, not_and_or] at h
  simp [inside]
  omega

/-- The causes of the checks of Table 2-5 after LENGTH. -/
abbrev laterCause (cause : Nat) : Prop := 0x03 ≤ cause ∧ cause ≤ 0x0E

/-- A check that names a later cause, before checks that do. -/
theorem laterCause_ite {c : Prop} [Decidable c] {a x : Nat} {p : Nat × Nat} {rest : Option (Nat × Nat)}
    (h : (if c then some (a, x) else rest) = some p) (ha : laterCause a) (hrest : rest = some p → laterCause p.1) : laterCause p.1 := by
  split at h
  · exact Option.some.inj h ▸ ha
  · exact hrest h

/-- With its length in order an image is never rejected for it. -/
theorem imgVerify_laterCause {p : Nat × Nat} (hlen : s.lengthOk) (h : s.imgVerify s.img.staging = some p) : laterCause p.1 := by
  obtain ⟨hlow, hhigh, height, hheader⟩ := hlen
  unfold State.imgVerify at h
  rw [if_neg (by simp [inside, hlow, hhigh, height, hheader])] at h
  refine laterCause_ite h (by decide) fun h => ?magic
  refine laterCause_ite h (by decide) fun h => ?version
  refine laterCause_ite h (by decide) fun h => ?product
  refine laterCause_ite h (by decide) fun h => ?slot
  refine laterCause_ite h (by decide) fun h => ?key
  refine laterCause_ite h (by decide) fun h => ?signature
  split at h
  case h_1 => cases h; exact (by decide : laterCause 0x09)
  case h_2 =>
    split at h
    case h_1 => cases h; exact (by decide : laterCause 0x0A)
    case h_2 =>
      split at h
      case h_1 => cases h; exact (by decide : laterCause 0x0B)
      case h_2 =>
        refine laterCause_ite h (by decide) fun h => ?_
        refine laterCause_ite h (by decide) fun h => ?_
        refine laterCause_ite h (by decide) fun h => ?_
        cases h

end State

/-- Settles O5: a fetch and a verification end in one write of the loader's state, `State.imgVerify` naming the fault. -/
theorem imagesAreFetchedAndVerified : Obligations.ImagesAreFetchedAndVerified := by
  refine ⟨fun s data hst => ⟨?clean, ?error⟩, fun s hst hwatch => ?verify⟩
  case clean =>
    exact ⟨_, State.execImgFetchDone_clean data hst, State.getF_imgState_state .., State.imgState_staging .., State.imgState_active ..⟩
  case error =>
    exact ⟨_, State.execImgFetchDone_error data hst, State.getF_imgState_state .., State.getF_imgState_cause ..,
      State.getF_imgState_section .., State.imgState_staging .., State.imgState_active ..⟩
  case verify =>
    cases h : s.imgVerify s.img.staging with
    | none =>
      exact ⟨_, State.execImgVerifyDone_passes hst hwatch h, State.imgState_active .., State.imgState_cfg .., State.getF_imgState_state ..,
        State.imgState_staging ..⟩
    | some p =>
      obtain ⟨t, hexec, hactive, hcfg, hstate, hcause, hsec, hstaging⟩ := State.execImgVerifyDone_rejects hst h
      exact ⟨t, hexec, hactive, hcfg, hstate, hcause, hsec, hstaging⟩

/-- Settles O54: LENGTH is the first check, and every later one has a cause of its own. -/
theorem imageLengthsAreHeldToTheirLimits : Obligations.ImageLengthsAreHeldToTheirLimits := by
  rintro s len hst hwatch rfl
  refine ⟨fun hbad => ?_, fun hlow hhigh height hheader => ?_⟩
  · obtain ⟨t, hexec, hactive, hcfg, hstate, hcause, -, hstaging⟩ :=
      State.execImgVerifyDone_rejects hst (State.imgVerify_length (by simp only [State.lengthOk]; omega))
    exact ⟨t, hexec, hstate, hcause, hstaging, hactive, hcfg⟩
  · cases h : s.imgVerify s.img.staging with
    | none => exact ⟨_, State.execImgVerifyDone_passes hst hwatch h, by rw [State.getF_imgState_cause]; decide⟩
    | some p =>
      obtain ⟨t, hexec, -, -, -, hcause, -⟩ := State.execImgVerifyDone_rejects hst h
      have hlater := State.imgVerify_laterCause ⟨hlow, hhigh, height, hheader⟩ h
      exact ⟨t, hexec, by omega⟩

end Sys2Proof.Machine
end

section
/-! PROOFS. What deciding the write guard anew and releasing drained routes leave (R52, R53, R76, R94, R97). -/

namespace Sys2Proof.Machine

/-- What every step of a fold keeps, the fold keeps. -/
theorem foldl_keeps {α β γ : Type} {f : β → α → β} (g : β → γ) {l : List α} {b : β} (h : ∀ b, ∀ x ∈ l, g (f b x) = g b) :
    g (l.foldl f b) = g b := by
  induction l generalizing b with
  | nil => rfl
  | cons x l ih => exact (ih fun b y hy => h b y (by simp [hy])).trans (h b x (by simp))

/-- Where every step of a fold stands in a reflexive and transitive relation, so does the fold. -/
theorem foldl_relates {α β : Type} {R : β → β → Prop} (hrefl : ∀ b, R b b) (htrans : ∀ {a b c}, R a b → R b c → R a c) {f : β → α → β}
    {l : List α} {b : β} (h : ∀ b, ∀ x ∈ l, R b (f b x)) : R b (l.foldl f b) := by
  induction l generalizing b with
  | nil => exact hrefl b
  | cons x l ih => exact htrans (h b x (by simp)) (ih fun b y hy => h b y (by simp [hy]))

/-- A die without the operation that was granted it: what the write guard leaves of a die whose program it returns (R96). -/
def Die.ungranted (d : Die) : Die := { d with op := none, want := none }

/-- From `d` to `e` a die is as it was, or has lost the operation that was granted it. -/
def Die.Returned (d e : Die) : Prop := e = d ∨ d.op ≠ none ∧ e = d.ungranted

namespace Die.Returned

variable {d e f : Die}

theorem refl (d : Die) : d.Returned d := Or.inl rfl

theorem trans (h : d.Returned e) (k : e.Returned f) : d.Returned f := by
  rcases h with rfl | ⟨hop, rfl⟩
  · exact k
  · rcases k with rfl | ⟨hnone, -⟩
    · exact Or.inr ⟨hop, rfl⟩
    · exact absurd rfl hnone

end Die.Returned

/-- A field that the write guard does not show itself in: not `ENS_PWR_WG_STATUS`, nor WP of a route. -/
abbrev unguarded (f : Field) : Prop := f.off ≠ R.PWR_WG_STATUS ∧ ((∀ r, f.off ≠ R.RT_STATUS r) ∨ f.lo + f.width ≤ 4)

theorem unguarded_state (r : Nat) : unguarded (F.RT_STATUS_STATE r) :=
  ⟨by show R.RT_STATUS r ≠ _; unfold R.RT_STATUS R.PWR_WG_STATUS; omega, Or.inr (Nat.le_of_ble_eq_true rfl)⟩

namespace State

variable {s : State}

/-! ### The write guard (R76, R94, R96, R97) -/

theorem guardReturn_getF (k : Nat) (f : Field) : (s.guardReturn k).getF f = s.getF f := by
  unfold State.guardReturn
  split
  · split <;> rfl
  · rfl

theorem guardReturn_route (k r : Nat) : (s.guardReturn k).route r = s.route r := by
  unfold State.guardReturn
  split
  · split <;> rfl
  · rfl

theorem guardReturn_die (j k : Nat) : (s.die k).Returned ((s.guardReturn j).die k) := by
  unfold State.guardReturn
  split
  next o ho =>
    split
    · by_cases hk : k = j
      · subst hk
        exact Or.inr ⟨by simp [ho], die_setDie_same _ _ _⟩
      · exact Or.inl (die_setDie_ne _ _ hk)
    · exact Or.inl rfl
  · exact Or.inl rfl

theorem driveWp_getF {f : Field} (r : Nat) (h : unguarded f) : (s.driveWp r).getF f = s.getF f := by
  have hwp : ∀ v, (s.setF (F.RT_STATUS_WP r) v).getF f = s.getF f := fun v =>
    getF_setF_ne s v (h.2.imp (fun h => h r) fun h => Or.inl h) (Nat.le_of_ble_eq_true rfl)
  unfold State.driveWp
  split
  · exact hwp 1
  · split
    · exact hwp 0
    · rfl

theorem driveWp_seq (r : Nat) : (s.driveWp r).seq = s.seq := by
  unfold State.driveWp
  split
  · rfl
  · split <;> rfl

theorem driveWp_route (r q : Nat) : (s.driveWp r).route q = s.route q := by unfold State.route; rw [driveWp_seq]
theorem driveWp_die (r k : Nat) : (s.driveWp r).die k = s.die k := by unfold State.die; rw [driveWp_seq]

/-- One route of `State.guardUpdate`: its guard is shown, the programs it holds are returned, and WP# follows. -/
def guardRoute (s : State) (r : Nat) : State :=
  let c := s.guardCauses r
  let holds := c.1 || c.2.1 || c.2.2.1 || c.2.2.2
  let s := s.setF ⟨R.PWR_WG_STATUS, r, 1⟩ (b2n holds)
  (if holds then (List.range 16).foldl (fun s d => s.guardReturn (dieKey r d)) s else s).driveWp r

theorem guardRoute_getF {f : Field} (r : Nat) (h : unguarded f) : (s.guardRoute r).getF f = s.getF f := by
  have hshow : ∀ v, (s.setF ⟨R.PWR_WG_STATUS, r, 1⟩ v).getF f = s.getF f := fun v => getF_setR_ne s _ h.1
  unfold guardRoute
  dsimp only
  rw [driveWp_getF r h]
  split
  · rw [foldl_keeps (fun u : State => u.getF f) fun u d _ => guardReturn_getF (dieKey r d) f, hshow]
  · exact hshow _

theorem guardRoute_route (r q : Nat) : (s.guardRoute r).route q = s.route q := by
  unfold guardRoute
  dsimp only
  rw [driveWp_route]
  split
  · rw [foldl_keeps (fun u : State => u.route q) fun u d _ => guardReturn_route (dieKey r d) q, route_setF]
  · rw [route_setF]

theorem guardRoute_die (r k : Nat) : (s.die k).Returned ((s.guardRoute r).die k) := by
  unfold guardRoute
  dsimp only
  rw [driveWp_die]
  split
  · rw [← die_setF (s := s) ⟨R.PWR_WG_STATUS, r, 1⟩ _ k]
    exact foldl_relates (R := fun u v : State => (u.die k).Returned (v.die k)) (fun u => .refl _) .trans
      fun u d _ => guardReturn_die (dieKey r d) k
  · rw [die_setF]
    exact .refl _

/-- The write guard shows itself in its own register and in WP alone. -/
theorem guardUpdate_getF {f : Field} (h : unguarded f) : s.guardUpdate.getF f = s.getF f :=
  foldl_keeps (fun u : State => u.getF f) fun _ r _ => guardRoute_getF r h

theorem guardUpdate_routeSt (r : Nat) : s.guardUpdate.routeSt r = s.routeSt r := guardUpdate_getF (unguarded_state r)

theorem guardUpdate_route (r : Nat) : s.guardUpdate.route r = s.route r :=
  foldl_keeps (fun u : State => u.route r) fun _ q _ => guardRoute_route q r

/-- Of a die the write guard changes at most the operation granted it. -/
theorem guardUpdate_die (k : Nat) : (s.die k).Returned (s.guardUpdate.die k) :=
  foldl_relates (R := fun u v : State => (u.die k).Returned (v.die k)) (fun _ => .refl _) .trans fun _ r _ => guardRoute_die r k

/-! ### Routes that an apply drained (R52, R53) -/

/-- One route of `State.drainRelease`: it drains for the apply no more, and is UP where it drains for nothing else. -/
def releaseRoute (s : State) (r : Nat) : State :=
  let x := s.route r
  let s := s.setRoute r { x with drainImage := false, drained := false }
  if s.routeSt r = 3 ∧ ¬(x.drainDown ∨ x.drainRetrain ∨ x.retrain) then s.setF (F.RT_STATUS_STATE r) 2 else s

/-- No route drains for an apply. -/
def undrained (s : State) : State := { s with img := { s.img with draining := [], boundary := false } }

theorem drainRelease_eq : s.drainRelease = (s.img.draining.foldl releaseRoute s).undrained.guardUpdate := rfl

theorem releaseRoute_img (r : Nat) : (s.releaseRoute r).img = s.img := by
  unfold releaseRoute
  dsimp only
  split <;> rfl

theorem drainRelease_img : s.drainRelease.img = { s.img with draining := [], boundary := false } := by
  rw [drainRelease_eq, (State.guardUpdate_frame _).img (by decide)]
  exact congrArg (fun i : Img => { i with draining := [], boundary := false }) (foldl_keeps State.img fun u r _ => releaseRoute_img r)

end State
end Sys2Proof.Machine
end

section
/-! PROOFS. Seams: how their boundary is reached, and how they end (R53). -/

namespace Sys2Proof.Machine
namespace State

variable {s : State}

/-! ### A wake from WATCH waits for its image (R356): what leaves that as it is -/

theorem fire_watchImage (src : Nat) : (s.fire src).mode.watchImage = s.mode.watchImage := by
  have hmode : ∀ u : State, ((u.moderate src).watchWake src).mode = u.mode := fun u => by
    rw [(State.watchWake_frame _ src).mode (by decide), (State.moderate_frame _ src).mode (by decide)]
  have hhold : ∀ u : State, (u.holdWake 2 src).mode.watchImage = u.mode.watchImage := fun u => by
    unfold State.holdWake
    split <;> rfl
  unfold State.fire
  split
  · rfl
  · split
    · rfl
    · split
      · rw [(State.moderate_frame _ src).mode (by decide)]
      · dsimp only
        split
        · rw [hhold, hmode]; rfl
        · rw [hmode]; rfl

theorem raise_watchImage (f : Field) : (s.raise f).mode.watchImage = s.mode.watchImage := by
  unfold State.raise
  dsimp only
  split
  · split
    · rw [fire_watchImage]; rfl
    · rfl
  · rfl

theorem imgState_watchImage (st cause sec : Nat) : (s.imgState st cause sec).mode.watchImage = s.mode.watchImage := by
  have hput : ∀ (u : State) (i : Img) (c : Prop) [Decidable c], (if c then { u with img := i } else u : State).mode = u.mode :=
    fun u i c _ => by split <;> rfl
  unfold State.imgState
  dsimp only
  split
  · rw [fire_watchImage, hput]; rfl
  · rw [hput]; rfl

theorem poolFit_watchImage : s.poolFit.mode.watchImage = s.mode.watchImage := by
  unfold State.poolFit State.poolShort
  dsimp only
  split
  · rfl
  · rw [raise_watchImage, setF_mode, foldl_keeps State.mode fun u _ _ => (State.cutOne_frame u).mode (by decide)]
    rfl

/-! ### The image that takes effect (R51, R53, R396) -/

/-- Copying an image into the live tables is done by writes of fields, the notices, the floor and the pool: the images themselves are set
first, and the flag of a wake from WATCH stays. -/
theorem imgActivate_sets : s.imgActivate.img.active = s.img.staging ∧ s.imgActivate.img.cfg = imgParse s.img.staging ∧
    s.imgActivate.mode.watchImage = s.mode.watchImage := by
  have hput : ∀ (u : State) (c : Prop) [Decidable c] (f : Field) (v : Nat),
      (if c then u.setF f v else u).img = u.img ∧ (if c then u.setF f v else u).mode = u.mode := fun u c _ f v => by
    constructor <;> split <;> rfl
  unfold State.imgActivate
  extract_lets b n o full eff effMask img put gen digest shown slot origin pool beacon permit
  have hgen : gen.img = put.img ∧ gen.mode = put.mode := ⟨rfl, rfl⟩
  have hshown : shown.img = gen.img ∧ shown.mode = gen.mode :=
    ⟨foldl_keeps State.img fun u _ _ => setR_img .., foldl_keeps State.mode fun u _ _ => setR_mode ..⟩
  have horigin : origin.img = shown.img ∧ origin.mode = shown.mode := by
    clear_value shown
    exact ⟨rfl, rfl⟩
  have hpool : pool.img = origin.img ∧ pool.mode.watchImage = origin.mode.watchImage :=
    ⟨by rw [(State.poolFit_frame _).img (by decide), (State.applyFloor_frame _ _).img (by decide),
        (State.applyNotices_frame _ _ _ _).img (by decide)],
      by rw [poolFit_watchImage, (State.applyFloor_frame _ _).mode (by decide), (State.applyNotices_frame _ _ _ _).mode (by decide)]⟩
  have hbeacon : beacon.img = pool.img ∧ beacon.mode = pool.mode := by
    clear_value pool
    exact ⟨rfl, rfl⟩
  have hpermit : permit.img = beacon.img ∧ permit.mode = beacon.mode := hput _ _ _ _
  have hput : put.img.active = b ∧ put.img.cfg = n ∧ put.mode = s.mode := ⟨rfl, rfl, rfl⟩
  clear_value permit beacon pool origin shown gen put
  rw [(State.guardUpdate_frame _).img (by decide), (State.guardUpdate_frame _).mode (by decide), setF_img, setF_mode, hpermit.1, hpermit.2,
    hbeacon.1, hbeacon.2, hpool.1, hpool.2, horigin.1, horigin.2, hshown.1, hshown.2, hgen.1, hgen.2, hput.2.2]
  exact ⟨hput.1, hput.2.1, rfl⟩

/-! ### The end of a seam (R53) -/

theorem getF_drainRelease_seam : s.drainRelease.getF F.IMG_SEAM_TIME_LAST = s.getF F.IMG_SEAM_TIME_LAST :=
  (State.drainRelease_frame s).getF (by decide)

/-- A seam that is abandoned: the old image stays in force, and LAST has the time. -/
theorem seamAbandon_ends (cycles : Nat) :
    let t := s.seamAbandon cycles
    t.getF F.IMG_STATUS_STATE = 7 ∧ t.getF F.IMG_STATUS_CAUSE = 0x10 ∧ t.getF F.IMG_SEAM_TIME_LAST = cycles % 2 ^ 20 ∧
      t.img.active = s.img.active ∧ t.img.cfg = s.img.cfg ∧ t.img.draining = [] := by
  unfold State.seamAbandon
  refine ⟨getF_imgState_state .., getF_imgState_cause .., ?_, ?_, ?_, ?_⟩
  · rw [State.getF, getR_imgState_ne 7 0x10 0xFF (by decide) (by decide)]
    exact getF_drainRelease_seam.trans (getF_setF_same s F.IMG_SEAM_TIME_LAST cycles (by decide))
  · rw [imgState_active, drainRelease_img]; rfl
  · rw [imgState_cfg, drainRelease_img]; rfl
  · rw [imgState_draining, drainRelease_img]

/-- A seam whose copy has ended in service: the new image is in force, and LAST has the time. -/
theorem seamCopied_ends (cycles : Nat) (hmode : s.modeNow ≠ 2) :
    let t := s.seamCopied cycles
    t.getF F.IMG_STATUS_STATE = 6 ∧ t.getF F.IMG_SEAM_TIME_LAST = cycles % 2 ^ 20 ∧ t.img.active = s.img.staging ∧
      t.img.cfg = imgParse s.img.staging ∧ t.img.draining = [] ∧ t.mode.watchImage = s.mode.watchImage := by
  obtain ⟨hactive, hcfg, hwatch⟩ := imgActivate_sets (s := s)
  unfold State.seamCopied
  dsimp only
  rw [if_neg (by simpa using hmode)]
  generalize s.imgActivate = u at hactive hcfg hwatch ⊢
  refine ⟨getF_imgState_state .., ?_, ?_, ?_, ?_, ?_⟩
  · rw [State.getF, getR_imgState_ne 6 0 0 (by decide) (by decide)]
    exact getF_setF_same _ F.IMG_SEAM_TIME_LAST cycles (by decide)
  · rw [imgState_active, setF_img, drainRelease_img]; exact hactive
  · rw [imgState_cfg, setF_img, drainRelease_img]; exact hcfg
  · rw [imgState_draining, setF_img, drainRelease_img]
  · rw [imgState_watchImage, setF_mode, (State.drainRelease_frame _).mode (by decide)]; exact hwatch

/-- What the loader's end of a seam leaves with no write held. -/
theorem releaseHeld_of_frame {m : Nat} {t : State} (h : Frame m s t) (h2 : m.testBit 2 = false) (hheld : s.sec.heldWrites = []) :
    t.releaseHeld = t := releaseHeld_nil (by rw [h.sec h2, hheld])

/-- The time for a boundary that was not reached is over. -/
theorem execSeamTimeout_abandons (cycles : Nat) (hst : s.getF F.IMG_STATUS_STATE = 5) (hmode : s.modeNow ≠ 2)
    (hheld : s.sec.heldWrites = []) (hbound : s.img.boundary = false) : execSeamTimeout cycles s = .next (s.seamAbandon cycles) := by
  unfold execSeamTimeout
  rw [if_pos ⟨hst, hmode, hbound⟩, releaseHeld_of_frame (State.seamAbandon_frame s cycles) (by decide) hheld]

/-- The copy behind a boundary that was reached is over. -/
theorem execSeamCopyDone_copied (cycles : Nat) (hst : s.getF F.IMG_STATUS_STATE = 5) (hmode : s.modeNow ≠ 2)
    (hheld : s.sec.heldWrites = []) (hbound : s.img.boundary = true) (hwatch : s.mode.watchImage = false) :
    execSeamCopyDone cycles s = .next (s.seamCopied cycles) := by
  obtain ⟨-, -, -, -, -, hkept⟩ := seamCopied_ends cycles hmode
  unfold execSeamCopyDone
  rw [if_neg (by simp [hst, hbound]), releaseHeld_of_frame (State.seamCopied_frame s cycles) (by decide) hheld]
  dsimp only
  rw [if_neg (by simp [hkept, hwatch])]

end State

/-- Settles O6: a boundary is the flag alone, and the two ends of a seam are `State.seamAbandon` and `State.seamCopied`. -/
theorem seamEndsUnderNewOrOldImage : Obligations.SeamEndsUnderNewOrOldImage := by
  refine fun s cycles hst hmode hheld => ⟨fun hfree => ?reached, fun hbusy => ?waits, fun hbound => ?abandoned, fun hbound hwatch => ?copied⟩
  case reached =>
    have hall : s.rc.cores.all (fun e => e.2.isNone) = true := List.all_eq_true.2 fun e he => by rw [hfree e he]; rfl
    have hexec : execSeamBoundaryReached s = .next { s with img := { s.img with boundary := true } } :=
      if_pos ⟨by simp [State.inSeam, hst], hmode, hall⟩
    exact ⟨_, hexec, rfl, execSeamBoundaryReached_frame s _ hexec⟩
  case waits =>
    obtain ⟨e, he, hsome⟩ := hbusy
    refine if_neg fun h => hsome ?_
    obtain ⟨-, -, hall⟩ := h
    exact Option.isNone_iff_eq_none.1 (List.all_eq_true.1 hall e he)
  case abandoned =>
    exact ⟨_, State.execSeamTimeout_abandons cycles hst hmode hheld hbound, State.seamAbandon_ends cycles⟩
  case copied =>
    obtain ⟨hstate, hlast, hactive, hcfg, hdraining, -⟩ := State.seamCopied_ends (s := s) cycles hmode
    exact ⟨_, State.execSeamCopyDone_copied cycles hst hmode hheld hbound hwatch, hstate, hlast, hactive, hcfg, hdraining⟩

end Sys2Proof.Machine
end

section
/-! PROOFS. What dropping operations with a failure changes: no register of a route's interface, no route's state, and of the words of the
dies only those of dies whose operation has ended and waits to be let go (R80, R126, R308). -/

namespace Sys2Proof.Machine

/-- The parts that operations may change when they are dropped: no image, no route's state, no register of the route interface. -/
def dropParts : Nat := may [.boundary, .modeCtl, .notice, .descs, .flash, .readChannel, .sorting, .pigeonholes, .sram, .integrity, .home,
  .freeValues, .outputs, .regs 0, .regs 2, .regs 7, .regs 8, .regs 10, .regs 11, .regs 12, .regs 17]

/-- From `s` to `t` operations may have been dropped: a register of the route blocks stays, unless it is the word of a die in state 4, whose
ended operation may be let go. -/
structure Drops (s t : State) : Prop where
  frame : Frame dropParts s t
  words : ∀ off, regGroup off = 17 → (∀ k, s.dieSt k = 4 → off ≠ R.RT_DIE (k / 16) (k % 16)) → t.getR off = s.getR off

namespace Drops

variable {s t u : State}

theorem refl (s : State) : Drops s s := ⟨Frame.refl s, fun _ _ _ => rfl⟩

/-- The word of a die in another state stays. -/
theorem dieWord (h : Drops s t) {k : Nat} (hk : s.dieSt k ≠ 4) : t.getR (R.RT_DIE (k / 16) (k % 16)) = s.getR (R.RT_DIE (k / 16) (k % 16)) := by
  refine h.words _ (regGroup_RT_DIE ..) fun j hj heq => hk ?_
  rw [← hj]
  exact congrArg (fun off => bits (s.getR off).toNat 0 4) heq

theorem dieSt (h : Drops s t) {k : Nat} (hk : s.dieSt k ≠ 4) : t.dieSt k = s.dieSt k :=
  congrArg (fun w : W32 => bits w.toNat 0 4) (h.dieWord hk)

theorem trans (h : Drops s t) (k : Drops t u) : Drops s u where
  frame := h.frame.trans k.frame
  words := fun off hoff hs => by
    rw [k.words off hoff fun j hj heq => ?_, h.words off hoff hs]
    have hword : t.getR (R.RT_DIE (j / 16) (j % 16)) = s.getR (R.RT_DIE (j / 16) (j % 16)) := by
      rw [← heq]
      exact h.words off hoff hs
    have hsame : t.dieSt j = s.dieSt j := congrArg (fun w : W32 => bits w.toNat 0 4) hword
    exact hs j (hsame ▸ hj) heq

/-- A step that touches no register of the route blocks. -/
theorem of_frame {n : Nat} (h : Frame n s t) (hn : n ||| dropParts = dropParts) (h35 : n.testBit 35 = false) : Drops s t :=
  ⟨h.mono hn, fun off hoff _ => h.reg off (by rw [hoff]; exact h35)⟩

theorem step (k : Drops t u) (h : Drops s t) : Drops s u := h.trans k

theorem after {n : Nat} (k : Frame n t u) (h : Drops s t) (hn : n ||| dropParts = dropParts) (h35 : n.testBit 35 = false) : Drops s u :=
  h.trans (of_frame k hn h35)

theorem ite {c : Prop} [Decidable c] (h : Drops s t) (k : Drops s u) : Drops s (if c then t else u) := by
  split
  · exact h
  · exact k

theorem foldl {α : Type} {f : State → α → State} {l : List α} (h : ∀ u, ∀ x ∈ l, Drops u (f u x)) : Drops s (l.foldl f s) :=
  foldl_relates refl trans h

end Drops

namespace State

variable {s : State}

/-! ### Updates of one part -/

theorem withSeq_frame (x : Seq) : Frame 0x100 s { s with seq := x } := { Frame.refl s with seq := fun q => absurd q (by decide) }
theorem withRc_frame (x : Rc) : Frame 0x200 s { s with rc := x } := { Frame.refl s with rc := fun q => absurd q (by decide) }
theorem withFi_frame (x : Fi) : Frame 0x2000 s { s with fi := x } := { Frame.refl s with fi := fun q => absurd q (by decide) }
theorem withFiSeq_frame (x : Fi) (y : Seq) : Frame 0x2100 s { s with fi := x, seq := y } :=
  { Frame.refl s with fi := fun q => absurd q (by decide), seq := fun q => absurd q (by decide) }

/-! ### The state of a die -/

theorem getR_tempTurn (k off : Nat) : (s.tempTurn k).getR off = s.getR off := by
  unfold State.tempTurn
  split <;> rfl

theorem getR_setDieSt_ne {off : Nat} (k v : Nat) (h : off ≠ R.RT_DIE (k / 16) (k % 16)) : (s.setDieSt k v).getR off = s.getR off := by
  unfold State.setDieSt
  split
  · exact getR_setF_ne _ _ h
  · rw [getR_setF_ne _ _ h]
    split
    · exact getR_tempTurn k off
    · rfl

/-! ### Jobs leave their dies (R261, R295) -/

theorem release_drops (k : Nat) : Drops s (s.release k) where
  frame := (State.release_frame s k).mono rfl
  words := fun off _ h => by
    unfold State.release
    dsimp only
    split
    next hk => exact getR_setDieSt_ne (s := s.setDie k _) k 1 (h k hk.1)
    · rfl

theorem jobLeavesDie_drops (j : Job) : Drops s (s.jobLeavesDie j) := by
  have hpool : ∀ (u : State) (op : Option DieOp) (g : DieOp → DieOp), Drops u (match op with
      | some o => if o.cls = 1 ∧ (g o).jobs.isEmpty then u.closePool o.id else u
      | none => u) := fun u op g => by
    cases op with
    | none => exact .refl u
    | some o => exact .ite (.of_frame (State.closePool_frame u o.id) rfl rfl) (.refl u)
  unfold State.jobLeavesDie
  refine .after (State.wantHeader_frame ..) (.step (release_drops _) (.step (hpool _ _ _) ?_)) rfl rfl
  exact .after (withSeq_frame _) (.of_frame (State.setDie_frame ..) rfl rfl) rfl rfl

theorem withdraw_drops (j : Job) : Drops s (s.withdraw j) := by
  unfold State.withdraw
  refine .after (State.dropJob_frame ..) (.after (withRc_frame _) ?_ rfl rfl) rfl rfl
  split
  · exact .after (State.setCoreJob_frame ..) (jobLeavesDie_drops j) rfl rfl
  · exact jobLeavesDie_drops j

theorem cancelJob_drops (j : Job) : Drops s (s.cancelJob j) := by
  unfold State.cancelJob
  exact .step (withdraw_drops j) (.after (withFi_frame _) (.foldl fun u x _ => withdraw_drops x) rfl rfl)

/-! ### What a job ends for -/

theorem positionStep_drops (id key : Nat) : Drops s (s.positionStep id key) := by
  unfold State.positionStep
  split
  · exact .refl s
  · split
    · exact .refl s
    · dsimp only
      refine .ite (.refl s) (.ite (.of_frame (State.wantPayloads_frame ..) rfl rfl) (.ite (.of_frame (State.wantPayloads_frame ..) rfl rfl)
        (.ite (.refl s) (.ite ?released ?kept))))
      case kept => exact .step (.foldl fun u x _ => cancelJob_drops x) (.of_frame (State.setScan_frame ..) rfl rfl)
      case released =>
        split
        · exact .after (State.releasePosition_frame ..)
            (.step (.foldl fun u x _ => cancelJob_drops x) (.of_frame (State.setScan_frame ..) rfl rfl)) rfl rfl
        · exact .step (.foldl fun u x _ => cancelJob_drops x) (.of_frame (State.setScan_frame ..) rfl rfl)

theorem scanResult_drops (id key i : Nat) (r : EnvRes) : Drops s (s.scanResult id key i r) := by
  unfold State.scanResult
  split
  · exact .refl s
  · split
    · exact .refl s
    · exact .step (positionStep_drops id key) (.of_frame (State.setScan_frame ..) rfl rfl)

/-- A program that fails drops its pending lines and ends its descriptor. -/
theorem progEnd_drops (d : Desc) (st : Nat) : Drops s (s.progEnd d st) := by
  unfold State.progEnd
  exact .after (State.finish_frame ..) (.foldl fun u p _ => .of_frame (pageLines_dropped_frame p.1) rfl rfl) rfl rfl

theorem startProg_drops (id : Nat) : Drops s (s.startProg id) := by
  unfold State.startProg
  split
  · exact .refl s
  · split
    · exact .refl s
    · exact .of_frame (State.finish_frame ..) rfl rfl
    · refine .ite (progEnd_drops _ _) ?_
      split
      · exact progEnd_drops _ _
      · exact .after (State.enqueueProg_frame ..) (.of_frame (State.fresh_frame s) rfl rfl) rfl rfl

theorem copySources_drops (d : Desc) : Drops s (s.copySources d) := by
  unfold State.copySources
  dsimp only
  split
  · exact .of_frame (State.finish_frame ..) rfl rfl
  · exact .step (startProg_drops _) (.after (State.setDesc_frame ..) (.of_frame (State.encodePages_frame ..) rfl rfl) rfl rfl)

theorem descCheck_drops (id : Nat) : Drops s (s.descCheck id) := by
  unfold State.descCheck
  split
  · exact .refl s
  · refine .ite (.refl s) ?_
    dsimp only
    split
    · exact .of_frame (State.finish_frame ..) rfl rfl
    · exact .of_frame (State.finish_frame ..) rfl rfl
    · exact .of_frame (State.finish_frame ..) rfl rfl
    · exact copySources_drops _
    · exact .refl s

theorem descResult_drops (id i a epoch : Nat) (r : EnvRes) : Drops s (s.descResult id i a epoch r) := by
  unfold State.descResult
  split
  · exact .refl s
  · refine .ite (.refl s) (.step (descCheck_drops id) (.after (State.setDesc_frame ..) ?_ rfl rfl))
    exact .after (State.fillInstall_frame ..) (.of_frame (State.writeEnv_frame ..) rfl rfl) rfl rfl

theorem jobFinal_drops (j : Job) (r : EnvRes) (code missing : Nat) : Drops s (s.jobFinal j r code missing) := by
  unfold State.jobFinal
  dsimp only
  split
  · exact .step (descResult_drops ..) (withdraw_drops j)
  · exact .step (scanResult_drops ..) (withdraw_drops j)
  · exact .after (State.memberResult_frame ..) (withdraw_drops j) rfl rfl
  · exact .ite (.after (State.bump_frame (m := may [.regs 8]) _ R.FI_CNT_WEAK rfl rfl) (withdraw_drops j) rfl rfl) (withdraw_drops j)
  · exact .after (State.rebuildSlot_frame ..) (withdraw_drops j) rfl rfl
  · exact .after (State.finish_frame ..) (withdraw_drops j) rfl rfl
  · exact .ite (.after (State.calBad_frame ..) (withdraw_drops j) rfl rfl) (withdraw_drops j)

theorem jobFailed_drops (j : Job) (st : Nat) : Drops s (s.jobFailed j st) := by
  unfold State.jobFailed
  split
  · exact .ite (.after (State.toContext_frame ..) (jobLeavesDie_drops j) rfl rfl) (withdraw_drops j)
  · exact jobFinal_drops ..

theorem jobUnread_drops (j : Job) (st : Nat) : Drops s (s.jobUnread j st) := by
  unfold State.jobUnread
  split
  · exact withdraw_drops j
  · exact jobFailed_drops j st
  · exact jobFailed_drops j st
  · exact jobFailed_drops j st
  · exact .ite (.after (State.toContext_frame ..) (jobLeavesDie_drops j) rfl rfl) (jobFailed_drops j st)

/-! ### What an operation is for, where it failed -/

theorem progDone_drops (id : Nat) {st : Nat} (hst : st ≠ St.ok) : Drops s (s.progDone id st) := by
  unfold State.progDone
  split
  · exact .refl s
  · split
    · rw [if_neg hst]
      exact progEnd_drops _ _
    · exact .refl s

theorem rowMemberDone_drops (row m : Nat) {st : Nat} (hst : st ≠ St.ok) : Drops s (s.rowMemberDone row m st) := by
  unfold State.rowMemberDone
  split
  · refine .ite (.refl s) (.after (State.setRow_frame ..) (.foldl fun u i _ => ?_) rfl rfl)
    rw [decide_eq_false hst]
    exact .of_frame (pageLines_dropped_frame _) rfl rfl
  · exact .refl s

theorem aheadFailed_drops (o : DieOp) {st : Nat} (hst : st ≠ St.ok) : Drops s (s.aheadFailed o st) := by
  unfold State.aheadFailed
  refine .foldl fun u p _ => ?_
  split
  · exact progDone_drops _ hst
  · exact rowMemberDone_drops _ _ hst
  · exact .refl u

theorem aheadDone_drops (op : Nat) {st : Nat} (hst : st ≠ St.ok) : Drops s (s.aheadDone op st) := by
  unfold State.aheadDone
  split
  · refine .ite (.step (aheadFailed_drops _ (by decide)) ?_) (.ite (.after (State.enqueueProg_frame ..) ?_ rfl rfl)
      (.step (aheadFailed_drops _ hst) ?_))
    all_goals exact .of_frame (State.aheadLeaves_frame ..) rfl rfl
  · exact .refl s

theorem rebuildDone_drops (entry : Nat) {st : Nat} (hst : st ≠ St.ok) : Drops s (s.rebuildDone entry st) := by
  unfold State.rebuildDone
  split
  · exact .refl s
  · rw [if_neg hst]
    refine .after (State.raise_frame (m := may [.modeCtl, .notice, .outputs, .regs 0, .regs 2, .regs 8, .regs 12]) _ F.FI_EVENT_REBUILD_FAIL
      rfl rfl rfl) (.after (setF_frame (m := may [.regs 8]) _ F.FI_STATUS_REBUILDS _ rfl rfl) ?_ rfl rfl) rfl rfl
    refine .after (setR_frame (m := may [.regs 8]) _ _ _ (by rw [regGroup_FI_COA_A]; rfl) (by rw [regGroup_FI_COA_A]; rfl))
      (.after (withFiSeq_frame _ _) (.foldl fun u j _ => cancelJob_drops j) rfl rfl) rfl rfl

theorem purposeDone_drops (p : Purpose) {st : Nat} (hst : st ≠ St.ok) : Drops s (s.purposeDone st p) := by
  cases p with
  | progDesc id => exact progDone_drops id hst
  | progRow row m => exact rowMemberDone_drops row m hst
  | progSpare => exact .of_frame (State.relocateDone_frame s false st) rfl rfl
  | progRebuild e => exact rebuildDone_drops e hst
  | progHome => exact .of_frame (State.homeDone_frame s false st) rfl rfl
  | eraseDesc id => exact .of_frame (State.finish_frame ..) rfl rfl
  | eraseAhead op => exact aheadDone_drops op hst
  | eraseGuarded => exact .refl s
  | eraseSpare => exact .of_frame (State.relocateDone_frame s true st) rfl rfl
  | eraseRebuild e => exact rebuildDone_drops e hst
  | eraseHome => exact .of_frame (State.homeDone_frame s true st) rfl rfl

theorem safePurpose_drops (p : Purpose) {st : Nat} (hst : st ≠ St.ok) : Drops s (s.safePurpose st p) := by
  cases p with
  | progDesc id =>
    simp only [State.safePurpose, if_neg hst, decide_eq_false hst]
    split
    · split
      · exact .of_frame (pageLines_dropped_frame _) rfl rfl
      · exact .refl s
    · exact .refl s
  | eraseDesc id =>
    simp only [State.safePurpose, if_neg hst]
    split <;> exact .refl s
  | progRow row m =>
    simp only [State.safePurpose, if_neg hst]
    exact .refl s
  | eraseAhead op => exact .of_frame (State.aheadLeaves_frame ..) rfl rfl
  | progSpare | progRebuild | progHome | eraseGuarded | eraseSpare | eraseRebuild | eraseHome => exact .refl s

theorem tellPurposes_drops (o : DieOp) {st : Nat} (hst : st ≠ St.ok) : Drops s (s.tellPurposes o st) := by
  unfold State.tellPurposes
  refine .ite (.after (State.safeSettle_frame ..) (.foldl fun u p _ => safePurpose_drops p hst) rfl rfl) ?_
  exact .after (State.together_frame ..) (.foldl fun u p _ => purposeDone_drops p hst) rfl rfl

/-- Operations that are dropped with a failure. -/
theorem dropOps_drops (l : List DieOp) {st : Nat} (hst : st ≠ St.ok) : Drops s (s.dropOps l st) := by
  unfold State.dropOps
  refine .after (State.together_frame ..) (.foldl fun u o _ => .ite ?read (tellPurposes_drops o hst)) rfl rfl
  case read => exact .step (.foldl fun u j _ => jobUnread_drops j st) (.of_frame (State.closePool_frame ..) rfl rfl)

end State
end Sys2Proof.Machine
end

section
/-! PROOFS. A route goes DOWN: what its registers show and what of the other routes stays (R80, R125, R126). -/

namespace Sys2Proof.Machine
namespace State

variable {s : State}

/-! ### Dies of a route that goes down (R80, R126) -/

/-- Dropping what a die does, with a failure. -/
theorem dieDrop_failed_frame (k : Nat) {st : Nat} (all : Bool) (hst : st ≠ St.ok) : Frame dropParts s (s.dieDrop k st all) := by
  unfold State.dieDrop
  refine (dropOps_drops _ hst).frame.step (.after (n := may [.regs 17]) (setF_frame _ (F.RT_DIE_HELD _ _) 0 ?_ ?_) ?_ rfl)
  · rw [regGroup_F_RT_DIE_HELD]; rfl
  · rw [regGroup_F_RT_DIE_HELD]; rfl
  · exact (State.setDie_frame ..).after ((withSeq_frame _).mono rfl) rfl

theorem dieDown_frame_drop (k : Nat) : Frame dropParts s (s.dieDown k) := by
  unfold State.dieDown
  have htorn : Frame dropParts s (if s.ledgerTorn k then s.ledgerLost k else s) := .ite ((State.ledgerLost_frame s k).mono rfl) (.refl s)
  have hdropped := (dieDrop_failed_frame (s := if s.ledgerTorn k then s.ledgerLost k else s) k true (st := St.routeDown) (by decide)).step htorn
  dsimp only
  generalize State.dieDrop (if s.ledgerTorn k then s.ledgerLost k else s) k St.routeDown true = u at hdropped ⊢
  have hadded : Frame dropParts s (if s.tornBlocks k = [] then u else u.addIncomplete (s.tornBlocks k)) :=
    .ite hdropped ((State.addIncomplete_frame ..).after hdropped rfl)
  exact .ite hadded ((State.setDieSt_frame ..).after hadded rfl)

/-! ### Events that are raised together -/

theorem raiseAll_getR {off : Nat} (fs : List Field) (h : still off) : (s.raiseAll fs).getR off = (fs.foldl (fun s f => s.setF f 1) s).getR off :=
  foldl_keeps (fun u : State => u.getR off) fun u src _ => fire_getR u src h

theorem raiseAll_getF {f : Field} (fs : List Field) (h : still f.off) : (s.raiseAll fs).getF f = (fs.foldl (fun s f => s.setF f 1) s).getF f :=
  congrArg (fun w : W32 => bits w.toNat f.lo f.width) (raiseAll_getR fs h)

/-! ### The steps of going down -/

/-- The route is DOWN; of its drains only one for an apply is kept, as drained. -/
def routeOff (s : State) (r : Nat) : State :=
  let x := s.route r
  ((s.recalDrop r).setF (F.RT_STATUS_STATE r) 0).setRoute r { drained := x.drainImage, drainImage := x.drainImage, passTemp := x.passTemp }

/-- The operations of its dies end, and its range is invalidated. -/
def routeEmptied (s : State) (r : Nat) : State := (s.routeDies r).foldl State.dieDown (s.dieRanges (s.routeDies r))

/-- VCCQ goes off, and the interface shows why. -/
def downShown (s : State) (r cause : Nat) : State :=
  let s := s.emit (.routePower r false)
  let s := ((s.setF (F.RT_PHY_STATUS_RATE r) 0).setF (F.RT_PHY_STATUS_DFE_ON r) 0).setF (F.RT_PHY_STATUS_VCCQ_GOOD r) 0
  ((s.setF (F.RT_PHY_STATUS_DOWN_CAUSE r) cause).setF (F.RT_PHY_CTRL_DOWN_REQ r) 0).setF (F.RT_PHY_STATUS_SAFE_TO_REMOVE r) 0

/-- The events of a route that goes down at step `train` of its training. -/
def downEvents (r train : Nat) : List Field :=
  (if [0, 12, 13].contains train then [] else [F.RT_PHY_EVENT_TRAIN_FAIL r]) ++ [F.RT_PHY_EVENT_ROUTE_DOWN r]

theorem routeDown_eq {r : Nat} (cause : Nat) (hup : s.routeSt r ≠ 0) : s.routeDown r cause =
    ((((((s.routeOff r).routeEmptied r).downShown r cause).raiseAll (downEvents r (s.route r).train)).trainEnded r).reimageFailed r
      (s.route r)).guardUpdate.drainsDone := if_neg hup

theorem routeSt_routeOff (r i : Nat) : (s.routeOff r).routeSt i = if i = r then 0 else s.routeSt i := by
  show ((s.recalDrop r).setF (F.RT_STATUS_STATE r) 0).getF (F.RT_STATUS_STATE i) = _
  split
  next h => subst h; exact getF_setF_same _ (F.RT_STATUS_STATE i) 0 (Nat.le_of_ble_eq_true rfl)
  next h =>
    rw [getF_setF_ne _ _ (Or.inl fun e => h ?_) (Nat.le_of_ble_eq_true rfl)]
    · exact (State.recalDrop_frame s r).routeSt (by decide) i
    · change R.RT_STATUS i = R.RT_STATUS r at e
      unfold R.RT_STATUS at e
      omega

theorem routeEmptied_frame (r : Nat) : Frame dropParts s (s.routeEmptied r) :=
  Frame.foldl ((State.dieRanges_frame ..).mono rfl) fun _ k => dieDown_frame_drop k

theorem downShown_frame (r cause : Nat) : Frame (may [.outputs, .regs 15]) s (s.downShown r cause) := by
  have hset : ∀ (u : State) (f : Field) (v : Nat), regGroup f.off = 15 → Frame (may [.outputs, .regs 15]) u (u.setF f v) := fun u f v h =>
    setF_frame u f v (by rw [h]; rfl) (by rw [h]; rfl)
  unfold downShown
  exact (hset _ _ _ (by simp)).step ((hset _ _ _ (by simp)).step ((hset _ _ _ (by simp)).step ((hset _ _ _ (by simp)).step
    ((hset _ _ _ (by simp)).step ((hset _ _ _ (by simp)).step ((State.emit_frame ..).mono rfl))))))

theorem downShown_out (r cause : Nat) : (s.downShown r cause).out = s.out ++ [.routePower r false] := rfl

theorem getF_downShown_cause (r cause : Nat) : (s.downShown r cause).getF (F.RT_PHY_STATUS_DOWN_CAUSE r) = cause % 8 := by
  unfold downShown
  rw [getF_setF_ne _ _ (Or.inr (Or.inr (Nat.le_of_ble_eq_true rfl))) (Nat.le_of_ble_eq_true rfl), getF_setF_ne _ _ (Or.inl ?_) (Nat.le_of_ble_eq_true rfl),
    getF_setF_same _ _ _ (Nat.le_of_ble_eq_true rfl)]
  · rfl
  · show R.RT_PHY_STATUS r ≠ R.RT_PHY_CTRL r
    unfold R.RT_PHY_STATUS R.RT_PHY_CTRL
    omega

theorem getF_downShown_vccq (r cause : Nat) : (s.downShown r cause).getF (F.RT_PHY_STATUS_VCCQ_GOOD r) = 0 := by
  unfold downShown
  rw [getF_setF_ne _ _ (Or.inr (Or.inl (Nat.le_of_ble_eq_true rfl))) (Nat.le_of_ble_eq_true rfl), getF_setF_ne _ _ (Or.inl ?_) (Nat.le_of_ble_eq_true rfl),
    getF_setF_ne _ _ (Or.inr (Or.inl (Nat.le_of_ble_eq_true rfl))) (Nat.le_of_ble_eq_true rfl), getF_setF_same _ _ _ (Nat.le_of_ble_eq_true rfl)]
  · rfl
  · show R.RT_PHY_STATUS r ≠ R.RT_PHY_CTRL r
    unfold R.RT_PHY_STATUS R.RT_PHY_CTRL
    omega

/-! ### The events of a route that goes down -/

theorem still_RT_PHY_EVENT (r : Nat) : still (R.RT_PHY_EVENT r) := by unfold still R.RT_PHY_EVENT R.MODE R.PWR_WAKE; omega
theorem still_RT_PHY_STATUS (r : Nat) : still (R.RT_PHY_STATUS r) := by unfold still R.RT_PHY_STATUS R.MODE R.PWR_WAKE; omega

theorem raiseAll_downEvents_frame (r train : Nat) :
    Frame (may [.modeCtl, .notice, .outputs, .regs 0, .regs 2, .regs 12, .regs 15]) s (s.raiseAll (downEvents r train)) := by
  have hgroup : ∀ f ∈ downEvents r train, regGroup f.off = 15 := fun f hf => by
    have hoff : f.off = R.RT_PHY_EVENT r := by
      unfold downEvents at hf
      split at hf
      · obtain rfl := List.mem_singleton.1 hf; rfl
      · rcases List.mem_pair.1 hf with rfl | rfl <;> rfl
    rw [hoff, regGroup_RT_PHY_EVENT]
  exact State.raiseAll_frame s _ (fun f hf => by rw [hgroup f hf]; rfl) (fun f hf => by rw [hgroup f hf]; rfl) rfl

theorem getF_raiseAll_routeDown (r train : Nat) : (s.raiseAll (downEvents r train)).getF (F.RT_PHY_EVENT_ROUTE_DOWN r) = 1 := by
  rw [raiseAll_getF _ (still_RT_PHY_EVENT r), downEvents, List.foldl_append]
  exact getF_setF_same _ _ 1 (Nat.le_of_ble_eq_true rfl)

theorem getF_raiseAll_trainFail {r train : Nat} (h : train ∉ [0, 12, 13]) :
    (s.raiseAll (downEvents r train)).getF (F.RT_PHY_EVENT_TRAIN_FAIL r) = 1 := by
  rw [raiseAll_getF _ (still_RT_PHY_EVENT r), downEvents, if_neg (by simpa using h)]
  exact (getF_setF_ne _ _ (Or.inr (Or.inr (Nat.le_of_ble_eq_true rfl))) (Nat.le_of_ble_eq_true rfl)).trans
    (getF_setF_same _ _ 1 (Nat.le_of_ble_eq_true rfl))

theorem getF_raiseAll_status (r train : Nat) {f : Field} (h : f.off = R.RT_PHY_STATUS r) :
    (s.raiseAll (downEvents r train)).getF f = s.getF f := by
  have hne : R.RT_PHY_STATUS r ≠ R.RT_PHY_EVENT r := by unfold R.RT_PHY_STATUS R.RT_PHY_EVENT; omega
  rw [raiseAll_getF _ (h ▸ still_RT_PHY_STATUS r), downEvents]
  split
  · exact getF_setF_ne _ _ (Or.inl (h ▸ hne)) (Nat.le_of_ble_eq_true rfl)
  · exact (getF_setF_ne _ _ (Or.inl (h ▸ hne)) (Nat.le_of_ble_eq_true rfl)).trans
      (getF_setF_ne _ _ (Or.inl (h ▸ hne)) (Nat.le_of_ble_eq_true rfl))

/-! ### A route that has gone down (R125) -/

/-- What follows the events touches neither the interface nor any route's state. -/
theorem downSettled_frame (r : Nat) (x : Route) :
    Frame 0x9401d019a s ((s.trainEnded r).reimageFailed r x).guardUpdate.drainsDone := by
  refine (State.drainsDone_frame _).after ((State.guardUpdate_frame _).after ((State.reimageFailed_frame ..).after ((State.trainEnded_frame ..).mono ?_)
    ?_) ?_) ?_ <;> rfl

/-- A route that was not DOWN and goes down. -/
theorem routeDown_ends {r : Nat} (cause : Nat) (hup : s.routeSt r ≠ 0) :
    let t := s.routeDown r cause
    t.routeSt r = 0 ∧ t.getF (F.RT_PHY_STATUS_DOWN_CAUSE r) = cause % 8 ∧ t.getF (F.RT_PHY_EVENT_ROUTE_DOWN r) = 1 ∧
      t.getF (F.RT_PHY_STATUS_VCCQ_GOOD r) = 0 ∧ .routePower r false ∈ t.out ∧
      ((s.route r).train ∉ [0, 12, 13] → t.getF (F.RT_PHY_EVENT_TRAIN_FAIL r) = 1) ∧ ∀ i, i ≠ r → t.routeSt i = s.routeSt i := by
  rw [routeDown_eq cause hup]
  have hempty := routeEmptied_frame (s := s.routeOff r) r
  have hshown := downShown_frame (s := (s.routeOff r).routeEmptied r) r cause
  have hraised := raiseAll_downEvents_frame (s := ((s.routeOff r).routeEmptied r).downShown r cause) r (s.route r).train
  have hsettled := downSettled_frame (s := (((s.routeOff r).routeEmptied r).downShown r cause).raiseAll (downEvents r (s.route r).train)) r (s.route r)
  have hstate : ∀ i, ((((((s.routeOff r).routeEmptied r).downShown r cause).raiseAll (downEvents r (s.route r).train)).trainEnded r).reimageFailed r
      (s.route r)).guardUpdate.drainsDone.routeSt i = if i = r then 0 else s.routeSt i := fun i => by
    rw [hsettled.routeStates (by decide), hraised.routeStates (by decide), hshown.routeStates (by decide), hempty.routeStates (by decide),
      routeSt_routeOff]
  have hphy : ∀ {f : Field}, regGroup f.off = 15 → ((((((s.routeOff r).routeEmptied r).downShown r cause).raiseAll
      (downEvents r (s.route r).train)).trainEnded r).reimageFailed r (s.route r)).guardUpdate.drainsDone.getF f =
      ((((s.routeOff r).routeEmptied r).downShown r cause).raiseAll (downEvents r (s.route r).train)).getF f := fun h =>
    hsettled.getF (by rw [h]; rfl)
  refine ⟨(hstate r).trans (if_pos rfl), ?_, ?_, ?_, ?_, fun htrain => ?_, fun i hi => (hstate i).trans (if_neg hi)⟩
  · rw [hphy (by simp), getF_raiseAll_status _ _ rfl, getF_downShown_cause]
  · rw [hphy (by simp), getF_raiseAll_routeDown]
  · rw [hphy (by simp), getF_raiseAll_status _ _ rfl, getF_downShown_vccq]
  · obtain ⟨a, ha⟩ := hraised.left
    obtain ⟨b, hb⟩ := hsettled.left
    rw [hb, ha, downShown_out]
    simp
  · rw [hphy (by simp), getF_raiseAll_trainFail htrain]

end State
end Sys2Proof.Machine
end

section
/-! PROOFS. Drains of routes, and the commands that end them (R51, R52, R124, R126). -/

namespace Sys2Proof.Machine
namespace State

variable {s : State}

/-! ### DOWN_REQ (R126) -/

/-- `ENS_RT_PHY_CTRL` of a route has no locked bit. -/
theorem regRow?_RT_PHY_CTRL {r : Nat} (hr : r < 32) : ∃ row, regRow? (R.RT_PHY_CTRL r) = some row ∧ row.rwx = 0 ∧ row.rwl = 0 := by
  have hrow : ∀ r < 32, (regRow? (R.RT_PHY_CTRL r)).any fun row => row.rwx = 0 && row.rwl = 0 := by decide
  cases hfind : regRow? (R.RT_PHY_CTRL r) with
  | none => exact absurd (hrow r hr) (by simp [hfind])
  | some row => exact ⟨row, rfl, by simpa [hfind] using hrow r hr⟩

theorem applyWrite_RT_PHY_CTRL {r : Nat} (hr : r < 32) (row : RegRow) (v : W32) :
    s.applyWrite row (R.RT_PHY_CTRL r) v = s.phyCtrl r v.toNat := by
  have hroute : (R.RT_PHY_CTRL r - 0x20000) / 4096 = r := by unfold R.RT_PHY_CTRL; omega
  have hlast : 0x20000 ≤ R.RT_PHY_CTRL r ∧ R.RT_PHY_CTRL r < 0x40000 ∧ R.RT_PHY_CTRL r % 4096 = 0x400 := by unfold R.RT_PHY_CTRL; omega
  have hreg : ∀ {off : Nat}, off < 0x20000 → ¬ R.RT_PHY_CTRL r = off := by omega
  have hrange : ∀ {lo hi : Nat}, hi ≤ 0x20000 → ¬ (lo ≤ R.RT_PHY_CTRL r ∧ R.RT_PHY_CTRL r < hi) := by omega
  unfold State.applyWrite
  simp (disch := decide) only [hreg, hrange, hlast, hroute, if_false, and_self, if_true]

/-- DOWN_REQ of a route, its EVENT_EN written back as it is. -/
theorem writeReg_downReq {r : Nat} (hr : r < 32) (h : s.takes (R.RT_PHY_CTRL r)) :
    s.writeReg (R.RT_PHY_CTRL r) (s.phyKeep r ||| 1#32) =
      (s.setF ⟨R.RT_PHY_CTRL r, 2, 6⟩ (bits (s.phyKeep r ||| 1#32).toNat 2 6)).downReq r := by
  obtain ⟨row, hrow, hrwx, hrwl⟩ := regRow?_RT_PHY_CTRL hr
  have hrecal : bit (s.phyKeep r ||| 1#32).toNat 1 = false := by
    rw [bit, BitVec.testBit_toNat, State.phyKeep, BitVec.getLsbD_or, BitVec.getLsbD_and]
    simp
  have hdown : bit (s.phyKeep r ||| 1#32).toNat 0 = true := by simp [bit, BitVec.toNat_or]
  have happly : s.applyWrite row (R.RT_PHY_CTRL r) (s.phyKeep r ||| 1#32) =
      (s.setF ⟨R.RT_PHY_CTRL r, 2, 6⟩ (bits (s.phyKeep r ||| 1#32).toNat 2 6)).downReq r := by
    rw [applyWrite_RT_PHY_CTRL hr, State.phyCtrl, hrecal, hdown]
    rfl
  have hheld : (s.applyWrite row (R.RT_PHY_CTRL r) (s.phyKeep r ||| 1#32)).sec.heldWrites = [] := by
    obtain ⟨-, -, -, hnone⟩ := h
    rw [happly, (State.downReq_frame _ r).sec (by decide), setF_sec, hnone]
  rw [writeReg_takes h hrow (by unfold isDoor R.RT_PHY_CTRL; simp; omega) (by simp [State.lockedMask, hrwx, hrwl]) hheld, happly]

theorem routeSt_setF_same {r : Nat} (v : Nat) : (s.setF (F.RT_STATUS_STATE r) v).routeSt r = v % 4 :=
  getF_setF_same _ (F.RT_STATUS_STATE r) v (Nat.le_of_ble_eq_true rfl)

theorem routeSt_setF_ne {r i : Nat} (v : Nat) (h : i ≠ r) : (s.setF (F.RT_STATUS_STATE r) v).routeSt i = s.routeSt i :=
  getF_setF_ne _ v (Or.inl fun e => h (by change R.RT_STATUS i = R.RT_STATUS r at e; unfold R.RT_STATUS at e; omega))
    (Nat.le_of_ble_eq_true rfl)

/-- A field outside `ENS_RT_STATUS` is no part of any route's state. -/
theorem routeSt_setF_of_ne {f : Field} (v i : Nat) (h : ∀ q, R.RT_STATUS q ≠ f.off) : (s.setF f v).routeSt i = s.routeSt i :=
  congrArg (fun w : W32 => bits w.toNat 0 2) (getR_setF_ne _ v (h i))

theorem RT_STATUS_ne_RT_PHY_CTRL (q r : Nat) : R.RT_STATUS q ≠ R.RT_PHY_CTRL r := by unfold R.RT_STATUS R.RT_PHY_CTRL; omega

/-- DOWN_REQ of an UP route in MAINT. -/
theorem downReq_drains {r : Nat} (hmode : s.modeNow = 11) (hup : s.routeSt r = 2) (hpair : r < 2 → s.routeSt (1 - r) = 2)
    (hidle : (s.route r).drainDown = false) :
    (s.downReq r).routeSt r = 3 ∧ ((s.downReq r).route r).drainDown = true ∧ (s.downReq r).getF (F.RT_PHY_CTRL_DOWN_REQ r) = 1 ∧
      ∀ i, i ≠ r → (s.downReq r).routeSt i = s.routeSt i := by
  have hdrains : s.downReq r = (((s.setRoute r { s.route r with drainDown := true }).setF (F.RT_PHY_CTRL_DOWN_REQ r) 1).setF
      (F.RT_STATUS_STATE r) 3).guardUpdate := by
    unfold State.downReq
    dsimp only
    rw [if_neg (by simp [hidle]), if_neg (by simp only [hmode, hup]; omega), if_neg (by omega)]
  rw [hdrains]
  refine ⟨?_, ?_, ?_, fun i hi => ?_⟩
  · rw [guardUpdate_routeSt, routeSt_setF_same]
  · rw [guardUpdate_route, route_setF, route_setF, route_setRoute_same]
  · rw [guardUpdate_getF ⟨by show R.RT_PHY_CTRL r ≠ _; unfold R.RT_PHY_CTRL R.PWR_WG_STATUS; omega,
        Or.inl fun q => (RT_STATUS_ne_RT_PHY_CTRL q r).symm⟩,
      getF_setF_ne _ _ (Or.inl (RT_STATUS_ne_RT_PHY_CTRL r r).symm) (Nat.le_of_ble_eq_true rfl), getF_setF_same _ _ _ (Nat.le_of_ble_eq_true rfl)]
    rfl
  · rw [guardUpdate_routeSt, routeSt_setF_ne _ hi, routeSt_setF_of_ne _ _ fun q => RT_STATUS_ne_RT_PHY_CTRL q r]
    rfl

/-! ### A drain for an apply (R51, R52) -/

/-- The seam waits for another route that drains. -/
theorem drainsDone_waits {i : Nat} (hi : i ∈ s.img.draining) (hdrained : (s.route i).drained = false) (hup : s.routeSt i ≠ 0) :
    s.drainsDone = s := by
  refine if_neg fun h => ?_
  have hall := List.all_eq_true.1 h.2 i hi
  simp [hdrained, hup] at hall

/-- Nothing but an apply drains route `r`. -/
def freeDrain (s : State) (r : Nat) : Prop := (s.route r).drainDown = false ∧ (s.route r).drainRetrain = false ∧ (s.route r).retrain = false

theorem releaseRoute_freeDrain {i : Nat} (r : Nat) (h : s.freeDrain i) : (s.releaseRoute r).freeDrain i := by
  have hset : (s.setRoute r { s.route r with drainImage := false, drained := false }).freeDrain i := by
    unfold freeDrain at *
    by_cases hi : i = r
    · subst hi
      rwa [route_setRoute_same]
    · rwa [route_setRoute_ne _ _ hi]
  unfold releaseRoute
  dsimp only
  split
  · exact hset
  · exact hset

theorem routeSt_releaseRoute_same {r : Nat} (h : s.freeDrain r) (hst : s.routeSt r = 3 ∨ s.routeSt r = 2) :
    (s.releaseRoute r).routeSt r = 2 := by
  obtain ⟨hdown, hretrain, hrunning⟩ := h
  have hkept : (s.setRoute r { s.route r with drainImage := false, drained := false }).routeSt r = s.routeSt r := rfl
  unfold releaseRoute
  dsimp only
  rw [hkept]
  rcases hst with hst | hst
  · rw [if_pos (by simp [hst, hdown, hretrain, hrunning]), routeSt_setF_same]
  · rw [if_neg (by simp [hst])]
    exact hkept.trans hst

theorem routeSt_releaseRoute_ne {r i : Nat} (h : i ≠ r) : (s.releaseRoute r).routeSt i = s.routeSt i := by
  unfold releaseRoute
  dsimp only
  split
  · exact routeSt_setF_ne _ h
  · rfl

/-- A route that drains for an apply alone is UP when the apply lets it go. -/
theorem routeSt_foldl_releaseRoute {l : List Nat} {i : Nat} (h : s.freeDrain i) (hst : s.routeSt i = 2 ∨ s.routeSt i = 3 ∧ i ∈ l) :
    (l.foldl releaseRoute s).routeSt i = 2 := by
  induction l generalizing s with
  | nil => exact hst.resolve_right (by simp)
  | cons r l ih =>
    refine ih (releaseRoute_freeDrain r h) ?_
    by_cases hi : i = r
    · subst hi
      exact Or.inl (routeSt_releaseRoute_same h (hst.symm.imp_left And.left))
    · rw [routeSt_releaseRoute_ne hi]
      exact hst.imp_right fun ⟨hst, hmem⟩ => ⟨hst, (List.mem_cons.1 hmem).resolve_left hi⟩

theorem drainRelease_routeSt {i : Nat} (hi : i ∈ s.img.draining) (h : s.freeDrain i) (hst : s.routeSt i = 3) : s.drainRelease.routeSt i = 2 := by
  rw [drainRelease_eq, guardUpdate_routeSt]
  exact routeSt_foldl_releaseRoute h (Or.inr ⟨hst, hi⟩)

theorem imgState_routeSt (st cause sec i : Nat) : (s.imgState st cause sec).routeSt i = s.routeSt i := by
  unfold State.routeSt State.getF
  rw [getR_imgState_ne st cause sec (by show still (R.RT_STATUS i); unfold still R.RT_STATUS R.MODE R.PWR_WAKE; omega)
    (by show R.RT_STATUS i ≠ _; unfold R.RT_STATUS R.IMG_STATUS; omega)]

/-! ### A drain for a retrain (R124) -/

theorem foldl_emit_out {α : Type} (f : α → Output) (l : List α) : (l.foldl (fun s a => s.emit (f a)) s).out = s.out ++ l.map f := by
  induction l generalizing s with
  | nil => simp
  | cons a l ih => rw [List.foldl_cons, ih]; simp [State.emit]

theorem trainOut_out (r step : Nat) : (s.trainOut r step).out = s.out ++ (s.goodCes r).map fun ce => .train r ce step :=
  foldl_emit_out _ _

theorem route_of_frame {m : Nat} {t : State} (h : Frame m s t) (h8 : m.testBit 8 = false) (r : Nat) : t.route r = s.route r := by
  unfold State.route
  rw [h.seq h8]

/-- What goes on with a step of training leaves of the route. -/
theorem trainTo_route (r n : Nat) : (s.trainTo r n).route r = { s.route r with train := n, minEye := s.minEye r } := by
  unfold State.trainTo
  dsimp only
  split
  · rw [route_of_frame (State.trainOut_frame ..) (by decide)]
    split <;> exact route_setRoute_same ..
  · split <;> exact route_setRoute_same ..

/-- Going on with a step of training shows itself in RELIEF_POS alone. -/
theorem getF_trainTo {f : Field} (r n : Nat) (h : f.off ≠ R.RT_PHY_STATUS r ∨ f.lo + f.width ≤ 16 ∨ 20 ≤ f.lo) :
    (s.trainTo r n).getF f = s.getF f := by
  have hrelief : ∀ u : State, (u.reliefSelect r 0xA0).getF f = u.getF f := fun u =>
    getF_setF_ne (u.emit (.relief r 0xA0)) _ h (Nat.le_of_ble_eq_true rfl)
  have hout : ∀ (u : State) (k : Nat), (u.trainOut r k).getF f = u.getF f := fun u k => by
    unfold State.getF
    rw [getR_of_frame (State.trainOut_frame ..) (by decide)]
  unfold State.trainTo
  dsimp only
  split
  · rw [hout]
    split
    · rw [hrelief]; rfl
    · rfl
  · split
    · rw [hrelief]; rfl
    · rfl

/-- The retrain of a drained route. -/
theorem retrainStart_starts (r : Nat) :
    (s.retrainStart r).out = s.out ++ (s.goodCes r).map (fun ce => .train r ce 5) ∧
      (s.retrainStart r).route r = { s.route r with drainRetrain := false, retrain := true, train := 5, minEye := s.minEye r } ∧
      (s.retrainStart r).getF (F.RT_PHY_STATUS_RATE r) = min 3600 (s.getF (F.RT_PHY_STATUS_RATE r)) ∧
      (s.retrainStart r).getF (F.RT_PHY_STATUS_DFE_ON r) = 0 := by
  have hrate : ((s.setRoute r { s.route r with drainRetrain := false, retrain := true }).trainTo r 5).getF (F.RT_PHY_STATUS_RATE r) =
      s.getF (F.RT_PHY_STATUS_RATE r) := getF_trainTo r 5 (Or.inr (Or.inl (Nat.le_of_ble_eq_true rfl)))
  refine ⟨?_, ?_, ?_, ?_⟩
  · exact trainOut_out (s := (s.setRoute r _).setRoute r _) r 5
  · show ((s.setRoute r _).trainTo r 5).route r = _
    rw [trainTo_route, route_setRoute_same]
    rfl
  · unfold State.retrainStart
    dsimp only
    rw [hrate, getF_setF_ne _ _ (Or.inr (Or.inl (Nat.le_of_ble_eq_true rfl))) (Nat.le_of_ble_eq_true rfl),
      getF_setF_same _ _ _ (Nat.le_of_ble_eq_true rfl)]
    exact Nat.mod_eq_of_lt (lt_of_le_of_lt (Nat.min_le_left ..) (by decide : 3600 < 2 ^ 13))
  · exact getF_setF_same _ _ 0 (Nat.le_of_ble_eq_true rfl)

end State

/-- Settles O40: every way DOWN is `State.routeDown`, a drain for an apply ends in the seam or in `State.drainRelease`, one for a retrain
in `State.retrainStart`. -/
theorem routesDrainAndGoDown : Obligations.RoutesDrainAndGoDown := by
  refine ⟨fun s r hr htakes hmode hup hpair hidle => ?downReq, fun s r c cause hr hup _ hc => ?down,
    fun s r hr hst hquiet hretrain hdown => ⟨fun himage hwaits => ?drained, fun himage hdrains => ?retrain⟩,
    fun s r hst hdown himage hdrained happly hroutes => ?abandoned, fun s r hr hst => ?safe⟩
  case downReq =>
    have hexec : execDownReq r s = .next ((s.setF ⟨R.RT_PHY_CTRL r, 2, 6⟩ (bits (s.phyKeep r ||| 1#32).toNat 2 6)).downReq r) := by
      unfold execDownReq
      rw [if_pos hr, State.writeReg_downReq hr htakes]
    have hkept := fun i => State.routeSt_setF_of_ne (s := s) (f := ⟨R.RT_PHY_CTRL r, 2, 6⟩) (bits (s.phyKeep r ||| 1#32).toNat 2 6) i
      fun q => State.RT_STATUS_ne_RT_PHY_CTRL q r
    have hmodeKept : (s.setF ⟨R.RT_PHY_CTRL r, 2, 6⟩ (bits (s.phyKeep r ||| 1#32).toNat 2 6)).modeNow = s.modeNow :=
      State.getF_setF_ne _ _ (Or.inl (by show R.MODE ≠ R.RT_PHY_CTRL r; unfold R.MODE R.RT_PHY_CTRL; omega)) (Nat.le_of_ble_eq_true rfl)
    obtain ⟨hstate, hdrain, hreq, hothers⟩ := State.downReq_drains (hmodeKept.trans hmode) ((hkept r).trans hup)
      (fun h => (hkept (1 - r)).trans (hpair h)) hidle
    exact ⟨_, hexec, hstate, hdrain, hreq, fun i hi => (hothers i hi).trans (hkept i)⟩
  case down =>
    have hexec : exec c s = .next (s.routeDown r cause) ∧ cause < 8 := by
      rcases hc with ⟨rfl, rfl, hst, hquiet, hretrain, hdown⟩ | ⟨rfl, rfl, hst, hdown⟩ | ⟨rfl, rfl⟩ | ⟨rfl, rfl, htrain⟩
      · exact ⟨by show execRouteDrainEnd r s = _; simp [execRouteDrainEnd, hst, hquiet, hretrain, hdown], by decide⟩
      · exact ⟨by show execDrainLimitExpiry r s = _; simp [execDrainLimitExpiry, hst, hdown], by decide⟩
      · exact ⟨congrArg Host.Outcome.next (if_pos hr), by decide⟩
      · exact ⟨congrArg Host.Outcome.next (if_pos ⟨hr, htrain⟩), by decide⟩
    obtain ⟨hstate, hcause, hevent, hvccq, hout, htrain, hothers⟩ := State.routeDown_ends cause hup
    exact ⟨_, hexec.1, hstate, hcause.trans (Nat.mod_eq_of_lt hexec.2), hevent, hvccq, hout, htrain, hothers⟩
  case drained =>
    obtain ⟨i, hi, hne, hnot, hsti⟩ := hwaits
    have hwait : (s.setRoute r { s.route r with drained := true }).drainsDone = s.setRoute r { s.route r with drained := true } :=
      State.drainsDone_waits (i := i) hi (by rw [State.route_setRoute_ne _ _ hne]; exact hnot) hsti
    refine ⟨s.setRoute r { s.route r with drained := true }, ?_, State.route_setRoute_same .., State.setRoute_frame ..⟩
    show execRouteDrainEnd r s = _
    simp only [execRouteDrainEnd]
    rw [if_neg (by simp [hst, hquiet, hretrain]), if_neg (by simp [hdown]), if_pos himage, hwait]
  case retrain =>
    obtain ⟨hout, hroute, hrate, hdfe⟩ := State.retrainStart_starts (s := s) r
    refine ⟨s.retrainStart r, ?_, hout, hroute, hrate, hdfe, State.retrainStart_frame ..⟩
    show execRouteDrainEnd r s = _
    simp only [execRouteDrainEnd]
    rw [if_neg (by simp [hst, hquiet, hretrain]), if_neg (by simp [hdown]), if_neg (by simp [himage]), if_pos hdrains]
  case abandoned =>
    refine ⟨s.drainRelease.imgState 7 0x10 0xFF, ?_, State.getF_imgState_state .., State.getF_imgState_cause .., ?_, State.imgState_staging ..,
      ?_, fun i hi hsti hdowni hretraini hrunningi => ?_⟩
    · show execDrainLimitExpiry r s = _
      simp only [execDrainLimitExpiry]
      rw [if_neg (by simp [hst]), if_neg (by simp [hdown]), if_pos ⟨himage, hdrained, happly⟩]
    · rw [State.imgState_draining, State.drainRelease_img]
    · rw [State.imgState_active, State.drainRelease_img]
    · rw [State.imgState_routeSt, State.drainRelease_routeSt hi ⟨hdowni, hretraini, hrunningi⟩ hsti]
  case safe =>
    refine ⟨s.setF (F.RT_PHY_STATUS_SAFE_TO_REMOVE r) 1, congrArg Host.Outcome.next (if_pos ⟨hr, hst⟩),
      State.getF_setF_same _ _ 1 (Nat.le_of_ble_eq_true rfl), State.setF_frame _ _ _ ?_ ?_⟩
    · rw [regGroup_F_RT_PHY_STATUS_SAFE_TO_REMOVE]; rfl
    · rw [regGroup_F_RT_PHY_STATUS_SAFE_TO_REMOVE]; rfl

end Sys2Proof.Machine
end

section
/-! PROOFS. Re-images of routes: the lanes, the image's values and the dies that a route starts its training with (R58, R123, R239, R300). -/

namespace Sys2Proof.Machine

/-- A fold of which one element alone acts on what `get` reads. -/
theorem foldl_at {α β γ : Type} {f : β → α → β} (get : β → γ) (h : γ → γ) (P : β → Prop) {l : List α} {b : β} {x : α} (hl : l.Nodup)
    (hx : x ∈ l) (hb : P b) (hP : ∀ b, ∀ y ∈ l, P b → P (f b y)) (hsame : ∀ b, P b → get (f b x) = h (get b))
    (hother : ∀ b, ∀ y ∈ l, y ≠ x → get (f b y) = get b) : get (l.foldl f b) = h (get b) := by
  induction l generalizing b with
  | nil => cases hx
  | cons y l ih =>
    obtain ⟨hy, hl⟩ := List.nodup_cons.1 hl
    rw [List.foldl_cons]
    rcases List.mem_cons.1 hx with rfl | hx
    · rw [foldl_keeps get fun b z hz => hother b z (by simp [hz]) fun e => hy (e ▸ hz)]
      exact hsame b hb
    · have hne : y ≠ x := fun e => hy (e ▸ hx)
      rw [ih hl hx (hP b y (by simp) hb) (fun b z hz => hP b z (by simp [hz])) fun b z hz => hother b z (by simp [hz])]
      exact congrArg h (hother b y (by simp) hne)

theorem dieKey_div (r : Nat) {i : Nat} (hi : i < 16) : dieKey r i / 16 = r := by unfold dieKey; omega
theorem dieKey_mod (r : Nat) {i : Nat} (hi : i < 16) : dieKey r i % 16 = i := by unfold dieKey; omega

theorem RT_DIE_ne {r i j : Nat} (hi : i < 16) (hj : j < 16) (h : i ≠ j) : R.RT_DIE r i ≠ R.RT_DIE r j := by unfold R.RT_DIE; omega
theorem RT_LANE_ne {r l m : Nat} (hl : l < 9) (hm : m < 9) (h : l ≠ m) : R.RT_LANE r l ≠ R.RT_LANE r m := by unfold R.RT_LANE; omega

namespace State

variable {s : State}

/-! ### The word of a die -/

theorem dieSt_dieKey (r : Nat) {i : Nat} (hi : i < 16) : s.dieSt (dieKey r i) = s.getF (F.RT_DIE_STATE r i) := by
  unfold State.dieSt
  rw [dieKey_div r hi, dieKey_mod r hi]

theorem dieSt_setR_same (r : Nat) {i : Nat} (w : W32) (hi : i < 16) : (s.setR (R.RT_DIE r i) w).dieSt (dieKey r i) = w.toNat % 16 := by
  rw [dieSt_dieKey r hi]
  show bits ((s.setR (R.RT_DIE r i) w).getR (R.RT_DIE r i)).toNat 0 4 = _
  rw [getR_setR_same]
  rfl

theorem dieSt_setR_ne (r : Nat) {i off : Nat} (w : W32) (hi : i < 16) (h : R.RT_DIE r i ≠ off) :
    (s.setR off w).dieSt (dieKey r i) = s.dieSt (dieKey r i) := by
  rw [dieSt_dieKey r hi, dieSt_dieKey r hi]
  exact congrArg (fun w : W32 => bits w.toNat 0 4) (getR_setR_ne s w h)

/-! ### What a re-image does to the route (R58, R123, R300) -/

theorem clearTraining_lane (r : Nat) {l : Nat} (hl : l < 9) : (s.clearTraining r).getR (R.RT_LANE r l) = regReset (R.RT_LANE r l) := by
  have hstatus : R.RT_LANE r l ≠ R.RT_PHY_STATUS r := by unfold R.RT_LANE R.RT_PHY_STATUS; omega
  have hdeskew : ∀ i, R.RT_LANE r l ≠ R.RT_DESKEW r i := fun i => by unfold R.RT_LANE R.RT_DESKEW; omega
  unfold State.clearTraining
  rw [getR_setF_ne _ _ hstatus, getR_setF_ne _ _ hstatus, getR_setF_ne _ _ hstatus,
    foldl_keeps (fun u : State => u.getR (R.RT_LANE r l)) fun u i _ => getR_setR_ne u _ (hdeskew i)]
  exact foldl_at (fun u : State => u.getR (R.RT_LANE r l)) (fun _ => regReset (R.RT_LANE r l)) (fun _ => True) List.nodup_range
    (List.mem_range.2 hl) trivial (fun _ _ _ _ => trivial) (fun u _ => getR_setR_same u _ _)
    fun u m hm hne => getR_setR_ne u _ (RT_LANE_ne hl (List.mem_range.1 hm) hne.symm)

theorem clearTraining_retired (r : Nat) : (s.clearTraining r).getF (F.RT_PHY_STATUS_RETIRED r) = 0 :=
  getF_setF_same _ _ 0 (Nat.le_of_ble_eq_true rfl)

theorem unretire_dieSt (r : Nat) {i : Nat} (hi : i < 16) :
    (s.unretire r).dieSt (dieKey r i) = if s.dieSt (dieKey r i) = 9 then 1 else s.dieSt (dieKey r i) := by
  refine foldl_at (fun u : State => u.dieSt (dieKey r i)) (fun st => if st = 9 then 1 else st) (fun _ => True) List.nodup_range
    (List.mem_range.2 hi) trivial (fun _ _ _ _ => trivial) (fun u _ => ?_) fun u j hj hne => ?_
  · dsimp only
    split
    next h => rw [dieSt_setR_same r _ hi, if_pos (by exact h)]; rfl
    next h => exact (if_neg (by exact h)).symm
  · dsimp only
    split
    · exact dieSt_setR_ne r _ hi (RT_DIE_ne hi (List.mem_range.1 hj) hne.symm)
    · rfl

theorem dieMask_dieSt (r : Nat) {i : Nat} (hi : i < 16) : (s.dieMask r).dieSt (dieKey r i) =
    if s.dieOn (dieKey r i) = false then 0 else if s.dieSt (dieKey r i) = 0 then 1 else s.dieSt (dieKey r i) := by
  refine foldl_at (fun u : State => u.dieSt (dieKey r i)) (fun st => if s.dieOn (dieKey r i) = false then 0 else if st = 0 then 1 else st)
    (fun u => u.dieOn (dieKey r i) = s.dieOn (dieKey r i)) List.nodup_range (List.mem_range.2 hi) rfl (fun u j _ hu => ?_) (fun u hu => ?_)
    fun u j hj hne => ?_
  · rw [← hu]
    dsimp only
    split
    · rfl
    · split <;> rfl
  · dsimp only
    rw [hu]
    split
    · exact dieSt_setR_same r 0 hi
    · split
      · exact dieSt_setR_same r 1 hi
      · rfl
  · dsimp only
    split
    · exact dieSt_setR_ne r _ hi (RT_DIE_ne hi (List.mem_range.1 hj) hne.symm)
    · split
      · exact dieSt_setR_ne r _ hi (RT_DIE_ne hi (List.mem_range.1 hj) hne.symm)
      · rfl

theorem dieMask_seq (r : Nat) : (s.dieMask r).seq = s.seq :=
  foldl_keeps State.seq fun u i _ => by
    dsimp only
    split
    · rfl
    · split <;> rfl

theorem unretire_routes (r : Nat) : (s.unretire r).seq.routes = s.seq.routes := by
  have hset : ∀ (u : State) (k : Nat) (d : Die), (u.setDie k d).seq.routes = u.seq.routes := fun u k d => rfl
  unfold State.unretire
  refine foldl_keeps (fun u : State => u.seq.routes) fun u i _ => ?_
  dsimp only
  split
  · rw [setR_seq, hset]
  · exact hset ..

theorem tryImage_img (r : Nat) : (s.tryImage r).img = { s.img with
    eff := s.img.eff.set r (s.img.cfg.routes.getD r {}), effMask := setBits s.img.effMask r 1 (b2n (bit s.img.cfg.mask r)) } := rfl

theorem tryImage_route (r : Nat) : (s.tryImage r).route r = { s.route r with before := some (s.routeCfg r, s.routeOn r) } :=
  route_setRoute_same ..

theorem dieSt_tryImage (r k : Nat) : (s.tryImage r).dieSt k = s.dieSt k := rfl

/-- The route and its dies as the re-image leaves them, before its training. -/
def reimaged (s : State) (r : Nat) : State := (((s.clearTraining r).tryImage r).unretire r).dieMask r

theorem reimaged_frame (r : Nat) : Frame (may [.image, .flash, .regs 15, .regs 17]) s (s.reimaged r) :=
  (State.dieMask_frame _ r).after ((State.unretire_frame _ r).after ((State.tryImage_frame _ r).after
    ((State.clearTraining_frame s r).mono rfl) rfl) rfl) rfl

theorem reimaged_img (r : Nat) : (s.reimaged r).img = { s.img with
    eff := s.img.eff.set r (s.img.cfg.routes.getD r {}), effMask := setBits s.img.effMask r 1 (b2n (bit s.img.cfg.mask r)) } := by
  unfold reimaged
  rw [(State.dieMask_frame _ r).img (by decide), (State.unretire_frame _ r).img (by decide), tryImage_img,
    (State.clearTraining_frame s r).img (by decide)]

theorem reimaged_routeCfg {r : Nat} (h : r < s.img.eff.length) : (s.reimaged r).routeCfg r = s.img.cfg.routes.getD r {} := by
  unfold State.routeCfg
  rw [reimaged_img]
  simp [h]

theorem bit_setBits_same (v i : Nat) (b : Bool) : bit (setBits v i 1 (b2n b)) i = b := by
  unfold bit
  rw [testBit_setBits]
  cases b <;> simp [b2n]

theorem reimaged_routeOn {r : Nat} (hr : r < 32) : (s.reimaged r).routeOn r = bit s.img.cfg.mask r := by
  unfold State.routeOn
  rw [reimaged_img, bit_setBits_same, decide_eq_true hr, Bool.true_and]

theorem reimaged_route (r : Nat) : (s.reimaged r).route r = { s.route r with before := some (s.routeCfg r, s.routeOn r) } := by
  have hclear := State.clearTraining_frame s r
  have hroute : (s.reimaged r).route r = ((s.clearTraining r).tryImage r).route r := by
    unfold reimaged State.route
    rw [dieMask_seq, unretire_routes]
  rw [hroute, tryImage_route, route_of_frame hclear (by decide), State.routeCfg, State.routeOn, hclear.img (by decide)]
  rfl

theorem reimaged_phy {off : Nat} (r : Nat) (h : regGroup off = 15) : (s.reimaged r).getR off = (s.clearTraining r).getR off := by
  unfold reimaged
  rw [(State.dieMask_frame _ r).reg off (by rw [h]; rfl), (State.unretire_frame _ r).reg off (by rw [h]; rfl),
    (State.tryImage_frame _ r).reg off (by rw [h]; rfl)]

/-- Retired dies are so no more, and those that the image's die mask does not name are ABSENT. -/
theorem reimaged_dieSt {r i : Nat} (hr : r < 32) (hi : i < 16) (hlen : r < s.img.eff.length) (hon : bit s.img.cfg.mask r = true) :
    (s.reimaged r).dieSt (dieKey r i) = if bit (s.img.cfg.routes.getD r {}).dies i = true then
      (if [0, 9].contains (s.dieSt (dieKey r i)) then 1 else s.dieSt (dieKey r i)) else 0 := by
  have himg : (s.reimaged r).img = (((s.clearTraining r).tryImage r).unretire r).img := (State.dieMask_frame _ r).img (by decide)
  have hmask : (((s.clearTraining r).tryImage r).unretire r).dieOn (dieKey r i) = bit (s.img.cfg.routes.getD r {}).dies i := by
    have hdie : (s.reimaged r).dieOn (dieKey r i) = bit (s.img.cfg.routes.getD r {}).dies i := by
      unfold State.dieOn
      rw [dieKey_div r hi, dieKey_mod r hi, reimaged_routeOn hr, reimaged_routeCfg hlen, hon, Bool.true_and]
    rw [← hdie]
    unfold State.dieOn State.routeOn State.routeCfg
    rw [himg]
  have hbefore : ((s.clearTraining r).tryImage r).dieSt (dieKey r i) = s.dieSt (dieKey r i) := by
    rw [dieSt_tryImage]
    exact (State.clearTraining_frame s r).getF (by rw [regGroup_F_RT_DIE_STATE]; rfl)
  unfold reimaged
  rw [dieMask_dieSt r hi, hmask, unretire_dieSt r hi, hbefore]
  generalize s.dieSt (dieKey r i) = st
  cases bit (s.img.cfg.routes.getD r {}).dies i with
  | false => rfl
  | true =>
    by_cases h9 : st = 9
    · subst h9; rfl
    · by_cases h0 : st = 0
      · subst h0; rfl
      · simp [h9, h0]

/-! ### ROUTE_REIMAGE (R239) -/

theorem open_of_adminDesc {id op : Nat} {d : Desc} (h : s.adminDesc id op = some d) : d.status = none := by
  unfold State.adminDesc at h
  split at h
  next e he =>
    split at h
    · cases h
      have := List.find?_some he
      simp only [Bool.and_eq_true, Option.isNone_iff_eq_none] at this
      exact this.2
    · cases h
  · cases h

end State

/-- The first clause of O41: a route that is not DOWN is refused; one that the image populates takes its values and waits for its training;
one that it does not populate is done with at once. -/
theorem routeReimage_takesImage (s : State) (id r : Nat) (d : Desc) (hruns : s.adminRuns id 0x62 d) (hfield : r = field d.bytes 4 1)
    (hr : r < 32) :
    (s.routeSt r ≠ 0 → ∃ t, exec (.routeReimage id) s = .next t ∧ t.ended id 0x040 0 ∧ Frame (may [.descs]) s t) ∧
    (s.routeSt r = 0 → r < s.img.eff.length → bit s.img.cfg.mask r = true → ∃ t, exec (.routeReimage id) s = .next t ∧
      t.route r = { s.route r with before := some (s.routeCfg r, s.routeOn r), reimage := some id } ∧
      t.routeCfg r = s.img.cfg.routes.getD r {} ∧ t.routeOn r = true ∧
      (∀ l, l < 9 → t.getR (R.RT_LANE r l) = regReset (R.RT_LANE r l)) ∧ t.getF (F.RT_PHY_STATUS_RETIRED r) = 0 ∧
      (∀ i, i < 16 → t.dieSt (dieKey r i) = if bit (s.img.cfg.routes.getD r {}).dies i = true then
        (if [0, 9].contains (s.dieSt (dieKey r i)) then 1 else s.dieSt (dieKey r i)) else 0) ∧
      Frame (may [.descs, .image, .flash, .regs 15, .regs 17]) s t) ∧
    (s.routeSt r = 0 → r < s.img.eff.length → bit s.img.cfg.mask r = false → ∃ t, exec (.routeReimage id) s = .next t ∧
      t.ended id St.routeDown 0 ∧ t.routeOn r = false ∧ Frame (may [.descs, .image, .flash, .regs 15, .regs 17]) s t) := by
  obtain ⟨hadmin, hdesc, hbuf⟩ := hruns
  have hopen := State.open_of_adminDesc hadmin
  have hexec : exec (.routeReimage id) s = if s.routeSt r ≠ 0 then .next (s.finish id St.malformed 0)
      else if ((s.setDesc { d with started := true }).reimaged r).routeOn r = true then
        .next (((s.setDesc { d with started := true }).reimaged r).setRoute r
          { ((s.setDesc { d with started := true }).reimaged r).route r with reimage := some id })
      else .next ((((s.setDesc { d with started := true }).reimaged r).setRoute r
          { ((s.setDesc { d with started := true }).reimaged r).route r with before := none }).finish id St.routeDown 0) := by
    show execRouteReimage id s = _
    simp only [execRouteReimage, hadmin, ← hfield]
    rfl
  have hframe := execRouteReimage_frame id s
  refine ⟨fun hup => ?refused, fun hdown hlen hon => ?taken, fun hdown hlen hoff => ?unpopulated⟩
  case refused =>
    exact ⟨_, hexec.trans (if_pos hup), State.ended_finish _ _ hdesc hopen hbuf, State.finish_frame ..⟩
  case taken =>
    have hpop : ((s.setDesc { d with started := true }).reimaged r).routeOn r = true := (State.reimaged_routeOn hr).trans hon
    have hdone := (hexec.trans (if_neg (not_not.2 hdown))).trans (if_pos hpop)
    refine ⟨_, hdone, ?_, State.reimaged_routeCfg (s := s.setDesc { d with started := true }) hlen, hpop, fun l hl => ?_, ?_, fun i hi => ?_,
      hframe _ hdone⟩
    · rw [State.route_setRoute_same, State.reimaged_route]
      rfl
    · exact (State.reimaged_phy r (regGroup_RT_LANE ..)).trans (State.clearTraining_lane r hl)
    · exact (congrArg (fun w : W32 => bits w.toNat 21 1) (State.reimaged_phy r (regGroup_RT_PHY_STATUS r))).trans (State.clearTraining_retired r)
    · exact State.reimaged_dieSt (s := s.setDesc { d with started := true }) hr hi hlen hon
  case unpopulated =>
    have hpop : ((s.setDesc { d with started := true }).reimaged r).routeOn r = false := (State.reimaged_routeOn hr).trans hoff
    have hdone := (hexec.trans (if_neg (not_not.2 hdown))).trans (if_neg (by simp [hpop]))
    refine ⟨_, hdone, State.ended_finish (d := { d with started := true }) _ _ ?_ hopen hbuf, ?_, hframe _ hdone⟩
    · exact ((State.reimaged_frame (s := s.setDesc { d with started := true }) r).desc? (by decide) id).trans (State.desc?_started hdesc)
    · rw [← hpop]
      unfold State.routeOn
      rw [(State.finish_frame ..).img (by decide), State.setRoute_img]

end Sys2Proof.Machine
end

section
/-! PROOFS. The start of a route's training (R59, R80, R123, R239). -/

namespace Sys2Proof.Machine

theorem mem_insertAsc_self (l : List Nat) (x : Nat) : x ∈ insertAsc l x := by simp [insertAsc]

namespace State

variable {s : State}

/-! ### The start of training with a module (R59) -/

/-- VCCQ and the clock of a route are on, and its lanes are in use again. -/
def trainPowered (s : State) (r : Nat) : State :=
  let x := s.route r
  let s := (s.emit (.routePower r true)).setRoute r { x with train := 1, overRuns := 0, resetBad := [] }
  let s := (s.setF (F.RT_STATUS_STATE r) 1).setF (F.RT_PHY_STATUS_DOWN_CAUSE r) 0
  let s := ((s.setF (F.RT_PHY_STATUS_RELIEF_POS r) 0xF).setF (F.RT_PHY_STATUS_RELIEF_CARRYING r) 0).setF (F.RT_PHY_STATUS_RETIRED r) 0
  s.setF (F.RT_PHY_STATUS_SAFE_TO_REMOVE r) 0

/-- A die of a route that starts its training: in RESET, unless it is ABSENT, in FAULT or RETIRED. -/
def trainDie (r : Nat) (s : State) (d : Nat) : State :=
  let k := dieKey r d
  if s.dieOn k = false then s.setF (F.RT_DIE_STATE r d) 0
  else if [8, 9].contains (s.dieSt k) then s else s.setF (F.RT_DIE_STATE r d) 7

theorem trainGo_present {r : Nat} (h : s.getF (F.RT_PHY_STATUS_MOD_PRESENT r) = 1) :
    s.trainGo r = (List.range 16).foldl (trainDie r) (s.trainPowered r) := if_neg (by simp [h])

theorem dieSt_setF_same (r : Nat) {i : Nat} (v : Nat) (hi : i < 16) : (s.setF (F.RT_DIE_STATE r i) v).dieSt (dieKey r i) = v % 16 := by
  rw [dieSt_dieKey r hi]
  exact getF_setF_same _ _ v (Nat.le_of_ble_eq_true rfl)

theorem trainPowered_frame (r : Nat) : Frame (may [.flash, .outputs, .routeStates, .regs 14, .regs 15]) s (s.trainPowered r) := by
  have hphy : ∀ (u : State) (f : Field) (v : Nat), regGroup f.off = 15 →
      Frame (may [.flash, .outputs, .routeStates, .regs 14, .regs 15]) u (u.setF f v) := fun u f v h =>
    State.setF_frame u f v (by rw [h]; rfl) (by rw [h]; rfl)
  have hstate : ∀ (u : State) (v : Nat), Frame (may [.flash, .outputs, .routeStates, .regs 14, .regs 15]) u (u.setF (F.RT_STATUS_STATE r) v) :=
    fun u v => State.setF_frame u _ v (by rw [regGroup_F_RT_STATUS_STATE]; rfl) (by rw [regGroup_F_RT_STATUS_STATE]; rfl)
  exact (hphy _ _ _ (by simp)).step ((hphy _ _ _ (by simp)).step ((hphy _ _ _ (by simp)).step ((hphy _ _ _ (by simp)).step
    ((hphy _ _ _ (by simp)).step ((hstate _ 1).step ((State.setRoute_frame ..).after ((State.emit_frame ..).mono rfl) rfl))))))

theorem trainPowered_routeSt (r : Nat) : (s.trainPowered r).routeSt r = 1 := by
  unfold trainPowered
  dsimp only
  iterate 5 rw [routeSt_setF_of_ne _ _ fun q => by show R.RT_STATUS q ≠ R.RT_PHY_STATUS r; unfold R.RT_STATUS R.RT_PHY_STATUS; omega]
  exact routeSt_setF_same 1

theorem trainPowered_cause (r : Nat) : (s.trainPowered r).getF (F.RT_PHY_STATUS_DOWN_CAUSE r) = 0 := by
  unfold trainPowered
  dsimp only
  iterate 4 rw [getF_setF_ne _ _ (Or.inr (Or.inr (Nat.le_of_ble_eq_true rfl))) (Nat.le_of_ble_eq_true rfl)]
  exact getF_setF_same _ _ 0 (Nat.le_of_ble_eq_true rfl)

theorem trainPowered_train (r : Nat) : ((s.trainPowered r).route r).train = 1 := by
  show (((s.emit (.routePower r true)).setRoute r _).route r).train = 1
  rw [route_setRoute_same]

theorem trainDie_frame (r d : Nat) : Frame (may [.regs 17]) s (trainDie r s d) := by
  have hset : ∀ v, Frame (may [.regs 17]) s (s.setF (F.RT_DIE_STATE r d) v) := fun v =>
    State.setF_frame s _ v (by rw [regGroup_F_RT_DIE_STATE]; rfl) (by rw [regGroup_F_RT_DIE_STATE]; rfl)
  exact .ite (hset 0) (.ite (.refl s) (hset 7))

theorem trainDie_dieSt (r : Nat) {i : Nat} (hi : i < 16) : ((List.range 16).foldl (trainDie r) s).dieSt (dieKey r i) =
    if s.dieOn (dieKey r i) = true then (if [8, 9].contains (s.dieSt (dieKey r i)) then s.dieSt (dieKey r i) else 7) else 0 := by
  refine foldl_at (fun u : State => u.dieSt (dieKey r i))
    (fun st => if s.dieOn (dieKey r i) = true then (if [8, 9].contains st then st else 7) else 0)
    (fun u => u.dieOn (dieKey r i) = s.dieOn (dieKey r i)) List.nodup_range (List.mem_range.2 hi) rfl (fun u j _ hu => ?_) (fun u hu => ?_)
    fun u j hj hne => ?_
  · rw [← hu]
    unfold State.dieOn State.routeOn State.routeCfg
    rw [(trainDie_frame (s := u) r j).img (by decide)]
  · dsimp only [trainDie]
    rw [hu]
    cases s.dieOn (dieKey r i) with
    | false => exact dieSt_setF_same r 0 hi
    | true =>
      rw [if_neg (by decide), if_pos rfl]
      split
      · rfl
      · exact dieSt_setF_same r 7 hi
  · have hset : ∀ v, (u.setF (F.RT_DIE_STATE r j) v).dieSt (dieKey r i) = u.dieSt (dieKey r i) := fun v =>
      dieSt_setR_ne r _ hi (RT_DIE_ne hi (List.mem_range.1 hj) hne.symm)
    dsimp only [trainDie]
    split
    · exact hset 0
    · split
      · rfl
      · exact hset 7

/-! ### The start of training without a module (R125, R239) -/

theorem withImg_frame (i : Img) : Frame 0x8 s { s with img := i } := { Frame.refl s with img := fun q => absurd q (by decide) }

/-- The route's cause is that its module is absent, and its re-image ends. -/
def trainAbsent (s : State) (r : Nat) : State :=
  (s.setF (F.RT_PHY_STATUS_DOWN_CAUSE r) 2).setRoute r { s.route r with reimage := none, before := none }

theorem trainGo_absent {r : Nat} (h : s.getF (F.RT_PHY_STATUS_MOD_PRESENT r) = 0) :
    s.trainGo r = ((s.trainAbsent r).trainEnded r).reimageFailed r (s.route r) := if_pos h

theorem trainAbsent_frame (r : Nat) : Frame (may [.flash, .regs 15]) s (s.trainAbsent r) :=
  (State.setRoute_frame ..).after ((State.setF_frame (m := may [.flash, .regs 15]) s (F.RT_PHY_STATUS_DOWN_CAUSE r) 2
    (by rw [regGroup_F_RT_PHY_STATUS_DOWN_CAUSE]; rfl) (by rw [regGroup_F_RT_PHY_STATUS_DOWN_CAUSE]; rfl))) rfl

theorem trainEnded_scanned {r : Nat} (h : s.modeNow = 3) : r ∈ (s.trainEnded r).seq.scanned := by
  unfold State.trainEnded
  rw [if_pos h]
  exact mem_insertAsc_self _ _

end State

/-- The second clause of O41: training starts with the dies in RESET; a route without its module is not trained, its re-image ended. -/
theorem trainingStart_starts (s : State) (r : Nat) (hr : r < 32) (hdown : s.routeSt r = 0) (htrain : (s.route r).train = 0)
    (hheld : s.sec.heldWrites = []) (hdue : (s.modeNow = 3 ∧ s.routeOn r = true ∧ r ∉ s.seq.scanned) ∨
      (s.modeNow = 11 ∧ (s.route r).reimage.isSome = true)) :
    (s.getF (F.RT_PHY_STATUS_MOD_PRESENT r) = 1 → ∃ t, exec (.trainingStart r) s = .next t ∧ t.routeSt r = 1 ∧ (t.route r).train = 1 ∧
      t.getF (F.RT_PHY_STATUS_DOWN_CAUSE r) = 0 ∧ t.out = s.out ++ [.routePower r true] ∧
      (∀ i, i < 16 → t.dieSt (dieKey r i) = if s.dieOn (dieKey r i) = true then
        (if [8, 9].contains (s.dieSt (dieKey r i)) then s.dieSt (dieKey r i) else 7) else 0) ∧
      Frame (may [.flash, .outputs, .routeStates, .regs 14, .regs 15, .regs 17]) s t) ∧
    (s.getF (F.RT_PHY_STATUS_MOD_PRESENT r) = 0 → (s.route r).reimage = none → (s.route r).before = none →
      ∃ t, exec (.trainingStart r) s = .next t ∧ t.routeSt r = 0 ∧ t.getF (F.RT_PHY_STATUS_DOWN_CAUSE r) = 2 ∧ r ∈ t.seq.scanned ∧
        Frame (may [.flash, .regs 15]) s t) ∧
    (∀ id e, s.getF (F.RT_PHY_STATUS_MOD_PRESENT r) = 0 → (s.route r).reimage = some id → s.desc? id = some e → e.status = none →
      e.bufferFault = false → ∃ t, exec (.trainingStart r) s = .next t ∧ t.routeSt r = 0 ∧ t.ended id St.routeDown 0) := by
  have hexec : exec (.trainingStart r) s = .next (s.trainGo r) := by
    have hgo : r < 32 ∧ s.routeSt r = 0 ∧ (s.route r).train = 0 ∧ ((s.modeNow = 3 ∧ s.routeOn r ∧ s.seq.scanned.contains r = false) ∨
        (s.modeNow = 11 ∧ (s.route r).reimage.isSome)) :=
      ⟨hr, hdown, htrain, hdue.imp_left fun ⟨hmode, hon, hnew⟩ => ⟨hmode, hon, by simpa using hnew⟩⟩
    show execTrainingStart r s = _
    simp only [execTrainingStart]
    rw [if_pos hgo, State.releaseHeld_of_frame (State.trainGo_frame s r) (by decide) hheld]
  have habsent := State.trainAbsent_frame (s := s) r
  have hended := State.trainEnded_frame (s.trainAbsent r) r
  refine ⟨fun hpresent => ?trains, fun hgone hreimage hbefore => ?absent, fun id e hgone hreimage hdesc hopen hbuf => ?reimage⟩
  case trains =>
    have hpowered := State.trainPowered_frame (s := s) r
    have hdies : Frame (may [.regs 17]) (s.trainPowered r) ((List.range 16).foldl (State.trainDie r) (s.trainPowered r)) :=
      .foldl (.refl _) fun u d => State.trainDie_frame r d
    refine ⟨_, hexec, ?_⟩
    rw [State.trainGo_present hpresent]
    refine ⟨?_, ?_, ?_, ?_, fun i hi => ?_, hdies.after (hpowered.mono rfl) rfl⟩
    · rw [hdies.routeSt (by decide), State.trainPowered_routeSt]
    · rw [State.route_of_frame hdies (by decide), State.trainPowered_train]
    · rw [hdies.getF (by rw [regGroup_F_RT_PHY_STATUS_DOWN_CAUSE]; rfl), State.trainPowered_cause]
    · exact hdies.out (by decide)
    · have hdie : (s.trainPowered r).dieSt (dieKey r i) = s.dieSt (dieKey r i) := hpowered.getF (by rw [regGroup_F_RT_DIE_STATE]; rfl)
      rw [State.trainDie_dieSt r hi, hdie]
      rfl
  case absent =>
    have hmode : s.modeNow = 3 := by
      rcases hdue with h | ⟨-, h⟩
      · exact h.1
      · rw [hreimage] at h; cases h
    refine ⟨_, hexec, ?_⟩
    rw [State.trainGo_absent hgone, State.reimageFailed, hreimage, hbefore]
    refine ⟨?_, ?_, State.trainEnded_scanned ((State.modeNow_of_frame habsent (by decide)).trans hmode), hended.after habsent rfl⟩
    · exact ((hended.after habsent rfl).routeSt (by decide) r).trans hdown
    · exact (hended.getF (by rw [regGroup_F_RT_PHY_STATUS_DOWN_CAUSE]; rfl)).trans (State.getF_setF_same s _ 2 (Nat.le_of_ble_eq_true rfl))
  case reimage =>
    have hbefore : ∃ u, ((s.trainAbsent r).trainEnded r).reimageFailed r (s.route r) = u.finish id St.routeDown 0 ∧
        Frame (may [.image, .flash, .regs 15, .regs 17]) s u := by
      have hstart : Frame (may [.image, .flash, .regs 15, .regs 17]) s ((s.trainAbsent r).trainEnded r) := hended.after (habsent.mono rfl) rfl
      unfold State.reimageFailed
      rw [hreimage]
      refine ⟨_, rfl, ?_⟩
      split
      · exact (State.dieMask_frame _ r).after ((State.withImg_frame _).after hstart rfl) rfl
      · exact hstart
    obtain ⟨u, hu, hframe⟩ := hbefore
    refine ⟨_, hexec, ?_⟩
    rw [State.trainGo_absent hgone, hu]
    refine ⟨?_, State.ended_finish _ _ ((hframe.desc? (by decide) id).trans hdesc) hopen hbuf⟩
    exact (((State.finish_frame u id _ _).after (hframe.mono rfl) rfl : Frame (may [.descs, .image, .flash, .regs 15, .regs 17]) s _).routeSt
      (by decide) r).trans hdown

end Sys2Proof.Machine
end

section
/-! PROOFS. The steps of training that neither end it nor look at the dies (Table 5-3, R117, R118). -/

namespace Sys2Proof.Machine
namespace State

variable {s : State} {r n : Nat}

/-! ### Each step's end (R117) -/

/-- A step of route `r` is running, and the mode lets it end. -/
structure Training (s : State) (r n : Nat) : Prop where
  route : r < 32
  step : (s.route r).train = n
  mode : [3, 4, 5, 6, 11].contains s.modeNow = true

namespace Training

/-- The step's end is not ignored. -/
theorem guard (h : s.Training r n) (hn : n ≠ 0) : ¬ ((s.route r).train = 0 ∨ (!([3, 4, 5, 6, 11].contains s.modeNow)) = true ∨ 32 ≤ r) := by
  obtain ⟨hr, hstep, hmode⟩ := h
  rw [hstep, hmode]
  simp [hn, hr]

theorem powerGood (h : s.Training r 1) (data : List Bytes) :
    exec (.trainingStepDone r true data) s = .next ((s.setF (F.RT_PHY_STATUS_VCCQ_GOOD r) 1).trainTo r 2) := by
  refine (if_neg (h.guard (by decide))).trans ?_
  simp [h.step]

theorem clockGood (h : s.Training r 2) (data : List Bytes) :
    exec (.trainingStepDone r true data) s = .next ((s.trainTo r 3).trainReset r) := by
  refine (if_neg (h.guard (by decide))).trans ?_
  simp [h.step]

theorem pagesRead (h : s.Training r 3) (data : List Bytes) : exec (.trainingStepDone r true data) s =
    .next (if ((s.paramPages r data).goodDies r).isEmpty then (s.paramPages r data).routeDown r 4 else (s.paramPages r data).trainTo r 4) := by
  refine (if_neg (h.guard (by decide))).trans ?_
  simp [h.step]

theorem rateSelected (h : s.Training r 4) (data : List Bytes) :
    exec (.trainingStepDone r true data) s = .next ((s.selectRate r).trainTo r 5) := by
  refine (if_neg (h.guard (by decide))).trans ?_
  simp [h.step]

/-- A step that leaves nothing behind but the next one. -/
theorem goesOn (h : s.Training r n) (hn : n ∈ [5, 6, 16, 26]) (data : List Bytes) :
    exec (.trainingStepDone r true data) s = .next (s.trainTo r (n + 1)) := by
  refine (if_neg (h.guard (by rintro rfl; simp at hn))).trans ?_
  simp only [List.mem_cons, List.not_mem_nil, or_false] at hn
  rcases hn with rfl | rfl | rfl | rfl <;> simp [h.step]

theorem lanesRead (h : s.Training r n) (hn : n ∈ [7, 17, 27]) (data : List Bytes) : exec (.trainingStepDone r true data) s =
    .next (if (s.readTraining r data).routeSt r = 0 then s.readTraining r data else (s.readTraining r data).trainTo r (n + 1)) := by
  refine (if_neg (h.guard (by rintro rfl; simp at hn))).trans ?_
  simp only [List.mem_cons, List.not_mem_nil, or_false] at hn
  rcases hn with rfl | rfl | rfl <;> simp [h.step]

theorem lanesWritten (h : s.Training r n) (hn : n ∈ [8, 18, 28]) (data : List Bytes) : exec (.trainingStepDone r true data) s =
    .next ((s.writeTraining r data).trainTo r (if n = 8 ∧ 3600 < ((s.writeTraining r data).routeCfg r).rate then 9 else 10)) := by
  refine (if_neg (h.guard (by rintro rfl; simp at hn))).trans ?_
  simp only [List.mem_cons, List.not_mem_nil, or_false] at hn
  rcases hn with rfl | rfl | rfl <;> simp [h.step]

theorem rateRaised (h : s.Training r 9) (data : List Bytes) :
    exec (.trainingStepDone r true data) s = .next (s.extendedRate r data) := by
  refine (if_neg (h.guard (by decide))).trans ?_
  simp [h.step]

theorem verified (h : s.Training r 10) (ok : Bool) (data : List Bytes) :
    exec (.trainingStepDone r ok data) s = .next (s.verify r ok data) := by
  refine (if_neg (h.guard (by decide))).trans ?_
  simp [h.step]

theorem scanned (h : s.Training r 12) (htemps : s.tempsIn r = true) (hx : (s.route r).reimage = none) (data : List Bytes) :
    exec (.trainingStepDone r true data) s = .next ((s.scanRoute r data (s.modeNow = 3)).trainTo r 13) := by
  refine (if_neg (h.guard (by decide))).trans ?_
  simp [h.step, htemps, hx]

theorem scannedReimage {id : Nat} (h : s.Training r 12) (htemps : s.tempsIn r = true) (hx : (s.route r).reimage = some id)
    (data : List Bytes) : exec (.trainingStepDone r true data) s = .next ((s.scanRoute r data (s.modeNow = 3)).reimageDone r id) := by
  refine (if_neg (h.guard (by decide))).trans ?_
  simp [h.step, htemps, hx]

theorem recovered (h : s.Training r 13) (hall : s.allScanned = true) (hidle : s.diesIdle r = true) (data : List Bytes) :
    exec (.trainingStepDone r true data) s = .next (((s.recoverRoute r data).trainTo r 0).trainEnded r) := by
  refine (if_neg (h.guard (by decide))).trans ?_
  simp [h.step, hall, hidle]

theorem failed (h : s.Training r n) (hn : n ∉ [0, 10, 12, 13]) (data : List Bytes) :
    exec (.trainingStepDone r false data) s = .next (s.routeDown r (if n = 1 then 5 else 4)) := by
  simp only [List.mem_cons, List.not_mem_nil, or_false, not_or] at hn
  refine (if_neg (h.guard hn.1)).trans ?_
  simp [h.step, hn]

end Training
end State
end Sys2Proof.Machine
end

section
/-! PROOFS. What the steps of training leave in the route's registers (Table 5-3, R117, R118). -/

namespace Sys2Proof.Machine
namespace State

variable {s : State} {r n : Nat}

/-! ### What the dies of a route depend on -/

theorem dieSt_of_frame {m : Nat} {t : State} (h : Frame m s t) (h35 : m.testBit 35 = false) (k : Nat) : t.dieSt k = s.dieSt k :=
  h.getF (by rw [regGroup_F_RT_DIE_STATE]; exact h35)

theorem routeCfg_of_frame {m : Nat} {t : State} (h : Frame m s t) (h3 : m.testBit 3 = false) (r : Nat) : t.routeCfg r = s.routeCfg r := by
  unfold State.routeCfg
  rw [h.img h3]

theorem routeDies_of_frame {m : Nat} {t : State} (h : Frame m s t) (h3 : m.testBit 3 = false) (r : Nat) : t.routeDies r = s.routeDies r := by
  have hon : t.dieOn = s.dieOn := funext fun k => by
    unfold State.dieOn State.routeOn State.routeCfg
    rw [h.img h3]
  unfold State.routeDies
  rw [hon]

theorem goodDies_of_frame {m : Nat} {t : State} (h : Frame m s t) (h3 : m.testBit 3 = false) (h35 : m.testBit 35 = false) (r : Nat) :
    t.goodDies r = s.goodDies r := by
  unfold State.goodDies
  rw [routeDies_of_frame h h3]
  simp only [dieSt_of_frame h h35]

theorem goodCes_of_frame {m : Nat} {t : State} (h : Frame m s t) (h3 : m.testBit 3 = false) (h35 : m.testBit 35 = false) (r : Nat) :
    t.goodCes r = s.goodCes r := by
  unfold State.goodCes
  rw [goodDies_of_frame h h3 h35]

/-! ### Steps 1 to 6 -/

/-- A step whose start puts nothing on the bus is a write of the route. -/
theorem trainTo_silent (h : n ∉ [5, 6, 7, 8, 10, 16, 17, 18, 26, 27, 28]) :
    s.trainTo r n = s.setRoute r { s.route r with train := n, minEye := s.minEye r } := by
  simp only [List.mem_cons, List.not_mem_nil, or_false, not_or] at h
  unfold State.trainTo
  simp [h]

theorem getF_trainTo_status {f : Field} (n : Nat) (h : f.lo + f.width ≤ 16) : (s.trainTo r n).getF f = s.getF f :=
  getF_trainTo r n (Or.inr (Or.inl h))

theorem trainTo_train (r n : Nat) : ((s.trainTo r n).route r).train = n := by rw [trainTo_route]

theorem Training.powerGood_shows (h : s.Training r 1) (data : List Bytes) :
    ∃ t, exec (.trainingStepDone r true data) s = .next t ∧ t.getF (F.RT_PHY_STATUS_VCCQ_GOOD r) = 1 ∧ (t.route r).train = 2 ∧
      Frame (may [.flash, .regs 15]) s t := by
  refine ⟨_, h.powerGood data, ?_, trainTo_train r 2, ?_⟩
  · rw [getF_trainTo_status 2 (Nat.le_of_ble_eq_true rfl), getF_setF_same _ _ _ (Nat.le_of_ble_eq_true rfl)]
    rfl
  · rw [trainTo_silent (by decide)]
    exact (State.setRoute_frame ..).after (State.setF_frame (m := may [.flash, .regs 15]) s (F.RT_PHY_STATUS_VCCQ_GOOD r) 1
      (by rw [regGroup_F_RT_PHY_STATUS_VCCQ_GOOD]; rfl) (by rw [regGroup_F_RT_PHY_STATUS_VCCQ_GOOD]; rfl)) rfl

theorem Training.clockGood_resets (h : s.Training r 2) (data : List Bytes) :
    ∃ t, exec (.trainingStepDone r true data) s = .next t ∧ (t.route r).train = 3 ∧
      t.out = s.out ++ (((List.range 4).filter fun ce => (s.routeDies r).any fun k => k % 16 / 4 = ce).map fun ce =>
        .dieCmd r (4 * ce) [0xFF] []) ∧ Frame (may [.flash, .outputs]) s t := by
  refine ⟨_, h.clockGood data, ?_, ?_, (State.trainReset_frame ..).after ?_ rfl⟩
  · rw [route_of_frame (State.trainReset_frame ..) (by decide), trainTo_train]
  · rw [trainTo_silent (by decide)]
    exact foldl_emit_out (s := s.setRoute r _) _ _
  · rw [trainTo_silent (by decide)]
    exact (State.setRoute_frame s r _).mono rfl

theorem Training.rateSelected_shows (h : s.Training r 4) (data : List Bytes) :
    ∃ t, exec (.trainingStepDone r true data) s = .next t ∧ t.getF (F.RT_PHY_STATUS_RATE r) = min 3600 (s.routeCfg r).rate ∧
      (t.route r).train = 5 ∧ Frame (may [.flash, .outputs, .regs 15]) s t := by
  refine ⟨_, h.rateSelected data, ?_, trainTo_train r 5, (State.trainTo_frame ..).after ((State.selectRate_frame s r).mono rfl) rfl⟩
  rw [getF_trainTo_status 5 (Nat.le_of_ble_eq_true rfl), State.selectRate, getF_setF_same _ _ _ (Nat.le_of_ble_eq_true rfl)]
  exact Nat.mod_eq_of_lt (lt_of_le_of_lt (Nat.min_le_left ..) (by decide : 3600 < 2 ^ 13))

theorem Training.goesOn_next (h : s.Training r n) (hn : n ∈ [5, 6, 16, 26]) (data : List Bytes) :
    ∃ t, exec (.trainingStepDone r true data) s = .next t ∧ (t.route r).train = n + 1 ∧ Frame (may [.flash, .outputs, .regs 15]) s t :=
  ⟨_, h.goesOn hn data, trainTo_train r _, State.trainTo_frame ..⟩

theorem Training.failed_down (h : s.Training r n) (hn : n ∉ [0, 10, 12, 13]) (hup : s.routeSt r ≠ 0) (data : List Bytes) :
    ∃ t, exec (.trainingStepDone r false data) s = .next t ∧ t.routeSt r = 0 ∧
      t.getF (F.RT_PHY_STATUS_DOWN_CAUSE r) = (if n = 1 then 5 else 4) ∧ t.getF (F.RT_PHY_EVENT_TRAIN_FAIL r) = 1 := by
  obtain ⟨hdown, hcause, -, -, -, hfail, -⟩ := routeDown_ends (s := s) (if n = 1 then 5 else 4) hup
  refine ⟨_, h.failed hn data, hdown, hcause.trans (Nat.mod_eq_of_lt (by split <;> decide)), hfail ?_⟩
  rw [h.step]
  simp only [List.mem_cons, List.not_mem_nil, or_false, not_or] at hn ⊢
  exact ⟨hn.1, hn.2.2.1, hn.2.2.2⟩

/-! ### The extended rate (R118) -/

theorem xrateRefused_shows (r : Nat) : (s.xrateRefused r).getF (F.RT_PHY_STATUS_RATE r) = min 3600 (s.routeCfg r).rate ∧
    (s.xrateRefused r).getF (F.RT_PHY_STATUS_DFE_ON r) = 0 ∧ (s.xrateRefused r).getF (F.RT_PHY_EVENT_XRATE_REFUSED r) = 1 := by
  have hne : R.RT_PHY_STATUS r ≠ R.RT_PHY_EVENT r := by unfold R.RT_PHY_STATUS R.RT_PHY_EVENT; omega
  unfold State.xrateRefused
  refine ⟨?_, ?_, raise_getF _ (still_RT_PHY_EVENT r) rfl (Nat.le_of_ble_eq_true rfl)⟩
  · rw [raise_getF_ne _ (still_RT_PHY_STATUS r) hne, getF_setF_ne _ _ (Or.inr (Or.inl (Nat.le_of_ble_eq_true rfl))) (Nat.le_of_ble_eq_true rfl),
      getF_setF_same _ _ _ (Nat.le_of_ble_eq_true rfl)]
    exact Nat.mod_eq_of_lt (lt_of_le_of_lt (Nat.min_le_left ..) (by decide : 3600 < 2 ^ 13))
  · rw [raise_getF_ne _ (still_RT_PHY_STATUS r) hne, getF_setF_same _ _ _ (Nat.le_of_ble_eq_true rfl)]
    rfl

/-- A refused rate, and the step that training goes on with. -/
theorem xrateRefused_trainTo (r n : Nat) :
    (((s.xrateRefused r).trainTo r n).route r).train = n ∧
      ((s.xrateRefused r).trainTo r n).getF (F.RT_PHY_STATUS_RATE r) = min 3600 (s.routeCfg r).rate ∧
      ((s.xrateRefused r).trainTo r n).getF (F.RT_PHY_STATUS_DFE_ON r) = 0 ∧
      ((s.xrateRefused r).trainTo r n).getF (F.RT_PHY_EVENT_XRATE_REFUSED r) = 1 := by
  obtain ⟨hrate, hdfe, hevent⟩ := xrateRefused_shows (s := s) r
  refine ⟨trainTo_train r n, ?_, ?_, ?_⟩
  · rw [getF_trainTo_status n (Nat.le_of_ble_eq_true rfl), hrate]
  · rw [getF_trainTo_status n (Nat.le_of_ble_eq_true rfl), hdfe]
  · rw [getF_trainTo_status n (Nat.le_of_ble_eq_true rfl), hevent]

theorem Training.rateRaised_refused (h : s.Training r 9) (hfa : s.getF (F.RT_XRATE_FA r) = 0) (data : List Bytes) :
    ∃ t, exec (.trainingStepDone r true data) s = .next t ∧ (t.route r).train = 10 ∧
      t.getF (F.RT_PHY_STATUS_RATE r) = min 3600 (s.routeCfg r).rate ∧ t.getF (F.RT_PHY_STATUS_DFE_ON r) = 0 ∧
      t.getF (F.RT_PHY_EVENT_XRATE_REFUSED r) = 1 := by
  refine ⟨_, h.rateRaised data, ?_⟩
  rw [State.extendedRate, if_pos hfa]
  exact xrateRefused_trainTo r 10

/-- The DFE taps that adapt show themselves in the lanes' registers alone. -/
theorem getF_foldl_adaptDfe {f : Field} (l : List Nat) (h : f.off = R.RT_PHY_STATUS r) :
    (l.foldl (fun s l => s.adaptDfe r l) s).getF f = s.getF f :=
  foldl_keeps (fun u : State => u.getF f) fun u l _ => by
    unfold State.adaptDfe
    exact getF_setF_ne u.draw.2 _ (Or.inl (by rw [h]; show R.RT_PHY_STATUS r ≠ R.RT_LANE r l; unfold R.RT_PHY_STATUS R.RT_LANE; omega))
      (Nat.le_of_ble_eq_true rfl)

theorem Training.rateRaised_taken (h : s.Training r 9) (hfa : s.getF (F.RT_XRATE_FA r) ≠ 0) {data : List Bytes}
    (hread : ∀ c ∈ s.goodCes r, field (data.getD c []) 0 1 = s.getF (F.RT_XRATE_VALUE r)) :
    ∃ t, exec (.trainingStepDone r true data) s = .next t ∧ (t.route r).train = 16 ∧
      t.getF (F.RT_PHY_STATUS_RATE r) = (s.routeCfg r).rate % 8192 ∧ t.getF (F.RT_PHY_STATUS_DFE_ON r) = 1 ∧
      Frame (may [.flash, .outputs, .freeValues, .regs 15]) s t := by
  have hwritten : ∀ v, Frame (may [.outputs]) s ((s.ceCmd r 0xEF [s.getF (F.RT_XRATE_FA r)] v).ceCmd r 0xEE [s.getF (F.RT_XRATE_FA r)] []) :=
    fun v => (State.ceCmd_frame ..).after (State.ceCmd_frame ..) rfl
  have hall : ∀ v, (((s.ceCmd r 0xEF [s.getF (F.RT_XRATE_FA r)] v).ceCmd r 0xEE [s.getF (F.RT_XRATE_FA r)] []).goodCes r).all
      (fun c => field (data.getD c []) 0 1 = s.getF (F.RT_XRATE_VALUE r)) = true := fun v =>
    List.all_eq_true.2 fun c hc => by
      rw [goodCes_of_frame (hwritten v) (by decide) (by decide)] at hc
      exact decide_eq_true (hread c hc)
  have hcfg := fun v => routeCfg_of_frame (hwritten v) (by decide) r
  refine ⟨_, h.rateRaised data, ?_⟩
  rw [State.extendedRate]
  dsimp only
  rw [if_neg hfa, if_pos (hall _), hcfg]
  have hwritten := hwritten [BitVec.ofNat 8 (s.getF (F.RT_XRATE_VALUE r)), 0, 0, 0]
  generalize (s.ceCmd r 0xEF [s.getF (F.RT_XRATE_FA r)] [BitVec.ofNat 8 (s.getF (F.RT_XRATE_VALUE r)), 0, 0, 0]).ceCmd r 0xEE
    [s.getF (F.RT_XRATE_FA r)] [] = u at hwritten ⊢
  have hphy : ∀ (w : State) (f : Field) (v : Nat), regGroup f.off = 15 →
      Frame (may [.outputs, .freeValues, .regs 15]) w (w.setF f v) := fun w f v h =>
    State.setF_frame w f v (by rw [h]; rfl) (by rw [h]; rfl)
  refine ⟨trainTo_train r 16, ?_, ?_, (State.trainTo_frame ..).after (Frame.mono (n := may [.outputs, .freeValues, .regs 15]) rfl ?_) rfl⟩
  · rw [getF_trainTo_status 16 (Nat.le_of_ble_eq_true rfl), getF_foldl_adaptDfe _ rfl,
      getF_setF_ne _ _ (Or.inr (Or.inl (Nat.le_of_ble_eq_true rfl))) (Nat.le_of_ble_eq_true rfl), getF_setF_same _ _ _ (Nat.le_of_ble_eq_true rfl)]
    rfl
  · rw [getF_trainTo_status 16 (Nat.le_of_ble_eq_true rfl), getF_foldl_adaptDfe _ rfl, getF_setF_same _ _ _ (Nat.le_of_ble_eq_true rfl)]
    rfl
  · exact .foldl ((hphy _ _ _ (by simp)).step ((hphy _ _ _ (by simp)).step (hwritten.mono rfl))) fun w l =>
      (State.adaptDfe_frame w r l).mono rfl

end State
end Sys2Proof.Machine
end

section
/-! PROOFS. Read and write training of the lanes (steps 7 and 8 of Table 5-3, R117, R122). -/

namespace Sys2Proof.Machine

/-- The narrowest eye of lane `l` over the chip enables. -/
def leastEye (ces : List Nat) (data : List Bytes) (l : Nat) : Nat := ces.foldl (fun m c => min m (field (data.getD c []) l 1)) 255

theorem le_leastEye {ces : List Nat} {data : List Bytes} {l least : Nat} (h255 : least ≤ 255)
    (h : ∀ c ∈ ces, least ≤ field (data.getD c []) l 1) : least ≤ leastEye ces data l := by
  unfold leastEye
  generalize 255 = m at h255
  induction ces generalizing m with
  | nil => exact h255
  | cons c ces ih => exact ih (fun c hc => h c (by simp [hc])) _ (le_min h255 (h c (by simp)))

/-- A fold of which one element, wherever it stands, makes what `get` reads `v`, and the others leave it. -/
theorem foldl_sets {α β γ : Type} {f : β → α → β} (get : β → γ) (P : β → Prop) {l : List α} {b : β} {x : α} {v : γ}
    (hx : x ∈ l) (hb : P b) (hP : ∀ b y, P b → P (f b y)) (hsame : ∀ b, P b → get (f b x) = v)
    (hother : ∀ b, ∀ y ∈ l, y ≠ x → get (f b y) = get b) :
    get (l.foldl f b) = v := by
  induction l generalizing b with
  | nil => cases hx
  | cons y l ih =>
    by_cases hmem : x ∈ l
    · exact ih hmem (hP b y hb) fun b z hz => hother b z (by simp [hz])
    · obtain rfl := (List.mem_cons.1 hx).resolve_right hmem
      rw [List.foldl_cons, foldl_keeps get fun b z hz => hother b z (by simp [hz]) fun e => hmem (e ▸ hz)]
      exact hsame b hb

namespace State

variable {s : State} {r : Nat}

/-- The switch is open and no lane is retired: how read training finds the route. -/
def lanesOpened (s : State) (r : Nat) : State :=
  ((s.reliefSelect r 0xAF).setF (F.RT_PHY_STATUS_RELIEF_CARRYING r) 0).setF (F.RT_PHY_STATUS_RETIRED r) 0

/-- Read training of one lane. -/
def readLane (r : Nat) (ces : List Nat) (data : List Bytes) (s : State) (l : Nat) : State :=
  let s := ((s.setF (F.RT_LANE_STATE r l) (if l = 8 then 3 else 0)).setF (F.RT_LANE_OFFSET r l) 0).setF (F.RT_LANE_FAILS r l) 0
  let s := s.setF (F.RT_LANE_EYE r l) (leastEye ces data l)
  ces.foldl (fun s c => s.setF (F.RT_DESKEW_READ r (9 * c + l)) (field (data.getD c []) (9 + l) 1)) s

/-- With every eye wide enough no lane fails. -/
theorem readTraining_good {data : List Bytes} (h : ∀ l, l < 9 → (s.route r).minEye ≤ leastEye (s.goodCes r) data l) :
    s.readTraining r data = (List.range 9).foldl (readLane r (s.goodCes r) data) (s.lanesOpened r) := by
  have hbad : (List.range 8).filter (fun l => decide (leastEye (s.goodCes r) data l < (s.route r).minEye)) = [] :=
    List.filter_eq_nil_iff.2 fun l hl => by simpa using h l (by have := List.mem_range.1 hl; omega)
  have hdqx : ¬ leastEye (s.goodCes r) data 8 < (s.route r).minEye := Nat.not_lt.2 (h 8 (by decide))
  show ((List.range 8).filter (fun l => decide (leastEye (s.goodCes r) data l < (s.route r).minEye))).foldl _
    (if leastEye (s.goodCes r) data 8 < (s.route r).minEye then _ else _) = _
  rw [hbad, if_neg hdqx]
  rfl

/-! ### The registers of a lane -/

theorem RT_LANE_ne_RT_DESKEW (r l i : Nat) : R.RT_LANE r l ≠ R.RT_DESKEW r i := by unfold R.RT_LANE R.RT_DESKEW; omega

/-- The deskew registers of chip enables and lanes are apart. -/
theorem RT_DESKEW_ne (r : Nat) {c d l m : Nat} (hc : c < 4) (hd : d < 4) (hl : l < 9) (hm : m < 9) (h : c ≠ d ∨ l ≠ m) :
    R.RT_DESKEW r (9 * c + l) ≠ R.RT_DESKEW r (9 * d + m) := by unfold R.RT_DESKEW; omega

theorem lt_four_of_mem_goodCes {c : Nat} (hc : c ∈ s.goodCes r) : c < 4 := by
  unfold State.goodCes at hc
  obtain ⟨k, -, rfl⟩ := List.mem_map.1 (List.mem_eraseDups.1 hc)
  omega

/-- Read training of a lane leaves what is neither its lane's register nor a deskew register. -/
theorem readLane_getR_ne {off l : Nat} (ces : List Nat) (data : List Bytes) (hlane : off ≠ R.RT_LANE r l) (hdeskew : ∀ i, off ≠ R.RT_DESKEW r i) :
    (readLane r ces data s l).getR off = s.getR off := by
  unfold readLane
  dsimp only
  rw [foldl_keeps (fun u : State => u.getR off) fun u c _ => getR_setF_ne u _ (hdeskew (9 * c + l)), getR_setF_ne _ _ hlane,
    getR_setF_ne _ _ hlane, getR_setF_ne _ _ hlane, getR_setF_ne _ _ hlane]

/-- A lane that read training has found starts anew. -/
theorem readLane_lane (l : Nat) (ces : List Nat) (data : List Bytes) :
    (readLane r ces data s l).getF (F.RT_LANE_STATE r l) = (if l = 8 then 3 else 0) ∧
      (readLane r ces data s l).getF (F.RT_LANE_OFFSET r l) = 0 ∧ (readLane r ces data s l).getF (F.RT_LANE_FAILS r l) = 0 := by
  have hdeskew : ∀ (u : State) {f : Field}, f.off = R.RT_LANE r l →
      (ces.foldl (fun s c => s.setF (F.RT_DESKEW_READ r (9 * c + l)) (field (data.getD c []) (9 + l) 1)) u).getF f = u.getF f :=
    fun u f hf => foldl_keeps (fun u : State => u.getF f) fun u c _ => getF_setF_ne u _ (Or.inl (hf ▸ RT_LANE_ne_RT_DESKEW r l (9 * c + l)))
      (Nat.le_of_ble_eq_true rfl)
  unfold readLane
  dsimp only
  refine ⟨?_, ?_, ?_⟩
  · rw [hdeskew _ rfl, getF_setF_ne _ _ (Or.inr (Or.inr (Nat.le_of_ble_eq_true rfl))) (Nat.le_of_ble_eq_true rfl),
      getF_setF_ne _ _ (Or.inr (Or.inl (Nat.le_of_ble_eq_true rfl))) (Nat.le_of_ble_eq_true rfl),
      getF_setF_ne _ _ (Or.inr (Or.inr (Nat.le_of_ble_eq_true rfl))) (Nat.le_of_ble_eq_true rfl), getF_setF_same _ _ _ (Nat.le_of_ble_eq_true rfl)]
    split <;> rfl
  · rw [hdeskew _ rfl, getF_setF_ne _ _ (Or.inr (Or.inl (Nat.le_of_ble_eq_true rfl))) (Nat.le_of_ble_eq_true rfl),
      getF_setF_ne _ _ (Or.inr (Or.inl (Nat.le_of_ble_eq_true rfl))) (Nat.le_of_ble_eq_true rfl), getF_setF_same _ _ _ (Nat.le_of_ble_eq_true rfl)]
    rfl
  · rw [hdeskew _ rfl, getF_setF_ne _ _ (Or.inr (Or.inr (Nat.le_of_ble_eq_true rfl))) (Nat.le_of_ble_eq_true rfl),
      getF_setF_same _ _ _ (Nat.le_of_ble_eq_true rfl)]
    rfl

/-- The read code of a lane for a chip enable. -/
theorem readLane_deskew {c l : Nat} {ces : List Nat} (data : List Bytes) (hces : ∀ c ∈ ces, c < 4) (hc : c ∈ ces) (hl : l < 9) :
    (readLane r ces data s l).getF (F.RT_DESKEW_READ r (9 * c + l)) = field (data.getD c []) (9 + l) 1 % 128 := by
  unfold readLane
  dsimp only
  refine foldl_sets (fun u : State => u.getF (F.RT_DESKEW_READ r (9 * c + l))) (fun _ => True) hc trivial (fun _ _ _ => trivial)
    (fun u _ => getF_setF_same _ _ _ (Nat.le_of_ble_eq_true rfl)) fun u d hd hne => ?_
  exact getF_setF_ne u _ (Or.inl (RT_DESKEW_ne r (hces c hc) (hces d hd) hl hl (Or.inl hne.symm))) (Nat.le_of_ble_eq_true rfl)

/-- Read training of another lane leaves the codes of this one. -/
theorem readLane_deskew_ne {c l m : Nat} {ces : List Nat} (data : List Bytes) (hces : ∀ c ∈ ces, c < 4) (hc : c ∈ ces) (hl : l < 9) (hm : m < 9)
    (hne : m ≠ l) : (readLane r ces data s m).getF (F.RT_DESKEW_READ r (9 * c + l)) = s.getF (F.RT_DESKEW_READ r (9 * c + l)) := by
  have hlane : ∀ (u : State) {f : Field} (v : Nat), f.off = R.RT_LANE r m → f.lo + f.width ≤ 32 →
      (u.setF f v).getF (F.RT_DESKEW_READ r (9 * c + l)) = u.getF (F.RT_DESKEW_READ r (9 * c + l)) := fun u f v hf hw =>
    getF_setF_ne u v (Or.inl (hf ▸ (RT_LANE_ne_RT_DESKEW r m (9 * c + l)).symm)) hw
  have hcode : ∀ (u : State) (d : Nat), d ∈ ces → (u.setF (F.RT_DESKEW_READ r (9 * d + m)) (field (data.getD d []) (9 + m) 1)).getF
      (F.RT_DESKEW_READ r (9 * c + l)) = u.getF (F.RT_DESKEW_READ r (9 * c + l)) := fun u d hd =>
    getF_setF_ne u _ (Or.inl (RT_DESKEW_ne r (hces c hc) (hces d hd) hl hm (Or.inr hne.symm))) (Nat.le_of_ble_eq_true rfl)
  unfold readLane
  dsimp only
  rw [foldl_keeps (fun u : State => u.getF (F.RT_DESKEW_READ r (9 * c + l))) hcode, hlane _ _ rfl (Nat.le_of_ble_eq_true rfl),
    hlane _ _ rfl (Nat.le_of_ble_eq_true rfl), hlane _ _ rfl (Nat.le_of_ble_eq_true rfl),
    hlane _ _ rfl (Nat.le_of_ble_eq_true rfl)]

/-! ### Read training (step 7) -/

theorem phySetF_frame {f : Field} (v : Nat) (h : regGroup f.off = 15) : Frame (may [.regs 15]) s (s.setF f v) :=
  State.setF_frame s f v (by rw [h]; rfl) (by rw [h]; rfl)

theorem readLane_frame (ces : List Nat) (data : List Bytes) (l : Nat) : Frame (may [.regs 15]) s (readLane r ces data s l) :=
  .foldl ((phySetF_frame _ (by simp)).step ((phySetF_frame _ (by simp)).step ((phySetF_frame _ (by simp)).step (phySetF_frame _ (by simp)))))
    fun u c => phySetF_frame _ (by simp)

theorem readTraining_good_frame (ces : List Nat) (data : List Bytes) :
    Frame (may [.outputs, .regs 15]) s ((List.range 9).foldl (readLane r ces data) (s.lanesOpened r)) :=
  .foldl (((phySetF_frame _ (by simp)).mono rfl).step (((phySetF_frame _ (by simp)).mono rfl).step (State.reliefSelect_frame s r 0xAF)))
    fun u l => (readLane_frame ces data l).mono rfl

theorem readTraining_good_lane {l : Nat} (hl : l < 9) (ces : List Nat) (data : List Bytes) :
    ((List.range 9).foldl (readLane r ces data) s).getF (F.RT_LANE_STATE r l) = (if l = 8 then 3 else 0) ∧
      ((List.range 9).foldl (readLane r ces data) s).getF (F.RT_LANE_OFFSET r l) = 0 ∧
      ((List.range 9).foldl (readLane r ces data) s).getF (F.RT_LANE_FAILS r l) = 0 := by
  have hother : ∀ {f : Field} (u : State), f.off = R.RT_LANE r l → ∀ m ∈ List.range 9, m ≠ l → (readLane r ces data u m).getF f = u.getF f :=
    fun {f} u hf m hm hne => congrArg (fun w : W32 => bits w.toNat f.lo f.width) (readLane_getR_ne ces data
      (hf ▸ RT_LANE_ne hl (List.mem_range.1 hm) hne.symm) fun i => hf ▸ RT_LANE_ne_RT_DESKEW r l i)
  refine ⟨?_, ?_, ?_⟩
  · exact foldl_sets (fun u : State => u.getF (F.RT_LANE_STATE r l)) (fun _ => True) (List.mem_range.2 hl) trivial (fun _ _ _ => trivial)
      (fun u _ => (readLane_lane l ces data).1) fun u => hother u rfl
  · exact foldl_sets (fun u : State => u.getF (F.RT_LANE_OFFSET r l)) (fun _ => True) (List.mem_range.2 hl) trivial (fun _ _ _ => trivial)
      (fun u _ => (readLane_lane l ces data).2.1) fun u => hother u rfl
  · exact foldl_sets (fun u : State => u.getF (F.RT_LANE_FAILS r l)) (fun _ => True) (List.mem_range.2 hl) trivial (fun _ _ _ => trivial)
      (fun u _ => (readLane_lane l ces data).2.2) fun u => hother u rfl

theorem Training.lanesRead_good {n : Nat} (h : s.Training r n) (hn : n ∈ [7, 17, 27]) (h255 : (s.route r).minEye ≤ 255) (hup : s.routeSt r ≠ 0)
    {data : List Bytes} (heyes : ∀ c ∈ s.goodCes r, ∀ l, l < 9 → (s.route r).minEye ≤ field (data.getD c []) l 1) :
    ∃ t, exec (.trainingStepDone r true data) s = .next t ∧ (t.route r).train = n + 1 ∧
      (∀ l, l < 9 → t.getF (F.RT_LANE_STATE r l) = (if l = 8 then 3 else 0) ∧ t.getF (F.RT_LANE_OFFSET r l) = 0 ∧
        t.getF (F.RT_LANE_FAILS r l) = 0 ∧
        ∀ c ∈ s.goodCes r, t.getF (F.RT_DESKEW_READ r (9 * c + l)) = field (data.getD c []) (9 + l) 1 % 128) ∧
      Frame (may [.flash, .outputs, .regs 15]) s t := by
  have hgood := readTraining_good (s := s) (r := r) (data := data) fun l hl => le_leastEye h255 fun c hc => heyes c hc l hl
  have hframe := readTraining_good_frame (s := s) (r := r) (s.goodCes r) data
  have hkept : ∀ {f : Field} (u : State), f.off ≠ R.RT_PHY_STATUS r → (u.trainTo r (n + 1)).getF f = u.getF f := fun u hf =>
    getF_trainTo r (n + 1) (Or.inl hf)
  have hlanes := fun l hl => readTraining_good_lane (s := s.lanesOpened r) (r := r) (l := l) hl (s.goodCes r) data
  have hcodes : ∀ l, l < 9 → ∀ c ∈ s.goodCes r, ((List.range 9).foldl (readLane r (s.goodCes r) data) (s.lanesOpened r)).getF
      (F.RT_DESKEW_READ r (9 * c + l)) = field (data.getD c []) (9 + l) 1 % 128 := fun l hl c hc =>
    foldl_sets (fun u : State => u.getF (F.RT_DESKEW_READ r (9 * c + l))) (fun _ => True) (List.mem_range.2 hl) trivial (fun _ _ _ => trivial)
      (fun u _ => readLane_deskew data (fun c hc => lt_four_of_mem_goodCes hc) hc hl) fun u m hm hne =>
      readLane_deskew_ne data (fun c hc => lt_four_of_mem_goodCes hc) hc hl (List.mem_range.1 hm) hne
  refine ⟨_, h.lanesRead hn data, ?_⟩
  rw [hgood]
  generalize (List.range 9).foldl (readLane r (s.goodCes r) data) (s.lanesOpened r) = u at hframe hlanes hcodes ⊢
  rw [if_neg (by rw [hframe.routeSt (by decide)]; exact hup)]
  refine ⟨trainTo_train r _, fun l hl => ?_, (State.trainTo_frame ..).after (hframe.mono rfl) rfl⟩
  have hne : R.RT_LANE r l ≠ R.RT_PHY_STATUS r := by unfold R.RT_LANE R.RT_PHY_STATUS; omega
  obtain ⟨hstate, hoffset, hfails⟩ := hlanes l hl
  exact ⟨(hkept u hne).trans hstate, (hkept u hne).trans hoffset, (hkept u hne).trans hfails, fun c hc =>
    (hkept u (by show R.RT_DESKEW r _ ≠ _; unfold R.RT_DESKEW R.RT_PHY_STATUS; omega)).trans (hcodes l hl c hc)⟩

/-! ### Write training (step 8) -/

/-- Write training on one chip enable. -/
def writeCe (r : Nat) (data : List Bytes) (s : State) (c : Nat) : State :=
  (s.lanesInUse r).foldl (fun s l => s.setF (F.RT_DESKEW_WRITE r (9 * c + l)) (field (data.getD c []) l 1)) s

theorem writeTraining_eq (data : List Bytes) : s.writeTraining r data = (s.goodCes r).foldl (writeCe r data) s := rfl

/-- Write training retires no lane. -/
theorem writeCe_lanesInUse (data : List Bytes) (c : Nat) : (writeCe r data s c).lanesInUse r = s.lanesInUse r := by
  have hlane : ∀ l, (writeCe r data s c).getF (F.RT_LANE_STATE r l) = s.getF (F.RT_LANE_STATE r l) := fun l =>
    foldl_keeps (fun u : State => u.getF (F.RT_LANE_STATE r l)) fun u m _ =>
      getF_setF_ne u _ (Or.inl (RT_LANE_ne_RT_DESKEW r l (9 * c + m))) (Nat.le_of_ble_eq_true rfl)
  unfold State.lanesInUse
  simp only [hlane]

theorem lt_nine_of_mem_lanesInUse {l : Nat} (hl : l ∈ s.lanesInUse r) : l < 9 := List.mem_range.1 (List.mem_of_mem_filter hl)

theorem writeTraining_deskew {c l : Nat} (data : List Bytes) (hc : c ∈ s.goodCes r) (hl : l ∈ s.lanesInUse r) :
    (s.writeTraining r data).getF (F.RT_DESKEW_WRITE r (9 * c + l)) = field (data.getD c []) l 1 % 128 := by
  rw [writeTraining_eq]
  refine foldl_sets (fun u : State => u.getF (F.RT_DESKEW_WRITE r (9 * c + l))) (fun u => u.lanesInUse r = s.lanesInUse r) hc rfl
    (fun u d hu => (writeCe_lanesInUse data d).trans hu) (fun u hu => ?_) fun u d hd hne => ?_
  · refine foldl_sets (fun u : State => u.getF (F.RT_DESKEW_WRITE r (9 * c + l))) (fun _ => True) (hu ▸ hl) trivial (fun _ _ _ => trivial)
      (fun u _ => getF_setF_same _ _ _ (Nat.le_of_ble_eq_true rfl)) fun v m hm hne => ?_
    exact getF_setF_ne v _ (Or.inl (RT_DESKEW_ne r (lt_four_of_mem_goodCes hc) (lt_four_of_mem_goodCes hc) (lt_nine_of_mem_lanesInUse hl)
      (lt_nine_of_mem_lanesInUse hm) (Or.inr hne.symm))) (Nat.le_of_ble_eq_true rfl)
  · exact foldl_keeps (fun u : State => u.getF (F.RT_DESKEW_WRITE r (9 * c + l))) fun v m hm =>
      getF_setF_ne v _ (Or.inl (RT_DESKEW_ne r (lt_four_of_mem_goodCes hc) (lt_four_of_mem_goodCes hd) (lt_nine_of_mem_lanesInUse hl)
        (lt_nine_of_mem_lanesInUse hm) (Or.inl hne.symm))) (Nat.le_of_ble_eq_true rfl)

theorem Training.lanesWritten_codes {n : Nat} (h : s.Training r n) (hn : n ∈ [8, 18, 28]) (data : List Bytes) :
    ∃ t, exec (.trainingStepDone r true data) s = .next t ∧
      (t.route r).train = (if n = 8 ∧ 3600 < (s.routeCfg r).rate then 9 else 10) ∧
      (∀ c ∈ s.goodCes r, ∀ l ∈ s.lanesInUse r, t.getF (F.RT_DESKEW_WRITE r (9 * c + l)) = field (data.getD c []) l 1 % 128) ∧
      Frame (may [.flash, .outputs, .regs 15]) s t := by
  have hframe := State.writeTraining_frame s r data
  refine ⟨_, h.lanesWritten hn data, ?_, fun c hc l hl => ?_, (State.trainTo_frame ..).after (hframe.mono rfl) rfl⟩
  · rw [trainTo_train, routeCfg_of_frame hframe (by decide)]
  · rw [getF_trainTo r _ (Or.inl (by show R.RT_DESKEW r _ ≠ _; unfold R.RT_DESKEW R.RT_PHY_STATUS; omega)), writeTraining_deskew data hc hl]

end State
end Sys2Proof.Machine
end

section
/-! PROOFS. Verification, and the end of a route's training (steps 10 and 11 of Table 5-3, R117, R118, R119, R124, R301). -/

namespace Sys2Proof.Machine

theorem Die.Returned.retiring_eq {d e : Die} (h : d.Returned e) : e.retiring = d.retiring := by
  rcases h with rfl | ⟨-, rfl⟩ <;> rfl

namespace State

variable {s : State} {r : Nat}

/-! ### Recalibration keeps the step and the training error count -/

/-- The training error register and the step of route `r` are as they were. -/
def TrainKept (r : Nat) (s t : State) : Prop := t.getR (R.RT_TRAIN_ERR r) = s.getR (R.RT_TRAIN_ERR r) ∧ (t.route r).train = (s.route r).train

theorem TrainKept.after {t u : State} (k : TrainKept r t u) (h : TrainKept r s t) : TrainKept r s u := ⟨k.1.trans h.1, k.2.trans h.2⟩

theorem trainKept_setF (f : Field) (v : Nat) (h : f.off ≠ R.RT_TRAIN_ERR r) : TrainKept r s (s.setF f v) := ⟨getR_setF_ne _ _ h.symm, rfl⟩

theorem trainKept_setRoute (x : Route) (h : x.train = (s.route r).train) : TrainKept r s (s.setRoute r x) :=
  ⟨rfl, by rw [route_setRoute_same, h]⟩

theorem trainKept_recal (r v : Nat) : TrainKept r s (s.setF (F.RT_RECAL_LANE r) v) :=
  trainKept_setF _ _ (by show R.RT_RECAL r ≠ _; unfold R.RT_RECAL R.RT_TRAIN_ERR; omega)

theorem trainKept_reliefGo (r : Nat) : TrainKept r s (s.reliefGo r) := by
  have hlane : ∀ l, TrainKept r s (s.setF (F.RT_LANE_STATE r l) 1) := fun l =>
    trainKept_setF _ _ (by show R.RT_LANE r l ≠ _; unfold R.RT_LANE R.RT_TRAIN_ERR; omega)
  unfold State.reliefGo
  split
  next c _ =>
    split
    · dsimp only
      have hrelief : ∀ u : State, TrainKept r u (u.reliefSelect r (0xA0 + c.lane)) := fun u =>
        trainKept_setF (s := u.emit _) _ _ (by show R.RT_PHY_STATUS r ≠ _; unfold R.RT_PHY_STATUS R.RT_TRAIN_ERR; omega)
      split
      · exact .after (trainKept_setRoute _ (hrelief _).2.symm) (.after (hrelief _) (hlane c.lane))
      · exact .after (trainKept_setRoute _ rfl) (hlane c.lane)
    · exact ⟨rfl, rfl⟩
  · exact ⟨rfl, rfl⟩

theorem trainKept_recalLane (r k : Nat) : TrainKept r s (s.recalLane r k) := by
  unfold State.recalLane
  split
  · unfold State.recalEnd
    refine .after (trainKept_setF _ _ ?_) (.after (trainKept_recal r 0xF) (trainKept_setRoute _ rfl))
    show R.RT_RECAL r ≠ _
    unfold R.RT_RECAL R.RT_TRAIN_ERR
    omega
  next l _ => exact .after (trainKept_reliefGo r) (.after (trainKept_setRoute _ rfl) (trainKept_recal r l))

/-- A pass that starts keeps the step of the route's training and its training errors. -/
theorem trainKept_recalStart (r : Nat) : TrainKept r s (s.recalStart r) := by
  unfold State.recalStart
  split
  · exact ⟨rfl, rfl⟩
  · have hnow : TrainKept r s (s.setF (F.RT_PHY_CTRL_RECAL_NOW r) 0) :=
      trainKept_setF _ _ (by show R.RT_PHY_CTRL r ≠ _; unfold R.RT_PHY_CTRL R.RT_TRAIN_ERR; omega)
    dsimp only
    split
    · exact hnow
    · exact .after (trainKept_recalLane r 0) (.after (trainKept_setRoute _ rfl) hnow)

/-! ### Dies that come into service (R95, R301) -/

theorem mem_routeDies {k : Nat} (h : k ∈ s.routeDies r) : ∃ i, i < 16 ∧ k = dieKey r i := by
  obtain ⟨i, hi, rfl⟩ := List.mem_map.1 (List.mem_of_mem_filter h)
  exact ⟨i, List.mem_range.1 hi, rfl⟩

theorem mem_serviceDies {k : Nat} (h : k ∈ s.serviceDies r) : k ∈ s.routeDies r ∧ (s.die k).retiring = false := by
  obtain ⟨hgood, hservice⟩ := List.mem_filter.1 h
  refine ⟨List.mem_of_mem_filter hgood, ?_⟩
  simp only [State.retired, Bool.not_or, Bool.and_eq_true, Bool.not_eq_true'] at hservice
  exact hservice.2

theorem dieWord_ne {j k : Nat} (h : j ≠ k) : R.RT_DIE (j / 16) (j % 16) ≠ R.RT_DIE (k / 16) (k % 16) := by unfold R.RT_DIE; omega

theorem dieSt_setDieSt_ne {j k : Nat} (v : Nat) (h : k ≠ j) : (s.setDieSt j v).dieSt k = s.dieSt k :=
  congrArg (fun w : W32 => bits w.toNat 0 4) (getR_setDieSt_ne j v (dieWord_ne h))

theorem dieSt_setDieSt_same {k v : Nat} (h : (s.die k).retiring = false ∨ v ≠ 1) (hv : v < 16) : (s.setDieSt k v).dieSt k = v := by
  have hset : ∀ u : State, (u.setF (F.RT_DIE_STATE (k / 16) (k % 16)) v).dieSt k = v := fun u =>
    (getF_setF_same _ _ v (Nat.le_of_ble_eq_true rfl)).trans (Nat.mod_eq_of_lt hv)
  unfold State.setDieSt
  rw [if_neg (by rintro ⟨rfl, hr⟩; rcases h with h | h <;> simp_all)]
  exact hset _

theorem tempTurn_retiring (j k : Nat) : ((s.tempTurn j).die k).retiring = (s.die k).retiring := by
  unfold State.tempTurn
  split
  · by_cases hk : k = j
    · subst hk
      exact (congrArg Die.retiring (die_setDie_same (s := s.fresh.2) ..)).trans rfl
    · exact congrArg Die.retiring (die_setDie_ne s.fresh.2 _ hk)
  · rfl

/-- No die starts to retire by a change of a die's state. -/
theorem setDieSt_retiring {j k : Nat} (v : Nat) (h : (s.die k).retiring = false) : ((s.setDieSt j v).die k).retiring = false := by
  unfold State.setDieSt
  split
  · rw [die_setF]
    by_cases hk : k = j
    · subst hk
      rw [die_setDie_same]
    · rw [die_setDie_ne _ _ hk, h]
  · rw [die_setF]
    split
    · rw [tempTurn_retiring, h]
    · exact h

theorem die_of_frame {m : Nat} {t : State} (h : Frame m s t) (h8 : m.testBit 8 = false) (k : Nat) : t.die k = s.die k := by
  unfold State.die
  rw [h.dies h8]

theorem takeTemp_retiring (j k : Nat) (x : Int) : ((s.takeTemp j x).die k).retiring = (s.die k).retiring := by
  have hraise : ∀ (u : State) (c : Prop) [Decidable c] (f : Field), f.off = R.PWR_WG_EVENT → (if c then u.raise f else u).die k = u.die k :=
    fun u c _ f hf => by
      split
      · exact die_of_frame (State.raise_frame (m := 0x40150012) u f (by rw [hf]; rfl) (by rw [hf]; rfl) rfl) (by decide) k
      · rfl
  unfold State.takeTemp
  dsimp only
  rw [(guardUpdate_die k).retiring_eq, hraise _ _ _ rfl, hraise _ _ _ rfl]
  by_cases hk : k = j
  · subst hk
    rw [die_setDie_same]
  · rw [die_setDie_ne _ _ hk]

theorem firstTemp_retiring (j k : Nat) : ((s.firstTemp j).die k).retiring = (s.die k).retiring := by
  unfold State.firstTemp
  split
  · exact takeTemp_retiring ..
  · by_cases hk : k = j
    · subst hk
      rw [die_setDie_same]
    · rw [die_setDie_ne _ _ hk]

theorem setDieSt_route (k v q : Nat) : (s.setDieSt k v).route q = s.route q := by
  have hturn : (s.tempTurn k).route q = s.route q := by
    unfold State.tempTurn
    split <;> rfl
  unfold State.setDieSt
  split
  · rfl
  · rw [route_setF]
    split
    · exact hturn
    · rfl

theorem takeTemp_route (j : Nat) (x : Int) (q : Nat) : (s.takeTemp j x).route q = s.route q := by
  have hraise : ∀ (u : State) (c : Prop) [Decidable c] (f : Field), f.off = R.PWR_WG_EVENT → (if c then u.raise f else u).route q = u.route q :=
    fun u c _ f hf => by
      split
      · exact route_of_frame (State.raise_frame (m := 0x40150012) u f (by rw [hf]; rfl) (by rw [hf]; rfl) rfl) (by decide) q
      · rfl
  unfold State.takeTemp
  dsimp only
  rw [guardUpdate_route, hraise _ _ _ rfl, hraise _ _ _ rfl]
  rfl

theorem firstTemp_route (j q : Nat) : (s.firstTemp j).route q = s.route q := by
  unfold State.firstTemp
  split
  · exact takeTemp_route ..
  · rfl

/-- A die in service of a route that comes UP; it is stale where `stale` says so. -/
def serveDie (stale : Bool) (s : State) (k : Nat) : State :=
  let s := (s.setDieSt k 1).firstTemp k
  if stale then s.setBit (R.FI_STALE 0) k true else s

theorem regGroup_stale (k : Nat) : regGroup (R.FI_STALE 0 + 4 * (k / 32 % 32)) = 8 := by
  unfold R.FI_STALE regGroup
  rw [if_pos (by omega)]
  omega

theorem stale_of_frame {m : Nat} {t : State} (h : Frame m s t) (h26 : m.testBit 26 = false) (k : Nat) : t.stale k = s.stale k := by
  unfold State.stale State.getBit
  rw [h.reg _ (by rw [regGroup_stale]; exact h26)]

theorem setStale_frame (k : Nat) (b : Bool) : Frame (may [.regs 8]) s (s.setBit (R.FI_STALE 0) k b) :=
  State.setF_frame s _ _ (by rw [regGroup_stale]; rfl) (by rw [regGroup_stale]; rfl)

theorem serveDie_frame (stale : Bool) (k : Nat) : Frame 0x944150112 s (serveDie stale s k) := by
  have hserved : Frame 0x944150112 s ((s.setDieSt k 1).firstTemp k) := (State.firstTemp_frame ..).after ((State.setDieSt_frame s k 1).mono rfl) rfl
  exact .ite ((setStale_frame k true).after hserved rfl) hserved

theorem serveDie_retiring {k : Nat} (stale : Bool) (j : Nat) (h : (s.die k).retiring = false) : ((serveDie stale s j).die k).retiring = false := by
  have hserved : (((s.setDieSt j 1).firstTemp j).die k).retiring = false := (firstTemp_retiring j k).trans (setDieSt_retiring 1 h)
  unfold serveDie
  dsimp only
  split
  · exact (congrArg Die.retiring (die_setF ..)).trans hserved
  · exact hserved

theorem serveDie_route (stale : Bool) (j q : Nat) : (serveDie stale s j).route q = s.route q := by
  have hserved : ((s.setDieSt j 1).firstTemp j).route q = s.route q := (firstTemp_route j q).trans (setDieSt_route j 1 q)
  unfold serveDie
  dsimp only
  split
  · exact (route_setF ..).trans hserved
  · exact hserved

/-- Its temperature and its staleness are no part of a die's state. -/
theorem serveDie_dieSt (stale : Bool) (j k : Nat) : (serveDie stale s j).dieSt k = (s.setDieSt j 1).dieSt k := by
  have htemp : ((s.setDieSt j 1).firstTemp j).dieSt k = (s.setDieSt j 1).dieSt k := dieSt_of_frame (State.firstTemp_frame ..) (by decide) k
  unfold serveDie
  dsimp only
  split
  · exact (dieSt_of_frame (setStale_frame j true) (by decide) k).trans htemp
  · exact htemp

theorem serveDie_stale_ne {j k : Nat} (b : Bool) (hj : j < 1024) (hk : k < 1024) (h : k ≠ j) : (serveDie b s j).stale k = s.stale k := by
  have hserved : Frame 0x940150112 s ((s.setDieSt j 1).firstTemp j) := (State.firstTemp_frame ..).after ((State.setDieSt_frame s j 1).mono rfl) rfl
  have hsame : ((s.setDieSt j 1).firstTemp j).stale k = s.stale k := stale_of_frame hserved (by decide) k
  unfold serveDie
  dsimp only
  split
  · exact (getBit_setBit_ne _ true (by omega)).trans hsame
  · exact hsame

/-- Every die in service is IDLE, and stale where `stale` says so. -/
theorem foldl_serveDie {l : List Nat} {k : Nat} (stale : Bool) (hl : ∀ j ∈ l, j < 1024) (hk : k ∈ l) (h : (s.die k).retiring = false) :
    (l.foldl (serveDie stale) s).dieSt k = 1 ∧ (stale = true → (l.foldl (serveDie stale) s).stale k = true) := by
  refine ⟨?_, ?_⟩
  · refine foldl_sets (fun u : State => u.dieSt k) (fun u => (u.die k).retiring = false) hk h (fun u j hu => serveDie_retiring stale j hu)
      (fun u hu => ?_) fun u j _ hne => ?_
    · rw [serveDie_dieSt, dieSt_setDieSt_same (Or.inl hu) (by decide)]
    · rw [serveDie_dieSt, dieSt_setDieSt_ne 1 hne.symm]
  · rintro rfl
    exact foldl_sets (fun u : State => u.stale k) (fun _ => True) hk trivial (fun _ _ _ => trivial) (fun u _ => getBit_setBit_same ..)
      fun u j hj hne => serveDie_stale_ne true (hl j hj) (hl k hk) hne.symm

/-! ### The route is UP (R118, R124) -/

/-- A retrain ends (R124). -/
theorem trainUp_retrained (hx : (s.route r).retrain = true) (hrecal : (s.route r).recal = none) :
    (s.trainUp r).routeSt r = (if (s.route r).drainImage = true then 3 else 2) ∧ ((s.trainUp r).route r).train = 0 ∧
      ((s.trainUp r).route r).retrain = false ∧ (s.trainUp r).getR (R.RT_TRAIN_ERR r) = 0 := by
  let u := (((s.setR (R.RT_TRAIN_ERR r) 0).setF (F.RT_STATUS_RBN_FALLBACK r) 0).setRoute r
    { s.route r with train := 0, retrain := false, overRuns := 0 }).setF (F.RT_STATUS_STATE r) (if (s.route r).drainImage then 3 else 2)
  have hu : u.route r = { s.route r with train := 0, retrain := false, overRuns := 0 } := route_setRoute_same ..
  have hup : s.trainUp r = u.guardUpdate := by
    have hresume : u.guardUpdate.recalResume r = u.guardUpdate := by
      unfold State.recalResume
      rw [guardUpdate_route, hu, hrecal]
    rw [← hresume]
    exact if_pos hx
  have herr : R.RT_TRAIN_ERR r ≠ R.RT_STATUS r := by unfold R.RT_TRAIN_ERR R.RT_STATUS; omega
  rw [hup]
  refine ⟨?_, ?_, ?_, ?_⟩
  · rw [guardUpdate_routeSt, routeSt_setF_same]
    split <;> rfl
  · rw [guardUpdate_route, hu]
  · rw [guardUpdate_route, hu]
  · rw [(State.guardUpdate_frame u).reg _ (by rw [regGroup_RT_TRAIN_ERR]; rfl), getR_setF_ne _ _ herr, getR_setRoute, getR_setF_ne _ _ herr,
      getR_setR_same]

/-- The route is UP, before its dies are. -/
def trainStarted (s : State) (r : Nat) : State :=
  let x := s.route r
  let s := (s.setR (R.RT_TRAIN_ERR r) 0).setF (F.RT_STATUS_RBN_FALLBACK r) 0
  (s.setRoute r { x with train := 12, overRuns := 0, passTemp := s.junction }).setF (F.RT_STATUS_STATE r) 2

/-- A pass that was asked for starts. -/
def recalAsked (s : State) (r : Nat) : State := if s.getF (F.RT_PHY_CTRL_RECAL_NOW r) = 1 then s.recalStart r else s

theorem trainStarted_frame (r : Nat) : Frame (may [.flash, .routeStates, .regs 14, .regs 15]) s (s.trainStarted r) := by
  have herr : Frame (may [.flash, .routeStates, .regs 14, .regs 15]) s (s.setR (R.RT_TRAIN_ERR r) 0) :=
    State.setR_frame s _ 0 (by rw [regGroup_RT_TRAIN_ERR]; rfl) (by rw [regGroup_RT_TRAIN_ERR]; rfl)
  have hstatus : ∀ (u : State) (f : Field) (v : Nat), regGroup f.off = 14 →
      Frame (may [.flash, .routeStates, .regs 14, .regs 15]) u (u.setF f v) := fun u f v h =>
    State.setF_frame u f v (by rw [h]; rfl) (by rw [h]; rfl)
  exact (hstatus _ _ _ (by simp)).step ((State.setRoute_frame ..).after ((hstatus _ _ _ (by simp)).step herr) rfl)

theorem serviceDies_congr {t : State} (himg : t.img = s.img) (hst : ∀ k, t.dieSt k = s.dieSt k) (hdie : ∀ k, t.die k = s.die k) (r : Nat) :
    t.serviceDies r = s.serviceDies r := by
  have hon : t.dieOn = s.dieOn := funext fun k => by
    unfold State.dieOn State.routeOn State.routeCfg
    rw [himg]
  unfold State.serviceDies State.goodDies State.routeDies State.retired
  simp only [hon, hst, hdie]

theorem trainUp_eq (hx : (s.route r).retrain = false) : s.trainUp r =
    ((s.serviceDies r).foldl (serveDie (s.route r).reimage.isSome) (s.trainStarted r)).guardUpdate.recalAsked r := by
  have hstarted := trainStarted_frame (s := s) r
  have hdies : (s.trainStarted r).serviceDies r = s.serviceDies r :=
    serviceDies_congr (hstarted.img (by decide)) (dieSt_of_frame hstarted (by decide)) (fun k => rfl) r
  rw [← hdies]
  unfold State.trainUp
  dsimp only
  rw [if_neg (by simp [hx])]
  rfl

theorem recalAsked_frame (r : Nat) : Frame 0x200010100 s (s.recalAsked r) := .ite (State.recalStart_frame s r) (.refl s)

theorem trainKept_recalAsked : TrainKept r s (s.recalAsked r) := by
  unfold recalAsked
  split
  · exact trainKept_recalStart r
  · exact ⟨rfl, rfl⟩

theorem lt_of_mem_serviceDies {k : Nat} (hr : r < 32) (h : k ∈ s.serviceDies r) : k < 1024 := by
  obtain ⟨i, hi, rfl⟩ := mem_routeDies (mem_serviceDies h).1
  unfold dieKey
  omega

/-- A route that was trained anew comes UP: its dies are IDLE, and stale after a re-image. -/
theorem trainUp_trained (hr : r < 32) (hx : (s.route r).retrain = false) :
    (s.trainUp r).routeSt r = 2 ∧ ((s.trainUp r).route r).train = 12 ∧ (s.trainUp r).getR (R.RT_TRAIN_ERR r) = 0 ∧
      ∀ k ∈ s.serviceDies r, (s.trainUp r).dieSt k = 1 ∧ ((s.route r).reimage.isSome = true → (s.trainUp r).stale k = true) := by
  have hstarted := trainStarted_frame (s := s) r
  have herr : (s.trainStarted r).getR (R.RT_TRAIN_ERR r) = 0 := by
    have hne : R.RT_TRAIN_ERR r ≠ R.RT_STATUS r := by unfold R.RT_TRAIN_ERR R.RT_STATUS; omega
    exact (getR_setF_ne _ _ hne).trans ((getR_setF_ne _ _ hne).trans (getR_setR_same ..))
  have htrain : ((s.trainStarted r).route r).train = 12 := congrArg Route.train (route_setRoute_same ..)
  have hserved : Frame 0x944150112 (s.trainStarted r) ((s.serviceDies r).foldl (serveDie (s.route r).reimage.isSome) (s.trainStarted r)) :=
    .foldl (.refl _) fun u k => serveDie_frame _ k
  have hroute : ((s.serviceDies r).foldl (serveDie (s.route r).reimage.isSome) (s.trainStarted r)).route r = (s.trainStarted r).route r :=
    foldl_keeps (fun u : State => u.route r) fun u k _ => serveDie_route _ k r
  have hdies : ∀ k ∈ s.serviceDies r, ((s.serviceDies r).foldl (serveDie (s.route r).reimage.isSome) (s.trainStarted r)).dieSt k = 1 ∧
      ((s.route r).reimage.isSome = true →
        ((s.serviceDies r).foldl (serveDie (s.route r).reimage.isSome) (s.trainStarted r)).stale k = true) := fun k hk =>
    foldl_serveDie _ (fun j hj => lt_of_mem_serviceDies hr hj) hk (mem_serviceDies hk).2
  rw [trainUp_eq hx]
  generalize (s.serviceDies r).foldl (serveDie (s.route r).reimage.isSome) (s.trainStarted r) = u at hserved hroute hdies ⊢
  obtain ⟨hkept, hstep⟩ : TrainKept r u.guardUpdate (u.guardUpdate.recalAsked r) := trainKept_recalAsked
  have hguard := State.guardUpdate_frame u
  have hasked := recalAsked_frame (s := u.guardUpdate) r
  refine ⟨?_, ?_, ?_, fun k hk => ⟨?_, fun hreimage => ?_⟩⟩
  · rw [hasked.routeStates (by decide), guardUpdate_routeSt, hserved.routeStates (by decide)]
    exact routeSt_setF_same 2
  · rw [hstep, guardUpdate_route, hroute, htrain]
  · rw [hkept, hguard.reg _ (by rw [regGroup_RT_TRAIN_ERR]; rfl), hserved.reg _ (by rw [regGroup_RT_TRAIN_ERR]; rfl), herr]
  · rw [dieSt_of_frame hasked (by decide), dieSt_of_frame hguard (by decide)]
    exact (hdies k hk).1
  · rw [stale_of_frame hasked (by decide), stale_of_frame hguard (by decide)]
    exact (hdies k hk).2 hreimage

/-! ### Verification (step 10) -/

/-- The eyes of the lanes in use, as verification shows them. -/
def eyesShown (s : State) (r : Nat) (eyes : Bytes) : State :=
  (s.lanesInUse r).foldl (fun s l => s.setF (F.RT_LANE_EYE r l) (field eyes l 1)) s

theorem eyesShown_frame (eyes : Bytes) : Frame (may [.regs 15]) s (s.eyesShown r eyes) := .foldl (.refl s) fun u l => phySetF_frame _ (by simp)

theorem eyesShown_route (eyes : Bytes) (q : Nat) : (s.eyesShown r eyes).route q = s.route q := route_of_frame (eyesShown_frame eyes) (by decide) q

theorem eyesShown_rate (eyes : Bytes) : (s.eyesShown r eyes).getF (F.RT_PHY_STATUS_RATE r) = s.getF (F.RT_PHY_STATUS_RATE r) :=
  foldl_keeps (fun u : State => u.getF (F.RT_PHY_STATUS_RATE r)) fun u l _ =>
    getF_setF_ne u _ (Or.inl (by show R.RT_PHY_STATUS r ≠ R.RT_LANE r l; unfold R.RT_PHY_STATUS R.RT_LANE; omega)) (Nat.le_of_ble_eq_true rfl)

/-- The lanes in use whose eye is too narrow. -/
def narrowLanes (s : State) (r : Nat) (eyes : Bytes) : List Nat := (s.lanesInUse r).filter fun l => decide (field eyes l 1 < (s.route r).minEye)

/-- With every eye wide enough the route's training ends. -/
theorem verify_good {data : List Bytes} (hup : s.routeSt r ≠ 0) (h : s.narrowLanes r (data.headD []) = []) :
    s.verify r true data = (s.eyesShown r (data.headD [])).trainUp r := by
  have hkept : (s.eyesShown r (data.headD [])).routeSt r ≠ 0 := by
    rw [(eyesShown_frame _).routeSt (by decide)]
    exact hup
  unfold narrowLanes at h
  unfold State.verify
  dsimp only
  rw [h, if_neg (by simp), if_neg (by decide)]
  exact if_neg hkept

/-- At the full rate a failure refuses that rate. -/
theorem verify_refused {ok : Bool} {data : List Bytes} (hrate : 3600 < s.getF (F.RT_PHY_STATUS_RATE r))
    (h : ok = false ∨ s.narrowLanes r (data.headD []) ≠ []) :
    s.verify r ok data = ((s.eyesShown r (data.headD [])).xrateRefused r).trainTo r 26 :=
  if_pos ⟨(eyesShown_rate (s := s) (data.headD [])).symm ▸ hrate, h⟩

theorem Training.verified_good {data : List Bytes} (h : s.Training r 10) (hup : s.routeSt r ≠ 0)
    (heyes : ∀ l ∈ s.lanesInUse r, (s.route r).minEye ≤ field (data.headD []) l 1) :
    ((s.route r).retrain = false → ∃ t, exec (.trainingStepDone r true data) s = .next t ∧ t.routeSt r = 2 ∧ (t.route r).train = 12 ∧
      t.getR (R.RT_TRAIN_ERR r) = 0 ∧
      (∀ k ∈ s.serviceDies r, t.dieSt k = 1 ∧ ((s.route r).reimage.isSome = true → t.stale k = true))) ∧
    ((s.route r).retrain = true → (s.route r).recal = none → ∃ t, exec (.trainingStepDone r true data) s = .next t ∧
      t.routeSt r = (if (s.route r).drainImage = true then 3 else 2) ∧ (t.route r).train = 0 ∧ (t.route r).retrain = false ∧
      t.getR (R.RT_TRAIN_ERR r) = 0) := by
  have hwide : s.narrowLanes r (data.headD []) = [] := List.filter_eq_nil_iff.2 fun l hl => by simpa using heyes l hl
  have hframe := eyesShown_frame (s := s) (r := r) (data.headD [])
  have hroute := eyesShown_route (s := s) (r := r) (data.headD []) r
  have hdies : (s.eyesShown r (data.headD [])).serviceDies r = s.serviceDies r :=
    serviceDies_congr (hframe.img (by decide)) (dieSt_of_frame hframe (by decide)) (die_of_frame hframe (by decide)) r
  rw [h.verified, verify_good hup hwide, ← hroute, ← hdies]
  exact ⟨fun hx => ⟨_, rfl, trainUp_trained h.route hx⟩, fun hx hrecal => ⟨_, rfl, trainUp_retrained hx hrecal⟩⟩

theorem Training.verified_refused {ok : Bool} {data : List Bytes} (h : s.Training r 10) (hrate : 3600 < s.getF (F.RT_PHY_STATUS_RATE r))
    (hbad : ok = false ∨ ∃ l ∈ s.lanesInUse r, field (data.headD []) l 1 < (s.route r).minEye) :
    ∃ t, exec (.trainingStepDone r ok data) s = .next t ∧ (t.route r).train = 26 ∧ t.getF (F.RT_PHY_STATUS_DFE_ON r) = 0 ∧
      t.getF (F.RT_PHY_STATUS_RATE r) = min 3600 (s.routeCfg r).rate ∧ t.getF (F.RT_PHY_EVENT_XRATE_REFUSED r) = 1 := by
  have hnarrow : ok = false ∨ s.narrowLanes r (data.headD []) ≠ [] := hbad.imp_right fun ⟨l, hl, hlt⟩ =>
    List.ne_nil_of_mem (List.mem_filter.2 ⟨hl, decide_eq_true hlt⟩)
  obtain ⟨htrain, hrate', hdfe, hevent⟩ := xrateRefused_trainTo (s := s.eyesShown r (data.headD [])) r 26
  rw [h.verified, verify_refused hrate hnarrow]
  exact ⟨_, rfl, htrain, hdfe, hrate'.trans (by rw [routeCfg_of_frame (eyesShown_frame _) (by decide)]), hevent⟩

end State
end Sys2Proof.Machine
end

section
/-! PROOFS. The ledger scan of a route's dies, and the end of TRAIN for it (R108 to R110, R239). -/

namespace Sys2Proof.Machine
namespace State

variable {s : State} {r : Nat}

/-! ### The end of a route's part of TRAIN (step 13, R110) -/

/-- With no incomplete block of the route nothing is re-erased. -/
theorem recoverRoute_nothing (data : List Bytes) (h : ∀ x ∈ s.seq.incomplete, x / 65536 / 16 ≠ r) : s.recoverRoute r data = s := by
  have hnone : s.seq.incomplete.filter (fun b => b / 65536 / 16 = r && s.dieSt (b / 65536) = 1) = [] :=
    List.filter_eq_nil_iff.2 fun x hx => by simp [h x hx]
  unfold State.recoverRoute
  rw [hnone]
  split
  · rfl
  · dsimp only
    split <;> rfl

theorem Training.recovered_nothing (h : s.Training r 13) (hmode : s.modeNow = 3) (hall : s.allScanned = true) (hidle : s.diesIdle r = true)
    (data : List Bytes) (hnone : ∀ x ∈ s.seq.incomplete, x / 65536 / 16 ≠ r) :
    ∃ t, exec (.trainingStepDone r true data) s = .next t ∧ (t.route r).train = 0 ∧ r ∈ t.seq.scanned := by
  have hended : ∀ u : State, (u.trainEnded r).route r = u.route r := fun u => by
    unfold State.trainEnded
    split <;> rfl
  refine ⟨_, h.recovered hall hidle data, ?_, ?_⟩
  · rw [hended, trainTo_train]
  · rw [recoverRoute_nothing data hnone]
    exact trainEnded_scanned ((modeNow_of_frame (State.trainTo_frame s r 0) (by decide)).trans hmode)

/-! ### What a scan reads (R108) -/

theorem geo_of_frame {m : Nat} {t : State} (h : Frame m s t) (h3 : m.testBit 3 = false) (k : Nat) : t.geo k = s.geo k := by
  unfold State.geo State.dieClass State.routeCfg
  rw [h.img h3]

theorem scanErased_of_frame {m : Nat} {t : State} (h : Frame m s t) (h27 : m.testBit 27 = false) (data : List Bytes) (k b p : Nat) :
    t.scanErased data k b p = s.scanErased data k b p := by
  unfold State.scanErased
  rw [h.reg R.RC_ENV_CTRL h27]

/-- One page that a scan reads is counted. -/
theorem getR_scanReads_one (k b : Nat) :
    (s.scanReads k b [0]).getR (R.RT_CNT_READ (k / 16)) = s.getR (R.RT_CNT_READ (k / 16)) + 1 := by
  have hcmd : ∀ (u : State) (ps bytes addrs : List Nat) (off : Nat), (u.cmd k ps bytes addrs).getR off = u.getR off := fun u ps bytes addrs =>
    getR_of_frame (State.cmd_frame u k ps bytes addrs) (by decide)
  unfold State.scanReads State.bump
  rw [List.foldl_cons, List.foldl_nil]
  dsimp only
  rw [hcmd, getR_setR_same, hcmd]

/-- Both ledger blocks of a die read as erased, and its ledger is not lost. -/
structure LedgerEmpty (s : State) (data : List Bytes) (k : Nat) : Prop where
  kept : (s.die k).ledger.lost = false
  first : s.scanErased data k ((s.geo k).blocks - 1) 0 = true
  second : s.scanErased data k ((s.geo k).blocks - 2) 0 = true

/-- What a scan of two erased ledger blocks leaves. -/
def scannedEmpty (s : State) (k : Nat) : State :=
  let t := (s.scanReads k ((s.geo k).blocks - 1) [0]).scanReads k ((s.geo k).blocks - 2) [0]
  t.setDie k { t.die k with ledger := {} }

theorem ledgerState_erased {erased : Nat → Bool} (entry : Nat → Option Bytes) (pages : Nat) (h : erased 0 = true) :
    ledgerState erased entry pages = (some none, [0]) := by
  unfold ledgerState
  rw [if_pos h]

theorem scanDie_empty {data : List Bytes} {k : Nat} (log : Bool) (h : s.LedgerEmpty data k) : s.scanDie k data log = s.scannedEmpty k := by
  obtain ⟨hkept, hfirst, hsecond⟩ := h
  unfold State.scanDie
  dsimp only
  rw [ledgerState_erased _ _ hfirst, ledgerState_erased _ _ hsecond]
  simp [hkept, State.scanFound, laterEntry, scannedEmpty]

theorem scanReads_frame_regs (k b : Nat) (ps : List Nat) : Frame (may [.outputs, .regs 17]) s (s.scanReads k b ps) := State.scanReads_frame ..

theorem scannedEmpty_reads_frame (k : Nat) : Frame (may [.outputs, .regs 17]) s
    ((s.scanReads k ((s.geo k).blocks - 1) [0]).scanReads k ((s.geo k).blocks - 2) [0]) :=
  (scanReads_frame_regs ..).step (scanReads_frame_regs ..)

theorem scannedEmpty_frame (k : Nat) : Frame (may [.flash, .outputs, .regs 17]) s (s.scannedEmpty k) :=
  (State.setDie_frame ..).after ((scannedEmpty_reads_frame k).mono rfl) rfl

theorem route_setDie (s : State) (k : Nat) (d : Die) (q : Nat) : (s.setDie k d).route q = s.route q := rfl

theorem scannedEmpty_route (k q : Nat) : (s.scannedEmpty k).route q = s.route q :=
  (route_setDie _ k _ q).trans (route_of_frame (scannedEmpty_reads_frame k) (by decide) q)

theorem scannedEmpty_ledger {j k : Nat} (h : k = j ∨ (s.die k).ledger = {}) : ((s.scannedEmpty j).die k).ledger = {} := by
  unfold scannedEmpty
  dsimp only
  by_cases hk : k = j
  · subst hk
    rw [die_setDie_same]
  · rw [die_setDie_ne _ _ hk, die_of_frame (scannedEmpty_reads_frame j) (by decide)]
    exact h.resolve_left hk

theorem scannedEmpty_reads (k : Nat) : (s.scannedEmpty k).getR (R.RT_CNT_READ (k / 16)) = s.getR (R.RT_CNT_READ (k / 16)) + 1 + 1 := by
  unfold scannedEmpty
  dsimp only
  rw [getR_setDie, getR_scanReads_one, getR_scanReads_one]

/-- The other dies' ledger blocks are as empty as before. -/
theorem LedgerEmpty.scanned {data : List Bytes} {k : Nat} (j : Nat) (h : s.LedgerEmpty data k) : (s.scannedEmpty j).LedgerEmpty data k := by
  have hframe := scannedEmpty_frame (s := s) j
  obtain ⟨hkept, hfirst, hsecond⟩ := h
  refine ⟨?_, ?_, ?_⟩
  · unfold scannedEmpty
    dsimp only
    by_cases hk : k = j
    · subst hk
      rw [die_setDie_same]
    · rw [die_setDie_ne _ _ hk, die_of_frame (scannedEmpty_reads_frame j) (by decide)]
      exact hkept
  · rw [scanErased_of_frame hframe (by decide), geo_of_frame hframe (by decide), hfirst]
  · rw [scanErased_of_frame hframe (by decide), geo_of_frame hframe (by decide), hsecond]

/-- Scans of empty ledgers (R108): every ledger is EMPTY, and each die has read two pages. -/
theorem foldl_scanDie_empty {l : List Nat} {data : List Bytes} (log : Bool) (hl : ∀ k ∈ l, k / 16 = r ∧ s.LedgerEmpty data k) :
    (∀ k, k ∈ l ∨ (s.die k).ledger = {} → ((l.foldl (fun s k => s.scanDie k data log) s).die k).ledger = {}) ∧
      (l.foldl (fun s k => s.scanDie k data log) s).getR (R.RT_CNT_READ r) = s.getR (R.RT_CNT_READ r) + BitVec.ofNat 32 (2 * l.length) ∧
      (l.foldl (fun s k => s.scanDie k data log) s).route r = s.route r ∧
      Frame (may [.flash, .outputs, .regs 17]) s (l.foldl (fun s k => s.scanDie k data log) s) := by
  induction l generalizing s with
  | nil => exact ⟨fun k hk => hk.resolve_left (by simp), by simp, rfl, .refl s⟩
  | cons j l ih =>
    obtain ⟨rfl, hj⟩ := hl j (by simp)
    obtain ⟨hledger, hreads, hroute, hframe⟩ := ih (s := s.scannedEmpty j) fun k hk =>
      ⟨(hl k (by simp [hk])).1, (hl k (by simp [hk])).2.scanned j⟩
    rw [List.foldl_cons, scanDie_empty log hj]
    refine ⟨fun k hk => hledger k ?_, ?_, hroute.trans (scannedEmpty_route j _), hframe.step (scannedEmpty_frame j)⟩
    · rcases hk with hk | hk
      · exact (List.mem_cons.1 hk).symm.imp_right fun h => scannedEmpty_ledger (Or.inl h)
      · exact Or.inr (scannedEmpty_ledger (Or.inr hk))
    · rw [hreads, scannedEmpty_reads, List.length_cons]
      generalize s.getR (R.RT_CNT_READ (j / 16)) = w
      have : BitVec.ofNat 32 (2 * (l.length + 1)) = 1 + 1 + BitVec.ofNat 32 (2 * l.length) := by
        rw [Nat.mul_add, Nat.add_comm, BitVec.ofNat_add]
        rfl
      rw [this, ← BitVec.add_assoc, ← BitVec.add_assoc]

/-- The scan of a re-imaged route is its last step (R239). -/
theorem reimageDone_ends {id : Nat} {e : Desc} (hdesc : s.desc? id = some e) (hopen : e.status = none) (hbuf : e.bufferFault = false) :
    (s.reimageDone r id).ended id 0 0 ∧ ((s.reimageDone r id).route r).train = 0 ∧ ((s.reimageDone r id).route r).reimage = none ∧
      ((s.reimageDone r id).route r).before = none := by
  unfold State.reimageDone
  dsimp only
  refine ⟨ended_finish _ _ (by exact hdesc) hopen hbuf, ?_, ?_, ?_⟩ <;>
    rw [route_of_frame (State.finish_frame ..) (by decide), route_setRoute_same]

theorem div_of_mem_serviceDies {k : Nat} (h : k ∈ s.serviceDies r) : k / 16 = r := by
  obtain ⟨i, hi, rfl⟩ := mem_routeDies (mem_serviceDies h).1
  exact dieKey_div r hi

theorem Training.scanned_empty {data : List Bytes} (h : s.Training r 12) (htemps : s.tempsIn r = true)
    (hempty : ∀ k ∈ s.serviceDies r, s.LedgerEmpty data k) :
    (∀ id e, (s.route r).reimage = some id → s.desc? id = some e → e.status = none → e.bufferFault = false →
      ∃ t, exec (.trainingStepDone r true data) s = .next t ∧ t.ended id 0 0 ∧ (t.route r).train = 0 ∧ (t.route r).reimage = none ∧
        (t.route r).before = none) ∧
    ((s.route r).reimage = none → ∃ t, exec (.trainingStepDone r true data) s = .next t ∧ (t.route r).train = 13 ∧
      (∀ k ∈ s.serviceDies r, (t.die k).ledger = {}) ∧
      t.getR (R.RT_CNT_READ r) = s.getR (R.RT_CNT_READ r) + BitVec.ofNat 32 (2 * (s.serviceDies r).length) ∧
      Frame (may [.flash, .outputs, .regs 17]) s t) := by
  refine ⟨fun id e hx hdesc hopen hbuf => ?reimage, fun hx => ?train⟩
  case reimage =>
    have hscan := State.scanRoute_frame s r data (decide (s.modeNow = 3))
    exact ⟨_, h.scannedReimage htemps hx data, reimageDone_ends ((hscan.desc? (by decide) id).trans hdesc) hopen hbuf⟩
  case train =>
    obtain ⟨hledger, hreads, -, hframe⟩ := foldl_scanDie_empty (r := r) (decide (s.modeNow = 3)) fun k hk =>
      ⟨div_of_mem_serviceDies hk, hempty k hk⟩
    refine ⟨_, h.scanned htemps hx data, trainTo_train r 13, ?_, ?_, ?_⟩
    · rw [trainTo_silent (by decide)]
      exact fun k hk => hledger k (Or.inl hk)
    · rw [trainTo_silent (by decide)]
      exact hreads
    · rw [trainTo_silent (by decide)]
      exact (State.setRoute_frame ..).after hframe rfl

end State
end Sys2Proof.Machine
end

section
/-! PROOFS. What the ledger scan finds: an open INTENT, or a lost ledger (R108, R109). -/

namespace Sys2Proof.Machine

theorem length_insertAsc (l : List Nat) (x : Nat) : (insertAsc l x).length ≤ l.length + 1 := by
  have hparts : (l.filter (· < x)).length + (l.filter (x < ·)).length ≤ l.length := by
    induction l with
    | nil => simp
    | cons y l ih =>
      rw [List.filter_cons, List.filter_cons]
      by_cases hlt : y < x
      · have hgt : ¬ x < y := by omega
        simp [hlt, hgt]; omega
      · by_cases hgt : x < y <;> simp [hlt, hgt] <;> omega
  unfold insertAsc
  simp only [List.length_append, List.length_cons, List.length_nil]
  omega

theorem mem_insertAsc_of_mem {l : List Nat} {x y : Nat} (h : y ∈ l) : y ∈ insertAsc l x := by
  unfold insertAsc
  rcases Nat.lt_trichotomy y x with hlt | rfl | hgt
  · simp [h, hlt]
  · simp
  · simp [h, hgt]

theorem mem_foldl_insertAsc {bs l : List Nat} {x : Nat} (h : x ∈ bs ∨ x ∈ l) : x ∈ bs.foldl insertAsc l := by
  induction bs generalizing l with
  | nil => exact h.resolve_left (by simp)
  | cons b bs ih =>
    refine ih ?_
    rcases h with h | h
    · refine (List.mem_cons.1 h).symm.imp_right fun h => ?_
      rw [h]
      exact mem_insertAsc_self l b
    · exact Or.inr (mem_insertAsc_of_mem h)

theorem length_foldl_insertAsc (bs l : List Nat) : (bs.foldl insertAsc l).length ≤ l.length + bs.length := by
  induction bs generalizing l with
  | nil => simp
  | cons b bs ih =>
    have := ih (insertAsc l b)
    have := length_insertAsc l b
    rw [List.foldl_cons, List.length_cons]
    omega

theorem length_entryBlocks (e : Bytes) : (entryBlocks e).length ≤ 4 := by
  unfold entryBlocks
  rw [List.length_map]
  exact (List.length_filter_le ..).trans (by simp)

namespace State

variable {s : State} {r : Nat}

/-! ### The incomplete-erase set (R101, R109) -/

/-- Blocks that the set has room for are in it. -/
theorem mem_addIncomplete {bs : List Nat} {x : Nat} (hroom : s.seq.incomplete.length + bs.length ≤ 1024) (hx : x ∈ bs) :
    x ∈ (s.addIncomplete bs).seq.incomplete := by
  show x ∈ (bs.foldl insertAsc s.seq.incomplete).take 1024
  rw [List.take_of_length_le ((length_foldl_insertAsc bs _).trans hroom)]
  exact mem_foldl_insertAsc (Or.inl hx)

theorem incomplete_setDie (k : Nat) (d : Die) : (s.setDie k d).seq.incomplete = s.seq.incomplete := rfl

theorem die_addIncomplete (bs : List Nat) (k : Nat) : (s.addIncomplete bs).die k = s.die k := rfl

theorem incomplete_of_frame {m : Nat} {t : State} (h : Frame m s t) (h8 : m.testBit 8 = false) : t.seq.incomplete = s.seq.incomplete := by
  rw [h.seq h8]

/-- Logging what the scan found and raising it. -/
theorem scanLogged_frame (fs : List (Nat × Nat)) :
    Frame (may [.modeCtl, .notice, .outputs, .regs 0, .regs 2, .regs 8, .regs 12]) s ((s.recLog fs).raise F.FI_REC_EVENT_RECOVERED) :=
  (State.raise_frame _ F.FI_REC_EVENT_RECOVERED rfl rfl rfl).step ((State.recLog_frame s fs).mono rfl)

theorem scanLogged_raised (fs : List (Nat × Nat)) :
    ((s.recLog fs).raise F.FI_REC_EVENT_RECOVERED).getF F.FI_REC_EVENT_RECOVERED = 1 := raise_getF _ (by decide) rfl (by decide)

/-! ### An open INTENT (R108) -/

/-- The ledger as its last entry has it, and its blocks in the incomplete-erase set. -/
def intentTaken (s : State) (k : Nat) (e : Bytes) (nx : Nat) : State :=
  ((s.setDie k { s.die k with ledger := { active := 0, next := nx, gen := entryGen e } }).addIncomplete
    ((entryBlocks e).map (blockKey k))).satF F.FI_REC_COUNT_INCOMPLETE

theorem scanFound_intent {k nx : Nat} {e : Bytes} (h : field e 4 1 = 1) : s.scanFound k (some (0, e, nx)) true =
    ((s.intentTaken k e nx).recLog (((entryBlocks e).map (blockKey k)).map fun x => (x, if bit (field e 6 1) 0 then 3 else 1))).raise
      F.FI_REC_EVENT_RECOVERED :=
  (if_pos h).trans (if_pos rfl)

theorem scanFound_shows {k nx : Nat} {e : Bytes} (h : field e 4 1 = 1) (hroom : s.seq.incomplete.length ≤ 1020) :
    ((s.scanFound k (some (0, e, nx)) true).die k).ledger = { active := 0, next := nx, gen := entryGen e } ∧
      (∀ x ∈ entryBlocks e, blockKey k x ∈ (s.scanFound k (some (0, e, nx)) true).seq.incomplete) ∧
      (s.scanFound k (some (0, e, nx)) true).getF F.FI_REC_EVENT_RECOVERED = 1 := by
  rw [scanFound_intent h]
  have hlogged := scanLogged_frame (s := s.intentTaken k e nx)
    (((entryBlocks e).map (blockKey k)).map fun x => (x, if bit (field e 6 1) 0 then 3 else 1))
  refine ⟨?_, fun x hx => ?_, scanLogged_raised _⟩
  · rw [die_of_frame hlogged (by decide)]
    unfold intentTaken State.satF
    rw [die_setF, die_addIncomplete, die_setDie_same]
  · rw [incomplete_of_frame hlogged (by decide)]
    unfold intentTaken State.satF
    rw [setF_seq]
    refine mem_addIncomplete ?_ (List.mem_map_of_mem hx)
    have := length_entryBlocks e
    rw [List.length_map, incomplete_setDie]
    omega

/-- A scan that finds one entry, in the first block. -/
theorem scanDie_found {k nx : Nat} {e : Bytes} {l m : List Nat} {data : List Bytes} (log : Bool) (hkept : (s.die k).ledger.lost = false)
    (hfirst : ledgerState (s.scanErased data k ((s.geo k).blocks - 1)) (s.scanEntry data k ((s.geo k).blocks - 1)) (s.geo k).pages =
      (some (some (e, nx)), l))
    (hsecond : ledgerState (s.scanErased data k ((s.geo k).blocks - 2)) (s.scanEntry data k ((s.geo k).blocks - 2)) (s.geo k).pages =
      (some none, m)) :
    s.scanDie k data log = ((s.scanReads k ((s.geo k).blocks - 1) l).scanReads k ((s.geo k).blocks - 2) m).scanFound k (some (0, e, nx)) log := by
  unfold State.scanDie
  dsimp only
  rw [hfirst, hsecond]
  simp [hkept, laterEntry]

theorem scanRoute_one {k : Nat} (data : List Bytes) (log : Bool) (h : s.serviceDies r = [k]) : s.scanRoute r data log = s.scanDie k data log := by
  unfold State.scanRoute
  rw [h]
  rfl

theorem Training.scanned_intent {k nx : Nat} {e : Bytes} {l m : List Nat} {data : List Bytes} (h : s.Training r 12) (hmode : s.modeNow = 3)
    (htemps : s.tempsIn r = true) (hone : s.serviceDies r = [k]) (hx : (s.route r).reimage = none) (hkept : (s.die k).ledger.lost = false)
    (hfirst : ledgerState (s.scanErased data k ((s.geo k).blocks - 1)) (s.scanEntry data k ((s.geo k).blocks - 1)) (s.geo k).pages =
      (some (some (e, nx)), l))
    (hsecond : ledgerState (s.scanErased data k ((s.geo k).blocks - 2)) (s.scanEntry data k ((s.geo k).blocks - 2)) (s.geo k).pages =
      (some none, m))
    (hintent : field e 4 1 = 1) (hroom : s.seq.incomplete.length ≤ 1020) :
    ∃ t, exec (.trainingStepDone r true data) s = .next t ∧ (t.route r).train = 13 ∧
      (t.die k).ledger = { active := 0, next := nx, gen := entryGen e } ∧
      (∀ x ∈ entryBlocks e, blockKey k x ∈ t.seq.incomplete) ∧ t.getF F.FI_REC_EVENT_RECOVERED = 1 := by
  have hreads : Frame (may [.outputs, .regs 17]) s ((s.scanReads k ((s.geo k).blocks - 1) l).scanReads k ((s.geo k).blocks - 2) m) :=
    (scanReads_frame_regs ..).step (scanReads_frame_regs ..)
  refine ⟨_, h.scanned htemps hx data, trainTo_train r 13, ?_⟩
  rw [trainTo_silent (by decide), scanRoute_one data _ hone, scanDie_found _ hkept hfirst hsecond, decide_eq_true hmode]
  exact scanFound_shows hintent (by rw [incomplete_of_frame hreads (by decide)]; exact hroom)

/-! ### A lost ledger (R109) -/

theorem greyBlocks_of_frame {m : Nat} {t : State} (h : Frame m s t) (h3 : m.testBit 3 = false) (h26 : m.testBit 26 = false) (k : Nat)
    (data : List Bytes) : t.greyBlocks k data = s.greyBlocks k data := by
  unfold State.greyBlocks State.greyCount
  simp only [geo_of_frame h h3, h.getF (f := F.FI_REC_CTRL_GREY_LO) h26, h.getF (f := F.FI_REC_CTRL_GREY_HI) h26]

theorem guardHolds_of_frame {m : Nat} {t : State} (h : Frame m s t) (h30 : m.testBit 30 = false) (q : Nat) : t.guardHolds q = s.guardHolds q := by
  unfold State.guardHolds
  rw [h.reg R.PWR_WG_STATUS h30]

/-- Reads of a scan are counted as reads alone. -/
theorem getR_scanReads_ne {off : Nat} (k b : Nat) (ps : List Nat) (h : off ≠ R.RT_CNT_READ (k / 16)) :
    (s.scanReads k b ps).getR off = s.getR off := by
  have hcmd : ∀ (u : State) (ps bytes addrs : List Nat), (u.cmd k ps bytes addrs).getR off = u.getR off := fun u ps bytes addrs =>
    getR_of_frame (State.cmd_frame u k ps bytes addrs) (by decide) off
  refine foldl_keeps (fun u : State => u.getR off) fun u p _ => ?_
  dsimp only
  unfold State.bump
  rw [hcmd, getR_setR_ne _ _ h, hcmd]

/-- Erasing a block of a lost ledger invalidates its range, and is counted. -/
theorem eraseLost_keeps (k b : Nat) :
    (s.eraseLost k b).seq.incomplete = s.seq.incomplete ∧ (s.eraseLost k b).getR (R.RT_CNT_ERASE (k / 16)) = s.getR (R.RT_CNT_ERASE (k / 16)) + 1 := by
  have hroom := State.roomForRange_frame s
  have hrange := State.eraseRange_frame s.roomForRange (s.logicalDie k) [b]
  have hincomplete : (s.roomForRange.eraseRange (s.logicalDie k) [b]).seq.incomplete = s.seq.incomplete := by
    have hph := State.phRange_frame s.roomForRange [s.logicalDie k] (some [b])
    exact (congrArg Seq.incomplete (hph.seq (by decide))).trans (incomplete_of_frame hroom (by decide))
  have hcount : (s.roomForRange.eraseRange (s.logicalDie k) [b]).getR (R.RT_CNT_ERASE (k / 16)) = s.getR (R.RT_CNT_ERASE (k / 16)) := by
    rw [hrange.reg _ (by rw [regGroup_RT_CNT_ERASE]; rfl), hroom.reg _ (by rw [regGroup_RT_CNT_ERASE]; rfl)]
  unfold State.eraseLost
  dsimp only
  generalize s.roomForRange.eraseRange (s.logicalDie k) [b] = u at hincomplete hcount ⊢
  have hcmd := State.cmd_frame u k [mkAddr k b 0 0] [0x60, 0xD0] [mkAddr k b 0 0]
  refine ⟨?_, ?_⟩
  · rw [State.bump_seq, incomplete_of_frame hcmd (by decide), hincomplete]
  · unfold State.bump
    rw [getR_setR_same, getR_of_frame hcmd (by decide), hcount]

/-- The two blocks of a lost ledger are erased, or wait for the die's next erase where the write guard holds. -/
def lostTaken (s : State) (g : Geo) (k : Nat) : State :=
  if s.guardHolds (k / 16) then s.setDie k { s.die k with ledger := { lost := true, due := true } }
  else
    let t := (s.eraseLost k (g.blocks - 1)).eraseLost k (g.blocks - 2)
    t.setDie k { t.die k with ledger := {} }

theorem lostTaken_shows (g : Geo) (k : Nat) :
    (s.lostTaken g k).seq.incomplete = s.seq.incomplete ∧
      (s.guardHolds (k / 16) = true → ((s.lostTaken g k).die k).ledger = { lost := true, due := true }) ∧
      (s.guardHolds (k / 16) = false → ((s.lostTaken g k).die k).ledger = {} ∧
        (s.lostTaken g k).getR (R.RT_CNT_ERASE (k / 16)) = s.getR (R.RT_CNT_ERASE (k / 16)) + 2) := by
  unfold lostTaken
  cases s.guardHolds (k / 16) with
  | true =>
    rw [if_pos rfl]
    exact ⟨incomplete_setDie .., fun _ => by rw [die_setDie_same], nofun⟩
  | false =>
    rw [if_neg (by decide)]
    dsimp only
    obtain ⟨hkept, hcount⟩ := eraseLost_keeps (s := s) k (g.blocks - 1)
    obtain ⟨hkept', hcount'⟩ := eraseLost_keeps (s := s.eraseLost k (g.blocks - 1)) k (g.blocks - 2)
    refine ⟨by rw [incomplete_setDie, hkept', hkept], nofun, fun _ => ⟨by rw [die_setDie_same], ?_⟩⟩
    rw [getR_setDie, hcount', hcount, BitVec.add_assoc]
    rfl

/-- The pages that the grey-block test reads. -/
def greyRead (s : State) (k : Nat) : State :=
  (List.range ((s.geo k).blocks - 2)).foldl
    (fun t b => t.scanReads k b (if (s.geo k).pages ≤ 1 then [0] else [0, (s.geo k).pages - 1])) s

/-- What TRAIN records of a lost ledger. -/
def lostLogged (s : State) (k : Nat) (grey : List Nat) : State :=
  let s := s.satF F.FI_REC_COUNT_LOST
  let s := s.setF F.FI_REC_COUNT_GREY (min 4095 (s.getF F.FI_REC_COUNT_GREY + grey.length))
  (s.recLog (grey.map fun x => (blockKey k x, 2))).raise F.FI_REC_EVENT_RECOVERED

theorem scanLost_logged (k : Nat) (data : List Bytes) : s.scanLost k data true =
    (((s.greyRead k).addIncomplete ((s.greyBlocks k data).map (blockKey k))).lostTaken (s.geo k) k).lostLogged k (s.greyBlocks k data) := by
  unfold State.scanLost lostLogged lostTaken greyRead
  simp only [if_true]

theorem greyRead_frame (k : Nat) : Frame (may [.outputs, .regs 17]) s (s.greyRead k) := .foldl (.refl s) fun _ b => scanReads_frame_regs k b _

theorem greyRead_erases (k : Nat) : (s.greyRead k).getR (R.RT_CNT_ERASE (k / 16)) = s.getR (R.RT_CNT_ERASE (k / 16)) :=
  foldl_keeps (fun u : State => u.getR (R.RT_CNT_ERASE (k / 16))) fun _ b _ =>
    getR_scanReads_ne k b _ (by unfold R.RT_CNT_ERASE R.RT_CNT_READ; omega)

theorem lostLogged_frame (k : Nat) (grey : List Nat) :
    Frame (may [.modeCtl, .notice, .outputs, .regs 0, .regs 2, .regs 8, .regs 12]) s (s.lostLogged k grey) :=
  (scanLogged_frame _).step ((State.setF_frame _ F.FI_REC_COUNT_GREY _ rfl rfl).step (State.satF_frame s F.FI_REC_COUNT_LOST rfl rfl))

/-- A lost ledger: the grey blocks are in the incomplete-erase set, and the ledger starts anew or waits for the write guard. -/
theorem scanLost_shows {k : Nat} (data : List Bytes) (hroom : s.seq.incomplete.length + (s.greyBlocks k data).length ≤ 1024) :
    (∀ b ∈ s.greyBlocks k data, blockKey k b ∈ (s.scanLost k data true).seq.incomplete) ∧
      (s.scanLost k data true).getF F.FI_REC_EVENT_RECOVERED = 1 ∧
      (s.guardHolds (k / 16) = true → ((s.scanLost k data true).die k).ledger = { lost := true, due := true }) ∧
      (s.guardHolds (k / 16) = false → ((s.scanLost k data true).die k).ledger = {} ∧
        (s.scanLost k data true).getR (R.RT_CNT_ERASE (k / 16)) = s.getR (R.RT_CNT_ERASE (k / 16)) + 2) := by
  have hread := greyRead_frame (s := s) k
  have hadded := State.addIncomplete_frame (s.greyRead k) ((s.greyBlocks k data).map (blockKey k))
  have hmem : ∀ b ∈ s.greyBlocks k data, blockKey k b ∈ ((s.greyRead k).addIncomplete ((s.greyBlocks k data).map (blockKey k))).seq.incomplete :=
    fun b hb => mem_addIncomplete (by rw [incomplete_of_frame hread (by decide), List.length_map]; exact hroom) (List.mem_map_of_mem hb)
  have hguard : ((s.greyRead k).addIncomplete ((s.greyBlocks k data).map (blockKey k))).guardHolds (k / 16) = s.guardHolds (k / 16) := by
    rw [guardHolds_of_frame hadded (by decide), guardHolds_of_frame hread (by decide)]
  have herase : ((s.greyRead k).addIncomplete ((s.greyBlocks k data).map (blockKey k))).getR (R.RT_CNT_ERASE (k / 16)) =
      s.getR (R.RT_CNT_ERASE (k / 16)) := by
    rw [hadded.reg _ (by rw [regGroup_RT_CNT_ERASE]; rfl), greyRead_erases]
  rw [scanLost_logged, ← hguard, ← herase]
  generalize (s.greyRead k).addIncomplete ((s.greyBlocks k data).map (blockKey k)) = u at hmem ⊢
  obtain ⟨hkept, hwaits, hanew⟩ := lostTaken_shows (s := u) (s.geo k) k
  have hlogged := lostLogged_frame (s := u.lostTaken (s.geo k) k) k (s.greyBlocks k data)
  rw [die_of_frame hlogged (by decide), incomplete_of_frame hlogged (by decide), hlogged.reg _ (by rw [regGroup_RT_CNT_ERASE]; rfl), hkept]
  exact ⟨hmem, scanLogged_raised _, hwaits, hanew⟩

/-- A scan that finds no valid entry in the first block. -/
theorem scanDie_lost {k : Nat} {l : List Nat} {data : List Bytes} (log : Bool)
    (hfirst : ledgerState (s.scanErased data k ((s.geo k).blocks - 1)) (s.scanEntry data k ((s.geo k).blocks - 1)) (s.geo k).pages = (none, l)) :
    s.scanDie k data log = ((s.scanReads k ((s.geo k).blocks - 1) l).scanReads k ((s.geo k).blocks - 2)
      (ledgerState (s.scanErased data k ((s.geo k).blocks - 2)) (s.scanEntry data k ((s.geo k).blocks - 2)) (s.geo k).pages).2).scanLost k data
      log := by
  unfold State.scanDie
  dsimp only
  rw [hfirst]

theorem Training.scanned_lost {k : Nat} {l : List Nat} {data : List Bytes} (h : s.Training r 12) (hmode : s.modeNow = 3)
    (htemps : s.tempsIn r = true) (hone : s.serviceDies r = [k]) (hx : (s.route r).reimage = none)
    (hfirst : ledgerState (s.scanErased data k ((s.geo k).blocks - 1)) (s.scanEntry data k ((s.geo k).blocks - 1)) (s.geo k).pages = (none, l))
    (hroom : s.seq.incomplete.length + (s.greyBlocks k data).length ≤ 1024) :
    ∃ t, exec (.trainingStepDone r true data) s = .next t ∧ (t.route r).train = 13 ∧
      (∀ b ∈ s.greyBlocks k data, blockKey k b ∈ t.seq.incomplete) ∧ t.getF F.FI_REC_EVENT_RECOVERED = 1 ∧
      (s.guardHolds r = true → (t.die k).ledger = { lost := true, due := true }) ∧
      (s.guardHolds r = false → (t.die k).ledger = {} ∧ t.getR (R.RT_CNT_ERASE r) = s.getR (R.RT_CNT_ERASE r) + 2) := by
  obtain rfl : k / 16 = r := div_of_mem_serviceDies (s := s) (by rw [hone]; simp)
  refine ⟨_, h.scanned htemps hx data, trainTo_train _ 13, ?_⟩
  rw [trainTo_silent (by decide), scanRoute_one data _ hone, scanDie_lost _ hfirst, decide_eq_true hmode]
  have hreads : Frame (may [.outputs, .regs 17]) s ((s.scanReads k ((s.geo k).blocks - 1) l).scanReads k ((s.geo k).blocks - 2)
      (ledgerState (s.scanErased data k ((s.geo k).blocks - 2)) (s.scanEntry data k ((s.geo k).blocks - 2)) (s.geo k).pages).2) :=
    (scanReads_frame_regs ..).step (scanReads_frame_regs ..)
  have hne : R.RT_CNT_ERASE (k / 16) ≠ R.RT_CNT_READ (k / 16) := by unfold R.RT_CNT_ERASE R.RT_CNT_READ; omega
  have hcount := (getR_scanReads_ne (s := s.scanReads k ((s.geo k).blocks - 1) l) k ((s.geo k).blocks - 2)
      (ledgerState (s.scanErased data k ((s.geo k).blocks - 2)) (s.scanEntry data k ((s.geo k).blocks - 2)) (s.geo k).pages).2 hne).trans
    (getR_scanReads_ne k _ l hne)
  rw [← greyBlocks_of_frame hreads (by decide) (by decide), ← guardHolds_of_frame hreads (by decide), ← hcount]
  refine scanLost_shows data ?_
  rw [incomplete_of_frame hreads (by decide), greyBlocks_of_frame hreads (by decide) (by decide)]
  exact hroom

end State
end Sys2Proof.Machine
end

section
/-! PROOFS. Parameter pages: the route's protocol, and the dies that do not fit (step 3 of Table 5-3, R59, R60, R308). -/

namespace Sys2Proof.Machine
namespace State

variable {s : State} {r : Nat}

/-! ### A die goes to FAULT (R80, R308) -/

theorem RT_EVENT_ne_RT_DIE (r q i : Nat) : R.RT_EVENT r ≠ R.RT_DIE q i := by unfold R.RT_EVENT R.RT_DIE; omega

theorem still_RT_DIE (r i : Nat) : still (R.RT_DIE r i) := by unfold still R.RT_DIE R.MODE R.PWR_WAKE; omega
theorem still_RT_EVENT (r : Nat) : still (R.RT_EVENT r) := by unfold still R.RT_EVENT R.MODE R.PWR_WAKE; omega

/-- Dropping what a die does is dropping operations, once nothing is held in it. -/
theorem dieDrop_drops (k st : Nat) (all : Bool) : ∃ (u : State) (l : List DieOp),
    s.dieDrop k st all = (u.setF (F.RT_DIE_HELD (k / 16) (k % 16)) 0).dropOps l st ∧ Frame (may [.flash]) s u :=
  ⟨_, _, rfl, Frame.trans (withSeq_frame _) (State.setDie_frame ..)⟩

/-- Dropping what die `k` does leaves the fields of the route blocks, but HELD of the die and the words of dies in state 4. -/
theorem dieDrop_getF {f : Field} {k st : Nat} (hst : st ≠ St.ok) (hf : regGroup f.off = 17)
    (hword : ∀ j, s.dieSt j = 4 → f.off ≠ R.RT_DIE (j / 16) (j % 16))
    (hheld : f.off ≠ R.RT_DIE (k / 16) (k % 16) ∨ 6 ≤ f.lo ∨ f.lo + f.width ≤ 4) :
    (s.dieDrop k st true).getF f = s.getF f := by
  have hset : ∀ (u : State) {g : Field}, g.off ≠ R.RT_DIE (k / 16) (k % 16) ∨ 6 ≤ g.lo ∨ g.lo + g.width ≤ 4 →
      (u.setF (F.RT_DIE_HELD (k / 16) (k % 16)) 0).getF g = u.getF g := fun u g hg =>
    getF_setF_ne u 0 (hg.imp_right Or.symm) (Nat.le_of_ble_eq_true rfl)
  have hstate : ∀ (u : State) (j : Nat), (u.setF (F.RT_DIE_HELD (k / 16) (k % 16)) 0).dieSt j = u.dieSt j := fun u j =>
    hset u (Or.inr (Or.inr (Nat.le_of_ble_eq_true rfl)))
  have hdrops : ∀ (u : State) (l : List DieOp), (∀ j, u.dieSt j = 4 → f.off ≠ R.RT_DIE (j / 16) (j % 16)) →
      (u.dropOps l st).getF f = u.getF f :=
    fun u l hu => congrArg (fun w : W32 => bits w.toNat f.lo f.width) ((dropOps_drops l hst).words f.off hf hu)
  obtain ⟨u, l, hdrop, hframe⟩ := dieDrop_drops (s := s) k st true
  rw [hdrop, hdrops _ _ fun j hj => hword j ?_, hset _ hheld, hframe.getF (by rw [hf]; rfl)]
  rw [← hj, hstate, dieSt_of_frame hframe (by decide)]

/-- The die before its operations are dropped: in FAULT with its cause, which is raised. -/
def faultShown (s : State) (k cause : Nat) : State :=
  (((s.setDieSt k 8).setF (F.RT_DIE_FAULT_CAUSE (k / 16) (k % 16)) cause).raise (F.RT_EVENT_DIE_FAULT (k / 16))).dieRanges [k]

theorem dieFault_eq (k cause : Nat) : s.dieFault k cause = ((s.faultShown k cause).dieDrop k St.dieRetired true).guardUpdate := rfl

theorem faultShown_getF_ne {f : Field} {k : Nat} (cause : Nat) (hf : regGroup f.off = 17) (hstill : still f.off)
    (hword : f.off ≠ R.RT_DIE (k / 16) (k % 16)) (hevent : f.off ≠ R.RT_EVENT (k / 16)) : (s.faultShown k cause).getF f = s.getF f := by
  unfold faultShown
  rw [(State.dieRanges_frame ..).getF (by rw [hf]; rfl), raise_getF_ne _ hstill hevent, getF_setF_ne _ _ (Or.inl hword) (Nat.le_of_ble_eq_true rfl)]
  exact congrArg (fun w : W32 => bits w.toNat f.lo f.width) (getR_setDieSt_ne k 8 hword)

/-- The die itself is in FAULT with its cause. -/
theorem faultShown_die (k : Nat) {cause : Nat} (hc : cause < 16) :
    (s.faultShown k cause).dieSt k = 8 ∧ (s.faultShown k cause).getF (F.RT_DIE_FAULT_CAUSE (k / 16) (k % 16)) = cause := by
  have hkept : ∀ {f : Field}, f.off = R.RT_DIE (k / 16) (k % 16) → (s.faultShown k cause).getF f =
      ((s.setDieSt k 8).setF (F.RT_DIE_FAULT_CAUSE (k / 16) (k % 16)) cause).getF f := fun hf => by
    unfold faultShown
    rw [(State.dieRanges_frame ..).getF (by rw [hf, regGroup_RT_DIE]; rfl),
      raise_getF_ne _ (hf ▸ still_RT_DIE ..) (hf ▸ (RT_EVENT_ne_RT_DIE _ _ _).symm)]
  refine ⟨(hkept rfl).trans ?_, (hkept rfl).trans ?_⟩
  · rw [getF_setF_ne _ _ (Or.inr (Or.inl (Nat.le_of_ble_eq_true rfl))) (Nat.le_of_ble_eq_true rfl)]
    exact dieSt_setDieSt_same (Or.inr (by decide)) (by decide)
  · exact (getF_setF_same _ _ cause (Nat.le_of_ble_eq_true rfl)).trans (Nat.mod_eq_of_lt hc)

theorem ne_dieWord_of_dieSt {j k : Nat} (h : s.dieSt k ≠ s.dieSt j) : R.RT_DIE (k / 16) (k % 16) ≠ R.RT_DIE (j / 16) (j % 16) :=
  dieWord_ne fun e => h (e ▸ rfl)

/-- A die that goes to FAULT stays there, with its cause (R308). -/
theorem dieFault_die (k : Nat) {cause : Nat} (hc : cause < 16) :
    (s.dieFault k cause).dieSt k = 8 ∧ (s.dieFault k cause).getF (F.RT_DIE_FAULT_CAUSE (k / 16) (k % 16)) = cause := by
  obtain ⟨hst, hcause⟩ := faultShown_die (s := s) k hc
  have hword : ∀ j, (s.faultShown k cause).dieSt j = 4 → R.RT_DIE (k / 16) (k % 16) ≠ R.RT_DIE (j / 16) (j % 16) := fun j hj =>
    ne_dieWord_of_dieSt (s := s.faultShown k cause) (by rw [hst, hj]; decide)
  have hkept : ∀ {f : Field}, f.off = R.RT_DIE (k / 16) (k % 16) → 6 ≤ f.lo ∨ f.lo + f.width ≤ 4 →
      (s.dieFault k cause).getF f = (s.faultShown k cause).getF f := fun hf hb => by
    rw [dieFault_eq, (State.guardUpdate_frame _).getF (by rw [hf, regGroup_RT_DIE]; rfl),
      dieDrop_getF (by decide) (by rw [hf, regGroup_RT_DIE]) (hf ▸ hword) (Or.inr hb)]
  exact ⟨(hkept rfl (Or.inr (Nat.le_of_ble_eq_true rfl))).trans hst, (hkept rfl (Or.inl (Nat.le_of_ble_eq_true rfl))).trans hcause⟩

/-- The word of another die stays, unless that die's operation has ended. -/
theorem dieFault_other {f : Field} {j k : Nat} (cause : Nat) (hf : f.off = R.RT_DIE (j / 16) (j % 16)) (hj : s.dieSt j ≠ 4) (h : j ≠ k) :
    (s.dieFault k cause).getF f = s.getF f := by
  have hgroup : regGroup f.off = 17 := by rw [hf, regGroup_RT_DIE]
  have hshown : ∀ {g : Field}, g.off = R.RT_DIE (j / 16) (j % 16) → (s.faultShown k cause).getF g = s.getF g := fun hg =>
    faultShown_getF_ne cause (by rw [hg, regGroup_RT_DIE]) (hg ▸ still_RT_DIE ..) (hg ▸ dieWord_ne h) (hg ▸ (RT_EVENT_ne_RT_DIE _ _ _).symm)
  have hst : (s.faultShown k cause).dieSt j = s.dieSt j := hshown rfl
  rw [dieFault_eq, (State.guardUpdate_frame _).getF (by rw [hgroup]; rfl), dieDrop_getF (by decide) hgroup (fun i hi => ?_)
    (Or.inl (hf ▸ dieWord_ne h)), hshown hf]
  rw [hf]
  exact ne_dieWord_of_dieSt (s := s.faultShown k cause) (by rw [hst, hi]; exact hj)

/-- An event of the route beside DIE_FAULT stays. -/
theorem dieFault_event {f : Field} (k cause r : Nat) (hf : f.off = R.RT_EVENT r) (hb : 3 ≤ f.lo) : (s.dieFault k cause).getF f = s.getF f := by
  have hgroup : regGroup f.off = 17 := by rw [hf, regGroup_RT_EVENT]
  have hraise : ∀ u : State, (u.raise (F.RT_EVENT_DIE_FAULT (k / 16))).getF f = u.getF f := fun u => by
    by_cases he : f.off = R.RT_EVENT (k / 16)
    · exact raise_getF_beside u (still_RT_EVENT (k / 16)) he (Or.inr hb) (Nat.le_of_ble_eq_true rfl)
    · exact raise_getF_ne u (hf ▸ still_RT_EVENT r) he
  have hdie : ∀ q i, f.off ≠ R.RT_DIE q i := fun q i => hf ▸ RT_EVENT_ne_RT_DIE r q i
  rw [dieFault_eq, (State.guardUpdate_frame _).getF (by rw [hgroup]; rfl), dieDrop_getF (by decide) hgroup (fun _ _ => hdie _ _)
    (Or.inl (hdie _ _))]
  unfold faultShown
  rw [(State.dieRanges_frame ..).getF (by rw [hgroup]; rfl), hraise, getF_setF_ne _ _ (Or.inl (hdie _ _)) (Nat.le_of_ble_eq_true rfl)]
  exact congrArg (fun w : W32 => bits w.toNat f.lo f.width) (getR_setDieSt_ne k 8 (hdie _ _))

/-- The parts that a die's fault may change: those of its operations, and the write guard's. -/
def faultParts : Nat := dropParts ||| may [.regs 14]

theorem dieFault_frame_drop (k cause : Nat) : Frame faultParts s (s.dieFault k cause) := by
  have hset : Frame faultParts s ((s.setDieSt k 8).setF (F.RT_DIE_FAULT_CAUSE (k / 16) (k % 16)) cause) :=
    (State.setF_frame _ _ _ (by rw [regGroup_F_RT_DIE_FAULT_CAUSE]; rfl) (by rw [regGroup_F_RT_DIE_FAULT_CAUSE]; rfl)).step
      ((State.setDieSt_frame s k 8).mono rfl)
  have hshown : Frame faultParts s (s.faultShown k cause) :=
    (State.dieRanges_frame ..).after ((State.raise_frame _ (F.RT_EVENT_DIE_FAULT (k / 16)) (by rw [regGroup_F_RT_EVENT_DIE_FAULT]; rfl)
      (by rw [regGroup_F_RT_EVENT_DIE_FAULT]; rfl) rfl).step hset) rfl
  rw [dieFault_eq]
  exact (State.guardUpdate_frame _).after ((dieDrop_failed_frame k true (by decide)).after hshown rfl) rfl

/-- What a route's status shows below WP stays. -/
theorem dieFault_status {f : Field} (k cause q : Nat) (hf : f.off = R.RT_STATUS q) (hlow : f.lo + f.width ≤ 4) :
    (s.dieFault k cause).getF f = s.getF f := by
  have hgroup : regGroup f.off = 14 := by rw [hf, regGroup_RT_STATUS]
  have hguard : unguarded f := ⟨by rw [hf]; unfold R.RT_STATUS R.PWR_WG_STATUS; omega, Or.inr hlow⟩
  have hset : ((s.setDieSt k 8).setF (F.RT_DIE_FAULT_CAUSE (k / 16) (k % 16)) cause).getF f = s.getF f := by
    rw [getF_setF_ne _ _ (Or.inl (by rw [hf]; show _ ≠ R.RT_DIE _ _; unfold R.RT_STATUS R.RT_DIE; omega)) (Nat.le_of_ble_eq_true rfl)]
    exact (State.setDieSt_frame s k 8).getF (by rw [hgroup]; rfl)
  rw [dieFault_eq, guardUpdate_getF hguard, (dieDrop_failed_frame k true (by decide)).getF (by rw [hgroup]; rfl), faultShown,
    (State.dieRanges_frame ..).getF (by rw [hgroup]; rfl), raise_getF_ne _ (by rw [hf]; unfold still R.RT_STATUS R.MODE R.PWR_WAKE; omega)
      (by rw [hf]; show _ ≠ R.RT_EVENT _; unfold R.RT_STATUS R.RT_EVENT; omega), hset]

end State
end Sys2Proof.Machine
end

section
/-! PROOFS. Parameter pages read die by die: what each die of the route shows after step 3 of training (R59, R60, R308). -/

namespace Sys2Proof.Machine
namespace State

variable {s : State} {r : Nat}

/-! ### One die's page -/

/-- The die of a page as at reset, not yet in service, and asked for its page. -/
def pageAsked (s : State) (r : Nat) (e : Nat × Bytes) : State :=
  let k := e.1
  let s := (s.setDie k (s.die k).afterReset).setR (R.RT_DIE r (k % 16)) (BitVec.ofNat 32 7)
  let s := (s.emit (.dieCmd r (k % 16) [0x90] [])).emit (.dieCmd r (k % 16) [0xEC] [0x00])
  if field e.2 0 1 = 1 then s else s.emit (.dieCmd r (k % 16) [0xEC] [0x40])

/-- A die that does not fit the route: the mismatch is raised and the die goes to FAULT. -/
def pageRefused (s : State) (r k : Nat) : State := (s.raise (F.RT_EVENT_PARAM_MISMATCH r)).dieFault k 2

/-- What step 3 of training does with one die's page, on a route whose protocol is `proto`. -/
def pageRead (s : State) (r proto : Nat) (e : Nat × Bytes) : State :=
  let t := s.pageAsked r e
  if proto ≠ 0 ∧ field e.2 0 1 = proto ∧ t.pageFits e.1 e.2 then t else t.pageRefused r e.1

/-- The pages that a route's dies give, each with its die. -/
def pagesOf (s : State) (r : Nat) (data : List Bytes) : List (Nat × Bytes) := (s.routeDies r).mapIdx fun i k => (k, data.getD i [])

theorem paramPages_eq {proto : Nat} {data : List Bytes} (hreset : (s.route r).resetBad = []) (hin : ∀ k ∈ s.routeDies r, s.retired k = false)
    (hproto : proto = 1 ∨ proto = 2) (hne : s.routeDies r ≠ []) (hfirst : field (data.getD 0 []) 0 1 = proto) :
    s.paramPages r data = (s.pagesOf r data).foldl (fun u e => u.pageRead r proto e) (s.setF (F.RT_STATUS_PROTOCOL r) (b2n (proto = 2))) := by
  have hall : (s.pagesOf r data).filter (fun e => !(s.route r).resetBad.contains e.1 && !s.retired e.1) = s.pagesOf r data := by
    refine List.filter_eq_self.2 fun e he => ?_
    obtain ⟨i, hi, rfl⟩ := List.mem_mapIdx.1 he
    simp [hreset, hin _ (List.getElem_mem hi)]
  have hfound : (((s.pagesOf r data).map fun e => field e.2 0 1).find? fun v => v = 1 || v = 2).getD 0 = proto := by
    obtain ⟨k, ks, hks⟩ := List.exists_cons_of_ne_nil hne
    unfold pagesOf
    rw [hks, List.mapIdx_cons, List.map_cons, hfirst, List.find?_cons_of_pos (by simpa using hproto)]
    rfl
  have hdef : ∀ (l : List (Nat × Bytes)) (p : Nat),
      (s.pagesOf r data).filter (fun e => !(s.route r).resetBad.contains e.1 && !s.retired e.1) = l →
      ((l.map fun e => field e.2 0 1).find? fun v => v = 1 || v = 2).getD 0 = p →
      s.paramPages r data = l.foldl (fun u e => u.pageRead r p e) (s.setF (F.RT_STATUS_PROTOCOL r) (b2n (p = 2))) := by
    rintro _ _ rfl rfl
    rfl
  exact hdef _ _ hall hfound

theorem pageAsked_frame (e : Nat × Bytes) : Frame (may [.flash, .outputs, .regs 17]) s (s.pageAsked r e) := by
  have hasked : Frame (may [.flash, .outputs, .regs 17]) s
      (((s.setDie e.1 (s.die e.1).afterReset).setR (R.RT_DIE r (e.1 % 16)) (BitVec.ofNat 32 7)).emit (.dieCmd r (e.1 % 16) [0x90] [])
        |>.emit (.dieCmd r (e.1 % 16) [0xEC] [0x00])) :=
    (State.emit_frame ..).after ((State.emit_frame ..).after ((State.setR_frame _ _ _ (by rw [regGroup_RT_DIE]; rfl)
      (by rw [regGroup_RT_DIE]; rfl)).step ((State.setDie_frame ..).mono rfl)) rfl) rfl
  unfold pageAsked
  split
  · exact hasked
  · exact (State.emit_frame ..).after hasked rfl

theorem pageAsked_getR (e : Nat × Bytes) (off : Nat) :
    (s.pageAsked r e).getR off = (s.setR (R.RT_DIE r (e.1 % 16)) (BitVec.ofNat 32 7)).getR off := by
  unfold pageAsked
  dsimp only
  split <;> rfl

theorem pageAsked_getF_ne {f : Field} (e : Nat × Bytes) (h : f.off ≠ R.RT_DIE r (e.1 % 16)) : (s.pageAsked r e).getF f = s.getF f := by
  unfold State.getF
  rw [pageAsked_getR, getR_setR_ne _ _ h]

theorem pageAsked_die (e : Nat × Bytes) (h : e.1 / 16 = r) : (s.pageAsked r e).dieSt e.1 = 7 := by
  unfold State.dieSt State.getF
  rw [pageAsked_getR, h]
  exact getF_setR_same s (F.RT_DIE_STATE r (e.1 % 16)) _

theorem pageFits_of_frame {m : Nat} {t : State} (h : Frame m s t) (h3 : m.testBit 3 = false) (k : Nat) (p : Bytes) :
    t.pageFits k p = s.pageFits k p := by
  unfold State.pageFits
  rw [geo_of_frame h h3]

/-- The parts that a page's reading may change. -/
def pageParts : Nat := faultParts ||| may [.flash, .outputs, .regs 17]

theorem pageRead_frame (proto : Nat) (e : Nat × Bytes) : Frame pageParts s (s.pageRead r proto e) := by
  have hasked : Frame pageParts s (s.pageAsked r e) := (pageAsked_frame e).mono rfl
  unfold pageRead
  dsimp only
  split
  · exact hasked
  · exact (dieFault_frame_drop ..).after ((State.raise_frame _ (F.RT_EVENT_PARAM_MISMATCH r) (by rw [regGroup_F_RT_EVENT_PARAM_MISMATCH]; rfl)
      (by rw [regGroup_F_RT_EVENT_PARAM_MISMATCH]; rfl) rfl).step hasked) rfl

theorem pageRead_fits {proto : Nat} {e : Nat × Bytes} (hproto : proto ≠ 0) (hsig : field e.2 0 1 = proto) (hfit : s.pageFits e.1 e.2 = true) :
    s.pageRead r proto e = s.pageAsked r e :=
  if_pos ⟨hproto, hsig, (pageFits_of_frame (pageAsked_frame e) rfl ..).trans hfit⟩

theorem pageRead_misfit {proto : Nat} {e : Nat × Bytes} (h : field e.2 0 1 ≠ proto ∨ s.pageFits e.1 e.2 = false) :
    s.pageRead r proto e = (s.pageAsked r e).pageRefused r e.1 :=
  if_neg fun ⟨_, hsig, hfit⟩ => h.elim (fun hne => hne hsig) fun hno => by
    rw [pageFits_of_frame (pageAsked_frame e) rfl, hno] at hfit
    exact Bool.noConfusion hfit

/-! ### What a page's reading keeps -/

theorem pageRefused_event (k : Nat) : (s.pageRefused r k).getF (F.RT_EVENT_PARAM_MISMATCH r) = 1 :=
  (dieFault_event k 2 r rfl (Nat.le_of_ble_eq_true rfl)).trans (raise_getF _ (still_RT_EVENT r) rfl (Nat.le_of_ble_eq_true rfl))

/-- A mismatch once raised stays raised. -/
theorem pageRead_event {proto : Nat} {e : Nat × Bytes} (h : s.getF (F.RT_EVENT_PARAM_MISMATCH r) = 1) :
    (s.pageRead r proto e).getF (F.RT_EVENT_PARAM_MISMATCH r) = 1 := by
  unfold pageRead
  dsimp only
  split
  · exact (pageAsked_getF_ne e (RT_EVENT_ne_RT_DIE _ _ _)).trans h
  · exact pageRefused_event e.1

theorem pageRead_status {f : Field} {q : Nat} (proto : Nat) (e : Nat × Bytes) (hf : f.off = R.RT_STATUS q) (hlow : f.lo + f.width ≤ 4) :
    (s.pageRead r proto e).getF f = s.getF f := by
  have hasked : (s.pageAsked r e).getF f = s.getF f := pageAsked_getF_ne e (by rw [hf]; unfold R.RT_STATUS R.RT_DIE; omega)
  unfold pageRead
  dsimp only
  split
  · exact hasked
  · unfold pageRefused
    rw [dieFault_status e.1 2 q hf hlow, raise_getF_ne _ (by rw [hf]; unfold still R.RT_STATUS R.MODE R.PWR_WAKE; omega)
      (by rw [hf]; show _ ≠ R.RT_EVENT _; unfold R.RT_STATUS R.RT_EVENT; omega), hasked]

/-- Another die of the route keeps its word, unless its operation has ended. -/
theorem pageRead_other {f : Field} {j : Nat} (proto : Nat) {e : Nat × Bytes} (hr : e.1 / 16 = r) (hf : f.off = R.RT_DIE (j / 16) (j % 16))
    (hj : s.dieSt j ≠ 4) (h : j ≠ e.1) : (s.pageRead r proto e).getF f = s.getF f := by
  have hasked : ∀ {g : Field}, g.off = R.RT_DIE (j / 16) (j % 16) → (s.pageAsked r e).getF g = s.getF g := fun hg =>
    pageAsked_getF_ne e (by rw [hg, ← hr]; exact dieWord_ne h)
  have hraised : ∀ {g : Field}, g.off = R.RT_DIE (j / 16) (j % 16) →
      ((s.pageAsked r e).raise (F.RT_EVENT_PARAM_MISMATCH r)).getF g = (s.pageAsked r e).getF g := fun hg =>
    raise_getF_ne _ (hg ▸ still_RT_DIE ..) (hg ▸ (RT_EVENT_ne_RT_DIE _ _ _).symm)
  have hst : ((s.pageAsked r e).raise (F.RT_EVENT_PARAM_MISMATCH r)).dieSt j = s.dieSt j := (hraised rfl).trans (hasked rfl)
  unfold pageRead
  dsimp only
  split
  · exact hasked hf
  · unfold pageRefused
    rw [dieFault_other 2 hf (hst ▸ hj) h, hraised hf, hasked hf]

/-! ### What each die shows -/

/-- A die that fits the route is identified; one that does not is in FAULT, and the mismatch is raised. -/
def PageShown (s t : State) (r proto : Nat) (e : Nat × Bytes) : Prop :=
  (field e.2 0 1 = proto ∧ s.pageFits e.1 e.2 = true → t.dieSt e.1 = 7) ∧
  (field e.2 0 1 ≠ proto ∨ s.pageFits e.1 e.2 = false →
    t.dieSt e.1 = 8 ∧ t.getF (F.RT_DIE_FAULT_CAUSE r (e.1 % 16)) = 2 ∧ t.getF (F.RT_EVENT_PARAM_MISMATCH r) = 1)

/-- The outcome holds in a state that shows the die's word, and the mismatch where it was raised. -/
theorem PageShown.congr {t u : State} {proto : Nat} {e : Nat × Bytes} (h : PageShown s t r proto e) (hst : u.dieSt e.1 = t.dieSt e.1)
    (hcause : u.getF (F.RT_DIE_FAULT_CAUSE r (e.1 % 16)) = t.getF (F.RT_DIE_FAULT_CAUSE r (e.1 % 16)))
    (hevent : t.getF (F.RT_EVENT_PARAM_MISMATCH r) = 1 → u.getF (F.RT_EVENT_PARAM_MISMATCH r) = 1) : PageShown s u r proto e := by
  obtain ⟨hfit, hno⟩ := h
  refine ⟨fun hyes => hst.trans (hfit hyes), fun hbad => ?_⟩
  obtain ⟨hfault, hc, hm⟩ := hno hbad
  exact ⟨hst.trans hfault, hcause.trans hc, hevent hm⟩

theorem PageShown.not_ended {t : State} {proto : Nat} {e : Nat × Bytes} (h : PageShown s t r proto e) : t.dieSt e.1 ≠ 4 := by
  obtain ⟨hfit, hno⟩ := h
  by_cases hyes : field e.2 0 1 = proto ∧ s.pageFits e.1 e.2 = true
  · rw [hfit hyes]
    decide
  · rw [(hno (by rw [not_and_or, Bool.not_eq_true] at hyes; exact hyes)).1]
    decide

theorem pageRead_shown {proto : Nat} {e : Nat × Bytes} (hproto : proto ≠ 0) (hr : e.1 / 16 = r) :
    PageShown s (s.pageRead r proto e) r proto e := by
  refine ⟨fun ⟨hsig, hfit⟩ => ?_, fun hbad => ?_⟩
  · rw [pageRead_fits hproto hsig hfit]
    exact pageAsked_die e hr
  · rw [pageRead_misfit hbad]
    obtain ⟨hst, hcause⟩ := dieFault_die (s := (s.pageAsked r e).raise (F.RT_EVENT_PARAM_MISMATCH r)) e.1 (cause := 2) (by decide)
    rw [hr] at hcause
    exact ⟨hst, hcause, pageRefused_event e.1⟩

/-- The pages of other dies leave a die's outcome. -/
theorem PageShown.pages {proto : Nat} {e : Nat × Bytes} (hr : e.1 / 16 = r) (l : List (Nat × Bytes)) :
    ∀ {t : State}, PageShown s t r proto e → (∀ x ∈ l, x.1 / 16 = r ∧ x.1 ≠ e.1) →
      PageShown s (l.foldl (fun u x => u.pageRead r proto x) t) r proto e := by
  induction l with
  | nil => exact fun h _ => h
  | cons x xs ih =>
    intro t h hl
    obtain ⟨⟨hx, hne⟩, hxs⟩ := List.forall_mem_cons.1 hl
    have hword : ∀ {f : Field}, f.off = R.RT_DIE (e.1 / 16) (e.1 % 16) → (t.pageRead r proto x).getF f = t.getF f := fun hf =>
      pageRead_other proto hx hf h.not_ended hne.symm
    exact ih (h.congr (hword rfl) (hword (by rw [hr]; rfl)) pageRead_event) hxs

/-- After all pages each die of them shows its outcome. -/
theorem pages_shown {proto : Nat} (hproto : proto ≠ 0) (l : List (Nat × Bytes)) :
    ∀ {t : State}, (∀ k p, t.pageFits k p = s.pageFits k p) → (∀ e ∈ l, e.1 / 16 = r) → (l.map Prod.fst).Nodup →
      ∀ e ∈ l, PageShown s (l.foldl (fun u x => u.pageRead r proto x) t) r proto e := by
  induction l with
  | nil => exact fun _ _ _ e he => absurd he List.not_mem_nil
  | cons x xs ih =>
    intro t hfits hr hnodup e he
    obtain ⟨hx, hxs⟩ := List.forall_mem_cons.1 hr
    obtain ⟨hnew, hrest⟩ := List.nodup_cons.1 hnodup
    rcases List.mem_cons.1 he with rfl | he
    · have hshown : PageShown s (t.pageRead r proto e) r proto e := by
        have hself : PageShown t (t.pageRead r proto e) r proto e := pageRead_shown hproto hx
        unfold PageShown at hself
        rwa [hfits] at hself
      exact hshown.pages hx xs fun y hy => ⟨hxs y hy, fun heq => hnew (heq ▸ List.mem_map_of_mem hy)⟩
    · exact ih (fun k p => (pageFits_of_frame (pageRead_frame proto x) rfl k p).trans (hfits k p)) hxs hrest e he

theorem pages_frame (proto : Nat) (l : List (Nat × Bytes)) :
    ∀ t : State, Frame pageParts t (l.foldl (fun u x => u.pageRead r proto x) t) := by
  induction l with
  | nil => exact fun t => Frame.refl t
  | cons x xs ih => exact fun t => (ih _).step (pageRead_frame proto x)

theorem pages_status {f : Field} {q : Nat} (proto : Nat) (hf : f.off = R.RT_STATUS q) (hlow : f.lo + f.width ≤ 4) (l : List (Nat × Bytes)) :
    ∀ t : State, (l.foldl (fun u x => u.pageRead r proto x) t).getF f = t.getF f := by
  induction l with
  | nil => exact fun _ => rfl
  | cons x xs ih => exact fun t => (ih _).trans (pageRead_status proto x hf hlow)

/-! ### Step 3 of training -/

theorem routeDies_nodup (s : State) (r : Nat) : (s.routeDies r).Nodup :=
  (List.nodup_range.map fun _ _ h => Nat.add_left_cancel h).filter _

theorem pagesOf_fst (data : List Bytes) : (s.pagesOf r data).map Prod.fst = s.routeDies r := by
  unfold pagesOf
  exact List.ext_getElem? fun i => by simp [Function.comp_def]

theorem div_of_mem_routeDies {k : Nat} (h : k ∈ s.routeDies r) : k / 16 = r := by
  obtain ⟨i, hi, rfl⟩ := mem_routeDies h
  unfold dieKey
  omega

theorem mem_pagesOf {data : List Bytes} {i k : Nat} (h : (s.routeDies r)[i]? = some k) : (k, data.getD i []) ∈ s.pagesOf r data := by
  obtain ⟨hi, hk⟩ := List.getElem?_eq_some_iff.1 h
  exact List.mem_mapIdx.2 ⟨i, hi, by rw [hk]⟩

/-- A read of the pages that gives a protocol, with no die lost before. -/
structure PagesGiven (s : State) (r proto : Nat) (data : List Bytes) : Prop where
  reset : (s.route r).resetBad = []
  present : ∀ k ∈ s.routeDies r, s.retired k = false
  known : proto = 1 ∨ proto = 2
  dies : s.routeDies r ≠ []
  first : field (data.getD 0 []) 0 1 = proto

section
variable {proto : Nat} {data : List Bytes} (g : PagesGiven s r proto data)
include g

theorem PagesGiven.eq : s.paramPages r data =
    (s.pagesOf r data).foldl (fun u e => u.pageRead r proto e) (s.setF (F.RT_STATUS_PROTOCOL r) (b2n (proto = 2))) :=
  paramPages_eq g.reset g.present g.known g.dies g.first

theorem PagesGiven.frame : Frame (pageParts ||| may [.regs 14]) s (s.paramPages r data) := by
  rw [g.eq]
  exact (pages_frame ..).after (State.setF_frame _ _ _ (by rw [regGroup_F_RT_STATUS_PROTOCOL]; rfl)
    (by rw [regGroup_F_RT_STATUS_PROTOCOL]; rfl)) rfl

theorem PagesGiven.shown {i k : Nat} (hk : (s.routeDies r)[i]? = some k) : PageShown s (s.paramPages r data) r proto (k, data.getD i []) := by
  have hfits : ∀ k p, (s.setF (F.RT_STATUS_PROTOCOL r) (b2n (proto = 2))).pageFits k p = s.pageFits k p := fun _ _ => rfl
  have hnodup : ((s.pagesOf r data).map Prod.fst).Nodup := by
    rw [pagesOf_fst]
    exact routeDies_nodup s r
  have hroute : ∀ e ∈ s.pagesOf r data, e.1 / 16 = r := fun e he => div_of_mem_routeDies (s := s) (by
    rw [← pagesOf_fst data]
    exact List.mem_map_of_mem he)
  rw [g.eq]
  exact pages_shown (by have := g.known; omega) _ hfits hroute hnodup _ (mem_pagesOf hk)

theorem PagesGiven.protocol : (s.paramPages r data).getF (F.RT_STATUS_PROTOCOL r) = proto - 1 := by
  rw [g.eq, pages_status proto rfl (Nat.le_of_ble_eq_true rfl), getF_setF_same _ _ _ (Nat.le_of_ble_eq_true rfl)]
  rcases g.known with rfl | rfl <;> rfl

theorem PagesGiven.routeSt : (s.paramPages r data).routeSt r = s.routeSt r := by
  unfold State.routeSt
  rw [g.eq, pages_status proto rfl (Nat.le_of_ble_eq_true rfl)]
  exact getF_setF_ne s _ (Or.inr (Or.inl (Nat.le_of_ble_eq_true rfl))) (Nat.le_of_ble_eq_true rfl)

theorem PagesGiven.goodDies {k : Nat} : k ∈ (s.paramPages r data).goodDies r ↔ k ∈ s.routeDies r ∧ (s.paramPages r data).dieSt k ≠ 8 := by
  unfold State.goodDies
  rw [routeDies_of_frame g.frame rfl, List.mem_filter, decide_eq_true_iff]

/-- Where a die fits, the training goes on with step 4, and each die shows whether it fits (R59, R60). -/
theorem PagesGiven.taken (h : s.Training r 3) (hfit : ∃ i k : Nat, (s.routeDies r)[i]? = some k ∧ field (data.getD i []) 0 1 = proto ∧
      s.pageFits k (data.getD i []) = true) :
    ∃ t, exec (.trainingStepDone r true data) s = .next t ∧ (t.route r).train = 4 ∧ t.getF (F.RT_STATUS_PROTOCOL r) = proto - 1 ∧
      ∀ i k : Nat, (s.routeDies r)[i]? = some k → PageShown s t r proto (k, data.getD i []) := by
  obtain ⟨i, k, hk, hyes⟩ := hfit
  have hgood : k ∈ (s.paramPages r data).goodDies r := g.goodDies.2 ⟨List.mem_of_getElem? hk, by
    rw [(g.shown hk).1 hyes]
    decide⟩
  have hsome : ((s.paramPages r data).goodDies r).isEmpty ≠ true := fun hnil =>
    List.not_mem_nil (List.isEmpty_iff.1 hnil ▸ hgood)
  refine ⟨_, (h.pagesRead data).trans (congrArg _ (if_neg hsome)), trainTo_train .., ?_, fun j x hx => ?_⟩
  · exact (getF_trainTo_status 4 (Nat.le_of_ble_eq_true rfl)).trans g.protocol
  · exact (g.shown hx).congr (getF_trainTo_status (f := F.RT_DIE_STATE (x / 16) (x % 16)) 4 (Nat.le_of_ble_eq_true rfl))
      (getF_trainTo r 4 (Or.inr (Or.inr (Nat.le_of_ble_eq_true rfl))))
      (getF_trainTo_status 4 (Nat.le_of_ble_eq_true rfl)).trans

/-- Where no die fits, the route goes down with cause 4. -/
theorem PagesGiven.refused (h : s.Training r 3) (hnone : ∀ i k : Nat, (s.routeDies r)[i]? = some k → s.pageFits k (data.getD i []) = false)
    (hup : s.routeSt r ≠ 0) :
    ∃ t, exec (.trainingStepDone r true data) s = .next t ∧ t.routeSt r = 0 ∧ t.getF (F.RT_PHY_STATUS_DOWN_CAUSE r) = 4 := by
  have hempty : ((s.paramPages r data).goodDies r).isEmpty = true := List.isEmpty_iff.2 <| List.eq_nil_iff_forall_not_mem.2 fun k hk => by
    obtain ⟨hin, hst⟩ := g.goodDies.1 hk
    obtain ⟨i, hi⟩ := List.getElem?_of_mem hin
    exact hst ((g.shown hi).2 (Or.inr (hnone i k hi))).1
  have hdown := routeDown_ends (s := s.paramPages r data) (r := r) 4 (by rw [g.routeSt]; exact hup)
  obtain ⟨hst, hcause, -⟩ := hdown
  exact ⟨_, (h.pagesRead data).trans (congrArg _ (if_pos hempty)), hst, hcause⟩

end

end State
end Sys2Proof.Machine
end

section
/-! PROOFS. Routes are trained: one lemma for each step of Table 5-3. -/

namespace Sys2Proof.Machine
namespace State

variable {s : State} {r : Nat}

/-- Step 3, for the protocol that the first die's page gives. -/
theorem Training.pagesRead_shows {proto : Nat} {data : List Bytes} (h : s.Training r 3) (hreset : (s.route r).resetBad = [])
    (hpresent : ∀ k ∈ s.routeDies r, s.retired k = false) (hknown : proto = 1 ∨ proto = 2) (hdies : s.routeDies r ≠ [])
    (hfirst : ∀ i k : Nat, (s.routeDies r)[i]? = some k → i = 0 → field (data.getD i []) 0 1 = proto) :
    ((∃ i k : Nat, (s.routeDies r)[i]? = some k ∧ field (data.getD i []) 0 1 = proto ∧ s.pageFits k (data.getD i []) = true) →
      ∃ t, exec (.trainingStepDone r true data) s = .next t ∧ (t.route r).train = 4 ∧ t.getF (F.RT_STATUS_PROTOCOL r) = proto - 1 ∧
      ∀ i k : Nat, (s.routeDies r)[i]? = some k → PageShown s t r proto (k, data.getD i [])) ∧
    ((∀ i k : Nat, (s.routeDies r)[i]? = some k → s.pageFits k (data.getD i []) = false) → s.routeSt r ≠ 0 →
      ∃ t, exec (.trainingStepDone r true data) s = .next t ∧ t.routeSt r = 0 ∧ t.getF (F.RT_PHY_STATUS_DOWN_CAUSE r) = 4) := by
  have hhead := hfirst 0 _ (List.getElem?_eq_getElem (List.length_pos_of_ne_nil hdies)) rfl
  have given : PagesGiven s r proto data := ⟨hreset, hpresent, hknown, hdies, hhead⟩
  exact ⟨given.taken h, given.refused h⟩

end State

/-- Settles O41: a reimage and a training's start each change the route at once, and each step of training is one lemma about
`State.Training`, a state in which that step of the route may end. -/
theorem routesAreTrained : Obligations.RoutesAreTrained := by
  refine ⟨routeReimage_takesImage, trainingStart_starts, fun s r n data hr hn hmode => ?_⟩
  have h : s.Training r n := ⟨hr, hn.symm, hmode⟩
  clear hn
  refine ⟨?power, ?clock, ?pages, ?rate, fun hmem => h.goesOn_next hmem data, fun hmem h255 hup heyes => h.lanesRead_good hmem h255 hup heyes,
    fun hmem => h.lanesWritten_codes hmem data, ?rateRefused, ?rateTaken, fun hmem hup _ => h.failed_down hmem hup data, ?verified,
    ?verifyRefused, ?ledgerEmpty, ?ledgerIntent, ?ledgerLost, ?recovered⟩
  case power => rintro rfl; exact h.powerGood_shows data
  case clock => rintro rfl; exact h.clockGood_resets data
  case pages =>
    rintro proto rfl hreset hpresent hknown hdies _ hfirst
    exact h.pagesRead_shows hreset hpresent hknown hdies hfirst
  case rate => rintro rfl; exact h.rateSelected_shows data
  case rateRefused => rintro rfl hfa; exact h.rateRaised_refused hfa data
  case rateTaken => rintro rfl hfa hread; exact h.rateRaised_taken hfa hread
  case verified => rintro rfl hup heyes; exact h.verified_good hup heyes
  case verifyRefused => rintro ok rfl hrate hbad; exact h.verified_refused hrate hbad
  case ledgerEmpty =>
    rintro rfl htemps hempty
    exact h.scanned_empty htemps fun k hk => let ⟨hkept, hfirst, hsecond⟩ := hempty k hk; ⟨hkept, hfirst, hsecond⟩
  case ledgerIntent =>
    rintro k e nx l m rfl hmode3 htemps hone hx hkept hfirst hsecond hintent hroom
    exact h.scanned_intent hmode3 htemps hone hx hkept hfirst hsecond hintent hroom
  case ledgerLost =>
    rintro k l rfl hmode3 htemps hone hx hfirst hroom
    exact h.scanned_lost hmode3 htemps hone hx hfirst hroom
  case recovered => rintro rfl hmode3 hall hidle hnone; exact h.recovered_nothing hmode3 hall hidle data hnone

end Sys2Proof.Machine
end

section
/-! PROOFS. A temperature reading that is taken at once can wake a core (R94, R95, R260). -/

namespace Sys2Proof.Machine
namespace State

/-- While `TEMP_FA` is 0 a temperature read that falls due takes the junction temperature at once (R95). -/
theorem tempReadDue_junction {s : State} {r d : Nat} (p1 : Byte) (hon : s.dieOn (dieKey r d) = true) (hup : s.routeSt r = 2)
    (hruns : s.tempRuns = true) (hfa : s.getF F.PWR_WG_CTRL_TEMP_FA = 0) :
    exec (.tempReadDue r d p1) s = .next (s.takeTemp (dieKey r d) s.junctionReading) := by
  change execTempReadDue r d p1 s = _
  unfold execTempReadDue
  dsimp only
  rw [if_neg (by simp [hon, hup, hruns]), if_pos hfa]

/-- SERVICE mode with one die on route 0, `TEMP_FA` 0 and every junction sensor in fault; the notice of a sensor fault is enabled and
watched, and its target, core 0, sleeps. -/
def sensorsLost : State :=
  let s : State := { State.reset with img := { effMask := 1, eff := [{ dies := 1 }] }, ntc := { cores := [(0, { idle := true })] } }
  let s := ((s.setF F.MODE_MODE 4).setF (F.RT_STATUS_STATE 0) 2).setF F.PWR_TEMP_FAULT_MASK 255
  ((s.setF ⟨R.PWR_WG_CTRL, 16 + F.PWR_WG_EVENT_SENSOR_FAULT.lo, 1⟩ 1).setR (R.NTC_ISRC 3) 0x30).setR R.NTC_SLEEP 1

/-- The temperature read of its die may be made, and takes the junction temperature. -/
theorem sensorsLost_reads : sensorsLost.dieOn (dieKey 0 0) = true ∧ sensorsLost.routeSt 0 = 2 ∧ sensorsLost.tempRuns = true ∧
    sensorsLost.getF F.PWR_WG_CTRL_TEMP_FA = 0 := by decide +kernel

/-- The reading is a sensor fault, and its event wakes the core. -/
theorem sensorsLost_wakes : (sensorsLost.takeTemp (dieKey 0 0) sensorsLost.junctionReading).out = sensorsLost.out ++ [.pmWake 0] := by
  decide +kernel

end State

/-- Refutes O37: where the junction temperature is the reading (its last clause), the event that the reading raises may wake a sleeping
core, so the output does not stay as it was. -/
theorem not_timeoutsGuardAndTemperaturesAct : ¬ Obligations.TimeoutsGuardAndTemperaturesAct := by
  unfold Obligations.TimeoutsGuardAndTemperaturesAct
  rintro ⟨-, -, -, -, -, htemp⟩
  obtain ⟨hon, hup, hruns, hfa⟩ := State.sensorsLost_reads
  obtain ⟨-, hjunction⟩ := htemp State.sensorsLost 0 0 (dieKey 0 0) 0 (by decide) (by decide) rfl hon hup hruns
  obtain ⟨t, ht, -, hout⟩ := hjunction hfa
  rw [State.tempReadDue_junction 0 hon hup hruns hfa] at ht
  rw [← Host.Outcome.next.inj ht, State.sensorsLost_wakes] at hout
  exact absurd hout (by simp)

end Sys2Proof.Machine
end

section
/-! PROOFS. What a die holds after the operations that the sequencers share: its state, its turn on the bus, and what is joined to an
operation (R65, R67, R95). -/

namespace Sys2Proof.Machine

/-- From `a` to `b` an operation has been joined by others, which changes neither its kind nor how far it has come. -/
structure DieOp.Joined (a b : DieOp) : Prop where
  id : b.id = a.id
  cls : b.cls = a.cls
  step : b.step = a.step
  noLedger : b.noLedger = a.noLedger
  switch : b.switch = a.switch
  merging : b.merging = a.merging

theorem DieOp.Joined.refl (a : DieOp) : a.Joined a := ⟨rfl, rfl, rfl, rfl, rfl, rfl⟩

theorem DieOp.Joined.trans {a b c : DieOp} (h : a.Joined b) (k : b.Joined c) : a.Joined c :=
  ⟨k.id.trans h.id, k.cls.trans h.cls, k.step.trans h.step, k.noLedger.trans h.noLedger, k.switch.trans h.switch, k.merging.trans h.merging⟩

namespace State

variable {s : State}

/-! ### A die's turn on the bus (R65) -/

@[simp] theorem die_want_same (k : Nat) (a : BusAct) : (s.want k a).die k = { s.die k with want := some a, since := s.seq.nextId } :=
  die_setDie_same ..

theorem die_want_ne {j k : Nat} (a : BusAct) (h : j ≠ k) : (s.want k a).die j = s.die j := die_setDie_ne s.fresh.2 _ h

@[simp] theorem out_want (k : Nat) (a : BusAct) : (s.want k a).out = s.out := rfl
@[simp] theorem getF_want (k : Nat) (a : BusAct) (f : Field) : (s.want k a).getF f = s.getF f := rfl
@[simp] theorem getR_want (k : Nat) (a : BusAct) (off : Nat) : (s.want k a).getR off = s.getR off := rfl
@[simp] theorem dieSt_want (j k : Nat) (a : BusAct) : (s.want k a).dieSt j = s.dieSt j := rfl
@[simp] theorem waiting_want (k : Nat) (a : BusAct) : (s.want k a).seq.waiting = s.seq.waiting := rfl
@[simp] theorem dieSt_setDie (j k : Nat) (d : Die) : (s.setDie k d).dieSt j = s.dieSt j := rfl
@[simp] theorem waiting_setDie (k : Nat) (d : Die) : (s.setDie k d).seq.waiting = s.seq.waiting := rfl

/-! ### A die's state (R95, R300) -/

/-- A temperature read that is due takes its turn; nothing else of the die changes. -/
theorem die_tempTurn (k : Nat) : ∃ n, (s.tempTurn k).die k = { s.die k with tempSince := n } := by
  unfold State.tempTurn
  split
  · exact ⟨s.seq.nextId, die_setDie_same ..⟩
  · exact ⟨_, rfl⟩

/-- Of a die that does not become RETIRED a change of state changes at most the turn of its temperature read. -/
theorem die_setDieSt {k v : Nat} (h : (s.die k).retiring = false ∨ v ≠ 1) : ∃ n, (s.setDieSt k v).die k = { s.die k with tempSince := n } := by
  unfold State.setDieSt
  rw [if_neg (by rintro ⟨rfl, hr⟩; rcases h with h | h <;> simp_all), die_setF]
  split
  · exact die_tempTurn k
  · exact ⟨_, rfl⟩

theorem die_setDieSt_ne_idle {j k v : Nat} (h : v ≠ 1) : (s.setDieSt k v).die j = s.die j := by
  unfold State.setDieSt
  rw [if_neg fun hv => h hv.1, if_neg h, die_setF]

/-! ### Joining (R67) -/

/-- The operations of `w` wait, and nothing else changes. -/
def withWaiting (s : State) (w : List DieOp) : State := { s with seq := { s.seq with waiting := w } }

theorem withWaiting_frame (w : List DieOp) : Frame (may [.flash]) s (s.withWaiting w) := withSeq_frame _

theorem merge_joined (o c : DieOp) : o.Joined (s.merge o c) := ⟨rfl, rfl, rfl, rfl, rfl, rfl⟩

/-- What joins an operation leaves those that wait, and nothing else changes. -/
theorem joinAll_joined (o : DieOp) : o.Joined (s.joinAll o).1 ∧ ∃ w, w ⊆ s.seq.waiting ∧
    (s.joinAll o).2 = s.withWaiting w := by
  unfold State.joinAll
  generalize s.waitingFor o.die = l
  have hstep : ∀ (l : List DieOp) (a : DieOp) (u : State), (∃ w, w ⊆ s.seq.waiting ∧ u = s.withWaiting w) →
      o.Joined a → let p := l.foldl (fun (acc : DieOp × State) c =>
        if acc.2.joins acc.1 c then (acc.2.merge acc.1 c, acc.2.unwait c.id) else acc) (a, u)
      o.Joined p.1 ∧ ∃ w, w ⊆ s.seq.waiting ∧ p.2 = s.withWaiting w := by
    intro l
    induction l with
    | nil => exact fun a u hu ha => ⟨ha, hu⟩
    | cons c l ih =>
      intro a u hu ha
      rw [List.foldl_cons]
      dsimp only
      split
      · refine ih _ _ ?_ (ha.trans (merge_joined a c))
        obtain ⟨w, hw, rfl⟩ := hu
        exact ⟨_, fun x hx => hw (List.mem_of_mem_filter hx), rfl⟩
      · exact ih a u hu ha
  exact hstep l o s ⟨_, fun _ h => h, rfl⟩ (.refl o)

end State
end Sys2Proof.Machine
end

section
/-! PROOFS. How a die operation begins, and the steps of an erase bracket (R67, R74, R97, R100 to R102). -/

namespace Sys2Proof.Machine

namespace State

variable {s : State}

/-! ### The steps of an erase bracket (R100 to R102) -/

/-- The step that erases the blocks waits for its command. -/
theorem startStep_erase (k : Nat) (o : DieOp) : ((s.startStep k o 2).die k).op = some { o with step := 2, running := true, failed := false } ∧
    ((s.startStep k o 2).die k).want = some .eraseCmd ∧ ((s.startStep k o 2).die k).ledger = (s.die k).ledger ∧
    Frame (may [.flash]) s (s.startStep k o 2) := by
  unfold State.startStep
  rw [if_pos rfl, die_want_same, die_setDie_same]
  exact ⟨rfl, rfl, rfl, (State.want_frame ..).after (State.setDie_frame ..) rfl⟩

/-- A step that writes a ledger entry waits for its data-in; the entry takes the next generation. -/
theorem startStep_ledger {k n : Nat} (o : DieOp) (hn : n ≠ 2) (hnone : s.ledgerErased k n = none) :
    ∃ data, ((s.startStep k o n).die k).op = some { o with step := n, running := true, data := data } ∧
      ((s.startStep k o n).die k).want = some (.progData 0) ∧
      ((s.startStep k o n).die k).ledger.gen = ((s.die k).ledger.gen + 1) % 2 ^ 32 ∧ Frame (may [.flash, .freeValues]) s (s.startStep k o n) := by
  unfold State.startStep
  rw [if_neg hn]
  simp only [hnone]
  rw [die_want_same, die_setDie_same]
  refine ⟨_, rfl, rfl, ?_, (State.want_frame ..).after ((State.setDie_frame ..).after ((State.ledgerPage_frame ..).mono rfl) rfl) rfl⟩
  split <;> rfl

/-- The range invalidation of an erase is listed under the next epoch, and changes no die. -/
theorem eraseRange_lists (k : Nat) (blocks : List Nat) : (s.eraseRange k blocks).seq.dies = s.seq.dies ∧
    (s.eraseRange k blocks).ph.ranges = s.ph.ranges ++ [{ epoch := (s.ph.epoch + 1) % 65536, dies := [k], blocks := some blocks }] :=
  ⟨(State.phRange_frame s [k] (some blocks)).dies (by decide), rfl⟩

/-- A step that erases a ledger block invalidates its range first. -/
theorem startStep_range {k n b : Nat} (o : DieOp) (hn : n ≠ 2) (hsome : s.ledgerErased k n = some b) (hroom : s.ph.ranges.length < 8) :
    ((s.startStep k o n).die k).op = some { o with step := n, running := true, failed := false } ∧
      ((s.startStep k o n).die k).want = some .eraseCmd ∧
      (s.startStep k o n).ph.ranges = s.ph.ranges ++ [{ epoch := (s.ph.epoch + 1) % 65536, dies := [s.logicalDie k], blocks := some [b] }] ∧
      Frame (may [.flash, .pigeonholes, .integrity, .regs 7]) s (s.startStep k o n) := by
  unfold State.startStep
  rw [if_neg hn]
  simp only [hsome, if_neg (Nat.not_le.2 hroom)]
  rw [die_want_same, die_setDie_same]
  exact ⟨rfl, rfl, (eraseRange_lists (s.logicalDie k) [b]).2,
    (State.want_frame ..).after ((State.setDie_frame ..).after ((State.eraseRange_frame ..).mono rfl) rfl) rfl⟩

/-- With the list of ranges full it waits. -/
theorem startStep_full {k n b : Nat} (o : DieOp) (hn : n ≠ 2) (hsome : s.ledgerErased k n = some b) (hfull : 8 ≤ s.ph.ranges.length) :
    s.startStep k o n = s.raise F.MI_PH_EVENT_RANGE_WAIT := by
  unfold State.startStep
  rw [if_neg hn]
  simp only [hsome, if_pos hfull]

/-- No ledger block is erased by the step that erases the blocks. -/
theorem ledgerErased_ne {k n b : Nat} (h : s.ledgerErased k n = some b) : n ≠ 2 := by
  rintro rfl
  cases h

/-! ### Events change no die and no operation -/

theorem fire_seq (src : Nat) : (s.fire src).seq = s.seq := by
  have hmod : ∀ u : State, (u.moderate src).seq = u.seq := fun u => by
    unfold State.moderate State.releaseGroup
    simp only [apply_ite State.seq, ite_self]
  have hwatch : ∀ u : State, (u.watchWake src).seq = u.seq := fun u => by unfold State.watchWake; split <;> rfl
  have hhold : ∀ u : State, (u.holdWake 2 src).seq = u.seq := fun u => by unfold State.holdWake; split <;> rfl
  unfold State.fire
  split
  · rfl
  · split
    · rfl
    · split
      · exact hmod s
      · dsimp only
        split
        · rw [hhold, hwatch, hmod]; rfl
        · rw [hwatch, hmod]; rfl

/-- A raised event changes nothing of the dies, the routes and the operations. -/
theorem raise_seq (f : Field) : (s.raise f).seq = s.seq := by
  unfold State.raise
  dsimp only
  split
  · split
    · rw [fire_seq]; rfl
    · rfl
  · rfl

/-! ### An operation begins (R67, R74) -/

/-- Die `k` holds an operation that has begun; SUSPENDS counts for a program or erase from now on. -/
def opHeld (s : State) (k : Nat) (o : DieOp) : State :=
  let s := s.setDie k { s.die k with op := some o, minRun := false }
  if o.cls = 1 then s else s.setF (F.RT_DIE_SUSPENDS (k / 16) (k % 16)) 0

theorem opHeld_die (k : Nat) (o : DieOp) : (s.opHeld k o).die k = { s.die k with op := some o, minRun := false } := by
  unfold opHeld
  dsimp only
  split
  · exact die_setDie_same ..
  · rw [die_setF, die_setDie_same]

theorem opHeld_die_ne {j k : Nat} (o : DieOp) (h : j ≠ k) : (s.opHeld k o).die j = s.die j := by
  unfold opHeld
  dsimp only
  split
  · exact die_setDie_ne _ _ h
  · rw [die_setF, die_setDie_ne _ _ h]

theorem opHeld_dieSt (k : Nat) (o : DieOp) : (s.opHeld k o).dieSt k = s.dieSt k := by
  unfold opHeld
  dsimp only
  split
  · rfl
  · exact getF_setF_ne _ _ (Or.inr (Or.inl (Nat.le_of_ble_eq_true rfl))) (Nat.le_of_ble_eq_true rfl)

theorem opHeld_waiting (k : Nat) (o : DieOp) : (s.opHeld k o).seq.waiting = s.seq.waiting := by
  unfold opHeld
  dsimp only
  split <;> rfl

theorem opHeld_frame (k : Nat) (o : DieOp) : Frame (may [.flash, .regs 17]) s (s.opHeld k o) := by
  unfold opHeld
  refine .ite ((State.setDie_frame ..).mono rfl) ((setF_frame _ (F.RT_DIE_SUSPENDS _ _) _ ?_ ?_).step ((State.setDie_frame ..).mono rfl))
  · rw [regGroup_F_RT_DIE_SUSPENDS]; rfl
  · rw [regGroup_F_RT_DIE_SUSPENDS]; rfl

theorem opHeld_read_frame {o : DieOp} (k : Nat) (h : o.cls = 1) : Frame (may [.flash]) s (s.opHeld k o) := by
  unfold opHeld
  dsimp only
  rw [if_pos h]
  exact State.setDie_frame ..

/-- An operation that begins takes what may be joined to it from those that wait. -/
theorem startOp_eq (k : Nat) (o : DieOp) : ∃ b w, (s.opStarts o).Joined b ∧ w ⊆ s.seq.waiting ∧ ∃ u, u = (s.withWaiting w).opHeld k b ∧
    s.startOp k o = if b.cls = 3 then (u.setDieSt k 6).startStep k b ((u.nextStep k b).getD 2) else u.want k (u.firstAct b) := by
  obtain ⟨hjoined, w, hw, hrest⟩ := joinAll_joined (s := s) (s.opStarts o)
  refine ⟨(s.joinAll (s.opStarts o)).1, w, hjoined, hw, _, rfl, ?_⟩
  rw [← hrest]
  rfl

/-- A read or program that begins waits for its first bus activity; no other die changes. -/
theorem startOp_waits {o : DieOp} (k : Nat) (hcls : o.cls ≠ 3) : ∃ b a, (s.opStarts o).Joined b ∧ ((s.startOp k o).die k).op = some b ∧
    ((s.startOp k o).die k).want = some a ∧ (o.cls ≠ 1 → a = .progData 0) ∧ (s.startOp k o).seq.waiting ⊆ s.seq.waiting ∧
    (∀ j, j ≠ k → (s.startOp k o).die j = s.die j) ∧ (s.startOp k o).dieSt k = s.dieSt k ∧
    Frame (may [.flash, .regs 17]) s (s.startOp k o) := by
  obtain ⟨b, w, hb, hw, u, hu, heq⟩ := startOp_eq (s := s) k o
  rw [heq, if_neg (by rw [hb.cls]; exact hcls), hu]
  refine ⟨b, _, hb, ?_, by rw [die_want_same], fun h => ?_, ?_, fun j hj => ?_, ?_, ?_⟩
  · rw [die_want_same, opHeld_die]
  · unfold State.firstAct
    rw [if_neg (by rw [hb.cls]; exact h)]
  · rw [waiting_want, opHeld_waiting]
    exact hw
  · rw [die_want_ne _ hj, opHeld_die_ne _ hj]
    rfl
  · rw [dieSt_want, opHeld_dieSt]
    rfl
  · exact (State.want_frame ..).after ((opHeld_frame ..).step ((withWaiting_frame w).mono rfl)) rfl

/-- A read that begins changes nothing but the dies and the operations. -/
theorem startOp_read_frame {o : DieOp} (k : Nat) (hcls : o.cls = 1) : Frame (may [.flash]) s (s.startOp k o) := by
  obtain ⟨b, w, hb, -, u, rfl, heq⟩ := startOp_eq (s := s) k o
  have hread : b.cls = 1 := hb.cls.trans hcls
  rw [heq, if_neg (by omega)]
  exact (State.want_frame ..).after ((opHeld_read_frame k hread).after (withWaiting_frame w) rfl) rfl

/-- The first step of a bracket (R100, R102): the INTENT of the erase, or of the ledger switch before it where the ledger has no room. -/
theorem nextStep_first {k : Nat} {o : DieOp} (hledger : o.noLedger = false) (hswitch : o.switch = false) (hstep : o.step = 0)
    (hdue : (s.die k).ledger.due = false) : s.nextStep k o = some (if (s.geo k).pages - (s.die k).ledger.next < 3 then 5 else 1) := by
  unfold State.nextStep
  simp [hledger, hswitch, hstep, hdue]

/-- An erase that begins waits for the ledger program of its bracket. -/
theorem startOp_bracket {k : Nat} {o : DieOp} (hcls : o.cls = 3) (hledger : o.noLedger = false) (hswitch : o.switch = false)
    (hstep : o.step = 0) (hdue : (s.die k).ledger.due = false) : ∃ b, ((s.startOp k o).die k).op = some b ∧ b.id = o.id ∧
      b.step = (if (s.geo k).pages - (s.die k).ledger.next < 3 then 5 else 1) ∧ b.running = true ∧
      ((s.startOp k o).die k).want = some (.progData 0) ∧ (s.startOp k o).dieSt k = 6 ∧
      ((s.startOp k o).die k).ledger.gen = ((s.die k).ledger.gen + 1) % 2 ^ 32 ∧ Frame (may [.flash, .freeValues, .regs 17]) s (s.startOp k o) := by
  obtain ⟨b, w, hb, -, u, hu, heq⟩ := startOp_eq (s := s) k o
  have hdie : u.die k = { s.die k with op := some b, minRun := false } := hu ▸ opHeld_die k b
  have hframe : Frame (may [.flash, .regs 17]) s u := hu ▸ (opHeld_frame ..).step ((withWaiting_frame w).mono rfl)
  have hgeo : u.geo k = s.geo k := by
    unfold State.geo State.dieClass State.routeCfg
    rw [hframe.img (by decide)]
  have hfirst := nextStep_first (s := u) (k := k) (o := b) (hb.noLedger.trans hledger) (hb.switch.trans hswitch)
    (hb.step.trans hstep) (by rw [hdie]; exact hdue)
  rw [hgeo, hdie] at hfirst
  rw [heq, if_pos (hb.cls.trans hcls), hfirst, Option.getD_some]
  generalize hn : (if (s.geo k).pages - (s.die k).ledger.next < 3 then 5 else 1) = n
  have hcases : n = 5 ∨ n = 1 := by split at hn <;> omega
  have hkept : (u.setDieSt k 6).die k = u.die k := die_setDieSt_ne_idle (by decide)
  obtain ⟨data, hop, hwant, hgen, hstarted⟩ := startStep_ledger (s := u.setDieSt k 6) (k := k) (n := n) b (by omega)
    (by rcases hcases with rfl | rfl <;> rfl)
  refine ⟨_, hop, hb.id, hn.symm ▸ rfl, rfl, hwant, ?_, hgen.trans (by rw [hkept, hdie]), ?_⟩
  · rw [dieSt_of_frame hstarted (by decide), dieSt_setDieSt_same (Or.inr (by decide)) (by decide)]
  · exact (hstarted.mono rfl).step ((State.setDieSt_frame ..).after (hframe.mono rfl) rfl)

end State
end Sys2Proof.Machine
end

section
/-! PROOFS. An arbitration grants an idle die, and the commands that move a die operation on (R67, R74, R96, R97, R100, R103 to R105, R110). -/

namespace Sys2Proof.Machine
namespace State

variable {s : State} {k : Nat}

/-! ### Granting (R67, R74, R96) -/

/-- The operation leaves those that wait, and the rotation pointer of its class moves on. -/
def picked (s : State) (k : Nat) (o : DieOp) (ptr : Option Nat) : State := (s.unwait o.id).movePtr k o.cls ptr

theorem picked_die (o : DieOp) (ptr : Option Nat) : ∃ l, (s.picked k o ptr).die k = { s.die k with ptrs := l } := by
  unfold picked State.movePtr
  split
  · exact ⟨_, die_setDie_same ..⟩
  · exact ⟨_, rfl⟩

theorem picked_die_ne {j : Nat} (o : DieOp) (ptr : Option Nat) (h : j ≠ k) : (s.picked k o ptr).die j = s.die j := by
  unfold picked State.movePtr
  split
  · exact die_setDie_ne _ _ h
  · rfl

theorem mem_picked_waiting {o x : DieOp} {ptr : Option Nat} (h : x ∈ (s.picked k o ptr).seq.waiting) : x ∈ s.seq.waiting ∧ x.id ≠ o.id := by
  have hwaiting : (s.picked k o ptr).seq.waiting = s.seq.waiting.filter (·.id ≠ o.id) := by
    unfold picked State.movePtr
    split <;> rfl
  rw [hwaiting] at h
  simpa using h

theorem picked_frame (o : DieOp) (ptr : Option Nat) : Frame (may [.flash]) s (s.picked k o ptr) :=
  (State.movePtr_frame ..).after (State.unwait_frame ..) rfl

theorem mergeWaits_picked (o : DieOp) (ptr : Option Nat) : (s.picked k o ptr).mergeWaits o = s.mergeWaits o := by
  unfold picked State.movePtr
  cases ptr <;> rfl

/-- An operation that waits for no other plane begins as it is granted. -/
theorem grantOp_begins {o : DieOp} (ptr : Option Nat) (h : s.mergeWaits o = false) : s.grantOp k o ptr = (s.picked k o ptr).startOp k o := by
  unfold State.grantOp
  dsimp only
  have hpicked : ((s.unwait o.id).movePtr k o.cls ptr).mergeWaits o = false := (mergeWaits_picked o ptr).trans h
  rw [hpicked]
  rfl

theorem mergeWaits_not_read {o : DieOp} (h : o.cls ≠ 1) : s.mergeWaits o = false := by
  unfold State.mergeWaits
  simp [h]

/-! ### The re-erase ahead of a program (R110) -/

/-- An erase is a recovery erase where it is asked to be. -/
theorem enqueueErase_recovery {e : DieOp} {b ord : Nat} {p : Purpose} {origin : Origin} {recovery : Bool}
    (h : (s.enqueueErase k [b] p origin ord recovery).seq.waiting = s.seq.waiting ++ [e]) : e.recovery = recovery := by
  obtain ⟨x, hwaiting, hrecovery⟩ : ∃ x, (s.enqueueErase k [b] p origin ord recovery).seq.waiting = s.seq.waiting ++ [x] ∧
      x.recovery = recovery := by
    unfold State.enqueueErase
    dsimp only
    split
    · exact ⟨_, congrArg (· ++ [_]) (rangeWait_keeps (s := s)).1, rfl⟩
    · exact ⟨_, congrArg (· ++ [_]) (eraseRange_keeps (s := s) k [b]).1, rfl⟩
  obtain rfl : x = e := List.singleton_inj.1 (List.append_cancel_left (hwaiting.symm.trans h))
  exact hrecovery

theorem enqueueErase_dies (b ord : Nat) (p : Purpose) (origin : Origin) (recovery : Bool) :
    (s.enqueueErase k [b] p origin ord recovery).seq.dies = s.seq.dies := by
  unfold State.enqueueErase
  dsimp only
  split
  · exact congrArg Seq.dies (raise_seq (s := s) F.MI_PH_EVENT_RANGE_WAIT) ▸ rfl
  · exact (eraseRange_lists (s := s) k [b]).1

/-- A program stands aside for the re-erase of its block. -/
theorem eraseAhead_stands (o : DieOp) (p : Nat) : ∃ e, (s.eraseAhead o p).seq.ahead = s.seq.ahead ++ [o] ∧
    e ∈ (s.eraseAhead o p).seq.waiting ∧ e.cls = 3 ∧ e.purpose = [.eraseAhead o.id] ∧ e.recovery = true ∧
    e.pages = [s.busAddr (mkAddr (s.logicalDie (addrDie p)) (addrBlock p) 0 0)] ∧ ∀ k, (s.eraseAhead o p).die k = s.die k := by
  obtain ⟨e, hahead, hwaiting, hcls, hpurpose, hpages, -⟩ := eraseAhead_waits (s := s) o p
  refine ⟨e, hahead, by simp [hwaiting], hcls, hpurpose, enqueueErase_recovery hwaiting, hpages, fun k => ?_⟩
  exact congrArg (fun l => tget (fun _ => {}) l k) (enqueueErase_dies (s := { s with seq := { s.seq with ahead := s.seq.ahead ++ [o] } }) ..)

/-! ### An arbitration of an idle die (R74, R96) -/

/-- Route `r` grants its die `d` the operation `o`, which the arbitration picks: the die is idle, holds nothing and resumes nothing. -/
structure Grants (s : State) (r d us : Nat) (o : DieOp) (ptr : Option Nat) : Prop where
  die : d < 16
  route : s.grants r = true
  idle : s.dieSt (dieKey r d) = 1
  noOp : (s.die (dieKey r d)).op = none
  noWant : (s.die (dieKey r d)).want = none
  noResume : s.resumeDue (dieKey r d) = false
  pick : s.pickOp (dieKey r d) (s.belowShare (dieKey r d) us) = some (o, ptr)

namespace Grants

variable {r d us : Nat} {o : DieOp} {ptr : Option Nat} (g : Grants s r d us o ptr)
include g

theorem exec_eq : exec (.dieGrant r d us) s = .next (
    if o.cls ≠ 1 ∧ s.guardHolds r then s.guardHold o
    else match (if o.cls = 2 then s.firstReerase o else none) with
      | some p => (s.unwait o.id).eraseAhead o p
      | none => s.grantOp (dieKey r d) o ptr) := by
  change execDieGrant r d us s = _
  unfold execDieGrant State.grantIdle
  simp only [g.idle, g.route, g.noOp, g.noWant, g.noResume, g.pick, dieKey_div r g.die]
  rfl

theorem held_back (hcls : o.cls ≠ 1) (hguard : s.guardHolds r = true) : exec (.dieGrant r d us) s = .next (s.guardHold o) := by
  rw [g.exec_eq, if_pos ⟨hcls, hguard⟩]

/-- The operation begins: the guard does not hold it, and no block of it must be erased first. -/
theorem begins (hguard : o.cls = 1 ∨ s.guardHolds r = false) (hblock : o.cls = 2 → s.firstReerase o = none) (hmerge : s.mergeWaits o = false) :
    exec (.dieGrant r d us) s = .next ((s.picked (dieKey r d) o ptr).startOp (dieKey r d) o) := by
  have hnone : (if o.cls = 2 then s.firstReerase o else none) = none := by
    split
    next h => exact hblock h
    next => rfl
  have hfree : ¬ (o.cls ≠ 1 ∧ s.guardHolds r = true) := by rcases hguard with h | h <;> simp [h]
  rw [g.exec_eq, if_neg hfree, hnone, grantOp_begins ptr hmerge]

/-- A read begins with its first bus activity (R67). -/
theorem read (hcls : o.cls = 1) (hmerge : s.mergeWaits o = false) : ∃ t o', exec (.dieGrant r d us) s = .next t ∧
    (t.die (dieKey r d)).op = some o' ∧ o'.id = o.id ∧ o'.cls = 1 ∧ (t.die (dieKey r d)).want.isSome = true ∧
    (∀ x ∈ t.seq.waiting, x ∈ s.seq.waiting ∧ x.id ≠ o.id) ∧ (∀ j, j ≠ dieKey r d → t.die j = s.die j) ∧ Frame (may [.flash]) s t := by
  obtain ⟨b, a, hb, hop, hwant, -, hwaiting, hother, -, -⟩ :=
    startOp_waits (s := s.picked (dieKey r d) o ptr) (o := o) (dieKey r d) (by omega)
  refine ⟨_, b, g.begins (Or.inl hcls) (by omega) hmerge, hop, hb.id, hb.cls.trans hcls, by rw [hwant]; rfl,
    fun x hx => mem_picked_waiting (hwaiting hx), fun j hj => (hother j hj).trans (picked_die_ne o ptr hj), ?_⟩
  exact (picked_frame o ptr).trans (startOp_read_frame _ hcls)

/-- A program begins with its data-in. -/
theorem program (hcls : o.cls = 2) (hguard : s.guardHolds r = false) (hblock : s.firstReerase o = none) :
    ∃ t o', exec (.dieGrant r d us) s = .next t ∧ (t.die (dieKey r d)).op = some o' ∧ o'.id = o.id ∧ o'.cls = 2 ∧
      (t.die (dieKey r d)).want = some (.progData 0) ∧ t.dieSt (dieKey r d) = 1 ∧
      (∀ x ∈ t.seq.waiting, x ∈ s.seq.waiting ∧ x.id ≠ o.id) ∧ (∀ j, j ≠ dieKey r d → t.die j = s.die j) ∧
      Frame (may [.flash, .regs 17]) s t := by
  obtain ⟨b, a, hb, hop, hwant, hdata, hwaiting, hother, hst, hframe⟩ :=
    startOp_waits (s := s.picked (dieKey r d) o ptr) (o := o) (dieKey r d) (by omega)
  refine ⟨_, b, g.begins (Or.inr hguard) (fun _ => hblock) (mergeWaits_not_read (by omega)), hop, hb.id, hb.cls.trans hcls,
    by rw [hwant, hdata (by omega)], ?_, fun x hx => mem_picked_waiting (hwaiting hx),
    fun j hj => (hother j hj).trans (picked_die_ne o ptr hj), ((picked_frame o ptr).mono rfl).trans hframe⟩
  rw [hst, dieSt_of_frame (picked_frame o ptr) (by decide), g.idle]

/-- A program whose block must be erased first stands aside (R110). -/
theorem aside {p : Nat} (hcls : o.cls = 2) (hguard : s.guardHolds r = false) (hblock : s.firstReerase o = some p) :
    ∃ t e, exec (.dieGrant r d us) s = .next t ∧ t.seq.ahead = s.seq.ahead ++ [o] ∧ e ∈ t.seq.waiting ∧ e.cls = 3 ∧
      e.purpose = [.eraseAhead o.id] ∧ e.recovery = true ∧
      e.pages = [s.busAddr (mkAddr (s.logicalDie (addrDie p)) (addrBlock p) 0 0)] ∧ t.die (dieKey r d) = s.die (dieKey r d) := by
  obtain ⟨e, hahead, hmem, hkind, hpurpose, hrecovery, hpages, hdie⟩ := eraseAhead_stands (s := s.unwait o.id) o p
  refine ⟨_, e, ?_, hahead, hmem, hkind, hpurpose, hrecovery, hpages, hdie _⟩
  rw [g.exec_eq, if_neg (by simp [hguard]), if_pos hcls, hblock]

/-- An erase begins with the ledger program of its bracket (R100, R102). -/
theorem erase (hcls : o.cls = 3) (hguard : s.guardHolds r = false) (hledger : o.noLedger = false) (hswitch : o.switch = false)
    (hstep : o.step = 0) (hdue : (s.die (dieKey r d)).ledger.due = false) : ∃ t o', exec (.dieGrant r d us) s = .next t ∧
      (t.die (dieKey r d)).op = some o' ∧ o'.id = o.id ∧
      o'.step = (if (s.geo (dieKey r d)).pages - (s.die (dieKey r d)).ledger.next < 3 then 5 else 1) ∧ o'.running = true ∧
      (t.die (dieKey r d)).want = some (.progData 0) ∧ t.dieSt (dieKey r d) = 6 ∧
      (t.die (dieKey r d)).ledger.gen = ((s.die (dieKey r d)).ledger.gen + 1) % 2 ^ 32 ∧ Frame (may [.flash, .freeValues, .regs 17]) s t := by
  have hpicked := picked_frame (s := s) (k := dieKey r d) o ptr
  obtain ⟨l, hdie⟩ := picked_die (s := s) (k := dieKey r d) o ptr
  have hgeo : (s.picked (dieKey r d) o ptr).geo (dieKey r d) = s.geo (dieKey r d) := by
    unfold State.geo State.dieClass State.routeCfg
    rw [hpicked.img (by decide)]
  obtain ⟨b, hop, hid, hfirst, hrun, hwant, hst, hgen, hframe⟩ :=
    startOp_bracket (s := s.picked (dieKey r d) o ptr) (k := dieKey r d) hcls hledger hswitch hstep (by rw [hdie]; exact hdue)
  rw [hgeo, hdie] at hfirst
  rw [hdie] at hgen
  exact ⟨_, b, g.begins (Or.inr hguard) (by omega) (mergeWaits_not_read (by omega)), hop, hid, hfirst, hrun, hwant, hst, hgen,
    (hpicked.mono rfl).trans hframe⟩

end Grants

/-! ### Suspend and resume (R97, R103 to R105) -/

theorem not_idle_of_suspendDue (h : s.suspendDue k = true) : s.dieSt k ≠ 1 := by
  intro hst
  unfold State.suspendDue at h
  split at h <;> simp [hst] at h

/-- A suspend that is due, and whose minimum run time is over, is asked for. -/
theorem dieGrant_suspends {r d : Nat} (us : Nat) (hgrants : s.grants r = true) (hdue : s.suspendDue (dieKey r d) = true)
    (hrun : (s.die (dieKey r d)).minRun = true) : exec (.dieGrant r d us) s = .next (s.want (dieKey r d) .suspend) := by
  change execDieGrant r d us s = _
  unfold execDieGrant
  dsimp only
  rw [if_neg (not_idle_of_suspendDue hdue), if_pos ⟨hgrants, hdue, hrun⟩]

theorem mergeWaitExpiry_begins {r d : Nat} {o : DieOp} (hop : (s.die (dieKey r d)).op = some o) (hmerging : o.merging = true)
    (hgrants : s.grants r = true) : exec (.mergeWaitExpiry r d) s = .next (s.startOp (dieKey r d) o) := by
  change execMergeWaitExpiry r d s = _
  unfold execMergeWaitExpiry
  simp only [hop, if_pos (And.intro hmerging hgrants)]

section

variable {d : Die} (hledger : d.ledger = (s.die k).ledger)
include hledger

/-! What an operation touches depends on the ledger of its die alone. -/

theorem ledgerBlock_setDie (which : Nat) : (s.setDie k d).ledgerBlock k which = s.ledgerBlock k which := by
  unfold State.ledgerBlock
  rw [die_setDie_same, hledger]
  rfl

theorem ledgerErased_setDie (n : Nat) : (s.setDie k d).ledgerErased k n = s.ledgerErased k n := by
  unfold State.ledgerErased
  rw [ledgerBlock_setDie hledger]
  rfl

theorem touched_setDie (o : DieOp) : (s.setDie k d).touched k o = s.touched k o := by
  unfold State.touched
  rw [ledgerErased_setDie hledger]

theorem queueReadWaits_setDie (o : DieOp) : (s.setDie k d).queueReadWaits k o = s.queueReadWaits k o := by
  unfold State.queueReadWaits
  rw [touched_setDie hledger]
  rfl

end

/-- The operation has run its minimum time. -/
def minRan (s : State) (k : Nat) : State := s.setDie k { s.die k with minRun := true }

theorem suspendDue_minRan : (s.minRan k).suspendDue k = s.suspendDue k := by
  unfold State.suspendDue minRan
  simp only [queueReadWaits_setDie, ledgerErased_setDie, die_setDie_same]
  rfl

theorem minRunExpiry_runs {r d : Nat} {o : DieOp} (hop : (s.die (dieKey r d)).op = some o) (hrunning : o.running = true)
    (hst : s.dieSt (dieKey r d) = 5 ∨ s.dieSt (dieKey r d) = 6) : exec (.minRunExpiry r d) s = .next (
      if s.suspendDue (dieKey r d) ∧ s.grants r then (s.minRan (dieKey r d)).want (dieKey r d) .suspend else s.minRan (dieKey r d)) := by
  change execMinRunExpiry r d s = _
  rw [← suspendDue_minRan]
  unfold execMinRunExpiry
  dsimp only
  split
  next x hx =>
    obtain rfl := Option.some.inj (hop.symm.trans hx)
    rw [if_pos ⟨hrunning, hst⟩]
    rfl
  next hx => cases hop.symm.trans hx

/-- A resume that is due on an idle die is asked for. -/
theorem raiseResume_wants (hst : s.dieSt k = 1) (hop : (s.die k).op = none) (hwant : (s.die k).want = none) (hdue : s.resumeDue k = true)
    (hmode : s.issues = true ∨ s.modeNow = 10) : s.raiseResume k = s.want k .resume := by
  unfold State.raiseResume
  dsimp only
  rw [if_pos ⟨hst, by rw [hop]; rfl, by rw [hwant]; rfl, hdue, hmode⟩]

/-- The held operation has been held its longest time. -/
def heldLong (s : State) (k : Nat) : State := s.setDie k { s.die k with holdMax := true }

theorem resumeDue_heldLong (h : (s.die k).held.isSome = true) : (s.heldLong k).resumeDue k = true := by
  obtain ⟨o, ho⟩ := Option.isSome_iff_exists.1 h
  unfold State.resumeDue heldLong
  simp [ho]

theorem holdMaxExpiry_resumes {r d : Nat} (hst : s.dieSt (dieKey r d) = 1) (hop : (s.die (dieKey r d)).op = none)
    (hwant : (s.die (dieKey r d)).want = none) (hmode : s.issues = true ∨ s.modeNow = 10) (hheld : (s.die (dieKey r d)).held.isSome = true) :
    exec (.holdMaxExpiry r d) s = .next ((s.heldLong (dieKey r d)).want (dieKey r d) .resume) := by
  change execHoldMaxExpiry r d s = _
  unfold execHoldMaxExpiry
  dsimp only
  rw [if_pos hheld]
  refine congrArg _ (raiseResume_wants (s := s.heldLong (dieKey r d)) hst ?_ ?_ (resumeDue_heldLong hheld) hmode)
  · exact (congrArg Die.op (die_setDie_same ..)).trans hop
  · exact (congrArg Die.want (die_setDie_same ..)).trans hwant

/-! ### The next step of an erase bracket (R100, R102) -/

theorem eraseBracketStep_starts {r d n : Nat} {o : DieOp} (hop : (s.die (dieKey r d)).op = some o) (hst : s.dieSt (dieKey r d) = 6)
    (hrun : o.running = false) (hwant : (s.die (dieKey r d)).want = none) (hmode : s.issues = true ∨ s.modeNow = 10)
    (hnext : s.nextStep (dieKey r d) o = some n) : exec (.eraseBracketStep r d) s = .next (s.startStep (dieKey r d) o n) := by
  change execEraseBracketStep r d s = _
  unfold execEraseBracketStep
  simp only [hop, hnext]
  exact if_pos ⟨hst, hrun, by rw [hwant]; rfl, hmode⟩

/-- A step that erases no ledger block starts with its erase command, or with its data-in. -/
theorem startStep_starts {n : Nat} (o : DieOp) (hnone : s.ledgerErased k n = none) : ∃ o', ((s.startStep k o n).die k).op = some o' ∧
    o'.id = o.id ∧ o'.step = n ∧ o'.running = true ∧
    (n = 2 → ((s.startStep k o n).die k).want = some .eraseCmd ∧ ((s.startStep k o n).die k).ledger = (s.die k).ledger) ∧
    (n ≠ 2 → ((s.startStep k o n).die k).want = some (.progData 0) ∧
      ((s.startStep k o n).die k).ledger.gen = ((s.die k).ledger.gen + 1) % 2 ^ 32) ∧
    Frame (may [.flash, .freeValues]) s (s.startStep k o n) := by
  by_cases hn : n = 2
  · subst hn
    obtain ⟨hop, hwant, hledger, hframe⟩ := startStep_erase (s := s) k o
    exact ⟨_, hop, rfl, rfl, rfl, fun _ => ⟨hwant, hledger⟩, fun h => absurd rfl h, hframe.mono rfl⟩
  · obtain ⟨data, hop, hwant, hgen, hframe⟩ := startStep_ledger o hn hnone
    exact ⟨_, hop, rfl, rfl, rfl, fun h => absurd h hn, fun _ => ⟨hwant, hgen⟩, hframe⟩

end State

/-- Settles O34: what an arbitration picks begins by `State.startOp` unless the guard or a re-erase holds it, and each of the other
commands is one wish of the die for the bus, or one step of its bracket. -/
theorem diesAreGranted : Obligations.DiesAreGranted := by
  unfold Obligations.DiesAreGranted
  refine ⟨?granted, ?suspended, ?merged, ?ran, ?resumed, ?bracket⟩
  case granted =>
    rintro s r d us k o ptr - hd rfl hroute hidle hop hwant hresume hpick
    have g : State.Grants s r d us o ptr := ⟨hd, hroute, hidle, hop, hwant, hresume, hpick⟩
    exact ⟨g.read, g.program, fun p => g.aside, g.erase, fun hcls hguard =>
      ⟨_, g.held_back hcls hguard, rfl, rfl, State.guardHold_frame s o⟩⟩
  case suspended =>
    rintro s r d us k rfl hgrants hdue hrun
    exact ⟨_, State.dieGrant_suspends us hgrants hdue hrun, by simp, by simp, State.want_frame ..⟩
  case merged =>
    rintro s r d k o rfl hop hmerging hcls hgrants
    obtain ⟨b, a, hb, hbegun, hwant, -⟩ := State.startOp_waits (s := s) (o := o) (dieKey r d) (by omega)
    exact ⟨_, b, State.mergeWaitExpiry_begins hop hmerging hgrants, hbegun, hb.id, hb.merging, by rw [hwant]; rfl,
      State.startOp_read_frame _ hcls⟩
  case ran =>
    rintro s r d k o rfl hop hrunning hst
    refine ⟨_, State.minRunExpiry_runs hop hrunning hst, ?_⟩
    have hran : Frame (may [.flash]) s (s.minRan (dieKey r d)) := State.setDie_frame ..
    split
    · exact ⟨by simp [State.minRan], by simp [State.minRan, hop], fun _ _ => by simp, (State.want_frame ..).after hran rfl⟩
    next hnot => exact ⟨by simp [State.minRan], by simp [State.minRan, hop], fun hdue hgrants => absurd ⟨hdue, hgrants⟩ hnot, hran⟩
  case resumed =>
    rintro s r d k rfl hst hop hwant hmode
    refine ⟨fun hdue => ⟨_, congrArg Host.Outcome.next (State.raiseResume_wants hst hop hwant hdue hmode), by simp, by simp, State.want_frame ..⟩, fun hheld =>
      ⟨_, State.holdMaxExpiry_resumes hst hop hwant hmode hheld, by simp [State.heldLong], by simp,
        (State.want_frame ..).after (State.setDie_frame ..) rfl⟩⟩
  case bracket =>
    rintro s r d k n o rfl hop hst hrun hwant hmode hnext
    have hexec := State.eraseBracketStep_starts hop hst hrun hwant hmode hnext
    refine ⟨fun hnone => ?_, fun b hsome hroom => ?_, fun b hsome hfull => ?_⟩
    · obtain ⟨o', hstarted⟩ := State.startStep_starts o hnone
      exact ⟨_, o', hexec, hstarted⟩
    · obtain ⟨hstarted, hcmd, hranges, hframe⟩ := State.startStep_range o (State.ledgerErased_ne hsome) hsome hroom
      exact ⟨_, _, hexec, hstarted, rfl, rfl, rfl, hcmd, hranges, hframe⟩
    · rw [State.startStep_full o (State.ledgerErased_ne hsome) hsome hfull] at hexec
      exact ⟨_, hexec, State.raise_seq _, (State.raise_frame (m := 0x42150012) s F.MI_PH_EVENT_RANGE_WAIT rfl rfl rfl).ph (by decide),
        State.raise_getF s (by decide) rfl (by decide)⟩

end Sys2Proof.Machine
end

section
/-! PROOFS. The bus carries out one activity of a die: what leaves the block, what the die's state shows, and what is counted (R61, R64 to
R66, R73, R95, R104, R105, R140, R149). -/

namespace Sys2Proof.Machine
namespace State

variable {s : State} {k : Nat}

/-! ### The word of a die, and the counters of its route -/

/-- A field beside STATE in a die's word stays when its state changes. -/
theorem getF_setDieSt_beside {f : Field} (k v : Nat) (h : 4 ≤ f.lo) : (s.setDieSt k v).getF f = s.getF f := by
  have hset : ∀ u w, (State.setF u (F.RT_DIE_STATE (k / 16) (k % 16)) w).getF f = u.getF f := fun u w =>
    getF_setF_ne u w (Or.inr (Or.inr h)) (Nat.le_of_ble_eq_true rfl)
  unfold State.setDieSt
  split
  · exact hset _ 9
  · rw [hset]
    split
    · exact congrArg (fun w : W32 => bits w.toNat f.lo f.width) (getR_tempTurn k f.off)
    · rfl

/-- A register of route `r` behind the words of its dies is none of them. -/
theorem ne_RT_DIE {off : Nat} (q i : Nat) (h : 0x80 ≤ off % 0x1000) : off ≠ R.RT_DIE q i := by unfold R.RT_DIE; omega

theorem getR_setDieSt_counter {off : Nat} (k v : Nat) (h : 0x80 ≤ off % 0x1000) : (s.setDieSt k v).getR off = s.getR off :=
  getR_setDieSt_ne k v (ne_RT_DIE _ _ h)

/-- The word of a die stays when an event is counted behind the words of the dies. -/
theorem dieSt_bump {off : Nat} (k : Nat) (h : 0x80 ≤ off % 0x1000) : (s.bump off).dieSt k = s.dieSt k :=
  getF_bump_ne s (ne_RT_DIE _ _ h).symm

@[simp] theorem die_bump (off k : Nat) : (s.bump off).die k = s.die k := rfl
@[simp] theorem die_cmd (k j : Nat) (pages bytes addrs : List Nat) : (s.cmd k pages bytes addrs).die j = s.die j := rfl
@[simp] theorem getR_cmd (k off : Nat) (pages bytes addrs : List Nat) : (s.cmd k pages bytes addrs).getR off = s.getR off := rfl

/-- A command sequence that names no page carries its bytes alone. -/
theorem out_cmd_bare (k : Nat) (bytes addrs : List Nat) :
    (s.cmd k [] bytes addrs).out = s.out ++ [.dieCmd (k / 16) (k % 16) (bytes.map (BitVec.ofNat 8)) addrs] := by
  unfold State.cmd
  simp

/-- What a command sequence puts out depends on what has left the block and on the SLC byte alone. -/
theorem out_cmd_of_frame {t : State} (h : Frame (may [.flash]) s t) (k : Nat) (pages bytes addrs : List Nat) :
    (t.cmd k pages bytes addrs).out = (s.cmd k pages bytes addrs).out := by
  unfold State.cmd
  simp only [h.getF (f := F.HB_CFG_SLC_PREFIX) rfl, emit, h.out (by decide)]

theorem out_setDieSt (k v : Nat) : (s.setDieSt k v).out = s.out := (State.setDieSt_frame s k v).out (by decide)

/-! ### The activity that the bus picks (R61, R65) -/

/-- What die `k` holds once its wish has been taken up. -/
def wishTaken (s : State) (k : Nat) : Die := { s.die k with want := none }

/-- The die's wish has been taken up. -/
def served (s : State) (k : Nat) : State := s.setDie k (s.wishTaken k)

@[simp] theorem served_die : (s.served k).die k = s.wishTaken k := die_setDie_same ..
@[simp] theorem served_getR (off : Nat) : (s.served k).getR off = s.getR off := rfl

theorem served_frame : Frame (may [.flash]) s (s.served k) := State.setDie_frame ..

theorem served_written (j : Nat) : ((s.served k).die j).written = (s.die j).written := by
  by_cases h : j = k
  · rw [h, served_die]
    rfl
  · exact congrArg Die.written (die_setDie_ne _ _ h)

theorem needsFeature_served (o : DieOp) : (s.served k).needsFeature o = s.needsFeature o := by
  unfold State.needsFeature Die.thresholds
  dsimp only
  rw [served_written]
  rfl

/-- No relief select write is due on route `r`. -/
theorem reliefGo_eq {r : Nat} (h : ∀ c, (s.route r).recal = some c → c.phase ≠ 0) : s.reliefGo r = s := by
  unfold State.reliefGo
  split
  next c hc => rw [if_neg fun hgo => h c hc hgo.1]
  next => rfl

/-- The bus of route `r` is free, no relief select write is due, and it picks activity `a` of its die `d`. -/
structure Picks (s : State) (r d : Nat) (a : BusAct) : Prop where
  die : d < 16
  up : s.routeUp r = true
  free : s.busBusy r = false
  noBurst : (s.route r).burst = false
  noRelief : ∀ c, (s.route r).recal = some c → c.phase ≠ 0
  pick : s.busPick r = some (dieKey r d, a)

namespace Picks

variable {r d : Nat} {a : BusAct} (p : Picks s r d a)
include p

theorem exec_eq : exec (.busGrant r) s = .next (s.busDo (dieKey r d) a) := by
  change execBusGrant r s = _
  unfold execBusGrant State.busGap
  rw [if_neg (by simp [p.up, p.free, p.noBurst]), reliefGo_eq p.noRelief]
  simp only [p.pick]

/-- The die's wish is carried out. -/
theorem serves (ha : a ≠ .temp) : exec (.busGrant r) s =
    .next ((s.served (dieKey r d)).busAct r (dieKey r d) (s.wishTaken (dieKey r d)) a) := by
  rw [p.exec_eq]
  unfold State.busDo
  dsimp only
  rw [if_neg ha, dieKey_div r p.die, die_setDie_same]
  rfl

end Picks

/-! ### Array reads (R64, R66, R149) -/

/-- The array reads of route `r` are counted. -/
theorem getR_countRead (r : Nat) (o : DieOp) : (s.countRead r o).getR (R.RT_CNT_READ r) = s.getR (R.RT_CNT_READ r) + 1 := by
  have hplanes : ∀ u : State, (if 2 ≤ o.pages.length then u.bump (R.RT_CNT_MPLANE r) else u).getR (R.RT_CNT_READ r) =
    u.getR (R.RT_CNT_READ r) :=
    fun u => by
      split
      · exact getR_bump_ne u (by unfold R.RT_CNT_READ R.RT_CNT_MPLANE; omega)
      · rfl
  unfold State.countRead
  dsimp only
  rw [hplanes]
  split
  · rw [getR_bump_ne _ (by unfold R.RT_CNT_READ R.RC_CNT_LADDER; omega), getR_bump_same]
  · exact getR_bump_same ..

/-- The count of cache reads is another's. -/
theorem getR_countRead_cache (r : Nat) (o : DieOp) : (s.countRead r o).getR (R.RT_CNT_CACHE r) = s.getR (R.RT_CNT_CACHE r) := by
  have hread : ∀ u : State, (u.bump (R.RT_CNT_READ r)).getR (R.RT_CNT_CACHE r) = u.getR (R.RT_CNT_CACHE r) := fun u =>
    getR_bump_ne u (by unfold R.RT_CNT_READ R.RT_CNT_CACHE; omega)
  have hladder : ∀ u : State, (u.bump R.RC_CNT_LADDER).getR (R.RT_CNT_CACHE r) = u.getR (R.RT_CNT_CACHE r) := fun u =>
    getR_bump_ne u (by unfold R.RC_CNT_LADDER R.RT_CNT_CACHE; omega)
  have hplanes : ∀ u : State, (u.bump (R.RT_CNT_MPLANE r)).getR (R.RT_CNT_CACHE r) = u.getR (R.RT_CNT_CACHE r) := fun u =>
    getR_bump_ne u (by unfold R.RT_CNT_MPLANE R.RT_CNT_CACHE; omega)
  unfold State.countRead
  simp only [apply_ite (fun u : State => u.getR (R.RT_CNT_CACHE r)), hread, hladder, hplanes, ite_self]

theorem countRead_out (r : Nat) (o : DieOp) : (s.countRead r o).out = s.out := (State.countRead_frame s r o).out (by decide)
theorem countRead_die (r : Nat) (o : DieOp) : (s.countRead r o).die k = s.die k := die_of_frame (State.countRead_frame s r o) (by decide) k

/-- The jobs of a read take its number and thresholds: no die changes. -/
theorem readStamp_die (j : Nat) (o : DieOp) : (s.readStamp k o).2.die j = s.die j := by
  unfold State.readStamp
  refine foldl_keeps (fun u : State => u.die j) fun u x _ => ?_
  split <;> rfl

theorem readStamp_pages (o : DieOp) : (s.readStamp k o).1.pages = o.pages := rfl

theorem busRead_shows (r k : Nat) (o : DieOp) :
    (s.busRead r k o).out = (s.cmd k o.pages (planeBytes 0x00 0x32 0x30 o.pages.length) o.pages).out ∧ (s.busRead r k o).dieSt k = 2 ∧
      ((s.busRead r k o).die k).want = (s.die k).want ∧ (s.busRead r k o).getR (R.RT_CNT_READ r) = s.getR (R.RT_CNT_READ r) + 1 := by
  have hstamp := State.readStamp_frame s k { o with running := true }
  have hdie := readStamp_die (s := s) (k := k) k { o with running := true }
  have hpages := readStamp_pages (s := s) (k := k) { o with running := true }
  unfold State.busRead
  generalize s.readStamp k { o with running := true } = q at hstamp hdie hpages ⊢
  obtain ⟨b, u⟩ := q
  dsimp only at hstamp hdie hpages ⊢
  refine ⟨?_, dieSt_setDieSt_same (Or.inr (by decide)) (by decide), ?_, ?_⟩
  · rw [out_setDieSt, countRead_out, hpages]
    exact out_cmd_of_frame hstamp ..
  · rw [die_setDieSt_ne_idle (by decide), countRead_die, die_setDie_same, die_cmd, hdie]
  · rw [getR_setDieSt_counter _ _ (by unfold R.RT_CNT_READ; omega), getR_countRead, getR_setDie, getR_cmd,
      hstamp.reg _ (by rw [regGroup_RT_CNT_READ]; rfl)]

/-- The thresholds of a group are written, and the die's word shows the group. -/
theorem busFeature_shows (r k g fa : Nat) (vals : List Int) : (s.busFeature r k g fa vals).out = (s.featureWrites k fa vals).out ∧
    (s.busFeature r k g fa vals).dieSt k = 7 ∧ (s.busFeature r k g fa vals).die k = { s.die k with written := vals } ∧
    (s.busFeature r k g fa vals).getF (F.RT_DIE_BLOCK_GROUP r (k % 16)) = g % 8 := by
  unfold State.busFeature
  refine ⟨out_setDieSt .., dieSt_setDieSt_same (Or.inr (by decide)) (by decide), ?_, ?_⟩
  · rw [die_setDieSt_ne_idle (by decide), die_setF, die_setDie_same]
  · rw [getF_setDieSt_beside _ _ (Nat.le_of_ble_eq_true rfl), getF_setF_same _ _ _ (Nat.le_of_ble_eq_true rfl)]
    rfl

/-- The feature writes go by what has left the block: what a die holds does not change them. -/
theorem featureWrites_setDie (j k fa : Nat) (d : Die) (vals : List Int) :
    (s.setDie j d).featureWrites k fa vals = (s.featureWrites k fa vals).setDie j d :=
  List.foldl_hom (State.setDie · j d) fun _ _ => rfl

end State
end Sys2Proof.Machine
end

section
/-! PROOFS. The activities of a free bus, one by one (R61, R64 to R66, R73, R95, R104, R105, R140, R149). -/

namespace Sys2Proof.Machine
namespace State

variable {s : State} {k : Nat}

theorem out_bump (off : Nat) : (s.bump off).out = s.out := rfl
theorem out_setDie (d : Die) : (s.setDie k d).out = s.out := rfl

/-- A command sequence for die `d` of route `r` that names no page. -/
theorem out_cmd_die {d : Nat} (r : Nat) (hd : d < 16) (bytes addrs : List Nat) :
    (s.cmd (dieKey r d) [] bytes addrs).out = s.out ++ [.dieCmd r d (bytes.map (BitVec.ofNat 8)) addrs] := by
  rw [out_cmd_bare, dieKey_div r hd, dieKey_mod r hd]

/-! ### What each activity does -/

section
variable {r : Nat} {x : Die} {o : DieOp}

theorem busAct_read (hop : x.op = some o) : s.busAct r k x .read =
    if s.needsFeature o then s.busFeature r k (s.opGroup o) x.threshFa (s.opThresholds o) else s.busRead r k o := by
  unfold State.busAct
  rw [hop]

theorem busAct_cacheRead (hop : x.op = some o) : s.busAct r k x .cacheRead = s.busCacheRead r k x o := by
  unfold State.busAct
  rw [hop]

theorem busAct_dataOut (hop : x.op = some o) : s.busAct r k x .dataOut = s.busDataOut k x := by
  unfold State.busAct
  rw [hop]

theorem busAct_header (hop : x.op = some o) : s.busAct r k x .header = s.busHeader k x := by
  unfold State.busAct
  rw [hop]

theorem busAct_progData (hop : x.op = some o) (i : Nat) : s.busAct r k x (.progData i) = s.busProgData r k i o := by
  unfold State.busAct
  rw [hop]

theorem busAct_confirm (hop : x.op = some o) : s.busAct r k x .confirm = s.busConfirm r k o := by
  unfold State.busAct
  rw [hop]

theorem busAct_eraseCmd (hop : x.op = some o) : s.busAct r k x .eraseCmd = s.busErase r k o := by
  unfold State.busAct
  rw [hop]

theorem busAct_suspend (hop : x.op = some o) : s.busAct r k x .suspend = s.busSuspend r k x o := by
  unfold State.busAct
  rw [hop]

/-- A loaded register is transferred from its first envelope on (R61, R140). -/
theorem busDataOut_eq {j : Job} (hmoving : x.moving = some j.id) (hjob : s.job? j.id = some j) : s.busDataOut k x =
    (s.cmd k [(s.jobColumn j).getD 0 0] [0x06, 0xE0] (s.jobColumn j)).setDie k
      { s.transfer x with runAt := s.runStart j, runLen := s.runEnvs j x.run } := by
  unfold State.busDataOut
  rw [hmoving, Option.bind_some, hjob]

theorem busHeader_eq {j : Job} (h : s.headerJob k = some j) : s.busHeader k x =
    (s.cmd k [(s.jobColumn j).getD 0 0] [0x06, 0xE0] [(s.jobColumn j).getD 0 0, (s.jobColumn j).getD 1 0 + 3]).setDie k
      { s.transfer x with moving := some j.id } := by
  unfold State.busHeader
  rw [h]

/-- The held operation goes on where it stopped (R105). -/
theorem busResume_eq (r : Nat) (hheld : x.held = some o) : s.busResume r k x =
    (((s.cmd k [] [bits o.vcmd (F.RT_VCMD_RESUME r).lo 8] []).setDie k { x with op := some o, held := none, minRun := false, holdMax :=
      false }).setF
      (F.RT_DIE_HELD r (k % 16)) 0).setDieSt k (if o.cls = 2 then 5 else 6) := by
  unfold State.busResume
  rw [hheld]

theorem headerJob_served : (s.served k).headerJob k = s.headerJob k := by
  unfold State.headerJob
  rw [served_die]
  rfl

theorem progPage_served (i : Nat) : (s.served k).progPage k o i = s.progPage k o i := by
  unfold State.progPage
  rw [show (s.served k).ledgerBlock k 0 = s.ledgerBlock k 0 from ledgerBlock_setDie (d := s.wishTaken k) rfl 0, served_die]
  rfl

end

/-- The next read of a cache series goes out as one byte where it follows in its planes (R66). -/
def cacheSent (s : State) (k : Nat) (o c : DieOp) : State :=
  if o.pages.map (· + 4) = c.pages ∧ o.pages.map busBlock = c.pages.map busBlock then s.cmd k c.pages [0x31] []
  else s.cmd k c.pages (planeBytes 0x00 0x32 0x31 c.pages.length) c.pages

theorem cacheSent_die (o c : DieOp) (j : Nat) : (s.cacheSent k o c).die j = s.die j := by
  unfold cacheSent
  split <;> rfl

theorem cacheSent_getR (o c : DieOp) (off : Nat) : (s.cacheSent k o c).getR off = s.getR off := by
  unfold cacheSent
  split <;> rfl

theorem cacheSent_served (o c : DieOp) : ((s.served k).cacheSent k o c).out = (s.cacheSent k o c).out := by
  unfold cacheSent
  split <;> rfl

theorem busCacheRead_eq {x : Die} {o c : DieOp} (r : Nat) (hnext : x.next = some c) : s.busCacheRead r k x o =
    ((((s.cacheSent k o c).setDie k { s.die k with next := some { c with running := true }, ready := false }).countRead r
      { c with running := true }).bump (R.RT_CNT_CACHE r)).setDieSt k 3 := by
  unfold State.busCacheRead
  simp only [hnext]
  change ((((s.cacheSent k o c).setDie k { (s.cacheSent k o c).die k with next := some { c with running := true }, ready :=
    false }).countRead r
    { c with running := true }).bump (R.RT_CNT_CACHE r)).setDieSt k 3 = _
  rw [cacheSent_die]

namespace Picks

variable {r d : Nat} {o : DieOp}

/-- The parts that an activity may change, beside the die's wish. -/
theorem frame_of {n m : Nat} {t : State} (h : Frame n (s.served k) t) (hn : n ||| m = m) (hm : may [.flash] ||| m = m) : Frame m s t :=
  h.after (served_frame.mono hm) hn

/-! ### Array reads and threshold writes -/

theorem reads (p : Picks s r d .read) (hop : (s.die (dieKey r d)).op = some o) (hready : s.needsFeature o = false) :
    ∃ t, exec (.busGrant r) s = .next t ∧
      t.out = (s.cmd (dieKey r d) o.pages (planeBytes 0x00 0x32 0x30 o.pages.length) o.pages).out ∧ t.dieSt (dieKey r d) = 2 ∧
      (t.die (dieKey r d)).want = none ∧ t.getR (R.RT_CNT_READ r) = s.getR (R.RT_CNT_READ r) + 1 ∧
      Frame (may [.flash, .outputs, .regs 9, .regs 17]) s t := by
  obtain ⟨hout, hst, hwant, hcount⟩ := busRead_shows (s := s.served (dieKey r d)) r (dieKey r d) o
  refine ⟨_, ?_, hout, hst, hwant.trans (congrArg Die.want served_die), hcount, frame_of (State.busRead_frame _ r (dieKey r d) o) rfl rfl⟩
  rw [p.serves (by decide), busAct_read (x := s.wishTaken (dieKey r d)) hop, needsFeature_served, hready]
  rfl

/-- The threshold write of a group, for a read that needs it first or for the read ladder. -/
theorem writesThresholds {a : BusAct} {g : Nat} {vals : List Int} (p : Picks s r d a) (hop : (s.die (dieKey r d)).op = some o)
    (ha : a = .read ∧ s.needsFeature o = true ∧ g = s.opGroup o ∧ vals = s.opThresholds o ∨ a = .feature g vals) :
    ∃ t, exec (.busGrant r) s = .next t ∧ t.out = (s.featureWrites (dieKey r d) (s.die (dieKey r d)).threshFa vals).out ∧
      t.dieSt (dieKey r d) = 7 ∧ (t.die (dieKey r d)).want = none ∧ (t.die (dieKey r d)).op = some o ∧
      (t.die (dieKey r d)).written = vals ∧ t.getF (F.RT_DIE_BLOCK_GROUP r d) = g % 8 ∧ Frame (may [.flash, .outputs, .regs 17]) s t := by
  obtain ⟨hout, hst, hdie, hgroup⟩ := busFeature_shows (s := s.served (dieKey r d)) r (dieKey r d) g (s.die (dieKey r d)).threshFa vals
  have hexec : exec (.busGrant r) s = .next ((s.served (dieKey r d)).busFeature r (dieKey r d) g (s.die (dieKey r d)).threshFa vals) := by
    rcases ha with ⟨rfl, hneeds, rfl, rfl⟩ | rfl
    · rw [p.serves (by decide), busAct_read (x := s.wishTaken (dieKey r d)) hop, needsFeature_served, hneeds]
      rfl
    · exact p.serves nofun
  refine ⟨_, hexec, hout.trans ?_, hst, ?_, ?_, ?_, ?_, frame_of (State.busFeature_frame ..) rfl rfl⟩
  · unfold served
    rw [featureWrites_setDie]
    rfl
  · rw [hdie, served_die]
    rfl
  · rw [hdie, served_die]
    exact hop
  · rw [hdie]
  · rw [← hgroup, dieKey_mod r p.die]

/-! ### Cache reads (R66) -/

theorem readsCache {c : DieOp} (p : Picks s r d .cacheRead) (hop : (s.die (dieKey r d)).op = some o)
    (hnext : (s.die (dieKey r d)).next = some c) : ∃ t, exec (.busGrant r) s = .next t ∧ t.out = (s.cacheSent (dieKey r d) o c).out ∧
      t.dieSt (dieKey r d) = 3 ∧ (t.die (dieKey r d)).ready = false ∧ (t.die (dieKey r d)).next = some { c with running := true } ∧
      t.getR (R.RT_CNT_READ r) = s.getR (R.RT_CNT_READ r) + 1 ∧ t.getR (R.RT_CNT_CACHE r) = s.getR (R.RT_CNT_CACHE r) + 1 ∧
      Frame (may [.flash, .outputs, .regs 9, .regs 17]) s t := by
  have hframe := frame_of (m := may [.flash, .outputs, .regs 9, .regs 17])
    (State.busCacheRead_frame (s.served (dieKey r d)) r (dieKey r d) (s.wishTaken (dieKey r d)) o) rfl rfl
  rw [busCacheRead_eq (x := s.wishTaken (dieKey r d)) r hnext] at hframe
  refine ⟨_, ?_, ?_, dieSt_setDieSt_same (Or.inr (by decide)) (by decide), ?_, ?_, ?_, ?_, hframe⟩
  · rw [p.serves (by decide), busAct_cacheRead (x := s.wishTaken (dieKey r d)) hop, busCacheRead_eq (x := s.wishTaken (dieKey r d)) r hnext]
  · rw [out_setDieSt, out_bump, countRead_out, out_setDie, cacheSent_served]
  · rw [die_setDieSt_ne_idle (by decide), die_bump, countRead_die, die_setDie_same]
  · rw [die_setDieSt_ne_idle (by decide), die_bump, countRead_die, die_setDie_same]
  · rw [getR_setDieSt_counter _ _ (by unfold R.RT_CNT_READ; omega), getR_bump_ne _ (by unfold R.RT_CNT_READ R.RT_CNT_CACHE; omega),
      getR_countRead, getR_setDie, cacheSent_getR, served_getR]
  · rw [getR_setDieSt_counter _ _ (by unfold R.RT_CNT_CACHE; omega), getR_bump_same, getR_countRead_cache, getR_setDie, cacheSent_getR,
      served_getR]

theorem endsCache (p : Picks s r d .cacheEnd) : ∃ t, exec (.busGrant r) s = .next t ∧ t.out = s.out ++ [.dieCmd r d [0x3F] []] ∧
    t.dieSt (dieKey r d) = 3 ∧ (t.die (dieKey r d)).op = (s.die (dieKey r d)).next ∧ (t.die (dieKey r d)).next = none ∧
    Frame (may [.flash, .outputs, .regs 17]) s t := by
  refine ⟨_, p.serves (by decide), ?_, ?_, ?_, ?_, frame_of (n := may [.flash, .outputs, .regs 17])
    ((State.setDieSt_frame ..).after (((State.setDie_frame ..).mono rfl).step ((State.cmd_frame ..).mono rfl)) rfl) rfl rfl⟩
  · exact (out_setDieSt ..).trans (out_cmd_die r p.die [0x3F] [])
  · exact dieSt_setDieSt_same (Or.inr (by decide)) (by decide)
  · exact (congrArg Die.op (die_setDieSt_ne_idle (by decide))).trans (congrArg Die.op (die_setDie_same ..))
  · exact (congrArg Die.next (die_setDieSt_ne_idle (by decide))).trans (congrArg Die.next (die_setDie_same ..))

/-! ### Transfers (R19, R61, R140) -/

theorem transfers {j : Job} (p : Picks s r d .dataOut) (hop : (s.die (dieKey r d)).op = some o)
    (hmoving : (s.die (dieKey r d)).moving = some j.id) (hjob : s.job? j.id = some j) : ∃ t, exec (.busGrant r) s = .next t ∧
      t.out = (s.cmd (dieKey r d) [4 * (s.busAddr j.addr / 4)] [0x06, 0xE0] [4 * (s.busAddr j.addr / 4), 4608 * s.runStart j]).out ∧
      (t.die (dieKey r d)).moving = some j.id ∧ (t.die (dieKey r d)).runAt = s.runStart j ∧
      (t.die (dieKey r d)).runLen = s.runEnvs j (s.die (dieKey r d)).run ∧ (t.die (dieKey r d)).envCtrl = (s.getR R.RC_ENV_CTRL).toNat ∧
      (t.die (dieKey r d)).envX = (s.getR R.RC_ENV_X).toNat ∧ t.dieSt (dieKey r d) = s.dieSt (dieKey r d) ∧
      Frame (may [.flash, .outputs]) s t := by
  have heq := busDataOut_eq (s := s.served (dieKey r d)) (k := dieKey r d) (x := (s.wishTaken (dieKey r d))) hmoving hjob
  have hframe := frame_of (m := may [.flash, .outputs]) (State.busDataOut_frame (s.served (dieKey r d)) (dieKey r d) (s.wishTaken (dieKey
    r d))) rfl rfl
  rw [heq] at hframe
  have hexec := p.serves (by decide)
  rw [busAct_dataOut (x := s.wishTaken (dieKey r d)) hop, heq] at hexec
  refine ⟨_, hexec, rfl, ?_, ?_, ?_, ?_, ?_, rfl, hframe⟩
  · rw [die_setDie_same]
    exact hmoving
  all_goals rw [die_setDie_same]; rfl

theorem transfersHeader {j : Job} (p : Picks s r d .header) (hop : (s.die (dieKey r d)).op = some o)
    (hjob : s.headerJob (dieKey r d) = some j) : ∃ t, exec (.busGrant r) s = .next t ∧
      t.out = (s.cmd (dieKey r d) [4 * (s.busAddr j.addr / 4)] [0x06, 0xE0] [4 * (s.busAddr j.addr / 4), 4608 * s.runStart j + 3]).out ∧
      (t.die (dieKey r d)).moving = some j.id ∧ t.dieSt (dieKey r d) = s.dieSt (dieKey r d) ∧ Frame (may [.flash, .outputs]) s t := by
  have heq := busHeader_eq (s := s.served (dieKey r d)) (x := (s.wishTaken (dieKey r d))) (headerJob_served.trans hjob)
  have hframe := frame_of (m := may [.flash, .outputs]) (State.busHeader_frame (s.served (dieKey r d)) (dieKey r d) (s.wishTaken (dieKey
    r d))) rfl rfl
  rw [heq] at hframe
  have hexec := p.serves (by decide)
  rw [busAct_header (x := s.wishTaken (dieKey r d)) hop, heq] at hexec
  refine ⟨_, hexec, rfl, ?_, rfl, hframe⟩
  rw [die_setDie_same]

/-! ### Programs and erases (R73) -/

theorem sendsPlane {i : Nat} (p : Picks s r d (.progData i)) (hop : (s.die (dieKey r d)).op = some o) :
    ∃ t, exec (.busGrant r) s = .next t ∧
    t.out = (s.cmd (dieKey r d) [s.progPage (dieKey r d) o i] [0x80] [s.progPage (dieKey r d) o i]).out ++ [.dieData r d i (o.data.getD i
      [])] ++
      (if i + 1 < o.data.length then [.dieCmd r d [0x11] []] else []) ∧
    (t.die (dieKey r d)).want = some (if i + 1 < o.data.length then .progData (i + 1) else .confirm) ∧ (t.die (dieKey r d)).op = some o ∧
    t.dieSt (dieKey r d) = s.dieSt (dieKey r d) ∧ Frame (may [.flash, .outputs]) s t := by
  refine ⟨_, by rw [p.serves nofun, busAct_progData (x := s.wishTaken (dieKey r d)) hop], ?_, ?_, ?_, ?_,
    frame_of (State.busProgData_frame ..) rfl rfl⟩
  all_goals
    unfold State.busProgData
    dsimp only
    rw [progPage_served, dieKey_mod r p.die]
    split
  · rfl
  · exact (List.append_nil _).symm
  · rw [die_want_same]
  · rw [die_want_same]
  · rw [die_want_same]
    exact (congrArg Die.op served_die).trans hop
  · rw [die_want_same]
    exact (congrArg Die.op served_die).trans hop
  · rfl
  · rfl

theorem confirms (p : Picks s r d .confirm) (hop : (s.die (dieKey r d)).op = some o) (hcls : o.cls = 2) :
    ∃ t, exec (.busGrant r) s = .next t ∧
    t.out = s.out ++ [.dieCmd r d [0x10] []] ∧ t.dieSt (dieKey r d) = 5 ∧ (t.die (dieKey r d)).want = none ∧
    (t.die (dieKey r d)).op = some { o with running := true } ∧ t.getR (R.RT_CNT_PROGRAM r) = s.getR (R.RT_CNT_PROGRAM r) + 1 ∧
    Frame (may [.flash, .outputs, .regs 17]) s t := by
  refine ⟨_, by rw [p.serves (by decide), busAct_confirm (x := s.wishTaken (dieKey r d)) hop], ?_, ?_, ?_, ?_, ?_,
    frame_of (State.busConfirm_frame ..) rfl rfl⟩
  all_goals
    unfold State.busConfirm
    dsimp only
    rw [if_pos hcls]
  · rw [out_setDieSt, out_setDie, dieKey_mod r p.die]
    split <;> rfl
  · exact dieSt_setDieSt_same (Or.inr (by decide)) (by decide)
  · rw [die_setDieSt_ne_idle (by decide), die_setDie_same]
    split <;> exact congrArg Die.want served_die
  · rw [die_setDieSt_ne_idle (by decide), die_setDie_same]
  · rw [getR_setDieSt_counter _ _ (by unfold R.RT_CNT_PROGRAM; omega), getR_setDie]
    split
    · rw [getR_bump_ne _ (by unfold R.RT_CNT_PROGRAM R.RT_CNT_MPLANE; omega), getR_bump_same]
      rfl
    · rw [getR_bump_same]
      rfl

theorem erases (p : Picks s r d .eraseCmd) (hop : (s.die (dieKey r d)).op = some o) : ∃ t, exec (.busGrant r) s = .next t ∧
    t.out = (s.cmd (dieKey r d) (s.touched (dieKey r d) o) (planeBytes 0x60 0xD1 0xD0 (s.touched (dieKey r d) o).length)
      (s.touched (dieKey r d) o)).out ∧ t.dieSt (dieKey r d) = s.dieSt (dieKey r d) ∧ (t.die (dieKey r d)).want = none ∧
    (t.die (dieKey r d)).op = some o ∧ t.getR (R.RT_CNT_ERASE r) = s.getR (R.RT_CNT_ERASE r) + 1 ∧
    Frame (may [.flash, .outputs, .regs 17]) s t := by
  have htouched : (s.served (dieKey r d)).touched (dieKey r d) o = s.touched (dieKey r d) o := touched_setDie (d :=
    s.wishTaken (dieKey r d)) rfl _
  refine ⟨_, by rw [p.serves (by decide), busAct_eraseCmd (x := s.wishTaken (dieKey r d)) hop], ?_, ?_, ?_, ?_, ?_,
    frame_of (State.busErase_frame ..) rfl rfl⟩
  all_goals
    unfold State.busErase
    dsimp only
    rw [htouched]
  · rw [out_setDie]
    split <;> rfl
  · rw [dieSt_setDie]
    have hbump : ∀ u : State, u.dieSt (dieKey r d) = s.dieSt (dieKey r d) →
        (u.bump (R.RT_CNT_MPLANE r)).dieSt (dieKey r d) = s.dieSt (dieKey r d) :=
      fun u h => (dieSt_bump _ (by unfold R.RT_CNT_MPLANE; omega)).trans h
    split
    · exact hbump _ (dieSt_bump _ (by unfold R.RT_CNT_ERASE; omega))
    · exact dieSt_bump _ (by unfold R.RT_CNT_ERASE; omega)
  · rw [die_setDie_same]
    split <;> exact congrArg Die.want served_die
  · rw [die_setDie_same]
    split <;> exact (congrArg Die.op served_die).trans hop
  · rw [getR_setDie]
    split
    · rw [getR_bump_ne _ (by unfold R.RT_CNT_ERASE R.RT_CNT_MPLANE; omega), getR_bump_same]
      rfl
    · rw [getR_bump_same]
      rfl

/-! ### Control commands (R95, R104, R105) -/

theorem readsTemperature (p : Picks s r d .temp) : ∃ t, exec (.busGrant r) s = .next t ∧
    t.out = s.out ++ [.dieCmd r d [0xD4] [s.getF F.PWR_WG_CTRL_TEMP_FA]] ∧ t.dieSt (dieKey r d) = 7 ∧
    (t.die (dieKey r d)).tempRun = (s.die (dieKey r d)).tempDue ∧ (t.die (dieKey r d)).tempDue = none ∧
    (t.die (dieKey r d)).op = (s.die (dieKey r d)).op ∧ (t.die (dieKey r d)).want = (s.die (dieKey r d)).want ∧
    Frame (may [.flash, .outputs, .regs 17]) s t := by
  have hexec : exec (.busGrant r) s = .next (s.busTemp (dieKey r d) (s.die (dieKey r d))) := by
    rw [p.exec_eq]
    rfl
  have hdie : (s.busTemp (dieKey r d) (s.die (dieKey r d))).die (dieKey r d) =
      { s.die (dieKey r d) with tempDue := none, tempRun := (s.die (dieKey r d)).tempDue } :=
    (die_setDieSt_ne_idle (by decide)).trans (die_setDie_same ..)
  refine ⟨_, hexec, (out_setDieSt ..).trans (out_cmd_die r p.die _ _), dieSt_setDieSt_same (Or.inr (by decide)) (by decide), ?_, ?_, ?_, ?_,
    (State.busTemp_frame ..).mono rfl⟩
  all_goals rw [hdie]

theorem suspends (p : Picks s r d .suspend) (hop : (s.die (dieKey r d)).op = some o) : ∃ t, exec (.busGrant r) s = .next t ∧
    t.out = s.out ++ [.dieCmd r d [BitVec.ofNat 8 o.suspendByte] []] ∧ t.dieSt (dieKey r d) = 7 ∧
    (t.die (dieKey r d)).op = some { o with suspends := o.suspends + 1 } ∧ t.getR (R.RT_CNT_SUSPEND r) = s.getR (R.RT_CNT_SUSPEND r) + 1 ∧
    Frame (may [.flash, .outputs, .regs 17]) s t := by
  refine ⟨_, by rw [p.serves (by decide), busAct_suspend (x := s.wishTaken (dieKey r d)) hop], ?_, ?_, ?_, ?_,
    frame_of (State.busSuspend_frame ..) rfl rfl⟩
  all_goals
    unfold State.busSuspend
    dsimp only
  · exact (out_setDieSt ..).trans (out_cmd_die r p.die _ _)
  · exact dieSt_setDieSt_same (Or.inr (by decide)) (by decide)
  · rw [die_setDieSt_ne_idle (by decide), die_setF, die_setDie_same]
  · rw [getR_setDieSt_counter _ _ (by unfold R.RT_CNT_SUSPEND; omega),
      getR_setF_ne _ _ (ne_RT_DIE _ _ (by unfold R.RT_CNT_SUSPEND; omega)), getR_setDie, getR_bump_same]
    rfl

theorem resumes (p : Picks s r d .resume) (hheld : (s.die (dieKey r d)).held = some o) : ∃ t, exec (.busGrant r) s = .next t ∧
    t.out = s.out ++ [.dieCmd r d [BitVec.ofNat 8 (bits o.vcmd (F.RT_VCMD_RESUME r).lo 8)] []] ∧
    t.dieSt (dieKey r d) = (if o.cls = 2 then 5 else 6) ∧ (t.die (dieKey r d)).op = some o ∧ (t.die (dieKey r d)).held = none ∧
    t.getF (F.RT_DIE_HELD r d) = 0 ∧ Frame (may [.flash, .outputs, .regs 17]) s t := by
  have hst : (if o.cls = 2 then 5 else 6) ≠ 1 := by split <;> decide
  have hexec : exec (.busGrant r) s = .next ((s.served (dieKey r d)).busResume r (dieKey r d) (s.wishTaken (dieKey r d))) :=
    p.serves (by decide)
  have hframe := frame_of (m := may [.flash, .outputs, .regs 17])
    (State.busResume_frame (s.served (dieKey r d)) r (dieKey r d) (s.wishTaken (dieKey r d))) rfl rfl
  rw [busResume_eq (x := s.wishTaken (dieKey r d)) r hheld] at hexec hframe
  refine ⟨_, hexec, (out_setDieSt ..).trans (out_cmd_die r p.die _ _), dieSt_setDieSt_same (Or.inr hst) (by split <;> decide), ?_, ?_, ?_,
    hframe⟩
  · rw [die_setDieSt_ne_idle hst, die_setF, die_setDie_same]
  · rw [die_setDieSt_ne_idle hst, die_setF, die_setDie_same]
  · rw [getF_setDieSt_beside _ _ (Nat.le_of_ble_eq_true rfl), dieKey_mod r p.die, getF_setF_same _ _ _ (Nat.le_of_ble_eq_true rfl)]
    rfl

theorem resets (p : Picks s r d .reset) (hworks : s.dieSt (dieKey r d) ≠ 8) : ∃ t, exec (.busGrant r) s = .next t ∧
    t.out = s.out ++ [.dieCmd r d [0xFA] []] ∧ t.dieSt (dieKey r d) = 7 ∧ (t.die (dieKey r d)).want = none ∧
    Frame (may [.flash, .outputs, .regs 17]) s t := by
  have hexec : exec (.busGrant r) s = .next (((s.served (dieKey r d)).cmd (dieKey r d) [] [0xFA] []).setDieSt (dieKey r d) 7) := by
    rw [p.serves (by decide)]
    exact congrArg Host.Outcome.next (if_neg hworks)
  refine ⟨_, hexec, (out_setDieSt ..).trans (out_cmd_die r p.die _ _), dieSt_setDieSt_same (Or.inr (by decide)) (by decide), ?_,
    frame_of (n := may [.flash, .outputs, .regs 17]) ((State.setDieSt_frame ..).after ((State.cmd_frame ..).mono rfl) rfl) rfl rfl⟩
  rw [die_setDieSt_ne_idle (by decide), die_cmd, served_die]
  rfl

end Picks
end State
end Sys2Proof.Machine
end

section
/-! PROOFS. The envelopes of a loaded register take their credits and wait for the bus as one data-out (R18, R19, R140, R381). -/

namespace Sys2Proof.Machine
namespace State

variable {s : State}

/-! ### Jobs -/

theorem id_of_job? {i : Nat} {j : Job} (h : s.job? i = some j) : j.id = i := by simpa using List.find?_some h

theorem job?_setJob_same {j x : Job} (h : s.job? j.id = some x) : (s.setJob j).job? j.id = some j := find?_replace_same h

theorem job?_setJob_ne {i : Nat} {j : Job} (h : i ≠ j.id) : (s.setJob j).job? i = s.job? i := find?_replace_ne _ h

theorem job?_takeCredits_same {j : Job} (h : s.job? j.id = some j) :
    (s.takeCredits j).job? j.id = some { j with decIn := j.decIn || j.needsCredit, outIn := j.outIn || j.needsOut } :=
  job?_setJob_same (j := { j with decIn := j.decIn || j.needsCredit, outIn := j.outIn || j.needsOut }) h

theorem job?_takeCredits_ne {i : Nat} {j : Job} (h : i ≠ j.id) : (s.takeCredits j).job? i = s.job? i := job?_setJob_ne h

/-- The envelopes still to transfer are jobs of the model. -/
theorem job?_of_mem_wholeJobs {k : Nat} {j : Job} (h : j ∈ s.wholeJobs k) : s.job? j.id = some j := by
  unfold State.wholeJobs at h
  split at h
  · cases h
  · obtain ⟨hj, -⟩ := List.mem_filter.1 h
    cases hop : (s.die k).op with
    | none => simp [hop] at hj
    | some o =>
      obtain ⟨i, -, hi⟩ : ∃ i ∈ o.jobs, s.job? i = some j := by simpa [hop] using hj
      rwa [id_of_job? hi]

/-! ### The run of a data-out (R140) -/

/-- What follows a job without a gap lies behind it in its page. -/
theorem mem_runAfter {j x : Job} {l : List Job} (h : x ∈ s.runAfter j l) : x ∈ l ∧ addrEnv j.addr < addrEnv x.addr := by
  induction l generalizing j with
  | nil => cases h
  | cons y l ih =>
    unfold State.runAfter at h
    split at h
    next hnext =>
      rcases List.mem_cons.1 h with rfl | h
      · exact ⟨List.mem_cons_self, by omega⟩
      · obtain ⟨hmem, hlt⟩ := ih h
        exact ⟨List.mem_cons_of_mem _ hmem, by omega⟩
    next => cases h

theorem runAfter_congr {u : State} (h : ∀ a, u.busAddr a = s.busAddr a) (j : Job) (l : List Job) : u.runAfter j l = s.runAfter j l := by
  induction l generalizing j with
  | nil => rfl
  | cons x l ih =>
    unfold State.runAfter
    rw [h, h, ih]

/-- The envelopes that go in the same data-out are the first of those that may. -/
theorem runTake_prefix (r : Nat) (l : List Job) : (s.runTake r l).1 <+: l.map Job.id := by
  induction l generalizing s with
  | nil => exact List.prefix_rfl
  | cons j l ih =>
    unfold State.runTake
    split
    · exact (List.prefix_cons_inj j.id).2 ih
    · exact List.nil_prefix

/-- Another envelope keeps its credits as a run takes its own. -/
theorem job?_runTake {r i : Nat} {l : List Job} (h : ∀ x ∈ l, i ≠ x.id) : (s.runTake r l).2.job? i = s.job? i := by
  induction l generalizing s with
  | nil => rfl
  | cons j l ih =>
    unfold State.runTake
    split
    · exact (ih fun x hx => h x (List.mem_cons_of_mem _ hx)).trans (job?_takeCredits_ne (h j List.mem_cons_self))
    · rfl

/-! ### A data-out starts, or its die is parked (R18, R19, R381) -/

/-- Route `r` is to start a data-out of its die `d`: the first envelope is `j`, and `l` are the others. -/
structure Loads (s : State) (r d : Nat) (j : Job) (l : List Job) : Prop where
  issues : s.issues = true
  up : s.routeUp r = true
  loaded : s.dieSt (dieKey r d) = 4
  noWant : (s.die (dieKey r d)).want = none
  still : (s.die (dieKey r d)).moving = none
  jobs : s.wholeJobs (dieKey r d) = j :: l

/-- The time that die `k` was parked is counted. -/
def parkedCounted (s : State) (r k us : Nat) : State := if (s.die k).parked then s.bumpBy (R.RT_CNT_PARKED r) us else s

theorem parkedCounted_getR (r k us : Nat) : (s.parkedCounted r k us).getR (R.RT_CNT_PARKED r) =
    s.getR (R.RT_CNT_PARKED r) + (if (s.die k).parked = true then BitVec.ofNat 32 us else 0) := by
  unfold parkedCounted
  split
  · exact getR_setR_same ..
  · simp

theorem parkedCounted_job? (r k us i : Nat) : (s.parkedCounted r k us).job? i = s.job? i := by
  unfold parkedCounted
  split <;> rfl

theorem parkedCounted_busAddr (r k us a : Nat) : (s.parkedCounted r k us).busAddr a = s.busAddr a := by
  unfold parkedCounted
  split
  · refine (State.bumpBy_frame (m := may [.regs 17]) s _ us ?_ ?_).busAddr (by decide) a
    · rw [regGroup_RT_CNT_PARKED]; rfl
    · rw [regGroup_RT_CNT_PARKED]; rfl
  · rfl

namespace Loads

variable {r d : Nat} {j : Job} {l : List Job} (p : Loads s r d j l)
include p

/-- The first envelope is not among those that may follow it. -/
theorem id_ne {x : Job} (h : x ∈ s.runAfter j l) : j.id ≠ x.id := by
  intro heq
  obtain ⟨hmem, hlt⟩ := mem_runAfter h
  have hfirst : s.job? j.id = some j := job?_of_mem_wholeJobs (p.jobs ▸ List.mem_cons_self)
  have hother : s.job? x.id = some x := job?_of_mem_wholeJobs (p.jobs ▸ List.mem_cons_of_mem _ hmem)
  rw [heq, hother] at hfirst
  obtain rfl : x = j := Option.some.inj hfirst
  exact absurd hlt (Nat.lt_irrefl _)

theorem exec_eq (us : Nat) : exec (.dataOutStart r d us) s =
    if s.creditsFree r j = false then .next (s.setDie (dieKey r d) { s.die (dieKey r d) with parked := true })
    else
      let u := s.parkedCounted r (dieKey r d) us
      let t := (u.takeCredits j).runTake r (u.runAfter j l)
      .next ((t.2.setDie (dieKey r d) { t.2.die (dieKey r d) with parked := false, moving := some j.id, run :=
        t.1 }).want (dieKey r d) .dataOut) := by
  change execDataOutStart r d us s = _
  unfold execDataOutStart
  simp only [p.issues, p.up, p.loaded, p.noWant, p.still, p.jobs]
  rfl

/-- Without its credits the die is parked. -/
theorem parks (us : Nat) (hfree : s.creditsFree r j = false) : ∃ t, exec (.dataOutStart r d us) s = .next t ∧
    t.die (dieKey r d) = { s.die (dieKey r d) with parked := true } ∧ Frame (may [.flash]) s t := by
  refine ⟨_, ?_, die_setDie_same .., State.setDie_frame ..⟩
  rw [p.exec_eq, if_pos hfree]

theorem starts (us : Nat) (hfree : s.creditsFree r j = true) : ∃ t, exec (.dataOutStart r d us) s = .next t ∧
    (t.die (dieKey r d)).moving = some j.id ∧ (t.die (dieKey r d)).want = some .dataOut ∧ (t.die (dieKey r d)).parked = false ∧
    (t.die (dieKey r d)).run <+: (s.runAfter j l).map Job.id ∧
    t.job? j.id = some { j with decIn := j.decIn || j.needsCredit, outIn := j.outIn || j.needsOut } ∧
    t.getR (R.RT_CNT_PARKED r) =
      s.getR (R.RT_CNT_PARKED r) + (if (s.die (dieKey r d)).parked = true then BitVec.ofNat 32 us else 0) ∧
    Frame (may [.flash, .regs 17]) s t := by
  have hexec := p.exec_eq us
  rw [if_neg (by simp [hfree])] at hexec
  dsimp only at hexec
  rw [runAfter_congr (parkedCounted_busAddr r (dieKey r d) us)] at hexec
  generalize hu : s.parkedCounted r (dieKey r d) us = u at hexec
  have hfirst : u.job? j.id = some j := by
    rw [← hu, parkedCounted_job?]
    exact job?_of_mem_wholeJobs (p.jobs ▸ List.mem_cons_self)
  have hrun := State.runTake_frame (u.takeCredits j) r (s.runAfter j l)
  have hcounted : u.getR (R.RT_CNT_PARKED r) = _ := hu ▸ parkedCounted_getR ..
  refine ⟨_, hexec, ?_, ?_, ?_, ?_, ?_, ?_, execDataOutStart_frame r d us s _ hexec⟩
  · rw [die_want_same, die_setDie_same]
  · rw [die_want_same]
  · rw [die_want_same, die_setDie_same]
  · rw [die_want_same, die_setDie_same]
    exact runTake_prefix ..
  · exact (job?_runTake fun x hx => p.id_ne hx).trans (job?_takeCredits_same hfirst)
  · rw [getR_want, getR_setDie, getR_of_frame hrun (by decide), ← hcounted]
    rfl

end Loads
end State
end Sys2Proof.Machine
end

section
/-! PROOFS. The bus and the credits serve one activity (O35). -/

namespace Sys2Proof.Machine

/-- Settles O35: the bus carries out the activity it picks, kind by kind, and the envelopes of a loaded register start one data-out with
the credits they take, or wait parked. -/
theorem theBusAndTheCreditsServeOneActivity : Obligations.TheBusAndTheCreditsServeOneActivity := by
  unfold Obligations.TheBusAndTheCreditsServeOneActivity
  refine ⟨?_, ?_⟩
  · rintro s r d _ a - hd rfl hup hfree hburst hrelief hpick
    have p : State.Picks s r d a := ⟨hd, hup, hfree, hburst, hrelief, hpick⟩
    clear hup hfree hburst hrelief hpick
    refine ⟨?_, ?_, ?_, ?_, ?_, ?_, ?_, ?_, ?_, ?_, ?_, ?_, ?_⟩
    · rintro o hop rfl hready
      exact p.reads hop hready
    · exact fun o g vals hop ha => p.writesThresholds hop ha
    · rintro o c hop hnext rfl
      exact p.readsCache hop hnext
    · rintro rfl -
      exact p.endsCache
    · rintro o j hop hmoving hjob rfl
      exact p.transfers hop hmoving hjob
    · rintro o j hop hjob rfl
      exact p.transfersHeader hop hjob
    · rintro o i hop rfl
      exact p.sendsPlane hop
    · rintro o hop rfl hcls
      exact p.confirms hop hcls
    · rintro o hop rfl
      exact p.erases hop
    · rintro rfl
      exact p.readsTemperature
    · rintro o hop rfl
      exact p.suspends hop
    · rintro o hheld - rfl
      exact p.resumes hheld
    · rintro rfl hworks
      exact p.resets hworks
  · rintro s r d us _ j l - - rfl hissues hup hloaded hwant hstill hjobs
    have p : State.Loads s r d j l := ⟨hissues, hup, hloaded, hwant, hstill, hjobs⟩
    exact ⟨p.parks us, p.starts us⟩

end Sys2Proof.Machine
end

section
/-! PROOFS. A temperature that is taken, and the write guard that follows it (R94). -/

namespace Sys2Proof.Machine
namespace State

variable {s : State} {k : Nat}

/-! ### The write guard follows its conditions -/

/-- Die `k` is in service, and its temperature holds the guard of its route: a sensor fault, or a value outside the range of its class that
is not to be ignored. -/
structure Alarms (s : State) (k : Nat) : Prop where
  on : s.dieOn k = true
  live : s.dieSt k ≠ 8
  kept : s.retired k = false
  alarm : (s.die k).tempBad = true ∨ (s.die k).tempOut = true ∧ s.getF F.PWR_WG_X_IGNORE_TEMP = 0

theorem Alarms.route (h : s.Alarms k) : k / 16 < 32 := by
  have hon := h.on
  unfold State.dieOn State.routeOn at hon
  simp only [Bool.and_eq_true, decide_eq_true_eq] at hon
  exact hon.1.1

/-- A die that alarms is among the causes of its route's guard. -/
theorem Alarms.causes (h : s.Alarms k) : (s.guardCauses (k / 16)).2.1 = true ∨ (s.guardCauses (k / 16)).2.2.1 = true := by
  have hmem : k ∈ ((List.range 16).map (dieKey (k / 16))).filter fun k => s.dieOn k && s.dieSt k ≠ 8 && !s.retired k := by
    refine List.mem_filter.2 ⟨List.mem_map.2 ⟨k % 16, List.mem_range.2 (by omega), by unfold dieKey; omega⟩, ?_⟩
    simp [h.on, h.live, h.kept]
  unfold State.guardCauses
  rcases h.alarm with hbad | ⟨hout, hignore⟩
  · exact Or.inr (List.any_eq_true.2 ⟨k, hmem, hbad⟩)
  · refine Or.inl ?_
    dsimp only
    rw [List.any_eq_true.2 ⟨k, hmem, hout⟩, hignore]
    rfl

theorem guardRoute_img (r : Nat) : (s.guardRoute r).img = s.img := by
  have hreturn : ∀ (u : State) (j : Nat), (u.guardReturn j).img = u.img := fun u j => (State.guardReturn_frame u j).img (by decide)
  unfold guardRoute
  dsimp only
  rw [(State.driveWp_frame _ r).img (by decide)]
  split
  · exact foldl_keeps State.img fun u d _ => hreturn u _
  · rfl

theorem unguarded_dieSt (k : Nat) : unguarded (F.RT_DIE_STATE (k / 16) (k % 16)) :=
  ⟨by show R.RT_DIE _ _ ≠ _; unfold R.RT_DIE R.PWR_WG_STATUS; omega, Or.inr (Nat.le_of_ble_eq_true rfl)⟩

/-- A field of the guard's own registers beside what it shows. -/
theorem unguarded_of_power {f : Field} (hoff : f.off ≠ R.PWR_WG_STATUS) (hlow : f.off < 0x10000) : unguarded f :=
  ⟨hoff, Or.inl fun r h => by rw [h] at hlow; unfold R.RT_STATUS at hlow; omega⟩

theorem Alarms.guardRoute (h : s.Alarms k) (r : Nat) : (s.guardRoute r).Alarms k := by
  have hst : (s.guardRoute r).dieSt k = s.dieSt k := guardRoute_getF r (unguarded_dieSt k)
  have hdie := guardRoute_die (s := s) r k
  have hkept : ((s.guardRoute r).die k).tempBad = (s.die k).tempBad ∧ ((s.guardRoute r).die k).tempOut = (s.die k).tempOut ∧
      ((s.guardRoute r).die k).retiring = (s.die k).retiring := by
    rcases hdie with hsame | ⟨-, hback⟩
    · rw [hsame]; exact ⟨rfl, rfl, rfl⟩
    · rw [hback]; exact ⟨rfl, rfl, rfl⟩
  obtain ⟨hbad, hout, hretiring⟩ := hkept
  refine ⟨?_, by rw [hst]; exact h.live, ?_, ?_⟩
  · rw [← h.on]
    unfold State.dieOn State.routeOn State.routeCfg
    rw [guardRoute_img]
  · rw [← h.kept]
    unfold State.retired
    rw [hst, hretiring]
  · rw [hbad, hout, guardRoute_getF r (unguarded_of_power (by decide) (by decide))]
    exact h.alarm

/-- The guard of a route is its bit of the register that shows the guards. -/
theorem guardHolds_eq (r : Nat) : s.guardHolds r = decide (s.getF ⟨R.PWR_WG_STATUS, r, 1⟩ = 1) := by
  unfold State.guardHolds bit State.getF bits
  simp

theorem guardRoute_shown (r q : Nat) : (s.guardRoute r).getF ⟨R.PWR_WG_STATUS, q, 1⟩ =
    (s.setF ⟨R.PWR_WG_STATUS, r, 1⟩ (b2n ((s.guardCauses r).1 || (s.guardCauses r).2.1 || (s.guardCauses r).2.2.1 ||
      (s.guardCauses r).2.2.2))).getF ⟨R.PWR_WG_STATUS, q, 1⟩ := by
  have hdrive : ∀ u : State, (u.driveWp r).getF ⟨R.PWR_WG_STATUS, q, 1⟩ = u.getF ⟨R.PWR_WG_STATUS, q, 1⟩ := fun u =>
    congrArg (fun w : W32 => bits w.toNat q 1) ((State.driveWp_frame u r).reg R.PWR_WG_STATUS (by decide))
  unfold guardRoute
  dsimp only
  rw [hdrive]
  split
  · exact foldl_keeps (fun u : State => u.getF ⟨R.PWR_WG_STATUS, q, 1⟩) fun u d _ => guardReturn_getF (dieKey r d) _
  · rfl

theorem guardHolds_guardRoute (h : s.Alarms k) : (s.guardRoute (k / 16)).guardHolds (k / 16) = true := by
  have hroute := h.route
  rw [guardHolds_eq, guardRoute_shown, getF_setF_same _ _ _ (by show k / 16 + 1 ≤ 32; omega)]
  rcases h.causes with hout | hbad
  · simp [hout, b2n]
  · simp [hbad, b2n]

theorem guardHolds_guardRoute_ne {q r : Nat} (h : q ≠ r) (hr : r < 32) : (s.guardRoute r).guardHolds q = s.guardHolds q := by
  have hapart : q + 1 ≤ r ∨ r + 1 ≤ q := by omega
  rw [guardHolds_eq, guardHolds_eq, guardRoute_shown, getF_setF_ne _ _ (Or.inr hapart) (by show r + 1 ≤ 32; omega)]

theorem foldl_guardRoute_alarms (l : List Nat) (h : s.Alarms k) : (l.foldl State.guardRoute s).Alarms k := by
  induction l generalizing s with
  | nil => exact h
  | cons r l ih => exact ih (h.guardRoute r)

/-- A die that alarms holds the guard of its route. -/
theorem guardUpdate_holds (h : s.Alarms k) : s.guardUpdate.guardHolds (k / 16) = true := by
  have hall : ∀ l : List Nat, (∀ r ∈ l, r < 32) → k / 16 ∈ l → (l.foldl State.guardRoute s).guardHolds (k / 16) = true := fun l => by
    induction l using List.reverseRecOn with
    | nil => exact fun _ hmem => absurd hmem List.not_mem_nil
    | append_singleton l r ih =>
      intro hroutes hmem
      rw [List.foldl_append, List.foldl_cons, List.foldl_nil]
      by_cases hr : k / 16 = r
      · subst hr
        exact guardHolds_guardRoute (foldl_guardRoute_alarms l h)
      · rw [guardHolds_guardRoute_ne hr (hroutes r (by simp))]
        exact ih (fun q hq => hroutes q (List.mem_append_left _ hq)) (by simpa [hr] using hmem)
  exact hall _ (fun r hr => List.mem_range.1 hr) (List.mem_range.2 h.route)

/-! ### A temperature that is taken (R94) -/

/-- Whether the temperature `x` of die `k` lies outside its class's range; it comes back into it by two degrees. -/
def outsideAt (s : State) (k : Nat) (x : Int) : Bool :=
  if x < (s.geo k).low ∨ (s.geo k).high < x ∨ decide (x < -55 ∨ 175 < x) then true
  else if (s.geo k).low + 2 ≤ x ∧ x ≤ (s.geo k).high - 2 then false else (s.die k).tempOut

/-- What die `k` holds once its temperature is taken. -/
def tempTaken (s : State) (k : Nat) (x : Int) : Die :=
  { s.die k with temp := some x, tempOut := s.outsideAt k x, tempBad := decide (x < -55 ∨ 175 < x) }

/-- The events of a temperature: a sensor fault, and a value that leaves the range. -/
def tempEvents (s : State) (k : Nat) (x : Int) : State :=
  let u := s.setDie k (s.tempTaken k x)
  let u := if decide (x < -55 ∨ 175 < x) then u.raise F.PWR_WG_EVENT_SENSOR_FAULT else u
  if s.outsideAt k x ∧ (s.die k).tempOut = false then u.raise F.PWR_WG_EVENT_TEMP else u

theorem takeTemp_eq (x : Int) : s.takeTemp k x = (s.tempEvents k x).guardUpdate := rfl

theorem raise_powerEvent_frame {f : Field} (u : State) (h : f.off = R.PWR_WG_EVENT) : Frame 0x40150012 u (u.raise f) :=
  State.raise_frame u f (by rw [h]; rfl) (by rw [h]; rfl) rfl

theorem tempEvents_frame (x : Int) : Frame 0x40150112 s (s.tempEvents k x) := by
  have hpart : ∀ (u : State) (c : Prop) [Decidable c] (f : Field), f.off = R.PWR_WG_EVENT → Frame 0x40150112 s u →
      Frame 0x40150112 s (if c then u.raise f else u) := fun u c _ f hf hu =>
    .ite ((raise_powerEvent_frame u hf).after hu rfl) hu
  unfold tempEvents
  exact hpart _ _ _ rfl (hpart _ _ _ rfl ((State.setDie_frame ..).mono rfl))

theorem tempEvents_die (x : Int) : (s.tempEvents k x).die k = s.tempTaken k x := by
  have hpart : ∀ (u : State) (c : Prop) [Decidable c] (f : Field), f.off = R.PWR_WG_EVENT → (if c then u.raise f else u).die k = u.die k :=
    fun u c _ f hf => by
      split
      · exact die_of_frame (raise_powerEvent_frame u hf) (by decide) k
      · rfl
  unfold tempEvents
  dsimp only
  rw [hpart _ _ _ rfl, hpart _ _ _ rfl, die_setDie_same]

theorem tempEvents_ignore (x : Int) : (s.tempEvents k x).getF F.PWR_WG_X_IGNORE_TEMP = s.getF F.PWR_WG_X_IGNORE_TEMP := by
  have hpart : ∀ (u : State) (c : Prop) [Decidable c] (f : Field), f.off = R.PWR_WG_EVENT →
      (if c then u.raise f else u).getF F.PWR_WG_X_IGNORE_TEMP = u.getF F.PWR_WG_X_IGNORE_TEMP :=
    fun u c _ f hf => by
      split
      · exact raise_getF_ne u (by decide) (by rw [hf]; decide)
      · rfl
  unfold tempEvents
  dsimp only
  rw [hpart _ _ _ rfl, hpart _ _ _ rfl, getF_setDie]

/-- A value outside every window is a sensor fault, with its event. -/
theorem tempEvents_sensor {x : Int} (h : x < -55 ∨ 175 < x) : (s.tempEvents k x).getF F.PWR_WG_EVENT_SENSOR_FAULT = 1 := by
  unfold tempEvents
  dsimp only
  rw [if_pos (decide_eq_true h)]
  split
  · rw [raise_getF_beside _ (f := F.PWR_WG_EVENT_TEMP) (g := F.PWR_WG_EVENT_SENSOR_FAULT) (by decide) rfl (by decide) (by decide)]
    exact raise_getF _ (by decide) rfl (by decide)
  · exact raise_getF _ (by decide) rfl (by decide)

theorem outsideAt_of_outside {x : Int} (h : x < (s.geo k).low ∨ (s.geo k).high < x) : s.outsideAt k x = true := by
  unfold outsideAt
  rw [if_pos (by tauto)]

theorem tempEvents_leaves {x : Int} (h : x < (s.geo k).low ∨ (s.geo k).high < x) (hin : (s.die k).tempOut = false) :
    (s.tempEvents k x).getF F.PWR_WG_EVENT_TEMP = 1 := by
  unfold tempEvents
  dsimp only
  rw [if_pos ⟨outsideAt_of_outside h, hin⟩]
  exact raise_getF _ (by decide) rfl (by decide)

theorem tempEvents_alarms {x : Int} (hon : s.dieOn k = true) (hlive : s.dieSt k ≠ 8) (hkept : s.retired k = false)
    (halarm : x < -55 ∨ 175 < x ∨ (x < (s.geo k).low ∨ (s.geo k).high < x) ∧ s.getF F.PWR_WG_X_IGNORE_TEMP = 0) :
    (s.tempEvents k x).Alarms k := by
  have hst : (s.tempEvents k x).dieSt k = s.dieSt k := dieSt_of_frame (tempEvents_frame x) (by decide) k
  refine ⟨?_, by rw [hst]; exact hlive, ?_, ?_⟩
  · rw [← hon]
    unfold State.dieOn State.routeOn State.routeCfg
    rw [(tempEvents_frame (s := s) (k := k) x).img (by decide)]
  · rw [← hkept]
    unfold State.retired
    rw [hst, tempEvents_die]
    rfl
  · rw [tempEvents_die, tempEvents_ignore]
    rcases halarm with hlow | hhigh | ⟨hout, hignore⟩
    · exact Or.inl (decide_eq_true (Or.inl hlow))
    · exact Or.inl (decide_eq_true (Or.inr hhigh))
    · exact Or.inr ⟨outsideAt_of_outside hout, hignore⟩

/-- A temperature is taken as R94 says. -/
theorem takeTemp_readingTaken (x : Int) : s.readingTaken (s.takeTemp k x) k x := by
  rw [takeTemp_eq]
  have hevent : ∀ f : Field, f.off = R.PWR_WG_EVENT → (s.tempEvents k x).guardUpdate.getF f = (s.tempEvents k x).getF f :=
    fun f hf => guardUpdate_getF (unguarded_of_power (by rw [hf]; decide) (by rw [hf]; decide))
  refine ⟨?_, fun hon hlive hkept => ⟨fun hout hignore => ?_, fun hbad => ?_⟩, fun hout hin => ?_, fun hbad => ?_⟩
  · have htemp : ((s.tempEvents k x).guardUpdate.die k).temp = ((s.tempEvents k x).die k).temp := by
      rcases guardUpdate_die (s := s.tempEvents k x) k with hsame | ⟨-, hback⟩
      · rw [hsame]
      · rw [hback]; rfl
    rw [htemp, tempEvents_die]
    rfl
  · exact guardUpdate_holds (tempEvents_alarms hon hlive hkept (Or.inr (Or.inr ⟨hout, hignore⟩)))
  · exact guardUpdate_holds (tempEvents_alarms hon hlive hkept (by tauto))
  · rw [hevent _ rfl]
    exact tempEvents_leaves hout hin
  · rw [hevent _ rfl]
    exact tempEvents_sensor hbad

end State
end Sys2Proof.Machine
end

section
/-! PROOFS. The status of a busy die is read, and ends its read or its control command (R64, R75, R78, R95, R104, R149). -/

namespace Sys2Proof.Machine
namespace State

variable {s : State} {k : Nat}

/-! ### The poll of a busy die (R75, R78) -/

/-- The status command of die `k` is out. -/
def asked (s : State) (k : Nat) : State := s.cmd k [] [0x78] []

theorem asked_frame (k : Nat) : Frame (may [.outputs]) s (s.asked k) := State.cmd_frame ..

/-- Command `c` reads the status of busy die `d` of route `r`, which shows the die complete. -/
structure Polls (s : State) (c : Instr) (r d us : Nat) (st : Byte) : Prop where
  die : d < 16
  polls : s.polls r = true
  ready : bit st.toNat 6 = true
  arrayReady : bit st.toNat 5 = true
  mode : s.modeNow ≠ 10
  kept : (s.die (dieKey r d)).retiring = false
  cmd : (c = .statusPollDue r d st us ∧ (s.pollOnly (dieKey r d) = true ∨ s.busyOf r (d / 4) ≠ [dieKey r d])) ∨
    (c = .rbnRise r (d / 4) [(st, us)] ∧ s.pollOnly (dieKey r d) = false ∧ s.busyOf r (d / 4) = [dieKey r d])

/-- What `State.pollDie` finds: the die is ready, and so is its array. -/
structure Complete (st : Nat) : Prop where
  ready : bit st 6 = true
  arrayReady : bit st 5 = true

section
variable {st us : Nat} (h : Complete st)
include h

theorem pollDie_read (hst : s.dieSt k = 2) (hwant : (s.die k).want = none) : s.pollDie k st us = s.readEnded k us := by
  unfold State.pollDie
  simp [hst, hwant, h.ready, h.arrayReady]

theorem pollDie_control (hst : s.dieSt k = 7) (hends : (s.die k).want = none ∨ (s.die k).tempRun.isSome = true) :
    s.pollDie k st us = s.controlEnded k := by
  unfold State.pollDie
  rcases hends with hwant | htemp
  · simp [hst, hwant, h.ready, h.arrayReady]
  · simp [hst, htemp, h.ready, h.arrayReady]

theorem pollDie_program {o : DieOp} (hst : s.dieSt k = 5) (hop : (s.die k).op = some o) (hwant : (s.die k).want = none) :
    s.pollDie k st us = (s.accountRebuild k o us).programEnded k o st := by
  unfold State.pollDie
  simp [hst, hop, hwant, h.ready, h.arrayReady]

theorem pollDie_step {o : DieOp} (hst : s.dieSt k = 6) (hop : (s.die k).op = some o) (hrun : o.running = true)
    (hwant : (s.die k).want = none) : s.pollDie k st us = (s.accountRebuild k o us).stepEnded k o st := by
  unfold State.pollDie
  simp [hst, hop, hrun, hwant, h.ready, h.arrayReady]

end

theorem busy_of_dieSt {v : Nat} (hst : s.dieSt k = v) (hv : [2, 3, 5, 6, 7].contains v = true) : s.dieBusy k = true := by
  unfold State.dieBusy
  rwa [hst]

namespace Polls

variable {c : Instr} {r d us : Nat} {st : Byte} (p : Polls s c r d us st)
include p

theorem complete : Complete st.toNat := ⟨p.ready, p.arrayReady⟩

/-- Either command polls the one die. -/
theorem exec_eq (hbusy : s.dieBusy (dieKey r d) = true) :
    exec c s = .next ((s.asked (dieKey r d)).pollDie (dieKey r d) st.toNat us) := by
  have hd := p.die
  rcases p.cmd with ⟨rfl, hpoll⟩ | ⟨rfl, hpin, hlone⟩
  · change execStatusPollDue r d st us s = _
    unfold execStatusPollDue
    dsimp only
    rw [if_neg (by simp [p.polls, hbusy]), if_neg]
    · rfl
    · rintro ⟨hpin, hlone⟩
      rcases hpoll with hpoll | hpoll
      · rw [hpoll] at hpin
        cases hpin
      · exact hpoll hlone
  · change execRbnRise r (d / 4) [(st, us)] s = _
    unfold execRbnRise
    rw [if_neg (by simp [p.polls]; omega), hlone]
    simp [hpin]
    rfl

theorem asked_out : (s.asked (dieKey r d)).out = s.out ++ [.dieCmd r d [0x78] []] := out_cmd_die r p.die _ _

end Polls

/-! ### A control command ends (R95, R104, R149) -/

/-- The temperature read of die `k` is over, and the die IDLE. -/
def tempReadEnded (s : State) (k : Nat) : State := ((s.setDie k { s.die k with tempRun := none }).clearTimeouts k).setDieSt k 1

theorem controlEnded_temp {p1 : Byte} (h : (s.die k).tempRun = some p1) :
    s.controlEnded k = (s.tempReadEnded k).takeTemp k (signed 8 p1.toNat) := by
  unfold State.controlEnded
  simp only [h]
  rfl

theorem clearTimeouts_die (j k : Nat) : (s.clearTimeouts j).die k = s.die k := die_setF ..

theorem tempReadEnded_die (hkept : (s.die k).retiring = false) :
    ∃ n, (s.tempReadEnded k).die k = { s.die k with tempRun := none, tempSince := n } := by
  have hdie : ((s.setDie k { s.die k with tempRun := none }).clearTimeouts k).die k = { s.die k with tempRun := none } := by
    rw [clearTimeouts_die, die_setDie_same]
  obtain ⟨n, hn⟩ := die_setDieSt (s := (s.setDie k { s.die k with tempRun := none }).clearTimeouts k) (k := k) (v := 1)
    (Or.inl (by rw [hdie]; exact hkept))
  exact ⟨n, hn.trans (by rw [hdie])⟩

theorem tempReadEnded_dieSt (hkept : (s.die k).retiring = false) : (s.tempReadEnded k).dieSt k = 1 :=
  dieSt_setDieSt_same (Or.inl (by rw [clearTimeouts_die, die_setDie_same]; exact hkept)) (by decide)

theorem tempReadEnded_frame (k : Nat) : Frame (may [.flash, .regs 17]) s (s.tempReadEnded k) :=
  (State.setDieSt_frame ..).after ((State.clearTimeouts_frame ..).after ((State.setDie_frame ..).mono rfl) rfl) rfl

theorem tempReadEnded_timeouts (k : Nat) : (s.tempReadEnded k).getF (F.RT_DIE_TIMEOUTS (k / 16) (k % 16)) = 0 := by
  unfold tempReadEnded
  rw [getF_setDieSt_beside _ _ (Nat.le_of_ble_eq_true rfl)]
  exact getF_setF_same _ _ _ (Nat.le_of_ble_eq_true rfl)

/-- The reading is taken as it would have been before its read ended. -/
theorem readingTaken_tempReadEnded {x : Int} (hkept : (s.die k).retiring = false) :
    s.readingTaken ((s.tempReadEnded k).takeTemp k x) k x := by
  obtain ⟨n, hdie⟩ := tempReadEnded_die hkept
  obtain ⟨htemp, hguard, hleaves, hsensor⟩ := takeTemp_readingTaken (s := s.tempReadEnded k) (k := k) x
  have himg := (tempReadEnded_frame (s := s) k).img (by decide)
  have hst := tempReadEnded_dieSt hkept
  have hgeo : (s.tempReadEnded k).geo k = s.geo k := by
    unfold State.geo State.dieClass State.routeCfg
    rw [himg]
  have hon : (s.tempReadEnded k).dieOn k = s.dieOn k := by
    unfold State.dieOn State.routeOn State.routeCfg
    rw [himg]
  have hretired : (s.tempReadEnded k).retired k = false := by
    unfold State.retired
    rw [hst, hdie]
    exact hkept
  have hignore : (s.tempReadEnded k).getF F.PWR_WG_X_IGNORE_TEMP = s.getF F.PWR_WG_X_IGNORE_TEMP :=
    (tempReadEnded_frame k).getF (by decide)
  rw [hgeo, hon, hignore] at hguard
  rw [hgeo, hdie] at hleaves
  exact ⟨htemp, fun h _ _ => hguard h (by rw [hst]; decide) hretired, hleaves, hsensor⟩

theorem takeTemp_tempRun (x : Int) : ((s.takeTemp k x).die k).tempRun = (s.die k).tempRun := by
  rw [takeTemp_eq]
  have hevents : ((s.tempEvents k x).die k).tempRun = (s.die k).tempRun := by rw [tempEvents_die]; rfl
  rcases guardUpdate_die (s := s.tempEvents k x) k with hsame | ⟨-, hback⟩
  · rw [hsame, hevents]
  · rw [hback]
    exact hevents

/-- A temperature read ends with its reading (R94, R95). -/
theorem controlEnded_takes {p1 : Byte} (hkept : (s.die k).retiring = false) (h : (s.die k).tempRun = some p1) :
    s.readingTaken (s.controlEnded k) k (signed 8 p1.toNat) ∧ (s.controlEnded k).dieSt k = 1 ∧ ((s.controlEnded k).die k).tempRun = none ∧
      (s.controlEnded k).getF (F.RT_DIE_TIMEOUTS (k / 16) (k % 16)) = 0 := by
  obtain ⟨n, hdie⟩ := tempReadEnded_die hkept
  have htaken := State.takeTemp_frame (s.tempReadEnded k) k (signed 8 p1.toNat)
  rw [controlEnded_temp h]
  refine ⟨readingTaken_tempReadEnded hkept, ?_, ?_, ?_⟩
  · rw [dieSt_of_frame htaken (by decide), tempReadEnded_dieSt hkept]
  · rw [takeTemp_tempRun, hdie]
  · rw [← tempReadEnded_timeouts (s := s) k]
    exact htaken.getF (by rw [regGroup_F_RT_DIE_TIMEOUTS]; rfl)

/-- The operation of die `k` is suspended. -/
def suspended (s : State) (k : Nat) (o : DieOp) : State :=
  ((s.setDie k { s.die k with op := none, held := some o, minRun := false, holdMax := false }).setF (F.RT_DIE_HELD (k / 16) (k % 16))
    (o.cls - 1)).setDieSt k 1

theorem suspended_frame (k : Nat) (o : DieOp) : Frame (may [.flash, .regs 17]) s (s.suspended k o) := by
  refine (State.setDieSt_frame ..).after ((setF_frame _ (F.RT_DIE_HELD _ _) _ ?_ ?_).step ((State.setDie_frame ..).mono rfl)) rfl
  · rw [regGroup_F_RT_DIE_HELD]; rfl
  · rw [regGroup_F_RT_DIE_HELD]; rfl

theorem suspended_shows {o : DieOp} (hkept : (s.die k).retiring = false) : (s.suspended k o).dieSt k = 1 ∧
    ((s.suspended k o).die k).op = none ∧ ((s.suspended k o).die k).held = some o ∧
    (s.suspended k o).getF (F.RT_DIE_HELD (k / 16) (k % 16)) = (o.cls - 1) % 4 := by
  have hheld : ((s.setDie k { s.die k with op := none, held := some o, minRun := false, holdMax := false }).setF
      (F.RT_DIE_HELD (k / 16) (k % 16)) (o.cls - 1)).die k =
        { s.die k with op := none, held := some o, minRun := false, holdMax := false } := by rw [die_setF, die_setDie_same]
  have hstays : _ = false ∨ 1 ≠ 1 := Or.inl ((congrArg Die.retiring hheld).trans hkept)
  obtain ⟨n, hdie⟩ := die_setDieSt hstays
  unfold suspended
  refine ⟨dieSt_setDieSt_same hstays (by decide), ?_, ?_, ?_⟩
  · rw [hdie, hheld]
  · rw [hdie, hheld]
  · rw [getF_setDieSt_beside _ _ (Nat.le_of_ble_eq_true rfl), getF_setF_same _ _ _ (Nat.le_of_ble_eq_true rfl)]
    rfl

/-- A resume that is asked for changes nothing of the die but its wish. -/
theorem raiseResume_die : ((s.raiseResume k).die k).op = (s.die k).op ∧ ((s.raiseResume k).die k).held = (s.die k).held := by
  unfold State.raiseResume
  dsimp only
  split
  · rw [die_want_same]
    exact ⟨rfl, rfl⟩
  · exact ⟨rfl, rfl⟩

/-- A program or erase that was suspended is held (R104). -/
theorem controlEnded_holds {o : DieOp} (hkept : (s.die k).retiring = false) (htemp : (s.die k).tempRun = none)
    (hop : (s.die k).op = some o) (hcls : o.cls ≠ 1) (hrun : o.running = true) :
    (s.controlEnded k).out = s.out ∧ (s.controlEnded k).dieSt k = 1 ∧ ((s.controlEnded k).die k).op = none ∧
      ((s.controlEnded k).die k).held = some o ∧ (s.controlEnded k).getF (F.RT_DIE_HELD (k / 16) (k % 16)) = (o.cls - 1) % 4 ∧
      Frame (may [.flash, .regs 17]) s (s.controlEnded k) := by
  obtain ⟨hst, hnone, hheld, hcode⟩ := suspended_shows (o := o) hkept
  obtain ⟨hopStays, hheldStays⟩ := raiseResume_die (s := s.suspended k o) (k := k)
  have heq : s.controlEnded k = (s.suspended k o).raiseResume k := by
    unfold State.controlEnded suspended
    simp only [htemp, hop, hcls, hrun, if_true, if_false]
  have hresume := State.raiseResume_frame (s.suspended k o) k
  have hframe : Frame (may [.flash, .regs 17]) s (s.controlEnded k) := heq ▸ hresume.after (suspended_frame k o) rfl
  refine ⟨hframe.out (by decide), ?_, ?_, ?_, ?_, hframe⟩
  · rw [heq, dieSt_of_frame hresume (by decide), hst]
  · rw [heq, hopStays, hnone]
  · rw [heq, hheldStays, hheld]
  · rw [heq, hresume.getF (by rw [regGroup_F_RT_DIE_HELD]; rfl), hcode]

/-- The reset or feature access inside a bracket ends, and the bracket goes on. -/
theorem controlEnded_bracket {o : DieOp} {n : Nat} (htemp : (s.die k).tempRun = none) (hop : (s.die k).op = some o) (hcls : o.cls ≠ 1)
    (hrun : o.running = false) (hnext : s.nextStep k o = some n) : s.controlEnded k = s.setDieSt k 6 := by
  have hsame : (s.setDieSt k 6).nextStep k o = s.nextStep k o := by
    unfold State.nextStep State.geo State.dieClass State.routeCfg
    rw [die_setDieSt_ne_idle (by decide), (State.setDieSt_frame s k 6).img (by decide)]
  unfold State.controlEnded
  simp only [htemp, hop, hcls, hrun, hsame, hnext]
  rfl

/-- The thresholds of a read are written, and the read follows (R149). -/
theorem controlEnded_read {o : DieOp} (hmode : s.modeNow ≠ 10) (htemp : (s.die k).tempRun = none) (hop : (s.die k).op = some o)
    (hcls : o.cls = 1) : s.controlEnded k = (s.setDieSt k 1).want k .read := by
  unfold State.controlEnded
  simp only [htemp, hop, hcls, hmode]
  rfl

/-! ### A read ends (R64, R73, R75) -/

/-- The jobs of a list are found in the register once they are loaded. -/
theorem job?_loaded {l : List Job} {i : Nat} {j : Job} (hj : s.job? i = some j) (hl : ∀ x ∈ l, x.id = i → x = j) :
    (l.foldl (fun u x => u.setJob { x with phase := .inDie }) s).job? i = some (if l.any (·.id = i) then { j with phase :=
      .inDie } else j) := by
  induction l using List.reverseRecOn with
  | nil => simpa using hj
  | append_singleton l x ih =>
    rw [List.foldl_append, List.foldl_cons, List.foldl_nil]
    have hbefore := ih fun y hy => hl y (List.mem_append_left _ hy)
    by_cases hx : x.id = i
    · obtain rfl : x = j := hl x (by simp) hx
      subst hx
      rw [job?_setJob_same (j := { x with phase := .inDie }) hbefore]
      simp
    · rw [job?_setJob_ne (j := { x with phase := .inDie }) (Ne.symm hx), hbefore]
      simp [hx]

theorem job?_jobsLoaded {o : DieOp} {i : Nat} {j : Job} (hi : i ∈ o.jobs) (hj : s.job? i = some j) :
    (s.jobsLoaded o).job? i = some { j with phase := .inDie } := by
  have hmem : j ∈ o.jobs.filterMap s.job? := List.mem_filterMap.2 ⟨i, hi, hj⟩
  unfold State.jobsLoaded
  rw [job?_loaded hj, if_pos (List.any_eq_true.2 ⟨j, hmem, by simpa using id_of_job? hj⟩)]
  intro x hx hid
  obtain ⟨i', -, hx⟩ := List.mem_filterMap.1 hx
  rw [← id_of_job? hx, hid, hj] at hx
  exact (Option.some.inj hx).symm

/-- The array time of a rebuild's operation is all that is counted. -/
theorem accountRebuild_die (o : DieOp) (us : Nat) : ∃ n, (s.accountRebuild k o us).die k = { s.die k with rebuilt := n } := by
  unfold State.accountRebuild
  split
  · exact ⟨_, die_setDie_same ..⟩
  · exact ⟨_, rfl⟩

/-- The register of die `k` holds what its read `o` was for. -/
def registerLoaded (s : State) (k us : Nat) (o : DieOp) : State :=
  let u := ((s.accountRebuild k o us).clearTimeouts k).jobsLoaded o
  (u.setDie k { u.die k with ready := true }).setDieSt k 4

theorem jobsLoaded_die (o : DieOp) (j : Nat) : (s.jobsLoaded o).die j = s.die j :=
  foldl_keeps (fun u : State => u.die j) fun _ _ _ => rfl

theorem registerLoaded_die (us : Nat) (o : DieOp) : ∃ n, (s.registerLoaded k us o).die k = { s.die k with rebuilt := n, ready :=
  true } := by
  obtain ⟨n, hn⟩ := accountRebuild_die (s := s) (k := k) o us
  refine ⟨n, ?_⟩
  unfold registerLoaded
  rw [die_setDieSt_ne_idle (by decide), die_setDie_same, jobsLoaded_die, clearTimeouts_die, hn]

theorem registerLoaded_frame (us : Nat) (o : DieOp) : Frame (may [.flash, .regs 17]) s (s.registerLoaded k us o) :=
  (State.setDieSt_frame ..).after ((State.setDie_frame ..).after ((State.jobsLoaded_frame ..).after
    ((State.clearTimeouts_frame ..).after ((State.accountRebuild_frame ..).mono rfl) rfl) rfl) rfl) rfl

theorem registerLoaded_timeouts (us : Nat) (o : DieOp) : (s.registerLoaded k us o).getF (F.RT_DIE_TIMEOUTS (k / 16) (k % 16)) = 0 := by
  unfold registerLoaded
  rw [getF_setDieSt_beside _ _ (Nat.le_of_ble_eq_true rfl), getF_setDie,
    (State.jobsLoaded_frame _ o).getF (by rw [regGroup_F_RT_DIE_TIMEOUTS]; rfl)]
  exact getF_setF_same _ _ _ (Nat.le_of_ble_eq_true rfl)

theorem registerLoaded_job? {i us : Nat} {o : DieOp} {j : Job} (hi : i ∈ o.jobs) (hj : s.job? i = some j) :
    (s.registerLoaded k us o).job? i = some { j with phase := .inDie } := by
  have hjobs : ((s.accountRebuild k o us).clearTimeouts k).job? i = some j := by
    unfold State.accountRebuild
    split <;> exact hj
  have hput : ∀ u : State, (u.setDieSt k 4).job? i = u.job? i := fun u => by
    unfold State.setDieSt
    rfl
  unfold registerLoaded
  rw [hput]
  exact job?_jobsLoaded hi hjobs

/-- A register whose jobs go on stays loaded. -/
theorem readEnded_eq {o : DieOp} (us : Nat) (hmode : s.modeNow ≠ 10) (hop : (s.die k).op = some o) (hjobs : o.jobs ≠ []) :
    s.readEnded k us = (s.registerLoaded k us o).wantHeader k := by
  obtain ⟨n, hdie⟩ := registerLoaded_die (s := s) (k := k) us o
  have hsafe : (s.registerLoaded k us o).safeRelease k = s.registerLoaded k us o := by
    unfold State.safeRelease
    rw [if_neg (by rw [modeNow_of_frame (registerLoaded_frame us o) (by decide)]; exact hmode)]
  have hrelease : (s.registerLoaded k us o).release k = s.registerLoaded k us o := by
    unfold State.release
    dsimp only
    rw [if_neg]
    rintro ⟨-, hspent, -⟩
    rw [hdie] at hspent
    simp [Die.spent, hop, hjobs] at hspent
  have hempty : o.jobs.isEmpty = false := by simpa using hjobs
  unfold State.readEnded
  simp only [hop, hempty]
  exact congrArg (fun u : State => u.wantHeader k) ((congrArg (fun u : State => u.release k) hsafe).trans hrelease)

theorem wantHeader_die : ((s.wantHeader k).die k).op = (s.die k).op ∧ ((s.wantHeader k).die k).ready = (s.die k).ready := by
  unfold State.wantHeader
  split
  · rw [die_want_same]
    exact ⟨rfl, rfl⟩
  · exact ⟨rfl, rfl⟩

theorem wantHeader_job? (i : Nat) : (s.wantHeader k).job? i = s.job? i := by
  unfold State.wantHeader
  split <;> rfl

end State
end Sys2Proof.Machine
end

section
/-! PROOFS. A step of an erase bracket ends with a status byte (R76, R100, R101, R111, R298). -/

namespace Sys2Proof.Machine
namespace State

variable {s : State} {k : Nat}

/-! ### The status byte (R76) -/

theorem wpCheck_good {st : Nat} (h : bit st 7 = true) : s.wpCheck k st = s := if_pos h

theorem wpCheck_event {st : Nat} (h : bit st 7 = false) : (s.wpCheck k st).getF (F.RT_EVENT_PROTOCOL_ERR (k / 16)) = 1 := by
  unfold State.wpCheck
  rw [if_neg (by simp [h])]
  exact raise_getF s (still_RT_EVENT _) rfl (Nat.le_of_ble_eq_true rfl)

theorem wpCheck_seq (st : Nat) : (s.wpCheck k st).seq = s.seq := by
  unfold State.wpCheck
  split
  · rfl
  · exact raise_seq _

theorem wpCheck_die (j st : Nat) : (s.wpCheck k st).die j = s.die j := by
  unfold State.die
  rw [wpCheck_seq]

theorem wpCheck_dieSt (j st : Nat) : (s.wpCheck k st).dieSt j = s.dieSt j := by
  unfold State.wpCheck
  split
  · rfl
  · exact raise_getF_ne s (still_RT_DIE _ _) (RT_EVENT_ne_RT_DIE _ _ _).symm

/-! ### The entries of the ledger that an erase loses (R101) -/

/-- The ledger of die `k` is lost. -/
def ledgerGone (s : State) (k : Nat) : Die := { s.die k with ledger := { (s.die k).ledger with lost := true } }

theorem ledgerLost_die : (s.ledgerLost k).die k = s.ledgerGone k := by
  have hseq : (s.ledgerLost k).seq = (s.setDie k (s.ledgerGone k)).seq := raise_seq _
  unfold State.die
  rw [hseq]
  exact die_setDie_same ..

theorem ledgerLost_event : (s.ledgerLost k).getF F.FI_REC_EVENT_LEDGER_LOST = 1 := raise_getF _ (by decide) rfl (by decide)

/-! ### The steps (R100, R101) -/

/-- Die `k` holds its bracket with its step ended. -/
def stepPut (s : State) (k : Nat) (o : DieOp) : State := s.setDie k { s.die k with op := some o, want := none, minRun := false }

theorem stepPut_die (o : DieOp) : (s.stepPut k o).die k = { s.die k with op := some o, want := none, minRun := false } := die_setDie_same ..

theorem stepPut_frame (o : DieOp) : Frame (may [.flash]) s (s.stepPut k o) := State.setDie_frame ..

theorem nextStep_erase {o : DieOp} (hledger : o.noLedger = false) (hstep : o.step = 2) : s.nextStep k o = some 3 := by
  unfold State.nextStep
  simp [hledger, hstep]

theorem nextStep_intent {o : DieOp} (hledger : o.noLedger = false) (hstep : o.step = 1) : s.nextStep k o = some 2 := by
  unfold State.nextStep
  simp [hledger, hstep]

theorem nextStep_intent_lost {o : DieOp} (hledger : o.noLedger = true) (hswitch : o.switch = false) (hstep : o.step = 1) :
    s.nextStep k o = some 2 := by
  unfold State.nextStep
  simp [hledger, hswitch, hstep]

/-- The last step, whether or not the ledger was lost at it. -/
theorem nextStep_done {o : DieOp} (hswitch : o.switch = false) (hstep : o.step = 3) : s.nextStep k o = none := by
  unfold State.nextStep
  simp [hswitch, hstep]

/-- What a step's status leaves of the bracket and of the ledger of its die. -/
def stepResult (s : State) (k : Nat) (o : DieOp) (st : Nat) : DieOp × State :=
  let s := s.wpCheck k st
  if o.step = 2 ∨ (s.ledgerErased k o.step).isSome then
    ({ o with failed := badStatus st, running := false, erased := o.erased || o.eraseStep },
      if o.step = 9 then s.setDie k { s.die k with ledger := {} } else s)
  else if badStatus st then ({ o with noLedger := true, running := false }, s.ledgerLost k)
  else ({ o with running := false }, s)

theorem stepEnded_eq (o : DieOp) (st : Nat) : s.stepEnded k o st =
    match ((s.stepResult k o st).2.stepPut k (s.stepResult k o st).1).nextStep k (s.stepResult k o st).1 with
    | some _ => (s.stepResult k o st).2.stepPut k (s.stepResult k o st).1
    | none => ((s.stepResult k o st).2.stepPut k (s.stepResult k o st).1).bracketEnd k (s.stepResult k o st).1 := rfl

/-- The bracket waits for its next step. -/
theorem stepEnded_goes {o b : DieOp} {st n : Nat} {v : State} (hresult : s.stepResult k o st = (b, v))
    (hnext : (v.stepPut k b).nextStep k b = some n) : s.stepEnded k o st = v.stepPut k b := by
  rw [stepEnded_eq, hresult]
  dsimp only
  rw [hnext]

/-- The bracket has no further step. -/
theorem stepEnded_ends {o b : DieOp} {st : Nat} {v : State} (hresult : s.stepResult k o st = (b, v))
    (hnext : (v.stepPut k b).nextStep k b = none) : s.stepEnded k o st = (v.stepPut k b).bracketEnd k b := by
  rw [stepEnded_eq, hresult]
  dsimp only
  rw [hnext]

/-- The erase step has its status. -/
theorem stepResult_erase {o : DieOp} (st : Nat) (hstep : o.step = 2) : s.stepResult k o st =
    ({ o with failed := badStatus st, running := false, erased := true }, s.wpCheck k st) := by
  have herase : (o.erased || o.eraseStep) = true := by simp [DieOp.eraseStep, hstep]
  have hlast : ¬ o.step = 9 := by omega
  unfold stepResult
  dsimp only
  rw [if_pos (Or.inl hstep), if_neg hlast, herase]

/-- A step that erases no block programs the ledger. -/
theorem stepResult_ledger {o : DieOp} (st : Nat) (hstep : o.step = 1 ∨ o.step = 3) : s.stepResult k o st =
    if badStatus st then ({ o with noLedger := true, running := false }, (s.wpCheck k st).ledgerLost k)
    else ({ o with running := false }, s.wpCheck k st) := by
  have hnone : ((s.wpCheck k st).ledgerErased k o.step).isSome = false := by
    unfold State.ledgerErased
    rcases hstep with h | h <;> simp [h]
  unfold stepResult
  dsimp only
  rw [if_neg]
  rintro (herase | hsome)
  · omega
  · exact absurd hsome (by simp [hnone])

theorem stepEnded_erase {o : DieOp} (st : Nat) (hledger : o.noLedger = false) (hstep : o.step = 2) :
    s.stepEnded k o st = (s.wpCheck k st).stepPut k { o with failed := badStatus st, running := false, erased := true } :=
  stepEnded_goes (stepResult_erase st hstep) (nextStep_erase hledger hstep)

theorem stepEnded_intent {o : DieOp} {st : Nat} (hledger : o.noLedger = false) (hstep : o.step = 1) (hgood : badStatus st = false) :
    s.stepEnded k o st = (s.wpCheck k st).stepPut k { o with running := false } :=
  stepEnded_goes ((stepResult_ledger st (Or.inl hstep)).trans (if_neg (by simp [hgood]))) (nextStep_intent hledger hstep)

/-- An INTENT that failed leaves the erase without entries. -/
theorem stepEnded_intent_lost {o : DieOp} {st : Nat} (hswitch : o.switch = false) (hstep : o.step = 1) (hbad : badStatus st = true) :
    s.stepEnded k o st = ((s.wpCheck k st).ledgerLost k).stepPut k { o with noLedger := true, running := false } :=
  stepEnded_goes ((stepResult_ledger st (Or.inl hstep)).trans (if_pos hbad)) (nextStep_intent_lost rfl hswitch hstep)

/-- The last step ends the bracket, which keeps what its erase left. -/
theorem stepEnded_done {o : DieOp} (st : Nat) (hswitch : o.switch = false) (hstep : o.step = 3) : ∃ b v, (v = s.wpCheck k st ∨ v =
  (s.wpCheck k st).ledgerLost k) ∧
    b.erased = o.erased ∧ b.failed = o.failed ∧ b.cls = o.cls ∧ b.pages = o.pages ∧ b.purpose = o.purpose ∧
    s.stepEnded k o st = (v.stepPut k b).bracketEnd k b := by
  have hresult := stepResult_ledger (s := s) (k := k) st (Or.inr hstep)
  by_cases hbad : badStatus st = true
  · rw [if_pos hbad] at hresult
    exact ⟨{ o with noLedger := true, running := false }, _, Or.inr rfl, rfl, rfl, rfl, rfl, rfl,
      stepEnded_ends hresult (nextStep_done hswitch hstep)⟩
  · rw [if_neg hbad] at hresult
    exact ⟨{ o with running := false }, _, Or.inl rfl, rfl, rfl, rfl, rfl, rfl, stepEnded_ends hresult (nextStep_done hswitch hstep)⟩

end State
end Sys2Proof.Machine
end

section
/-! PROOFS. A program or an erase bracket ends, and its descriptor with it (R76, R86, R100, R101, R111, R298). -/

namespace Sys2Proof.Machine
namespace State

variable {s : State} {k : Nat}

theorem ended_of_frame {m id st n : Nat} {t : State} (h : Frame m s t) (h7 : m.testBit 7 = false) (hended : s.ended id st n) :
    t.ended id st n := by
  unfold State.ended
  simp only [h.desc? h7]
  exact hended

/-! ### The die leaves its operation -/

theorem leaveOp_shows (hkept : (s.die k).retiring = false) : (s.leaveOp k).dieSt k = 1 ∧ ((s.leaveOp k).die k).op = none := by
  have hstays : ((s.setDie k { s.die k with op := none, want := none, minRun := false }).die k).retiring = false ∨ 1 ≠ 1 :=
    Or.inl (by rw [die_setDie_same]; exact hkept)
  obtain ⟨n, hdie⟩ := die_setDieSt hstays
  unfold State.leaveOp
  exact ⟨dieSt_setDieSt_same hstays (by decide), by rw [hdie, die_setDie_same]⟩

/-- The events of a route stay as a die leaves its operation. -/
theorem leaveOp_getF_event (r : Nat) : (s.leaveOp k).getF (F.RT_EVENT_PROTOCOL_ERR r) = s.getF (F.RT_EVENT_PROTOCOL_ERR r) :=
  congrArg (fun w : W32 => bits w.toNat _ _) (getR_setDieSt_ne k 1 (RT_EVENT_ne_RT_DIE r (k / 16) (k % 16)))

/-- The die has left its operation; TIMEOUTS is cleared where it passed. -/
def opLeft (s : State) (k : Nat) (passed : Bool) : State := if passed then (s.leaveOp k).clearTimeouts k else s.leaveOp k

theorem opLeft_frame (passed : Bool) : Frame (may [.flash, .regs 17]) s (s.opLeft k passed) :=
  .ite ((State.clearTimeouts_frame ..).after (State.leaveOp_frame ..) rfl) (State.leaveOp_frame ..)

theorem opLeft_shows (hkept : (s.die k).retiring = false) (passed : Bool) :
    (s.opLeft k passed).dieSt k = 1 ∧ ((s.opLeft k passed).die k).op = none := by
  obtain ⟨hst, hop⟩ := leaveOp_shows hkept
  unfold opLeft
  split
  · refine ⟨?_, by rw [clearTimeouts_die, hop]⟩
    rw [← hst]
    exact getF_setF_ne _ _ (Or.inr (Or.inl (Nat.le_of_ble_eq_true rfl))) (Nat.le_of_ble_eq_true rfl)
  · exact ⟨hst, hop⟩

/-! ### What an operation was for learns its status -/

theorem tellPurposes_one {o : DieOp} {p : Purpose} (st : Nat) (hmode : s.modeNow ≠ 10) (hpurpose : o.purpose = [p]) :
    s.tellPurposes o st = (s.purposeDone st p).together s.seq.nextId := by
  unfold State.tellPurposes
  rw [if_neg hmode, hpurpose]
  rfl

/-- The descriptor of an erase ends with the status of its bracket. -/
theorem tellPurposes_eraseDesc {o : DieOp} {id : Nat} {e : Desc} (st : Nat) (hmode : s.modeNow ≠ 10) (hpurpose : o.purpose =
  [.eraseDesc id])
    (hdesc : s.desc? id = some e) (hopen : e.status = none) (hbuf : e.bufferFault = false) :
    (s.tellPurposes o st).ended id st (b2n (st = St.ok)) ∧ Frame (may [.descs]) s (s.tellPurposes o st) := by
  rw [tellPurposes_one st hmode hpurpose]
  exact ⟨ended_together _ (ended_finish _ _ hdesc hopen hbuf), (State.together_frame ..).after (State.finish_frame ..) rfl⟩

/-! ### The effects of an erase that passed (R111, R298) -/

/-- Where an address goes on the bus is told by the registers of the changes of address alone. -/
theorem busAddr_congr {t : State} (h : ∀ i, t.getR (R.FI_COA_A i) = s.getR (R.FI_COA_A i)) (a : Nat) : t.busAddr a = s.busAddr a := by
  unfold State.busAddr State.busDie State.coaOf State.getF F.FI_COA_A_STATE F.FI_COA_A_SRC_ROUTE F.FI_COA_A_SRC_DIE F.FI_COA_A_TGT_ROUTE
    F.FI_COA_A_TGT_DIE
  simp only [h]

theorem setPoison_poison (l : List Nat) : (s.setPoison l).fi.poison = l := by
  unfold State.setPoison
  split
  next h => exact h.symm
  next => rfl

theorem setPoison_die (l : List Nat) (j : Nat) : (s.setPoison l).die j = s.die j :=
  die_of_frame (State.setPoison_frame s l) (by decide) j

theorem setPoison_coa (l : List Nat) (i : Nat) : (s.setPoison l).getR (R.FI_COA_A i) = s.getR (R.FI_COA_A i) := by
  unfold State.setPoison
  split
  · rfl
  · dsimp only
    rw [getR_setF_ne _ _ (by show R.FI_COA_A i ≠ R.FI_STATUS; unfold R.FI_COA_A R.FI_STATUS; omega),
      getR_setF_ne _ _ (by show R.FI_COA_A i ≠ R.FI_POISON; unfold R.FI_COA_A R.FI_POISON; omega)]
    rfl

theorem dropIncomplete_coa (b i : Nat) : (s.dropIncomplete b).getR (R.FI_COA_A i) = s.getR (R.FI_COA_A i) := by
  unfold State.dropIncomplete
  dsimp only
  rw [getR_setF_ne _ _ (by show R.FI_COA_A i ≠ R.FI_REC_PENDING; unfold R.FI_COA_A R.FI_REC_PENDING; omega)]
  rfl

theorem logReerased_coa (b i : Nat) : (s.logReerased b).getR (R.FI_COA_A i) = s.getR (R.FI_COA_A i) := by
  refine foldl_keeps (fun u : State => u.getR (R.FI_COA_A i)) fun u j _ => ?_
  dsimp only
  split
  · exact getR_setF_ne _ _ (by show R.FI_COA_A i ≠ R.FI_REC_LOG j; unfold R.FI_COA_A R.FI_REC_LOG; omega)
  · rfl

/-- A block that has been erased is no longer incomplete, and its record shows it. -/
def erasedLogged (s : State) (log : Bool) (b : Nat) : State := if log then (s.dropIncomplete b).logReerased b else s.dropIncomplete b

theorem erasedLogged_coa (log : Bool) (b i : Nat) : (s.erasedLogged log b).getR (R.FI_COA_A i) = s.getR (R.FI_COA_A i) := by
  unfold erasedLogged
  split
  · rw [logReerased_coa, dropIncomplete_coa]
  · exact dropIncomplete_coa ..

theorem erasedLogged_frame (log : Bool) (b : Nat) : Frame 0x4000100 s (s.erasedLogged log b) :=
  .ite ((State.logReerased_frame ..).after (State.dropIncomplete_frame ..) rfl) (State.dropIncomplete_frame ..)

theorem logReerased_seq (b : Nat) : (s.logReerased b).seq = s.seq :=
  foldl_keeps State.seq fun u i _ => by
    dsimp only
    split <;> rfl

theorem erasedLogged_die (log : Bool) (b j : Nat) : (s.erasedLogged log b).die j = s.die j := by
  unfold erasedLogged State.die
  split
  · rw [logReerased_seq]
    rfl
  · rfl

theorem mem_incomplete_erasedLogged {log : Bool} {b x : Nat} (h : x ∈ (s.erasedLogged log b).seq.incomplete) :
    x ∈ s.seq.incomplete ∧ x ≠ b := by
  have hdrop : (s.erasedLogged log b).seq.incomplete = s.seq.incomplete.filter (· ≠ b) := by
    unfold erasedLogged
    split
    · rw [logReerased_seq]
      rfl
    · rfl
  rw [hdrop] at h
  simpa using h

/-- None of the blocks that were erased is incomplete. -/
theorem mem_incomplete_foldl {log : Bool} {keys : List Nat} {x : Nat} (h : x ∈ (keys.foldl (erasedLogged · log) s).seq.incomplete) :
    x ∈ s.seq.incomplete ∧ x ∉ keys := by
  induction keys generalizing s with
  | nil => exact ⟨h, List.not_mem_nil⟩
  | cons b keys ih =>
    obtain ⟨hmem, hkeys⟩ := ih h
    obtain ⟨hbefore, hne⟩ := mem_incomplete_erasedLogged hmem
    exact ⟨hbefore, by simp [hne, hkeys]⟩

/-- The poisoned envelopes that the erase of `o` leaves. -/
def poisonLeft (s : State) (o : DieOp) : List Nat :=
  s.fi.poison.filter fun a => !(o.pages.any fun p => busBlock (s.busAddr a) = busBlock p)

/-- The recovery erases that need not follow an erase. -/
def recoveryDropped (s : State) (o : DieOp) : State :=
  { s with seq := { s.seq with waiting := s.seq.waiting.filter fun x => !(x.origin = .recovery && x.shares o) } }

theorem eraseEffects_ok (o : DieOp) : s.eraseEffects o St.ok = (o.pages.map fun p => blockKey (addrDie p) (addrBlock p)).foldl
    (erasedLogged · o.recovery) ((s.setPoison (s.poisonLeft o)).recoveryDropped o) := by
  unfold State.eraseEffects
  rw [if_pos rfl]
  rfl

theorem eraseEffects_die (o : DieOp) (j : Nat) : (s.eraseEffects o St.ok).die j = s.die j := by
  rw [eraseEffects_ok, foldl_keeps (fun u : State => u.die j) fun u b _ => erasedLogged_die o.recovery b j]
  exact setPoison_die ..

theorem eraseEffects_busAddr (o : DieOp) (a : Nat) : (s.eraseEffects o St.ok).busAddr a = s.busAddr a := by
  refine busAddr_congr (fun i => ?_) a
  rw [eraseEffects_ok, foldl_keeps (fun u : State => u.getR (R.FI_COA_A i)) fun u b _ => erasedLogged_coa o.recovery b i]
  exact setPoison_coa ..

theorem eraseEffects_poison (o : DieOp) : (s.eraseEffects o St.ok).fi.poison = s.poisonLeft o := by
  rw [eraseEffects_ok, foldl_keeps (fun u : State => u.fi.poison) fun u b _ => congrArg Fi.poison ((erasedLogged_frame o.recovery b).fi
    (by decide))]
  exact setPoison_poison ..

/-- A page of the erase is neither incomplete nor poisoned any more. -/
theorem eraseEffects_clears {o : DieOp} {p : Nat} (hp : p ∈ o.pages) :
    blockKey (addrDie p) (addrBlock p) ∉ (s.eraseEffects o St.ok).seq.incomplete ∧
      ∀ a ∈ (s.eraseEffects o St.ok).fi.poison, busBlock ((s.eraseEffects o St.ok).busAddr a) ≠ busBlock p := by
  refine ⟨fun hmem => ?_, fun a ha heq => ?_⟩
  · rw [eraseEffects_ok] at hmem
    obtain ⟨-, hkeys⟩ := mem_incomplete_foldl hmem
    exact hkeys (List.mem_map.2 ⟨p, hp, rfl⟩)
  · rw [eraseEffects_poison] at ha
    rw [eraseEffects_busAddr] at heq
    obtain ⟨-, hnone⟩ := List.mem_filter.1 ha
    have hany : (o.pages.any fun p => decide (busBlock (s.busAddr a) = busBlock p)) = true :=
      List.any_eq_true.2 ⟨p, hp, decide_eq_true heq⟩
    rw [hany] at hnone
    cases hnone

/-! ### The end of an erase bracket (R100, R101) -/

/-- Descriptor `id` is open, and is what operation `o` ends. -/
structure Ends (s : State) (k id : Nat) (e : Desc) (o : DieOp) (p : Purpose) : Prop where
  mode : s.modeNow ≠ 10
  kept : (s.die k).retiring = false
  purpose : o.purpose = [p]
  desc : s.desc? id = some e
  still : e.status = none
  sound : e.bufferFault = false

/-- What changes neither a die nor a descriptor nor the mode leaves them to end. -/
theorem Ends.of_frame {m id : Nat} {e : Desc} {o b : DieOp} {p : Purpose} {t : State} (h : s.Ends k id e o p) (f : Frame m s t)
    (h7 : m.testBit 7 = false) (h36 : m.testBit 36 = false) (hkept : (t.die k).retiring = (s.die k).retiring) (hb : b.purpose = o.purpose) :
    t.Ends k id e b p :=
  ⟨by rw [modeNow_of_frame f h36]; exact h.mode, by rw [hkept]; exact h.kept, by rw [hb]; exact h.purpose,
    (f.desc? h7 id).trans h.desc, h.still, h.sound⟩

theorem opLeft_ends {id : Nat} {e : Desc} {o : DieOp} {p : Purpose} (h : s.Ends k id e o p) (passed : Bool) :
    (s.opLeft k passed).modeNow ≠ 10 ∧ (s.opLeft k passed).desc? id = some e :=
  ⟨by rw [modeNow_of_frame (opLeft_frame passed) (by decide)]; exact h.mode, ((opLeft_frame passed).desc? (by decide) id).trans h.desc⟩

/-- An erase that passed ends its descriptor, and its blocks are neither incomplete nor poisoned. -/
theorem bracketEnd_passed {id : Nat} {e : Desc} {o : DieOp} (h : s.Ends k id e o (.eraseDesc id)) (hcls : o.cls = 3)
    (herased : o.erased = true) (hfailed : o.failed = false) : (s.bracketEnd k o).ended id 0 1 ∧ (s.bracketEnd k o).dieSt k = 1 ∧
      ((s.bracketEnd k o).die k).op = none ∧ (∀ p ∈ o.pages, blockKey (addrDie p) (addrBlock p) ∉ (s.bracketEnd k o).seq.incomplete ∧
        ∀ a ∈ (s.bracketEnd k o).fi.poison, busBlock ((s.bracketEnd k o).busAddr a) ≠ busBlock p) := by
  have heq : s.bracketEnd k o = (((s.opLeft k true).eraseEffects o St.ok).tellPurposes o St.ok).driveWp (k / 16) := by
    unfold State.bracketEnd State.writeEnded DieOp.eraseStatus
    simp [herased, hfailed, hcls]
    rfl
  obtain ⟨hmode, hdesc⟩ := opLeft_ends h true
  obtain ⟨hst, hop⟩ := opLeft_shows h.kept true
  have heffects := State.eraseEffects_frame (s.opLeft k true) o St.ok
  obtain ⟨hended, htold⟩ := tellPurposes_eraseDesc (s := (s.opLeft k true).eraseEffects o St.ok) St.ok
    (by rw [modeNow_of_frame heffects (by decide)]; exact hmode) h.purpose ((heffects.desc? (by decide) id).trans hdesc) h.still h.sound
  have hdriven := (State.driveWp_frame (((s.opLeft k true).eraseEffects o St.ok).tellPurposes o St.ok) (k / 16))
  have hafter : Frame 0x100000080 ((s.opLeft k true).eraseEffects o St.ok) (s.bracketEnd k o) :=
    heq ▸ hdriven.after (htold.mono rfl) rfl
  refine ⟨heq ▸ ended_of_frame hdriven (by decide) hended, ?_, ?_, fun p hp => ?_⟩
  · rw [dieSt_of_frame hafter (by decide), dieSt_of_frame heffects (by decide), hst]
  · rw [die_of_frame hafter (by decide), eraseEffects_die, hop]
  · obtain ⟨hincomplete, hpoison⟩ := eraseEffects_clears (s := s.opLeft k true) hp
    rw [incomplete_of_frame hafter (by decide), hafter.fi (by decide)]
    exact ⟨hincomplete, fun a ha => by rw [hafter.busAddr (by decide)]; exact hpoison a ha⟩

/-- An erase that failed ends its descriptor with ERASE_FAIL. -/
theorem bracketEnd_failed {id : Nat} {e : Desc} {o : DieOp} (h : s.Ends k id e o (.eraseDesc id)) (hcls : o.cls = 3)
    (herased : o.erased = true) (hfailed : o.failed = true) : (s.bracketEnd k o).ended id St.eraseFail 0 ∧ (s.bracketEnd k o).dieSt k = 1 ∧
      ((s.bracketEnd k o).die k).op = none ∧ (s.bracketEnd k o).fi.poison = s.fi.poison := by
  have heq : s.bracketEnd k o = ((s.opLeft k false).tellPurposes o St.eraseFail).driveWp (k / 16) := by
    unfold State.bracketEnd State.writeEnded DieOp.eraseStatus
    simp [herased, hfailed, hcls]
    rfl
  obtain ⟨hmode, hdesc⟩ := opLeft_ends h false
  obtain ⟨hst, hop⟩ := opLeft_shows h.kept false
  obtain ⟨hended, htold⟩ := tellPurposes_eraseDesc St.eraseFail hmode h.purpose hdesc h.still h.sound
  have hdriven := (State.driveWp_frame ((s.opLeft k false).tellPurposes o St.eraseFail) (k / 16))
  have hafter : Frame 0x100000080 (s.opLeft k false) (s.bracketEnd k o) := heq ▸ hdriven.after (htold.mono rfl) rfl
  refine ⟨heq ▸ ended_of_frame hdriven (by decide) hended, ?_, ?_, ?_⟩
  · rw [dieSt_of_frame hafter (by decide), hst]
  · rw [die_of_frame hafter (by decide), hop]
  · rw [hafter.fi (by decide), (opLeft_frame (s := s) (k := k) false).fi (by decide)]

/-! ### A sound memory (R265, R266) -/

theorem zero_word_clean (failed : Option Nat) : decodeErr failed 0 = .clean := by
  have hzero : twoSyn (unitWord 0 (leBytes 18 0)) = (0, 0) := by decide +kernel
  unfold decodeErr
  split
  · unfold unitDecodeErasure
    simp only [hzero]
    rfl
  · unfold unitDecode
    simp only [hzero]
    rfl

/-- A word of a sound memory reads clean, and its read changes nothing. -/
theorem readWord_sound (h : s.memorySound) (w : Nat) : s.readWord w = (true, 0, s) := by
  obtain ⟨herr, hspare, harm⟩ := h
  have hstored : s.wordErr w = 0 := by
    unfold State.wordErr
    rw [herr, hspare]
    split <;> rfl
  have hinjected : s.injection w = 0 := by
    unfold State.injection
    rw [if_neg (by rw [harm]; rintro ⟨h, -⟩; cases h)]
  have harmed : s.armedAt w = false := by
    unfold State.armedAt
    rw [harm]
    rfl
  unfold State.readWord
  simp [hstored, hinjected, harmed, zero_word_clean]

/-- The tag bits of a line are written with nothing else changed. -/
theorem tagBits_sound (h : s.memorySound) (set way : Nat) (f : Line → Line) :
    (s.tagBits set way f).memorySound ∧ Frame (may [.pigeonholes, .sram]) s (s.tagBits set way f) := by
  have heq : ∃ w, s.tagBits set way f = (s.wordsKept w).setLine set way (f ((s.wordsKept w).line set way)) := by
    refine ⟨Config.tagWord (16 * set + way), ?_⟩
    unfold State.tagBits State.mergeWord
    rw [readWord_sound h]
    rfl
  obtain ⟨w, heq⟩ := heq
  obtain ⟨herr, hspare, harm⟩ := h
  rw [heq]
  refine ⟨⟨?_, ?_, harm⟩, (State.setLine_frame ..).after ((State.wordsKept_frame ..).mono rfl) rfl⟩
  · show s.mi.err.filter _ = []
    rw [herr]
    rfl
  · show s.mi.spareErr.filter _ = []
    rw [hspare]
    rfl

/-- The pending lines of a page that was programmed become readable. -/
theorem pageLines_sound (h : s.memorySound) (page : Nat) :
    Frame (may [.pigeonholes, .sram]) s (s.pageLines page true) := by
  have hline : ∀ (u : State) (a : Nat), u.memorySound → (u.lineEnds a true).memorySound ∧
      Frame (may [.pigeonholes, .sram]) u (u.lineEnds a true) := fun u a hu => by
    unfold State.lineEnds
    split
    · rw [if_pos rfl]
      exact tagBits_sound hu ..
    · exact ⟨hu, Frame.refl u⟩
  have hall : (s.pageLines page true).memorySound ∧ Frame (may [.pigeonholes, .sram]) s (s.pageLines page true) :=
    List.foldlRecOn (motive := fun u : State => u.memorySound ∧ Frame (may [.pigeonholes, .sram]) s u) _ _ ⟨h, Frame.refl s⟩
      fun u ⟨hu, hframe⟩ e _ => by
        obtain ⟨hsound, hstep⟩ := hline u (page + e) hu
        exact ⟨hsound, hframe.trans hstep⟩
  exact hall.2

/-! ### The end of a program (R76, R86, R235) -/

theorem startProg_done {id : Nat} {d : Desc} (hdesc : s.desc? id = some d) (hopen : d.status = none) (hpages : d.pages = []) :
    s.startProg id = s.finish id d.goodStatus d.count := by
  unfold State.startProg
  simp only [hdesc, hopen, hpages]

/-- The last page of a PROGRAM has been programmed, and its descriptor ends. -/
theorem progDone_last {id page : Nat} {data : List Bytes} {d : Desc} (hsound : s.memorySound) (hmode : s.modeNow ≠ 10)
    (hdesc : s.desc? id = some d) (hopen : d.status = none) (hbuf : d.bufferFault = false) (hop : d.op = 0x04)
    (hpages : d.pages = [(page, data)]) : (s.progDone id St.ok).ended id St.ok (d.count + 4) ∧
      Frame (may [.descs, .pigeonholes, .sram]) s (s.progDone id St.ok) := by
  obtain rfl := id_of_desc? hdesc
  have hlines := pageLines_sound hsound page
  generalize hd : ({ d with count := d.count + 4, pages := [] } : Desc) = e
  have hid : e.id = d.id := by rw [← hd]
  have hstored : ((s.pageLines page true).setDesc e).desc? d.id = some e := by
    rw [← hid]
    exact desc?_setDesc_same (x := d) (by rw [hid, hlines.desc? (by decide), hdesc])
  have hframe : Frame (may [.descs, .pigeonholes, .sram]) s ((s.pageLines page true).setDesc e) :=
    (State.setDesc_frame ..).after (hlines.mono rfl) rfl
  have hgood : e.goodStatus = St.ok := by
    have hopcode : e.op = d.op := by rw [← hd]; rfl
    unfold Desc.goodStatus
    rw [if_neg (by rw [hopcode, hop]; decide)]
  have heq : s.progDone d.id St.ok = ((s.pageLines page true).setDesc e).finish d.id St.ok (d.count + 4) := by
    have hnext := startProg_done hstored (by rw [← hd]; exact hopen) (by rw [← hd])
    have hmode' : ((s.pageLines page true).setDesc e).modeNow ≠ 10 := by
      rw [modeNow_of_frame hframe (by decide)]
      exact hmode
    have hcount : e.count = d.count + 4 := by rw [← hd]
    simp only [hopen, hbuf] at hd
    unfold State.progDone
    simp only [hdesc, hopen, hpages, hbuf, hd, if_true, Bool.false_eq_true, if_false, hmode', hnext, hgood, hcount]
  rw [heq]
  exact ⟨ended_finish _ _ hstored (by rw [← hd]; exact hopen) (by rw [← hd]; exact hbuf), (State.finish_frame ..).after hframe rfl⟩

/-- A page that was not programmed ends its descriptor with what was programmed before. -/
theorem progDone_failed {id page st : Nat} {data : List Bytes} {d : Desc} (hst : st ≠ St.ok) (hdesc : s.desc? id =
  some d) (hopen : d.status = none)
    (hbuf : d.bufferFault = false) (hpages : d.pages = [(page, data)]) : (s.progDone id st).ended id st d.count ∧
      Frame 0x42150892 s (s.progDone id st) := by
  obtain rfl := id_of_desc? hdesc
  have hlines := pageLines_dropped_frame (s := s) page
  have heq : s.progDone d.id st = (s.pageLines page false).finish d.id st d.count := by
    unfold State.progDone State.progEnd
    simp only [hdesc, hopen, hpages]
    rw [if_neg hst]
    rfl
  rw [heq]
  exact ⟨ended_finish _ _ ((hlines.desc? (by decide) _).trans hdesc) hopen hbuf, (State.finish_frame ..).after (hlines.mono rfl) rfl⟩

/-- A program that passed ends its descriptor with one page more. -/
theorem programEnded_passed {id page st : Nat} {data : List Bytes} {e : Desc} {o : DieOp} (h : s.Ends k id e o (.progDesc id)) (hcls :
  o.cls = 2)
    (hop : e.op = 0x04) (hpages : e.pages = [(page, data)]) (hsound : s.memorySound) (hwp : bit st 7 = true) (hfail : bit st 0 = false) :
    (s.programEnded k o st).ended id 0 (e.count + 4) ∧ (s.programEnded k o st).dieSt k = 1 ∧ ((s.programEnded k o st).die k).op = none := by
  have hgood : badStatus st = false := by simp [badStatus, hwp, hfail]
  have heq : s.programEnded k o st = ((s.opLeft k true).tellPurposes o St.ok).driveWp (k / 16) := by
    unfold State.programEnded State.writeEnded
    rw [wpCheck_good hwp]
    simp [hgood, hcls]
    rfl
  obtain ⟨hmode, hdesc⟩ := opLeft_ends h true
  obtain ⟨hst, hop'⟩ := opLeft_shows h.kept true
  have hleft := opLeft_frame (s := s) (k := k) true
  have hsound' : (s.opLeft k true).memorySound := by
    unfold State.memorySound
    rw [hleft.mi (by decide), hleft.getF (f := F.MI_INJECT_X_ARM) (by decide)]
    exact hsound
  obtain ⟨hended, hdone⟩ := progDone_last hsound' hmode hdesc h.still h.sound hop hpages
  rw [tellPurposes_one St.ok hmode h.purpose] at heq
  have hdriven := State.driveWp_frame (((s.opLeft k true).progDone id St.ok).together (s.opLeft k true).seq.nextId) (k / 16)
  have hafter : Frame 0x100001880 (s.opLeft k true) (s.programEnded k o st) :=
    heq ▸ hdriven.after ((State.together_frame ..).after (hdone.mono rfl) rfl) rfl
  refine ⟨heq ▸ ended_of_frame hdriven (by decide) (ended_together _ hended), ?_, ?_⟩
  · rw [dieSt_of_frame hafter (by decide), hst]
  · rw [die_of_frame hafter (by decide), hop']

/-- A program that failed, or that WP# kept from running, ends its descriptor with PROGRAM_FAIL. -/
theorem programEnded_failed {id page st : Nat} {data : List Bytes} {e : Desc} {o : DieOp} (h : s.Ends k id e o (.progDesc id)) (hcls :
  o.cls = 2)
    (hpages : e.pages = [(page, data)]) (hbad : badStatus st = true) :
    (s.programEnded k o st).ended id St.programFail e.count ∧ (s.programEnded k o st).dieSt k = 1 ∧ ((s.programEnded k o st).die k).op =
      none ∧
      (bit st 7 = false → (s.programEnded k o st).getF (F.RT_EVENT_PROTOCOL_ERR (k / 16)) = 1) := by
  have hchecked := State.wpCheck_frame s k st
  have hends : (s.wpCheck k st).Ends k id e o (.progDesc id) := h.of_frame hchecked (by decide) (by decide) (by rw [wpCheck_die]) rfl
  have heq : s.programEnded k o st = (((s.wpCheck k st).opLeft k false).tellPurposes o St.programFail).driveWp (k / 16) := by
    unfold State.programEnded State.writeEnded
    simp [hbad, hcls]
    rfl
  obtain ⟨hmode, hdesc⟩ := opLeft_ends hends false
  obtain ⟨hst, hop⟩ := opLeft_shows hends.kept false
  obtain ⟨hended, hdone⟩ := progDone_failed (st := St.programFail) (by decide) hdesc h.still h.sound hpages
  rw [tellPurposes_one St.programFail hmode h.purpose] at heq
  have hdriven := State.driveWp_frame
    ((((s.wpCheck k st).opLeft k false).progDone id St.programFail).together ((s.wpCheck k st).opLeft k false).seq.nextId) (k / 16)
  have hafter : Frame 0x142150892 ((s.wpCheck k st).opLeft k false) (s.programEnded k o st) :=
    heq ▸ hdriven.after ((State.together_frame ..).after (hdone.mono rfl) rfl) rfl
  refine ⟨heq ▸ ended_of_frame hdriven (by decide) (ended_together _ hended), ?_, ?_, fun hwp => ?_⟩
  · rw [dieSt_of_frame hafter (by decide), hst]
  · rw [die_of_frame hafter (by decide), hop]
  · rw [hafter.getF (by rw [regGroup_F_RT_EVENT_PROTOCOL_ERR]; rfl), ← wpCheck_event (s := s) (k := k) hwp]
    exact leaveOp_getF_event _

end State
end Sys2Proof.Machine
end

section
/-! PROOFS. Status ends die operations (O36). -/

namespace Sys2Proof.Machine
namespace State

variable {s : State}

/-- The status is read, and the array time of a rebuild's operation is counted. -/
def answered (s : State) (k : Nat) (o : DieOp) (us : Nat) : State := (s.asked k).accountRebuild k o us

theorem answered_out (k : Nat) (o : DieOp) (us : Nat) : (s.answered k o us).out = (s.asked k).out :=
  (State.accountRebuild_frame (s.asked k) k o us).out (by decide)

theorem answered_die (k : Nat) (o : DieOp) (us : Nat) : ∃ n, (s.answered k o us).die k = { s.die k with rebuilt := n } :=
  accountRebuild_die o us

theorem answered_frame (k : Nat) (o : DieOp) (us : Nat) : Frame (may [.flash, .outputs]) s (s.answered k o us) :=
  (State.accountRebuild_frame ..).after ((asked_frame k).mono rfl) rfl

theorem answered_dieSt (k : Nat) (o : DieOp) (us : Nat) : (s.answered k o us).dieSt k = s.dieSt k :=
  dieSt_of_frame (answered_frame k o us) (by decide) k

theorem answered_memory {k us : Nat} {o : DieOp} (h : s.memorySound) : (s.answered k o us).memorySound := by
  have hframe := answered_frame (s := s) k o us
  unfold State.memorySound
  rw [hframe.mi (by decide), hframe.getF (f := F.MI_INJECT_X_ARM) (by decide)]
  exact h

namespace Polls

variable {c : Instr} {r d us : Nat} {st : Byte} {o : DieOp} (p : Polls s c r d us st)

section
include p

/-- What a status byte ends keeps what the poll put on the bus. -/
theorem said_out {t : State} {said : List Output} (hsaid : said = s.out ++ [.dieCmd r d [0x78] []]) (h : t.out =
  (s.asked (dieKey r d)).out) :
    t.out = said := by rw [h, p.asked_out, hsaid]

/-! ### Control commands and reads -/

theorem takesTemperature {p1 : Byte} {said : List Output} (hsaid : said = s.out ++ [.dieCmd r d [0x78] []]) (hst : s.dieSt (dieKey r d) = 7)
    (htemp : (s.die (dieKey r d)).tempRun = some p1) : ∃ t, exec c s = .next t ∧ s.readingTaken t (dieKey r d) (signed 8 p1.toNat) ∧
      t.dieSt (dieKey r d) = 1 ∧ (t.die (dieKey r d)).tempRun = none ∧ t.getF (F.RT_DIE_TIMEOUTS r d) = 0 ∧ said <+: t.out := by
  obtain ⟨htaken, hidle, hnone, hcleared⟩ := controlEnded_takes (s := s.asked (dieKey r d)) p.kept htemp
  obtain ⟨a, ha⟩ := (State.controlEnded_frame (s.asked (dieKey r d)) (dieKey r d)).left
  rw [dieKey_div r p.die, dieKey_mod r p.die] at hcleared
  refine ⟨_, ?_, htaken, hidle, hnone, hcleared, ⟨a, ?_⟩⟩
  · rw [p.exec_eq (busy_of_dieSt hst rfl), pollDie_control (s := s.asked (dieKey r d)) p.complete hst (Or.inr (Option.isSome_of_eq_some
      htemp))]
  · rw [ha, p.asked_out, hsaid]

/-- A control command that is no temperature read ends. -/
theorem ends_control (hst : s.dieSt (dieKey r d) = 7) (hwant : (s.die (dieKey r d)).want = none) :
    exec c s = .next ((s.asked (dieKey r d)).controlEnded (dieKey r d)) := by
  rw [p.exec_eq (busy_of_dieSt hst rfl), pollDie_control (s := s.asked (dieKey r d)) p.complete hst (Or.inl hwant)]

theorem loads {said : List Output} (hsaid : said = s.out ++ [.dieCmd r d [0x78] []]) (hop : (s.die (dieKey r d)).op = some o)
    (hwant : (s.die (dieKey r d)).want = none) (hst : s.dieSt (dieKey r d) = 2) (hjobs : o.jobs ≠ []) :
    ∃ t, exec c s = .next t ∧ t.out = said ∧ t.dieSt (dieKey r d) = 4 ∧ (t.die (dieKey r d)).ready = true ∧
      (t.die (dieKey r d)).op = some o ∧ t.getF (F.RT_DIE_TIMEOUTS r d) = 0 ∧
      (∀ i ∈ o.jobs, ∀ j, s.job? i = some j → t.job? i = some { j with phase := .inDie }) ∧
      Frame (may [.flash, .outputs, .regs 17]) s t := by
  have hloaded := registerLoaded_frame (s := s.asked (dieKey r d)) (k := dieKey r d) us o
  have hwanted := State.wantHeader_frame ((s.asked (dieKey r d)).registerLoaded (dieKey r d) us o) (dieKey r d)
  obtain ⟨n, hdie⟩ := registerLoaded_die (s := s.asked (dieKey r d)) (k := dieKey r d) us o
  obtain ⟨hopStays, hreadyStays⟩ := wantHeader_die (s := (s.asked (dieKey r d)).registerLoaded (dieKey r d) us o) (k := dieKey r d)
  have hcleared := registerLoaded_timeouts (s := s.asked (dieKey r d)) (k := dieKey r d) us o
  rw [dieKey_div r p.die, dieKey_mod r p.die] at hcleared
  refine ⟨_, ?_, p.said_out hsaid ?_, ?_, ?_, ?_, ?_, fun i hi j hj => ?_,
    (hwanted.after hloaded rfl).after (m := may [.flash, .outputs, .regs 17]) ((asked_frame _).mono rfl) rfl⟩
  · rw [p.exec_eq (busy_of_dieSt hst rfl), pollDie_read (s := s.asked (dieKey r d)) p.complete hst hwant, readEnded_eq (s :=
      s.asked (dieKey r d)) us p.mode hop hjobs]
  · rw [hwanted.out (by decide), hloaded.out (by decide)]
  · rw [dieSt_of_frame hwanted (by decide)]
    exact dieSt_setDieSt_same (Or.inr (by decide)) (by decide)
  · rw [hreadyStays, hdie]
  · rw [hopStays, hdie]
    exact hop
  · rw [hwanted.getF (by rw [regGroup_F_RT_DIE_TIMEOUTS]; rfl), hcleared]
  · rw [wantHeader_job?]
    exact registerLoaded_job? hi hj

/-! ### Erase brackets -/

/-- A step of a bracket ends with its status byte. -/
theorem ends_step (hop : (s.die (dieKey r d)).op = some o) (hwant : (s.die (dieKey r d)).want = none) (hst : s.dieSt (dieKey r d) = 6)
    (hrun : o.running = true) : exec c s = .next ((s.answered (dieKey r d) o us).stepEnded (dieKey r d) o st.toNat) := by
  rw [p.exec_eq (busy_of_dieSt hst rfl), pollDie_step (s := s.asked (dieKey r d)) p.complete hst hop hrun hwant]
  rfl

/-- A program ends with its status byte. -/
theorem ends_program (hop : (s.die (dieKey r d)).op = some o) (hwant : (s.die (dieKey r d)).want = none) (hst : s.dieSt (dieKey r d) = 5) :
    exec c s = .next ((s.answered (dieKey r d) o us).programEnded (dieKey r d) o st.toNat) := by
  rw [p.exec_eq (busy_of_dieSt hst rfl), pollDie_program (s := s.asked (dieKey r d)) p.complete hst hop hwant]
  rfl

/-- What a descriptor's operation ends with, once the status has been read. -/
theorem ends_desc {id : Nat} {e : Desc} {q : Purpose} (hpurpose : o.purpose = [q]) (hdesc : s.desc? id = some e) (hopen : e.status = none)
    (hbuf : e.bufferFault = false) : (s.answered (dieKey r d) o us).Ends (dieKey r d) id e o q := by
  obtain ⟨n, hdie⟩ := answered_die (s := s) (dieKey r d) o us
  have hframe := answered_frame (s := s) (dieKey r d) o us
  exact ⟨by rw [modeNow_of_frame hframe (by decide)]; exact p.mode, by rw [hdie]; exact p.kept, hpurpose,
    (hframe.desc? (by decide) id).trans hdesc, hopen, hbuf⟩

/-- The erase command has its status; WP# at its low level raises PROTOCOL_ERR. -/
theorem erases {said : List Output} (hsaid : said = s.out ++ [.dieCmd r d [0x78] []]) (hop : (s.die (dieKey r d)).op = some o)
    (hwant : (s.die (dieKey r d)).want = none) (hst : s.dieSt (dieKey r d) = 6) (hrun : o.running = true) (hledger : o.noLedger = false)
    (hstep : o.step = 2) : ∃ t, exec c s = .next t ∧
      (t.die (dieKey r d)).op = some { o with failed := bit st.toNat 0 || !bit st.toNat 7, running := false, erased := true } ∧
      t.dieSt (dieKey r d) = 6 ∧ (bit st.toNat 7 = true → t.out = said ∧ Frame (may [.flash, .outputs]) s t) ∧
      (bit st.toNat 7 = false → t.getF (F.RT_EVENT_PROTOCOL_ERR r) = 1) := by
  have hexec := p.ends_step hop hwant hst hrun
  rw [stepEnded_erase _ hledger hstep] at hexec
  refine ⟨_, hexec, by rw [stepPut_die]; rfl, ?_, fun hwp => ?_, fun hwp => ?_⟩
  · rw [dieSt_of_frame (stepPut_frame _) (by decide), wpCheck_dieSt, answered_dieSt, hst]
  · rw [wpCheck_good hwp]
    refine ⟨p.said_out hsaid ?_, (stepPut_frame _).after (answered_frame ..) rfl⟩
    rw [(stepPut_frame _).out (by decide), answered_out]
  · have hevent := wpCheck_event (s := s.answered (dieKey r d) o us) (k := dieKey r d) hwp
    rw [dieKey_div r p.die] at hevent
    exact hevent

theorem programs_intent {said : List Output} (hsaid : said = s.out ++ [.dieCmd r d [0x78] []]) (hop : (s.die (dieKey r d)).op = some o)
    (hwant : (s.die (dieKey r d)).want = none) (hst : s.dieSt (dieKey r d) = 6) (hrun : o.running = true) (hledger : o.noLedger = false)
    (hstep : o.step = 1) (hfail : bit st.toNat 0 = false) (hwp : bit st.toNat 7 = true) : ∃ t, exec c s = .next t ∧ t.out = said ∧
      (t.die (dieKey r d)).op = some { o with running := false } ∧ t.dieSt (dieKey r d) = 6 ∧ Frame (may [.flash, .outputs]) s t := by
  have hexec := p.ends_step hop hwant hst hrun
  rw [stepEnded_intent hledger hstep (by simp [badStatus, hfail, hwp]), wpCheck_good hwp] at hexec
  refine ⟨_, hexec, p.said_out hsaid ?_, by rw [stepPut_die], ?_, (stepPut_frame _).after (answered_frame ..) rfl⟩
  · rw [(stepPut_frame _).out (by decide), answered_out]
  · rw [dieSt_of_frame (stepPut_frame _) (by decide), answered_dieSt, hst]

theorem loses_intent (hop : (s.die (dieKey r d)).op = some o) (hwant : (s.die (dieKey r d)).want = none) (hst : s.dieSt (dieKey r d) = 6)
    (hrun : o.running = true) (hstep : o.step = 1) (hswitch : o.switch = false) (hbad : bit st.toNat 0 = true ∨ bit st.toNat 7 = false) :
    ∃ t, exec c s = .next t ∧ (t.die (dieKey r d)).op = some { o with noLedger := true, running := false } ∧
      (t.die (dieKey r d)).ledger.lost = true ∧ t.getF F.FI_REC_EVENT_LEDGER_LOST = 1 ∧ t.dieSt (dieKey r d) = 6 := by
  have hexec := p.ends_step hop hwant hst hrun
  rw [stepEnded_intent_lost hswitch hstep (by unfold badStatus; rcases hbad with h | h <;> simp [h])] at hexec
  refine ⟨_, hexec, by rw [stepPut_die], ?_, ledgerLost_event, ?_⟩
  · rw [stepPut_die, ledgerLost_die]
    rfl
  · rw [dieSt_of_frame (stepPut_frame _) (by decide), dieSt_of_frame (State.ledgerLost_frame ..) (by decide), wpCheck_dieSt,
      answered_dieSt, hst]

/-- The last step of an erase's bracket ends the bracket, whatever becomes of its own ledger program. -/
theorem ends_bracket {id : Nat} {e : Desc} (hop : (s.die (dieKey r d)).op = some o) (hwant : (s.die (dieKey r d)).want = none)
    (hst : s.dieSt (dieKey r d) = 6) (hrun : o.running = true) (hstep : o.step = 3) (hswitch : o.switch = false)
    (hpurpose : o.purpose = [.eraseDesc id]) (hdesc : s.desc? id = some e) (hopen : e.status = none) (hbuf : e.bufferFault = false) :
    ∃ (b : DieOp) (u : State), exec c s = .next (u.bracketEnd (dieKey r d) b) ∧ u.Ends (dieKey r d) id e b (.eraseDesc id) ∧
      u.fi.poison = s.fi.poison ∧
      b.erased = o.erased ∧ b.failed = o.failed ∧ b.cls = o.cls ∧ b.pages = o.pages := by
  have hends := p.ends_desc (us := us) hpurpose hdesc hopen hbuf
  have hframe := answered_frame (s := s) (dieKey r d) o us
  have hchecked := State.wpCheck_frame (s.answered (dieKey r d) o us) (dieKey r d) st.toNat
  obtain ⟨b, v, hv, herased, hfailed, hcls, hpages, hpurp, heq⟩ := stepEnded_done (s := s.answered (dieKey r d) o us) (k := dieKey r d)
    st.toNat hswitch hstep
  have hlost : Frame 0x844150112 (s.answered (dieKey r d) o us) v ∧ (v.die (dieKey r d)).retiring =
      ((s.answered (dieKey r d) o us).die (dieKey r d)).retiring := by
    rcases hv with rfl | rfl
    · exact ⟨hchecked.mono rfl, by rw [wpCheck_die]⟩
    · refine ⟨(State.ledgerLost_frame ..).after (hchecked.mono rfl) rfl, ?_⟩
      rw [ledgerLost_die, ← wpCheck_die (k := dieKey r d) (dieKey r d) st.toNat]
      rfl
  obtain ⟨hsteps, hretiring⟩ := hlost
  refine ⟨b, v.stepPut (dieKey r d) b, ?_, ?_, ?_, herased, hfailed, hcls, hpages⟩
  · rw [p.ends_step hop hwant hst hrun, heq]
  · refine hends.of_frame ((stepPut_frame b).after hsteps rfl) (by decide) (by decide) ?_ hpurp
    rw [stepPut_die]
    exact hretiring
  · rw [(stepPut_frame b).fi (by decide), hsteps.fi (by decide), hframe.fi (by decide)]

end

end Polls

/-- R/B# that stays low leaves its route to polls (R78). -/
theorem rbnFault_falls {r ce : Nat} (hce : ce < 4) (hpolls : s.polls r = true) (hpins : s.getF (F.RT_CTRL_POLL_ONLY r) = 0)
    (hused : s.getF (F.RT_STATUS_RBN_FALLBACK r) = 0) (hbusy : s.busyOf r ce = []) : ∃ t, exec (.rbnFault r ce) s = .next t ∧
      t.getF (F.RT_STATUS_RBN_FALLBACK r) = 1 ∧ t.getF (F.RT_EVENT_RBN_FAULT r) = 1 := by
  refine ⟨(s.setF (F.RT_STATUS_RBN_FALLBACK r) 1).raise (F.RT_EVENT_RBN_FAULT r), ?_, ?_, ?_⟩
  · change execRbnFault r ce s = _
    unfold execRbnFault
    rw [if_neg]
    simp [hpolls, hpins, hused, hbusy, hce]
  · rw [raise_getF_ne _ (by show still (R.RT_STATUS r); unfold still R.RT_STATUS R.MODE R.PWR_WAKE; omega)
      (by show R.RT_STATUS r ≠ R.RT_EVENT r; unfold R.RT_STATUS R.RT_EVENT; omega)]
    exact getF_setF_same _ _ _ (Nat.le_of_ble_eq_true rfl)
  · exact raise_getF _ (still_RT_EVENT r) rfl (Nat.le_of_ble_eq_true rfl)

end State

/-- Settles O36: a status byte ends what its die does, operation by operation, and R/B# is left for polls where it stays low. -/
theorem statusEndsDieOperations : Obligations.StatusEndsDieOperations := by
  unfold Obligations.StatusEndsDieOperations
  refine ⟨?_, ?_⟩
  · rintro s c r d us _ st said - hd rfl hpolls hready harray hmode hkept hcmd hsaid
    have p : State.Polls s c r d us st := ⟨hd, hpolls, hready, harray, hmode, hkept, hcmd⟩
    clear hpolls hready harray hcmd
    refine ⟨fun p1 hst htemp => p.takesTemperature hsaid hst htemp, fun o hop hwant htemp => ⟨fun hst hjobs => ?read,
      fun hst hcls hrun => ?held, fun n hst hcls hrun hnext => ?bracket, fun hst hcls => ?thresholds, fun hst hrun hledger => ?steps,
      fun id e page data hst hcls hpurpose hdesc hopen hop4 hbuf hpages hsound => ⟨fun hwp hfail => ?programmed,
        fun hbad => ?unprogrammed⟩⟩⟩
    case read => exact p.loads hsaid hop hwant hst hjobs
    case held =>
      obtain ⟨hout, hidle, hnone, hheld, hcode, hframe⟩ := State.controlEnded_holds (s := s.asked (dieKey r d)) hkept htemp hop hcls hrun
      rw [dieKey_div r hd, dieKey_mod r hd] at hcode
      exact ⟨_, p.ends_control hst hwant, p.said_out hsaid hout, hidle, hnone, hheld, hcode,
        (hframe.mono rfl).step ((State.asked_frame _).mono rfl)⟩
    case bracket =>
      have hexec := p.ends_control hst hwant
      rw [State.controlEnded_bracket (s := s.asked (dieKey r d)) htemp hop hcls hrun hnext] at hexec
      refine ⟨_, hexec, p.said_out hsaid (State.out_setDieSt ..), State.dieSt_setDieSt_same (Or.inr (by decide)) (by decide), ?_,
        (State.setDieSt_frame ..).after ((State.asked_frame _).mono rfl) rfl⟩
      rw [State.die_setDieSt_ne_idle (by decide)]
      exact hop
    case thresholds =>
      have hexec := p.ends_control hst hwant
      rw [State.controlEnded_read (s := s.asked (dieKey r d)) hmode htemp hop hcls] at hexec
      obtain ⟨n, hdie⟩ := State.die_setDieSt (s := s.asked (dieKey r d)) (k := dieKey r d) (v := 1) (Or.inl hkept)
      refine ⟨_, hexec, p.said_out hsaid (State.out_setDieSt ..), State.dieSt_setDieSt_same (s :=
        s.asked (dieKey r d)) (Or.inl hkept) (by decide),
        ?_, by rw [State.die_want_same], (State.want_frame ..).after ((State.setDieSt_frame ..).after ((State.asked_frame _).mono rfl)
          rfl) rfl⟩
      rw [State.die_want_same, hdie]
      exact hop
    case steps =>
      refine ⟨fun hstep => p.erases hsaid hop hwant hst hrun hledger hstep,
        fun hstep hfail hwp => p.programs_intent hsaid hop hwant hst hrun hledger hstep hfail hwp,
        fun hstep hswitch hbad => p.loses_intent hop hwant hst hrun hstep hswitch hbad,
        fun id e hstep hcls hswitch hpurpose hdesc hopen hbuf herased hfailed => ?_,
        fun id e hstep hcls hswitch hpurpose hdesc hopen hbuf herased hfailed => ?_⟩
      all_goals
        obtain ⟨b, u, hexec, hends, hpoison, hbErased, hbFailed, hbCls, hbPages⟩ :=
          p.ends_bracket hop hwant hst hrun hstep hswitch hpurpose hdesc hopen hbuf
      · obtain ⟨hended, hidle, hnone, hclear⟩ := State.bracketEnd_passed hends (hbCls.trans hcls) (hbErased.trans herased)
          (hbFailed.trans hfailed)
        rw [hbPages] at hclear
        exact ⟨_, hexec, hended, hidle, hnone, hclear⟩
      · obtain ⟨hended, hidle, hnone, hkeeps⟩ := State.bracketEnd_failed hends (hbCls.trans hcls) (hbErased.trans herased)
          (hbFailed.trans hfailed)
        exact ⟨_, hexec, hended, hidle, hnone, hkeeps.trans hpoison⟩
    case programmed =>
      obtain ⟨hended, hidle, hnone⟩ := State.programEnded_passed (p.ends_desc (us := us) hpurpose hdesc hopen hbuf) hcls hop4 hpages
        (State.answered_memory hsound) hwp hfail
      exact ⟨_, p.ends_program hop hwant hst, hended, hidle, hnone⟩
    case unprogrammed =>
      obtain ⟨hended, hidle, hnone, hevent⟩ := State.programEnded_failed (p.ends_desc (us := us) hpurpose hdesc hopen hbuf) hcls hpages
        (st := st.toNat) (by unfold badStatus; rcases hbad with h | h <;> simp [h])
      rw [dieKey_div r hd] at hevent
      exact ⟨_, p.ends_program hop hwant hst, hended, hidle, hnone, hevent⟩
  · exact fun s r ce _ hce hpolls hpins hused hbusy => State.rbnFault_falls hce hpolls hpins hused hbusy

end Sys2Proof.Machine
end

section
/-! PROOFS. How a PROGRAM encodes its pages and its first page waits, behind a re-erase where one is due (R84, R86, R110, R133, R235). -/

namespace Sys2Proof.Machine

theorem Frame.mustReerase {m : Nat} {s t : State} (h : Frame m s t) (h8 : m.testBit 8 = false) : t.mustReerase = s.mustReerase := by
  unfold State.mustReerase; rw [h.seq h8]

namespace State

variable {s : State}

/-! ### Erases that are put among the operations that wait (R100, R278) -/

/-- The range of an erase of block `b` of die `k` is entered, or the wait for a place in the list of ranges noted. -/
def rangeEntered (s : State) (k b : Nat) : State :=
  if 8 ≤ s.ph.ranges.length then s.raise F.MI_PH_EVENT_RANGE_WAIT else s.eraseRange k [b]

/-- The erase of block `b` of die `k` as it waits. -/
def eraseOp (s : State) (k b : Nat) (p : Purpose) (origin : Origin) (ord : Nat) (recovery : Bool) : DieOp :=
  { id := s.seq.nextId, ord := if ord = 0 then s.seq.nextId else ord, cls := 3, origin := origin, purpose := [p],
    pages := [s.busAddr (mkAddr k b 0 0)], rangeWait := decide (8 ≤ s.ph.ranges.length), recovery := recovery,
    switch := recovery && (s.rangeEntered k b).isStandby [s.busAddr (mkAddr k b 0 0)],
    join := !homeBlock (mkAddr k b 0 0) }

/-- A range that is entered changes no more of the sequencers' state than what patrol's jobs may still find. -/
theorem rangeEntered_seq (k b : Nat) : (s.rangeEntered k b).seq = { s.seq with jobs := (s.rangeEntered k b).seq.jobs } := by
  unfold rangeEntered
  split
  · rw [raise_seq]
  · rfl

/-- An erase that is put among those that wait is its `State.eraseOp`, behind its range. -/
theorem enqueueErase_eq (k b : Nat) (p : Purpose) (origin : Origin) (ord : Nat) (recovery : Bool) :
    s.enqueueErase k [b] p origin ord recovery =
      (s.rangeEntered k b).fresh.2.enqueue (s.eraseOp k b p origin ord recovery) := by
  have hid : (s.rangeEntered k b).seq.nextId = s.seq.nextId := by rw [rangeEntered_seq]
  have henter : (if decide (8 ≤ s.ph.ranges.length) = true then s.raise F.MI_PH_EVENT_RANGE_WAIT else s.eraseRange k [b]) =
      s.rangeEntered k b := by
    unfold rangeEntered
    simp only [decide_eq_true_eq]
  unfold State.enqueueErase eraseOp
  simp only [henter, ← hid, List.any_cons, List.any_nil, Bool.or_false]
  generalize s.rangeEntered k b = u
  rfl

/-- Beside the operation that waits, an erase that is put among those that wait has entered its range. -/
theorem enqueueErase_after (k b : Nat) (p : Purpose) (origin : Origin) (ord : Nat) (recovery : Bool) :
    Frame 0x100 (s.rangeEntered k b) (s.enqueueErase k [b] p origin ord recovery) := by
  rw [enqueueErase_eq]
  exact (State.enqueue_frame ..).after ((State.fresh_frame _).mono rfl) rfl

theorem waiting_enqueueErase (k b : Nat) (p : Purpose) (origin : Origin) (ord : Nat) (recovery : Bool) :
    (s.enqueueErase k [b] p origin ord recovery).seq.waiting = s.seq.waiting ++ [s.eraseOp k b p origin ord recovery] := by
  rw [enqueueErase_eq]
  exact congrArg (·.waiting ++ [_]) (rangeEntered_seq k b)

/-! ### Programs (R84, R110) -/

/-- The program of a page for descriptor `d`. -/
def pageProg (s : State) (d : Desc) (page : Nat) (data : List Bytes) : DieOp :=
  { id := s.seq.nextId, ord := d.id, cls := 2, origin := .queue d.sq, pages := [s.busAddr page], purpose := [.progDesc d.id], data := data }

/-- A page's program stands aside where its block is in the incomplete-erase set. -/
theorem enqueueProg_pageProg (d : Desc) (page : Nat) (data : List Bytes) : s.fresh.2.enqueueProg (s.pageProg d page data) =
    if s.mustReerase (s.busAddr page) then s.fresh.2.eraseAhead (s.pageProg d page data) (s.busAddr page)
    else s.fresh.2.enqueue (s.pageProg d page data) := by
  have hfirst : s.fresh.2.firstReerase (s.pageProg d page data) = [s.busAddr page].find? s.mustReerase := rfl
  unfold State.enqueueProg
  rw [hfirst]
  cases h : s.mustReerase (s.busAddr page) <;> simp [h]

/-- The re-erase that a page's program stands aside for. -/
theorem eraseAhead_queues (o : DieOp) (p : Nat) : ∃ e, (s.eraseAhead o p).seq.waiting = s.seq.waiting ++ [e] ∧
    (s.eraseAhead o p).seq.ahead = s.seq.ahead ++ [o] ∧ e.cls = 3 ∧ e.ord = (if o.ord = 0 then e.id else o.ord) ∧
    e.pages = [s.busAddr (mkAddr (s.logicalDie (addrDie p)) (addrBlock p) 0 0)] ∧ e.purpose = [.eraseAhead o.id] ∧ e.recovery = true := by
  unfold State.eraseAhead
  dsimp only
  refine ⟨_, waiting_enqueueErase .., ?_, rfl, rfl, rfl, rfl, rfl⟩
  rw [enqueueErase_eq]
  exact congrArg Seq.ahead (rangeEntered_seq ..)

section

variable {d : Desc} {page : Nat} {data : List Bytes} {rest : List (Nat × List Bytes)} (hdesc : s.desc? d.id = some d)
  (hopen : d.status = none) (hbuf : d.bufferFault = false) (hpages : d.pages = (page, data) :: rest)

include hdesc hopen hbuf hpages

/-- The next page of a descriptor whose die takes writes is its program. -/
theorem startProg_goes (hdie : s.writeDie (addrDie page) = none) :
    s.startProg d.id = s.fresh.2.enqueueProg (s.pageProg d page data) := by
  unfold State.startProg
  simp only [hdesc, hopen, hpages, hbuf, hdie]
  rfl

theorem startProg_gone {st : Nat} (hdie : s.writeDie (addrDie page) = some st) : s.startProg d.id = s.progEnd d st := by
  unfold State.startProg
  simp only [hdesc, hopen, hpages, hbuf, hdie]
  rfl

end

/-! ### Lines of pages that are not programmed (R86) -/

/-- The pending lines of the pages that a descriptor has not programmed are dropped. -/
def linesDropped (s : State) (d : Desc) : State := d.pages.foldl (fun s p => s.pageLines p.1 false) s

theorem progEnd_eq (d : Desc) (st : Nat) : s.progEnd d st = (s.linesDropped d).finish d.id st d.count := rfl

theorem linesDropped_frame (d : Desc) : Frame 0x42150812 s (s.linesDropped d) :=
  Frame.foldl (Frame.refl s) fun _ _ => pageLines_dropped_frame _

/-! ### The pages of a PROGRAM (R133, R235) -/

/-- Page `i` of some envelopes, encoded at its address. -/
def encodedPage (first : Nat) (envs : List (Bytes × Bytes)) (i : Nat) : Nat × List Bytes :=
  (first + 4 * i, [pageEncode (first + 4 * i) ((envs.drop (4 * i)).take 4)])

/-- Envelopes are encoded page by page, in order. -/
theorem encodePages_pages (first : Nat) (envs : List (Bytes × Bytes)) :
    (s.encodePages first envs).1 = (List.range (envs.length / 4)).map (encodedPage first envs) := by
  have hfold : ∀ (l : List Nat) (acc : List (Nat × List Bytes) × State),
      (l.foldl (fun acc i => (acc.1 ++ [encodedPage first envs i], acc.2.allocPage (first + 4 * i) (addrBlock (first + 4 * i))
        (((envs.drop (4 * i)).take 4).mapIdx fun e x => (first + 4 * i + e, x.1, x.2)))) acc).1 =
        acc.1 ++ l.map (encodedPage first envs) := fun l => by
    induction l with
    | nil => simp
    | cons i l ih => intro acc; rw [List.foldl_cons, ih]; simp
  exact hfold _ ([], s)

/-- The envelopes of a PROGRAM, at stripe position 0. -/
def programEnvs (s : State) (d : Desc) (buf md : Bytes) : List (Bytes × Bytes) :=
  (List.range (field d.bytes 16 4)).map fun i => (s.progContent d.bytes md (slice buf (4096 * i) 4096) i 0, slice buf (4096 * i) 4096)

/-- A PROGRAM as it stands once it has started, its pages encoded. -/
def programBegun (s : State) (d : Desc) (buf md : Bytes) : Desc :=
  { d with started := true, pages := (s.encodePages (field d.bytes 8 8) (s.programEnvs d buf md)).1 }

/-- A PROGRAM has started: its lines are allocated and its pages encoded. -/
def programEncoded (s : State) (d : Desc) (buf md : Bytes) : State :=
  (s.encodePages (field d.bytes 8 8) (s.programEnvs d buf md)).2.setDesc (s.programBegun d buf md)

theorem programEncoded_frame (d : Desc) (buf md : Bytes) : Frame 0x2001880 s (s.programEncoded d buf md) :=
  (State.setDesc_frame ..).after ((State.encodePages_frame ..).mono rfl) rfl

theorem desc?_programEncoded {d : Desc} (buf md : Bytes) (h : s.desc? d.id = some d) :
    (s.programEncoded d buf md).desc? d.id = some (s.programBegun d buf md) :=
  desc?_setDesc_same (d := s.programBegun d buf md) (((State.encodePages_frame ..).desc? (by decide) d.id).trans h)

theorem programBegun_length (d : Desc) (buf md : Bytes) : (s.programBegun d buf md).pages.length = field d.bytes 16 4 / 4 := by
  simp [programBegun, encodePages_pages, programEnvs]

/-- The first page of a PROGRAM of a page or more is that of its first four envelopes, at its address. -/
theorem programBegun_pages {d : Desc} (buf md : Bytes) (hn : 4 ≤ field d.bytes 16 4) : ∃ rest, (s.programBegun d buf md).pages =
    (field d.bytes 8 8, [pageEncode (field d.bytes 8 8) ((List.range 4).map fun i =>
      (s.progContent d.bytes md (slice buf (4096 * i) 4096) i 0, slice buf (4096 * i) 4096))]) :: rest := by
  have hpage : (s.programEnvs d buf md).take 4 = (List.range 4).map fun i =>
      (s.progContent d.bytes md (slice buf (4096 * i) 4096) i 0, slice buf (4096 * i) 4096) := by
    unfold programEnvs
    rw [← List.map_take, List.take_range, Nat.min_eq_left hn]
  obtain ⟨k, hk⟩ : ∃ k, (s.programEnvs d buf md).length / 4 = k + 1 :=
    ⟨field d.bytes 16 4 / 4 - 1, by simp only [programEnvs, List.length_map, List.length_range]; omega⟩
  refine ⟨((List.range k).map Nat.succ).map (encodedPage (field d.bytes 8 8) (s.programEnvs d buf md)), ?_⟩
  rw [← hpage]
  unfold programBegun
  rw [encodePages_pages, hk, List.range_succ_eq_map]
  rfl

section

variable {d : Desc} (buf md : Bytes) (corr : Nat) (hrun : s.ioRuns d.id 0x04 d)

include hrun

/-- A PROGRAM ends at its metadata or at the checks made at its admission, or its pages are encoded and the first one goes on. -/
theorem execProgram_goes : execProgram d.id buf md s corr =
    if (!(List.range (field d.bytes 16 4)).all (metaOk d.bytes md)) = true then .next ((s.dramReads corr).finish d.id St.malformed 0)
    else if d.late.isSome then .next ((s.dramReads corr).finish d.id (d.late.getD 0) 0)
    else .next (((s.dramReads corr).programEncoded d buf md).startProg d.id) := by
  obtain ⟨hd, hop, hstarted, hopen, -⟩ := hrun
  have hgo : ¬(d.op ≠ 0x04 ∨ d.started = true ∨ d.status.isSome = true) := by simp [hop, hstarted, hopen]
  unfold execProgram
  simp only [hd, if_neg hgo]
  rfl

/-- A PROGRAM of a page or more that passes those checks goes on with its first page. -/
theorem execProgram_starts (hmeta : (List.range (field d.bytes 16 4)).all (metaOk d.bytes md) = true) (hlate : d.late = none) :
    execProgram d.id buf md s corr = .next (((s.dramReads corr).programEncoded d buf md).startProg d.id) := by
  rw [execProgram_goes buf md corr hrun, hmeta, hlate]
  rfl

/-- Where its die takes no writes, it ends with the die's status. -/
theorem program_gone {st : Nat} (hmeta : (List.range (field d.bytes 16 4)).all (metaOk d.bytes md) = true) (hlate : d.late = none)
    (hn : 4 ≤ field d.bytes 16 4) (hdie : s.writeDie (addrDie (field d.bytes 8 8)) = some st) :
    ∃ t, execProgram d.id buf md s corr = .next t ∧ t.ended d.id st d.count := by
  have hexec := execProgram_starts buf md corr hrun hmeta hlate
  obtain ⟨hd, -, -, hopen, hbuf⟩ := hrun
  have hread := State.dramReads_frame s corr
  have hencoded := (programEncoded_frame (s := s.dramReads corr) d buf md).after (hread.mono (m := 0x2001880) rfl) rfl
  have hbegun := desc?_programEncoded buf md ((hread.desc? (by decide) d.id).trans hd)
  obtain ⟨rest, hpages⟩ := programBegun_pages (s := s.dramReads corr) buf md hn
  refine ⟨_, hexec, ?_⟩
  have hgone := startProg_gone (d := (s.dramReads corr).programBegun d buf md) hbegun hopen hbuf hpages
    ((hencoded.writeDie (by decide) (by decide) (by decide) (hencoded.dies (by decide)) _).trans hdie)
  rw [show ((s.dramReads corr).programEncoded d buf md).startProg d.id = _ from hgone, progEnd_eq]
  exact ended_finish _ _ (((linesDropped_frame _).desc? (by decide) _).trans hbegun) hopen hbuf

/-- Elsewhere its first page's program waits, or stands aside for a re-erase of its block. -/
theorem execProgram_queues (hmeta : (List.range (field d.bytes 16 4)).all (metaOk d.bytes md) = true) (hlate : d.late = none)
    (hn : 4 ≤ field d.bytes 16 4) (hdie : s.writeDie (addrDie (field d.bytes 8 8)) = none) :
    ∃ (u : State) (x : DieOp) (e : Desc), execProgram d.id buf md s corr =
        .next (if s.mustReerase (s.busAddr (field d.bytes 8 8)) then u.eraseAhead x (s.busAddr (field d.bytes 8 8)) else u.enqueue x) ∧
      Frame 0x2001880 s u ∧ x.cls = 2 ∧ x.ord = d.id ∧ x.pages = [s.busAddr (field d.bytes 8 8)] ∧ x.purpose = [.progDesc d.id] ∧
      x.data = [pageEncode (field d.bytes 8 8) ((List.range 4).map fun i =>
        (s.progContent d.bytes md (slice buf (4096 * i) 4096) i 0, slice buf (4096 * i) 4096))] ∧
      u.desc? d.id = some e ∧ e.started = true ∧ e.status = none ∧ e.pages.length = field d.bytes 16 4 / 4 := by
  have hexec := execProgram_starts buf md corr hrun hmeta hlate
  obtain ⟨hd, -, -, hopen, hbuf⟩ := hrun
  have hread := State.dramReads_frame s corr
  have hencoded := (programEncoded_frame (s := s.dramReads corr) d buf md).after (hread.mono (m := 0x2001880) rfl) rfl
  have hbegun := desc?_programEncoded buf md ((hread.desc? (by decide) d.id).trans hd)
  obtain ⟨rest, hpages⟩ := programBegun_pages (s := s.dramReads corr) buf md hn
  have hgoes := startProg_goes (d := (s.dramReads corr).programBegun d buf md) hbegun hopen hbuf hpages
    ((hencoded.writeDie (by decide) (by decide) (by decide) (hencoded.dies (by decide)) _).trans hdie)
  rw [enqueueProg_pageProg, hencoded.mustReerase (by decide), hencoded.busAddr (by decide)] at hgoes
  refine ⟨_, _, _, hexec.trans (congrArg _ hgoes), ((State.fresh_frame _).mono rfl).step hencoded, rfl, rfl,
    congrArg (fun p => [p]) (hencoded.busAddr (by decide) _), rfl, ?_, hbegun, rfl, hopen, programBegun_length ..⟩
  show [pageEncode _ _] = _
  simp only [hread.progContent (by decide) (by decide) (by decide)]

end

end State

end Sys2Proof.Machine
end

section
/-! PROOFS. How an ERASE waits with its range and its map writes, and the re-erases that TRAIN left (R100, R110, R111, R278, R286). -/

namespace Sys2Proof.Machine

theorem Frame.covers {m : Nat} {s t : State} (h : Frame m s t) (h3 : m.testBit 3 = false) (h26 : m.testBit 26 = false)
    (maps : List Bytes) (k b : Nat) : t.covers maps k b = s.covers maps k b := by
  funext j
  unfold State.covers
  rw [h.mapOn h26, h.mapIdx h3]
  unfold State.layout
  rw [h.img h3]

namespace State

variable {s : State}

/-! ### Ranges of erases (R278) -/

theorem rangeEntered_ph {k b : Nat} (h : s.ph.ranges.length < 8) : (s.rangeEntered k b).ph.epoch = (s.ph.epoch + 1) % 65536 ∧
    (s.rangeEntered k b).ph.ranges =
      s.ph.ranges ++ [{ epoch := (s.ph.epoch + 1) % 65536, dies := [k], blocks := some [b] }] := by
  unfold rangeEntered
  rw [if_neg (Nat.not_le.2 h)]
  exact ⟨rfl, (eraseRange_lists k [b]).2⟩

theorem rangeEntered_full {k b : Nat} (h : 8 ≤ s.ph.ranges.length) : (s.rangeEntered k b).ph = s.ph ∧
    (s.rangeEntered k b).getF F.MI_PH_EVENT_RANGE_WAIT = 1 := by
  unfold rangeEntered
  rw [if_pos h]
  exact ⟨(State.raise_frame (m := 0x42150012) s F.MI_PH_EVENT_RANGE_WAIT rfl rfl rfl).ph rfl, raise_getF _ (by decide) rfl (by decide)⟩

theorem rangeEntered_mapWrites (k b : Nat) : (s.rangeEntered k b).fi.mapWrites = s.fi.mapWrites := by
  unfold rangeEntered
  split
  · rw [(State.raise_frame (m := 0x42150012) s F.MI_PH_EVENT_RANGE_WAIT rfl rfl rfl).fi rfl]
  · show (s.phRange [k] (some [b])).fi.mapWrites = s.fi.mapWrites
    rw [(State.phRange_frame ..).fi rfl]

/-! ### ERASE (R100, R286, R288) -/

/-- The layouts that cover the block of an ERASE. -/
def eraseLayouts (s : State) (maps : List Bytes) (d : Desc) : List Nat :=
  (List.range s.img.cfg.layouts.length).filter (s.covers maps (addrDie (field d.bytes 8 8)) (addrBlock (field d.bytes 8 8)))

/-- Their bits are cleared in the map, and the ERASE has started. -/
def eraseBegun (s : State) (maps : List Bytes) (d : Desc) : State :=
  ((s.eraseLayouts maps d).foldl (fun s j => s.writeMapLine maps j (s.mapIdx j (addrBlock (field d.bytes 8 8))) false) s).setDesc
    { d with started := true, mapWait := !(s.eraseLayouts maps d).isEmpty }

/-- The erase of descriptor `id` waits for the map writes of the layouts `js`. -/
def mapWaited (s : State) (id : Nat) (js : List Nat) : State :=
  { s with fi := { s.fi with mapWrites := s.fi.mapWrites ++ js.map fun _ => id },
           seq := { s.seq with waiting := s.seq.waiting.map fun (o : DieOp) =>
             if o.purpose = [.eraseDesc id] then { o with mapWait := !js.isEmpty } else o } }

theorem eraseBegun_frame (maps : List Bytes) (d : Desc) : Frame 0x40010081 s (s.eraseBegun maps d) :=
  (State.setDesc_frame ..).after (Frame.foldl (Frame.refl s) fun _ _ => (State.writeMapLine_frame ..).mono rfl) rfl

theorem desc?_eraseBegun {d : Desc} (maps : List Bytes) (h : s.desc? d.id = some d) : (s.eraseBegun maps d).desc? d.id =
    some { d with started := true, mapWait := !(s.eraseLayouts maps d).isEmpty } :=
  desc?_setDesc_same (d := { d with started := true, mapWait := !(s.eraseLayouts maps d).isEmpty })
    (((Frame.foldl (Frame.refl s) fun _ _ => State.writeMapLine_frame ..).desc? rfl d.id).trans h)

theorem mapWaited_frame (id : Nat) (js : List Nat) : Frame 0x2100 s (s.mapWaited id js) :=
  { Frame.refl (m := 0x2100) s with seq := fun q => absurd q (by decide), fi := fun q => absurd q (by decide) }

/-- The erase of the descriptor is among those that wait, and has its map writes to wait for. -/
theorem mem_mapWaited {id : Nat} {o : DieOp} (js : List Nat) (h : o ∈ s.seq.waiting) (ho : o.purpose = [.eraseDesc id]) :
    { o with mapWait := !js.isEmpty } ∈ (s.mapWaited id js).seq.waiting :=
  List.mem_map.2 ⟨o, h, if_pos ho⟩

section

variable {d : Desc} (maps : List Bytes) (corr : Nat) (hrun : s.ioRuns d.id 0x06 d)

include hrun

theorem execErase_lost (u : Nat) : execErase d.id maps s corr (some u) = .next (s.dramUncorr u).memFatal := by
  obtain ⟨hd, hop, hstarted, hopen, -⟩ := hrun
  unfold execErase
  simp [hd, hop, hstarted, hopen, State.mapLost]

/-- An ERASE whose die takes no writes ends with the die's status. -/
theorem execErase_gone {st : Nat} (hdie : s.writeDie (addrDie (field d.bytes 8 8)) = some st) :
    execErase d.id maps s corr none = .next ((s.dramReads corr).finish d.id st 0) := by
  obtain ⟨hd, hop, hstarted, hopen, -⟩ := hrun
  unfold execErase
  simp [hd, hop, hstarted, hopen, (State.dramReads_frame s corr).writeDie (by decide) (by decide) (by decide) rfl, hdie]

/-- Any other waits for its die, for a place in the list of ranges and for its map writes. -/
theorem execErase_goes (hdie : s.writeDie (addrDie (field d.bytes 8 8)) = none) : execErase d.id maps s corr none =
    .next ((((s.dramReads corr).eraseBegun maps d).enqueueErase (addrDie (field d.bytes 8 8)) [addrBlock (field d.bytes 8 8)]
      (.eraseDesc d.id) (.queue d.sq) d.id false).mapWaited d.id (s.eraseLayouts maps d)) := by
  obtain ⟨hd, hop, hstarted, hopen, -⟩ := hrun
  have hread := State.dramReads_frame s corr
  have hgo : ¬(d.op ≠ 0x06 ∨ d.started = true ∨ d.status.isSome = true) := by simp [hop, hstarted, hopen]
  have hlayouts : (s.dramReads corr).eraseLayouts maps d = s.eraseLayouts maps d := by
    unfold eraseLayouts
    rw [hread.covers rfl rfl, hread.img rfl]
  unfold execErase
  simp only [hd, if_neg hgo, Option.isSome_none, Bool.false_eq_true, if_false, hread.writeDie rfl rfl rfl rfl, hdie]
  rw [← hlayouts]
  rfl

/-- What an ERASE that waits leaves: its erase behind its range, the map writes of the layouts that cover the block, its descriptor
started. -/
theorem erase_waits (hdie : s.writeDie (addrDie (field d.bytes 8 8)) = none) :
    ∃ (t u : State) (o : DieOp) (e : Desc), execErase d.id maps s corr none = .next t ∧ Frame 0x42010081 s u ∧ o ∈ t.seq.waiting ∧
      o.cls = 3 ∧ o.purpose = [.eraseDesc d.id] ∧
      o.pages = [s.busAddr (mkAddr (addrDie (field d.bytes 8 8)) (addrBlock (field d.bytes 8 8)) 0 0)] ∧
      o.mapWait = !(s.eraseLayouts maps d).isEmpty ∧ o.rangeWait = decide (8 ≤ s.ph.ranges.length) ∧ o.recovery = false ∧
      Frame 0x2100 (u.rangeEntered (addrDie (field d.bytes 8 8)) (addrBlock (field d.bytes 8 8))) t ∧
      t.fi.mapWrites = s.fi.mapWrites ++ (s.eraseLayouts maps d).map (fun _ => d.id) ∧ t.desc? d.id = some e ∧ e.started = true ∧
      e.status = none := by
  have hexec := execErase_goes maps corr hrun hdie
  obtain ⟨hd, -, -, hopen, -⟩ := hrun
  have hread := State.dramReads_frame s corr
  have hbegun := (eraseBegun_frame (s := s.dramReads corr) maps d).after (hread.mono (m := 0x42010081) rfl) rfl
  have hqueued := State.enqueueErase_frame ((s.dramReads corr).eraseBegun maps d) (addrDie (field d.bytes 8 8))
    [addrBlock (field d.bytes 8 8)] (.eraseDesc d.id) (.queue d.sq) d.id false
  have hdesc := ((mapWaited_frame d.id (s.eraseLayouts maps d)).desc? rfl d.id).trans ((hqueued.desc? rfl d.id).trans
    (desc?_eraseBegun maps ((hread.desc? rfl d.id).trans hd)))
  have hwaits := waiting_enqueueErase (s := (s.dramReads corr).eraseBegun maps d) (addrDie (field d.bytes 8 8))
    (addrBlock (field d.bytes 8 8)) (.eraseDesc d.id) (.queue d.sq) d.id false
  refine ⟨_, _, _, _, hexec, hbegun, mem_mapWaited _ (by rw [hwaits]; exact List.mem_append_right _ (List.mem_singleton_self _)) rfl,
    rfl, rfl, ?_, rfl, ?_, rfl, ?_, ?_, hdesc, rfl, hopen⟩
  · exact congrArg (fun p => [p]) (hbegun.busAddr rfl _)
  · exact congrArg (fun p : Ph => decide (8 ≤ p.ranges.length)) (hbegun.ph rfl)
  · exact (mapWaited_frame ..).after ((enqueueErase_after ..).mono rfl) rfl
  · refine congrArg (· ++ (s.eraseLayouts maps d).map fun _ => d.id) ?_
    rw [(enqueueErase_after ..).fi rfl, rangeEntered_mapWrites, hbegun.fi rfl]

end

/-! ### Re-erases that TRAIN left (R111) -/

/-- The re-erase of a block that TRAIN left waits. -/
def reerased (s : State) (b : Nat) : State := s.enqueueErase (b / 65536) [b % 65536] .eraseGuarded .recovery 0 true

/-- The blocks of route `r` leave the set that TRAIN left. -/
def trainTaken (s : State) (r : Nat) : State :=
  { s with seq := { s.seq with fromTrain := s.seq.fromTrain.filter fun b => b / 65536 / 16 ≠ r } }

theorem reerased_frame (b : Nat) : Frame 0x42152912 s (s.reerased b) := State.enqueueErase_frame ..

theorem reerased_waiting (b : Nat) : (s.reerased b).seq.waiting =
    s.seq.waiting ++ [s.eraseOp (b / 65536) (b % 65536) .eraseGuarded .recovery 0 true] := waiting_enqueueErase ..

theorem reerased_fromTrain (b : Nat) : (s.reerased b).seq.fromTrain = s.seq.fromTrain := by
  unfold reerased
  rw [enqueueErase_eq]
  show (s.rangeEntered (b / 65536) (b % 65536)).seq.fromTrain = _
  rw [rangeEntered_seq]

theorem waiting_subset_reerased (l : List Nat) : s.seq.waiting ⊆ (l.foldl reerased s).seq.waiting :=
  foldl_relates (R := fun u t : State => u.seq.waiting ⊆ t.seq.waiting) (fun _ => List.Subset.refl _) List.Subset.trans
    fun u b _ => by rw [reerased_waiting]; exact List.subset_append_left ..

/-- Every block of the list has a recovery erase among those that wait. -/
theorem foldl_reerased {l : List Nat} {b : Nat} (hb : b ∈ l) : ∃ o ∈ (l.foldl reerased s).seq.waiting, o.cls = 3 ∧
    o.purpose = [.eraseGuarded] ∧ o.recovery = true ∧ o.origin = .recovery ∧
    o.pages = [s.busAddr (mkAddr (b / 65536) (b % 65536) 0 0)] := by
  induction l generalizing s with
  | nil => cases hb
  | cons x l ih =>
    rw [List.foldl_cons]
    rcases List.mem_cons.1 hb with rfl | hb
    · refine ⟨s.eraseOp (b / 65536) (b % 65536) .eraseGuarded .recovery 0 true, waiting_subset_reerased l ?_, rfl, rfl, rfl, rfl,
        rfl⟩
      rw [reerased_waiting]
      exact List.mem_append_right _ (List.mem_singleton_self _)
    · obtain ⟨o, ho, hcls, hpurpose, hrecovery, horigin, hpages⟩ := ih (s := s.reerased x) hb
      exact ⟨o, ho, hcls, hpurpose, hrecovery, horigin, hpages.trans (by rw [(reerased_frame x).busAddr rfl])⟩

/-- Once the guard lets them, the blocks of a route that TRAIN left are re-erased. -/
theorem execGuardedReeraseRelease_goes {r : Nat} (hguard : s.guardHolds r = false)
    (hmode : s.modeNow = 4 ∨ s.modeNow = 5 ∨ s.modeNow = 11) (hup : s.routeSt r = 2) : execGuardedReeraseRelease r s =
      .next ((s.seq.fromTrain.filter fun b => b / 65536 / 16 = r).foldl reerased (s.trainTaken r)) := by
  have htaken : (s.seq.fromTrain.filter fun b => !(s.seq.fromTrain.filter fun b => b / 65536 / 16 = r).contains b) =
      s.seq.fromTrain.filter fun b => b / 65536 / 16 ≠ r :=
    List.filter_congr fun b hb => by simp [hb]
  have hruns : [4, 5, 11].contains s.modeNow = true := by rcases hmode with h | h | h <;> rw [h] <;> rfl
  unfold execGuardedReeraseRelease trainTaken
  rw [if_neg (by simp only [hguard, hruns, hup]; decide)]
  dsimp only
  rw [htaken]
  rfl

end State

end Sys2Proof.Machine
end

section
/-! PROOFS. What a failed buffer access leaves of its descriptor, its operations and the record of an uncorrectable unit (R245, R273). -/

namespace Sys2Proof.Machine

namespace State

variable {s : State}

/-! ### Registers beside the pigeonholes' (R278, R281) -/

/-- A register that neither a notice nor a line that is dropped touches. -/
abbrev unlined (off : Nat) : Prop := still off ∧ off ≠ R.MI_PH_STATUS ∧ off ≠ R.MI_PH_EVENT ∧ off ≠ R.MI_PH_CNT_LOCKED_DROPPED

theorem getR_phDrop {off : Nat} (st w : Nat) (h : unlined off) : (s.phDrop st w).getR off = s.getR off := by
  obtain ⟨hstill, hstatus, hevent, hdropped⟩ := h
  unfold State.phDrop
  dsimp only
  split
  · split
    · rw [raise_getR_ne _ hstill hevent]
      unfold State.phCount
      rw [getR_setF_ne _ _ hstatus, getR_setF_ne _ _ hstatus, getR_bump_ne _ hdropped]
      rfl
    · rfl
  · rfl

theorem getR_linesDropped {off : Nat} (d : Desc) (h : unlined off) : (s.linesDropped d).getR off = s.getR off := by
  have hline : ∀ (u : State) (a : Nat), (u.lineEnds a false).getR off = u.getR off := fun u a => by
    unfold State.lineEnds
    split
    · exact getR_phDrop _ _ h
    · rfl
  have hpage : ∀ (u : State) (page : Nat), (u.pageLines page false).getR off = u.getR off := fun u page =>
    foldl_keeps (fun u : State => u.getR off) fun u e _ => hline u (page + e)
  exact foldl_keeps (fun u : State => u.getR off) fun u p _ => hpage u p.1

/-! ### The unit (R273) -/

/-- The uncorrectable unit of a failed access is recorded, if there is one. -/
def unitRecorded (s : State) (unit : Option Nat) : State := match unit with | some a => s.dramUncorr a | none => s

theorem unitRecorded_frame (unit : Option Nat) : Frame 0x42150012 s (s.unitRecorded unit) := by
  cases unit
  · exact Frame.refl s
  · exact State.dramUncorr_frame ..

theorem unitRecorded_seq (unit : Option Nat) : (s.unitRecorded unit).seq = s.seq := by
  cases unit
  · rfl
  · exact raise_seq _

/-- The event, the count and the address of an uncorrectable unit. -/
theorem dramUncorr_shows (u : Nat) : (s.dramUncorr u).getF F.MI_EVENT_DRAM_UNCORR = 1 ∧
    (s.dramUncorr u).getR R.MI_CNT_DRAM_UNCORR = s.getR R.MI_CNT_DRAM_UNCORR + 1 ∧
    (s.dramUncorr u).getR R.MI_DRAM_ERR_LO = BitVec.ofNat 32 (u / 16) := by
  unfold State.dramUncorr
  refine ⟨raise_getF _ (by decide) rfl (by decide), ?_, ?_⟩
  · rw [raise_getR_ne _ (by decide) (by decide), getR_setR_ne _ _ (by decide), getR_setR_ne _ _ (by decide), getR_bump_same]
  · rw [raise_getR_ne _ (by decide) (by decide), getR_setR_ne _ _ (by decide), getR_setR_same]

/-! ### Operations that are dropped (R245) -/

/-- A descriptor's operations that are in a die stay there; which they are, the sequencers and the home blocks say. -/
theorem descInDie_dropDescOps {t : State} (hseq : t.seq = s.seq) (hhb : t.hb = s.hb) (id : Nat) :
    (t.dropDescOps id).descInDie id = (s.dropDescOps id).descInDie id := by
  unfold State.descInDie State.opServes State.purposes State.job? State.dropDescOps State.purposes State.aheadInDie
  simp only [hseq, hhb]

/-- No operation that goes on waiting is the descriptor's. -/
theorem waiting_dropDescOps {id : Nat} {o : DieOp} (h : o ∈ (s.dropDescOps id).seq.waiting) :
    o ∈ s.seq.waiting ∧ .progDesc id ∉ o.purpose ∧ .eraseDesc id ∉ o.purpose := by
  obtain ⟨hwaits, hother⟩ := List.mem_filter.1 h
  have hnot : ∀ p ∈ o.purpose, p ≠ .progDesc id ∧ p ≠ .eraseDesc id := fun p hp => by
    have hnone := List.any_eq_false.1 (Bool.not_eq_true' _ ▸ hother) p (List.mem_append_left _ hp)
    simpa using hnone
  exact ⟨hwaits, fun hp => (hnot _ hp).1 rfl, fun hp => (hnot _ hp).2 rfl⟩

/-- Rows of an SQ that is being deleted are flushed, and nothing else changes. -/
theorem flushLeaving_keeps (n due : Nat) :
    Frame 0x8100 s (s.flushLeaving n due) ∧ (s.flushLeaving n due).seq.waiting = s.seq.waiting := by
  have hflush : ∀ (u : State) (r : Row), Frame 0x8100 u (u.rowFlush r due).2 ∧ (u.rowFlush r due).2.seq.waiting = u.seq.waiting :=
    fun u r => by
      have hdraw := fillers_frame (s := u) r.filled.length (u.rowSize r.layout - r.filled.length)
      rw [rowFlush_eq]
      exact ⟨(State.setRow_frame ..).after (hdraw.mono rfl) rfl, hdraw.waiting rfl⟩
  unfold State.flushLeaving
  split
  · exact ⟨Frame.refl s, rfl⟩
  · exact ⟨Frame.foldl (Frame.refl s) fun u r => (hflush u r).1,
      foldl_keeps (fun u : State => u.seq.waiting) fun u r _ => (hflush u r).2⟩

end State

/-- A descriptor one of whose buffer accesses has failed. -/
def Desc.faulted (d : Desc) : Desc := { d with bufferFault := true }

namespace State

variable {s : State}

/-! ### The descriptor (R245) -/

/-- The first status of a descriptor whose buffer access has failed is BUFFER_FAULT, whatever it is given. -/
theorem ended_finish_faulted {id : Nat} {d : Desc} (st n : Nat) (h : s.desc? id = some d) (hopen : d.status = none)
    (hbuf : d.bufferFault = true) : (s.finish id st n).ended id 0x043 n := by
  obtain rfl := id_of_desc? h
  rw [finish_open st n h hopen]
  exact ⟨_, desc?_setDesc_same (s := s.fresh.2) (d := { d with status := _, count := _, pages := _, doneAt := _ }) h, by simp [hbuf], rfl⟩

/-- Descriptor `d` is noted as faulted, and its operations that wait are dropped. -/
def faultNoted (s : State) (d : Desc) : State := (s.setDesc d.faulted).dropDescOps d.id

theorem faultNoted_frame (d : Desc) : Frame 0x180 s (s.faultNoted d) :=
  (State.dropDescOps_frame ..).after ((State.setDesc_frame ..).mono rfl) rfl

theorem desc?_faultNoted {d : Desc} (h : s.desc? d.id = some d) : (s.faultNoted d).desc? d.id = some d.faulted :=
  ((State.dropDescOps_frame ..).desc? rfl d.id).trans (desc?_setDesc_same (d := d.faulted) h)

/-- Descriptor `d` is open, no started SCAN's, and has no job: a failed access of it is its own to end. -/
structure Faults (s : State) (d : Desc) : Prop where
  desc : s.desc? d.id = some d
  still : d.status = none
  sound : d.bufferFault = false
  noScan : ∀ c ∈ s.so.scans, c.id ≠ d.id
  noJob : ∀ j ∈ s.seq.jobs, j.serves d.id = false

namespace Faults

variable {d : Desc}

theorem unitRecorded (h : s.Faults d) (unit : Option Nat) : (s.unitRecorded unit).Faults d where
  desc := ((unitRecorded_frame unit).desc? rfl d.id).trans h.desc
  still := h.still
  sound := h.sound
  noScan := by rw [(unitRecorded_frame unit).so rfl]; exact h.noScan
  noJob := by rw [unitRecorded_seq]; exact h.noJob

section

variable (h : s.Faults d)

include h

/-- A failed access ends its descriptor, unless an operation of it is in a die. -/
theorem bufferFault_goes : s.bufferFault d.id =
    if d.op = 0x03 then ((s.faultNoted d).summaryUnread d.faulted).scanFinish d.id St.bufferFault 0
    else if (s.faultNoted d).descInDie d.id then s.faultNoted d
    else if d.op = 0x04 ∨ d.op = 0x07 then (s.faultNoted d).progEnd d.faulted St.bufferFault
    else ((s.faultNoted d).finish d.id St.bufferFault d.doneCount).flushLeaving d.sq d.id := by
  have hgo : ¬(d.status.isSome = true ∨ d.bufferFault = true) := by simp [h.still, h.sound]
  have hscan : s.so.scans.find? (·.id = d.id) = none := List.find?_eq_none.2 fun c hc => by simpa using h.noScan c hc
  have hjobs : s.seq.jobs.filter (fun j => j.serves d.id) = [] := List.filter_eq_nil_iff.2 fun j hj => by simp [h.noJob j hj]
  have hown : s.bufferFault d.id = (s.setDesc d.faulted).descFault d.faulted := by
    unfold State.bufferFault
    simp only [h.desc, if_neg hgo]
    rw [setDesc_so, hscan]
    rfl
  rw [hown]
  unfold State.descFault
  rw [setDesc_seq, show d.faulted.id = d.id from rfl, hjobs]
  rfl

theorem ends_scan (hop : d.op = 0x03) : (s.bufferFault d.id).ended d.id 0x043 0 := by
  rw [h.bufferFault_goes, if_pos hop]
  unfold State.scanFinish
  refine ended_finish_faulted _ _ (d := d.faulted) ?_ h.still rfl
  exact ((State.summaryUnread_frame ..).desc? rfl d.id).trans (desc?_faultNoted h.desc)

theorem waits (hop : d.op ≠ 0x03) (hin : (s.dropDescOps d.id).descInDie d.id = true) : s.bufferFault d.id = s.faultNoted d := by
  rw [h.bufferFault_goes, if_neg hop, if_pos]
  exact (descInDie_dropDescOps (s := s) (t := s.setDesc d.faulted) rfl rfl d.id).trans hin

theorem ends (hop : d.op ≠ 0x03) (hin : (s.dropDescOps d.id).descInDie d.id = false) :
    (s.bufferFault d.id).ended d.id 0x043 (if d.op = 0x04 ∨ d.op = 0x07 then d.count else d.doneCount) ∧
      (s.bufferFault d.id).seq.waiting = (s.faultNoted d).seq.waiting := by
  have hfaulted := desc?_faultNoted h.desc
  have hout : (s.faultNoted d).descInDie d.id = false :=
    (descInDie_dropDescOps (s := s) (t := s.setDesc d.faulted) rfl rfl d.id).trans hin
  rw [h.bufferFault_goes, if_neg hop, hout, if_neg (by decide)]
  split
  · have hlines := linesDropped_frame (s := s.faultNoted d) d.faulted
    rw [progEnd_eq]
    exact ⟨ended_finish_faulted _ _ ((hlines.desc? rfl _).trans hfaulted) h.still rfl,
      ((State.finish_frame ..).waiting rfl).trans (hlines.waiting rfl)⟩
  · obtain ⟨hflushed, hwaiting⟩ := flushLeaving_keeps (s := (s.faultNoted d).finish d.id St.bufferFault d.doneCount) d.sq d.id
    exact ⟨ended_of_frame hflushed rfl (ended_finish_faulted _ _ hfaulted h.still rfl),
      hwaiting.trans ((State.finish_frame ..).waiting rfl)⟩

/-- No register but those of the pigeonholes and notices tells that the access of a descriptor that is no SCAN has failed. -/
theorem getR_bufferFault {off : Nat} (hop : d.op ≠ 0x03) (hoff : unlined off) : (s.bufferFault d.id).getR off = s.getR off := by
  have hnoted : (s.faultNoted d).getR off = s.getR off := getR_of_frame (faultNoted_frame d) (by decide) off
  rw [h.bufferFault_goes, if_neg hop]
  split
  · exact hnoted
  · split
    · rw [progEnd_eq, getR_of_frame (State.finish_frame ..) (by decide), getR_linesDropped _ hoff, hnoted]
    · rw [getR_of_frame (flushLeaving_keeps ..).1 (by decide), getR_of_frame (State.finish_frame ..) (by decide), hnoted]

end

end Faults

/-- A failed access of a descriptor that still reads buffers is recorded, where a unit was uncorrectable, and then taken. -/
theorem execBufferFault_goes {d : Desc} (unit : Option Nat) (hd : s.desc? d.id = some d) (hreads : buffersRead d = false)
    (hout : s.writesOut = true) : execBufferFault d.id s unit = .next ((s.unitRecorded unit).bufferFault d.id) := by
  unfold execBufferFault
  simp only [hd]
  rw [if_neg (by simp [hreads, hout])]
  rfl

end State

end Sys2Proof.Machine
end

section
/-! PROOFS. The statement about the start of programs and erases (R84, R86, R100, R110, R133, R235, R245, R273, R278, R286). -/

namespace Sys2Proof.Machine

/-- The units that were corrected are counted; a descriptor that ends leaves the count. -/
theorem State.getR_finish_dramReads {s : State} (id st n corr : Nat) : ((s.dramReads corr).finish id st n).getR R.MI_CNT_DRAM_CORR =
    s.getR R.MI_CNT_DRAM_CORR + BitVec.ofNat 32 corr := by
  rw [State.getR_of_frame (State.finish_frame ..) (by decide)]
  exact State.getR_setR_same ..

/-- Settles O38: a PROGRAM goes on with `State.programBegun`, an ERASE with `State.eraseOp` behind its range, the re-erases of TRAIN are
`State.reerased`, and a failed access ends as `State.Faults` says. -/
theorem programsAndErasesAreStarted : Obligations.ProgramsAndErasesAreStarted := by
  refine ⟨?program, ?erase, ?reerase, ?fault⟩
  case program =>
    rintro s id n a corr d buf md hrun rfl rfl
    obtain rfl := State.id_of_desc? hrun.1
    refine ⟨fun hmeta => ?_, fun st hmeta hlate => ?_, fun hmeta hn hlate =>
      ⟨fun st hdie => ?_, fun hdie hsound => ?_, fun hdie hdue => ?_⟩⟩
    · obtain ⟨hended, hframe⟩ := State.ended_finish_dramReads corr St.malformed 0 hrun
      exact ⟨_, (State.execProgram_goes buf md corr hrun).trans (if_pos (by rw [hmeta]; rfl)), hended,
        State.getR_finish_dramReads .., hframe⟩
    · have hexec := State.execProgram_goes buf md corr hrun
      rw [hmeta, hlate] at hexec
      exact ⟨_, hexec, State.ended_finish_dramReads corr st 0 hrun⟩
    · exact State.program_gone buf md corr hrun hmeta hlate hn hdie
    · obtain ⟨u, x, e, hexec, hframe, hcls, hord, hpages, hpurpose, hdata, hdesc, hstarted, hopen, hlength⟩ :=
        State.execProgram_queues buf md corr hrun hmeta hlate hn hdie
      rw [hsound, if_neg (by decide)] at hexec
      exact ⟨_, x, e, hexec, congrArg (· ++ [x]) (hframe.waiting rfl), hcls, hord, hpages, hpurpose, hdata, hdesc, hstarted, hopen,
        hlength, (State.enqueue_frame ..).after (hframe.mono rfl) rfl⟩
    · obtain ⟨u, x, e, hexec, hframe, hcls, hord, hpages, hpurpose, -, hdesc, hstarted, hopen, hlength⟩ :=
        State.execProgram_queues buf md corr hrun hmeta hlate hn hdie
      obtain ⟨o, hwaiting, hahead, hoCls, hoOrd, hoPages, hoPurpose, hrecovery⟩ :=
        State.eraseAhead_queues (s := u) x (s.busAddr (field d.bytes 8 8))
      rw [hdue, if_pos rfl] at hexec
      rw [hframe.waiting rfl] at hwaiting
      rw [hframe.ahead rfl] at hahead
      rw [hframe.busAddr rfl, hframe.logicalDie rfl] at hoPages
      rw [hord] at hoOrd
      exact ⟨_, o, x, e, hexec, hahead, hcls, hord, hpages, hpurpose, hwaiting, hoCls, hoOrd, hoPages, hoPurpose, hrecovery,
        ((State.eraseAhead_frame ..).desc? rfl d.id).trans hdesc, hstarted, hopen, hlength⟩
  case erase =>
    rintro s id a corr d maps js hrun rfl rfl
    obtain rfl := State.id_of_desc? hrun.1
    refine ⟨fun st hdie => ⟨_, State.execErase_gone maps corr hrun hdie, State.ended_finish_dramReads corr st 0 hrun⟩,
      fun hdie hroom => ?_, fun hdie hfull => ?_, State.execErase_lost maps corr hrun⟩
    all_goals
      obtain ⟨t, u, o, e, hexec, hbegun, hwaits, hcls, hpurpose, hpages, hmaps, hrange, hrecovery, hafter, hwrites, hdesc,
        hstarted, hopen⟩ :=
        State.erase_waits maps corr hrun hdie
    · obtain ⟨hepoch, hranges⟩ := State.rangeEntered_ph (k := addrDie (field d.bytes 8 8)) (b := addrBlock (field d.bytes 8 8))
        ((hbegun.ph rfl).symm ▸ hroom)
      rw [← hafter.ph rfl, hbegun.ph rfl] at hepoch hranges
      exact ⟨t, o, e, hexec, hwaits, hcls, hpurpose, hpages, hmaps, hrange.trans (decide_eq_false (Nat.not_le.2 hroom)), hrecovery, hepoch,
        hranges, hwrites, hdesc, hstarted, hopen⟩
    · obtain ⟨hkept, hevent⟩ := State.rangeEntered_full (k := addrDie (field d.bytes 8 8)) (b := addrBlock (field d.bytes 8 8))
        ((hbegun.ph rfl).symm ▸ hfull)
      rw [← hafter.ph rfl, hbegun.ph rfl] at hkept
      exact ⟨t, o, hexec, hwaits, hcls, hpurpose, hrange.trans (decide_eq_true hfull), congrArg Ph.ranges hkept,
        (hafter.getF rfl).trans hevent⟩
  case reerase =>
    intro s r hguard hmode hup
    refine ⟨_, State.execGuardedReeraseRelease_goes hguard hmode hup, ?_, fun b hb hr => ?_⟩
    · exact foldl_keeps (fun u : State => u.seq.fromTrain) fun u b _ => State.reerased_fromTrain b
    · exact State.foldl_reerased (s := s.trainTaken r) (List.mem_filter.2 ⟨hb, by simpa using hr⟩)
  case fault =>
    intro s id d unit hdesc hopen hbuf hreads hout hscans hjobs
    obtain rfl := State.id_of_desc? hdesc
    have hexec := State.execBufferFault_goes unit hdesc hreads hout
    have hfaults := State.Faults.unitRecorded ⟨hdesc, hopen, hbuf, hscans, hjobs⟩ unit
    have hdie : ((s.unitRecorded unit).dropDescOps d.id).descInDie d.id = (s.dropDescOps d.id).descInDie d.id :=
      State.descInDie_dropDescOps (State.unitRecorded_seq unit) ((State.unitRecorded_frame unit).hb rfl) d.id
    refine ⟨fun hop => ⟨_, hexec, hfaults.ends_scan hop⟩, fun hop hin => ?_, fun hop hin hunit => ?_, fun u hop hunit => ?_⟩
    · obtain ⟨hended, hwaiting⟩ := hfaults.ends hop (hdie.trans hin)
      refine ⟨_, hexec, hended, fun o ho => ?_⟩
      rw [hwaiting] at ho
      have hleft := State.waiting_dropDescOps (s := (s.unitRecorded unit).setDesc d.faulted) ho
      rwa [State.setDesc_seq, State.unitRecorded_seq] at hleft
    · subst hunit
      exact ⟨_, hexec, hfaults.waits hop hin ▸ State.desc?_faultNoted hdesc, hfaults.waits hop hin ▸ State.faultNoted_frame d⟩
    · subst hunit
      obtain ⟨hevent, hcount, haddr⟩ := State.dramUncorr_shows (s := s) u
      refine ⟨_, hexec, ?_, (hfaults.getR_bufferFault hop (by decide)).trans hcount,
        (hfaults.getR_bufferFault hop (by decide)).trans haddr⟩
      rw [← hevent]
      exact congrArg (fun w : W32 => bits w.toNat _ _) (hfaults.getR_bufferFault (off := R.MI_EVENT) hop (by decide))

end Sys2Proof.Machine
end

section
/-! PROOFS. A recalibration pass: how it starts, goes on with its next lane and ends (R116, R119, R120, R128). -/

namespace Sys2Proof.Machine
namespace State

variable {s : State} {r : Nat}

/-! ### The registers of a route's interface are apart -/

theorem RT_LANE_ne_RT_PHY_STATUS (r l : Nat) : R.RT_LANE r l ≠ R.RT_PHY_STATUS r := by unfold R.RT_LANE R.RT_PHY_STATUS; omega
theorem RT_LANE_ne_RT_PHY_CTRL (r l : Nat) : R.RT_LANE r l ≠ R.RT_PHY_CTRL r := by unfold R.RT_LANE R.RT_PHY_CTRL; omega
theorem RT_LANE_ne_RT_PHY_EVENT (r l : Nat) : R.RT_LANE r l ≠ R.RT_PHY_EVENT r := by unfold R.RT_LANE R.RT_PHY_EVENT; omega
theorem RT_LANE_ne_RT_TRAIN_ERR (r l : Nat) : R.RT_LANE r l ≠ R.RT_TRAIN_ERR r := by unfold R.RT_LANE R.RT_TRAIN_ERR; omega
theorem RT_LANE_ne_RT_RECAL (r l : Nat) : R.RT_LANE r l ≠ R.RT_RECAL r := by unfold R.RT_LANE R.RT_RECAL; omega
theorem RT_LANE_ne_RT_PHY_X (r l : Nat) : R.RT_LANE r l ≠ R.RT_PHY_X r := by unfold R.RT_LANE R.RT_PHY_X; omega
theorem RT_DESKEW_ne_RT_PHY_X (r i : Nat) : R.RT_DESKEW r i ≠ R.RT_PHY_X r := by unfold R.RT_DESKEW R.RT_PHY_X; omega
theorem RT_DESKEW_ne_RT_PHY_STATUS (r i : Nat) : R.RT_DESKEW r i ≠ R.RT_PHY_STATUS r := by unfold R.RT_DESKEW R.RT_PHY_STATUS; omega
theorem RT_DESKEW_ne_RT_TRAIN_ERR (r i : Nat) : R.RT_DESKEW r i ≠ R.RT_TRAIN_ERR r := by unfold R.RT_DESKEW R.RT_TRAIN_ERR; omega
theorem RT_RECAL_ne_RT_PHY_STATUS (r : Nat) : R.RT_RECAL r ≠ R.RT_PHY_STATUS r := by unfold R.RT_RECAL R.RT_PHY_STATUS; omega
theorem RT_RECAL_ne_RT_PHY_CTRL (r : Nat) : R.RT_RECAL r ≠ R.RT_PHY_CTRL r := by unfold R.RT_RECAL R.RT_PHY_CTRL; omega
theorem RT_RECAL_ne_RT_PHY_EVENT (r : Nat) : R.RT_RECAL r ≠ R.RT_PHY_EVENT r := by unfold R.RT_RECAL R.RT_PHY_EVENT; omega
theorem RT_RECAL_ne_RT_TRAIN_ERR (r : Nat) : R.RT_RECAL r ≠ R.RT_TRAIN_ERR r := by unfold R.RT_RECAL R.RT_TRAIN_ERR; omega
theorem RT_RECAL_ne_RT_PHY_X (r : Nat) : R.RT_RECAL r ≠ R.RT_PHY_X r := by unfold R.RT_RECAL R.RT_PHY_X; omega
theorem RT_PHY_STATUS_ne_RT_PHY_CTRL (r : Nat) : R.RT_PHY_STATUS r ≠ R.RT_PHY_CTRL r := by unfold R.RT_PHY_STATUS R.RT_PHY_CTRL; omega
theorem RT_PHY_STATUS_ne_RT_PHY_EVENT (r : Nat) : R.RT_PHY_STATUS r ≠ R.RT_PHY_EVENT r := by unfold R.RT_PHY_STATUS R.RT_PHY_EVENT; omega
theorem RT_PHY_X_ne_RT_PHY_STATUS (r : Nat) : R.RT_PHY_X r ≠ R.RT_PHY_STATUS r := by unfold R.RT_PHY_X R.RT_PHY_STATUS; omega
theorem RT_PHY_X_ne_RT_PHY_CTRL (r : Nat) : R.RT_PHY_X r ≠ R.RT_PHY_CTRL r := by unfold R.RT_PHY_X R.RT_PHY_CTRL; omega
theorem RT_PHY_X_ne_RT_PHY_EVENT (r : Nat) : R.RT_PHY_X r ≠ R.RT_PHY_EVENT r := by unfold R.RT_PHY_X R.RT_PHY_EVENT; omega
theorem RT_PHY_X_ne_RT_TRAIN_ERR (r : Nat) : R.RT_PHY_X r ≠ R.RT_TRAIN_ERR r := by unfold R.RT_PHY_X R.RT_TRAIN_ERR; omega

/-- A field of another register keeps its value. -/
theorem getF_setF_far {f g : Field} (v : Nat) (h : g.off ≠ f.off) : (s.setF f v).getF g = s.getF g := getF_setR_ne s _ h

theorem still_of_route {off : Nat} (h : 0x20000 ≤ off) : still off := by unfold still R.MODE R.PWR_WAKE; omega

theorem still_RT_LANE (r l : Nat) : still (R.RT_LANE r l) := still_of_route (by unfold R.RT_LANE; omega)
theorem still_RT_PHY_X (r : Nat) : still (R.RT_PHY_X r) := still_of_route (by unfold R.RT_PHY_X; omega)

/-! ### The smallest eye (R128), and the relief switch (R115, R116) -/

theorem minEye_congr {t : State} (h : t.getF (F.RT_PHY_X_MIN_EYE r) = s.getF (F.RT_PHY_X_MIN_EYE r)) : t.minEye r = s.minEye r :=
  congrArg (clampNat 4 48) h

theorem reliefSelect_getF {g : Field} (v : Nat) (h : g.off ≠ R.RT_PHY_STATUS r ∨ g.lo + g.width ≤ 16 ∨ 20 ≤ g.lo) :
    (s.reliefSelect r v).getF g = s.getF g := getF_setF_ne (s.emit _) _ h (Nat.le_of_ble_eq_true rfl)

/-! ### A lane begins in a gap on the bus (R116, R119, R120) -/

/-- Lane `c.lane` is under way: through the relief carrier where it serves, on bursts otherwise. -/
def laneBegun (s : State) (r : Nat) (c : Recal) : State :=
  let s := s.setF (F.RT_LANE_STATE r c.lane) 1
  if s.reliefServes r then
    (s.reliefSelect r (0xA0 + c.lane)).setRoute r { s.route r with recal := some { c with phase := 1, minEye := s.minEye r } }
  else s.setRoute r { s.route r with recal := some { c with phase := 3, minEye := s.minEye r } }

theorem reliefGo_begins {c : Recal} (h : (s.route r).recal = some c) (hphase : c.phase = 0) (hruns : s.recalRuns r = true)
    (hgap : s.busGap r = true) : s.reliefGo r = s.laneBegun r c := by
  unfold State.reliefGo
  rw [h]
  exact if_pos ⟨hphase, hruns, hgap⟩

theorem reliefGo_waits (h : s.recalRuns r = false ∨ s.busGap r = false) : s.reliefGo r = s := by
  unfold State.reliefGo
  split
  next c _ => rw [if_neg fun hgo => by rcases h with h | h <;> simp [h] at hgo]
  next => rfl

/-- What a lane that begins leaves of the registers. -/
theorem laneBegun_getF {g : Field} {c : Recal} (hpos : g.off ≠ R.RT_PHY_STATUS r ∨ g.lo + g.width ≤ 16 ∨ 20 ≤ g.lo)
    (hlane : g.off ≠ R.RT_LANE r c.lane ∨ g.lo + g.width ≤ 16 ∨ 18 ≤ g.lo) : (s.laneBegun r c).getF g = s.getF g := by
  unfold laneBegun
  dsimp only
  split
  · rw [getF_setRoute, reliefSelect_getF _ hpos]
    exact getF_setF_ne s _ hlane (Nat.le_of_ble_eq_true rfl)
  · exact getF_setF_ne s _ hlane (Nat.le_of_ble_eq_true rfl)

theorem reliefGo_getF {g : Field} (hpos : g.off ≠ R.RT_PHY_STATUS r ∨ g.lo + g.width ≤ 16 ∨ 20 ≤ g.lo)
    (hlane : ∀ c, (s.route r).recal = some c → g.off ≠ R.RT_LANE r c.lane ∨ g.lo + g.width ≤ 16 ∨ 18 ≤ g.lo) :
    (s.reliefGo r).getF g = s.getF g := by
  unfold State.reliefGo
  split
  next c hc =>
    split
    · exact laneBegun_getF hpos (hlane c hc)
    · rfl
  next => rfl

/-- A lane that begins stays the route's pass, and nothing else of the route changes. -/
theorem reliefGo_route {c : Recal} (h : (s.route r).recal = some c) :
    ∃ d, (s.reliefGo r).route r = { s.route r with recal := some d } := by
  have hkept : s.route r = { s.route r with recal := some c } := by rw [← h]
  unfold State.reliefGo
  rw [h]
  dsimp only
  split
  · split
    · exact ⟨_, route_setRoute_same ..⟩
    · exact ⟨_, route_setRoute_same ..⟩
  · exact ⟨c, hkept⟩

/-- What a pass's beginning looks at is the same but for what the route waits for: in the words of the route's interface `s` and `t`
differ in `ENS_RT_PHY_CTRL` and `ENS_RT_RECAL` alone. -/
structure SamePass (r : Nat) (s t : State) : Prop where
  img : t.img = s.img
  dies : t.seq.dies = s.seq.dies
  burst : (t.route r).burst = (s.route r).burst
  out : t.out = s.out
  reg : ∀ off, off ≠ R.RT_PHY_CTRL r → off ≠ R.RT_RECAL r → t.getR off = s.getR off

namespace SamePass

variable {t u : State} (h : SamePass r s t)

theorem refl (s : State) : SamePass r s s := ⟨rfl, rfl, rfl, rfl, fun _ _ _ => rfl⟩

include h

theorem trans (k : SamePass r t u) : SamePass r s u :=
  ⟨k.img.trans h.img, k.dies.trans h.dies, k.burst.trans h.burst, k.out.trans h.out,
    fun off hctrl hrecal => (k.reg off hctrl hrecal).trans (h.reg off hctrl hrecal)⟩

theorem getF {g : Field} (hctrl : g.off ≠ R.RT_PHY_CTRL r) (hrecal : g.off ≠ R.RT_RECAL r) : t.getF g = s.getF g :=
  congrArg (fun w : W32 => bits w.toNat g.lo g.width) (h.reg g.off hctrl hrecal)

theorem low {g : Field} (hg : g.off < 0x20400) : t.getF g = s.getF g :=
  h.getF (by unfold R.RT_PHY_CTRL; omega) (by unfold R.RT_RECAL; omega)

theorem routeSt : t.routeSt r = s.routeSt r :=
  h.getF (RT_STATUS_ne_RT_PHY_CTRL r r) (by show R.RT_STATUS r ≠ _; unfold R.RT_STATUS R.RT_RECAL; omega)

theorem recalRuns : t.recalRuns r = s.recalRuns r := by
  have himg : t.getF F.IMG_STATUS_STATE = s.getF F.IMG_STATUS_STATE := h.low (by decide)
  have hmode : t.modeNow = s.modeNow := h.low (by decide)
  unfold State.recalRuns
  rw [h.routeSt, himg, hmode]

theorem busGap : t.busGap r = s.busGap r := by
  unfold State.busGap State.busBusy State.die
  rw [h.dies, h.burst]

theorem lane {g : Field} {l : Nat} (hg : g.off = R.RT_LANE r l) : t.getF g = s.getF g :=
  h.getF (hg ▸ RT_LANE_ne_RT_PHY_CTRL r l) (hg ▸ RT_LANE_ne_RT_RECAL r l)

theorem reliefServes : t.reliefServes r = s.reliefServes r := by
  unfold State.reliefServes State.reliefFree State.routeCfg
  rw [h.img, h.lane rfl]

theorem minEye : t.minEye r = s.minEye r :=
  minEye_congr (h.getF (RT_PHY_X_ne_RT_PHY_CTRL r) (RT_RECAL_ne_RT_PHY_X r).symm)

theorem junction : t.junction = s.junction := by
  have htemp : t.getF F.PWR_TEMP_JUNCTION = s.getF F.PWR_TEMP_JUNCTION := h.low (by decide)
  unfold State.junction
  rw [htemp]

end SamePass

theorem SamePass.setF {f : Field} (v : Nat) (hf : f.off = R.RT_PHY_CTRL r ∨ f.off = R.RT_RECAL r) : SamePass r s (s.setF f v) :=
  ⟨rfl, rfl, rfl, rfl, fun off hctrl hrecal => getR_setF_ne s v (by rcases hf with hf | hf <;> rw [hf] <;> assumption)⟩

theorem SamePass.setRoute {x : Route} (hx : x.burst = (s.route r).burst) : SamePass r s (s.setRoute r x) :=
  ⟨rfl, rfl, by rw [route_setRoute_same, hx], rfl, fun _ _ _ => rfl⟩

/-! ### A pass starts (R119) -/

/-- A pass waits with lane 0 for its first gap. -/
def passSet (s : State) (r : Nat) : State :=
  let s := s.setF (F.RT_PHY_CTRL_RECAL_NOW r) 0
  let s := s.setRoute r { s.route r with passTemp := s.junction }
  (s.setF (F.RT_RECAL_LANE r) 0).setRoute r { s.route r with recal := some {} }

/-- The next lane that is not retired waits for its gap, or begins in it. -/
theorem recalLane_finds {k l : Nat} (h : (List.range 8).find? (fun l => k ≤ l && s.getF (F.RT_LANE_STATE r l) ≠ 2) = some l) :
    s.recalLane r k = ((s.setF (F.RT_RECAL_LANE r) l).setRoute r { s.route r with recal := some { lane := l } }).reliefGo r := by
  unfold State.recalLane
  rw [h]

/-- After lane 7 the pass ends. -/
theorem recalLane_ends {k : Nat} (h : 8 ≤ k) : s.recalLane r k = s.recalEnd r := by
  have hnone : (List.range 8).find? (fun l => k ≤ l && s.getF (F.RT_LANE_STATE r l) ≠ 2) = none :=
    List.find?_eq_none.2 fun l hl => by have := List.mem_range.1 hl; simp; omega
  unfold State.recalLane
  rw [hnone]

theorem recalStart_begins (hup : s.routeUp r = true) (hnone : (s.route r).recal = none) (hlane : s.getF (F.RT_LANE_STATE r 0) ≠ 2) :
    s.recalStart r = (s.passSet r).reliefGo r := by
  have hkept : ∀ x, ((s.setF (F.RT_PHY_CTRL_RECAL_NOW r) 0).setRoute r x).getF (F.RT_LANE_STATE r 0) = s.getF (F.RT_LANE_STATE r 0) :=
    fun x => getF_setF_ne s 0 (Or.inl (RT_LANE_ne_RT_PHY_CTRL r 0)) (Nat.le_of_ble_eq_true rfl)
  unfold State.recalStart
  rw [if_neg (by simp [hup])]
  dsimp only
  rw [if_neg (by simp [hnone]), recalLane_finds (l := 0)]
  · rfl
  · rw [List.find?_eq_some_iff_append]
    exact ⟨by simp [hkept, hlane], [], _, rfl, by simp⟩

theorem samePass_passSet (r : Nat) : SamePass r s (s.passSet r) :=
  (((SamePass.setF 0 (Or.inl rfl)).trans (.setRoute (by rfl))).trans (.setF 0 (Or.inr rfl))).trans (.setRoute (by rfl))

theorem passSet_route (r : Nat) : (s.passSet r).route r = { s.route r with passTemp := s.junction, recal := some {} } := by
  unfold passSet
  dsimp only
  rw [route_setRoute_same, route_setRoute_same, (SamePass.setF (s := s) (r := r) 0 (Or.inl rfl)).junction, route_setF]

/-- A pass that starts is the route's own from then on. -/
theorem recalStart_route (hup : s.routeUp r = true) (hnone : (s.route r).recal = none) (hlane : s.getF (F.RT_LANE_STATE r 0) ≠ 2) :
    ∃ d, (s.recalStart r).route r = { s.route r with passTemp := s.junction, recal := some d } := by
  obtain ⟨d, hd⟩ := reliefGo_route (s := s.passSet r) (r := r) (c := {}) (by rw [passSet_route])
  exact ⟨d, by rw [recalStart_begins hup hnone hlane, hd, passSet_route]⟩

/-- A pass has started at `t`, by what `s` shows: with lane 0 in a gap, on the relief carrier or on bursts, or it waits for the gap. -/
def PassStarted (s t : State) (r : Nat) : Prop :=
  t.getF (F.RT_RECAL_LANE r) = 0 ∧ t.getF (F.RT_PHY_CTRL_RECAL_NOW r) = 0 ∧ (t.route r).passTemp = s.junction ∧
    (s.recalRuns r = true → s.busGap r = true → t.getF (F.RT_LANE_STATE r 0) = 1 ∧
      (s.reliefServes r = true → (t.route r).recal = some { lane := 0, phase := 1, minEye := s.minEye r } ∧
        t.out = s.out ++ [.relief r 0xA0] ∧ t.getF (F.RT_PHY_STATUS_RELIEF_POS r) = 0) ∧
      (s.reliefServes r = false → (t.route r).recal = some { lane := 0, phase := 3, minEye := s.minEye r } ∧ t.out = s.out)) ∧
    (s.recalRuns r = false ∨ s.busGap r = false → (t.route r).recal = some { lane := 0 } ∧ t.out = s.out ∧
      t.getF (F.RT_LANE_STATE r 0) = s.getF (F.RT_LANE_STATE r 0))

/-- A lane that begins in its gap shows so. -/
theorem laneBegun_shows {c : Recal} (hc : c.lane < 8) :
    (s.laneBegun r c).getF (F.RT_LANE_STATE r c.lane) = 1 ∧
      (s.reliefServes r = true → (s.laneBegun r c).route r = { s.route r with recal := some { c with phase := 1, minEye := s.minEye r } } ∧
        (s.laneBegun r c).out = s.out ++ [.relief r (0xA0 + c.lane)] ∧ (s.laneBegun r c).getF (F.RT_PHY_STATUS_RELIEF_POS r) = c.lane) ∧
      (s.reliefServes r = false → (s.laneBegun r c).route r = { s.route r with recal := some { c with phase := 3, minEye := s.minEye r } } ∧
        (s.laneBegun r c).out = s.out) := by
  have hset : (s.setF (F.RT_LANE_STATE r c.lane) 1).getF (F.RT_LANE_STATE r c.lane) = 1 := getF_setF_same _ _ 1 (Nat.le_of_ble_eq_true rfl)
  have hserves : (s.setF (F.RT_LANE_STATE r c.lane) 1).reliefServes r = s.reliefServes r := by
    unfold State.reliefServes State.reliefFree
    rw [getF_setF_ne s 1 (Or.inl (RT_LANE_ne (by decide) (by omega) (by omega))) (Nat.le_of_ble_eq_true rfl)]
    rfl
  have heye : (s.setF (F.RT_LANE_STATE r c.lane) 1).minEye r = s.minEye r :=
    minEye_congr (getF_setF_far 1 (RT_LANE_ne_RT_PHY_X r c.lane).symm)
  have hpos : ∀ u : State, (u.reliefSelect r (0xA0 + c.lane)).getF (F.RT_PHY_STATUS_RELIEF_POS r) = c.lane := fun u => by
    refine (getF_setF_same (u.emit _) _ _ (Nat.le_of_ble_eq_true rfl)).trans ?_
    rw [if_neg (by omega)]
    show (0xA0 + c.lane) % 16 % 16 = c.lane
    omega
  unfold laneBegun
  dsimp only
  rw [hserves, heye]
  cases s.reliefServes r
  · exact ⟨hset, fun h => absurd h (by decide), fun _ => ⟨route_setRoute_same .., rfl⟩⟩
  · refine ⟨?_, fun _ => ⟨route_setRoute_same .., rfl, hpos _⟩, fun h => absurd h (by decide)⟩
    exact (reliefSelect_getF _ (Or.inl (RT_LANE_ne_RT_PHY_STATUS r c.lane))).trans hset

theorem recalStart_starts (hup : s.routeUp r = true) (hnone : (s.route r).recal = none) (hlane : s.getF (F.RT_LANE_STATE r 0) ≠ 2) :
    PassStarted s (s.recalStart r) r := by
  have hsame := samePass_passSet (s := s) r
  have hroute := passSet_route (s := s) r
  have hpass : ((s.passSet r).route r).recal = some {} := by rw [hroute]
  have hshown : (s.passSet r).getF (F.RT_RECAL_LANE r) = 0 := getF_setF_same _ _ 0 (Nat.le_of_ble_eq_true rfl)
  have hnow : (s.passSet r).getF (F.RT_PHY_CTRL_RECAL_NOW r) = 0 :=
    (getF_setF_ne _ 0 (Or.inl (RT_RECAL_ne_RT_PHY_CTRL r).symm) (Nat.le_of_ble_eq_true rfl)).trans
      (getF_setF_same _ _ 0 (Nat.le_of_ble_eq_true rfl))
  have hlaneOf : ∀ c, ((s.passSet r).route r).recal = some c → c.lane = 0 := fun c hc => by
    rw [hpass] at hc
    cases hc
    rfl
  obtain ⟨d, hd⟩ := reliefGo_route hpass
  rw [recalStart_begins hup hnone hlane]
  refine ⟨?_, ?_, ?_, fun hruns hgap => ?_, fun hwaits => ?_⟩
  · rw [reliefGo_getF (Or.inl (RT_RECAL_ne_RT_PHY_STATUS r)) fun c _ => Or.inl (RT_LANE_ne_RT_RECAL r c.lane).symm, hshown]
  · rw [reliefGo_getF (Or.inl (RT_PHY_STATUS_ne_RT_PHY_CTRL r).symm)
      fun c _ => Or.inl (RT_LANE_ne_RT_PHY_CTRL r c.lane).symm, hnow]
  · rw [hd, hroute]
  · rw [reliefGo_begins hpass rfl (hsame.recalRuns.trans hruns) (hsame.busGap.trans hgap)]
    obtain ⟨hstate, hrelief, hbursts⟩ := laneBegun_shows (s := s.passSet r) (r := r) (c := {}) (by decide)
    rw [hsame.reliefServes, hsame.minEye, hsame.out, hroute] at hrelief
    rw [hsame.reliefServes, hsame.minEye, hsame.out, hroute] at hbursts
    refine ⟨hstate, fun hserves => ?_, fun hserves => ?_⟩
    · obtain ⟨hpassed, hout, hpos⟩ := hrelief hserves
      exact ⟨by rw [hpassed], hout, hpos⟩
    · obtain ⟨hpassed, hout⟩ := hbursts hserves
      exact ⟨by rw [hpassed], hout⟩
  · rw [reliefGo_waits (by rwa [hsame.recalRuns, hsame.busGap])]
    exact ⟨hpass, hsame.out, hsame.lane rfl⟩

/-- Where two states agree in what a pass looks at, one that starts at the one starts at the other. -/
theorem PassStarted.of_samePass {t u : State} (h : SamePass r s u) (k : PassStarted u t r) : PassStarted s t r := by
  unfold PassStarted at k
  rwa [h.junction, h.recalRuns, h.busGap, h.reliefServes, h.minEye, h.out, h.lane rfl] at k

/-! ### RECAL_NOW, and the end of PERIOD (R119) -/

/-- RECAL_NOW of a route, its EVENT_EN written back as it is. -/
theorem writeReg_recalNow (hr : r < 32) (h : s.takes (R.RT_PHY_CTRL r)) :
    s.writeReg (R.RT_PHY_CTRL r) (s.phyKeep r ||| 2#32) =
      (s.setF ⟨R.RT_PHY_CTRL r, 2, 6⟩ (bits (s.phyKeep r ||| 2#32).toNat 2 6)).recalNow r := by
  obtain ⟨row, hrow, hrwx, hrwl⟩ := regRow?_RT_PHY_CTRL hr
  have hrecal : bit (s.phyKeep r ||| 2#32).toNat 1 = true := by
    rw [bit, BitVec.testBit_toNat, BitVec.getLsbD_or]
    simp
  have hdown : bit (s.phyKeep r ||| 2#32).toNat 0 = false := by
    rw [bit, BitVec.testBit_toNat, State.phyKeep, BitVec.getLsbD_or, BitVec.getLsbD_and]
    simp
  have happly : s.applyWrite row (R.RT_PHY_CTRL r) (s.phyKeep r ||| 2#32) =
      (s.setF ⟨R.RT_PHY_CTRL r, 2, 6⟩ (bits (s.phyKeep r ||| 2#32).toNat 2 6)).recalNow r := by
    rw [applyWrite_RT_PHY_CTRL hr, State.phyCtrl, hrecal, hdown]
    rfl
  have hheld : (s.applyWrite row (R.RT_PHY_CTRL r) (s.phyKeep r ||| 2#32)).sec.heldWrites = [] := by
    obtain ⟨-, -, -, hnone⟩ := h
    rw [happly, (State.recalNow_frame _ r).sec (by decide), setF_sec, hnone]
  rw [writeReg_takes h hrow (by unfold isDoor R.RT_PHY_CTRL; simp; omega) (by simp [State.lockedMask, hrwx, hrwl]) hheld, happly]

/-- A command that starts a pass does so at a state that differs at most in `ENS_RT_PHY_CTRL`. -/
theorem exec_recalStart {c : Instr} (hr : r < 32) (hc : (c = .recalNow r ∧ s.takes (R.RT_PHY_CTRL r)) ∨ c = .recalPeriodExpiry r) :
    ∃ u, exec c s = .next (u.recalStart r) ∧ SamePass r s u ∧ u.seq = s.seq ∧ Frame (may [.regs 15]) s u := by
  rcases hc with ⟨rfl, htakes⟩ | rfl
  · refine ⟨(s.setF ⟨R.RT_PHY_CTRL r, 2, 6⟩ (bits (s.phyKeep r ||| 2#32).toNat 2 6)).setF (F.RT_PHY_CTRL_RECAL_NOW r) 1, ?_,
      (SamePass.setF _ (Or.inl rfl)).trans (.setF 1 (Or.inl rfl)), rfl,
      (phySetF_frame 1 (by simp)).step (phySetF_frame (f := ⟨R.RT_PHY_CTRL r, 2, 6⟩) _ (by simp))⟩
    show execRecalNow r s = _
    unfold execRecalNow
    rw [if_pos hr, writeReg_recalNow hr htakes]
    rfl
  · exact ⟨s, congrArg Host.Outcome.next (if_pos hr), .refl s, rfl, .refl s⟩

theorem exec_startsPass {c : Instr} (hr : r < 32) (hc : (c = .recalNow r ∧ s.takes (R.RT_PHY_CTRL r)) ∨ c = .recalPeriodExpiry r)
    (hup : s.routeUp r = true) (hnone : (s.route r).recal = none) (hlane : s.getF (F.RT_LANE_STATE r 0) ≠ 2) :
    ∃ t, exec c s = .next t ∧ PassStarted s t r ∧ Frame (may [.flash, .outputs, .regs 15]) s t := by
  obtain ⟨u, hexec, hsame, hseq, hframe⟩ := exec_recalStart hr hc
  have huUp : u.routeUp r = true := by
    unfold State.routeUp
    rw [hsame.routeSt]
    exact hup
  have huNone : (u.route r).recal = none := by
    unfold State.route
    rw [hseq]
    exact hnone
  exact ⟨_, hexec, (recalStart_starts huUp huNone (by rw [hsame.lane rfl]; exact hlane)).of_samePass hsame,
    (State.recalStart_frame u r).after (hframe.mono rfl) rfl⟩

/-! ### The next lane, and the end of a pass (R119) -/

/-- What the next lane of a pass, or its end, leaves of the registers. -/
theorem recalLane_getF {g : Field} {k : Nat} (hrecal : g.off ≠ R.RT_RECAL r)
    (hpos : g.off ≠ R.RT_PHY_STATUS r ∨ g.lo + g.width ≤ 16 ∨ 20 ≤ g.lo)
    (hlane : ∀ l, k ≤ l → l < 8 → g.off ≠ R.RT_LANE r l ∨ g.lo + g.width ≤ 16 ∨ 18 ≤ g.lo) :
    (s.recalLane r k).getF g = s.getF g := by
  cases hfind : (List.range 8).find? (fun l => k ≤ l && s.getF (F.RT_LANE_STATE r l) ≠ 2) with
  | none =>
    unfold State.recalLane
    rw [hfind]
    exact (getF_setF_far _ hrecal).trans (getF_setF_far _ hrecal)
  | some l =>
    have hl : l < 8 := List.mem_range.1 (List.mem_of_find?_eq_some hfind)
    have hk : k ≤ l := by
      have := List.find?_some hfind
      simp only [Bool.and_eq_true, decide_eq_true_eq] at this
      exact this.1
    rw [recalLane_finds hfind, reliefGo_getF hpos fun c hc => ?_]
    · exact getF_setF_far _ hrecal
    · rw [route_setRoute_same] at hc
      cases hc
      exact hlane l hk hl

theorem recalEnd_shows (r : Nat) : ((s.recalEnd r).route r).recal = none ∧ (s.recalEnd r).out = s.out ∧
    (s.recalEnd r).getF (F.RT_RECAL_LANE r) = 15 ∧
    (s.recalEnd r).getF (F.RT_RECAL_COUNT r) = (s.getF (F.RT_RECAL_COUNT r) + 1) % 65536 := by
  unfold State.recalEnd
  dsimp only
  refine ⟨by rw [route_setF, route_setF, route_setRoute_same], rfl, ?_, ?_⟩
  · rw [getF_setF_ne _ _ (Or.inr (Or.inl (Nat.le_of_ble_eq_true rfl))) (Nat.le_of_ble_eq_true rfl),
      getF_setF_same _ _ _ (Nat.le_of_ble_eq_true rfl)]
    rfl
  · exact getF_setF_same _ _ _ (Nat.le_of_ble_eq_true rfl)

end State
end Sys2Proof.Machine
end

section
/-! PROOFS. The sweeps of phases A and C end: the lane moves, or it or the relief carrier has failed (R118, R120, R122, R124). -/

namespace Sys2Proof.Machine

theorem clampInt_code (v : Int) : (clampInt 0 127 v).toNat % 128 = (clampInt 0 127 v).toNat ∧
    ((clampInt 0 127 v).toNat : Int) = clampInt 0 127 v := by
  unfold clampInt
  omega

theorem unsigned_lt (w : Nat) (v : Int) : unsigned w v < 2 ^ w := by
  unfold unsigned
  have hpos : (0 : Int) < (2 ^ w : Nat) := by exact_mod_cast Nat.two_pow_pos w
  have := Int.emod_lt_of_pos v hpos
  have := Int.emod_nonneg v hpos.ne'
  omega

theorem min_byte (eye : Nat) : min 255 eye % 2 ^ 8 = min 255 eye := Nat.mod_eq_of_lt (by omega)

namespace State

variable {s : State} {r : Nat}

/-! ### The monitor's count (R124) -/

theorem trainErr_getF {g : Field} (n : Nat) (h : g.off ≠ R.RT_TRAIN_ERR r) : (s.trainErr r n).getF g = s.getF g := by
  unfold State.trainErr
  split
  · exact getF_setR_ne s _ h
  · rfl

theorem trainErr_counts (n : Nat) (hup : s.routeUp r = true) (hretrain : (s.route r).retrain = false)
    (hdrain : (s.route r).drainRetrain = false) :
    (s.trainErr r n).getF (F.RT_TRAIN_ERR_COUNT r) = min 65535 (s.getF (F.RT_TRAIN_ERR_COUNT r) + n) := by
  unfold State.trainErr
  rw [if_pos ⟨hup, hretrain, hdrain⟩, getF_setF_same _ _ _ (Nat.le_of_ble_eq_true rfl)]
  exact Nat.mod_eq_of_lt (lt_of_le_of_lt (Nat.min_le_left ..) (by decide : 65535 < 2 ^ 16))

theorem trainErr_minEye (n : Nat) : (s.trainErr r n).minEye r = s.minEye r :=
  minEye_congr (trainErr_getF n (RT_PHY_X_ne_RT_TRAIN_ERR r))

theorem trainErr_out (n : Nat) : (s.trainErr r n).out = s.out := (State.trainErr_frame s r n).out (by decide)

/-! ### What a sweep moves (R118, R120) -/

theorem adaptDfe_getF {g : Field} (l : Nat) (h : g.off ≠ R.RT_LANE r l ∨ g.lo + g.width ≤ 18 ∨ 24 ≤ g.lo) :
    (s.adaptDfe r l).getF g = s.getF g := getF_setF_ne (s.draw.2) _ h (Nat.le_of_ble_eq_true rfl)

/-- The codes of DQX for one chip enable. -/
def dqxCoded (r k : Nat) (shift off : Int) (s : State) (c : Nat) : State :=
  let x := clampInt 0 127 (s.getF (F.RT_DESKEW_READ r (9 * c + 8)) + shift)
  let w := clampInt 0 127 (s.getF (F.RT_DESKEW_WRITE r (9 * c + k)) + off + (x - (s.getF (F.RT_DESKEW_READ r (9 * c + k)) + off)))
  (s.setF (F.RT_DESKEW_READ r (9 * c + 8)) x.toNat).setF (F.RT_DESKEW_WRITE r (9 * c + 8)) w.toNat

theorem dqxCoded_getR {off : Nat} (k : Nat) (shift d : Int) (c : Nat) (h : off ≠ R.RT_DESKEW r (9 * c + 8)) :
    (dqxCoded r k shift d s c).getR off = s.getR off := (getR_setF_ne _ _ h).trans (getR_setF_ne _ _ h)

theorem dqxCoded_read (k : Nat) (shift d : Int) (c : Nat) : (dqxCoded r k shift d s c).getF (F.RT_DESKEW_READ r (9 * c + 8)) =
    (clampInt 0 127 (s.getF (F.RT_DESKEW_READ r (9 * c + 8)) + shift)).toNat := by
  unfold dqxCoded
  dsimp only
  rw [getF_setF_ne _ _ (Or.inr (Or.inl (Nat.le_of_ble_eq_true rfl))) (Nat.le_of_ble_eq_true rfl),
    getF_setF_same _ _ _ (Nat.le_of_ble_eq_true rfl)]
  exact (clampInt_code _).1

/-- The codes of DQX are set over a state whose registers differ in its DFE tap alone. -/
theorem phaseA_eq (k : Nat) (shift : Int) : ∃ u d, s.phaseA r k shift = (List.range 4).foldl (dqxCoded r k shift d) u ∧
    ∀ g : Field, g.off ≠ R.RT_LANE r 8 ∨ g.lo + g.width ≤ 18 ∨ 24 ≤ g.lo → u.getF g = s.getF g := by
  by_cases hrate : 3600 < s.getF (F.RT_PHY_STATUS_RATE r)
  · exact ⟨s.adaptDfe r 8, _, by unfold State.phaseA; rw [if_pos hrate]; rfl, fun g h => adaptDfe_getF 8 h⟩
  · exact ⟨s, _, by unfold State.phaseA; rw [if_neg hrate]; rfl, fun _ _ => rfl⟩

theorem phaseA_getF {g : Field} (k : Nat) (shift : Int) (hlane : g.off ≠ R.RT_LANE r 8 ∨ g.lo + g.width ≤ 18 ∨ 24 ≤ g.lo)
    (hdeskew : ∀ i, g.off ≠ R.RT_DESKEW r i) : (s.phaseA r k shift).getF g = s.getF g := by
  obtain ⟨u, d, heq, hkept⟩ := phaseA_eq (s := s) (r := r) k shift
  rw [heq, foldl_keeps (fun u : State => u.getF g) fun u c _ =>
    congrArg (fun w : W32 => bits w.toNat g.lo g.width) (dqxCoded_getR k shift d c (hdeskew _)), hkept g hlane]

/-- DQX's read codes follow the shift, held to their range (R118, log 86). -/
theorem phaseA_read {x : Nat} (k : Nat) (shift : Int) (hx : x < 4) : ((s.phaseA r k shift).getF (F.RT_DESKEW_READ r (9 * x + 8)) : Int) =
    clampInt 0 127 (s.getF (F.RT_DESKEW_READ r (9 * x + 8)) + shift) := by
  obtain ⟨u, d, heq, hkept⟩ := phaseA_eq (s := s) (r := r) k shift
  have hcoded : ((List.range 4).foldl (dqxCoded r k shift d) u).getF (F.RT_DESKEW_READ r (9 * x + 8)) =
      (clampInt 0 127 (u.getF (F.RT_DESKEW_READ r (9 * x + 8)) + shift)).toNat :=
    foldl_at (fun u : State => u.getF (F.RT_DESKEW_READ r (9 * x + 8))) (fun v : Nat => (clampInt 0 127 (v + shift)).toNat) (fun _ => True)
      List.nodup_range (List.mem_range.2 hx) trivial (fun _ _ _ _ => trivial) (fun u _ => dqxCoded_read k shift d x)
      fun u c hc hne => congrArg (fun w : W32 => bits w.toNat 0 7) (dqxCoded_getR k shift d c
        (RT_DESKEW_ne r hx (List.mem_range.1 hc) (by decide) (by decide) (Or.inl hne.symm)))
  rw [heq, hcoded, hkept _ (Or.inl (RT_LANE_ne_RT_DESKEW r 8 _).symm)]
  exact (clampInt_code _).2

/-- What the end of a lane's good sweep leaves of the registers. -/
theorem laneMoves_getF {g : Field} (k : Nat) (shift : Int) (h : g.off ≠ R.RT_LANE r k ∨ 8 ≤ g.lo ∧ g.lo + g.width ≤ 18) :
    (s.laneMoves r k shift).getF g = s.getF g := by
  have hset : ((s.setF (F.RT_LANE_OFFSET r k) (unsigned 8 (clampInt (-128) 127 (signed 8 (s.getF (F.RT_LANE_OFFSET r k)) + shift)))).setF
      (F.RT_LANE_FAILS r k) 0).getF g = s.getF g :=
    (getF_setF_ne _ _ (h.imp_right fun h => Or.inl (h.2.trans (by decide : 18 ≤ 24))) (Nat.le_of_ble_eq_true rfl)).trans
      (getF_setF_ne _ _ (h.imp_right fun h => Or.inr h.1) (Nat.le_of_ble_eq_true rfl))
  unfold State.laneMoves
  dsimp only
  split
  · exact (adaptDfe_getF k (h.imp_right fun h => Or.inl h.2)).trans hset
  · exact hset

theorem laneMoves_shows (k : Nat) (shift : Int) : (s.laneMoves r k shift).getF (F.RT_LANE_FAILS r k) = 0 ∧
    (s.laneMoves r k shift).getF (F.RT_LANE_OFFSET r k) =
      unsigned 8 (clampInt (-128) 127 (signed 8 (s.getF (F.RT_LANE_OFFSET r k)) + shift)) := by
  have hfails : ∀ u : State, (u.setF (F.RT_LANE_FAILS r k) 0).getF (F.RT_LANE_FAILS r k) = 0 := fun u =>
    getF_setF_same u _ 0 (Nat.le_of_ble_eq_true rfl)
  have hoffset : ((s.setF (F.RT_LANE_OFFSET r k) (unsigned 8 (clampInt (-128) 127 (signed 8 (s.getF (F.RT_LANE_OFFSET r k)) + shift)))).setF
      (F.RT_LANE_FAILS r k) 0).getF (F.RT_LANE_OFFSET r k) =
      unsigned 8 (clampInt (-128) 127 (signed 8 (s.getF (F.RT_LANE_OFFSET r k)) + shift)) :=
    (getF_setF_ne _ _ (Or.inr (Or.inl (Nat.le_of_ble_eq_true rfl))) (Nat.le_of_ble_eq_true rfl)).trans
      ((getF_setF_same _ _ _ (Nat.le_of_ble_eq_true rfl)).trans (Nat.mod_eq_of_lt (unsigned_lt 8 _)))
  unfold State.laneMoves
  dsimp only
  split
  · exact ⟨(adaptDfe_getF k (Or.inr (Or.inr (Nat.le_of_ble_eq_true rfl)))).trans (hfails _),
      (adaptDfe_getF k (Or.inr (Or.inl (Nat.le_of_ble_eq_true rfl)))).trans hoffset⟩
  · exact ⟨hfails _, hoffset⟩

/-! ### A sweep that fails (R122) -/

theorem sweepFailed_getF {g : Field} (l : Nat) (hg : still g.off) (hevent : g.off ≠ R.RT_PHY_EVENT r)
    (hfails : g.off ≠ R.RT_LANE r l ∨ g.lo + g.width ≤ 24) : (s.sweepFailed r l).getF g = s.getF g := by
  unfold State.sweepFailed State.satF
  rw [raise_getF_ne _ hg hevent, getF_setF_ne _ _ (hfails.imp_right Or.inl) (Nat.le_of_ble_eq_true rfl)]

/-- A lane that had failed before has failed twice in a row. -/
theorem sweepFailed_twice {l : Nat} (h : 1 ≤ s.getF (F.RT_LANE_FAILS r l)) : 2 ≤ (s.sweepFailed r l).getF (F.RT_LANE_FAILS r l) := by
  unfold State.sweepFailed State.satF
  rw [raise_getF_ne _ (still_RT_LANE r l) (RT_LANE_ne_RT_PHY_EVENT r l), getF_setF_same _ _ _ (Nat.le_of_ble_eq_true rfl)]
  show 2 ≤ min (2 ^ 8 - 1) (s.getF (F.RT_LANE_FAILS r l) + 1) % 2 ^ 8
  omega

theorem sweepFailed_event (l : Nat) : (s.sweepFailed r l).getF (F.RT_PHY_EVENT_RECAL_FAIL r) = 1 :=
  raise_getF _ (still_RT_PHY_EVENT r) rfl (Nat.le_of_ble_eq_true rfl)

/-- LANE_RETIRED leaves RECAL_FAIL as it is. -/
theorem raise_laneRetired_shows (r : Nat) : (s.raise (F.RT_PHY_EVENT_LANE_RETIRED r)).getF (F.RT_PHY_EVENT_LANE_RETIRED r) = 1 ∧
    (s.raise (F.RT_PHY_EVENT_LANE_RETIRED r)).getF (F.RT_PHY_EVENT_RECAL_FAIL r) = s.getF (F.RT_PHY_EVENT_RECAL_FAIL r) :=
  ⟨raise_getF _ (still_RT_PHY_EVENT r) rfl (Nat.le_of_ble_eq_true rfl),
    raise_getF_beside _ (still_RT_PHY_EVENT r) rfl (Or.inr (Nat.le_of_ble_eq_true rfl)) (Nat.le_of_ble_eq_true rfl)⟩

theorem dqxFailed_shows (r : Nat) : (s.dqxFailed r).getF (F.RT_LANE_STATE r 8) = 2 ∧ (s.dqxFailed r).getF (F.RT_PHY_EVENT_LANE_RETIRED r) = 1 ∧
    (s.dqxFailed r).getF (F.RT_PHY_EVENT_RECAL_FAIL r) = s.getF (F.RT_PHY_EVENT_RECAL_FAIL r) := by
  unfold State.dqxFailed
  refine ⟨?_, (raise_laneRetired_shows r).1, (raise_laneRetired_shows r).2.trans ?_⟩
  · rw [raise_getF_ne _ (still_RT_LANE r 8) (RT_LANE_ne_RT_PHY_EVENT r 8), getF_setF_same _ _ _ (Nat.le_of_ble_eq_true rfl)]
    rfl
  · exact getF_setF_ne s _ (Or.inl (RT_LANE_ne_RT_PHY_EVENT r 8).symm) (Nat.le_of_ble_eq_true rfl)

theorem retireLane_shows {k : Nat} (hk : k < 8) : (s.retireLane r k).getF (F.RT_LANE_STATE r k) = 2 ∧
    (s.retireLane r k).getF (F.RT_LANE_STATE r 8) = 0 ∧ (s.retireLane r k).getF (F.RT_PHY_STATUS_RETIRED r) = 1 ∧
    (s.retireLane r k).getF (F.RT_PHY_EVENT_LANE_RETIRED r) = 1 ∧
    (s.retireLane r k).getF (F.RT_PHY_EVENT_RECAL_FAIL r) = s.getF (F.RT_PHY_EVENT_RECAL_FAIL r) := by
  have hlane : ∀ (u : State) {g : Field} (l v : Nat), g.off ≠ R.RT_LANE r l → (u.setF (F.RT_LANE_STATE r l) v).getF g = u.getF g :=
    fun u _ l v h => getF_setR_ne u _ h
  have hphy : ∀ (u : State) {g : Field}, g.off ≠ R.RT_PHY_STATUS r →
      ((u.setF (F.RT_PHY_STATUS_RELIEF_CARRYING r) 1).setF (F.RT_PHY_STATUS_RETIRED r) 1).getF g = u.getF g :=
    fun u _ h => (getF_setR_ne _ _ h).trans (getF_setR_ne _ _ h)
  unfold State.retireLane
  refine ⟨?_, ?_, ?_, (raise_laneRetired_shows r).1, (raise_laneRetired_shows r).2.trans ?_⟩
  · rw [raise_getF_ne _ (still_RT_LANE r k) (RT_LANE_ne_RT_PHY_EVENT r k), hlane _ _ _ (RT_LANE_ne (by omega) (by decide) (by omega)),
      getF_setF_same _ _ _ (Nat.le_of_ble_eq_true rfl)]
    rfl
  · rw [raise_getF_ne _ (still_RT_LANE r 8) (RT_LANE_ne_RT_PHY_EVENT r 8), getF_setF_same _ _ _ (Nat.le_of_ble_eq_true rfl)]
    rfl
  · rw [raise_getF_ne _ (still_RT_PHY_STATUS r) (RT_PHY_STATUS_ne_RT_PHY_EVENT r),
      hlane _ _ _ (RT_LANE_ne_RT_PHY_STATUS r 8).symm, hlane _ _ _ (RT_LANE_ne_RT_PHY_STATUS r k).symm,
      getF_setF_same _ _ _ (Nat.le_of_ble_eq_true rfl)]
    rfl
  · have hne : R.RT_PHY_EVENT r ≠ R.RT_PHY_STATUS r := (RT_PHY_STATUS_ne_RT_PHY_EVENT r).symm
    rw [hlane _ _ _ (RT_LANE_ne_RT_PHY_EVENT r 8).symm, hlane _ _ _ (RT_LANE_ne_RT_PHY_EVENT r k).symm, hphy _ hne,
      reliefSelect_getF _ (Or.inl hne)]

/-! ### RECAL_FAIL stays as the route goes down (R122, R125) -/

theorem getF_raiseAll_recalFail (r train : Nat) : (s.raiseAll (downEvents r train)).getF (F.RT_PHY_EVENT_RECAL_FAIL r) =
    s.getF (F.RT_PHY_EVENT_RECAL_FAIL r) := by
  rw [raiseAll_getF _ (still_RT_PHY_EVENT r)]
  refine foldl_keeps (fun u : State => u.getF (F.RT_PHY_EVENT_RECAL_FAIL r)) fun u f hf => ?_
  have hf : f = F.RT_PHY_EVENT_TRAIN_FAIL r ∨ f = F.RT_PHY_EVENT_ROUTE_DOWN r := by
    unfold downEvents at hf
    split at hf
    · exact Or.inr (List.mem_singleton.1 hf)
    · exact List.mem_pair.1 hf
  rcases hf with rfl | rfl
  · exact getF_setF_ne u 1 (Or.inr (Or.inl (Nat.le_of_ble_eq_true rfl))) (Nat.le_of_ble_eq_true rfl)
  · exact getF_setF_ne u 1 (Or.inr (Or.inl (Nat.le_of_ble_eq_true rfl))) (Nat.le_of_ble_eq_true rfl)

/-- What the interface shows of a route that goes down is in `ENS_RT_PHY_CTRL` and `ENS_RT_PHY_STATUS`. -/
theorem downShown_getF {g : Field} (cause : Nat) (hctrl : g.off ≠ R.RT_PHY_CTRL r) (hstatus : g.off ≠ R.RT_PHY_STATUS r) :
    (s.downShown r cause).getF g = s.getF g := by
  unfold downShown
  exact (getF_setF_far _ hstatus).trans ((getF_setF_far _ hctrl).trans ((getF_setF_far _ hstatus).trans ((getF_setF_far _ hstatus).trans
    ((getF_setF_far _ hstatus).trans ((getF_setF_far _ hstatus).trans (getF_emit ..))))))

theorem routeOff_getF {g : Field} (hstate : g.off ≠ R.RT_STATUS r) (hrecal : g.off ≠ R.RT_RECAL r) (hlane : ∀ l, g.off ≠ R.RT_LANE r l) :
    (s.routeOff r).getF g = s.getF g := by
  have hdropped : (s.recalDrop r).getF g = s.getF g := by
    unfold State.recalDrop
    split
    · refine (getF_setF_far _ hrecal).trans ?_
      split
      · exact getF_setF_far _ (hlane _)
      · rfl
    · rfl
  exact (getF_setRoute ..).trans ((getF_setF_far _ hstate).trans hdropped)

/-- A route that goes down keeps what its event register shows of its recalibration. -/
theorem routeDown_recalFail (cause : Nat) (hup : s.routeSt r ≠ 0) :
    (s.routeDown r cause).getF (F.RT_PHY_EVENT_RECAL_FAIL r) = s.getF (F.RT_PHY_EVENT_RECAL_FAIL r) := by
  have hctrl : R.RT_PHY_EVENT r ≠ R.RT_PHY_CTRL r := by unfold R.RT_PHY_CTRL R.RT_PHY_EVENT; omega
  have hstate : R.RT_PHY_EVENT r ≠ R.RT_STATUS r := by unfold R.RT_STATUS R.RT_PHY_EVENT; omega
  rw [routeDown_eq cause hup, (downSettled_frame r _).getF (by rw [regGroup_F_RT_PHY_EVENT_RECAL_FAIL]; rfl), getF_raiseAll_recalFail,
    downShown_getF cause hctrl (RT_PHY_STATUS_ne_RT_PHY_EVENT r).symm, (routeEmptied_frame r).getF (by rw [regGroup_F_RT_PHY_EVENT_RECAL_FAIL]; rfl),
    routeOff_getF hstate (RT_RECAL_ne_RT_PHY_EVENT r).symm fun l => (RT_LANE_ne_RT_PHY_EVENT r l).symm]

end State
end Sys2Proof.Machine
end

section
/-! PROOFS. The ends of a lane's sweep, on the bus or by training bursts (R116, R120, R121, R122, R124). -/

namespace Sys2Proof.Machine
namespace State

variable {s : State} {r : Nat}

/-! ### Phase A (R118, R120, R122) -/

/-- DQX carries lane `c.lane` from now on. -/
def dqxCarries (s : State) (r eye : Nat) (shift : Int) (c : Recal) : State :=
  (((s.setF (F.RT_LANE_EYE r 8) (min 255 eye)).phaseA r c.lane shift).setF (F.RT_LANE_FAILS r 8) 0).setF (F.RT_PHY_STATUS_RELIEF_CARRYING r) 1

theorem phaseAEnd_good {eye : Nat} {c : Recal} (shift : Int) (h : c.minEye ≤ eye) : s.phaseAEnd r eye shift c =
    (s.dqxCarries r eye shift c).setRoute r { (s.dqxCarries r eye shift c).route r with
      recal := some { c with phase := 2, minEye := (s.dqxCarries r eye shift c).minEye r } } := if_pos h

theorem dqxCarries_frame (eye : Nat) (shift : Int) (c : Recal) : Frame (may [.freeValues, .regs 15]) s (s.dqxCarries r eye shift c) :=
  ((phySetF_frame 1 (by simp)).mono rfl).step (((phySetF_frame 0 (by simp)).mono rfl).step
    ((State.phaseA_frame ..).after ((phySetF_frame _ (by simp)).mono rfl) rfl))

/-- What DQX's carrying leaves of the registers. -/
theorem dqxCarries_getF {g : Field} (eye : Nat) (shift : Int) (c : Recal) (hphy : g.off ≠ R.RT_PHY_STATUS r) (hlane : g.off ≠ R.RT_LANE r 8)
    (hdeskew : ∀ i, g.off ≠ R.RT_DESKEW r i) : (s.dqxCarries r eye shift c).getF g = s.getF g :=
  (getF_setF_far _ hphy).trans ((getF_setF_far _ hlane).trans ((phaseA_getF _ _ (Or.inl hlane) hdeskew).trans (getF_setF_far _ hlane)))

theorem dqxCarries_shows (eye : Nat) (shift : Int) (c : Recal) :
    (s.dqxCarries r eye shift c).getF (F.RT_LANE_EYE r 8) = min 255 eye ∧ (s.dqxCarries r eye shift c).getF (F.RT_LANE_FAILS r 8) = 0 ∧
      (s.dqxCarries r eye shift c).getF (F.RT_PHY_STATUS_RELIEF_CARRYING r) = 1 ∧
      ∀ x, x < 4 → ((s.dqxCarries r eye shift c).getF (F.RT_DESKEW_READ r (9 * x + 8)) : Int) =
        clampInt 0 127 ((s.getF (F.RT_DESKEW_READ r (9 * x + 8)) : Int) + shift) := by
  have hphy : ∀ (u : State) {g : Field}, g.off ≠ R.RT_PHY_STATUS r → (u.setF (F.RT_PHY_STATUS_RELIEF_CARRYING r) 1).getF g = u.getF g :=
    fun u _ h => getF_setR_ne u _ h
  unfold dqxCarries
  refine ⟨?_, ?_, getF_setF_same _ _ 1 (Nat.le_of_ble_eq_true rfl), fun x hx => ?_⟩
  · rw [hphy _ (RT_LANE_ne_RT_PHY_STATUS r 8), getF_setF_ne _ _ (Or.inr (Or.inl (Nat.le_of_ble_eq_true rfl))) (Nat.le_of_ble_eq_true rfl),
      phaseA_getF _ _ (Or.inr (Or.inl (Nat.le_of_ble_eq_true rfl))) (RT_LANE_ne_RT_DESKEW r 8), getF_setF_same _ _ _ (Nat.le_of_ble_eq_true rfl)]
    exact min_byte eye
  · rw [hphy _ (RT_LANE_ne_RT_PHY_STATUS r 8), getF_setF_same _ _ _ (Nat.le_of_ble_eq_true rfl)]
    rfl
  · rw [hphy _ (RT_DESKEW_ne_RT_PHY_STATUS r _), getF_setF_ne _ _ (Or.inl (RT_LANE_ne_RT_DESKEW r 8 _).symm) (Nat.le_of_ble_eq_true rfl),
      phaseA_read _ _ hx, getF_setF_ne _ _ (Or.inl (RT_LANE_ne_RT_DESKEW r 8 _).symm) (Nat.le_of_ble_eq_true rfl)]

/-- Phase A has failed on DQX. -/
def dqxSwept (s : State) (r eye : Nat) : State := (s.setF (F.RT_LANE_EYE r 8) (min 255 eye)).sweepFailed r 8

theorem dqxSwept_twice {eye : Nat} (h : 1 ≤ s.getF (F.RT_LANE_FAILS r 8)) : 2 ≤ (s.dqxSwept r eye).getF (F.RT_LANE_FAILS r 8) :=
  sweepFailed_twice (by rwa [getF_setF_ne _ _ (Or.inr (Or.inr (Nat.le_of_ble_eq_true rfl))) (Nat.le_of_ble_eq_true rfl)])

theorem phaseAEnd_retires {eye : Nat} {c : Recal} (shift : Int) (h : eye < c.minEye) (htwice : 1 ≤ s.getF (F.RT_LANE_FAILS r 8)) :
    s.phaseAEnd r eye shift c = ((s.dqxSwept r eye).dqxFailed r).setRoute r { (s.dqxSwept r eye).route r with
      recal := some { c with phase := 3, minEye := (s.dqxSwept r eye).minEye r } } :=
  (if_neg (Nat.not_le.2 h)).trans (if_pos (dqxSwept_twice htwice))

theorem dqxSwept_minEye (eye : Nat) : (s.dqxSwept r eye).minEye r = s.minEye r :=
  minEye_congr ((sweepFailed_getF 8 (still_RT_PHY_X r) (RT_PHY_X_ne_RT_PHY_EVENT r) (Or.inl (RT_LANE_ne_RT_PHY_X r 8).symm)).trans
    (getF_setF_ne s _ (Or.inl (RT_LANE_ne_RT_PHY_X r 8).symm) (Nat.le_of_ble_eq_true rfl)))

/-! ### Phase C (R120, R122) -/

/-- Phase C has failed on lane `k`. -/
def laneSwept (s : State) (r k eye : Nat) : State := (s.setF (F.RT_LANE_EYE r k) (min 255 eye)).sweepFailed r k

theorem laneSwept_frame (k eye : Nat) : Frame 0x240150012 s (s.laneSwept r k eye) :=
  (State.sweepFailed_frame ..).after ((phySetF_frame _ (by simp)).mono rfl) rfl

theorem laneSwept_reliefFree {k : Nat} (eye : Nat) (hk : k < 8) : (s.laneSwept r k eye).reliefFree r = s.reliefFree r := by
  have hne : R.RT_LANE r 8 ≠ R.RT_LANE r k := RT_LANE_ne (by decide) (by omega) (by omega)
  unfold State.reliefFree laneSwept
  rw [sweepFailed_getF k (still_RT_LANE r 8) (RT_LANE_ne_RT_PHY_EVENT r 8) (Or.inl hne), getF_setF_ne s _ (Or.inl hne) (Nat.le_of_ble_eq_true rfl)]

theorem laneSwept_twice {k eye : Nat} (h : 1 ≤ s.getF (F.RT_LANE_FAILS r k)) : 2 ≤ (s.laneSwept r k eye).getF (F.RT_LANE_FAILS r k) :=
  sweepFailed_twice (by rwa [getF_setF_ne _ _ (Or.inr (Or.inr (Nat.le_of_ble_eq_true rfl))) (Nat.le_of_ble_eq_true rfl)])

theorem phaseCEnd_fails {eye : Nat} {c : Recal} (shift : Int) (h : eye < c.minEye) (htwice : 1 ≤ s.getF (F.RT_LANE_FAILS r c.lane)) :
    s.phaseCEnd r eye shift c = (s.laneSwept r c.lane eye).liveFailed r c.lane :=
  (if_neg (Nat.not_le.2 h)).trans (if_pos (laneSwept_twice htwice))

/-- A lane that fails in a live pass is retired onto DQX under policy 2. -/
theorem liveFailed_retires {k : Nat} (hk : k < 8) (hup : s.routeSt r ≠ 0) (hpolicy : (s.routeCfg r).relief = 2)
    (hfree : s.reliefFree r = true) :
    (s.liveFailed r k).getF (F.RT_LANE_STATE r k) = 2 ∧ (s.liveFailed r k).getF (F.RT_LANE_STATE r 8) = 0 ∧
      (s.liveFailed r k).getF (F.RT_PHY_STATUS_RETIRED r) = 1 ∧ (s.liveFailed r k).getF (F.RT_PHY_EVENT_LANE_RETIRED r) = 1 ∧
      (s.liveFailed r k).getF (F.RT_PHY_EVENT_RECAL_FAIL r) = s.getF (F.RT_PHY_EVENT_RECAL_FAIL r) := by
  have hretire : s.laneFailed r k = s.retireLane r k := if_pos ⟨hpolicy, hfree⟩
  have hgoesOn : s.liveFailed r k = (s.retireLane r k).recalLane r (k + 1) := by
    unfold State.liveFailed
    dsimp only
    rw [hretire, if_neg (by rw [(State.retireLane_frame s r k).routeSt (by decide)]; exact hup)]
  have hlane : ∀ {g : Field} {l : Nat}, g.off = R.RT_LANE r l → l ≤ k ∨ l = 8 →
      ((s.retireLane r k).recalLane r (k + 1)).getF g = (s.retireLane r k).getF g := fun {g l} hg hl => by
    refine recalLane_getF (hg ▸ RT_LANE_ne_RT_RECAL r l) (Or.inl (hg ▸ RT_LANE_ne_RT_PHY_STATUS r l)) fun m hkm hm => Or.inl ?_
    rw [hg]
    exact RT_LANE_ne (by omega) (by omega) (by omega)
  have hevent : ∀ {g : Field}, g.off = R.RT_PHY_EVENT r →
      ((s.retireLane r k).recalLane r (k + 1)).getF g = (s.retireLane r k).getF g := fun {g} hg =>
    recalLane_getF (hg ▸ (RT_RECAL_ne_RT_PHY_EVENT r).symm)
      (Or.inl (hg ▸ (RT_PHY_STATUS_ne_RT_PHY_EVENT r).symm)) fun m _ _ => Or.inl (hg ▸ (RT_LANE_ne_RT_PHY_EVENT r m).symm)
  have hretired : ((s.retireLane r k).recalLane r (k + 1)).getF (F.RT_PHY_STATUS_RETIRED r) =
      (s.retireLane r k).getF (F.RT_PHY_STATUS_RETIRED r) :=
    recalLane_getF (RT_RECAL_ne_RT_PHY_STATUS r).symm (Or.inr (Or.inr (Nat.le_of_ble_eq_true rfl)))
      fun m _ _ => Or.inl (RT_LANE_ne_RT_PHY_STATUS r m).symm
  obtain ⟨hstate, hdqx, hshown, hlost, hfail⟩ := retireLane_shows (s := s) (r := r) hk
  rw [hgoesOn, hlane rfl (Or.inl le_rfl), hlane rfl (Or.inr rfl), hretired, hevent rfl, hevent rfl]
  exact ⟨hstate, hdqx, hshown, hlost, hfail⟩

/-- Where no relief carrier can stand in for it, the route goes DOWN. -/
theorem liveFailed_down (k : Nat) (hup : s.routeSt r ≠ 0) (hnone : (s.routeCfg r).relief ≠ 2 ∨ s.reliefFree r = false) :
    (s.liveFailed r k).routeSt r = 0 ∧ (s.liveFailed r k).getF (F.RT_PHY_STATUS_DOWN_CAUSE r) = 3 ∧
      (s.liveFailed r k).getF (F.RT_PHY_EVENT_RECAL_FAIL r) = s.getF (F.RT_PHY_EVENT_RECAL_FAIL r) := by
  obtain ⟨hdown, hcause, -⟩ := routeDown_ends (s := s) (r := r) 3 hup
  have hfails : s.laneFailed r k = s.routeDown r 3 := if_neg fun ⟨hpolicy, hfree⟩ =>
    hnone.elim (fun hnone => hnone hpolicy) fun hnone => by rw [hnone] at hfree; exact absurd hfree (by decide)
  have hends : s.liveFailed r k = s.routeDown r 3 := by
    unfold State.liveFailed
    dsimp only
    rw [hfails, if_pos hdown]
  rw [hends]
  exact ⟨hdown, hcause, routeDown_recalFail 3 hup⟩

/-- What a pass's end leaves of the registers. -/
theorem recalEnd_getF {g : Field} (h : g.off ≠ R.RT_RECAL r) : (s.recalEnd r).getF g = s.getF g :=
  (getF_setF_far _ h).trans (getF_setF_far _ h)

/-- Lane `k` carries again, and the switch is open. -/
def laneCarries (s : State) (r k : Nat) : State :=
  ((s.setF (F.RT_PHY_STATUS_RELIEF_CARRYING r) 0).reliefSelect r 0xAF).setF (F.RT_LANE_STATE r k) 0

theorem laneCarries_getF {g : Field} {k : Nat} (hphy : g.off ≠ R.RT_PHY_STATUS r)
    (hlane : g.off ≠ R.RT_LANE r k ∨ g.lo + g.width ≤ 16 ∨ 18 ≤ g.lo) : (s.laneCarries r k).getF g = s.getF g :=
  (getF_setF_ne _ _ hlane (Nat.le_of_ble_eq_true rfl)).trans ((reliefSelect_getF _ (Or.inl hphy)).trans (getF_setF_far _ hphy))

theorem laneCarries_shows (k : Nat) : (s.laneCarries r k).getF (F.RT_LANE_STATE r k) = 0 ∧
    (s.laneCarries r k).getF (F.RT_PHY_STATUS_RELIEF_CARRYING r) = 0 :=
  ⟨getF_setF_same _ _ 0 (Nat.le_of_ble_eq_true rfl), (getF_setF_far _ (RT_LANE_ne_RT_PHY_STATUS r k).symm).trans
    ((reliefSelect_getF _ (Or.inr (Or.inr (Nat.le_of_ble_eq_true rfl)))).trans (getF_setF_same s _ 0 (Nat.le_of_ble_eq_true rfl)))⟩

/-- After the last lane phase D ends the pass. -/
theorem phaseD_last : s.phaseD r 7 = (s.laneCarries r 7).recalEnd r := recalLane_ends (s := s.laneCarries r 7) (Nat.le_refl 8)

/-- Lane `k` is measured, and its offset moves. -/
def laneMeasured (s : State) (r k eye : Nat) (shift : Int) : State := (s.setF (F.RT_LANE_EYE r k) (min 255 eye)).laneMoves r k shift

theorem laneMeasured_getF {g : Field} (k eye : Nat) (shift : Int) (h : g.off ≠ R.RT_LANE r k) :
    (s.laneMeasured r k eye shift).getF g = s.getF g := (laneMoves_getF k shift (Or.inl h)).trans (getF_setF_far _ h)

theorem laneMeasured_out (k eye : Nat) (shift : Int) : (s.laneMeasured r k eye shift).out = s.out :=
  (State.laneMoves_frame ..).out (by decide)

theorem laneMeasured_shows (k eye : Nat) (shift : Int) :
    (s.laneMeasured r k eye shift).getF (F.RT_LANE_EYE r k) = min 255 eye ∧ (s.laneMeasured r k eye shift).getF (F.RT_LANE_FAILS r k) = 0 ∧
      (s.laneMeasured r k eye shift).getF (F.RT_LANE_OFFSET r k) =
        unsigned 8 (clampInt (-128) 127 (signed 8 (s.getF (F.RT_LANE_OFFSET r k)) + shift)) := by
  obtain ⟨hfails, hoffset⟩ := laneMoves_shows (s := s.setF (F.RT_LANE_EYE r k) (min 255 eye)) (r := r) k shift
  rw [getF_setF_ne _ _ (Or.inr (Or.inl (Nat.le_of_ble_eq_true rfl))) (Nat.le_of_ble_eq_true rfl)] at hoffset
  refine ⟨?_, hfails, hoffset⟩
  unfold laneMeasured
  rw [laneMoves_getF k shift (Or.inr ⟨Nat.le_of_ble_eq_true rfl, Nat.le_of_ble_eq_true rfl⟩), getF_setF_same _ _ _ (Nat.le_of_ble_eq_true rfl)]
  exact min_byte eye

theorem phaseCEnd_good {eye : Nat} {c : Recal} (shift : Int) (h : c.minEye ≤ eye) :
    s.phaseCEnd r eye shift c = (s.laneMeasured r c.lane eye shift).phaseD r c.lane := if_pos h

/-- The last lane's good sweep in phase C (R120). -/
theorem phaseCEnd_ends {eye : Nat} {c : Recal} (shift : Int) (h : c.minEye ≤ eye) (hlast : c.lane = 7) :
    ((s.phaseCEnd r eye shift c).route r).recal = none ∧ (s.phaseCEnd r eye shift c).getF (F.RT_LANE_EYE r 7) = min 255 eye ∧
      (s.phaseCEnd r eye shift c).getF (F.RT_LANE_FAILS r 7) = 0 ∧ (s.phaseCEnd r eye shift c).getF (F.RT_LANE_STATE r 7) = 0 ∧
      (s.phaseCEnd r eye shift c).getF (F.RT_LANE_OFFSET r 7) =
        unsigned 8 (clampInt (-128) 127 (signed 8 (s.getF (F.RT_LANE_OFFSET r 7)) + shift)) ∧
      (s.phaseCEnd r eye shift c).getF (F.RT_PHY_STATUS_RELIEF_CARRYING r) = 0 ∧ (s.phaseCEnd r eye shift c).getF (F.RT_RECAL_LANE r) = 15 ∧
      (s.phaseCEnd r eye shift c).getF (F.RT_RECAL_COUNT r) = (s.getF (F.RT_RECAL_COUNT r) + 1) % 65536 ∧
      (s.phaseCEnd r eye shift c).out = s.out ++ [.relief r 0xAF] := by
  obtain ⟨heye, hfails, hoffset⟩ := laneMeasured_shows (s := s) (r := r) 7 eye shift
  have hcount := laneMeasured_getF (s := s) (r := r) (g := F.RT_RECAL_COUNT r) 7 eye shift (RT_LANE_ne_RT_RECAL r 7).symm
  have hout := laneMeasured_out (s := s) (r := r) 7 eye shift
  rw [phaseCEnd_good shift h, hlast, phaseD_last]
  generalize s.laneMeasured r 7 eye shift = u at heye hfails hoffset hcount hout ⊢
  have hlane : ∀ {g : Field}, g.off = R.RT_LANE r 7 → g.lo + g.width ≤ 16 ∨ 18 ≤ g.lo →
      ((u.laneCarries r 7).recalEnd r).getF g = u.getF g := fun hg hbits =>
    (recalEnd_getF (hg ▸ RT_LANE_ne_RT_RECAL r 7)).trans (laneCarries_getF (hg ▸ RT_LANE_ne_RT_PHY_STATUS r 7) (Or.inr hbits))
  obtain ⟨hstate, hcarrying⟩ := laneCarries_shows (s := u) (r := r) 7
  obtain ⟨hnone, hsaid, hidle, hcounted⟩ := recalEnd_shows (s := u.laneCarries r 7) r
  refine ⟨hnone, (hlane rfl (Or.inl (Nat.le_of_ble_eq_true rfl))).trans heye, (hlane rfl (Or.inr (Nat.le_of_ble_eq_true rfl))).trans hfails,
    (recalEnd_getF (RT_LANE_ne_RT_RECAL r 7)).trans hstate, (hlane rfl (Or.inl (Nat.le_of_ble_eq_true rfl))).trans hoffset,
    (recalEnd_getF (RT_RECAL_ne_RT_PHY_STATUS r).symm).trans hcarrying, hidle, ?_, ?_⟩
  · rw [hcounted, laneCarries_getF (RT_RECAL_ne_RT_PHY_STATUS r) (Or.inl (RT_LANE_ne_RT_RECAL r 7).symm), hcount]
  · rw [hsaid, ← hout]
    rfl

/-! ### RECAL_PHASE_DONE (R120) -/

/-- Pass `c` runs on route `r`, and its bus is free. -/
structure Sweeps (s : State) (r : Nat) (c : Recal) : Prop where
  route : r < 32
  lane : c.lane < 8
  pass : (s.route r).recal = some c
  runs : s.recalRuns r = true
  gap : s.busGap r = true

namespace Sweeps

variable {c : Recal} (h : s.Sweeps r c)
include h

theorem up : s.routeSt r = 2 := by
  have hruns := h.runs
  unfold State.recalRuns at hruns
  simp only [Bool.and_eq_true, decide_eq_true_eq] at hruns
  exact hruns.1.1

theorem phaseA (eye : Nat) (shift : Int) (n : Nat) (hphase : c.phase = 1) :
    exec (.recalPhaseDone r eye shift n) s = .next ((s.trainErr r n).phaseAEnd r eye shift c) := by
  show execRecalPhaseDone r eye shift n s = _
  unfold execRecalPhaseDone
  simp only [h.pass]
  rw [if_neg (by simp [h.runs, h.gap, h.route]), if_pos hphase]

theorem phaseC (eye : Nat) (shift : Int) (n : Nat) (hphase : c.phase = 2) :
    exec (.recalPhaseDone r eye shift n) s = .next ((s.trainErr r n).phaseCEnd r eye shift c) := by
  show execRecalPhaseDone r eye shift n s = _
  unfold execRecalPhaseDone
  simp only [h.pass]
  rw [if_neg (by simp [h.runs, h.gap, h.route]), if_neg (by omega), if_pos hphase]

/-- DQX has measured its lane, and carries it. -/
theorem carries {eye : Nat} (shift : Int) (n : Nat) (hphase : c.phase = 1) (hwide : c.minEye ≤ eye) :
    ∃ t, exec (.recalPhaseDone r eye shift n) s = .next t ∧
      (t.route r).recal = some { c with phase := 2, minEye := s.minEye r } ∧ t.getF (F.RT_LANE_EYE r 8) = min 255 eye ∧
      t.getF (F.RT_LANE_FAILS r 8) = 0 ∧ t.getF (F.RT_PHY_STATUS_RELIEF_CARRYING r) = 1 ∧
      (∀ x, x < 4 → (t.getF (F.RT_DESKEW_READ r (9 * x + 8)) : Int) =
        clampInt 0 127 ((s.getF (F.RT_DESKEW_READ r (9 * x + 8)) : Int) + shift)) ∧ Frame (may [.flash, .freeValues, .regs 15]) s t := by
  obtain ⟨heye, hfails, hcarrying, hcodes⟩ := dqxCarries_shows (s := s.trainErr r n) (r := r) eye shift c
  have hmin : ((s.trainErr r n).dqxCarries r eye shift c).minEye r = s.minEye r :=
    (minEye_congr (dqxCarries_getF eye shift c (RT_PHY_X_ne_RT_PHY_STATUS r) (RT_LANE_ne_RT_PHY_X r 8).symm
      fun i => (RT_DESKEW_ne_RT_PHY_X r i).symm)).trans (trainErr_minEye n)
  have hframe : Frame (may [.freeValues, .regs 15]) s ((s.trainErr r n).dqxCarries r eye shift c) :=
    (dqxCarries_frame eye shift c).step ((State.trainErr_frame ..).mono rfl)
  have hexec := h.phaseA eye shift n hphase
  rw [phaseAEnd_good shift hwide] at hexec
  generalize (s.trainErr r n).dqxCarries r eye shift c = u at hexec hmin hframe heye hfails hcarrying hcodes
  refine ⟨_, hexec, ?_, (getF_setRoute ..).trans heye, (getF_setRoute ..).trans hfails, (getF_setRoute ..).trans hcarrying, fun x hx => ?_,
    (State.setRoute_frame ..).after (hframe.mono rfl) rfl⟩
  · rw [route_setRoute_same, hmin]
  · rw [getF_setRoute, hcodes x hx, trainErr_getF n (RT_DESKEW_ne_RT_TRAIN_ERR r _)]

/-- DQX has failed twice in a row: it is retired, and the lane goes on by bursts. -/
theorem losesRelief {eye : Nat} (shift : Int) (n : Nat) (hphase : c.phase = 1) (hnarrow : eye < c.minEye)
    (htwice : 1 ≤ s.getF (F.RT_LANE_FAILS r 8)) :
    ∃ t, exec (.recalPhaseDone r eye shift n) s = .next t ∧
      (t.route r).recal = some { c with phase := 3, minEye := s.minEye r } ∧ t.getF (F.RT_LANE_STATE r 8) = 2 ∧
      t.getF (F.RT_PHY_EVENT_LANE_RETIRED r) = 1 ∧ t.getF (F.RT_PHY_EVENT_RECAL_FAIL r) = 1 := by
  obtain ⟨hstate, hretired, hfail⟩ := dqxFailed_shows (s := (s.trainErr r n).dqxSwept r eye) r
  have hfails : 1 ≤ (s.trainErr r n).getF (F.RT_LANE_FAILS r 8) := by rwa [trainErr_getF n (RT_LANE_ne_RT_TRAIN_ERR r 8)]
  refine ⟨_, (h.phaseA eye shift n hphase).trans (congrArg _ (phaseAEnd_retires shift hnarrow hfails)), ?_, hstate, hretired,
    hfail.trans (sweepFailed_event 8)⟩
  rw [route_setRoute_same, dqxSwept_minEye, trainErr_minEye]

/-- The last lane's good sweep ends the pass. -/
theorem endsPass {eye : Nat} (shift : Int) (n : Nat) (hphase : c.phase = 2) (hwide : c.minEye ≤ eye) (hlast : c.lane = 7) :
    ∃ t, exec (.recalPhaseDone r eye shift n) s = .next t ∧ (t.route r).recal = none ∧
      t.getF (F.RT_LANE_EYE r 7) = min 255 eye ∧ t.getF (F.RT_LANE_FAILS r 7) = 0 ∧ t.getF (F.RT_LANE_STATE r 7) = 0 ∧
      t.getF (F.RT_LANE_OFFSET r 7) = unsigned 8 (clampInt (-128) 127 (signed 8 (s.getF (F.RT_LANE_OFFSET r 7)) + shift)) ∧
      t.getF (F.RT_PHY_STATUS_RELIEF_CARRYING r) = 0 ∧ t.getF (F.RT_RECAL_LANE r) = 15 ∧
      t.getF (F.RT_RECAL_COUNT r) = (s.getF (F.RT_RECAL_COUNT r) + 1) % 65536 ∧ t.out = s.out ++ [.relief r 0xAF] := by
  have hends := phaseCEnd_ends (s := s.trainErr r n) (r := r) shift hwide hlast
  rw [trainErr_getF n (RT_LANE_ne_RT_TRAIN_ERR r 7), trainErr_getF n (RT_RECAL_ne_RT_TRAIN_ERR r), trainErr_out] at hends
  exact ⟨_, h.phaseC eye shift n hphase, hends⟩

/-- A lane that fails twice in a row, where the relief carrier may stand in for it. -/
theorem losesLane {eye : Nat} (shift : Int) (n : Nat) (hphase : c.phase = 2) (hnarrow : eye < c.minEye)
    (htwice : 1 ≤ s.getF (F.RT_LANE_FAILS r c.lane)) (hpolicy : (s.routeCfg r).relief = 2) (hfree : s.reliefFree r = true) :
    ∃ t, exec (.recalPhaseDone r eye shift n) s = .next t ∧ t.getF (F.RT_LANE_STATE r c.lane) = 2 ∧ t.getF (F.RT_LANE_STATE r 8) = 0 ∧
      t.getF (F.RT_PHY_STATUS_RETIRED r) = 1 ∧ t.getF (F.RT_PHY_EVENT_LANE_RETIRED r) = 1 ∧ t.getF (F.RT_PHY_EVENT_RECAL_FAIL r) = 1 := by
  have hswept : Frame 0x240150012 s ((s.trainErr r n).laneSwept r c.lane eye) :=
    (laneSwept_frame c.lane eye).step ((State.trainErr_frame ..).mono rfl)
  have hfails : 1 ≤ (s.trainErr r n).getF (F.RT_LANE_FAILS r c.lane) := by rwa [trainErr_getF n (RT_LANE_ne_RT_TRAIN_ERR r c.lane)]
  have hfreeKept : ((s.trainErr r n).laneSwept r c.lane eye).reliefFree r = true := by
    rw [laneSwept_reliefFree eye h.lane, ← hfree]
    unfold State.reliefFree
    rw [trainErr_getF n (RT_LANE_ne_RT_TRAIN_ERR r 8)]
  obtain ⟨hstate, hdqx, hshown, hretired, hfail⟩ := liveFailed_retires (s := (s.trainErr r n).laneSwept r c.lane eye) h.lane
    (by rw [hswept.routeSt (by decide), h.up]; decide) (by rw [routeCfg_of_frame hswept (by decide), hpolicy]) hfreeKept
  exact ⟨_, (h.phaseC eye shift n hphase).trans (congrArg _ (phaseCEnd_fails shift hnarrow hfails)), hstate, hdqx, hshown, hretired,
    hfail.trans (sweepFailed_event c.lane)⟩

/-- A lane that fails twice in a row, where nothing can stand in for it. -/
theorem losesRoute {eye : Nat} (shift : Int) (n : Nat) (hphase : c.phase = 2) (hnarrow : eye < c.minEye)
    (htwice : 1 ≤ s.getF (F.RT_LANE_FAILS r c.lane)) (hnone : (s.routeCfg r).relief ≠ 2 ∨ s.reliefFree r = false) :
    ∃ t, exec (.recalPhaseDone r eye shift n) s = .next t ∧ t.routeSt r = 0 ∧ t.getF (F.RT_PHY_STATUS_DOWN_CAUSE r) = 3 ∧
      t.getF (F.RT_PHY_EVENT_RECAL_FAIL r) = 1 := by
  have hswept : Frame 0x240150012 s ((s.trainErr r n).laneSwept r c.lane eye) :=
    (laneSwept_frame c.lane eye).step ((State.trainErr_frame ..).mono rfl)
  have hfails : 1 ≤ (s.trainErr r n).getF (F.RT_LANE_FAILS r c.lane) := by rwa [trainErr_getF n (RT_LANE_ne_RT_TRAIN_ERR r c.lane)]
  have hnoneKept : (((s.trainErr r n).laneSwept r c.lane eye).routeCfg r).relief ≠ 2 ∨
      ((s.trainErr r n).laneSwept r c.lane eye).reliefFree r = false := by
    rw [routeCfg_of_frame hswept (by decide), laneSwept_reliefFree eye h.lane]
    unfold State.reliefFree
    rw [trainErr_getF n (RT_LANE_ne_RT_TRAIN_ERR r 8)]
    exact hnone
  obtain ⟨hdown, hcause, hfail⟩ := liveFailed_down (s := (s.trainErr r n).laneSwept r c.lane eye) c.lane
    (by rw [hswept.routeSt (by decide), h.up]; decide) hnoneKept
  exact ⟨_, (h.phaseC eye shift n hphase).trans (congrArg _ (phaseCEnd_fails shift hnarrow hfails)), hdown, hcause,
    hfail.trans (sweepFailed_event c.lane)⟩

end Sweeps

end State
end Sys2Proof.Machine
end

section
/-! PROOFS. Training bursts feed the monitor, whose windows end (R121, R122, R124). -/

namespace Sys2Proof.Machine
namespace State

variable {s : State} {r : Nat}

/-! ### Bursts (R121) -/

theorem burstOut_eq {k : Nat} (h : s.burstDie r = some k) : s.burstOut r = s.emit (.train r (k % 16 / 4) 7) := by
  unfold State.burstOut
  rw [h]

theorem execForceGapExpiry_bursts {c : Recal} {k : Nat} (hpass : (s.route r).recal = some c) (hphase : c.phase = 1 ∨ c.phase = 2)
    (hruns : s.recalRuns r = true) (hgap : s.busGap r = true) (hfree : s.burstFree r = true) (hdie : s.burstDie r = some k) :
    execForceGapExpiry r s = .next ((s.emit (.train r (k % 16 / 4) 7)).setRoute r { s.route r with burst := true }) := by
  unfold execForceGapExpiry
  simp only [hpass]
  rw [if_pos ⟨hphase, hruns, hgap, hfree⟩, burstOut_eq hdie]

/-- A burst by which lane `c.lane` of pass `c` is swept without the relief carrier. -/
structure Bursts (s : State) (r : Nat) (c : Recal) : Prop where
  route : r < 32
  pass : (s.route r).recal = some c
  own : (s.route r).burst = false
  phase : c.phase = 3
  runs : s.recalRuns r = true
  free : s.burstFree r = true

/-- The burst has gone out, and its errors are counted. -/
def burstCounted (s : State) (r n : Nat) : State := (s.burstOut r).trainErr r n

theorem burstCounted_frame (n : Nat) : Frame (may [.outputs, .regs 15]) s (s.burstCounted r n) :=
  (State.trainErr_frame ..).after ((State.burstOut_frame ..).mono rfl) rfl

theorem burstCounted_counts (n : Nat) (hup : s.routeUp r = true) (hretrain : (s.route r).retrain = false)
    (hdrain : (s.route r).drainRetrain = false) :
    (s.burstCounted r n).getF (F.RT_TRAIN_ERR_COUNT r) = min 65535 (s.getF (F.RT_TRAIN_ERR_COUNT r) + n) := by
  have hout := State.burstOut_frame s r
  have hroute := route_of_frame hout (by decide) r
  have hup' : (s.burstOut r).routeUp r = true := by
    unfold State.routeUp
    rw [hout.routeSt (by decide)]
    exact hup
  unfold burstCounted
  rw [trainErr_counts n hup' (by rw [hroute]; exact hretrain) (by rw [hroute]; exact hdrain),
    hout.getF (by rw [regGroup_F_RT_TRAIN_ERR_COUNT]; rfl)]

theorem Bursts.exec_eq {c : Recal} (h : s.Bursts r c) (n : Nat) (done : Bool) (eye : Nat) (shift : Int) :
    exec (.trainingBurst r n done eye shift) s =
      .next (if done then (s.burstCounted r n).sweepEnd r eye shift c else s.burstCounted r n) := by
  show execTrainingBurst r n done eye shift s = _
  unfold execTrainingBurst
  rw [if_neg (by simp [h.own])]
  simp only [h.pass]
  rw [if_neg (by simp [h.phase, h.runs, h.free, h.route])]
  rfl

/-- The last lane's good sweep by bursts ends the pass. -/
theorem sweepEnd_ends {eye : Nat} {c : Recal} (shift : Int) (h : c.minEye ≤ eye) (hlast : c.lane = 7) :
    ((s.sweepEnd r eye shift c).route r).recal = none ∧
      (s.sweepEnd r eye shift c).getF (F.RT_TRAIN_ERR_COUNT r) = s.getF (F.RT_TRAIN_ERR_COUNT r) ∧
      (s.sweepEnd r eye shift c).getF (F.RT_LANE_STATE r 7) = 0 ∧ (s.sweepEnd r eye shift c).getF (F.RT_LANE_EYE r 7) = min 255 eye := by
  have hends : s.sweepEnd r eye shift c =
      ((((s.setF (F.RT_LANE_EYE r 7) (min 255 eye)).setF (F.RT_LANE_STATE r 7) 0).laneMoves r 7 shift)).recalEnd r := by
    unfold State.sweepEnd
    rw [hlast]
    exact (if_pos h).trans (recalLane_ends (Nat.le_refl 8))
  rw [hends]
  refine ⟨(recalEnd_shows r).1, ?_, ?_, ?_⟩
  · rw [recalEnd_getF (RT_RECAL_ne_RT_TRAIN_ERR r).symm, laneMoves_getF _ _ (Or.inl (RT_LANE_ne_RT_TRAIN_ERR r 7).symm),
      getF_setF_far _ (RT_LANE_ne_RT_TRAIN_ERR r 7).symm, getF_setF_far _ (RT_LANE_ne_RT_TRAIN_ERR r 7).symm]
  · rw [recalEnd_getF (RT_LANE_ne_RT_RECAL r 7), laneMoves_getF _ _ (Or.inr ⟨Nat.le_of_ble_eq_true rfl, Nat.le_of_ble_eq_true rfl⟩),
      getF_setF_same _ _ _ (Nat.le_of_ble_eq_true rfl)]
    rfl
  · rw [recalEnd_getF (RT_LANE_ne_RT_RECAL r 7), laneMoves_getF _ _ (Or.inr ⟨Nat.le_of_ble_eq_true rfl, Nat.le_of_ble_eq_true rfl⟩),
      getF_setF_ne _ _ (Or.inr (Or.inl (Nat.le_of_ble_eq_true rfl))) (Nat.le_of_ble_eq_true rfl),
      getF_setF_same _ _ _ (Nat.le_of_ble_eq_true rfl)]
    exact min_byte eye

/-! ### The write guard follows the monitor (R94) -/

theorem overLimit_of_frame {m : Nat} {t : State} (h : Frame m s t) (h3 : m.testBit 3 = false) (h33 : m.testBit 33 = false) :
    t.overLimit r = s.overLimit r := by
  unfold State.overLimit
  rw [routeCfg_of_frame h h3, h.getF (by rw [regGroup_F_RT_TRAIN_ERR_LAST]; exact h33)]

theorem overLimit_guardRoute (q : Nat) : (s.guardRoute q).overLimit r = s.overLimit r := by
  have hlast : (s.guardRoute q).getF (F.RT_TRAIN_ERR_LAST r) = s.getF (F.RT_TRAIN_ERR_LAST r) :=
    guardRoute_getF q ⟨by show R.RT_TRAIN_ERR r ≠ _; unfold R.RT_TRAIN_ERR R.PWR_WG_STATUS; omega,
      Or.inl fun i => by show R.RT_TRAIN_ERR r ≠ _; unfold R.RT_TRAIN_ERR R.RT_STATUS; omega⟩
  unfold State.overLimit State.routeCfg
  rw [guardRoute_img, hlast]

/-- A route whose last window is above the limit is guarded. -/
theorem guardUpdate_holds_overLimit (hr : r < 32) (h : s.overLimit r = true) : s.guardUpdate.guardHolds r = true := by
  refine foldl_sets (f := State.guardRoute) (fun u : State => u.guardHolds r) (fun u => u.overLimit r = true) (List.mem_range.2 hr) h
    (fun u q hu => (overLimit_guardRoute q).trans hu) (fun u hu => ?_)
    fun u q hq hne => guardHolds_guardRoute_ne hne.symm (List.mem_range.1 hq)
  have hcause : (u.guardCauses r).2.2.2 = true := hu
  show (u.guardRoute r).guardHolds r = true
  rw [guardHolds_eq, guardRoute_shown, getF_setF_same _ _ _ (by show r + 1 ≤ 32; omega), hcause]
  simp [b2n]

/-! ### The end of a window (R124) -/

/-- The window's count is shown, and the next one begins. -/
def windowShown (s : State) (r : Nat) : State :=
  (s.setF (F.RT_TRAIN_ERR_LAST r) (s.getF (F.RT_TRAIN_ERR_COUNT r))).setF (F.RT_TRAIN_ERR_COUNT r) 0

/-- A window that is the first above the limit raises its event. -/
def windowJudged (s : State) (r : Nat) : State :=
  if (s.windowShown r).overLimit r = true ∧ s.overLimit r = false then (s.windowShown r).raise F.PWR_WG_EVENT_TRAIN_ERR else s.windowShown r

/-- The write guard follows the window. -/
def windowTold (s : State) (r : Nat) : State := (s.windowJudged r).guardUpdate

theorem windowShown_shows (r : Nat) : (s.windowShown r).getF (F.RT_TRAIN_ERR_LAST r) = s.getF (F.RT_TRAIN_ERR_COUNT r) ∧
    (s.windowShown r).getF (F.RT_TRAIN_ERR_COUNT r) = 0 := by
  refine ⟨?_, getF_setF_same _ _ 0 (Nat.le_of_ble_eq_true rfl)⟩
  unfold windowShown
  rw [getF_setF_ne _ _ (Or.inr (Or.inr (Nat.le_of_ble_eq_true rfl))) (Nat.le_of_ble_eq_true rfl),
    getF_setF_same _ _ _ (Nat.le_of_ble_eq_true rfl)]
  exact Nat.mod_eq_of_lt (s.getF_lt (F.RT_TRAIN_ERR_COUNT r))

theorem windowShown_getF {g : Field} (h : g.off ≠ R.RT_TRAIN_ERR r) : (s.windowShown r).getF g = s.getF g :=
  (getF_setF_far _ h).trans (getF_setF_far _ h)

theorem windowShown_overLimit (r : Nat) :
    (s.windowShown r).overLimit r = decide ((s.routeCfg r).errLimit < s.getF (F.RT_TRAIN_ERR_COUNT r)) := by
  unfold State.overLimit
  rw [(windowShown_shows r).1]
  rfl

theorem windowJudged_frame (r : Nat) : Frame 0x40150012 (s.windowShown r) (s.windowJudged r) :=
  .ite (raise_powerEvent_frame _ rfl) (.refl _)

/-- Telling of a window touches the guard, the notices and the power events alone. -/
theorem windowTold_frame (r : Nat) : Frame 0x140150112 (s.windowShown r) (s.windowTold r) :=
  (State.guardUpdate_frame _).after ((windowJudged_frame r).mono rfl) rfl

theorem windowTold_getF {g : Field} (h : regGroup g.off = 15) : (s.windowTold r).getF g = (s.windowShown r).getF g :=
  (windowTold_frame r).getF (by rw [h]; rfl)

theorem windowTold_routeSt (r q : Nat) : (s.windowTold r).routeSt q = s.routeSt q := by
  rw [(windowTold_frame r).routeStates (by decide)]
  exact windowShown_getF (by show R.RT_STATUS q ≠ R.RT_TRAIN_ERR r; unfold R.RT_STATUS R.RT_TRAIN_ERR; omega)

theorem windowTold_overLimit (r : Nat) :
    (s.windowTold r).overLimit r = decide ((s.routeCfg r).errLimit < s.getF (F.RT_TRAIN_ERR_COUNT r)) := by
  rw [← windowShown_overLimit]
  exact overLimit_of_frame (windowTold_frame r) rfl rfl

theorem windowTold_guards (hr : r < 32) (h : (s.routeCfg r).errLimit < s.getF (F.RT_TRAIN_ERR_COUNT r)) :
    (s.windowTold r).guardHolds r = true := by
  have habove : (s.windowShown r).overLimit r = true := by rw [windowShown_overLimit]; exact decide_eq_true h
  refine guardUpdate_holds_overLimit hr ?_
  rw [← habove]
  exact overLimit_of_frame (windowJudged_frame r) rfl rfl

/-- A window has been closed at `t`: its count is shown, a new one has begun, and a count above the limit holds the write guard. -/
structure WindowClosed (s t : State) (r : Nat) : Prop where
  last : t.getF (F.RT_TRAIN_ERR_LAST r) = s.getF (F.RT_TRAIN_ERR_COUNT r)
  count : t.getF (F.RT_TRAIN_ERR_COUNT r) = 0
  guards : (s.routeCfg r).errLimit < s.getF (F.RT_TRAIN_ERR_COUNT r) → t.guardHolds r = true

theorem windowTold_closed (hr : r < 32) : WindowClosed s (s.windowTold r) r where
  last := (windowTold_getF (by simp)).trans (windowShown_shows r).1
  count := (windowTold_getF (by simp)).trans (windowShown_shows r).2
  guards := windowTold_guards hr

theorem WindowClosed.setRoute {t : State} (h : WindowClosed s t r) (x : Route) : WindowClosed s (t.setRoute r x) r :=
  ⟨(getF_setRoute ..).trans h.last, (getF_setRoute ..).trans h.count, h.guards⟩

theorem WindowClosed.recalStart {t : State} (h : WindowClosed s t r) : WindowClosed s (t.recalStart r) r := by
  have hkept := (trainKept_recalStart (s := t) r).1
  have herr : ∀ {g : Field}, g.off = R.RT_TRAIN_ERR r → (t.recalStart r).getF g = t.getF g := fun {g} hg => by
    unfold State.getF
    rw [hg, hkept]
  exact ⟨(herr rfl).trans h.last, (herr rfl).trans h.count, fun habove =>
    (guardHolds_of_frame (State.recalStart_frame t r) (by decide) r).trans (h.guards habove)⟩

/-- The write guard is decided anew when the route drains for its retrain: the window's count still holds it. -/
theorem WindowClosed.retrainDrain {t : State} (hr : r < 32) (h : WindowClosed s t r) (habove : t.overLimit r = true) :
    WindowClosed s (t.retrainDrain r) r := by
  have hframe := State.retrainDrain_frame t r
  refine ⟨(hframe.getF (by rw [regGroup_F_RT_TRAIN_ERR_LAST]; rfl)).trans h.last,
    (hframe.getF (by rw [regGroup_F_RT_TRAIN_ERR_COUNT]; rfl)).trans h.count, fun _ => guardUpdate_holds_overLimit hr ?_⟩
  rw [← habove]
  unfold State.overLimit
  rw [getF_setF_far _ (by show R.RT_TRAIN_ERR r ≠ R.RT_STATUS r; unfold R.RT_TRAIN_ERR R.RT_STATUS; omega)]
  rfl

theorem routeSt_setRoute (x : Route) (q : Nat) : (s.setRoute r x).routeSt q = s.routeSt q := getF_setRoute ..

theorem retrainDrain_shows (r : Nat) : (s.retrainDrain r).routeSt r = 3 ∧ ((s.retrainDrain r).route r).drainRetrain = true := by
  unfold State.retrainDrain
  refine ⟨?_, ?_⟩
  · rw [guardUpdate_routeSt, routeSt_setF_same]
  · rw [guardUpdate_route, route_setF, route_setRoute_same]

/-- A window ends on route `r`: the route is up and its monitor counts. -/
structure Watches (s : State) (r : Nat) : Prop where
  route : r < 32
  up : s.routeUp r = true
  trained : (s.route r).retrain = false
  undrained : (s.route r).drainRetrain = false

namespace Watches

variable (h : s.Watches r)
include h

theorem guard : ¬ (s.routeUp r = false ∨ (s.route r).retrain = true ∨ (s.route r).drainRetrain = true ∨ 32 ≤ r) := by
  simp [h.up, h.trained, h.undrained, h.route]

/-- A first window above the limit starts a pass. -/
theorem passes (hruns : (s.route r).overRuns = 0) (habove : (s.windowShown r).overLimit r = true) (hnone : (s.route r).recal = none) :
    exec (.trainErrWindowEnd r) s = .next (((s.windowTold r).setRoute r { s.route r with overRuns := 1 }).recalStart r) := by
  show execTrainErrWindowEnd r s = _
  unfold execTrainErrWindowEnd
  rw [if_neg h.guard]
  simp only [hruns]
  exact if_pos ⟨habove, by rw [hnone]; rfl⟩

/-- The window in which that pass ended is followed by the one that decides. -/
theorem counts (hruns : (s.route r).overRuns = 2) :
    exec (.trainErrWindowEnd r) s = .next ((s.windowTold r).setRoute r { s.route r with overRuns := 3 }) := by
  show execTrainErrWindowEnd r s = _
  unfold execTrainErrWindowEnd
  rw [if_neg h.guard]
  simp only [hruns]
  rfl

theorem drains (hruns : (s.route r).overRuns = 3) (habove : (s.windowShown r).overLimit r = true) :
    exec (.trainErrWindowEnd r) s = .next ((s.windowTold r).retrainDrain r) := by
  show execTrainErrWindowEnd r s = _
  unfold execTrainErrWindowEnd
  rw [if_neg h.guard]
  simp only [hruns]
  exact congrArg Host.Outcome.next (if_pos habove)

theorem recovers (hruns : (s.route r).overRuns = 3) (hbelow : (s.windowShown r).overLimit r = false) :
    exec (.trainErrWindowEnd r) s = .next ((s.windowTold r).setRoute r { s.route r with overRuns := 0 }) := by
  show execTrainErrWindowEnd r s = _
  unfold execTrainErrWindowEnd
  rw [if_neg h.guard]
  simp only [hruns]
  exact congrArg Host.Outcome.next (if_neg fun habove => absurd (hbelow.symm.trans habove) (by decide))

/-- Otherwise the window is told, and nothing follows. -/
theorem rests (hruns : (s.route r).overRuns ∉ [2, 3])
    (hrests : (s.route r).overRuns = 0 → (s.windowShown r).overLimit r = true → (s.route r).recal ≠ none) :
    exec (.trainErrWindowEnd r) s = .next (s.windowTold r) := by
  show execTrainErrWindowEnd r s = _
  unfold execTrainErrWindowEnd
  rw [if_neg h.guard]
  dsimp only
  split
  next hzero => exact if_neg fun ⟨habove, hnone⟩ => hrests hzero habove (Option.isNone_iff_eq_none.1 hnone)
  next htwo => exact absurd htwo fun e => hruns (by simp [e])
  next hthree => exact absurd hthree fun e => hruns (by simp [e])
  next => rfl

/-- What the end of a window leaves (R94, R119, R124). -/
theorem ends : ∃ t, exec (.trainErrWindowEnd r) s = .next t ∧ WindowClosed s t r ∧ ((s.route r).overRuns = 2 → (t.route r).overRuns = 3) ∧
    ((s.routeCfg r).errLimit < s.getF (F.RT_TRAIN_ERR_COUNT r) →
      ((s.route r).overRuns = 0 → (s.route r).recal = none → s.getF (F.RT_LANE_STATE r 0) ≠ 2 → (t.route r).overRuns = 1 ∧
        (t.route r).recal.isSome = true) ∧
      ((s.route r).overRuns = 3 → t.routeSt r = 3 ∧ (t.route r).drainRetrain = true)) ∧
    (s.getF (F.RT_TRAIN_ERR_COUNT r) ≤ (s.routeCfg r).errLimit → t.routeSt r = s.routeSt r ∧
      ((s.route r).overRuns = 3 → (t.route r).overRuns = 0)) := by
  have hclosed := windowTold_closed (s := s) h.route
  have hstate := windowTold_routeSt (s := s) r r
  by_cases htwo : (s.route r).overRuns = 2
  · exact ⟨_, h.counts htwo, hclosed.setRoute _, fun _ => congrArg Route.overRuns (route_setRoute_same ..),
      fun _ => ⟨by omega, by omega⟩, fun _ => ⟨(routeSt_setRoute ..).trans hstate, by omega⟩⟩
  by_cases habove : (s.routeCfg r).errLimit < s.getF (F.RT_TRAIN_ERR_COUNT r)
  · have hover : (s.windowShown r).overLimit r = true := (windowShown_overLimit r).trans (decide_eq_true habove)
    by_cases hthree : (s.route r).overRuns = 3
    · exact ⟨_, h.drains hthree hover, hclosed.retrainDrain h.route ((windowTold_overLimit r).trans (decide_eq_true habove)), by omega,
        fun _ => ⟨by omega, fun _ => retrainDrain_shows r⟩, by omega⟩
    by_cases hpass : (s.route r).overRuns = 0 ∧ (s.route r).recal = none
    · obtain ⟨hzero, hnone⟩ := hpass
      refine ⟨_, h.passes hzero hover hnone, (hclosed.setRoute _).recalStart, by omega, fun _ => ⟨fun _ _ hlane => ?_, by omega⟩, by omega⟩
      have hup : ((s.windowTold r).setRoute r { s.route r with overRuns := 1 }).routeUp r = true := by
        unfold State.routeUp
        rw [routeSt_setRoute, hstate]
        exact h.up
      have hlane : ((s.windowTold r).setRoute r { s.route r with overRuns := 1 }).getF (F.RT_LANE_STATE r 0) ≠ 2 := by
        rwa [getF_setRoute, windowTold_getF (by simp), windowShown_getF (RT_LANE_ne_RT_TRAIN_ERR r 0)]
      obtain ⟨d, hd⟩ := recalStart_route hup (by rw [route_setRoute_same]; exact hnone) hlane
      rw [hd, route_setRoute_same]
      exact ⟨rfl, rfl⟩
    · exact ⟨_, h.rests (by simp [htwo, hthree]) fun hzero _ hnone => hpass ⟨hzero, hnone⟩, hclosed, by omega,
        fun _ => ⟨fun hzero hnone => absurd ⟨hzero, hnone⟩ hpass, by omega⟩, by omega⟩
  · have hover : (s.windowShown r).overLimit r = false := (windowShown_overLimit r).trans (decide_eq_false habove)
    by_cases hthree : (s.route r).overRuns = 3
    · exact ⟨_, h.recovers hthree hover, hclosed.setRoute _, by omega, fun h => absurd h habove,
        fun _ => ⟨(routeSt_setRoute ..).trans hstate, fun _ => congrArg Route.overRuns (route_setRoute_same ..)⟩⟩
    · exact ⟨_, h.rests (by simp [htwo, hthree]) fun _ hyes => absurd (hover.symm.trans hyes) (by decide), hclosed, by omega,
        fun h => absurd h habove, fun _ => ⟨hstate, by omega⟩⟩

end Watches

end State

/-- Settles O42: a pass starts as `State.PassStarted` says, its sweeps end as `State.Sweeps` says, and a window of the monitor ends as
`State.Watches.ends` says. -/
theorem routesAreRecalibrated : Obligations.RoutesAreRecalibrated := by
  refine ⟨fun s r c hr hc hup hnone hlane => ?start, fun s r k eye shift n c hr hk hpass hlane hruns hgap => ?phase,
    fun s r k c hpass hphase hruns hgap hfree hdie => ?forced, fun s r errors eye n done shift hr hup hretrain hdrain hn => ?bursts,
    fun s r n hr hup hretrain hdrain hn => ?window⟩
  case start =>
    obtain ⟨t, hexec, ⟨hshown, hnow, htemp, hbegins, hwaits⟩, hframe⟩ := State.exec_startsPass hr hc hup hnone hlane
    exact ⟨t, hexec, hshown, hnow, htemp, hbegins, hwaits, hframe⟩
  case phase =>
    subst hlane
    have h : s.Sweeps r c := ⟨hr, hk, hpass, hruns, hgap⟩
    exact ⟨fun hphase hwide => h.carries shift n hphase hwide, fun hphase hnarrow htwice => h.losesRelief shift n hphase hnarrow htwice,
      fun hphase hwide hlast => h.endsPass shift n hphase hwide hlast, fun hphase hnarrow htwice =>
        ⟨fun hpolicy hfree => h.losesLane shift n hphase hnarrow htwice hpolicy hfree,
          fun hnone _ => h.losesRoute shift n hphase hnarrow htwice hnone⟩⟩
  case forced =>
    exact ⟨_, State.execForceGapExpiry_bursts hpass hphase hruns hgap hfree hdie, State.route_setRoute_same .., rfl,
      (State.setRoute_frame ..).after ((State.emit_frame ..).mono rfl) rfl⟩
  case bursts =>
    subst hn
    refine ⟨fun hburst => ?_, fun c hpass hown hphase hruns hfree => ?_⟩
    · refine ⟨(s.trainErr r errors).setRoute r { s.route r with burst := false }, if_pos hburst, State.route_setRoute_same .., ?_,
        (State.setRoute_frame ..).after ((State.trainErr_frame ..).mono rfl) rfl⟩
      rw [State.getF_setRoute, State.trainErr_counts errors hup hretrain hdrain]
    · have h : s.Bursts r c := ⟨hr, hpass, hown, hphase, hruns, hfree⟩
      have hcounted := State.burstCounted_counts errors hup hretrain hdrain
      refine ⟨fun hdone => ?_, fun hdone hlast hwide => ?_⟩
      · subst hdone
        exact ⟨_, h.exec_eq errors false eye shift, hcounted, State.burstCounted_frame errors⟩
      · subst hdone
        obtain ⟨hends, hcount, hstate, heye⟩ := State.sweepEnd_ends (s := s.burstCounted r errors) (r := r) shift hwide hlast
        exact ⟨_, h.exec_eq errors true eye shift, hends, hcount.trans hcounted, hstate, heye⟩
  case window =>
    subst hn
    obtain ⟨t, hexec, ⟨hlast, hcount, hguards⟩, htwo, habove, hbelow⟩ := State.Watches.ends ⟨hr, hup, hretrain, hdrain⟩
    exact ⟨t, hexec, hlast, hcount, htwo, fun hover => ⟨hguards hover, habove hover⟩, hbelow⟩

end Sys2Proof.Machine
end

section
/-! PROOFS. What the outcome of a descriptor's envelope leaves: its job is gone, its entry is taken, and neither the read channel nor its
registers follow (R233, R237, R243). -/

namespace Sys2Proof.Machine

/-- The parts that a descriptor's progress may change: its buffers, its lines and its programs, but nothing of the read channel. -/
def toldParts : Nat := may [.boundary, .modeCtl, .notice, .descs, .flash, .pigeonholes, .sram, .integrity, .outputs, .regs 0, .regs 2,
  .regs 7, .regs 12]

/-- From `s` to `t` descriptors may have gone on: the jobs are those there were, and no outcome of an envelope has changed. -/
structure Told (s t : State) : Prop where
  frame : Frame toldParts s t
  jobIds : t.seq.jobs.map Job.id = s.seq.jobs.map Job.id
  results : ∀ {id d}, s.desc? id = some d → ∃ e, t.desc? id = some e ∧ e.results = d.results

namespace Told

variable {s t u : State}

theorem refl (s : State) : Told s s := ⟨Frame.refl s, rfl, fun h => ⟨_, h, rfl⟩⟩

theorem trans (h : Told s t) (k : Told t u) : Told s u where
  frame := h.frame.trans k.frame
  jobIds := k.jobIds.trans h.jobIds
  results := fun hd => by
    obtain ⟨e, he, hresults⟩ := h.results hd
    obtain ⟨x, hx, hsame⟩ := k.results he
    exact ⟨x, hx, hsame.trans hresults⟩

/-- Go back over the last step. -/
theorem step (k : Told t u) (h : Told s t) : Told s u := h.trans k

/-- A step that changes no descriptor and keeps the numbers of the jobs. -/
theorem of_jobIds {n : Nat} (h : Frame n s t) (hn : n ||| toldParts = toldParts) (h7 : n.testBit 7 = false)
    (hids : t.seq.jobs.map Job.id = s.seq.jobs.map Job.id) : Told s t :=
  ⟨h.mono hn, hids, fun hd => ⟨_, (h.desc? h7 _).trans hd, rfl⟩⟩

/-- A step that changes neither descriptors nor jobs. -/
theorem of_frame {n : Nat} (h : Frame n s t) (hn : n ||| toldParts = toldParts) (h7 : n.testBit 7 = false) (h8 : n.testBit 8 = false) :
    Told s t :=
  .of_jobIds h hn h7 (by rw [h.seq h8])

theorem foldl {α : Type} {f : State → α → State} {l : List α} (h : ∀ u, ∀ x ∈ l, Told u (f u x)) : Told s (l.foldl f s) :=
  foldl_relates refl trans h

/-- A number without a job stays without one. -/
theorem job?_none (h : Told s t) {i : Nat} (hi : s.job? i = none) : t.job? i = none := by
  have hids : ∀ u : State, u.job? i = none ↔ i ∉ u.seq.jobs.map Job.id := fun u => by simp [State.job?]
  rw [hids, h.jobIds, ← hids]
  exact hi

end Told

/-- A descriptor whose entry `i` is `r`, a line of a LOAD_PIGEONHOLE that stands being counted (R280). -/
def Desc.taking (d : Desc) (i : Nat) (r : EnvRes) (stands : Bool) : Desc :=
  { d with results := d.results.set i (some r), count := if d.op = 0x48 ∧ stands then d.count + 1 else d.count }

namespace State

variable {s : State}

/-! ### Descriptors go on (R86, R235, R237, R243) -/

theorem setDesc_told {d x : Desc} (hd : s.desc? d.id = some x) (hresults : d.results = x.results) : Told s (s.setDesc d) where
  frame := (State.setDesc_frame s d).mono rfl
  jobIds := rfl
  results := fun {id e} he => by
    by_cases hid : id = d.id
    · subst hid
      exact ⟨d, desc?_setDesc_same hd, hresults.trans (congrArg Desc.results (Option.some.inj (hd.symm.trans he)))⟩
    · exact ⟨e, (desc?_setDesc_ne hid).trans he, rfl⟩

theorem finish_told (id st n : Nat) : Told s (s.finish id st n) := by
  unfold State.finish
  split
  next d hd =>
    obtain rfl := id_of_desc? hd
    split
    · exact .trans (.of_frame s.fresh_frame rfl rfl rfl) (setDesc_told (s := s.fresh.2) hd rfl)
    · exact .refl s
  · exact .refl s

/-- The range invalidation of an erase marks jobs of patrol, and takes none away. -/
theorem eraseRange_told (k : Nat) (blocks : List Nat) : Told s (s.eraseRange k blocks) := by
  refine .of_jobIds (State.eraseRange_frame s k blocks) rfl rfl ?_
  have hrange : (s.phRange [k] (some blocks)).seq.jobs = s.seq.jobs := by rw [(State.phRange_frame s [k] (some blocks)).seq rfl]
  unfold State.eraseRange
  dsimp only
  rw [hrange, List.map_map]
  refine List.map_congr_left fun j _ => ?_
  dsimp only [Function.comp]
  split <;> rfl

theorem enqueue_told (o : DieOp) : Told s (s.enqueue o) := .of_jobIds (State.enqueue_frame s o) rfl rfl rfl

theorem enqueueErase_told (k : Nat) (blocks : List Nat) (p : Purpose) (origin : Origin) (ord : Nat) (recovery : Bool) :
    Told s (s.enqueueErase k blocks p origin ord recovery) := by
  unfold State.enqueueErase
  dsimp only
  refine .trans (.trans ?_ (.of_frame (State.fresh_frame _) rfl rfl rfl)) (enqueue_told _)
  split
  · exact .of_frame (State.raise_frame (m := 0x42150012) s F.MI_PH_EVENT_RANGE_WAIT rfl rfl rfl) rfl rfl rfl
  · exact eraseRange_told k blocks

theorem enqueueProg_told (o : DieOp) : Told s (s.enqueueProg o) := by
  unfold State.enqueueProg
  split
  · unfold State.eraseAhead
    exact .step (enqueueErase_told ..) (.of_jobIds (withSeq_frame _) rfl rfl rfl)
  · exact enqueue_told o

theorem progEnd_told (d : Desc) (st : Nat) : Told s (s.progEnd d st) := by
  unfold State.progEnd
  exact .trans (.foldl fun u p _ => .of_frame (pageLines_dropped_frame p.1) rfl rfl rfl) (finish_told ..)

theorem startProg_told (id : Nat) : Told s (s.startProg id) := by
  unfold State.startProg
  split
  · exact .refl s
  · split
    · exact .refl s
    · exact finish_told ..
    · split
      · exact progEnd_told ..
      · split
        · exact progEnd_told ..
        · exact .trans (.of_frame s.fresh_frame rfl rfl rfl) (enqueueProg_told _)

theorem copySources_told {d : Desc} (hd : s.desc? d.id = some d) : Told s (s.copySources d) := by
  unfold State.copySources
  dsimp only
  split
  · exact finish_told ..
  · have hpages := State.encodePages_frame s
    refine .step (startProg_told _) (.step (setDesc_told (x := d) ?_ rfl) (.of_frame (hpages ..) rfl rfl rfl))
    exact ((hpages ..).desc? rfl _).trans hd

theorem descCheck_told (id : Nat) : Told s (s.descCheck id) := by
  unfold State.descCheck
  split
  · exact .refl s
  next d hd =>
    obtain rfl := id_of_desc? hd
    split
    · exact .refl s
    · dsimp only
      split
      · exact finish_told ..
      · exact finish_told ..
      · exact finish_told ..
      · exact copySources_told hd
      · exact .refl s

/-- The outcome of an envelope of an open descriptor is its entry from then on. -/
theorem descResult_takes {id i : Nat} {d : Desc} (a epoch : Nat) (r : EnvRes) (hd : s.desc? id = some d) (hopen : d.status = none)
    (hbuf : d.bufferFault = false) (hi : i < d.results.length) :
    Frame toldParts s (s.descResult id i a epoch r) ∧ (∀ x, s.job? x = none → (s.descResult id i a epoch r).job? x = none) ∧
      ∃ e, (s.descResult id i a epoch r).desc? id = some e ∧ e.results[i]? = some (some r) := by
  obtain rfl := id_of_desc? hd
  obtain ⟨u, stands, hinstall⟩ : ∃ u stands, (s.writeEnv d i r).fillInstall d a epoch r = (u, stands) := ⟨_, _, rfl⟩
  have hlines : Told s u := .of_frame (.of_pair_fst (State.fillInstall_frame ..) hinstall ((State.writeEnv_frame s d i r).mono rfl) rfl)
    (n := 0x42151813) rfl rfl rfl
  have hresult : s.descResult d.id i a epoch r = (u.setDesc (d.taking i r stands)).descCheck d.id := by
    unfold State.descResult
    rw [hd]
    dsimp only
    rw [if_neg (by simp [hopen, hbuf]), hinstall]
    rfl
  obtain ⟨x, hx, -⟩ := hlines.results hd
  have hchecked : Told (u.setDesc (d.taking i r stands)) ((u.setDesc (d.taking i r stands)).descCheck d.id) := descCheck_told d.id
  obtain ⟨y, hy, hsame⟩ := hchecked.results (desc?_setDesc_same (d := d.taking i r stands) hx)
  rw [hresult]
  refine ⟨(hlines.frame.trans ((State.setDesc_frame u _).mono rfl)).trans hchecked.frame,
    fun j hj => hchecked.job?_none (hlines.job?_none hj), y, hy, ?_⟩
  rw [hsame]
  simp [Desc.taking, hi]

end State
end Sys2Proof.Machine
end

section
/-! PROOFS. Jobs that leave their dies and are withdrawn, and what a descriptor's envelope ends with (R140, R143, R233, R243). -/

namespace Sys2Proof.Machine

/-- An operation that no longer reads for job `id`. -/
def DieOp.without (id : Nat) (o : DieOp) : DieOp := { o with jobs := o.jobs.filter (· ≠ id) }

namespace State

variable {s : State}

/-! ### Jobs and dies as a frame keeps them -/

theorem jobs_of_frame {m : Nat} {t : State} (h : Frame m s t) (h8 : m.testBit 8 = false) : t.seq.jobs = s.seq.jobs := by rw [h.seq h8]

theorem die_of_seq {t : State} (h : t.seq = s.seq) (k : Nat) : t.die k = s.die k := by
  unfold State.die
  rw [h]

theorem job?_of_frame {m : Nat} {t : State} (h : Frame m s t) (h8 : m.testBit 8 = false) (i : Nat) : t.job? i = s.job? i := by
  unfold State.job?
  rw [jobs_of_frame h h8]

/-! ### A job leaves its die (R64, R140) -/

theorem setDieSt_jobs (k v : Nat) : (s.setDieSt k v).seq.jobs = s.seq.jobs := by
  have hturn : (s.tempTurn k).seq.jobs = s.seq.jobs := by
    unfold State.tempTurn
    split <;> rfl
  unfold State.setDieSt
  split
  · rfl
  · split
    · exact hturn
    · rfl

theorem setDieSt_moving (k v : Nat) : ((s.setDieSt k v).die k).moving = (s.die k).moving := by
  obtain ⟨n, hturn⟩ := die_tempTurn (s := s) k
  unfold State.setDieSt
  split
  · rw [die_setF, die_setDie_same]
  · rw [die_setF]
    split
    · rw [hturn]
    · rfl

/-- A register that is let go holds no envelope that is transferred: letting go leaves the jobs and the transfer as they were. -/
theorem release_keeps (k : Nat) : (s.release k).seq.jobs = s.seq.jobs ∧ ((s.release k).die k).moving = (s.die k).moving := by
  unfold State.release
  dsimp only
  split
  · exact ⟨setDieSt_jobs k 1, by rw [setDieSt_moving, die_setDie_same]⟩
  · exact ⟨rfl, rfl⟩

theorem wantHeader_keeps (k : Nat) : (s.wantHeader k).seq.jobs = s.seq.jobs ∧ ((s.wantHeader k).die k).moving = (s.die k).moving := by
  unfold State.wantHeader
  split
  · exact ⟨rfl, by rw [die_want_same]⟩
  · exact ⟨rfl, rfl⟩

/-- Job `j` is taken out of its die's data-out and out of every operation that reads for it. -/
def leftDie (s : State) (j : Job) : State :=
  let k := s.jobDie j
  let u := s.setDie k { (s.die k).moves j.id with op := (s.die k).op.map (DieOp.without j.id), next := (s.die k).next.map (DieOp.without j.id) }
  { u with seq := { u.seq with waiting := (u.seq.waiting.map fun o => if o.cls = 1 then o.without j.id else o).filter fun o =>
      o.cls ≠ 1 || !o.jobs.isEmpty } }

theorem leftDie_die (j : Job) : (s.leftDie j).die (s.jobDie j) =
    { (s.die (s.jobDie j)).moves j.id with
      op := (s.die (s.jobDie j)).op.map (DieOp.without j.id), next := (s.die (s.jobDie j)).next.map (DieOp.without j.id) } :=
  die_setDie_same ..

/-- The pool of an array read is closed where job `id` was its last (R151). -/
def poolLeft (s : State) (id : Nat) : Option DieOp → State
  | some o => if o.cls = 1 ∧ (o.without id).jobs.isEmpty then s.closePool o.id else s
  | none => s

theorem jobLeavesDie_eq (j : Job) : s.jobLeavesDie j =
    (((s.leftDie j).poolLeft j.id (s.die (s.jobDie j)).op).release (s.jobDie j)).wantHeader (s.jobDie j) := rfl

theorem poolLeft_keeps (id : Nat) (op : Option DieOp) : (s.poolLeft id op).seq = s.seq ∧ (s.poolLeft id op).rc.cores = s.rc.cores := by
  unfold poolLeft
  split
  · split <;> exact ⟨rfl, rfl⟩
  · exact ⟨rfl, rfl⟩

/-- A job that leaves its die stays a job, the envelope after it in its data-out is the one received next, and the decoder pool is as it
was. -/
theorem jobLeavesDie_keeps (j : Job) : (s.jobLeavesDie j).seq.jobs = s.seq.jobs ∧
    ((s.jobLeavesDie j).die (s.jobDie j)).moving = ((s.die (s.jobDie j)).moves j.id).moving ∧
    (s.jobLeavesDie j).rc.cores = s.rc.cores := by
  obtain ⟨hseq, hcores⟩ := poolLeft_keeps (s := s.leftDie j) j.id (s.die (s.jobDie j)).op
  rw [jobLeavesDie_eq]
  refine ⟨?_, ?_, ?_⟩
  · rw [(wantHeader_keeps _).1, (release_keeps _).1, hseq]
    rfl
  · rw [(wantHeader_keeps _).2, (release_keeps _).2]
    rw [die_of_seq hseq]
    rw [leftDie_die]
  · rw [(State.wantHeader_frame ..).rc rfl, (State.release_frame ..).rc rfl, hcores]
    rfl

theorem jobLeavesDie_job? (j : Job) (i : Nat) : (s.jobLeavesDie j).job? i = s.job? i := by
  unfold State.job?
  rw [(jobLeavesDie_keeps j).1]

/-! ### The jobs on the cores (R170) -/

@[simp] theorem coreJob_setCoreJob_same (c : Nat) (x : Option Nat) : (s.setCoreJob c x).coreJob c = x := tget_tset_same _ _ _ _

theorem coreJob_setCoreJob_ne {c b : Nat} (x : Option Nat) (h : b ≠ c) : (s.setCoreJob c x).coreJob b = s.coreJob b := tget_tset_ne _ _ _ h

theorem coreJob_of_rc {t : State} (h : t.rc = s.rc) (c : Nat) : t.coreJob c = s.coreJob c := by
  unfold State.coreJob
  rw [h]

/-! ### Withdrawals (R233, R261) -/

theorem withdraw_job? (j : Job) : (s.withdraw j).job? j.id = none := by
  unfold State.withdraw State.job? State.dropJob
  simp

theorem withdraw_coreJob {c : Nat} (j : Job) (h : s.coreJob c = none) : (s.withdraw j).coreJob c = none := by
  have hleft : (s.jobLeavesDie j).coreJob c = none := by
    unfold State.coreJob at *
    rw [(jobLeavesDie_keeps j).2.2, h]
  unfold State.withdraw
  dsimp only
  split
  next b _ =>
    show ((s.jobLeavesDie j).setCoreJob b none).coreJob c = none
    by_cases hb : c = b
    · rw [hb, coreJob_setCoreJob_same]
    · rw [coreJob_setCoreJob_ne _ hb, hleft]
  · exact hleft

/-! ### The envelope of a descriptor has its outcome (R233, R237, R243) -/

/-- The job `j` reads entry `i` of the descriptor `e`, numbered `id`, that has not ended; no buffer of it has faulted. -/
structure Reads (s : State) (j : Job) (id i : Nat) (e : Desc) : Prop where
  dest : j.dest = .desc id i
  desc : s.desc? id = some e
  running : e.status = none
  sound : e.bufferFault = false
  index : i < e.results.length

theorem Reads.of_frame {m : Nat} {t : State} {j : Job} {id i : Nat} {e : Desc} (h : s.Reads j id i e) (k : Frame m s t)
    (h7 : m.testBit 7 = false) : t.Reads j id i e :=
  { h with desc := (k.desc? h7 id).trans h.desc }

/-- What the outcome of a descriptor's envelope may change. -/
def outcomeParts : Nat := toldParts ||| may [.readChannel, .regs 17]

/-- From `s` to `t` the job numbered `job` has ended with `r` for entry `i` of descriptor `id`. -/
structure Decides (s t : State) (job id i : Nat) (r : EnvRes) : Prop where
  frame : Frame outcomeParts s t
  gone : t.job? job = none
  free : ∀ c, s.coreJob c = none → t.coreJob c = none
  entry : ∃ e, t.desc? id = some e ∧ e.results[i]? = some (some r)

theorem Decides.getR {t : State} {job id i : Nat} {r : EnvRes} (h : s.Decides t job id i r) {off : Nat} (hoff : regGroup off = 9) :
    t.getR off = s.getR off :=
  h.frame.reg off (by rw [hoff]; rfl)

/-- A step behind the outcome that changes the dies alone. -/
theorem Decides.after {t u : State} {job id i : Nat} {r : EnvRes} (h : s.Decides t job id i r) (k : Frame 0x100 t u)
    (hjobs : u.seq.jobs = t.seq.jobs) : s.Decides u job id i r where
  frame := h.frame.trans (k.mono rfl)
  gone := by
    have hgone := h.gone
    unfold State.job? at *
    rw [hjobs, hgone]
  free := fun c hc => (coreJob_of_rc (k.rc rfl) c).trans (h.free c hc)
  entry := by
    obtain ⟨e, he, hr⟩ := h.entry
    exact ⟨e, (k.desc? rfl id).trans he, hr⟩

theorem Reads.jobFinal_decides {j : Job} {id i : Nat} {e : Desc} (h : s.Reads j id i e) (r : EnvRes) :
    s.Decides (s.jobFinal j r 0 0) j.id id i r := by
  have hfinal : s.jobFinal j r 0 0 = (s.withdraw j).descResult id i j.addr j.epoch r := by
    unfold State.jobFinal
    rw [h.dest]
  have hopen := h.of_frame (State.withdraw_frame s j) rfl
  obtain ⟨hframe, hjobs, hentry⟩ := descResult_takes j.addr j.epoch r hopen.desc hopen.running hopen.sound hopen.index
  rw [hfinal]
  exact ⟨((State.withdraw_frame s j).mono rfl).trans (hframe.mono rfl), hjobs _ (withdraw_job? j),
    fun c hc => (coreJob_of_rc (hframe.rc rfl) c).trans (withdraw_coreJob j hc), hentry⟩

theorem Reads.jobFailed_decides {j : Job} {id i : Nat} {e : Desc} (h : s.Reads j id i e) (st : Nat) :
    s.Decides (s.jobFailed j st) j.id id i { status := st } := by
  unfold State.jobFailed
  rw [h.dest]
  exact h.jobFinal_decides _

end State
end Sys2Proof.Machine
end

section
/-! PROOFS. The envelopes and headers of a data-out as they are received (Table 6-5, R140 to R145, R232, R234, R240). -/

namespace Sys2Proof.Machine
namespace State

variable {s : State} {j : Job}

/-! ### What a transfer that ends needs -/

/-- The transfer of job `j` runs on its die and ends: its route carries traffic and the read channel works. -/
structure Receives (s : State) (j : Job) : Prop where
  job : s.job? j.id = some j
  moving : (s.die (s.jobDie j)).moving = some j.id
  quiet : (s.die (s.jobDie j)).want = none
  up : s.routeUp (s.jobDie j / 16) = true
  runs : s.pipeRuns = true

theorem modeNow_ne_safe_of_pipeRuns (h : s.pipeRuns = true) : s.modeNow ≠ 10 := by
  simp only [State.pipeRuns, Bool.and_eq_true, decide_eq_true_eq] at h
  exact h.2

/-- The bytes that the data-out of job `j` carries (log 95). -/
def dataOf (s : State) (j : Job) (skip : Nat) (data : Bytes) : Bytes := carried (s.die (s.jobDie j)).runBytes skip data

theorem Receives.envelope {o : DieOp} {id i : Nat} (h : s.Receives j) (hwhole : j.header = false) (hdest : j.dest = .desc id i)
    (hop : (s.die (s.jobDie j)).op = some o) (data : Bytes) (skip : Nat) :
    exec (.envelopeReceived j.id data skip) s = .next (s.envIn (s.jobDie j) o j (s.dataOf j skip data)) := by
  show execEnvelopeReceived j.id data skip s = _
  unfold execEnvelopeReceived
  rw [h.job]
  dsimp only
  rw [if_neg (by simp [h.moving, h.quiet, hwhole, h.up]), if_neg (modeNow_ne_safe_of_pipeRuns h.runs), if_neg (by simp [h.runs]), hdest, hop]
  rfl

theorem Receives.rawPage {id : Nat} (h : s.Receives j) (hwhole : j.header = false) (hdest : j.dest = .raw id) (data : Bytes) (skip : Nat) :
    exec (.envelopeReceived j.id data skip) s = .next (s.rawIn j id (s.dataOf j skip data)) := by
  show execEnvelopeReceived j.id data skip s = _
  unfold execEnvelopeReceived
  rw [h.job]
  dsimp only
  rw [if_neg (by simp [h.moving, h.quiet, hwhole, h.up]), if_neg (modeNow_ne_safe_of_pipeRuns h.runs), if_neg (by simp [h.runs]), hdest]
  rfl

/-- The transfer that ran on a job's die has ended. -/
def transferEnded (s : State) (j : Job) : State := s.setDie (s.jobDie j) { s.die (s.jobDie j) with moving := none }

theorem Receives.header (h : s.Receives j) (halone : j.header = true) (hopen : j.hdrDone = false) (data : Bytes) {code : Nat}
    {content : Bytes} (hcode : headerCode (s.die (s.jobDie j)).envCtrl j.addr data = (code, content)) :
    exec (.headerReceived j.id data) s = .next (((s.transferEnded j).headerIn j code content).wantHeader (s.jobDie j)) := by
  show execHeaderReceived j.id data s = _
  unfold execHeaderReceived
  rw [h.job]
  dsimp only
  rw [if_neg (by simp [h.moving, h.quiet, halone, hopen, h.up]), if_neg (modeNow_ne_safe_of_pipeRuns h.runs), if_neg (by simp [h.runs]),
    hcode]
  rfl

/-! ### Counters of received envelopes (Table 6-5) -/

theorem getR_trainErr {off : Nat} (r n : Nat) (h : regGroup off = 9) : (s.trainErr r n).getR off = s.getR off :=
  (State.trainErr_frame s r n).reg off (by rw [h]; rfl)

theorem getR_countShift (r : Nat) : (s.countShift r).getR R.RC_ENV_CNT_SHIFTED = s.getR R.RC_ENV_CNT_SHIFTED + 1 :=
  (getR_trainErr r 1 rfl).trans (getR_bump_same ..)

theorem getR_countMiss (r : Nat) : (s.countMiss r).getR R.RC_ENV_CNT_MISSED = s.getR R.RC_ENV_CNT_MISSED + 1 :=
  (getR_trainErr r 1 rfl).trans (getR_bump_same ..)

theorem getR_countShift_ne {off : Nat} (r : Nat) (h : regGroup off = 9) (hne : off ≠ R.RC_ENV_CNT_SHIFTED) :
    (s.countShift r).getR off = s.getR off :=
  (getR_trainErr r 1 h).trans (getR_bump_ne s hne)

theorem getR_countMiss_ne {off : Nat} (r : Nat) (h : regGroup off = 9) (hne : off ≠ R.RC_ENV_CNT_MISSED) :
    (s.countMiss r).getR off = s.getR off :=
  (getR_trainErr r 1 h).trans (getR_bump_ne s hne)

/-- The mark of an envelope expected at `lead` is found at `p`: another place is counted. -/
def markFound (s : State) (r lead p : Nat) : State := if p = lead then s else s.countShift r

theorem markFound_frame (r lead p : Nat) : Frame 0x208000000 s (s.markFound r lead p) :=
  .ite (.refl s) (State.countShift_frame s r)

theorem markFound_seq (r lead p : Nat) : (s.markFound r lead p).seq = s.seq := by
  unfold markFound State.countShift State.trainErr
  split
  · rfl
  · split <;> rfl

theorem getR_markFound {lead p : Nat} (r : Nat) (h : p ≠ lead) :
    (s.markFound r lead p).getR R.RC_ENV_CNT_SHIFTED = s.getR R.RC_ENV_CNT_SHIFTED + 1 := by
  unfold markFound
  rw [if_neg h, getR_countShift]

theorem getR_markFound_ne {off : Nat} (r lead p : Nat) (h : regGroup off = 9) (hne : off ≠ R.RC_ENV_CNT_SHIFTED) :
    (s.markFound r lead p).getR off = s.getR off := by
  unfold markFound
  split
  · rfl
  · exact getR_countShift_ne r h hne

/-! ### Envelopes that end as they are received (R142 to R144) -/

theorem Reads.bump {id i : Nat} {e : Desc} (h : s.Reads j id i e) (off : Nat) : (s.bump off).Reads j id i e := { h with desc := h.desc }

/-- An envelope that tests erased (R142). -/
theorem Reads.envEmpty_ends {id i : Nat} {e : Desc} (h : s.Reads j id i e) :
    (s.bump R.RC_ENV_CNT_ERASED).Decides (s.envEmpty j) j.id id i { status := St.erased, outcome := 2 } := by
  have hpatrol : ¬ j.dest = .patrol := by simp [h.dest]
  unfold State.envEmpty
  simp only [if_neg hpatrol]
  exact (h.bump _).jobFinal_decides _

/-- What is left of a run goes in a new data-out: jobs and outcomes stay. -/
theorem Decides.runGoesOn {t : State} {job id i : Nat} {r : EnvRes} (h : s.Decides t job id i r) (k : Nat) :
    s.Decides (t.runGoesOn k) job id i r := by
  refine h.after (State.runGoesOn_frame t k) ?_
  unfold State.runGoesOn
  split <;> rfl

/-- The first two transfers in which an envelope has no place are made again (R143). -/
theorem envMissed_again (k : Nat) (h : j.tries < 2) :
    s.envMissed k j = ((s.countMiss (k / 16)).setJob { j with tries := j.tries + 1 }).want k .dataOut := by
  unfold State.envMissed
  exact if_pos h

/-- The third one loses it (R143). -/
theorem envMissed_lost (k : Nat) (htries : 2 ≤ j.tries) (hstep : j.step = 0) :
    s.envMissed k j = (((s.countMiss (k / 16)).bump R.RC_ENV_CNT_LOST).jobFailed j St.frameLost).runGoesOn k := by
  unfold State.envMissed
  dsimp only
  rw [if_neg (by omega), if_neg (by omega)]

/-! ### Envelopes in their places (R140, R141, R144) -/

variable {k : Nat} {o : DieOp} {data : Bytes}

/-- Where the first envelope of a job's data-out being received is expected. -/
def leadOf (s : State) (k : Nat) (j : Job) : Nat := 4608 * (addrEnv j.addr - (s.die k).runAt)

theorem envIn_erased (hstep : j.step = 0) (h : envErased (s.die k).envCtrl (slice data (s.leadOf k j) 4608) = true) :
    s.envIn k o j data = s.envEmpty j := by
  unfold State.envIn
  exact if_pos ⟨hstep, h⟩

theorem envIn_missed (h : envErased (s.die k).envCtrl (slice data (s.leadOf k j) 4608) = false)
    (hplace : alignAt (s.die k).envX j.addr data (s.leadOf k j) = none) : s.envIn k o j data = s.envMissed k j := by
  unfold leadOf at h hplace
  unfold State.envIn
  simp only [h, hplace, Bool.false_eq_true, and_false, if_false]

theorem envIn_misdelivered {p : Nat} (hstep : j.step = 0) (h : envErased (s.die k).envCtrl (slice data (s.leadOf k j) 4608) = false)
    (hplace : alignAt (s.die k).envX j.addr data (s.leadOf k j) = some p)
    (hpilots : misdelivered (s.die k).envX j.addr (gatherPilots (leNat (slice data p 4608))) = true) :
    s.envIn k o j data = ((s.markFound (k / 16) (s.leadOf k j) p).bump R.RC_ENV_CNT_MISDELIVERED).jobFailed j St.misdelivered := by
  unfold leadOf at *
  unfold State.envIn
  simp only [h, hplace, hstep, hpilots, Bool.false_eq_true, and_false, if_false, true_and, if_true]
  rfl

theorem envIn_centre {p : Nat} (hbase : o.base = none) (h : envErased (s.die k).envCtrl (slice data (s.leadOf k j) 4608) = false)
    (hplace : alignAt (s.die k).envX j.addr data (s.leadOf k j) = some p)
    (hpilots : misdelivered (s.die k).envX j.addr (gatherPilots (leNat (slice data p 4608))) = false) :
    s.envIn k o j data = (s.markFound (k / 16) (s.leadOf k j) p).centreIn k o j (slice data p 4608) := by
  unfold leadOf at *
  unfold State.envIn
  simp only [h, hplace, hbase, hpilots, Bool.false_eq_true, and_false, if_false, Option.isSome_none]
  rfl

/-- The centre read of a descriptor's envelope waits for a core, once its pilots have joined their pool and its job has left its die. -/
theorem centreIn_waits {id i : Nat} (k : Nat) (o : DieOp) (raw : Bytes) (hdest : j.dest = .desc id i) :
    ∃ q, s.centreIn k o j raw = ((s.poolAdd k o j (gatherPilots (leNat raw))).jobLeavesDie j).toDecoder
      { j with reads := [raw], centre := j.issued, rber := q, tries := 0 } := by
  refine ⟨((s.poolAdd k o j (gatherPilots (leNat raw))).jobLeavesDie j).envRber k j.addr (gatherPilots (leNat raw)), ?_⟩
  unfold State.centreIn
  exact if_neg (by simp [hdest])

theorem poolAdd_seq (k : Nat) (o : DieOp) (pil : Nat) : (s.poolAdd k o j pil).seq = s.seq := by
  unfold State.poolAdd
  split
  · rfl
  · split <;> rfl

theorem job?_of_seq {t : State} (h : t.seq = s.seq) (i : Nat) : t.job? i = s.job? i := by
  unfold State.job?
  rw [h]

/-- A job that goes to the decoder is found as received, in the decoder's queue. -/
theorem toDecoder_waits {x : Job} (h : s.job? j.id = some x) :
    (s.toDecoder j).job? j.id = some { j with phase := .received } ∧ j.id ∈ (s.toDecoder j).rc.decQueue :=
  ⟨job?_setJob_same (j := { j with phase := .received }) h, by simp [State.toDecoder]⟩

/-- The envelope is received: the next of its data-out is received after it. -/
theorem centreIn_received {id i : Nat} (raw : Bytes) (h : s.Receives j) (o : DieOp) (hdest : j.dest = .desc id i) :
    (∃ x, (s.centreIn (s.jobDie j) o j raw).job? j.id = some x ∧ x.phase = .received ∧ x.dest = j.dest ∧ x.reads = [raw] ∧
      x.centre = j.issued) ∧ j.id ∈ (s.centreIn (s.jobDie j) o j raw).rc.decQueue ∧
    ((s.centreIn (s.jobDie j) o j raw).die (s.jobDie j)).moving = (s.die (s.jobDie j)).run.head? ∧
    Frame (may [.flash, .readChannel, .regs 17]) s (s.centreIn (s.jobDie j) o j raw) := by
  obtain ⟨q, hq⟩ := centreIn_waits (s := s) (s.jobDie j) o raw hdest
  rw [hq]
  have hpool := State.poolAdd_frame s (s.jobDie j) o j (gatherPilots (leNat raw))
  have hseq := poolAdd_seq (s := s) (j := j) (s.jobDie j) o (gatherPilots (leNat raw))
  generalize s.poolAdd (s.jobDie j) o j (gatherPilots (leNat raw)) = u at hpool hseq ⊢
  have hdie : u.jobDie j = s.jobDie j := congrArg addrDie (hpool.busAddr rfl _)
  have hjob : (u.jobLeavesDie j).job? j.id = some j := ((jobLeavesDie_job? j j.id).trans (job?_of_seq hseq _)).trans h.job
  have hmoves := (jobLeavesDie_keeps (s := u) j).2.1
  have hframe : Frame (may [.flash, .readChannel, .regs 17]) s (u.jobLeavesDie j) := .after (State.jobLeavesDie_frame ..) (hpool.mono rfl) rfl
  rw [hdie, die_of_seq hseq] at hmoves
  generalize u.jobLeavesDie j = v at hjob hmoves hframe ⊢
  obtain ⟨hfound, hwaits⟩ := toDecoder_waits (s := v) (j := { j with reads := [raw], centre := j.issued, rber := q, tries := 0 }) hjob
  refine ⟨⟨_, hfound, rfl, rfl, rfl, rfl⟩, hwaits, hmoves.trans ?_, .after (State.toDecoder_frame ..) hframe rfl⟩
  unfold Die.moves
  rw [if_pos h.moving]

/-! ### Raw pages (R240, R380) -/

theorem fabPiece_emits (h : s.getF F.PWR_DRAM_SR = 0) (p : Nat × Bytes) :
    s.fabPiece p = s.emit (.fabWrite p.1 p.2 (dramSide s.pieces p.1 p.2)) := by
  unfold State.fabPiece
  dsimp only
  rw [if_neg (by rw [h]; decide)]

theorem foldl_fabPiece_out (l : List (Nat × Bytes)) (h : s.getF F.PWR_DRAM_SR = 0) :
    (l.foldl State.fabPiece s).out = s.out ++ l.mapIdx fun i p => .fabWrite p.1 p.2 (dramSide (s.pieces + i) p.1 p.2) := by
  induction l generalizing s with
  | nil => simp
  | cons p l ih =>
    have hpieces : ∀ o, (s.emit o).pieces = s.pieces + 1 := fun o => by simp [State.pieces, Nat.add_right_comm]
    rw [List.foldl_cons, fabPiece_emits h, ih (s := s.emit _) h, out_emit, hpieces, List.mapIdx_cons, List.append_assoc]
    simp only [Nat.add_zero, Nat.add_assoc, Nat.add_comm 1, List.singleton_append]

/-- A DRAM write leaves at once while DRAM is awake. -/
theorem fab_out (addr : Nat) (data : Bytes) (h : s.getF F.PWR_DRAM_SR = 0) :
    (s.fab addr data).out = s.out ++ dramOuts s.pieces [(addr, data)] := by
  unfold State.fab
  rw [foldl_fabPiece_out _ h]
  simp [dramOuts]

/-- A raw page is written out, and its descriptor ends. -/
theorem rawIn_ends {id : Nat} {e : Desc} (data : Bytes) (hdest : j.dest = .raw id) (hdesc : s.desc? id = some e) (hopen : e.status = none)
    (hbuf : e.bufferFault = false) (hawake : s.getF F.PWR_DRAM_SR = 0) :
    (s.rawIn j id data).job? j.id = none ∧ (s.rawIn j id data).ended id St.ok 1 ∧
      (s.rawIn j id data).out = s.out ++ dramOuts s.pieces [(field e.bytes 20 8, slice data 0 18432)] := by
  set u := s.fab (field e.bytes 20 8) (slice data 0 18432) with hu
  have hraw : s.rawIn j id data = (u.withdraw j).finish id St.ok 1 := by
    unfold State.rawIn State.jobFinal
    simp only [hdesc, hbuf, hdest, Bool.false_eq_true, if_false]
    rfl
  have hwritten : Frame 0x40010001 s u := State.fab_frame ..
  have hleft : Frame 0x800000300 u (u.withdraw j) := State.withdraw_frame ..
  have hended : Frame 0x80 (u.withdraw j) ((u.withdraw j).finish id St.ok 1) := State.finish_frame ..
  rw [hraw]
  refine ⟨(job?_of_frame hended rfl _).trans (withdraw_job? j), ended_finish _ _ ?_ hopen hbuf, ?_⟩
  · exact (hleft.desc? rfl id).trans ((hwritten.desc? rfl id).trans hdesc)
  · exact (hended.out rfl).trans ((hleft.out rfl).trans (fab_out _ _ hawake))

/-! ### Headers (R145, R232, R234) -/

theorem transferEnded_frame (j : Job) : Frame 0x100 s (s.transferEnded j) := State.setDie_frame ..

theorem transferEnded_moving (j : Job) : ((s.transferEnded j).die (s.jobDie j)).moving = none := by
  unfold transferEnded
  rw [die_setDie_same]

/-- A header that is not read whole gives its entry its outcome code and content. -/
theorem Reads.headerIn_ends {id i code : Nat} {e : Desc} (content : Bytes) (h : s.Reads j id i e)
    (hcode : code ≠ 3 ∨ bit (field e.bytes 4 1) 0 = false) : s.Decides (s.headerIn j code content) j.id id i
      { status := if code = 2 then St.erased else if code = 3 then St.uncorrectable else St.ok, outcome := code, content := content } := by
  have hheader : s.headerIn j code content = s.jobFinal j
      { status := if code = 2 then St.erased else if code = 3 then St.uncorrectable else St.ok, outcome := code, content := content } 0 0 := by
    unfold State.headerIn
    simp only [h.dest, h.desc]
    exact if_neg fun hrecover => by rcases hcode with hne | hoff <;> simp_all
  rw [hheader]
  exact h.jobFinal_decides _

/-- An undecodable one is read whole with RECOVER. -/
theorem Reads.headerIn_whole {id i : Nat} {e : Desc} (content : Bytes) (h : s.Reads j id i e) (hrecover : bit (field e.bytes 4 1) 0 = true) :
    s.headerIn j 3 content = s.setJob { j with header := false } := by
  unfold State.headerIn
  simp only [h.dest, h.desc, hrecover, and_self, if_true]

end State
end Sys2Proof.Machine
end

section
/-! PROOFS. Envelopes are received: one lemma for each outcome of Table 6-5. -/

namespace Sys2Proof.Machine
namespace State

variable {s : State} {j : Job} {id i : Nat} {e : Desc} {o : DieOp}

/-- The data-out of a whole envelope of a descriptor has been received: what the clauses on a first read share (Table 6-5). -/
structure Arrives (s : State) (j : Job) (id i : Nat) (e : Desc) (o : DieOp) : Prop where
  receives : s.Receives j
  reads : s.Reads j id i e
  whole : j.header = false
  first : j.step = 0
  op : (s.die (s.jobDie j)).op = some o
  live : o.base = none

namespace Arrives

variable {buf : Bytes}

theorem exec_eq (h : s.Arrives j id i e o) (data : Bytes) (skip : Nat) :
    exec (.envelopeReceived j.id data skip) s = .next (s.envIn (s.jobDie j) o j (s.dataOf j skip data)) :=
  h.receives.envelope h.whole h.reads.dest h.op data skip

theorem erased (h : s.Arrives j id i e o)
    (herased : envErased (s.die (s.jobDie j)).envCtrl (slice buf (s.leadOf (s.jobDie j) j) 4608) = true) :
    ∃ t e', s.envIn (s.jobDie j) o j buf = t ∧ t.getR R.RC_ENV_CNT_ERASED = s.getR R.RC_ENV_CNT_ERASED + 1 ∧ t.job? j.id = none ∧
      t.desc? id = some e' ∧ e'.results[i]? = some (some { status := St.erased, outcome := 2 }) := by
  have hends := h.reads.envEmpty_ends
  obtain ⟨e', hfound, hresult⟩ := hends.entry
  exact ⟨_, e', envIn_erased h.first herased, (hends.getR rfl).trans (getR_bump_same ..), hends.gone, hfound, hresult⟩

section

variable {p : Nat}
  (hfull : envErased (s.die (s.jobDie j)).envCtrl (slice buf (s.leadOf (s.jobDie j) j) 4608) = false)
  (hplace : alignAt (s.die (s.jobDie j)).envX j.addr buf (s.leadOf (s.jobDie j) j) = some p)

include hfull hplace

theorem received (h : s.Arrives j id i e o)
    (hpilots : misdelivered (s.die (s.jobDie j)).envX j.addr (gatherPilots (leNat (slice buf p 4608))) = false) :
    ∃ t j', s.envIn (s.jobDie j) o j buf = t ∧ t.job? j.id = some j' ∧ j'.phase = .received ∧ j'.dest = j.dest ∧
      j'.reads = [slice buf p 4608] ∧ j'.centre = j.issued ∧ j.id ∈ t.rc.decQueue ∧
      (t.die (s.jobDie j)).moving = (s.die (s.jobDie j)).run.head? ∧
      (p ≠ s.leadOf (s.jobDie j) j → t.getR R.RC_ENV_CNT_SHIFTED = s.getR R.RC_ENV_CNT_SHIFTED + 1) ∧
      Frame (may [.flash, .readChannel, .regs 9, .regs 15, .regs 17]) s t := by
  rw [envIn_centre h.live hfull hplace hpilots]
  have hfound := markFound_frame (s := s) (s.jobDie j / 16) (s.leadOf (s.jobDie j) j) p
  have hseq := markFound_seq (s := s) (s.jobDie j / 16) (s.leadOf (s.jobDie j) j) p
  have hcount := getR_markFound (s := s) (lead := s.leadOf (s.jobDie j) j) (p := p) (s.jobDie j / 16)
  generalize s.markFound (s.jobDie j / 16) (s.leadOf (s.jobDie j) j) p = u at hfound hseq hcount ⊢
  have hdie : u.jobDie j = s.jobDie j := congrArg addrDie (hfound.busAddr rfl _)
  have hreceives : u.Receives j :=
    { job := (job?_of_seq hseq _).trans h.receives.job
      moving := by rw [hdie, die_of_seq hseq, h.receives.moving]
      quiet := by rw [hdie, die_of_seq hseq, h.receives.quiet]
      up := by rw [hdie, ← h.receives.up]; unfold State.routeUp; rw [hfound.routeSt rfl]
      runs := by rw [← h.receives.runs]; unfold State.pipeRuns State.writesOut; rw [modeNow_of_frame hfound rfl] }
  obtain ⟨⟨x, hjob, hphase, hdest, hreads, hcentre⟩, hwaits, hnext, hframe⟩ :=
    centreIn_received (slice buf p 4608) hreceives o h.reads.dest
  rw [hdie] at hjob hwaits hnext hframe
  rw [die_of_seq hseq] at hnext
  refine ⟨_, x, rfl, hjob, hphase, hdest, hreads, hcentre, hwaits, hnext, fun hne => ?_, (hfound.mono rfl).trans (hframe.mono rfl)⟩
  exact (hframe.reg _ rfl).trans (hcount hne)

theorem strayed (h : s.Arrives j id i e o)
    (hpilots : misdelivered (s.die (s.jobDie j)).envX j.addr (gatherPilots (leNat (slice buf p 4608))) = true) :
    ∃ t e', s.envIn (s.jobDie j) o j buf = t ∧ t.job? j.id = none ∧
      t.getR R.RC_ENV_CNT_MISDELIVERED = s.getR R.RC_ENV_CNT_MISDELIVERED + 1 ∧ t.desc? id = some e' ∧
      e'.results[i]? = some (some { status := St.misdelivered }) := by
  have hends := ((h.reads.of_frame (markFound_frame (s.jobDie j / 16) (s.leadOf (s.jobDie j) j) p) rfl).bump
    R.RC_ENV_CNT_MISDELIVERED).jobFailed_decides St.misdelivered
  obtain ⟨e', hfound, hresult⟩ := hends.entry
  refine ⟨_, e', envIn_misdelivered h.first hfull hplace hpilots, hends.gone, ?_, hfound, hresult⟩
  rw [hends.getR rfl, getR_bump_same, getR_markFound_ne _ _ _ rfl (by decide)]

end

section

variable (hfull : envErased (s.die (s.jobDie j)).envCtrl (slice buf (s.leadOf (s.jobDie j) j) 4608) = false)
  (hplace : alignAt (s.die (s.jobDie j)).envX j.addr buf (s.leadOf (s.jobDie j) j) = none)

include hfull hplace

theorem missed (h : s.Arrives j id i e o) (htries : j.tries < 2) :
    ∃ t, s.envIn (s.jobDie j) o j buf = t ∧ t.job? j.id = some { j with tries := j.tries + 1 } ∧
      (t.die (s.jobDie j)).moving = some j.id ∧ (t.die (s.jobDie j)).want = some .dataOut ∧
      t.getR R.RC_ENV_CNT_MISSED = s.getR R.RC_ENV_CNT_MISSED + 1 ∧ Frame (may [.flash, .regs 9, .regs 15]) s t := by
  rw [envIn_missed hfull hplace, envMissed_again _ htries]
  have hcounted := State.countMiss_frame s (s.jobDie j / 16)
  have hseq : (s.countMiss (s.jobDie j / 16)).seq = s.seq := by
    unfold State.countMiss State.trainErr
    split <;> rfl
  have hcount := getR_countMiss (s := s) (s.jobDie j / 16)
  generalize s.countMiss (s.jobDie j / 16) = u at hcounted hseq hcount ⊢
  refine ⟨_, rfl, ?_, ?_, ?_, hcount, .after (State.want_frame ..) (.after (State.setJob_frame ..) (hcounted.mono rfl) rfl) rfl⟩
  · exact job?_setJob_same (j := { j with tries := j.tries + 1 }) ((job?_of_seq hseq _).trans h.receives.job)
  · rw [die_want_same]
    exact (congrArg Die.moving (die_of_seq hseq _)).trans h.receives.moving
  · rw [die_want_same]

theorem lost (h : s.Arrives j id i e o) (htries : 2 ≤ j.tries) :
    ∃ t e', s.envIn (s.jobDie j) o j buf = t ∧ t.job? j.id = none ∧ t.getR R.RC_ENV_CNT_LOST = s.getR R.RC_ENV_CNT_LOST + 1 ∧
      t.desc? id = some e' ∧ e'.results[i]? = some (some { status := St.frameLost }) := by
  have hends := (((h.reads.of_frame (State.countMiss_frame s (s.jobDie j / 16)) rfl).bump
    R.RC_ENV_CNT_LOST).jobFailed_decides St.frameLost).runGoesOn (s.jobDie j)
  obtain ⟨e', hfound, hresult⟩ := hends.entry
  refine ⟨_, e', (envIn_missed hfull hplace).trans (envMissed_lost _ htries h.first), hends.gone, ?_, hfound, hresult⟩
  rw [hends.getR rfl, getR_bump_same, getR_countMiss_ne _ rfl (by decide)]

end

end Arrives

/-! ### Headers that are read alone (R145, R234) -/

theorem headerReceived_ends {code : Nat} {data content : Bytes} (h : s.Receives j) (hreads : s.Reads j id i e) (halone : j.header = true)
    (hopen : j.hdrDone = false) (hcode : headerCode (s.die (s.jobDie j)).envCtrl j.addr data = (code, content))
    (hkept : code ≠ 3 ∨ bit (field e.bytes 4 1) 0 = false) :
    ∃ t e', exec (.headerReceived j.id data) s = .next t ∧ t.job? j.id = none ∧ t.desc? id = some e' ∧ e'.results[i]? = some (some
      { status := if code = 2 then St.erased else if code = 3 then St.uncorrectable else St.ok, outcome := code, content := content }) := by
  have hends := ((hreads.of_frame (transferEnded_frame j) rfl).headerIn_ends content hkept).after (State.wantHeader_frame _ (s.jobDie j))
    (wantHeader_keeps _).1
  obtain ⟨e', hfound, hresult⟩ := hends.entry
  exact ⟨_, e', h.header halone hopen data hcode, hends.gone, hfound, hresult⟩

theorem headerReceived_whole {data : Bytes} (h : s.Receives j) (hreads : s.Reads j id i e) (halone : j.header = true)
    (hopen : j.hdrDone = false) (hcode : (headerCode (s.die (s.jobDie j)).envCtrl j.addr data).1 = 3)
    (hrecover : bit (field e.bytes 4 1) 0 = true) :
    ∃ t, exec (.headerReceived j.id data) s = .next t ∧ t.job? j.id = some { j with header := false } ∧
      (t.die (s.jobDie j)).moving = none ∧ Frame (may [.flash]) s t := by
  obtain ⟨content, hpair⟩ : ∃ content, headerCode (s.die (s.jobDie j)).envCtrl j.addr data = (3, content) := ⟨_, Prod.ext hcode rfl⟩
  have hended := transferEnded_frame (s := s) j
  refine ⟨_, h.header halone hopen data hpair, ?_⟩
  rw [(hreads.of_frame hended rfl).headerIn_whole content hrecover]
  refine ⟨?_, (wantHeader_keeps _).2.trans (transferEnded_moving j),
    .after (State.wantHeader_frame ..) (.after (State.setJob_frame ..) hended rfl) rfl⟩
  rw [wantHeader_job?]
  exact job?_setJob_same (s := s.transferEnded j) (j := { j with header := false }) h.job

end State

/-- Settles O43: a whole envelope that arrives ends as `State.Arrives` says, a raw page as `State.rawIn_ends`, and a header read alone gives
its outcome or is read whole. The bytes that a data-out carries are the model's choice (log 95). -/
theorem envelopesAreReceived : Obligations.EnvelopesAreReceived := by
  refine ⟨fun s job id i lead skip k data buf j o e hjob hk hmoving hwant hop hlive hup hruns hwhole hstep hdest hdesc hopen hbuf hi hdata
      hlead => ?whole,
    fun s job id skip k data j e hjob hk hmoving hwant hup hruns hwhole hdest hdesc hopen hbuf hawake => ?raw,
    fun s job id i k data j e hjob hk hmoving hwant hup hruns halone hfresh hdest hdesc hopen hbuf hi => ?header⟩
  all_goals
    obtain rfl := State.id_of_job? hjob
    subst hk
  case whole =>
    subst hdata hlead
    have h : s.Arrives j id i e o := ⟨⟨hjob, hmoving, hwant, hup, hruns⟩, ⟨hdest, hdesc, hopen, hbuf, hi⟩, hwhole, hstep, hop, hlive⟩
    simp only [h.exec_eq, Host.Outcome.next.injEq]
    exact ⟨fun herased => h.erased herased, fun p hfull hplace => ⟨h.received hfull hplace, h.strayed hfull hplace⟩,
      fun hfull hplace => ⟨h.missed hfull hplace, h.lost hfull hplace⟩⟩
  case raw =>
    obtain ⟨hgone, hended, hout⟩ := State.rawIn_ends (s.dataOf j skip data) hdest hdesc hopen hbuf hawake
    exact ⟨_, State.Receives.rawPage ⟨hjob, hmoving, hwant, hup, hruns⟩ hwhole hdest data skip, hgone, hended, hout⟩
  case header =>
    have h : s.Receives j := ⟨hjob, hmoving, hwant, hup, hruns⟩
    have hreads : s.Reads j id i e := ⟨hdest, hdesc, hopen, hbuf, hi⟩
    exact ⟨fun code content hcode hkept => State.headerReceived_ends h hreads halone hfresh hcode hkept,
      fun hcode hrecover => State.headerReceived_whole h hreads halone hfresh hcode hrecover⟩

end Sys2Proof.Machine
end

section
/-! PROOFS. Closed pools and the drift of their groups (R151 to R154, R159). -/

namespace Sys2Proof.Machine
namespace State

variable {s : State} {p : Pool}

/-- A closed pool has given its estimate. -/
def poolTaken (s : State) (rd : Nat) : State := { s with rc := { s.rc with pools := s.rc.pools.filter (·.rd ≠ rd) } }

theorem poolTaken_frame (rd : Nat) : Frame 0x200 s (s.poolTaken rd) := withRc_frame _

/-- An estimate of a read that no job waits for is told to nobody. -/
theorem estimateTold_nobody {rd : Nat} (moved : Bool) (h : ∀ j ∈ s.seq.jobs, j.rd ≠ rd) : s.estimateTold rd moved = s := by
  have hnone : (s.seq.jobs.filter fun j => j.rd = rd && j.step = 0) = [] := List.filter_eq_nil_iff.2 fun j hj => by simp [h j hj]
  unfold State.estimateTold
  simp only [hnone, List.filter_nil, List.foldl_nil]

theorem execDriftEstimate_takes {r d g : Nat} (hpool : (s.rc.pools.find? fun q => q.closed && q.die = dieKey r d && q.group = g) = some p)
    (hruns : s.pipeRuns = true) (hjobs : ∀ j ∈ s.seq.jobs, j.rd ≠ p.rd) :
    exec (.driftEstimate r d g) s = .next ((s.applyEstimate p).2.poolTaken p.rd) := by
  have hsame : (s.applyEstimate p).2.seq.jobs = s.seq.jobs := jobs_of_frame (State.applyEstimate_frame s p) rfl
  have htold := estimateTold_nobody (s := (s.applyEstimate p).2.poolTaken p.rd) (rd := p.rd) (s.applyEstimate p).1
    fun j hj => hjobs j (hsame ▸ (show j ∈ (s.applyEstimate p).2.seq.jobs from hj))
  show execDriftEstimate r d g s = _
  unfold execDriftEstimate
  dsimp only
  rw [hpool]
  dsimp only
  rw [if_neg (by simp [hruns])]
  exact congrArg Host.Outcome.next htold

/-! ### The estimate (R152 to R154) -/

theorem applyEstimate_empty (h : s.poolCells p = []) : s.applyEstimate p = (false, s) := by
  unfold State.applyEstimate
  exact if_pos h

theorem applyEstimate_discards (hcells : s.poolCells p ≠ [])
    (hbad : s.keptF p.regs F.RC_PILOT_PLAUSIBLE < s.rberQ (s.dieClass p.die) p.ptype (s.poolCells p) ∨
      p.version ≠ s.version (recKey p.die p.group)) :
    s.applyEstimate p = (false, s.bump R.RC_CNT_DISCARD) := by
  unfold State.applyEstimate
  dsimp only
  rw [if_neg hcells, if_pos hbad]

/-- The drift values of a pool's group after its estimate (R153): those of the pool's page type moved and held to DRIFT_MAX. -/
def driftMoved (s : State) (p : Pool) : List Int :=
  let c := s.dieClass p.die
  let old := s.drift (recKey p.die p.group)
  let mx : Int := max 1 (s.keptF p.regs F.RC_PILOT_DRIFT_MAX)
  (List.range 15).map fun i => if 2 ^ s.cellBits c - 1 < i + 1 ∨ s.thrType c (i + 1) ≠ p.ptype then old.getD i 0
    else clampInt (-mx) mx (old.getD i 0 + (s.deltas p.regs c p.ptype (s.poolCells p)).getD i 0)

theorem driftMoved_getD {i : Nat} (hi : i < 15) (hlevel : i + 1 < 2 ^ s.cellBits (s.dieClass p.die))
    (htype : s.thrType (s.dieClass p.die) (i + 1) = p.ptype) :
    (s.driftMoved p).getD i 0 = clampInt (-(max 1 (s.keptF p.regs F.RC_PILOT_DRIFT_MAX) : Nat))
      (max 1 (s.keptF p.regs F.RC_PILOT_DRIFT_MAX) : Nat)
      ((s.drift (recKey p.die p.group)).getD i 0 + (s.deltas p.regs (s.dieClass p.die) p.ptype (s.poolCells p)).getD i 0) := by
  have hmoves : ¬ (2 ^ s.cellBits (s.dieClass p.die) - 1 < i + 1 ∨ s.thrType (s.dieClass p.die) (i + 1) ≠ p.ptype) := by
    rintro (h | h)
    · omega
    · exact h htype
  unfold driftMoved
  rw [List.getD_eq_getElem?_getD, List.getElem?_map, List.getElem?_range hi]
  simp only [Option.map_some, Option.getD_some, if_neg hmoves]
  push_cast
  rfl

/-- An estimate that stands changes the read channel by the group's drift and version alone, and by those only where the drift moves. -/
theorem applyEstimate_moves (hcells : s.poolCells p ≠ [])
    (hplausible : s.rberQ (s.dieClass p.die) p.ptype (s.poolCells p) ≤ s.keptF p.regs F.RC_PILOT_PLAUSIBLE)
    (hversion : p.version = s.version (recKey p.die p.group)) :
    (s.applyEstimate p).2.rc = if s.driftMoved p = s.drift (recKey p.die p.group) then s.rc
      else ((s.setDrift (recKey p.die p.group) (s.driftMoved p)).bumpVersion (recKey p.die p.group)).rc := by
  have hraise : ∀ u : State, (u.raise F.RC_EVENT_DRIFT_LIMIT).rc = u.rc := fun u =>
    (State.raise_frame (m := 0x48150012) u F.RC_EVENT_DRIFT_LIMIT rfl rfl rfl).rc rfl
  unfold State.applyEstimate
  dsimp only
  rw [if_neg hcells, if_neg (by rintro (h | h); exacts [by omega, h hversion])]
  by_cases hsame : s.driftMoved p = s.drift (recKey p.die p.group)
  · exact ((if_pos hsame).trans (congrArg (State.rc ∘ Prod.snd) (if_pos hsame)).symm).symm
  · rw [if_neg hsame]
    refine (congrArg (State.rc ∘ Prod.snd) (if_neg hsame)).trans ?_
    dsimp only [Function.comp]
    split
    · exact hraise _
    · rfl

/-! ### What the clause on estimates reads -/

theorem drift_of_rc {t : State} {x : Nat} (h : t.rc.drift = s.rc.drift) : t.drift x = s.drift x := by
  unfold State.drift
  rw [h]

theorem version_of_rc {t : State} {x : Nat} (h : t.rc.versions = s.rc.versions) (hera : t.rc.era = s.rc.era) : t.version x = s.version x := by
  unfold State.version
  rw [h, hera]

theorem drift_moved (x : Nat) (l : List Int) : ((s.setDrift x l).bumpVersion x).drift x = l := tget_tset_same _ _ _ _

theorem drift_moved_ne {x y : Nat} (l : List Int) (h : y ≠ x) : ((s.setDrift x l).bumpVersion x).drift y = s.drift y :=
  tget_tset_ne _ _ _ h

theorem version_moved (x : Nat) (l : List Int) : ((s.setDrift x l).bumpVersion x).version x = s.version x + 1 := by
  unfold State.version State.bumpVersion
  rw [tget_tset_same]
  rfl

theorem version_moved_ne {x y : Nat} (l : List Int) (h : y ≠ x) : ((s.setDrift x l).bumpVersion x).version y = s.version y :=
  congrArg (s.rc.era + ·) (tget_tset_ne _ _ _ h)

/-- An estimate that stands moves its group's drift, and its version with it; every other group stays. -/
theorem estimate_moves (hcells : s.poolCells p ≠ [])
    (hplausible : s.rberQ (s.dieClass p.die) p.ptype (s.poolCells p) ≤ s.keptF p.regs F.RC_PILOT_PLAUSIBLE)
    (hversion : p.version = s.version (recKey p.die p.group)) :
    ((s.applyEstimate p).2.poolTaken p.rd).rc.pools = s.rc.pools.filter (·.rd ≠ p.rd) ∧
    ((s.applyEstimate p).2.poolTaken p.rd).drift (recKey p.die p.group) = s.driftMoved p ∧
    (((s.applyEstimate p).2.poolTaken p.rd).drift (recKey p.die p.group) ≠ s.drift (recKey p.die p.group) →
      ((s.applyEstimate p).2.poolTaken p.rd).version (recKey p.die p.group) = s.version (recKey p.die p.group) + 1) ∧
    ∀ y, y ≠ recKey p.die p.group → ((s.applyEstimate p).2.poolTaken p.rd).drift y = s.drift y ∧
      ((s.applyEstimate p).2.poolTaken p.rd).version y = s.version y := by
  have hrc := applyEstimate_moves hcells hplausible hversion
  generalize (s.applyEstimate p).2 = u at hrc ⊢
  by_cases hsame : s.driftMoved p = s.drift (recKey p.die p.group)
  · rw [if_pos hsame] at hrc
    have hdrift : ∀ y, (u.poolTaken p.rd).drift y = s.drift y := fun y =>
      drift_of_rc (t := u.poolTaken p.rd) (show u.rc.drift = _ from congrArg Rc.drift hrc)
    refine ⟨congrArg (List.filter _) (congrArg Rc.pools hrc), (hdrift _).trans hsame.symm,
      fun hne => absurd (hdrift _) hne, fun y _ => ⟨hdrift y, ?_⟩⟩
    exact version_of_rc (show u.rc.versions = _ from congrArg Rc.versions hrc) (show u.rc.era = _ from congrArg Rc.era hrc)
  · rw [if_neg hsame] at hrc
    have hdrift : ∀ y, (u.poolTaken p.rd).drift y = _ := fun y =>
      drift_of_rc (t := u.poolTaken p.rd) (show u.rc.drift = _ from congrArg Rc.drift hrc)
    have hver : ∀ y, (u.poolTaken p.rd).version y = _ := fun y => version_of_rc (t := u.poolTaken p.rd)
      (show u.rc.versions = _ from congrArg Rc.versions hrc) (show u.rc.era = _ from congrArg Rc.era hrc)
    have hpools : u.rc.pools = s.rc.pools := by rw [hrc]; rfl
    exact ⟨congrArg (List.filter _) hpools, (hdrift _).trans (drift_moved ..), fun _ => (hver _).trans (version_moved ..),
      fun y hy => ⟨(hdrift y).trans (drift_moved_ne _ hy), (hver y).trans (version_moved_ne _ hy)⟩⟩

/-- The drift clause: what one closed pool makes of its group's drift. -/
theorem driftEstimate_takes {r d g : Nat} (hpool : (s.rc.pools.find? fun q => q.closed && q.die = dieKey r d && q.group = g) = some p)
    (hruns : s.pipeRuns = true) (hjobs : ∀ j ∈ s.seq.jobs, j.rd ≠ p.rd) :
    (s.poolCells p = [] → ∃ t, exec (.driftEstimate r d g) s = .next t ∧ t.rc.drift = s.rc.drift ∧ t.rc.versions = s.rc.versions ∧
      t.rc.pools = s.rc.pools.filter (·.rd ≠ p.rd) ∧ Frame (may [.readChannel]) s t) ∧
    (s.poolCells p ≠ [] → s.keptF p.regs F.RC_PILOT_PLAUSIBLE < s.rberQ (s.dieClass p.die) p.ptype (s.poolCells p) ∨
        p.version ≠ s.version (recKey p.die p.group) →
      ∃ t, exec (.driftEstimate r d g) s = .next t ∧ t.getR R.RC_CNT_DISCARD = s.getR R.RC_CNT_DISCARD + 1 ∧ t.rc.drift = s.rc.drift ∧
        t.rc.versions = s.rc.versions ∧ t.rc.pools = s.rc.pools.filter (·.rd ≠ p.rd) ∧ Frame (may [.readChannel, .regs 9]) s t) ∧
    (s.poolCells p ≠ [] → s.rberQ (s.dieClass p.die) p.ptype (s.poolCells p) ≤ s.keptF p.regs F.RC_PILOT_PLAUSIBLE →
        p.version = s.version (recKey p.die p.group) →
      ∃ t, exec (.driftEstimate r d g) s = .next t ∧ t.rc.pools = s.rc.pools.filter (·.rd ≠ p.rd) ∧
        (∀ i, i < 15 → i + 1 < 2 ^ s.cellBits (s.dieClass p.die) → s.thrType (s.dieClass p.die) (i + 1) = p.ptype →
          (t.drift (recKey p.die p.group)).getD i 0 = clampInt (-(max 1 (s.keptF p.regs F.RC_PILOT_DRIFT_MAX) : Nat))
            (max 1 (s.keptF p.regs F.RC_PILOT_DRIFT_MAX) : Nat)
            ((s.drift (recKey p.die p.group)).getD i 0 + (s.deltas p.regs (s.dieClass p.die) p.ptype (s.poolCells p)).getD i 0)) ∧
        (t.drift (recKey p.die p.group) ≠ s.drift (recKey p.die p.group) →
          t.version (recKey p.die p.group) = s.version (recKey p.die p.group) + 1) ∧
        ∀ y, y ≠ recKey p.die p.group → t.drift y = s.drift y ∧ t.version y = s.version y) := by
  have htakes := execDriftEstimate_takes hpool hruns hjobs
  refine ⟨fun hcells => ?_, fun hcells hbad => ?_, fun hcells hplausible hversion => ?_⟩
  · rw [applyEstimate_empty hcells] at htakes
    exact ⟨_, htakes, rfl, rfl, rfl, poolTaken_frame _⟩
  · rw [applyEstimate_discards hcells hbad] at htakes
    have hbump : Frame (may [.readChannel, .regs 9]) s (s.bump R.RC_CNT_DISCARD) :=
      (State.bump_frame (m := may [.regs 9]) _ _ rfl rfl).mono rfl
    exact ⟨_, htakes, getR_bump_same _ _, rfl, rfl, rfl, hbump.trans ((poolTaken_frame _).mono rfl)⟩
  · obtain ⟨hpools, hdrift, hversions, hothers⟩ := estimate_moves hcells hplausible hversion
    exact ⟨_, htakes, hpools, fun i hi hlevel htype => by rw [hdrift, driftMoved_getD hi hlevel htype], hversions, hothers⟩

end State
end Sys2Proof.Machine
end

section
/-! PROOFS. A free core takes an envelope, and what its input bits are (R139, R156, R158, R170). -/

namespace Sys2Proof.Machine
namespace State

variable {s : State}

/-! ### A decoder's input (R139, R156, R158) -/

theorem llr_sign (j : Job) (b : Nat) :
    (s.llr j b < 0 → clearBit j.addr j.centreRaw b = true) ∧ (0 < s.llr j b → clearBit j.addr j.centreRaw b = false) := by
  unfold State.llr
  cases clearBit j.addr j.centreRaw b
  · exact ⟨fun h => absurd h (by simp), fun _ => rfl⟩
  · exact ⟨fun _ => rfl, fun h => absurd h (by simp)⟩

theorem llr_natAbs (j : Job) (b : Nat) : (s.llr j b).natAbs = s.llrMagnitude j b := by
  unfold State.llr
  split <;> simp

theorem llrMagnitude_hard {j : Job} (b : Nat) (h : j.reads.length < 7) : s.llrMagnitude j b = s.keptF j.regs (F.RC_LLR_X_HARD j.llr) :=
  if_pos h

theorem llrMagnitude_agreed {j : Job} {b : Nat} (h : 7 ≤ j.reads.length)
    (hagree : (j.reads.countP fun q => rawBit q b = rawBit j.centreRaw b) = 7) :
    s.llrMagnitude j b = s.keptF j.regs (F.RC_LLR_X_L3 j.llr) := by
  unfold State.llrMagnitude
  dsimp only
  rw [if_neg (by omega), hagree]
  rfl

/-! ### A core takes its next envelope (R170) -/

/-- The LLR table of an envelope: that of the band of its own pilots (R156). -/
def llrTable (s : State) (j : Job) : Nat := if s.dieBits (s.jobDie j) = 0 then 3 else llrBand j.rber

/-- Core `c` has taken the envelope of job `j`, which route `r` brought. -/
def coreTaken (s : State) (c r : Nat) (j : Job) : State :=
  let u := (s.setJob { j with phase := .decoding c, llr := s.llrTable j }).setCoreJob c (some j.id)
  { u with rc := { u.rc with decQueue := u.rc.decQueue.filter (· ≠ j.id), corePtr := (r + 1) % 32 } }

theorem execDecoderCoreFree_takes {c r : Nat} {j : Job} (htake : s.stagesTake = true) (hworks : s.coreWorks c = true)
    (hfree : s.coreJob c = none) (hroute : s.decodeRoute = some r) (hnext : (s.decWaiting.find? fun x => s.jobRoute x = r) = some j) :
    exec (.decoderCoreFree c) s = .next (s.coreTaken c r j) := by
  show execDecoderCoreFree c s = _
  unfold execDecoderCoreFree
  rw [if_pos ⟨htake, hworks, by rw [hfree]; rfl⟩]
  unfold State.coreTake
  rw [hroute]
  dsimp only
  rw [hnext]
  rfl

theorem coreTaken_frame (c r : Nat) (j : Job) : Frame (may [.flash, .readChannel]) s (s.coreTaken c r j) :=
  ((withSeq_frame _).mono rfl).trans (((State.setCoreJob_frame ..).mono rfl).trans ((withRc_frame _).mono rfl))

theorem coreTaken_coreJob (c r : Nat) (j : Job) : (s.coreTaken c r j).coreJob c = some j.id := tget_tset_same _ _ _ _

theorem coreTaken_leaves (c r : Nat) (j : Job) : j.id ∉ (s.coreTaken c r j).rc.decQueue := fun h => by
  simpa using (List.mem_filter.1 h).2

theorem job?_of_decWaiting {j : Job} (h : j ∈ s.decWaiting) : s.job? j.id = some j := by
  obtain ⟨i, -, hi⟩ := List.mem_filterMap.1 h
  rw [id_of_job? hi, hi]

theorem coreTaken_job? {j : Job} (c r : Nat) (h : s.job? j.id = some j) :
    (s.coreTaken c r j).job? j.id = some { j with phase := .decoding c, llr := s.llrTable j } :=
  job?_setJob_same (j := { j with phase := .decoding c, llr := s.llrTable j }) h

/-- The core clause: a free core takes the first envelope of the route whose turn it is, and what its input bits are. -/
theorem decoderCoreFree_takes {core r : Nat} {j : Job} (htake : s.stagesTake = true) (hworks : s.coreWorks core = true)
    (hfree : s.coreJob core = none) (hroute : s.decodeRoute = some r) (hnext : (s.decWaiting.find? fun x => s.jobRoute x = r) = some j) :
    ∃ t j', exec (.decoderCoreFree core) s = .next t ∧ t.coreJob core = some j.id ∧ t.job? j.id = some j' ∧
      j'.phase = .decoding core ∧ j'.llr = (if s.dieBits (s.jobDie j) = 0 then 3 else llrBand j.rber) ∧ j.id ∉ t.rc.decQueue ∧
      t.rc.corePtr = (r + 1) % 32 ∧ Frame (may [.flash, .readChannel]) s t ∧
      ∀ b, (t.llr j' b < 0 → clearBit j.addr j.centreRaw b = true) ∧ (0 < t.llr j' b → clearBit j.addr j.centreRaw b = false) ∧
        (j.reads.length < 7 → (t.llr j' b).natAbs = s.keptF j.regs (F.RC_LLR_X_HARD j'.llr)) ∧
        (7 ≤ j.reads.length → (j.reads.countP fun q => rawBit q b = rawBit j.centreRaw b) = 7 →
          (t.llr j' b).natAbs = s.keptF j.regs (F.RC_LLR_X_L3 j'.llr)) := by
  have hjob := job?_of_decWaiting (List.mem_of_find?_eq_some hnext)
  refine ⟨_, _, execDecoderCoreFree_takes htake hworks hfree hroute hnext, coreTaken_coreJob .., coreTaken_job? core r hjob, rfl, rfl,
    coreTaken_leaves core r j, rfl, coreTaken_frame .., fun b => ?_⟩
  obtain ⟨hneg, hpos⟩ := llr_sign (s := s.coreTaken core r j) { j with phase := .decoding core, llr := s.llrTable j } b
  refine ⟨hneg, hpos, fun hlen => ?_, fun hlen hagree => ?_⟩
  · exact (llr_natAbs _ b).trans (llrMagnitude_hard b hlen)
  · exact (llr_natAbs _ b).trans (llrMagnitude_agreed hlen hagree)

end State
end Sys2Proof.Machine
end

section
/-! PROOFS. A decode that passes, and one that fails (R139, R151, R155, R157, R159, R172). -/

namespace Sys2Proof.Machine
namespace State

variable {s : State} {j : Job}

/-! ### The decode that ends -/

/-- What a decode that reached `word` gives its envelope. -/
def decodeResult (j : Job) (word : Bytes) : EnvRes :=
  { status := j.okStatus, outcome := 4, content := slice (decodeWord j.addr j.centreRaw word) 24 30,
    payload := slice (decodeWord j.addr j.centreRaw word) 64 4096 }

theorem execDecodeDone_takes {core iters job : Nat} {word : Bytes} (hcore : s.coreJob core = some job) (hjob : s.job? job = some j)
    (hruns : s.pipeRuns = true) : exec (.decodeDone core iters word) s =
      .next (if s.decodeOk j iters word then ((s.setCoreJob core none).countDecode j).jobFinal j (decodeResult j word) 0 0
        else (s.setCoreJob core none).decodeFailed { j with phase := .received }) := by
  show execDecodeDone core iters word s = _
  unfold execDecodeDone
  rw [hcore, Option.bind_some, hjob]
  dsimp only
  rw [if_neg (by simp [hruns])]
  show (if s.decodeOk j iters word = true then _ else _ : Host.Outcome State Fault Refusal) = _
  split <;> rfl

/-! ### A decode that passes (R155, R172) -/

theorem countDecode_coreJob (c : Nat) : (s.countDecode j).coreJob c = s.coreJob c := coreJob_of_rc ((State.countDecode_frame s j).rc rfl) c

theorem countDecode_first (h : j.step = 0) : (s.countDecode j).getR R.RC_CNT_FIRST = s.getR R.RC_CNT_FIRST + 1 := by
  unfold State.countDecode
  rw [if_pos h]
  dsimp only
  split
  · rw [getR_bump_ne _ (by decide), getR_bump_same]
  · split
    · rw [getR_bump_ne _ (by decide), getR_bump_same]
    · exact getR_bump_same _ _

theorem decode_passes {core iters job id i : Nat} {word : Bytes} {e : Desc} (hcore : s.coreJob core = some job)
    (hjob : s.job? job = some j) (hruns : s.pipeRuns = true) (hreads : s.Reads j id i e) (hok : s.decodeOk j iters word = true) :
    ∃ t e', exec (.decodeDone core iters word) s = .next t ∧ t.job? job = none ∧ t.coreJob core = none ∧ t.desc? id = some e' ∧
      e'.results[i]? = some (some (decodeResult j word)) ∧
      (j.step = 0 → t.getR R.RC_CNT_FIRST = s.getR R.RC_CNT_FIRST + 1) := by
  have hcounted := (hreads.of_frame (State.setCoreJob_frame s core none) rfl).of_frame (State.countDecode_frame _ j) rfl
  have hends := hcounted.jobFinal_decides (decodeResult j word)
  have hfree : ((s.setCoreJob core none).countDecode j).coreJob core = none :=
    (countDecode_coreJob core).trans (coreJob_setCoreJob_same ..)
  have hexec := execDecodeDone_takes (iters := iters) (word := word) hcore hjob hruns
  rw [if_pos hok] at hexec
  obtain ⟨e', hdesc, hentry⟩ := hends.entry
  refine ⟨_, e', hexec, id_of_job? hjob ▸ hends.gone, hends.free core hfree, hdesc, hentry, fun hstep => ?_⟩
  rw [hends.getR (by decide), countDecode_first hstep]
  rfl

/-! ### A decode that fails (R159) -/

theorem decode_fails {core iters job : Nat} {word : Bytes} (hcore : s.coreJob core = some job) (hjob : s.job? job = some j)
    (hruns : s.pipeRuns = true) (hbad : s.decodeOk j iters word = false) :
    exec (.decodeDone core iters word) s = .next ((s.setCoreJob core none).decodeFailed { j with phase := .received }) := by
  rw [execDecodeDone_takes hcore hjob hruns, if_neg (by simp [hbad])]

theorem decodeFailed_waits (hstep : j.step = 0) (hgroup : j.offGroup = false) (hpool : ∃ p ∈ s.rc.pools, p.rd = j.rd) :
    s.decodeFailed j = s.setJob { j with phase := .ladderWait, estWait := true } := by
  obtain ⟨p, hp, hrd⟩ := hpool
  exact if_pos ⟨hstep, hgroup, List.any_eq_true.2 ⟨p, hp, decide_eq_true hrd⟩⟩

theorem decodeFailed_goesOn (hstep : j.step ≠ 0) : s.decodeFailed j = s.ladderGo j := if_neg fun h => hstep h.1

/-! ### The ladder's end, and its deep read (R158, R159, Table 7-3) -/

theorem ladderGo_reconstructs (hlast : s.nextLadder j = 4) (hrecon : j.recon = true) {id i : Nat} (hdest : j.dest = .desc id i) :
    s.ladderGo j = (s.bump R.RC_CNT_UNCORR).toContext j St.uncorrectable := by
  unfold State.ladderGo
  dsimp only
  rw [hlast, if_neg (by decide), hdest]
  dsimp only
  rw [if_pos hrecon]

theorem ladderGo_deep (hnext : s.nextLadder j = 3) (hread : s.unreadable j.addr true = none) :
    s.ladderGo j = s.ladderRead { j with step := 3, reads := j.reads.take 1 } (some (s.softBase j 3 0)) := by
  unfold State.ladderGo
  dsimp only
  rw [hnext, if_pos (by decide), hread]
  rfl

/-- A ladder's array read of job `j`, in an operation that waits for the same read or in one of its own. -/
theorem ladderRead_waits {base : Option (List Int)} {x : Job} (h : s.job? j.id = some x) :
    (s.ladderRead j base).job? j.id = some { j with phase := .waitDie, tries := 0 } ∧
    ∃ o ∈ (s.ladderRead j base).seq.waiting, j.id ∈ o.jobs ∧ o.base = base := by
  have hjob := job?_setJob_same (s := s) (j := { j with phase := .waitDie, tries := 0 }) h
  unfold State.ladderRead
  dsimp only
  split
  next o ho =>
    have hbase : o.base = base := by
      have hsame := List.find?_some ho
      simp only [Bool.and_eq_true, decide_eq_true_eq] at hsame
      tauto
    refine ⟨hjob, _, List.mem_map_of_mem (List.mem_of_find?_eq_some ho), ?_, ?_⟩
    · rw [if_pos rfl]
      exact mem_sortBy.2 (by simp)
    · rw [if_pos rfl]
      exact hbase
  · exact ⟨hjob, _, List.mem_append_right _ (List.mem_singleton_self _), List.mem_singleton_self _, rfl⟩

end State
end Sys2Proof.Machine
end

section
/-! PROOFS. What a failed decode leaves of its envelope (R159, Table 7-3). -/

namespace Sys2Proof.Machine
namespace State

variable {s : State} {j : Job} {core iters job : Nat} {word : Bytes}

/-- A step behind a core's release that leaves the read channel as it was leaves the core free. -/
theorem coreJob_freed {m : Nat} {t : State} (h : Frame m (s.setCoreJob core none) t) (h9 : m.testBit 9 = false) : t.coreJob core = none :=
  (coreJob_of_rc (h.rc h9) core).trans (coreJob_setCoreJob_same ..)

theorem decode_waits (hcore : s.coreJob core = some job) (hjob : s.job? job = some j) (hruns : s.pipeRuns = true)
    (hbad : s.decodeOk j iters word = false) (hstep : j.step = 0) (hgroup : j.offGroup = false) (hpool : ∃ p ∈ s.rc.pools, p.rd = j.rd) :
    ∃ t, exec (.decodeDone core iters word) s = .next t ∧ t.coreJob core = none ∧
      t.job? job = some { j with phase := .ladderWait, estWait := true } ∧ Frame (may [.flash, .readChannel]) s t := by
  have hwaits := decodeFailed_waits (s := s.setCoreJob core none) (j := { j with phase := .received }) hstep hgroup hpool
  have hset := State.setJob_frame (s.setCoreJob core none) { j with phase := .ladderWait, estWait := true }
  obtain rfl := id_of_job? hjob
  refine ⟨_, (decode_fails hcore hjob hruns hbad).trans (congrArg _ hwaits), coreJob_freed hset rfl, ?_, ?_⟩
  · exact job?_setJob_same (s := s.setCoreJob core none) (j := { j with phase := .ladderWait, estWait := true }) (x := j) hjob
  · exact ((State.setCoreJob_frame ..).mono rfl).trans (hset.mono rfl)

theorem decode_reconstructs {id i : Nat} (hcore : s.coreJob core = some job) (hjob : s.job? job = some j) (hruns : s.pipeRuns = true)
    (hbad : s.decodeOk j iters word = false) (hstep : j.step ≠ 0) (hlast : s.nextLadder j = 4) (hrecon : j.recon = true)
    (hdest : j.dest = .desc id i) :
    ∃ t, exec (.decodeDone core iters word) s = .next t ∧ t.coreJob core = none ∧
      t.job? job = some { j with phase := .waitCtx, why := St.uncorrectable, decIn := false } ∧
      t.getR R.RC_CNT_UNCORR = s.getR R.RC_CNT_UNCORR + 1 ∧ Frame (may [.flash, .readChannel, .regs 9]) s t := by
  have hgoes := (decodeFailed_goesOn (s := s.setCoreJob core none) (j := { j with phase := .received }) hstep).trans
    (ladderGo_reconstructs hlast hrecon hdest)
  have hframe : Frame (may [.flash, .regs 9]) (s.setCoreJob core none) (((s.setCoreJob core none).bump R.RC_CNT_UNCORR).toContext
      { j with phase := .received } St.uncorrectable) :=
    ((State.bump_frame (m := may [.regs 9]) _ _ rfl rfl).mono rfl).trans ((State.toContext_frame ..).mono rfl)
  obtain rfl := id_of_job? hjob
  refine ⟨_, (decode_fails hcore hjob hruns hbad).trans (congrArg _ hgoes), coreJob_freed hframe rfl, ?_, getR_bump_same .., ?_⟩
  · exact job?_setJob_same (s := (s.setCoreJob core none).bump R.RC_CNT_UNCORR)
      (j := { j with phase := .waitCtx, why := St.uncorrectable, decIn := false }) (x := j) hjob
  · exact ((State.setCoreJob_frame ..).mono rfl).trans (hframe.mono rfl)

theorem decode_goesDeep (hcore : s.coreJob core = some job) (hjob : s.job? job = some j) (hruns : s.pipeRuns = true)
    (hbad : s.decodeOk j iters word = false) (hstep : j.step ≠ 0) (hnext : s.nextLadder j = 3)
    (hread : s.unreadable j.addr true = none) :
    ∃ t j', exec (.decodeDone core iters word) s = .next t ∧ t.coreJob core = none ∧ t.job? job = some j' ∧ j'.step = 3 ∧
      j'.phase = .waitDie ∧ j'.reads = j.reads.take 1 ∧ (∃ o ∈ t.seq.waiting, job ∈ o.jobs ∧ o.base = some (s.softBase j 3 0)) ∧
      Frame (may [.flash, .readChannel, .regs 9]) s t := by
  have hgoes := (decodeFailed_goesOn (s := s.setCoreJob core none) (j := { j with phase := .received }) hstep).trans
    (ladderGo_deep hnext hread)
  have hframe := State.ladderRead_frame (s.setCoreJob core none) { j with phase := .received, step := 3, reads := j.reads.take 1 }
    (some (s.softBase j 3 0))
  obtain rfl := id_of_job? hjob
  obtain ⟨hafter, hwaiting⟩ := ladderRead_waits (s := s.setCoreJob core none)
    (j := { j with phase := .received, step := 3, reads := j.reads.take 1 }) (base := some (s.softBase j 3 0)) (x := j) hjob
  exact ⟨_, _, (decode_fails hcore hjob hruns hbad).trans (congrArg _ hgoes), coreJob_freed hframe rfl, hafter, rfl, rfl, rfl, hwaiting,
    ((State.setCoreJob_frame ..).mono rfl).trans (hframe.mono rfl)⟩

end State
end Sys2Proof.Machine
end

section
/-! PROOFS. A core that fails is retired, and a spare takes its place (R27, R171). -/

namespace Sys2Proof.Machine

theorem length_insertAsc_new {l : List Nat} {x : Nat} (h : x ∉ l) : (insertAsc l x).length = l.length + 1 := by
  have hparts : l.length = l.countP (· < x) + l.countP (x < ·) := by
    rw [List.length_eq_countP_add_countP (· < x)]
    refine congrArg _ (List.countP_congr fun y hy => ?_)
    have hne : y ≠ x := fun hyx => h (hyx ▸ hy)
    simp only [decide_eq_true_eq]
    omega
  unfold insertAsc
  simp only [List.length_append, List.length_cons, List.length_nil, ← List.countP_eq_length_filter]
  omega

theorem mem_of_mem_insertAsc {l : List Nat} {x y : Nat} (h : y ∈ insertAsc l x) : y = x ∨ y ∈ l := by
  unfold insertAsc at h
  simp only [List.mem_append, List.mem_filter, List.mem_singleton] at h
  tauto

namespace State

variable {s : State} {c : Nat}

/-! ### What the changes of the pool keep -/

/-- From `s` to `t` the cores in use may differ; which are retired, what they hold and what waits for them do not. -/
structure PoolKept (s t : State) : Prop where
  seq : t.seq = s.seq
  retired : t.rc.retired = s.rc.retired
  cores : t.rc.cores = s.rc.cores
  waiting : t.rc.decQueue = s.rc.decQueue
  failed : ∀ i, t.getR (R.RC_CORE_FAIL i) = s.getR (R.RC_CORE_FAIL i)

namespace PoolKept

variable {t u : State}

theorem refl (s : State) : PoolKept s s := ⟨rfl, rfl, rfl, rfl, fun _ => rfl⟩

theorem trans (h : PoolKept s t) (k : PoolKept t u) : PoolKept s u :=
  ⟨k.seq.trans h.seq, k.retired.trans h.retired, k.cores.trans h.cores, k.waiting.trans h.waiting, fun i => (k.failed i).trans (h.failed i)⟩

theorem of_eqs (hseq : t.seq = s.seq) (hrc : t.rc = s.rc) (hfailed : ∀ i, t.getR (R.RC_CORE_FAIL i) = s.getR (R.RC_CORE_FAIL i)) :
    PoolKept s t :=
  ⟨hseq, by rw [hrc], by rw [hrc], by rw [hrc], hfailed⟩

theorem setF {f : Field} (v : Nat) (h : f.off = R.RC_STATUS) : PoolKept s (s.setF f v) :=
  of_eqs rfl rfl fun i => getR_setF_ne s v (by rw [h]; unfold R.RC_CORE_FAIL R.RC_STATUS; omega)

theorem raise {f : Field} (h : f.off = R.RC_EVENT) (hrc : (s.raise f).rc = s.rc) : PoolKept s (s.raise f) :=
  of_eqs (raise_seq f) hrc fun i => raise_getR_ne s
    ⟨by unfold R.RC_CORE_FAIL R.MODE; omega, by unfold R.RC_CORE_FAIL R.PWR_WAKE; omega, by unfold R.RC_CORE_FAIL; omega⟩
    (by rw [h]; unfold R.RC_CORE_FAIL R.RC_EVENT; omega)

theorem cutOne (s : State) : PoolKept s s.cutOne := by
  unfold State.cutOne
  split
  · exact ⟨rfl, rfl, rfl, rfl, fun _ => rfl⟩
  · exact refl s

theorem foldl_cutOne (l : List Nat) (s : State) : PoolKept s (l.foldl (fun u _ => u.cutOne) s) := by
  induction l generalizing s with
  | nil => exact refl s
  | cons _ l ih => exact (cutOne s).trans (ih _)

theorem poolShort (s : State) : PoolKept s s.poolShort := by
  unfold State.poolShort
  dsimp only
  split
  · exact refl s
  · exact (foldl_cutOne _ s).trans ((setF 1 rfl).trans
      (raise rfl ((State.raise_frame (m := 0x48150012) _ F.RC_EVENT_DECODER_SHORT rfl rfl rfl).rc rfl)))

end PoolKept

/-! ### The steps of a core's retirement -/

/-- The envelope that core `c` held waits again, before all others. -/
def coreGivenBack (s : State) (c : Nat) : State :=
  match (s.coreJob c).bind s.job? with
  | some j =>
    let u := (s.setJob { j with phase := .received }).setCoreJob c none
    { u with rc := { u.rc with decQueue := j.id :: u.rc.decQueue } }
  | none => s

/-- Core `c` is marked as failed. -/
def coreOut (s : State) (c : Nat) : State :=
  ({ s with rc := { s.rc with retired := insertAsc s.rc.retired c } } : State).setF ⟨R.RC_CORE_FAIL (c / 32), c % 32, 1⟩ 1

/-- The lowest-numbered unused spare comes into use, or the guarantees shrink. -/
def coreReplaced (s : State) : State :=
  match s.spareCores with
  | m :: _ => ({ s with rc := { s.rc with subst := insertAsc s.rc.subst m } } : State).raise F.RC_EVENT_CORE_SUBST
  | [] => s.poolShort

/-- The status register shows the pool. -/
def poolShown (s : State) : State :=
  (s.setF F.RC_STATUS_CORES_OK (68 - s.rc.retired.length)).setF F.RC_STATUS_SPARES_LEFT s.spareCores.length

theorem not_retired_of_coreWorks (h : s.coreWorks c = true) : c ∉ s.rc.retired := by
  unfold State.coreWorks at h
  simp only [Bool.and_eq_true, Bool.not_eq_true', List.contains_eq_mem, decide_eq_false_iff_not] at h
  exact h.2

theorem coreRetire_eq (h : s.coreWorks c = true) : s.coreRetire c = ((s.coreGivenBack c).coreOut c).coreReplaced.poolShown := by
  have hin : ¬ s.rc.retired.contains c = true := by simpa using not_retired_of_coreWorks h
  have hworked : ¬ s.coreWorks c = false := by simp [h]
  unfold State.coreRetire
  rw [if_neg hin]
  dsimp only
  rw [if_neg hworked]
  rfl

/-! ### What each step leaves -/

theorem coreGivenBack_idle (h : s.coreJob c = none) : s.coreGivenBack c = s := by
  unfold coreGivenBack
  rw [h]
  rfl

theorem coreGivenBack_held {job : Nat} {j : Job} (hcore : s.coreJob c = some job) (hjob : s.job? job = some j) :
    (s.coreGivenBack c).coreJob c = none ∧ (s.coreGivenBack c).rc.decQueue = job :: s.rc.decQueue ∧
    (s.coreGivenBack c).job? job = some { j with phase := .received } := by
  obtain rfl := id_of_job? hjob
  unfold coreGivenBack
  rw [hcore, Option.bind_some, hjob]
  exact ⟨tget_tset_same _ _ _ _, rfl, job?_setJob_same (s := s) (j := { j with phase := .received }) (x := j) hjob⟩

theorem coreGivenBack_keeps (c : Nat) : (s.coreGivenBack c).rc.retired = s.rc.retired ∧ (s.coreGivenBack c).rc.subst = s.rc.subst := by
  unfold coreGivenBack
  split <;> exact ⟨rfl, rfl⟩

theorem coreOut_failed (c : Nat) : (s.coreOut c).getF ⟨R.RC_CORE_FAIL (c / 32), c % 32, 1⟩ = 1 :=
  getF_setF_same _ _ 1 (show c % 32 + 1 ≤ 32 by omega)

/-- A working core is none of the spares that are left. -/
theorem not_spare_of_coreWorks (h : s.coreWorks c = true) : c ∉ s.spareCores := by
  unfold State.spareCores
  unfold State.coreWorks at h
  simp only [List.mem_filter, List.mem_cons, List.not_mem_nil, or_false, Bool.and_eq_true, Bool.or_eq_true, Bool.not_eq_true',
    List.contains_eq_mem, decide_eq_true_eq, decide_eq_false_iff_not] at h ⊢
  rintro ⟨hspare, hunused, -⟩
  rcases h.1 with hcore | hused
  · omega
  · exact hunused hused

/-- The spares that are left stay left when a working core fails. -/
theorem coreOut_spareCores (h : s.coreWorks c = true) : (s.coreOut c).spareCores = s.spareCores := by
  have hnot := not_spare_of_coreWorks h
  unfold State.spareCores at hnot ⊢
  refine List.filter_congr fun x hx => ?_
  have hsubst : (s.coreOut c).rc.subst = s.rc.subst := rfl
  have hretired : (s.coreOut c).rc.retired = insertAsc s.rc.retired c := rfl
  rw [hsubst, hretired]
  by_cases hxc : x = c
  · subst hxc
    have hused : (!s.rc.subst.contains x && !s.rc.retired.contains x) = false :=
      Bool.eq_false_iff.2 fun hp => hnot (List.mem_filter.2 ⟨hx, hp⟩)
    have hin : x ∉ s.rc.retired := not_retired_of_coreWorks h
    simp_all
  · have hmem : x ∈ insertAsc s.rc.retired c ↔ x ∈ s.rc.retired :=
      ⟨fun hy => (mem_of_mem_insertAsc hy).resolve_left hxc, mem_insertAsc_of_mem⟩
    simp only [List.contains_eq_mem, hmem]

theorem coreReplaced_keeps (s : State) : PoolKept s s.coreReplaced := by
  unfold coreReplaced
  split
  next m _ _ =>
    have hused : PoolKept s { s with rc := { s.rc with subst := insertAsc s.rc.subst m } } := ⟨rfl, rfl, rfl, rfl, fun _ => rfl⟩
    exact hused.trans (.raise rfl ((State.raise_frame (m := 0x48150012) _ F.RC_EVENT_CORE_SUBST rfl rfl rfl).rc rfl))
  · exact .poolShort s

theorem coreReplaced_spare {m : Nat} {l : List Nat} (h : s.spareCores = m :: l) :
    s.coreReplaced.coreWorks m = true ∧ s.coreReplaced.getF F.RC_EVENT_CORE_SUBST = 1 := by
  have hspare : m ∈ s.spareCores := by rw [h]; exact List.mem_cons_self
  have hleft : m ∉ s.rc.retired := by
    have hp := (List.mem_filter.1 hspare).2
    simp only [Bool.and_eq_true, Bool.not_eq_true', List.contains_eq_mem, decide_eq_false_iff_not] at hp
    exact hp.2
  have hsome : s.coreReplaced = ({ s with rc := { s.rc with subst := insertAsc s.rc.subst m } } : State).raise F.RC_EVENT_CORE_SUBST := by
    unfold coreReplaced
    rw [h]
  rw [hsome]
  refine ⟨?_, raise_getF _ (by decide) rfl (by decide)⟩
  unfold State.coreWorks
  rw [(State.raise_frame (m := 0x48150012) _ F.RC_EVENT_CORE_SUBST rfl rfl rfl).rc rfl]
  simp [mem_insertAsc_self, hleft]

theorem poolShown_keeps (s : State) : PoolKept s s.poolShown := PoolKept.trans (.setF _ rfl) (.setF _ rfl)

theorem poolShown_coresOk (s : State) : s.poolShown.getF F.RC_STATUS_CORES_OK = 68 - s.rc.retired.length := by
  unfold poolShown
  rw [getF_setF_ne _ _ (Or.inr (Or.inl (by decide))) (by decide), getF_setF_same _ _ _ (by decide)]
  exact Nat.mod_eq_of_lt (show 68 - s.rc.retired.length < 128 by omega)

/-! ### The retirement -/

theorem coreRetire_keeps (h : s.coreWorks c = true) : PoolKept ((s.coreGivenBack c).coreOut c) (s.coreRetire c) := by
  rw [coreRetire_eq h]
  exact (coreReplaced_keeps _).trans (poolShown_keeps _)

theorem coreRetire_retired (h : s.coreWorks c = true) : (s.coreRetire c).rc.retired = insertAsc s.rc.retired c :=
  (coreRetire_keeps h).retired.trans (congrArg (insertAsc · c) (coreGivenBack_keeps c).1)

theorem coreRetire_stops (h : s.coreWorks c = true) : (s.coreRetire c).coreWorks c = false := by
  unfold State.coreWorks
  rw [coreRetire_retired h]
  simp [mem_insertAsc_self]

theorem coreRetire_failed (h : s.coreWorks c = true) : (s.coreRetire c).getF ⟨R.RC_CORE_FAIL (c / 32), c % 32, 1⟩ = 1 := by
  have hmarked := coreOut_failed (s := s.coreGivenBack c) c
  unfold State.getF at hmarked ⊢
  rw [(coreRetire_keeps h).failed]
  exact hmarked

theorem coreRetire_coresOk (h : s.coreWorks c = true) :
    (s.coreRetire c).getF F.RC_STATUS_CORES_OK = 68 - (s.rc.retired.length + 1) := by
  have hretired := (coreReplaced_keeps ((s.coreGivenBack c).coreOut c)).retired
  have hout : ((s.coreGivenBack c).coreOut c).rc.retired = insertAsc s.rc.retired c := congrArg (insertAsc · c) (coreGivenBack_keeps c).1
  rw [coreRetire_eq h, poolShown_coresOk, hretired, hout, length_insertAsc_new (not_retired_of_coreWorks h)]

theorem coreRetire_spare {m : Nat} {l : List Nat} (h : s.coreWorks c = true) (hspare : s.spareCores = m :: l) :
    (s.coreRetire c).coreWorks m = true ∧ (s.coreRetire c).getF F.RC_EVENT_CORE_SUBST = 1 := by
  obtain ⟨hretired, hsubst⟩ := coreGivenBack_keeps (s := s) c
  have hworks : (s.coreGivenBack c).coreWorks c = true := by
    unfold State.coreWorks at h ⊢
    rw [hretired, hsubst, h]
  have hback : (s.coreGivenBack c).spareCores = s.spareCores := by
    unfold State.spareCores
    rw [hretired, hsubst]
  obtain ⟨hm, hevent⟩ := coreReplaced_spare ((coreOut_spareCores hworks).trans (hback.trans hspare))
  rw [coreRetire_eq h]
  refine ⟨hm, ?_⟩
  unfold poolShown
  rw [getF_setF_far _ (by decide), getF_setF_far _ (by decide), hevent]

theorem coreRetire_frees (h : s.coreWorks c = true) (hjobs : ∀ job, s.coreJob c = some job → (s.job? job).isSome = true) :
    (s.coreRetire c).coreJob c = none := by
  have hback : (s.coreGivenBack c).coreJob c = none := by
    cases hcore : s.coreJob c with
    | none => rw [coreGivenBack_idle hcore, hcore]
    | some job =>
      obtain ⟨j, hjob⟩ := Option.isSome_iff_exists.1 (hjobs job hcore)
      exact (coreGivenBack_held hcore hjob).1
  unfold State.coreJob at hback ⊢
  rw [(coreRetire_keeps h).cores]
  exact hback

theorem coreRetire_redecodes {job : Nat} {j : Job} (h : s.coreWorks c = true) (hcore : s.coreJob c = some job)
    (hjob : s.job? job = some j) : (s.coreRetire c).rc.decQueue = job :: s.rc.decQueue ∧
      (s.coreRetire c).job? job = some { j with phase := .received } := by
  obtain ⟨-, hqueue, hback⟩ := coreGivenBack_held hcore hjob
  refine ⟨(coreRetire_keeps h).waiting.trans hqueue, ?_⟩
  unfold State.job? at hback ⊢
  rw [(coreRetire_keeps h).seq]
  exact hback

/-- A working core is retired by a self-test that fails while it is idle, and by a fault of its checker (R171). -/
theorem exec_retires {i : Instr} (hworks : s.coreWorks c = true)
    (hcause : (i = .decoderSelfTestDue c false ∧ s.pipeRuns = true ∧ s.coreJob c = none) ∨
      (i = .decoderCheckerFault c ∧ s.coreRuns = true)) : exec i s = .next (s.coreRetire c) := by
  rcases hcause with ⟨rfl, hruns, hidle⟩ | ⟨rfl, hruns⟩
  · show execDecoderSelfTestDue c false s = _
    unfold execDecoderSelfTestDue
    rw [if_neg (by simp [hruns, hworks, hidle])]
  · show execDecoderCheckerFault c s = _
    unfold execDecoderCheckerFault
    rw [if_pos ⟨hruns, hworks⟩]

end State
end Sys2Proof.Machine
end

section
/-! PROOFS. Decoders and drift serve (O44). -/

namespace Sys2Proof.Machine

/-- Settles O44, by what one estimate does to its group's drift (`driftEstimate_takes`), what a core takes and reads
(`decoderCoreFree_takes`), how a decode ends (`decode_passes`, `decode_waits`, `decode_reconstructs`, `decode_goesDeep`), and the
steps of a core's retirement (`coreRetire_eq`). -/
theorem decodersAndDriftServe : Obligations.DecodersAndDriftServe := by
  unfold Obligations.DecodersAndDriftServe
  refine ⟨?drift, ?core, ?decode, ?retire⟩
  case drift =>
    rintro s r d g _ p _ hpool hruns hjobs rfl rfl
    exact State.driftEstimate_takes hpool hruns hjobs
  case core =>
    intro s core r j htake hworks hfree hroute hnext
    exact State.decoderCoreFree_takes htake hworks hfree hroute hnext
  case decode =>
    intro s core iters job id i word j e hcore hjob hruns hdest hdesc hopen hbuf hi
    refine ⟨fun hok => ?passes, fun hbad hstep hgroup hpool => ?waits,
      fun hbad hstep => ⟨fun hlast hrecon => ?ends, fun hnext hread => ?deep⟩⟩
    case passes => exact State.decode_passes hcore hjob hruns ⟨hdest, hdesc, hopen, hbuf, hi⟩ hok
    case waits => exact State.decode_waits hcore hjob hruns hbad hstep hgroup hpool
    case ends => exact State.decode_reconstructs hcore hjob hruns hbad hstep hlast hrecon hdest
    case deep => exact State.decode_goesDeep hcore hjob hruns hbad hstep hnext hread
  case retire =>
    intro s c core _ hworks hjobs hcause
    exact ⟨_, State.exec_retires hworks hcause, State.coreRetire_stops hworks, State.coreRetire_frees hworks hjobs,
      State.coreRetire_failed hworks, State.coreRetire_coresOk hworks, fun m l hspare => State.coreRetire_spare hworks hspare,
      fun job j hcore hjob => State.coreRetire_redecodes hworks hcore hjob⟩

end Sys2Proof.Machine
end

section
/-! PROOFS. Scans and positions as they are replaced, and what the sorting office shows of them in its registers (R194 to R196, Table 8-12). -/

namespace Sys2Proof.Machine

/-! ### Positions of a scan -/

/-- A position that a scan holds is among its positions once it is replaced. -/
theorem Scan.mem_setPos {c : Scan} {p q : Position} (h : p ∈ c.positions) (hkey : p.key = q.key) : q ∈ (c.setPos q).positions :=
  List.mem_map.2 ⟨p, h, if_pos hkey⟩

theorem Scan.find?_setPos {c : Scan} {p q : Position} (h : c.positions.find? (·.key = q.key) = some p) :
    (c.setPos q).positions.find? (·.key = q.key) = some q := find?_replace_same h

namespace State

variable {s : State}

/-! ### Scans: read after write -/

theorem id_of_scan? {id : Nat} {c : Scan} (h : s.scan? id = some c) : c.id = id := by simpa using List.find?_some h

theorem scan?_setScan_same {c x : Scan} (h : s.scan? c.id = some x) : (s.setScan c).scan? c.id = some c := find?_replace_same h

theorem scan?_setScan_ne {c : Scan} {id : Nat} (h : id ≠ c.id) : (s.setScan c).scan? id = s.scan? id := find?_replace_ne _ h

theorem scan?_of_frame {m : Nat} {t : State} (h : Frame m s t) (h10 : m.testBit 10 = false) (id : Nat) : t.scan? id = s.scan? id := by
  unfold State.scan?; rw [h.so h10]

theorem withSo_frame (x : So) : Frame 0x400 s { s with so := x } := { Frame.refl s with so := fun q => absurd q (by decide) }

/-! ### The registers of the sorting office -/

theorem getR_dramReads {off : Nat} (corr : Nat) (h : off ≠ R.MI_CNT_DRAM_CORR) : (s.dramReads corr).getR off = s.getR off :=
  getR_bumpBy_ne s h

theorem getR_scanShow {off : Nat} (h : off ≠ R.SO_STATUS) : s.scanShow.getR off = s.getR off :=
  (getR_setF_ne _ _ h).trans (getR_setF_ne _ _ h)

/-- The registers before `ENS_SO_FLOOR` show no slots. -/
theorem getR_floorShow {off : Nat} (rs : List Nat) (h : off < 0xA100) : (s.floorShow rs).getR off = s.getR off := by
  unfold State.floorShow
  induction rs.eraseDups generalizing s with
  | nil => rfl
  | cons r l ih =>
    rw [List.foldl_cons, ih]
    exact getR_setF_ne _ _ (show off ≠ R.SO_FLOOR r by unfold R.SO_FLOOR; omega)

end State
end Sys2Proof.Machine
end

section
/-! PROOFS. SCAN, SCAN_START and ITEM_FETCH: a plan that is refused, one that starts or waits, and the positions of an item (R174, R178 to
R180, R194, R197, R395). -/

namespace Sys2Proof.Machine
namespace State

variable {s : State}

/-! ### SCAN (R174, R178, R194, R197) -/

/-- A SCAN whose plan, capacity or token does not pass ends at its checks. -/
theorem execScan_refused {id corr : Nat} {d : Desc} {plan : Bytes} (blocks : List Nat) (h : s.ioRuns id 0x03 d)
    (hbad : planOk (slice plan 0 256) = false ∨ field d.bytes 16 4 < planCapacity (slice plan 0 256) ∨
      tokenStart (slice plan 0 256) (slice d.bytes 32 16) = none) :
    execScan id plan blocks s corr = .next ((s.dramReads corr).scanFinish id St.malformed 0) := by
  obtain ⟨hd, hop, hstarted, hopen, -⟩ := h
  have hstart : (if planOk (slice plan 0 256) ∧ planCapacity (slice plan 0 256) ≤ field d.bytes 16 4 then
      tokenStart (slice plan 0 256) (slice d.bytes 32 16) else none) = none := by
    rcases hbad with hplan | hroom | htoken
    · exact if_neg fun hok => by simp [hplan] at hok
    · exact if_neg fun hok => absurd hok.2 (by omega)
    · rw [htoken, ite_self]
  unfold execScan
  simp [hd, hop, hstarted, hopen, hstart]

theorem scan_refused_ends {id : Nat} {d : Desc} (corr : Nat) (h : s.ioRuns id 0x03 d) :
    let t := (s.dramReads corr).scanFinish id St.malformed 0
    t.ended id 0x040 0 ∧ t.getR R.SO_CNT_SCANS = s.getR R.SO_CNT_SCANS + 1 ∧ Frame (may [.descs, .regs 7, .regs 10]) s t := by
  obtain ⟨hd, -, -, hopen, hbuf⟩ := h
  have hread := State.dramReads_frame s corr
  have hcount : Frame 0x10000000 (s.dramReads corr) ((s.dramReads corr).bump R.SO_CNT_SCANS) := State.bump_frame _ _ rfl rfl
  have hend := State.finish_frame ((s.dramReads corr).bump R.SO_CNT_SCANS) id St.malformed 0
  refine ⟨ended_finish _ _ ((hcount.desc? rfl id).trans ((hread.desc? rfl id).trans hd)) hopen hbuf, ?_, ?_⟩
  · refine (hend.reg _ rfl).trans ((getR_bump_same _ _).trans ?_)
    rw [getR_dramReads corr (by decide)]
  · exact hend.after (hcount.after (hread.mono rfl) rfl) rfl

/-- The scan of an admitted SCAN that starts at `first`. -/
def newScan (s : State) (d : Desc) (plan : Bytes) (blocks : List Nat) (first : Nat × Nat) : Scan :=
  { id := d.id, plan := slice plan 0 256, buffer := field d.bytes 20 8, capacity := field d.bytes 16 4, share := d.share, first := first,
    blocks := blocks, active := decide (s.activeScans < 16) && s.so.scans.all (·.active), x := (s.getR R.SO_X).toNat, nextItem := first.1 }

/-- A SCAN has started: its descriptor says so, and its scan stands behind the others. -/
def scanAdded (s : State) (d : Desc) (c : Scan) : State :=
  let u := s.setDesc { d with started := true }
  { u with so := { u.so with scans := u.so.scans ++ [c] } }

/-- The office shows a scan that was added; one that waits is an event. -/
def scanNoted (s : State) (c : Scan) : State := if c.active then s.scanShow else s.scanShow.raise F.SO_EVENT_SCAN_WAIT

theorem execScan_sound {corr : Nat} {d : Desc} {plan : Bytes} {first : Nat × Nat} (blocks : List Nat) (h : s.ioRuns d.id 0x03 d)
    (hplan : planOk (slice plan 0 256) = true) (hroom : planCapacity (slice plan 0 256) ≤ field d.bytes 16 4)
    (htoken : tokenStart (slice plan 0 256) (slice d.bytes 32 16) = some first) :
    execScan d.id plan blocks s corr =
      .next (((s.dramReads corr).scanAdded d (s.newScan d plan blocks first)).scanNoted (s.newScan d plan blocks first)) := by
  obtain ⟨hd, hop, hstarted, hopen, -⟩ := h
  have hx : (s.dramReads corr).getR R.SO_X = s.getR R.SO_X := getR_dramReads corr (by decide)
  have hscan : (s.dramReads corr).newScan d plan blocks first = s.newScan d plan blocks first := by
    unfold newScan
    rw [hx]
    rfl
  unfold execScan
  rw [hd]
  dsimp only
  rw [if_neg (by simp [hop, hstarted, hopen]), if_pos ⟨hplan, hroom⟩, htoken, ← hscan]
  rfl

theorem scanAdded_frame (d : Desc) (c : Scan) : Frame 0x480 s (s.scanAdded d c) :=
  (withSo_frame _).after ((State.setDesc_frame s _).mono rfl) rfl

theorem scanNoted_frame (c : Scan) : Frame 0x50150012 s (s.scanNoted c) := by
  have hshow := State.scanShow_frame s
  unfold scanNoted
  split
  · exact hshow.mono rfl
  · exact .step (State.raise_frame _ _ rfl rfl rfl) (hshow.mono rfl)

theorem scan_starts {d : Desc} {c : Scan} (corr : Nat) (hd : s.desc? d.id = some d) :
    let t := ((s.dramReads corr).scanAdded d c).scanNoted c
    t.so.scans = s.so.scans ++ [c] ∧ t.desc? d.id = some { d with started := true } ∧
      (c.active = false → t.getF F.SO_EVENT_SCAN_WAIT = 1) ∧
      (c.active = true → Frame (may [.descs, .sorting, .regs 7, .regs 10]) s t) := by
  have hread := State.dramReads_frame s corr
  have hnoted := scanNoted_frame (s := (s.dramReads corr).scanAdded d c) c
  refine ⟨congrArg So.scans (hnoted.so rfl), (hnoted.desc? rfl _).trans (desc?_started ((hread.desc? rfl _).trans hd)), fun hwait => ?_,
    fun hgo => ?_⟩
  · unfold scanNoted
    rw [if_neg (by simp [hwait])]
    exact raise_getF _ (by decide) rfl (by decide)
  · unfold scanNoted
    rw [if_pos hgo]
    exact (State.scanShow_frame _).after ((scanAdded_frame d c).after (hread.mono rfl) rfl) rfl

/-! ### SCAN_START (R194) -/

theorem execScanStart_starts {id : Nat} {c : Scan} (h : s.scan? id = some c) (hwaits : c.active = false) (hroom : s.activeScans < 16)
    (hfirst : ∀ x ∈ s.so.scans, x.active = false → id ≤ x.id) :
    execScanStart id s = .next (s.setScan { c with active := true, x := (s.getR R.SO_X).toNat }).scanShow := by
  have hnone : (s.so.scans.any fun x => !x.active && decide (x.id < c.id)) = false := by
    rw [id_of_scan? h, List.any_eq_false]
    intro x hx hbefore
    simp only [Bool.and_eq_true, Bool.not_eq_true', decide_eq_true_eq] at hbefore
    exact absurd (hfirst x hx hbefore.1) (by omega)
  unfold execScanStart
  simp only [h, hwaits, hnone]
  rw [if_neg (by simp; omega)]

theorem scanStart_starts {id : Nat} {c : Scan} (h : s.scan? id = some c) :
    let t := (s.setScan { c with active := true, x := (s.getR R.SO_X).toNat }).scanShow
    t.scan? id = some { c with active := true, x := (s.getR R.SO_X).toNat } ∧ (∀ i, i ≠ id → t.scan? i = s.scan? i) ∧
      Frame (may [.sorting, .regs 10]) s t := by
  obtain rfl := id_of_scan? h
  set x : Scan := { c with active := true, x := (s.getR R.SO_X).toNat }
  have hshow := State.scanShow_frame (s.setScan x)
  exact ⟨(scan?_of_frame hshow rfl _).trans (scan?_setScan_same (c := x) h),
    fun i hi => (scan?_of_frame hshow rfl _).trans (scan?_setScan_ne (c := x) hi), hshow.after ((State.setScan_frame s x).mono rfl) rfl⟩

/-! ### ITEM_FETCH (R179, R180, R395) -/

theorem execItemFetch_fetches {id corr : Nat} {c : Scan} (item : Bytes) (h : s.scan? id = some c) (hactive : c.active = true)
    (hstop : c.stop = none) (hmore : c.nextItem < planItems c.plan) (hruns : s.pipeRuns = true) :
    execItemFetch id item s corr = .next ((s.dramReads corr).setScan
      { c with positions := c.positions ++ s.itemPositions c item, nextItem := c.nextItem + 1 }) := by
  unfold execItemFetch
  simp only [h]
  rw [if_neg (by simp [hactive, hstop, hruns, hmore])]

theorem itemFetch_adds {id : Nat} {c : Scan} (corr : Nat) (ps : List Position) (h : s.scan? id = some c) :
    let x : Scan := { c with positions := c.positions ++ ps, nextItem := c.nextItem + 1 }
    let t := (s.dramReads corr).setScan x
    t.scan? id = some x ∧ Frame (may [.sorting, .regs 7]) s t := by
  obtain rfl := id_of_scan? h
  have hread := State.dramReads_frame s corr
  exact ⟨scan?_setScan_same (s := s.dramReads corr) (c := { c with positions := c.positions ++ ps, nextItem := c.nextItem + 1 })
    ((scan?_of_frame hread rfl _).trans h), (State.setScan_frame ..).after (hread.mono rfl) rfl⟩

end State

/-- The first position of an item that a scan takes: a token may begin within its item. -/
def Scan.itemFirst (c : Scan) : Nat := if c.nextItem = c.first.1 then c.first.2 else 0

/-- How many positions an item names: a RUN one for each address, a ROW one. -/
def Scan.itemCount (c : Scan) (as : List Nat) : Nat := if field c.plan 12 1 = 0 then as.length else 1

/-- The route that an item's share is judged by. -/
def itemRoute (as : List Nat) : Nat := as.headD 0 / 2 ^ 34 % 32

/-- The address that an item fails at (R180, R395), none where it passes; `bad` says its own bytes are wrong. -/
def State.itemFault (s : State) (c : Scan) (as : List Nat) (bad : Bool) : Option Nat :=
  match firstIdx as.length fun i => !s.inRange (as.getD i 0) with
  | some i => some (if field c.plan 12 1 = 0 then 0 else i)
  | none => if bad ∨ c.share.getD (itemRoute as) 0 < 5 ∨ c.itemCount as ≤ c.itemFirst then some 0 else none

/-- Position `e` of an item, failing where the item does. -/
def Scan.itemPosition (c : Scan) (as : List Nat) (fault : Option Nat) (e : Nat) : Position :=
  let base : Position :=
    { key := 2 ^ 32 * c.nextItem + e, item := c.nextItem, env := e, addrs := [], route := itemRoute as,
      last := decide (c.nextItem + 1 = planItems c.plan ∧ max (c.itemCount as) (c.itemFirst + 1) ≤ e + 1) }
  match fault with
  | some k => { base with addrs := [as.getD (if field c.plan 12 1 = 0 then min e (as.length - 1) else k) 0], outcome := 6,
                          status := St.malformed, cause := 5 }
  | none =>
    let addrs := if field c.plan 12 1 = 0 then [as.getD e 0] else as
    { base with addrs := addrs, res := addrs.map fun _ => none, hdrs := addrs.map fun _ => none }

namespace State

variable {s : State}

theorem itemPositions_eq (c : Scan) (item : Bytes) :
    s.itemPositions c item =
      let as := (itemAddrs c.plan item).1
      (List.range (max (c.itemCount as) (c.itemFirst + 1) - c.itemFirst)).map fun i =>
        c.itemPosition as (s.itemFault c as (itemAddrs c.plan item).2) (c.itemFirst + i) := rfl

/-- An item that does not fail has its addresses in range, a share that holds a position, and positions left to take. -/
theorem itemFault_none {c : Scan} {as : List Nat} {bad : Bool} (h : s.itemFault c as bad = none) :
    (∀ a ∈ as, s.inRange a = true) ∧ 5 ≤ c.share.getD (itemRoute as) 0 ∧ c.itemFirst < c.itemCount as := by
  unfold itemFault at h
  split at h
  · cases h
  next hrange =>
    split at h
    · cases h
    next hsound =>
      push Not at hsound
      refine ⟨fun a ha => ?_, hsound.2⟩
      obtain ⟨k, hk, rfl⟩ := List.mem_iff_getElem.1 ha
      have hfine := List.find?_eq_none.1 hrange k (List.mem_range.2 hk)
      rw [List.getD_eq_getElem _ _ hk] at hfine
      simpa using hfine

/-- A position of an item that is not refused has addresses in range, on a route whose share holds a position (R180, R395). -/
theorem itemPositions_open {c : Scan} {item : Bytes} {p : Position} (h : p ∈ s.itemPositions c item) (hopen : p.outcome = 0) :
    5 ≤ c.share.getD p.route 0 ∧ ∀ a ∈ p.addrs, s.inRange a = true := by
  rw [itemPositions_eq] at h
  obtain ⟨i, hi, rfl⟩ := List.mem_map.1 h
  cases hfault : s.itemFault c (itemAddrs c.plan item).1 (itemAddrs c.plan item).2 with
  | some k => rw [hfault] at hopen; cases hopen
  | none =>
    obtain ⟨hrange, hshare, hfirst⟩ := itemFault_none hfault
    refine ⟨hshare, fun a ha => hrange a ?_⟩
    have hbelow := List.mem_range.1 hi
    unfold Scan.itemCount at hbelow hfirst
    by_cases hrun : field c.plan 12 1 = 0
    · rw [if_pos hrun] at hbelow hfirst
      have hin : c.itemFirst + i < (itemAddrs c.plan item).1.length := by omega
      simp only [Scan.itemPosition, if_pos hrun, List.mem_singleton] at ha
      rw [ha, List.getD_eq_getElem _ _ hin]
      exact List.getElem_mem hin
    · simpa only [Scan.itemPosition, if_neg hrun] using ha

end State
end Sys2Proof.Machine
end

section
/-! PROOFS. A position of a scan is admitted: its slots are taken and its reads begin (R17, R195). -/

namespace Sys2Proof.Machine
namespace State

variable {s : State}

/-! ### The checks of envelopes that no pigeonhole holds (R17) -/

theorem readTags_sound (h : s.memorySound) (st : Nat) : s.readTags st = s := by
  obtain ⟨herr, hspare, harm⟩ := h
  unfold State.readTags State.faulty
  simp [herr, hspare, harm]

theorem phLook_misses {a : Nat} (hsound : s.memorySound) (h : s.phFind a = none) : s.phLook a = (none, s.bump R.MI_PH_CNT_MISS) := by
  unfold State.phLook
  simp only [readTags_sound hsound, h]

/-- The misses of some lookups are counted. -/
def missesCounted (s : State) (l : List Nat) : State := l.foldl (fun u _ => u.bump R.MI_PH_CNT_MISS) s

theorem missesCounted_frame (l : List Nat) : Frame 0x2000000 s (s.missesCounted l) :=
  Frame.foldl (Frame.refl s) fun _ _ => State.bump_frame _ _ rfl rfl

theorem preCheck_countMiss (a : Nat) : (s.bump R.MI_PH_CNT_MISS).preCheck a = s.preCheck a := by
  have hbump : Frame 0x2000000 s (s.bump R.MI_PH_CNT_MISS) := State.bump_frame _ _ rfl rfl
  have herase : (s.bump R.MI_PH_CNT_MISS).erasePending a = s.erasePending a := by
    unfold State.erasePending
    rw [hbump.busAddr rfl]
    rfl
  unfold State.preCheck
  rw [herase]
  rfl

theorem memorySound_countMiss (h : s.memorySound) : (s.bump R.MI_PH_CNT_MISS).memorySound :=
  ⟨h.1, h.2.1, (getF_bump_ne s (by decide)).trans h.2.2⟩

theorem envChecks_miss {l : List Nat} (hsound : s.memorySound) (h : ∀ a ∈ l, s.preCheck a = none ∧ s.phFind a = none) :
    s.envChecks true l = (l.map fun _ => none, s.missesCounted l) := by
  induction l generalizing s with
  | nil => rfl
  | cons a l ih =>
    obtain ⟨hpre, hfind⟩ := h a List.mem_cons_self
    have hcheck : s.envCheck a true = (none, s.bump R.MI_PH_CNT_MISS) := by
      unfold State.envCheck
      rw [hpre]
      exact phLook_misses hsound hfind
    have hrest := ih (memorySound_countMiss hsound) fun b hb =>
      ⟨(preCheck_countMiss b).trans (h b (List.mem_cons_of_mem _ hb)).1, (h b (List.mem_cons_of_mem _ hb)).2⟩
    unfold State.envChecks
    rw [hcheck]
    dsimp only
    rw [hrest]
    rfl

/-! ### Jobs that stay what they read for -/

/-- A job with the number of `j` stands, and reads what `j` reads for the same purpose. -/
def Stands (j : Job) (s : State) : Prop :=
  ∃ x ∈ s.seq.jobs, x.id = j.id ∧ x.dest = j.dest ∧ x.addr = j.addr ∧ x.header = j.header

theorem Stands.of_jobs {j : Job} {t : State} (h : Stands j s) (hjobs : t.seq.jobs = s.seq.jobs) : Stands j t := by
  unfold Stands
  rw [hjobs]
  exact h

theorem Stands.setJob {j y : Job} (h : Stands j s) (hy : y.id = j.id → y.dest = j.dest ∧ y.addr = j.addr ∧ y.header = j.header) :
    Stands j (s.setJob y) := by
  obtain ⟨x, hx, hid, hfor⟩ := h
  by_cases hsame : x.id = y.id
  · exact ⟨y, List.mem_map.2 ⟨x, hx, if_pos hsame⟩, hsame.symm.trans hid, hy (hsame.symm.trans hid)⟩
  · exact ⟨x, List.mem_map.2 ⟨x, hx, if_neg hsame⟩, hid, hfor⟩

theorem jobs_wantHeader (k : Nat) : (s.wantHeader k).seq.jobs = s.seq.jobs := by
  unfold State.wantHeader
  split <;> rfl

theorem Stands.joinInDie {j : Job} (k p : Nat) (o : DieOp) {js : List Job} (h : Stands j s) (hjs : ∀ y ∈ js, y.id = j.id → y = j) :
    Stands j (s.joinInDie k p o js) := by
  unfold State.joinInDie
  dsimp only
  refine Stands.of_jobs ?_ (jobs_wantHeader _)
  refine Stands.of_jobs ?_ rfl
  generalize (o.jobs.filterMap s.job?).find? _ = like
  generalize ((s.die k).op.any _) = first
  generalize s.dieSt k = st
  induction js generalizing s with
  | nil => exact h
  | cons y js ih =>
    refine ih ?_ fun z hz => hjs z (List.mem_cons_of_mem _ hz)
    cases like <;> exact h.setJob fun hid => by
      obtain rfl := hjs y List.mem_cons_self hid
      exact ⟨rfl, rfl, rfl⟩

theorem Stands.enqueueRead {j : Job} (p : Nat) (base : Option (List Int)) (join : Bool) {js : List Job} (h : Stands j s)
    (hjs : ∀ y ∈ js, y.id = j.id → y = j) : Stands j (s.enqueueRead p js base join) := by
  unfold State.enqueueRead
  split
  · exact h
  · dsimp only
    split
    · exact h.of_jobs rfl
    · split
      · exact h.joinInDie _ _ _ hjs
      · exact h.of_jobs rfl

theorem Stands.addJob {j : Job} (y : Job) (h : Stands j s) : Stands j (s.addJob y) := by
  obtain ⟨x, hx, hsame⟩ := h
  exact ⟨x, List.mem_append_left _ hx, hsame⟩

/-- A fold whose every step keeps a job keeps it. -/
theorem Stands.foldl {α : Type} {j : Job} {f : State → α → State} {l : List α} (h : Stands j s)
    (hf : ∀ u, ∀ x ∈ l, Stands j u → Stands j (f u x)) : Stands j (l.foldl f s) := by
  induction l generalizing s with
  | nil => exact h
  | cons x l ih => exact ih (hf s x List.mem_cons_self h) fun u y hy => hf u y (List.mem_cons_of_mem _ hy)

/-- Every job of a list stands once its page reads wait, where no other of the list has its number. -/
theorem enqueueReads_stands {l : List Job} (base : Option (List Int)) (join : Bool) (gone : List Nat) {j : Job} (hj : j ∈ l)
    (hids : ∀ y ∈ l, y.id = j.id → y = j) : Stands j (s.enqueueReads l base join gone) := by
  unfold State.enqueueReads
  dsimp only
  refine Stands.foldl ?added fun u p _ hu => hu.enqueueRead _ _ _ fun y hy => hids y (List.mem_of_mem_filter (List.mem_of_mem_filter hy))
  case added =>
    obtain ⟨before, after, rfl⟩ := List.append_of_mem hj
    rw [List.foldl_append, List.foldl_cons]
    refine Stands.foldl ?_ fun u y _ hu => hu.addJob _
    refine ⟨_, List.mem_append_right _ (List.mem_singleton_self _), ?_⟩
    split <;> exact ⟨rfl, rfl, rfl, rfl⟩

end State

/-! ### The reads of an admitted position (R17, R182) -/

theorem map_mapIdx {α β γ : Type} (f : Nat → α → β) (g : β → γ) (l : List α) : (l.mapIdx f).map g = l.mapIdx fun i x => g (f i x) :=
  List.ext_getElem (by simp) fun i _ _ => by simp

/-- A position that is admitted, its slots taken and none of its streams decided. -/
def Position.reading (p : Position) : Position := { p with admitted := true, taken := p.addrs.length, res := p.addrs.map fun _ => none }

theorem Scan.find?_of_mem {c : Scan} {p : Position} (h : p ∈ c.positions) : ∃ q, c.positions.find? (·.key = p.key) = some q :=
  Option.isSome_iff_exists.1 (List.find?_isSome.2 ⟨p, h, by simp⟩)

/-- The jobs of a position, numbered from `first` on. -/
def Scan.readJobs (c : Scan) (p : Position) (sq first epoch : Nat) : List Job :=
  p.addrs.mapIdx fun i a => { id := first + i, ord := c.id, addr := a, dest := .scan c.id p.key i, origin := .queue sq,
                              header := planHeaderFirst c.plan, epoch := epoch }

/-- An undecided position has no result. -/
theorem Position.getD_reading (p : Position) (i : Nat) : p.reading.res.getD i none = none := by
  unfold Position.reading
  rw [List.getD_eq_getElem?_getD, List.getElem?_map]
  cases p.addrs[i]? <;> rfl

/-- A position whose headers and results are all open waits at its header tests. -/
theorem Position.head_reading {p : Position} (hhdrs : ∀ h ∈ p.hdrs, h = none) (i : Nat) : p.reading.head i = .pending := by
  have hopen : p.reading.hdrs.getD i none = none := by
    show p.hdrs.getD i none = none
    rw [List.getD_eq_getElem?_getD]
    cases hi : p.hdrs[i]? with
    | none => rfl
    | some h => rw [hhdrs h (List.mem_of_getElem? hi)]; rfl
  unfold Position.head
  rw [p.getD_reading, hopen]

namespace State

variable {s : State}

/-- The slots of a position are taken, its lookups having missed. -/
def slotsTaken (s : State) (c : Scan) (p : Position) : State :=
  ((s.useFloor.missesCounted p.addrs).setScan (c.setPos p.reading)).floorShow [p.route]

theorem slotsTaken_frame (c : Scan) (p : Position) : Frame 0x12001400 s (s.slotsTaken c p) := by
  have hused : Frame 0x12001400 s (s.useFloor.missesCounted p.addrs) := (missesCounted_frame _).after ((State.useFloor_frame s).mono rfl) rfl
  exact (State.floorShow_frame ..).after ((State.setScan_frame ..).after hused rfl) rfl

theorem scan?_slotsTaken {c : Scan} (p : Position) (h : s.scan? c.id = some c) : (s.slotsTaken c p).scan? c.id = some (c.setPos p.reading) := by
  have hcount := missesCounted_frame (s := s.useFloor) p.addrs
  refine (scan?_of_frame (State.floorShow_frame ..) rfl _).trans (scan?_setScan_same (c := c.setPos p.reading) (x := c) ?_)
  exact (scan?_of_frame hcount rfl _).trans h

theorem slotsTaken_requests (c : Scan) (p : Position) : (s.slotsTaken c p).so.requests = s.so.requests := by
  have hcount : (s.useFloor.missesCounted p.addrs).so = s.so := (missesCounted_frame (s := s.useFloor) p.addrs).so rfl
  exact (congrArg So.requests ((State.floorShow_frame _ _).so rfl)).trans
    (show (s.useFloor.missesCounted p.addrs).so.requests = _ from congrArg So.requests hcount)

theorem positionReads_eq {p : Position} (c : Scan) (hsound : s.memorySound) (hmiss : ∀ a ∈ p.addrs, s.preCheck a = none ∧ s.phFind a = none) :
    ∃ sq first epoch gone, s.positionReads c p =
      ((s.slotsTaken c p).numbered p.addrs.length).enqueueReads (c.readJobs p sq first epoch) none true gone := by
  have hchecks : s.useFloor.envChecks true p.addrs = (p.reading.res, s.useFloor.missesCounted p.addrs) :=
    envChecks_miss (s := s.useFloor) hsound hmiss
  unfold State.positionReads
  dsimp only
  rw [hchecks]
  simp only [Position.getD_reading, Option.isSome_none, Bool.false_eq_true, if_false, List.filterMap_eq_map', map_mapIdx, makeJobs_eq,
    List.mapIdx_mapIdx, List.length_mapIdx]
  exact ⟨_, _, _, _, rfl⟩

/-! ### POSITION_ADMIT (R195) -/

/-- A position with a stream that is still open stays as it is. -/
theorem positionStep_pending {id key i : Nat} {c : Scan} {p : Position} (h : s.scan? id = some c)
    (hp : c.positions.find? (·.key = key) = some p) (hi : i < p.addrs.length) (hopen : p.head i = .pending) : s.positionStep id key = s := by
  have hwaits : ((List.range p.addrs.length).map p.head).contains .pending = true :=
    List.contains_iff_mem.2 (List.mem_map.2 ⟨i, List.mem_range.2 hi, hopen⟩)
  unfold State.positionStep
  simp only [h, hp]
  rw [if_pos (Or.inr hwaits)]

theorem mem_of_candidate {c : Scan} {p : Position} (h : p ∈ c.candidates) : p ∈ c.positions :=
  List.mem_of_mem_filter (List.mem_of_mem_filter (List.mem_of_mem_filter h))

/-- A scan no longer asks for slots of a route. -/
def requestMet (s : State) (r id : Nat) : State := { s with so := { s.so with requests := s.so.requests.filter fun q => q ≠ (r, id) } }

theorem execPositionAdmit_admits {id : Nat} {c : Scan} {p : Position} (h : s.scan? id = some c) (hactive : c.active = true)
    (hstop : c.stop = none) (hissues : s.issues = true) (hfit : c.candidates.find? (s.slotsFit c) = some p) :
    execPositionAdmit id s = .next (((s.requestMet p.route id).positionReads c p).positionStep id p.key) := by
  unfold execPositionAdmit
  simp only [h]
  rw [if_neg (by simp [hactive, hstop, hissues]), hfit]
  rfl

theorem positionAdmit_reads {id : Nat} {c : Scan} {p : Position} (h : s.scan? id = some c) (hp : p ∈ c.positions) (hsound : s.memorySound)
    (haddrs : p.addrs ≠ []) (hhdrs : ∀ h ∈ p.hdrs, h = none) (hmiss : ∀ a ∈ p.addrs, s.preCheck a = none ∧ s.phFind a = none) :
    let t := ((s.requestMet p.route id).positionReads c p).positionStep id p.key
    t.scan? id = some (c.setPos p.reading) ∧ (p.route, id) ∉ t.so.requests ∧
      (∀ i, i < p.addrs.length → ∃ j ∈ t.seq.jobs, j.dest = .scan id p.key i ∧ j.addr = p.addrs.getD i 0 ∧
        j.header = planHeaderFirst c.plan) ∧
      Frame (may [.sorting, .flash, .sram, .regs 7, .regs 10]) s t := by
  obtain rfl := id_of_scan? h
  set u := s.requestMet p.route c.id
  obtain ⟨sq, first, epoch, gone, hreads⟩ := positionReads_eq (s := u) c hsound hmiss
  set v := u.positionReads c p
  have htaken : Frame 0x12001400 u (u.slotsTaken c p) := slotsTaken_frame c p
  have hread : Frame 0x100 (u.slotsTaken c p) v := by
    rw [hreads]
    exact (State.enqueueReads_frame ..).after ((numbered_frame _).mono rfl) rfl
  have hscan : v.scan? c.id = some (c.setPos p.reading) := (scan?_of_frame hread rfl _).trans (scan?_slotsTaken p h)
  have hfound : (c.setPos p.reading).positions.find? (·.key = p.key) = some p.reading := by
    obtain ⟨q, hq⟩ := Scan.find?_of_mem hp
    exact Scan.find?_setPos (q := p.reading) hq
  have hstays : v.positionStep c.id p.key = v :=
    positionStep_pending (i := 0) hscan hfound (List.length_pos_of_ne_nil haddrs) (Position.head_reading hhdrs 0)
  rw [hstays]
  refine ⟨hscan, ?_, fun i hi => ?_, ?_⟩
  · rw [hread.so rfl, slotsTaken_requests]
    exact fun hin => absurd (List.mem_filter.1 hin).2 (by simp)
  · have hjob : (c.readJobs p sq first epoch)[i]? = some _ := List.getElem?_mapIdx.trans (by rw [List.getElem?_eq_getElem hi]; rfl)
    obtain ⟨x, hx, -, hdest, haddr, hheader⟩ := enqueueReads_stands (s := (u.slotsTaken c p).numbered p.addrs.length) none true gone
      (List.mem_of_getElem? hjob) fun y hy hid => by
        obtain ⟨k, hk, rfl⟩ := List.mem_mapIdx.1 hy
        obtain rfl : k = i := Nat.add_left_cancel hid
        rfl
    rw [hreads]
    exact ⟨x, hx, hdest, haddr.trans (List.getD_eq_getElem _ _ hi).symm, hheader⟩
  · exact hread.after (htaken.after ((withSo_frame _).mono rfl) rfl) rfl

/-- Where no position fits, the requests of the candidates are noted behind those there were. -/
def requestsNoted (s : State) (c : Scan) (id : Nat) : State :=
  { s with so := { s.so with requests :=
      s.so.requests ++ (c.candidates.map fun p => (p.route, id)).filter fun q => !s.so.requests.contains q } }

theorem requestsNoted_frame (c : Scan) (id : Nat) : Frame 0x400 s (s.requestsNoted c id) := withSo_frame _

theorem execPositionAdmit_notes {id : Nat} {c : Scan} (h : s.scan? id = some c) (hactive : c.active = true)
    (hstop : c.stop = none) (hissues : s.issues = true) (hnone : c.candidates.find? (s.slotsFit c) = none) :
    execPositionAdmit id s = .next (s.requestsNoted c id) := by
  unfold execPositionAdmit
  simp only [h]
  rw [if_neg (by simp [hactive, hstop, hissues]), hnone]
  rfl

theorem mem_requestsNoted {c : Scan} {p : Position} (id : Nat) (hp : p ∈ c.candidates) : (p.route, id) ∈ (s.requestsNoted c id).so.requests := by
  have hwanted : (p.route, id) ∈ c.candidates.map fun p => (p.route, id) := List.mem_map_of_mem hp
  refine List.mem_append.2 ?_
  by_cases hasked : (p.route, id) ∈ s.so.requests
  · exact .inl hasked
  · exact .inr (List.mem_filter.2 ⟨hwanted, by simpa using hasked⟩)

end State
end Sys2Proof.Machine
end

section
/-! PROOFS. Scans start, and their positions are admitted (O46). -/

namespace Sys2Proof.Machine

/-- Settles O46: a SCAN is refused or its scan is added (`scan_refused_ends`, `scan_starts`), the first that waits starts, an item adds its
positions (`itemPositions_open`), and a position that fits is admitted with its reads (`positionAdmit_reads`). -/
theorem scansStartAndAdmit : Obligations.ScansStartAndAdmit := by
  unfold Obligations.ScansStartAndAdmit
  refine ⟨?scan, ?start, ?item, ?position⟩
  case scan =>
    rintro s id corr d plan blocks _ hrun rfl
    obtain rfl := State.id_of_desc? hrun.1
    refine ⟨fun hbad => ?refused, fun first hplan hroom htoken => ?sound⟩
    case refused => exact ⟨_, State.execScan_refused blocks hrun hbad, State.scan_refused_ends corr hrun⟩
    case sound =>
      obtain ⟨hscans, hdesc, hwait, hgo⟩ := State.scan_starts (c := s.newScan d plan blocks first) corr hrun.1
      exact ⟨_, _, State.execScan_sound blocks hrun hplan hroom htoken, hscans, rfl, rfl, rfl, rfl, rfl, rfl, rfl, rfl, rfl, rfl, hdesc,
        hwait, hgo⟩
  case start =>
    intro s id c hscan hwaits hroom hfirst
    exact ⟨_, State.execScanStart_starts hscan hwaits hroom hfirst, State.scanStart_starts hscan⟩
  case item =>
    intro s id corr c item hscan hactive hstop hmore hruns
    obtain ⟨hfound, hframe⟩ := State.itemFetch_adds corr (s.itemPositions c item) hscan
    exact ⟨_, _, State.execItemFetch_fetches item hscan hactive hstop hmore hruns, hfound, rfl, rfl,
      fun p hp hopen => State.itemPositions_open hp hopen, hframe⟩
  case position =>
    intro s id c hscan hactive hstop hissues
    refine ⟨fun p hfit hsound haddrs hhdrs hmiss => ?fits, fun hnone => ?notes⟩
    case fits =>
      have hp := State.mem_of_candidate (List.mem_of_find?_eq_some hfit)
      obtain ⟨hfound, hmet, hjobs, hframe⟩ := State.positionAdmit_reads hscan hp hsound haddrs hhdrs hmiss
      exact ⟨_, _, p.reading, State.execPositionAdmit_admits hscan hactive hstop hissues hfit, hfound, Scan.mem_setPos hp rfl, rfl, rfl,
        rfl, hmet, hjobs, hframe⟩
    case notes =>
      exact ⟨_, State.execPositionAdmit_notes hscan hactive hstop hissues hnone, fun p hp => State.mem_requestsNoted id hp,
        List.prefix_append _ _, rfl, Frame.mono (n := 0x400) rfl (State.requestsNoted_frame c id)⟩

end Sys2Proof.Machine
end

section
/-! PROOFS. A lane gives a position its rows, and the oldest final position of a scan retires (R187, R192, R196, R198, Table 8-12). -/

namespace Sys2Proof.Machine

/-! ### Writes to DRAM while it is awake (R380, R382) -/

namespace State

variable {s : State}

theorem fab_frame_awake (addr : Nat) (data : Bytes) (h : s.getF F.PWR_DRAM_SR = 0) : Frame 0x10000 s (s.fab addr data) := by
  unfold State.fab
  induction piecesOf addr data generalizing s with
  | nil => exact Frame.refl s
  | cons p l ih =>
    rw [List.foldl_cons, fabPiece_emits h]
    exact (State.emit_frame ..).trans (ih (s := s.emit _) h)

/-- What a write while DRAM is awake leaves behind has all left the block. -/
theorem pieces_fab (addr : Nat) (data : Bytes) (h : s.getF F.PWR_DRAM_SR = 0) :
    (s.fab addr data).pieces = s.pieces + (piecesOf addr data).length := by
  unfold State.pieces
  rw [fab_out addr data h, (fab_frame_awake addr data h).bnd rfl]
  simp [dramOuts, Nat.add_right_comm]

/-- The second of two writes stands behind the pieces of the first. -/
theorem dramOuts_pair (n : Nat) (v w : Nat × Bytes) :
    dramOuts n [v, w] = dramOuts n [v] ++ dramOuts (n + (piecesOf v.1 v.2).length) [w] := by simp [dramOuts]

/-! ### LANE_EVALUATE_DONE (R187, R199) -/

theorem execLaneEvaluateDone_gives {id key : Nat} {c : Scan} {p : Position} {h : Bytes} (hscan : s.scan? id = some c)
    (hp : c.positions.find? (·.key = key) = some p) (hready : p.outcome = 7) (hruns : s.stagesRun = true) (hhead : p.head 0 = .known h) :
    execLaneEvaluateDone id key s = .next (s.setScan (c.setPos
      { p with outcome := 5, rows := idxWhere (Header.parse h).count (rowQualifies c.plan ((List.range p.addrs.length).map p.payload)) })) := by
  unfold execLaneEvaluateDone
  simp only [hscan, hp]
  rw [if_neg (by simp [hready, hruns])]
  simp only [hhead]

/-! ### What the counters show (Table 8-12) -/

/-- A position that retires is counted, and its outcome with it. -/
def positionCounted (s : State) (p : Position) : State :=
  let u := s.bump R.SO_CNT_POSITIONS
  match outcomeCounter p.outcome with
  | some off => u.bump off
  | none => u

theorem outcomeCounter_ne {o off : Nat} (h : outcomeCounter o = some off) : off ≠ R.SO_CNT_POSITIONS := by
  unfold outcomeCounter at h
  split at h <;> cases h <;> decide

theorem positionCounted_frame (p : Position) : Frame 0x10000000 s (s.positionCounted p) := by
  have hcount : Frame 0x10000000 s (s.bump R.SO_CNT_POSITIONS) := State.bump_frame _ _ rfl rfl
  unfold positionCounted
  split
  next off hoff =>
    have hgroup := outcomeCounter_group hoff
    exact hcount.trans (State.bump_frame _ _ (by rw [hgroup]; rfl) (by rw [hgroup]; rfl))
  · exact hcount

theorem positionCounted_positions (p : Position) :
    (s.positionCounted p).getR R.SO_CNT_POSITIONS = s.getR R.SO_CNT_POSITIONS + 1 := by
  unfold positionCounted
  split
  next off hoff => rw [getR_bump_ne _ (outcomeCounter_ne hoff).symm, getR_bump_same]
  · exact getR_bump_same _ _

theorem positionCounted_outcome {p : Position} {off : Nat} (h : outcomeCounter p.outcome = some off) :
    (s.positionCounted p).getR off = s.getR off + 1 := by
  unfold positionCounted
  simp only [h]
  rw [getR_bump_same, getR_bump_ne _ (outcomeCounter_ne h)]

end State

/-! ### What a retired position leaves in its scan (Table 8-4, R193) -/

/-- The rows that a position adds: its qualifying ones, or all of them where its header decided. -/
def Position.rowsTold (p : Position) : Nat :=
  if p.outcome = 4 then (match p.head 0 with | .known h => (Header.parse h).count | _ => 0) else p.rows.length

/-- The tally with one more position, of an outcome. -/
def tallied (l : List Nat) (o : Nat) : List Nat := (l.set 0 (l.getD 0 0 + 1)).set (tallyAt o) (l.getD (tallyAt o) 0 + 1)

/-- A scan once its position `p` has retired. -/
def Scan.retired (c : Scan) (p : Position) : Scan :=
  let sts := p.res.filterMap fun r => r.map EnvRes.status
  { c with positions := c.positions.filter fun x => x.key ≠ p.key, tally := tallied c.tally p.outcome,
           recon := c.recon + sts.count St.reconstructed,
           seen := if p.outcome = 4 ∨ p.outcome = 5 then (c.seen ++ sts).eraseDups else c.seen,
           fail := if p.outcome = 6 ∧ c.fail.isNone then some p.status else c.fail, rows := c.rows + p.rowsTold }

/-- A scan once a record of `n` bytes is written for it. -/
def Scan.wrote (c : Scan) (n : Nat) : Scan := { c with out := c.out + n, records := c.records + 1 }

theorem tallyAt_ne_zero (o : Nat) : tallyAt o ≠ 0 := by
  unfold tallyAt
  split <;> decide

/-- Place 0 of the tally counts every position. -/
theorem tallied_zero (l : List Nat) (o : Nat) : (tallied l o).getD 0 0 = if l = [] then 0 else l.getD 0 0 + 1 := by
  unfold tallied
  cases l with
  | nil => rfl
  | cons n l => 
    have hplace : tallyAt o ≠ 0 := tallyAt_ne_zero o
    rw [List.getD_eq_getElem?_getD, List.getElem?_set_ne hplace]
    simp

namespace State

variable {s : State} {c : Scan} {p : Position}

/-! ### The oldest position retires (R192, R196) -/

theorem execPositionRetire_retires {id : Nat} {l : List Position} (h : s.scan? id = some c) (hp : c.positions = p :: l)
    (hstop : c.stop = none) (hruns : s.pipeRuns = true) (hfinal : p.outcome ≠ 0 ∧ p.outcome ≠ 7) :
    execPositionRetire id s = .next (s.retirePosition c p) := by
  unfold execPositionRetire
  simp only [h, hp]
  rw [if_neg (by simp [hstop, hruns, hfinal])]

/-- A position that retires and lets its scan go on is counted, and is the scan's no more. -/
def positionGone (s : State) (c : Scan) (p : Position) : State := ((s.positionCounted p).setScan (c.retired p)).floorShow [p.route]

theorem retirePosition_skipped (h : p.outcome = 1 ∨ p.outcome = 2 ∨ p.outcome = 3) : s.retirePosition c p = s.positionGone c p := by
  unfold State.retirePosition positionGone positionCounted Scan.retired tallied Position.rowsTold
  rcases h with h | h | h <;> simp [h, outcomeCounter]

theorem retirePosition_writes (h : p.outcome = 5) (hrows : p.rows ≠ []) (hout : planOut c.plan ≠ 3) (hlimit : field c.plan 20 4 = 0)
    (hfits : c.out + (positionRecord c.plan p).length ≤ c.capacity) :
    s.retirePosition c p =
      (s.fab (c.buffer + c.out) (positionRecord c.plan p)).positionGone (c.wrote (positionRecord c.plan p).length) p := by
  unfold State.retirePosition positionGone positionCounted Scan.retired tallied Position.rowsTold Scan.wrote
  simp [h, hrows, hout, hlimit, hfits, outcomeCounter]

/-- A record that does not fit ends the scan at its position (R198). -/
theorem retirePosition_full (h : p.outcome = 5) (hrows : p.rows ≠ []) (hout : planOut c.plan ≠ 3)
    (hfull : c.capacity < c.out + (positionRecord c.plan p).length) :
    s.retirePosition c p = s.discardScan { c with stop := some (p.item, p.env), partialEnd := true } := by
  unfold State.retirePosition
  simp [h, hrows, hout, hfull]

/-- Without FAIL_SKIP a failing position ends its scan, its exception record written where it fits (R192). -/
theorem retirePosition_fails (h : p.outcome = 6) (hskip : planFlag c.plan 2 = false) :
    ∃ u x, (u = s ∧ x = c ∨ u = s.fab (c.buffer + c.out) (exceptionRecord c.plan p) ∧ x = c.wrote (exceptionRecord c.plan p).length) ∧
      s.retirePosition c p = ((u.positionCounted p).discardScan { x.retired p with stop := some (p.item, p.env) }).floorShow [p.route] := by
  unfold State.retirePosition positionCounted Scan.retired tallied Position.rowsTold
  by_cases hfits : c.out + (exceptionRecord c.plan p).length ≤ c.capacity - (if planOut c.plan = 3 then 64 else 0)
  · refine ⟨_, _, .inr ⟨rfl, rfl⟩, ?_⟩
    simp [h, hskip, hfits, outcomeCounter, Scan.wrote]
  · refine ⟨_, _, .inl ⟨rfl, rfl⟩, ?_⟩
    simp [h, hskip, hfits, outcomeCounter]

/-! ### A position is gone -/

theorem positionGone_scan? {x : Scan} (h : s.scan? c.id = some x) : (s.positionGone c p).scan? c.id = some (c.retired p) := by
  have hcount := positionCounted_frame (s := s) p
  refine (scan?_of_frame (State.floorShow_frame ..) rfl _).trans (scan?_setScan_same (c := c.retired p) (x := x) ?_)
  exact (scan?_of_frame hcount rfl _).trans h

theorem positionGone_frame : Frame 0x10000400 s (s.positionGone c p) :=
  (State.floorShow_frame ..).after ((State.setScan_frame ..).after ((positionCounted_frame p).mono rfl) rfl) rfl

/-- The counters stand before the registers of the floor. -/
theorem getR_positionGone {off : Nat} (h : off < 0xA100) : (s.positionGone c p).getR off = (s.positionCounted p).getR off :=
  getR_floorShow _ h

theorem outcomeCounter_lt {o off : Nat} (h : outcomeCounter o = some off) : off < 0xA100 := by
  unfold outcomeCounter at h
  split at h <;> cases h <;> decide

/-- A position that is gone is counted, and so is its outcome. -/
theorem positionGone_counts : (s.positionGone c p).getR R.SO_CNT_POSITIONS = s.getR R.SO_CNT_POSITIONS + 1 ∧
    ∀ off, outcomeCounter p.outcome = some off → (s.positionGone c p).getR off = s.getR off + 1 :=
  ⟨(getR_positionGone (by decide)).trans (positionCounted_positions p),
    fun _ hoff => (getR_positionGone (outcomeCounter_lt hoff)).trans (positionCounted_outcome hoff)⟩

end State

/-! ### A scan stops (R198) -/

/-- A scan none of whose positions holds a slot. -/
def Scan.emptied (c : Scan) : Scan := { c with positions := c.positions.map fun p => { p with taken := 0 } }

theorem Scan.taken_emptied {c : Scan} {p : Position} (h : p ∈ c.emptied.positions) : p.taken = 0 := by
  obtain ⟨q, -, rfl⟩ := List.mem_map.1 h
  rfl

namespace State

variable {s : State} {c : Scan} {p : Position}

/-- The jobs of a scan are withdrawn. -/
def jobsDropped (s : State) (id : Nat) : State :=
  (s.seq.jobs.filter fun j => match j.dest with | .scan i _ _ => i = id | _ => false).foldl State.cancelJob s

theorem discardScan_eq : s.discardScan c = ((s.jobsDropped c.id).setScan c.emptied).floorShow (c.positions.map Position.route) := rfl

theorem jobsDropped_frame (id : Nat) : Frame 0x800002300 s (s.jobsDropped id) :=
  Frame.foldl (Frame.refl s) fun _ _ => State.cancelJob_frame ..

theorem discardScan_scan? {x : Scan} (h : s.scan? c.id = some x) : (s.discardScan c).scan? c.id = some c.emptied := by
  have hdropped := jobsDropped_frame (s := s) c.id
  rw [discardScan_eq]
  exact (scan?_of_frame (State.floorShow_frame ..) rfl _).trans
    (scan?_setScan_same (c := c.emptied) (x := x) ((scan?_of_frame hdropped rfl _).trans h))

theorem getR_discardScan {off : Nat} (hoff : off < 0xA100) (hgroup : regGroup off = 10) : (s.discardScan c).getR off = s.getR off := by
  rw [discardScan_eq, getR_floorShow _ hoff]
  exact (jobsDropped_frame (s := s) c.id).reg off (by rw [hgroup]; rfl)

/-! ### How a position retires -/

/-- What is left of a scan whose oldest position retired in its place. -/
theorem positionGone_left {l : List Position} {x : Scan} (h : s.scan? c.id = some x) (hp : c.positions = p :: l) :
    let t := s.positionGone c p
    ∃ c', t.scan? c.id = some c' ∧ c'.positions = (p :: l).filter (fun x => x.key ≠ p.key) ∧ c'.out = c.out ∧ c'.records = c.records ∧
      c'.rows = c.rows + p.rowsTold ∧ c'.stop = c.stop ∧ c'.tally.getD 0 0 = (if c.tally = [] then 0 else c.tally.getD 0 0 + 1) :=
  ⟨c.retired p, positionGone_scan? h, congrArg (List.filter _) hp, rfl, rfl, rfl, rfl, tallied_zero _ _⟩

/-- What the record of a position leaves, and the counters once it has retired. -/
theorem recordWritten_leaves (hawake : s.getF F.PWR_DRAM_SR = 0) (b : Bytes) :
    let t := (s.fab (c.buffer + c.out) b).positionGone (c.wrote b.length) p
    t.out = s.out ++ dramOuts s.pieces [(c.buffer + c.out, b)] ∧ t.getR R.SO_CNT_POSITIONS = s.getR R.SO_CNT_POSITIONS + 1 ∧
      (p.outcome = 5 → t.getR R.SO_CNT_EVALUATED = s.getR R.SO_CNT_EVALUATED + 1) ∧
      Frame (may [.sorting, .outputs, .regs 10]) s t := by
  have hfab := fab_frame_awake (c.buffer + c.out) b hawake
  have hgone := positionGone_frame (s := s.fab (c.buffer + c.out) b) (c := c.wrote b.length) (p := p)
  obtain ⟨hpositions, houtcome⟩ := positionGone_counts (s := s.fab (c.buffer + c.out) b) (c := c.wrote b.length) (p := p)
  refine ⟨(hgone.out rfl).trans (fab_out _ _ hawake), ?_, fun hevaluated => ?_, hgone.after (hfab.mono rfl) rfl⟩
  · rw [hpositions, hfab.reg _ rfl]
  · rw [houtcome _ (by rw [hevaluated]; rfl), hfab.reg _ rfl]

/-- A failing position of a scan without FAIL_SKIP stops it. -/
theorem positionRetire_fails {x : Scan} (h : s.scan? c.id = some x) (hfail : p.outcome = 6) (hskip : planFlag c.plan 2 = false) :
    ∃ c', (s.retirePosition c p).scan? c.id = some c' ∧ c'.stop = some (p.item, p.env) ∧ (c.fail = none → c'.fail = some p.status) ∧
      (s.retirePosition c p).getR R.SO_CNT_FAILING = s.getR R.SO_CNT_FAILING + 1 := by
  obtain ⟨u, y, hrecord, heq⟩ := retirePosition_fails (s := s) hfail hskip
  obtain ⟨hframe, hid, hkept⟩ : Frame 0x40010001 s u ∧ y.id = c.id ∧ y.fail = c.fail := by
    rcases hrecord with ⟨rfl, rfl⟩ | ⟨rfl, rfl⟩
    · exact ⟨Frame.refl _, rfl, rfl⟩
    · exact ⟨State.fab_frame .., rfl, rfl⟩
  set z : Scan := { y.retired p with stop := some (p.item, p.env) }
  have hscan : (u.positionCounted p).scan? z.id = some x :=
    (scan?_of_frame (positionCounted_frame p) rfl _).trans ((scan?_of_frame hframe rfl _).trans (hid ▸ h))
  rw [heq]
  refine ⟨z.emptied, ?_, rfl, fun hnone => ?_, ?_⟩
  · rw [← hid]
    exact (scan?_of_frame (State.floorShow_frame ..) rfl _).trans (discardScan_scan? hscan)
  · show (if p.outcome = 6 ∧ y.fail.isNone then some p.status else y.fail) = some p.status
    rw [if_pos ⟨hfail, by rw [hkept, hnone]; rfl⟩]
  · rw [getR_floorShow _ (by decide), getR_discardScan (by decide) rfl, positionCounted_outcome (by rw [hfail]; rfl)]
    rw [hframe.reg _ rfl]

end State
end Sys2Proof.Machine
end

section
/-! PROOFS. A scan that has no work left, or has stopped, writes its summary and completes (R188, R191, R193). -/

namespace Sys2Proof.Machine
namespace State

variable {s : State} {c : Scan}

/-! ### The summary, and the end (R188, R193) -/

/-- A scan is gone, and its requests with it. -/
def scanRemoved (s : State) (id : Nat) : State :=
  { s with so := { s.so with scans := s.so.scans.filter fun x => x.id ≠ id, requests := s.so.requests.filter fun x => x.2 ≠ id } }

theorem scanRemoved_frame (id : Nat) : Frame 0x400 s (s.scanRemoved id) := withSo_frame _

theorem scan?_scanRemoved (id : Nat) : (s.scanRemoved id).scan? id = none := by
  unfold State.scan?
  exact List.find?_eq_none.2 fun x hx => by simpa [scanRemoved] using (List.mem_filter.1 hx).2

/-- The end of a scan whose last record is written: its summary, its slots and its descriptor. -/
def scanClosed (s : State) (c : Scan) (st : Nat) : State :=
  ((((s.fab c.buffer c.summary).scanRemoved c.id).scanShow).floorShow (c.positions.map Position.route)).scanFinish c.id st c.records

theorem closeScan_plain (st : Nat) (h : planOut c.plan ≠ 3) : s.closeScan c st false = s.scanClosed c st := by
  unfold State.closeScan
  simp only [h, false_and, if_false]
  rfl

theorem closeScan_aggregate (st : Nat) (h : planOut c.plan = 3) :
    s.closeScan c st false = (s.fab (c.buffer + c.out) c.aggregate).scanClosed (c.wrote 64) st := by
  unfold State.closeScan
  simp only [h, true_and, if_true]
  rfl

theorem scanClosed_ends {e : Desc} (st : Nat) (hdesc : s.desc? c.id = some e) (hopen : e.status = none) (hbuf : e.bufferFault = false)
    (hawake : s.getF F.PWR_DRAM_SR = 0) :
    let t := s.scanClosed c st
    t.ended c.id st c.records ∧ t.out = s.out ++ dramOuts s.pieces [(c.buffer, c.summary)] ∧ t.scan? c.id = none ∧
      t.getR R.SO_CNT_SCANS = s.getR R.SO_CNT_SCANS + 1 ∧ Frame (may [.descs, .sorting, .outputs, .regs 10]) s t := by
  set u := s.fab c.buffer c.summary
  set v := (u.scanRemoved c.id).scanShow.floorShow (c.positions.map Position.route)
  have hwritten : Frame 0x10000 s u := fab_frame_awake _ _ hawake
  have hshown : Frame 0x10000000 (u.scanRemoved c.id) v := (State.floorShow_frame ..).after (State.scanShow_frame _) rfl
  have hcounted : Frame 0x10000000 v (v.bump R.SO_CNT_SCANS) := State.bump_frame _ _ rfl rfl
  have hended : Frame 0x80 (v.bump R.SO_CNT_SCANS) (s.scanClosed c st) := State.finish_frame ..
  have hremoved := scanRemoved_frame (s := u) c.id
  refine ⟨?_, ?_, ?_, ?_, ?_⟩
  · refine ended_finish _ _ ?_ hopen hbuf
    exact (hcounted.desc? rfl _).trans ((hshown.desc? rfl _).trans ((hremoved.desc? rfl _).trans ((hwritten.desc? rfl _).trans hdesc)))
  · rw [hended.out rfl, hcounted.out rfl, hshown.out rfl, hremoved.out rfl]
    exact fab_out _ _ hawake
  · rw [scan?_of_frame hended rfl, scan?_of_frame hcounted rfl, scan?_of_frame hshown rfl, scan?_scanRemoved]
  · rw [hended.reg _ rfl, getR_bump_same, getR_floorShow _ (by decide), getR_scanShow (by decide), hremoved.reg _ rfl, hwritten.reg _ rfl]
  · exact hended.after (hcounted.after (hshown.after (hremoved.after (hwritten.mono rfl) rfl) rfl) rfl) rfl

/-! ### SCAN_END (R188, R191, R193) -/

theorem execScanEnd_ends {id : Nat} {e : Desc} (h : s.scan? id = some c) (hactive : c.active = true) (hruns : s.pipeRuns = true)
    (hdone : c.stop.isSome = true ∨ c.positions = [] ∧ planItems c.plan ≤ c.nextItem) (hdesc : s.desc? id = some e)
    (hbuf : e.bufferFault = false) : execScanEnd id s = .next (s.closeScan c c.endStatus false) := by
  have hgo : ¬(s.pipeRuns = false ∨ (c.stop.isNone ∧ (c.positions ≠ [] ∨ c.nextItem < planItems c.plan)) ∨ c.active = false) := by
    rintro (hstill | ⟨hstop, hwork⟩ | hwaits)
    · simp [hruns] at hstill
    · rcases hdone with hstopped | ⟨hempty, hlast⟩
      · rw [Option.isNone_iff_eq_none.1 hstop] at hstopped
        cases hstopped
      · rcases hwork with hmore | hmore
        · exact hmore hempty
        · omega
    · simp [hactive] at hwaits
  unfold execScanEnd
  simp only [h, hdesc, hbuf]
  rw [if_neg hgo]

/-- An AGGREGATE scan's end writes its totals before the summary. -/
theorem aggregateEnd_ends {e : Desc} (hdesc : s.desc? c.id = some e) (hopen : e.status = none) (hbuf : e.bufferFault = false)
    (hawake : s.getF F.PWR_DRAM_SR = 0) (hout : planOut c.plan = 3) :
    let t := s.closeScan c c.endStatus false
    t.ended c.id c.endStatus (c.records + 1) ∧
      t.out = s.out ++ dramOuts s.pieces [(c.buffer + c.out, c.aggregate), (c.buffer, (c.wrote 64).summary)] ∧ t.scan? c.id = none := by
  have hfab := fab_frame_awake (c.buffer + c.out) c.aggregate hawake
  obtain ⟨hended, hwritten, hgone, -, -⟩ := scanClosed_ends (c := c.wrote 64) c.endStatus
    ((hfab.desc? rfl _).trans hdesc) hopen hbuf ((hfab.getF rfl).trans hawake)
  dsimp only
  rw [closeScan_aggregate _ hout]
  refine ⟨hended, ?_, hgone⟩
  rw [hwritten, fab_out _ _ hawake, pieces_fab _ _ hawake, dramOuts_pair, List.append_assoc]
  rfl

end State
end Sys2Proof.Machine
end

section
/-! PROOFS. A lane that fails is retired, and another takes its routes (R199). -/

namespace Sys2Proof.Machine
namespace State

variable {s : State} {lane : Nat}

/-! ### The steps of a lane's retirement -/

/-- A lane is marked as failed. -/
def laneOut (s : State) (l : Nat) : State :=
  ({ s with so := { s.so with laneBad := insertAsc s.so.laneBad l } } : State).setF ⟨R.SO_LANE_FAIL (l / 32), l % 32, 1⟩ 1

/-- The routes of a lane go to a spare, or to the next working lane above it. -/
def laneReplaced (s : State) (l : Nat) : State :=
  if (s.laneRoutes l).isEmpty then s
  else match s.spareLanes with
    | m :: _ => (s.moveLane l m).raise F.SO_EVENT_LANE_SUBST
    | [] => match rotateIdx 34 (l + 1) s.laneWorks with
      | some m => (s.moveLane l m).raise F.SO_EVENT_LANE_SHORT
      | none => s

/-- The status register shows the lanes. -/
def lanesShown (s : State) : State :=
  let u := (s.setF F.SO_STATUS_LANES_OK ((List.range 34).countP s.laneWorks)).setF F.SO_STATUS_SPARES_LEFT s.spareLanes.length
  u.setF F.SO_STATUS_SHORT (b2n ((List.range 34).any fun m => decide (2 ≤ (u.laneRoutes m).length)))

theorem laneRetire_eq (h : s.laneWorks lane = true) : s.laneRetire lane = ((s.laneOut lane).laneReplaced lane).lanesShown := by
  unfold State.laneRetire
  rw [if_neg (by simp [h])]
  rfl

/-! ### What each step leaves -/

/-- From `s` to `t` lanes may have changed routes; which have failed has not changed. -/
structure LanesKept (s t : State) : Prop where
  bad : t.so.laneBad = s.so.laneBad
  failed : ∀ i, t.getR (R.SO_LANE_FAIL i) = s.getR (R.SO_LANE_FAIL i)

theorem LanesKept.refl (s : State) : LanesKept s s := ⟨rfl, fun _ => rfl⟩

theorem LanesKept.trans {t u : State} (h : LanesKept s t) (k : LanesKept t u) : LanesKept s u :=
  ⟨k.bad.trans h.bad, fun i => (k.failed i).trans (h.failed i)⟩

theorem LanesKept.setF {f : Field} (v : Nat) (h : f.off = R.SO_STATUS) : LanesKept s (s.setF f v) :=
  ⟨rfl, fun i => getR_setF_ne _ _ (by rw [h]; unfold R.SO_LANE_FAIL R.SO_STATUS; omega)⟩

theorem LanesKept.raise {f : Field} (h : f.off = R.SO_EVENT) (hso : (s.raise f).so = s.so) : LanesKept s (s.raise f) :=
  ⟨by rw [hso], fun i => raise_getR_ne s
    ⟨by unfold R.SO_LANE_FAIL R.MODE; omega, by unfold R.SO_LANE_FAIL R.PWR_WAKE; omega, by unfold R.SO_LANE_FAIL; omega⟩
    (by rw [h]; unfold R.SO_LANE_FAIL R.SO_EVENT; omega)⟩

/-- A route is given to lane `m`. -/
def routeMoved (s : State) (m r : Nat) : State := { s with so := { s.so with laneOf := tset id s.so.laneOf r m } }

theorem moveLane_eq (l m : Nat) : s.moveLane l m = (s.laneRoutes l).foldl (fun u r => u.routeMoved m r) s := rfl

theorem moveLane_kept (l m : Nat) : LanesKept s (s.moveLane l m) := by
  rw [moveLane_eq]
  exact foldl_relates LanesKept.refl LanesKept.trans fun u r _ => ⟨rfl, fun _ => rfl⟩

theorem laneOf_foldl_routeMoved (m : Nat) {rs : List Nat} {r : Nat} (h : r ∈ rs ∨ s.laneOf r = m) :
    (rs.foldl (fun u r => u.routeMoved m r) s).laneOf r = m := by
  induction rs generalizing s with
  | nil => simpa using h
  | cons q rs ih =>
    refine ih ?_
    by_cases hq : r = q
    · subst hq
      exact .inr (tget_tset_same ..)
    · refine (h.imp_left fun hin => (List.mem_cons.1 hin).resolve_left hq).imp_right fun hm => ?_
      exact (tget_tset_ne _ _ _ hq).trans hm

theorem laneOf_moveLane {l r : Nat} (m : Nat) (hr : r < 32) (h : s.laneOf r = l) : (s.moveLane l m).laneOf r = m :=
  laneOf_foldl_routeMoved m (.inl (List.mem_filter.2 ⟨List.mem_range.2 hr, decide_eq_true h⟩))

theorem raise_so {f : Field} (h : f.off = R.SO_EVENT) : (s.raise f).so = s.so :=
  (State.raise_frame (m := 0x50150012) s f (by rw [h]; rfl) (by unfold Frame.apart; rw [h]; rfl) rfl).so rfl

theorem laneReplaced_kept (l : Nat) : LanesKept s (s.laneReplaced l) := by
  unfold laneReplaced
  split
  · exact .refl s
  · split
    · exact (moveLane_kept _ _).trans (.raise rfl (raise_so rfl))
    · split
      · exact (moveLane_kept _ _).trans (.raise rfl (raise_so rfl))
      · exact .refl s

theorem laneReplaced_spare {l m : Nat} {ms : List Nat} (hserves : s.laneRoutes l ≠ []) (hspare : s.spareLanes = m :: ms) :
    s.laneReplaced l = (s.moveLane l m).raise F.SO_EVENT_LANE_SUBST := by
  unfold laneReplaced
  rw [if_neg (by simpa using hserves), hspare]

theorem lanesShown_kept : LanesKept s s.lanesShown := ((LanesKept.setF _ rfl).trans (.setF _ rfl)).trans (.setF _ rfl)

/-! ### The retirement -/

theorem laneRetire_kept (h : s.laneWorks lane = true) : LanesKept (s.laneOut lane) (s.laneRetire lane) := by
  rw [laneRetire_eq h]
  exact (laneReplaced_kept lane).trans lanesShown_kept

theorem laneRetire_works (h : s.laneWorks lane = true) (l : Nat) : (s.laneRetire lane).laneWorks l = (s.laneOut lane).laneWorks l := by
  unfold State.laneWorks
  rw [(laneRetire_kept h).bad]

theorem laneOut_stops : (s.laneOut lane).laneWorks lane = false := by
  have hin : lane ∈ (s.laneOut lane).so.laneBad := mem_insertAsc_self _ _
  unfold State.laneWorks
  simp [hin]

theorem laneOut_others {l : Nat} (h : l ≠ lane) : (s.laneOut lane).laneWorks l = s.laneWorks l := by
  have hmem : l ∈ (s.laneOut lane).so.laneBad ↔ l ∈ s.so.laneBad :=
    ⟨fun hin => (mem_of_mem_insertAsc hin).resolve_left h, mem_insertAsc_of_mem⟩
  unfold State.laneWorks
  simp only [List.contains_eq_mem, hmem]

theorem laneRetire_failed (h : s.laneWorks lane = true) : (s.laneRetire lane).getF ⟨R.SO_LANE_FAIL (lane / 32), lane % 32, 1⟩ = 1 := by
  have hmarked : (s.laneOut lane).getF ⟨R.SO_LANE_FAIL (lane / 32), lane % 32, 1⟩ = 1 :=
    getF_setF_same _ _ 1 (show lane % 32 + 1 ≤ 32 by omega)
  unfold State.getF at hmarked ⊢
  rw [(laneRetire_kept h).failed]
  exact hmarked

/-- A lane that serves routes is no spare, so the spares stay what they were when it fails. -/
theorem laneOut_spareLanes (h : s.laneRoutes lane ≠ []) : (s.laneOut lane).spareLanes = s.spareLanes := by
  unfold State.spareLanes
  refine List.filter_congr fun l _ => ?_
  have hroutes : (s.laneOut lane).laneRoutes l = s.laneRoutes l := rfl
  rw [hroutes]
  by_cases hl : l = lane
  · have hserves : (s.laneRoutes l).isEmpty = false := by rw [hl]; simpa using h
    rw [hserves, Bool.and_false, Bool.and_false]
  · rw [laneOut_others hl]

theorem laneRetire_spare {m : Nat} {ms : List Nat} (h : s.laneWorks lane = true) (hserves : s.laneRoutes lane ≠ [])
    (hspare : s.spareLanes = m :: ms) : (s.laneRetire lane).getF F.SO_EVENT_LANE_SUBST = 1 ∧
      ∀ r, r < 32 → s.laneOf r = lane → (s.laneRetire lane).laneOf r = m := by
  have hmoved : (s.laneOut lane).laneReplaced lane = ((s.laneOut lane).moveLane lane m).raise F.SO_EVENT_LANE_SUBST :=
    laneReplaced_spare hserves ((laneOut_spareLanes hserves).trans hspare)
  rw [laneRetire_eq h, hmoved]
  refine ⟨?_, fun r hr hlane => ?_⟩
  · unfold lanesShown
    rw [getF_setF_far _ (by decide), getF_setF_far _ (by decide), getF_setF_far _ (by decide)]
    exact raise_getF _ (by decide) rfl (by decide)
  · show (((s.laneOut lane).moveLane lane m).raise F.SO_EVENT_LANE_SUBST).laneOf r = m
    unfold State.laneOf
    rw [raise_so rfl]
    exact laneOf_moveLane (s := s.laneOut lane) m hr hlane

/-- A working lane is retired by a self-test that fails, and by a fault of its checker (R199). -/
theorem exec_laneRetires {i : Instr} (hcause : (i = .laneSelfTestDue lane false ∧ s.pipeRuns = true) ∨ i = .laneFault lane) :
    exec i s = .next (s.laneRetire lane) := by
  rcases hcause with ⟨rfl, hruns⟩ | rfl
  · show execLaneSelfTestDue lane false s = _
    unfold execLaneSelfTestDue
    rw [if_neg (by simp [hruns])]
  · rfl

end State
end Sys2Proof.Machine
end

section
/-! PROOFS. Scans retire and end (O47). -/

namespace Sys2Proof.Machine

/-- Settles O47: a lane's rows are one write of their position, a position retires by its outcome and record (`retirePosition_skipped`,
`retirePosition_writes`, `retirePosition_full`, `positionRetire_fails`), a scan ends in `State.scanClosed`, and a lane's failure in the steps of
`laneRetire_eq`. That an aggregate record is written after a failure too is the model's choice (log 55). -/
theorem scansRetireAndEnd : Obligations.ScansRetireAndEnd := by
  unfold Obligations.ScansRetireAndEnd
  refine ⟨?lane, ?position, ?ending, ?failure⟩
  case lane =>
    intro s id key c p h hscan hp hready hruns hhead
    obtain rfl := State.id_of_scan? hscan
    exact ⟨_, _, State.execLaneEvaluateDone_gives hscan hp hready hruns hhead, State.scan?_setScan_same (c := c.setPos _) hscan,
      Scan.mem_setPos (List.mem_of_find?_eq_some hp) rfl, Frame.mono (n := 0x400) rfl (State.setScan_frame ..)⟩
  case position =>
    intro s id c p l b hscan hp hstop hruns hawake
    obtain rfl := State.id_of_scan? hscan
    refine ⟨fun hskip => ?skipped, fun hrated hsome hout hb hlimit => ?evaluated, fun hfail hskip => ?failing⟩
    case skipped =>
      have hexec := State.execPositionRetire_retires hscan hp hstop hruns (by omega)
      rw [State.retirePosition_skipped hskip] at hexec
      obtain ⟨c', hfound, hleft, hout, hrecords, -, hgoes, htally⟩ := State.positionGone_left hscan hp
      exact ⟨_, c', hexec, hfound, hleft, hout, hrecords, hgoes.trans hstop, htally, State.positionGone_counts.1,
        Frame.mono (n := 0x10000400) rfl State.positionGone_frame⟩
    case evaluated =>
      subst hb
      have hexec := State.execPositionRetire_retires hscan hp hstop hruns (by omega)
      refine ⟨fun hfits => ?fits, fun hfull => ?full⟩
      case fits =>
        rw [State.retirePosition_writes hrated hsome hout hlimit hfits] at hexec
        obtain ⟨hwritten, hpositions, hevaluated, hframe⟩ := State.recordWritten_leaves (c := c) (p := p) hawake (positionRecord c.plan p)
        have hfab := State.fab_frame_awake (c.buffer + c.out) (positionRecord c.plan p) hawake
        obtain ⟨c', hfound, hleft, hfilled, hrecords, htold, hgoes, -⟩ := State.positionGone_left
          (c := c.wrote (positionRecord c.plan p).length) ((State.scan?_of_frame hfab rfl _).trans hscan) hp
        have hadds : p.rowsTold = p.rows.length := if_neg (by omega)
        exact ⟨_, c', hexec, hfound, hleft, hfilled, hrecords, htold.trans (congrArg _ hadds), hgoes.trans hstop, hwritten, hpositions,
          hevaluated hrated, hframe⟩
      case full =>
        rw [State.retirePosition_full hrated hsome hout hfull] at hexec
        exact ⟨_, _, hexec, State.discardScan_scan? (c := { c with stop := _, partialEnd := _ }) hscan, rfl, rfl, rfl, rfl,
          fun x hx => Scan.taken_emptied hx⟩
    case failing =>
      obtain ⟨c', hfound, hstopped, hstatus, hcount⟩ := State.positionRetire_fails hscan hfail hskip
      exact ⟨_, c', State.execPositionRetire_retires hscan hp hstop hruns (by omega), hfound, hstopped, hstatus, hcount⟩
  case ending =>
    intro s id c e hscan hactive hruns hdone hdesc hopen hbuf hawake
    obtain rfl := State.id_of_scan? hscan
    have hexec := State.execScanEnd_ends hscan hactive hruns hdone hdesc hbuf
    refine ⟨fun hout => ?plain, fun hout => ?aggregate⟩
    case plain =>
      rw [State.closeScan_plain _ hout] at hexec
      exact ⟨_, hexec, State.scanClosed_ends _ hdesc hopen hbuf hawake⟩
    case aggregate => exact ⟨_, hexec, State.aggregateEnd_ends hdesc hopen hbuf hawake hout⟩
  case failure =>
    intro s c lane hworks hcause
    exact ⟨_, State.exec_laneRetires hcause, (State.laneRetire_works hworks lane).trans State.laneOut_stops,
      State.laneRetire_failed hworks, fun l hl => (State.laneRetire_works hworks l).trans (State.laneOut_others hl),
      fun m ms hserves hspare => State.laneRetire_spare hworks hserves hspare⟩

end Sys2Proof.Machine
end

section
/-! PROOFS. Queues are created, deleted and resumed, and entries invalidated (R209, R213, R220 to R225). -/

namespace Sys2Proof.Machine

theorem inside_iff {lo hi v : Nat} : inside lo hi v = true ↔ lo ≤ v ∧ v ≤ hi := by simp [inside]

/-! ### Queues: read after write -/

namespace Frame

variable {m : Nat} {s t : State}

theorem sq (h : Frame m s t) (h6 : m.testBit 6 = false) (n : Nat) : t.sq n = s.sq n := by unfold State.sq; rw [h.q h6]

theorem cq (h : Frame m s t) (h6 : m.testBit 6 = false) (n : Nat) : t.cq n = s.cq n := by unfold State.cq; rw [h.q h6]

end Frame

namespace State

variable {s : State}

@[simp] theorem sq_setSq_same (n : Nat) (q : Option SQ) : (s.setSq n q).sq n = q := tget_tset_same _ _ _ _
@[simp] theorem cq_setCq_same (n : Nat) (c : Option CQ) : (s.setCq n c).cq n = c := tget_tset_same _ _ _ _
@[simp] theorem cq_setSq (n m : Nat) (q : Option SQ) : (s.setSq n q).cq m = s.cq m := rfl
@[simp] theorem sq_setCq (n m : Nat) (c : Option CQ) : (s.setCq n c).sq m = s.sq m := rfl

theorem sq_setSq_ne {n m : Nat} (q : Option SQ) (h : m ≠ n) : (s.setSq n q).sq m = s.sq m := tget_tset_ne _ _ _ h
theorem cq_setCq_ne {n m : Nat} (c : Option CQ) (h : m ≠ n) : (s.setCq n c).cq m = s.cq m := tget_tset_ne _ _ _ h

theorem mem_boundSqs {n m : Nat} : m ∈ s.boundSqs n ↔ ∃ x, (m, some x) ∈ s.q.sqs ∧ x.cq = n := by
  unfold State.boundSqs
  simp only [List.mem_map, List.mem_filter]
  constructor
  · rintro ⟨⟨i, x⟩, ⟨hmem, hbound⟩, rfl⟩
    cases x with
    | none => cases hbound
    | some x => exact ⟨x, hmem, of_decide_eq_true hbound⟩
  · rintro ⟨x, hmem, hbound⟩
    exact ⟨(m, some x), ⟨hmem, decide_eq_true hbound⟩, rfl⟩

/-- No SQ is bound to CQ `n`. -/
theorem boundSqs_eq_nil {n : Nat} : s.boundSqs n = [] ↔ ∀ m x, (m, some x) ∈ s.q.sqs → x.cq ≠ n := by
  simp only [List.eq_nil_iff_forall_not_mem, mem_boundSqs, not_exists, not_and, ne_eq]

/-! ### Ends of admin descriptors (R214, R239) -/

/-- The executing admin descriptor ends with the status it is given, whatever else has changed before. -/
theorem ended_of_adminRuns {t : State} {id op : Nat} {d : Desc} (st n : Nat) (h : s.adminRuns id op d) (hdescs : t.descs = s.descs) :
    (t.finish id st n).ended id st n := by
  obtain ⟨hruns, hdesc, hbuf⟩ := h
  exact ended_finish st n (by unfold State.desc? at *; rw [hdescs]; exact hdesc) (open_of_adminDesc hruns) hbuf

theorem finish_sq (id st n m : Nat) : (s.finish id st n).sq m = s.sq m := (State.finish_frame s id st n).sq (by decide) m

theorem finish_cq (id st n m : Nat) : (s.finish id st n).cq m = s.cq m := (State.finish_frame s id st n).cq (by decide) m

/-! ### DELETE_CQ (R224) -/

theorem execDeleteCq_refused {id : Nat} {d : Desc} (h : s.adminRuns id 0x43 d)
    (hbad : s.cq (field d.bytes 4 2) = none ∨ s.boundSqs (field d.bytes 4 2) ≠ []) :
    execDeleteCq id s = .next (s.finish id St.malformed 0) := by
  obtain ⟨hruns, -⟩ := h
  unfold execDeleteCq
  simp only [hruns]
  rw [if_neg]
  rcases hbad with hnone | hbound
  · simp [hnone]
  · simp [List.isEmpty_iff, hbound]

theorem execDeleteCq_deletes {id : Nat} {d : Desc} (h : s.adminRuns id 0x43 d) (hcq : (s.cq (field d.bytes 4 2)).isSome = true)
    (hfree : s.boundSqs (field d.bytes 4 2) = []) : execDeleteCq id s =
      .next (((s.setCq (field d.bytes 4 2) none).setBit (R.Q_CQ_FAULT 0) (field d.bytes 4 2) false).finish id St.ok 0) := by
  obtain ⟨hruns, -⟩ := h
  unfold execDeleteCq
  simp only [hruns]
  rw [if_pos (by simp [hcq, hfree])]

/-- A CQ that exists and that no SQ is bound to is deleted at once. -/
theorem deleteCq_ends {id n : Nat} {d : Desc} (h : s.adminRuns id 0x43 d) (hn : n = field d.bytes 4 2) (hcq : (s.cq n).isSome = true)
    (hfree : s.boundSqs n = []) : ∃ t, exec (.deleteCq id) s = .next t ∧ t.ended id St.ok 0 ∧ t.cq n = none ∧
      (∀ m, m ≠ n → t.cq m = s.cq m) ∧ Frame (may [.queues, .descs, .regs 6]) s t := by
  subst hn
  have hexec := execDeleteCq_deletes h hcq hfree
  refine ⟨_, hexec, ended_of_adminRuns _ _ h rfl, ?_, fun m hm => ?_, execDeleteCq_frame id s _ hexec⟩
  · rw [finish_cq]
    exact cq_setCq_same ..
  · rw [finish_cq]
    exact cq_setCq_ne none hm

/-- A CQ that is absent, or that an SQ is bound to, stays. -/
theorem deleteCq_malformed {id n : Nat} {d : Desc} (h : s.adminRuns id 0x43 d) (hn : n = field d.bytes 4 2)
    (hbad : s.cq n = none ∨ s.boundSqs n ≠ []) :
    ∃ t, exec (.deleteCq id) s = .next t ∧ t.ended id St.malformed 0 ∧ Frame (may [.descs]) s t := by
  subst hn
  exact ⟨_, execDeleteCq_refused h hbad, ended_of_adminRuns _ _ h rfl, State.finish_frame ..⟩

end State

/-- Settles O52: the SQs bound to the CQ are those that `State.boundSqs` lists, one that is being deleted among them. -/
theorem deleteCqFollowsItsBinding : Obligations.DeleteCqFollowsItsBinding := by
  intro s id n d hruns hn
  refine ⟨fun hnone => State.deleteCq_malformed hruns hn (.inl hnone), fun m x hmem hbound => ?_, fun hcq hfree => ?_⟩
  · exact State.deleteCq_malformed hruns hn (.inr (List.ne_nil_of_mem (State.mem_boundSqs.2 ⟨x, hmem, hbound⟩)))
  · exact State.deleteCq_ends hruns hn hcq (State.boundSqs_eq_nil.2 hfree)

namespace State

variable {s : State}

/-! ### CREATE_CQ and CREATE_SQ (R220, R222) -/

theorem execCreateCq_creates {id : Nat} {d : Desc} (h : s.adminRuns id 0x41 d)
    (hn : inside 1 (d.limits.getD 1 0) (field d.bytes 4 2) = true) (habsent : s.cq (field d.bytes 4 2) = none)
    (hk : inside 4 (d.limits.getD 2 0) (field d.bytes 16 1) = true) (hnotice : field d.bytes 17 1 = 0 ∨ 64 ≤ field d.bytes 17 1) :
    execCreateCq id s = .next ((s.setCq (field d.bytes 4 2)
      (some { base := field d.bytes 8 8, k := field d.bytes 16 1, notice := field d.bytes 17 1 })).finish id St.ok 0) := by
  obtain ⟨hruns, -⟩ := h
  unfold execCreateCq
  simp only [hruns]
  rw [if_pos (by rw [hn, habsent, hk]; simpa using hnotice)]

/-- The empty SQ that a CREATE_SQ with bytes `b` makes. -/
def sqCreated (s : State) (b : Bytes) : SQ :=
  { base := field b 8 8, k := field b 16 1, cq := field b 6 2, quota := field b 18 2, skip := s.stoppedSqs }

theorem execCreateSq_creates {id : Nat} {d : Desc} {c : CQ} (h : s.adminRuns id 0x40 d)
    (hn : inside 1 (d.limits.getD 0 0) (field d.bytes 4 2) = true) (habsent : s.sq (field d.bytes 4 2) = none)
    (hk : inside 4 (d.limits.getD 2 0) (field d.bytes 16 1) = true) (hbound : field d.bytes 6 2 ≠ 0)
    (hcq : s.cq (field d.bytes 6 2) = some c) (hgood : c.fault = false) (hquota : inside 1 256 (field d.bytes 18 2) = true)
    (hsum : s.quotaSum + field d.bytes 18 2 ≤ 4096) :
    execCreateSq id s = .next ((s.setSq (field d.bytes 4 2) (some (s.sqCreated d.bytes))).finish id St.ok 0) := by
  have hgiven : field d.bytes 18 2 ≠ 0 := fun hzero => by rw [hzero] at hquota; cases hquota
  obtain ⟨hruns, -⟩ := h
  unfold execCreateSq
  simp only [hruns, if_neg hgiven, hcq, sqCreated]
  rw [if_pos (by rw [hn, habsent, hk, hgood, hquota]; simp [hbound, hsum])]

/-! ### DELETE_SQ (R223) -/

/-- DELETE_SQ stops the fetching of its SQ and drops the cached entries; what else it ends leaves the queues alone. -/
theorem deleteSq_leaves {id : Nat} {d : Desc} {q : SQ} (h : s.adminRuns id 0x42 d) (hsq : s.sq (field d.bytes 4 2) = some q)
    (hstays : q.deleting = false) :
    ∃ t, execDeleteSq id s = .next t ∧ t.sq (field d.bytes 4 2) = some { q.dropCopies with deleting := true } := by
  have hexec : execDeleteSq id s = .next ((((s.setSq (field d.bytes 4 2) (some { q.dropCopies with deleting := true })).setDesc
      { d with started := true }).abortScans (field d.bytes 4 2)).flushLeaving (field d.bytes 4 2) id) := by
    obtain ⟨hruns, -⟩ := h
    unfold execDeleteSq
    simp only [hruns, hsq, hstays, Bool.false_eq_true, if_false]
  refine ⟨_, hexec, ?_⟩
  rw [(flushLeaving_keeps _ id).1.sq (by decide), (State.abortScans_frame ..).sq (by decide)]
  exact sq_setSq_same ..

/-- An SQ that is being deleted ceases to exist with its last entry, and its DELETE_SQ ends (R223 step 4). -/
theorem execSqDeleteEnd_ends {n : Nat} {q : SQ} {c : CQ} {d : Desc} (hsq : s.sq n = some q) (hleaves : q.deleting = true)
    (hempty : q.order = []) (hcq : s.cq q.cq = some c) (hgood : c.fault = false)
    (hfind : (s.descs.find? fun d => d.sq = 0 && d.op = 0x42 && d.started && d.status.isNone && field d.bytes 4 2 = n) = some d) :
    execSqDeleteEnd n s = .next (((s.setSq n none).setBit (R.Q_STOPPED 0) n false).finish d.id St.ok 0) := by
  have hkept : ({ s with descs := s.descs.filter fun d => !([] : List Nat).contains d.id } : State) = s := by simp
  have hfound : (((s.setSq n none).setBit (R.Q_STOPPED 0) n false).descs.find?
      fun d => d.sq = 0 && d.op = 0x42 && d.started && d.status.isNone && field d.bytes 4 2 = n) = some d := hfind
  unfold execSqDeleteEnd
  simp only [hsq, hleaves, hempty, hcq, hgood, Bool.false_eq_true, Bool.true_eq_false, if_false, hkept, List.drop_nil, ne_eq,
    not_true_eq_false, hfound]

/-! ### RESUME_QUEUE and INVALIDATE_ENTRIES (R209, R213) -/

theorem resumeSq_eq {n : Nat} {q : SQ} (h : s.sq n = some q) :
    s.resumeSq n = (s.setSq n (some { q with stopped := false })).setBit (R.Q_STOPPED 0) n false := by
  unfold State.resumeSq
  simp only [h]

theorem resumeSq_sq {n : Nat} {q : SQ} (h : s.sq n = some q) : (s.resumeSq n).sq n = some { q with stopped := false } := by
  rw [resumeSq_eq h]
  exact sq_setSq_same ..

theorem resumeSq_stopped {n : Nat} {q : SQ} (h : s.sq n = some q) : (s.resumeSq n).getBit (R.Q_STOPPED 0) n = false := by
  rw [resumeSq_eq h, getBit_setBit_same]

/-- A CQ that is not in fault has nothing to retry. -/
theorem resumeCq_good {n : Nat} {c : CQ} (h : s.cq n = some c) (hgood : c.fault = false) : s.resumeCq n = s := by
  unfold State.resumeCq
  simp only [h, hgood, Bool.false_eq_true, if_false]

theorem execResumeQueue_resumes {id : Nat} {d : Desc} {q : SQ} (h : s.adminRuns id 0x44 d) (hkind : field d.bytes 6 1 = 0)
    (hsq : s.sq (field d.bytes 4 2) = some q) (hstays : q.deleting = false) :
    execResumeQueue id s = .next ((s.resumeSq (field d.bytes 4 2)).finish id St.ok 0) := by
  obtain ⟨hruns, -⟩ := h
  unfold execResumeQueue
  simp only [hruns, hkind, hsq, hstays, if_true, Bool.false_eq_true, if_false]

theorem execInvalidateEntries_drops {id : Nat} {d : Desc} {q : SQ} (h : s.adminRuns id 0x45 d) (hone : field d.bytes 4 2 ≠ 0xFFFF)
    (hsq : s.sq (field d.bytes 4 2) = some q) :
    execInvalidateEntries id s = .next ((s.setSq (field d.bytes 4 2) (some q.dropCopies)).finish id St.ok q.ahead) := by
  obtain ⟨hruns, -⟩ := h
  unfold execInvalidateEntries
  simp only [hruns, if_neg hone, hsq]

end State

/-- Settles O27: each command is one write of its queue, by the lemma of its name, and the finish of its descriptor. -/
theorem queuesAreCreatedAndDeleted : Obligations.QueuesAreCreatedAndDeleted := by
  refine ⟨fun s id d hruns hlow hhigh habsent hk hring hnotice => ?createCq,
    fun s id d c hruns hlow hhigh habsent hk hring hbound hcq hgood hquota hmost hsum => ?createSq,
    fun s id d c hruns hcq hfree => ?deleteCq, fun s id d q hruns hsq hstays => ?deleteSq,
    fun s n id q c d hsq hleaves hempty hcq hgood hdesc hid hopen hbuf hfind => ?ended⟩
  case createCq =>
    have hexec := State.execCreateCq_creates hruns (inside_iff.2 ⟨hlow, hhigh⟩) habsent (inside_iff.2 ⟨hk, hring⟩) hnotice
    refine ⟨_, hexec, State.ended_of_adminRuns _ _ hruns rfl, (State.finish_frame ..).after ((State.setCq_frame ..).mono rfl) rfl, ?_⟩
    rw [State.finish_cq, State.cq_setCq_same]
  case createSq =>
    have hexec := State.execCreateSq_creates hruns (inside_iff.2 ⟨hlow, hhigh⟩) habsent (inside_iff.2 ⟨hk, hring⟩) hbound hcq hgood
      (inside_iff.2 ⟨hquota, hmost⟩) hsum
    refine ⟨_, s.sqCreated d.bytes, hexec, State.ended_of_adminRuns _ _ hruns rfl, execCreateSq_frame id s _ hexec, ?_, rfl, rfl,
      rfl, rfl, rfl, rfl, rfl⟩
    rw [State.finish_sq, State.sq_setSq_same]
  case deleteCq =>
    obtain ⟨t, hexec, hended, hgone, -, hframe⟩ := State.deleteCq_ends hruns rfl (by rw [hcq]; rfl) hfree
    exact ⟨t, hexec, hended, hgone, hframe⟩
  case deleteSq =>
    obtain ⟨t, hexec, hleft⟩ := State.deleteSq_leaves hruns hsq hstays
    exact ⟨t, _, hexec, hleft, rfl, rfl, rfl⟩
  case ended =>
    have hexec := State.execSqDeleteEnd_ends hsq hleaves hempty hcq hgood hfind
    subst hid
    refine ⟨_, hexec, ?_, State.ended_finish _ _ hdesc hopen hbuf, execSqDeleteEnd_frame n s _ hexec⟩
    rw [State.finish_sq]
    exact State.sq_setSq_same ..

end Sys2Proof.Machine
end

section
/-! PROOFS. Doorbells (R206, R207, R216), and the resuming and enabling of queues (R209, R213, R225). -/

namespace Sys2Proof.Machine

/-- An SQ whose tail doorbell `v` has handed over `n` entries, at the office's stamp `stamp`. -/
def SQ.handed (q : SQ) (v n stamp : Nat) (stopped : List Nat) : SQ :=
  { q with tail := v, count := q.count + n, batches := q.batches ++ [(stamp, n)], skip := if q.count = 0 then stopped else q.skip }

namespace State

variable {s : State}

/-! ### A write that acts -/

/-- A write that reaches a register without locked bits does what its register does, where that holds no write back. -/
theorem writeReg_acts {m off : Nat} {row : RegRow} {v : W32} (h : s.takes off) (hr : regRow? off = some row)
    (hrow : row.rwx = 0 ∧ row.rwl = 0) (hdoor : isDoor off = false) (hframe : Frame m s (s.applyWrite row off v))
    (hm : m.testBit 2 = false) : s.writeReg off v = s.applyWrite row off v := by
  have hheld : (s.applyWrite row off v).sec.heldWrites = [] := by
    obtain ⟨-, -, -, hnone⟩ := h
    rw [hframe.sec hm, hnone]
  exact writeReg_takes h hr hdoor (by simp [State.lockedMask, hrow]) hheld

/-! ### Doorbells (R206, R207, R216) -/

theorem withQ_frame (x : Qe) : Frame 0x40 s { s with q := x } := { Frame.refl s with q := fun h => absurd h (by decide) }

/-- A doorbell write in a mode that takes it, outside a seam, takes effect at once. -/
theorem doorGate_goes (off n : Nat) (v : W32) (hanswers : s.answers = true) (hhold : s.modeNow ≠ 7) (hsafe : s.modeNow = 10 → n = 0)
    (hseam : s.getF F.IMG_STATUS_STATE ≠ 5) : s.doorGate off n v = (s, true) := by
  have hon : ¬ (s.modeNow = 0 ∨ s.modeNow = 8) := by simpa [State.answers] using hanswers
  unfold State.doorGate
  rw [if_neg hon, if_neg fun h => h.2 (hsafe h.1), if_neg hhold, if_neg hseam]

/-- The next doorbell that hands over entries has the next stamp. -/
def nextStamp (s : State) : State := { s with q := { s.q with stamp := s.q.stamp + 1 } }

theorem sqDoor_hands {n v : Nat} {q : SQ} (own : Bool) (hsq : s.sq n = some q) (hstays : q.deleting = false) (hv : v < q.size)
    (hsome : (v + q.size - q.tail) % q.size ≠ 0) (hroom : (v + q.size - q.tail) % q.size ≤ q.size - q.count) :
    s.sqDoor n v own = (s.setSq n (some (q.handed v ((v + q.size - q.tail) % q.size) s.q.stamp s.stoppedSqs))).nextStamp := by
  unfold State.sqDoor
  simp only [hsq]
  rw [if_neg (by simp [hstays]), if_neg (Nat.not_le.2 hv), if_neg (Nat.not_lt.2 hroom), if_pos hsome, if_neg hsome]
  rfl

/-- A tail doorbell write that passes the gate. -/
theorem execSqDoorbell_goes {n : Nat} (v : W32) (own : Bool) (hn : n < 1024) (hanswers : s.answers = true) (hhold : s.modeNow ≠ 7)
    (hsafe : s.modeNow = 10 → n = 0) (hseam : s.getF F.IMG_STATUS_STATE ≠ 5) :
    execSqDoorbell n v own s = .next (s.sqDoor n v.toNat own) := by
  unfold execSqDoorbell State.sqDoorWrite
  rw [if_pos hn, doorGate_goes _ _ _ hanswers hhold hsafe hseam]
  rfl

/-- A head doorbell write that passes the gate. -/
theorem execCqDoorbell_goes {n : Nat} (v : W32) (hn : n < 1024) (hanswers : s.answers = true) (hhold : s.modeNow ≠ 7)
    (hsafe : s.modeNow = 10 → n = 0) (hseam : s.getF F.IMG_STATUS_STATE ≠ 5) : execCqDoorbell n v s = .next (s.cqDoor n v.toNat) := by
  unfold execCqDoorbell State.cqDoorWrite
  rw [if_pos hn, doorGate_goes _ _ _ hanswers hhold hsafe hseam]
  rfl

/-- A doorbell value that is not below the ring size is ignored (R206). -/
theorem sqDoor_outside {n v : Nat} {q : SQ} (own : Bool) (hsq : s.sq n = some q) (hstays : q.deleting = false) (hv : q.size ≤ v) :
    s.sqDoor n v own = s.dbIgnored n 0 1 v := by
  unfold State.sqDoor
  simp only [hsq, hstays, Bool.false_eq_true, if_false, if_pos hv]

/-- An ignored doorbell is logged, counted and raised (R206). -/
theorem dbIgnored_shows (n kind cause v : Nat) : (s.dbIgnored n kind cause v).getR R.Q_DB_COUNT = s.getR R.Q_DB_COUNT + 1 ∧
    (s.dbIgnored n kind cause v).getF F.Q_EVENT_DB_IGNORED = 1 := by
  unfold State.dbIgnored
  refine ⟨?_, raise_getF _ (by decide) rfl (by decide)⟩
  rw [raise_getR_ne _ (by decide) (by decide), getR_bump_same, getR_setR_ne _ _ (by decide)]

theorem cqDoor_moves {n v : Nat} {c : CQ} (hcq : s.cq n = some c) (hv : v < c.size)
    (hroom : (v + c.size - c.head) % c.size ≤ c.unreleased) : s.cqDoor n v = s.setCq n (some { c with head := v }) := by
  unfold State.cqDoor
  simp only [hcq, if_neg (Nat.not_le.2 hv), if_neg (Nat.not_lt.2 hroom)]

end State

/-- Settles O24: a doorbell that passes the gate is `State.sqDoor` or `State.cqDoor`, which move their ring or log the write. -/
theorem doorbellsMoveTheRings : Obligations.DoorbellsMoveTheRings := by
  refine ⟨fun s n v own q hn hanswers hhold hsafe hseam hsq hstays => ⟨fun hv hsome hroom => ?hands, fun hv => ?outside⟩,
    fun s n v c hn hanswers hhold hsafe hseam hcq hv hroom => ?head⟩
  case hands =>
    have hexec := State.execSqDoorbell_goes v own hn hanswers hhold hsafe hseam
    rw [State.sqDoor_hands own hsq hstays hv hsome hroom] at hexec
    exact ⟨_, _, hexec, State.sq_setSq_same .., rfl, rfl, rfl, rfl, fun m hm => State.sq_setSq_ne _ hm, State.withQ_frame _⟩
  case outside =>
    have hexec := State.execSqDoorbell_goes v own hn hanswers hhold hsafe hseam
    rw [State.sqDoor_outside own hsq hstays hv] at hexec
    obtain ⟨hcount, hevent⟩ := State.dbIgnored_shows (s := s) n 0 1 v.toNat
    exact ⟨_, hexec, (State.dbIgnored_frame ..).q (by decide), hcount, hevent⟩
  case head =>
    have hexec := State.execCqDoorbell_goes v hn hanswers hhold hsafe hseam
    rw [State.cqDoor_moves hcq hv hroom] at hexec
    exact ⟨_, hexec, State.cq_setCq_same .., fun m hm => State.cq_setCq_ne _ hm, State.setCq_frame ..⟩

namespace State

variable {s : State}

/-! ### The admin queue (R213, R225) -/

/-- `ENS_Q_ADMIN_CFG` has no locked bit: a write of it takes effect. -/
theorem writeReg_adminCfg {v : W32} (h : s.takes R.Q_ADMIN_CFG) : s.writeReg R.Q_ADMIN_CFG v = s.adminCfgWrite v.toNat :=
  writeReg_acts h rfl ⟨rfl, rfl⟩ rfl (State.adminCfgWrite_frame s v.toNat) rfl

/-- The admin queue's registers once a write `v` has enabled it. -/
def adminEnabled (s : State) (v : Nat) : State := (s.setF ⟨R.Q_ADMIN_CFG, 2, 16⟩ (bits v 2 16)).setF F.Q_ADMIN_CFG_EN 1

theorem adminCfgWrite_enables {v : Nat} (hoff : s.getF F.Q_ADMIN_CFG_EN = 0) (hmode : s.modeNow ≠ 10) (hen : bit v 0 = true)
    (hresume : bit v 1 = false) : s.adminCfgWrite v = (s.adminEnabled v).adminOpen := by
  have hfields : s.adminFieldsWrite v = s.setF ⟨R.Q_ADMIN_CFG, 2, 16⟩ (bits v 2 16) := if_neg (by rw [hoff]; decide)
  have hoff' : (s.setF ⟨R.Q_ADMIN_CFG, 2, 16⟩ (bits v 2 16)).getF F.Q_ADMIN_CFG_EN = 0 := by
    rw [getF_setF_ne _ _ (by decide) (by decide), hoff]
  have hmode' : (s.setF ⟨R.Q_ADMIN_CFG, 2, 16⟩ (bits v 2 16)).modeNow ≠ 10 := by
    unfold State.modeNow at hmode ⊢
    rwa [getF_setF_ne _ _ (by decide) (by decide)]
  unfold State.adminCfgWrite State.adminResumeWrite State.adminEnableWrite
  rw [hfields]
  simp only [hoff', hmode', hen, hresume, Nat.zero_ne_one, if_true, if_false, false_and, Bool.false_eq_true]
  rfl

theorem adminCfgWrite_resumes {v : Nat} (hon : s.getF F.Q_ADMIN_CFG_EN = 1) (hen : bit v 0 = true) (hresume : bit v 1 = true)
    (hsame : bits v 2 16 = bits (s.getR R.Q_ADMIN_CFG).toNat 2 16) : s.adminCfgWrite v = (s.resumeSq 0).resumeCq 0 := by
  unfold State.adminCfgWrite State.adminResumeWrite State.adminEnableWrite State.adminFieldsWrite
  simp only [hon, hen, hresume, hsame, if_true]

/-- The ring of the enabled admin queue's registers. -/
theorem adminOpen_rings : ∃ q c, s.adminOpen.sq 0 = some q ∧ s.adminOpen.cq 0 = some c ∧
    q.base = s.getF F.Q_ADMIN_SQ_LO_ADDR * 64 + s.getF F.Q_ADMIN_SQ_HI_ADDR * 2 ^ 32 ∧
    c.base = s.getF F.Q_ADMIN_CQ_LO_ADDR * 64 + s.getF F.Q_ADMIN_CQ_HI_ADDR * 2 ^ 32 ∧ q.head = 0 ∧ q.tail = 0 ∧ q.quota = 16 ∧
    c.head = 0 ∧ c.tail = 0 ∧ c.phase = true :=
  ⟨_, _, (sq_setCq ..).trans (sq_setSq_same ..), cq_setCq_same .., rfl, rfl, rfl, rfl, rfl, rfl, rfl, rfl⟩

/-- A register other than `ENS_Q_ADMIN_CFG` is as it was. -/
theorem getF_adminEnabled {f : Field} (v : Nat) (h : f.off ≠ R.Q_ADMIN_CFG) : (s.adminEnabled v).getF f = s.getF f := by
  unfold adminEnabled
  rw [getF_setF_ne _ _ (.inl h) (by decide), getF_setF_ne _ _ (.inl h) (by decide)]

end State

/-- Settles O28: RESUME_QUEUE and RESUME are `State.resumeSq`, INVALIDATE_ENTRIES is `SQ.dropCopies`, and enabling is `State.adminOpen`. -/
theorem queuesAreResumedAndEnabled : Obligations.QueuesAreResumedAndEnabled := by
  refine ⟨fun s id d q hruns hkind hsq hstays => ?resume, fun s id d q hruns hone hsq => ?invalidate,
    fun s v htakes hoff hen hresume => ?enable, fun s v q c htakes hon hen hresume hsame hsq hcq hgood => ?adminResume⟩
  case resume =>
    have hexec := State.execResumeQueue_resumes hruns hkind hsq hstays
    have hfinish := State.finish_frame (s.resumeSq (field d.bytes 4 2)) id St.ok 0
    refine ⟨_, hexec, State.ended_of_adminRuns _ _ hruns ((State.resumeSq_frame ..).descs rfl), ?_, ?_,
      hfinish.after ((State.resumeSq_frame ..).mono rfl) rfl⟩
    · rw [State.finish_sq, State.resumeSq_sq hsq]
    · unfold State.getBit
      rw [State.getR_of_frame hfinish (by decide)]
      exact State.resumeSq_stopped hsq
  case invalidate =>
    have hexec := State.execInvalidateEntries_drops hruns hone hsq
    refine ⟨_, hexec, State.ended_of_adminRuns _ _ hruns rfl, ?_, execInvalidateEntries_frame id s _ hexec⟩
    rw [State.finish_sq, State.sq_setSq_same]
    rfl
  case enable =>
    have hwrite := State.writeReg_adminCfg (v := v) htakes
    obtain ⟨-, hsafe, -, -⟩ := htakes
    rw [State.adminCfgWrite_enables hoff hsafe hen hresume] at hwrite
    obtain ⟨q, c, hsq, hcq, hsqBase, hcqBase, hempty⟩ := State.adminOpen_rings (s := s.adminEnabled v.toNat)
    refine ⟨_, q, c, congrArg Host.Outcome.next hwrite, ?_, hsq, hcq, ?_, ?_, hempty⟩
    · rw [(State.adminOpen_frame _).getF rfl]
      exact State.getF_setF_same _ _ _ (by decide)
    · rw [hsqBase, State.getF_adminEnabled _ (by decide), State.getF_adminEnabled _ (by decide)]
    · rw [hcqBase, State.getF_adminEnabled _ (by decide), State.getF_adminEnabled _ (by decide)]
  case adminResume =>
    have hcq' : (s.resumeSq 0).cq 0 = some c := by
      rw [State.resumeSq_eq hsq]
      exact hcq
    have hwrite := State.writeReg_adminCfg (v := v) htakes
    rw [State.adminCfgWrite_resumes hon hen hresume hsame, State.resumeCq_good hcq' hgood] at hwrite
    exact ⟨_, congrArg Host.Outcome.next hwrite, State.resumeSq_sq hsq, State.resumeSq_stopped hsq, hcq', State.resumeSq_frame ..⟩

end Sys2Proof.Machine
end

section
/-! PROOFS. Entries are fetched, cached and read again (R205, R208, R209), and descriptors admitted or their queue stopped (R210, R212). -/

namespace Sys2Proof.Machine

/-- An entry joins the cached ones. -/
def SQ.cached (q : SQ) (e : Cached) : SQ := { q with cache := q.cache ++ [e], ownWait := false }

/-- The slot after the cached ones waits to be read again, and what is being fetched behind it is discarded. -/
def SQ.awaitsOwn (q : SQ) : SQ :=
  { q with ownWait := true, fetching := 0, stale := q.stale ++ q.fetchSlots.map fun x => (x + 1) % q.size }

/-- The slot after the cached ones. -/
def SQ.nextSlot (q : SQ) : Nat := (q.head + q.cache.length) % q.size

namespace State

variable {s : State}

/-! ### Entry fetch (R205, R208, R209) -/

theorem execEntryFetch_begins {n : Nat} {q : SQ} (b : Bytes) (resp : Nat) (hsq : s.sq n = some q) (hfetches : s.fetches n q = true)
    (hown : q.ownWait = false) : execEntryFetch n b resp s true = .next (s.setSq n (some { q with fetching := q.fetching + 1 })) := by
  unfold execEntryFetch
  simp only [hsq]
  rw [if_pos trivial, if_pos ⟨hfetches, hown⟩]

theorem execEntryFetch_arrives {n : Nat} {q : SQ} (b : Bytes) (resp : Nat) (hsq : s.sq n = some q) (hruns : s.coreRuns = true)
    (hstale : q.stale = []) (hfetching : 0 < q.fetching) :
    execEntryFetch n b resp s = .next (s.cacheEntry n { q with fetching := q.fetching - 1 } b resp) := by
  unfold execEntryFetch
  simp only [hsq]
  rw [if_neg (by decide), if_neg (by simp [hruns])]
  split
  next hcons => rw [hstale] at hcons; cases hcons
  next => rw [if_pos hfetching]

/-- A fetch whose copy was dropped is discarded as it arrives (R209). -/
theorem execEntryFetch_discards {n slot : Nat} {q : SQ} {l : List Nat} (b : Bytes) (hsq : s.sq n = some q) (hruns : s.coreRuns = true)
    (hstale : q.stale = slot :: l) : execEntryFetch n b 0 s = .next (s.setSq n (some { q with stale := l })) := by
  unfold execEntryFetch
  simp only [hsq]
  rw [if_neg (by decide), if_neg (by simp [hruns])]
  split
  next hcons =>
    obtain ⟨-, rfl⟩ := List.cons.inj (hstale.symm.trans hcons)
    rfl
  next hnil => rw [hstale] at hnil; cases hnil

theorem execOwnRecheckExpiry_reads {n : Nat} {q : SQ} (b : Bytes) (resp : Nat) (hsq : s.sq n = some q) (hfetches : s.fetches n q = true)
    (hown : q.ownWait = true) : execOwnRecheckExpiry n b resp s = .next (s.cacheEntry n q b resp) := by
  unfold execOwnRecheckExpiry
  simp only [hsq]
  rw [if_pos ⟨hfetches, hown⟩]

/-- SQ `n` is no longer one whose lost copies are being fetched again. -/
def refetched (s : State) (n : Nat) : State := { s with mi := { s.mi with redo := s.mi.redo.filter (· ≠ n) } }

theorem refetched_setSq_frame (n m : Nat) (q : Option SQ) : Frame (may [.queues, .sram]) s ((s.refetched n).setSq m q) :=
  { Frame.refl s with q := fun h => absurd h (by decide), mi := fun h => absurd h (by decide) }

theorem cacheEntry_owned {b : Bytes} (n : Nat) (q : SQ) (h : bit (field b 1 1) 7 = true) :
    s.cacheEntry n q b 0 = (s.refetched n).setSq n (some (q.cached { slot := q.nextSlot, bytes := slice b 0 64 })) := by
  unfold State.cacheEntry
  dsimp only
  rw [if_neg (by decide), if_neg (by decide), if_pos h]
  rfl

theorem cacheEntry_unowned {b : Bytes} (n : Nat) (q : SQ) (h : bit (field b 1 1) 7 = false) :
    s.cacheEntry n q b 0 = (s.refetched n).setSq n (some q.awaitsOwn) := by
  unfold State.cacheEntry
  dsimp only
  rw [if_neg (by decide), if_neg (by decide), if_neg (by rw [h]; decide)]
  rfl

/-- An entry whose read failed is cached with stop cause 5 (R208). -/
theorem cacheEntry_failed (n : Nat) (q : SQ) (b : Bytes) :
    s.cacheEntry n q b 1 = (s.refetched n).setSq n (some (q.cached { slot := q.nextSlot, bytes := [], bad := 5 })) := rfl

/-! ### Descriptors keep their numbers -/

theorem finish_ids (id st n : Nat) : (s.finish id st n).descs.map Desc.id = s.descs.map Desc.id := by
  unfold State.finish
  split
  next d hd =>
    split
    · refine List.map_map.trans (List.map_congr_left fun x _ => ?_)
      show (if x.id = d.id then _ else x : Desc).id = x.id
      split
      next h => exact h.symm
      next => rfl
    · rfl
  · rfl

theorem closeScan_ids (c : Scan) (st : Nat) (fault : Bool) : (s.closeScan c st fault).descs.map Desc.id = s.descs.map Desc.id := by
  have hshown : ∀ (u : State) (rs : List Nat), (u.scanShow.floorShow rs).descs = u.descs := fun u rs =>
    ((State.floorShow_frame ..).descs rfl).trans ((State.scanShow_frame u).descs rfl)
  unfold State.closeScan State.scanFinish
  refine (finish_ids ..).trans (congrArg (List.map Desc.id) ((hshown _ _).trans (((State.fab_frame ..).descs rfl).trans ?_)))
  split
  · exact (State.fab_frame ..).descs rfl
  · rfl

theorem safeAbort_ids : s.safeAbort.descs.map Desc.id = s.descs.map Desc.id := by
  have htogether : ∀ (u : State) (n : Nat), (u.together n).descs.map Desc.id = u.descs.map Desc.id := fun u n =>
    List.map_map.trans (List.map_congr_left fun d _ => by
      show (if n ≤ d.doneAt then _ else d : Desc).id = d.id
      split <;> rfl)
  refine (htogether _ _).trans (foldl_keeps (fun u : State => u.descs.map Desc.id) fun u d _ => ?_)
  split
  · exact closeScan_ids ..
  · split
    · exact (finish_ids ..).trans (congrArg (List.map Desc.id) ((State.summaryUnread_frame ..).descs rfl))
    · exact finish_ids ..

theorem safeSettle_ids : s.safeSettle.descs.map Desc.id = s.descs.map Desc.id := by
  unfold State.safeSettle
  split
  · exact safeAbort_ids
  · rfl

/-! ### Bits of an array beside a raised event -/

theorem getBit_raise_ne {base i : Nat} {f : Field} (h : ∀ j < 32, still (base + 4 * j) ∧ base + 4 * j ≠ f.off) :
    (s.raise f).getBit base i = s.getBit base i := by
  obtain ⟨hstill, hne⟩ := h (i / 32 % 32) (Nat.mod_lt _ (by decide))
  unfold State.getBit
  rw [raise_getR_ne _ hstill hne]

/-! ### Admission (R210, R212) -/

theorem execAdmission_picks {n ptr : Nat} {q : SQ} {e : Cached} {l : List Cached} (hpick : s.admitPick = some (n, ptr))
    (hsq : s.sq n = some q) (hcache : q.cache = e :: l) :
    execAdmission s = .next (({ s with q := { s.q with ptr := ptr % 1024 } } : State).admitHead n q e) := by
  unfold execAdmission
  simp only [hpick, hsq]
  split
  next hcons =>
    obtain ⟨rfl, -⟩ := List.cons.inj (hcache.symm.trans hcons)
    rfl
  next hnil => rw [hcache] at hnil; cases hnil

/-- The entry at the head of SQ `n` has its number, and its OWN bit is cleared. -/
def entryTaken (s : State) (n : Nat) (q : SQ) (e : Cached) : State := s.fresh.2.clearOwn n q e (s.entryCause n e)

theorem entryTaken_frame (n : Nat) (q : SQ) (e : Cached) : Frame 0x40010041 s (s.entryTaken n q e) :=
  (State.clearOwn_frame ..).after ((State.fresh_frame s).mono rfl) rfl

/-- An SQ whose head descriptor has left the ring under number `id`. -/
def headTaken (s : State) (q : SQ) (id : Nat) : SQ := { q.advance s.stoppedSqs with order := q.order ++ [id] }

/-- The descriptor of an entry that its queue stops on (R212). -/
def stopDesc (s : State) (n id : Nat) (q : SQ) (e : Cached) (cause : Nat) : Desc :=
  { id := id, sq := n, bytes := if 5 ≤ cause then [] else e.bytes, admitNs := s.nowNs, handed := q.headStamp,
    status := some St.queueStopped, doneAt := id }

/-- SQ `n` holds `q`, and a descriptor is added. -/
def admittedInto (s : State) (n : Nat) (q : SQ) (d : Desc) : State := { s.setSq n (some q) with descs := s.descs ++ [d] }

/-- The stop of SQ `n` on the entry at `slot` is shown, logged and raised (R212). -/
def stopShown (s : State) (n slot cause : Nat) : State :=
  ((s.setBit (R.Q_STOPPED 0) n true).setR R.Q_STOP_LOG (BitVec.ofNat 32 (slot + n * 2 ^ 16 + cause * 2 ^ 26))).raise F.Q_EVENT_QUEUE_STOP

theorem stopShown_shows (n slot cause : Nat) : (s.stopShown n slot cause).getBit (R.Q_STOPPED 0) n = true ∧
    (s.stopShown n slot cause).getF F.Q_EVENT_QUEUE_STOP = 1 ∧
    ((s.stopShown n slot cause).getR R.Q_STOP_LOG).toNat = (slot + n * 2 ^ 16 + cause * 2 ^ 26) % 2 ^ 32 := by
  unfold stopShown
  refine ⟨?_, raise_getF _ (by decide) rfl (by decide), ?_⟩
  · rw [getBit_raise_ne (by decide), getBit_setR_ne _ _ (by decide), getBit_setBit_same]
  · rw [raise_getR_ne _ (by decide) (by decide), getR_setR_same, BitVec.toNat_ofNat]

theorem stopShown_frame (n slot cause : Nat) : Frame 0x41150012 s (s.stopShown n slot cause) := by
  have hgroup : regGroup (R.Q_STOPPED 0 + 4 * (n / 32 % 32)) = 6 := regGroup_bits _ _ (by decide) (by decide)
  unfold stopShown
  refine Frame.step (State.raise_frame _ _ rfl rfl rfl) (Frame.step (State.setR_frame _ _ _ rfl rfl) (State.setBit_frame _ _ _ _ ?_ ?_))
  · rw [hgroup]; rfl
  · rw [hgroup]; rfl

theorem admitHead_stops {n : Nat} {q : SQ} {e : Cached} (hcause : s.entryCause n e ≠ 0) : s.admitHead n q e =
    ((s.entryTaken n q e).admittedInto n
      { ((s.entryTaken n q e).headTaken q s.seq.nextId).dropCopies with stopped := true }
      ((s.entryTaken n q e).stopDesc n s.seq.nextId q e (s.entryCause n e))).stopShown n e.slot (s.entryCause n e) := by
  have hcause' : s.fresh.2.entryCause n e ≠ 0 := hcause
  unfold State.admitHead
  exact if_pos hcause'

theorem admitEnvs_plain {b : Bytes} (h : field b 0 1 ∉ [0x01, 0x02, 0x07, 0x48, 0x70]) : s.admitEnvs b = ([], s) := by
  simp only [List.mem_cons, List.not_mem_nil, or_false, not_or] at h
  obtain ⟨hread, hheaders, hcopy, hload, hdiag⟩ := h
  unfold State.admitEnvs
  simp only [hread, hheaders, hcopy, hload, hdiag, if_false, or_self, false_and]

/-- The envelope checks of an admitted descriptor that has no status yet. -/
def checksRun (s : State) (b : Bytes) (st : Option Nat) : List (Option EnvRes) × State := if st.isSome then ([], s) else s.admitEnvs b

theorem checksRun_plain {b : Bytes} (st : Option Nat) (h : field b 0 1 ∉ [0x01, 0x02, 0x07, 0x48, 0x70]) : s.checksRun b st = ([], s) := by
  unfold checksRun
  rw [admitEnvs_plain h, ite_self]

/-- A SCAN that is refused at its admission counts as one that has completed. -/
def refusalCounted (s : State) (b : Bytes) (st : Option Nat) : State :=
  if st.isSome ∧ field b 0 1 = 0x03 then s.bump R.SO_CNT_SCANS else s

theorem refusalCounted_keeps (b : Bytes) (st : Option Nat) :
    (s.refusalCounted b st).descs = s.descs ∧ (s.refusalCounted b st).modeNow = s.modeNow := by
  unfold refusalCounted
  split
  · exact ⟨rfl, getF_bump_ne _ (by decide)⟩
  · exact ⟨rfl, rfl⟩

/-- The descriptor of an admitted entry, `rs` what the envelope checks decided (R17, R55, R210, R279, R303). -/
def admittedDesc (s : State) (n id : Nat) (q : SQ) (e : Cached) (st : Option Nat) (rs : List (Option EnvRes)) : Desc :=
  { id := id, sq := n, bytes := e.bytes, admitNs := s.nowNs, handed := q.headStamp, status := st, doneAt := id,
    results := rs, gone := s.goneDies, epoch := s.ph.epoch,
    late := if st.isNone ∧ checksLate e.bytes then s.writeCheck e.bytes else none, tol := s.img.cfg.tol, share := s.img.cfg.floor,
    limits := [s.img.cfg.maxSq, s.img.cfg.maxCq, s.img.cfg.maxRing, s.img.cfg.quota] }

/-- An entry without a stop cause is admitted, `p` being what the envelope checks decided and left. -/
def entryAdmitted (w : State) (n id : Nat) (q : SQ) (e : Cached) (st : Option Nat) (p : List (Option EnvRes) × State) : State :=
  (p.2.refusalCounted e.bytes st).admittedInto n (w.headTaken q id) (p.2.admittedDesc n id q e st p.1)

/-- Where the checks have entered SAFE, it settles what was admitted (R268, R358). -/
def settledFrom (s : State) (mode : Nat) : State := if s.modeNow = mode then s else s.safeSettle

theorem admitHead_admits {n : Nat} {q : SQ} {e : Cached} (hcause : s.entryCause n e = 0) : ∃ st, s.admitHead n q e =
    ((s.entryTaken n q e).entryAdmitted n s.seq.nextId q e st ((s.entryTaken n q e).checksRun e.bytes st)).settledFrom
      (s.entryTaken n q e).modeNow := by
  have hid : s.fresh.1 = s.seq.nextId := rfl
  have hcause' : s.fresh.2.entryCause n e = 0 := hcause
  refine ⟨(s.entryTaken n q e).admitStatus e.bytes (bit (field e.bytes 1 1) 4), ?_⟩
  unfold entryTaken
  rw [hcause, ← hid, ← hcause']
  delta State.admitHead
  generalize s.fresh = f at hcause' ⊢
  obtain ⟨id, v⟩ := f
  refine (if_neg (not_not.2 hcause')).trans ?_
  generalize v.clearOwn n q e _ = w
  unfold checksRun
  extract_lets st mode
  generalize hp : (if st.isSome = true then ([], w) else w.admitEnvs e.bytes) = p
  change _ = (entryAdmitted w n id q e st p).settledFrom mode
  obtain ⟨rs, u⟩ := p
  rfl

end State
end Sys2Proof.Machine
end

section
/-! PROOFS. Entries are cached and descriptors admitted as the obligation says (R205, R208 to R210, R212). -/

namespace Sys2Proof.Machine
namespace State

variable {s : State}

theorem settledFrom_sq (mode n : Nat) : (s.settledFrom mode).sq n = s.sq n := by
  unfold settledFrom
  split
  · rfl
  · exact (State.safeSettle_frame s).sq (by decide) n

theorem settledFrom_ids (mode : Nat) : (s.settledFrom mode).descs.map Desc.id = s.descs.map Desc.id := by
  unfold settledFrom
  split
  · rfl
  · exact safeSettle_ids

theorem admittedInto_sq (n : Nat) (q : SQ) (d : Desc) : (s.admittedInto n q d).sq n = some q :=
  show (s.setSq n (some q)).sq n = some q from sq_setSq_same ..

theorem entryAdmitted_sq (n id : Nat) (q : SQ) (e : Cached) (st : Option Nat) (p : List (Option EnvRes) × State) :
    (s.entryAdmitted n id q e st p).sq n = some (s.headTaken q id) := admittedInto_sq ..

theorem mem_entryAdmitted_ids (n id : Nat) (q : SQ) (e : Cached) (st : Option Nat) (p : List (Option EnvRes) × State) :
    id ∈ (s.entryAdmitted n id q e st p).descs.map Desc.id :=
  List.mem_map.2 ⟨p.2.admittedDesc n id q e st p.1, List.mem_append_right _ (List.mem_singleton.2 rfl), rfl⟩

/-- What the admission of a descriptor without envelopes leaves: no word of a pigeonhole is read, so SAFE is not entered. -/
theorem entryAdmitted_plain (n id : Nat) (q : SQ) {e : Cached} (st : Option Nat) (h : field e.bytes 0 1 ∉ [0x01, 0x02, 0x07, 0x48, 0x70]) :
    ((s.entryAdmitted n id q e st (s.checksRun e.bytes st)).settledFrom s.modeNow).descs =
      s.descs ++ [s.admittedDesc n id q e st []] := by
  obtain ⟨hdescs, hmode⟩ := s.refusalCounted_keeps e.bytes st
  rw [checksRun_plain st h]
  unfold settledFrom
  rw [if_pos (show (s.entryAdmitted n id q e st ([], s)).modeNow = s.modeNow from hmode)]
  exact congrArg (· ++ _) hdescs

/-- An entry without a stop cause is admitted (R210). -/
theorem admitHead_good {n : Nat} {q : SQ} {e : Cached} {l : List Cached} (hcause : s.entryCause n e = 0) (hcache : q.cache = e :: l) :
    ∃ x d, (s.admitHead n q e).sq n = some x ∧ x.head = (q.head + 1) % q.size ∧ x.count = q.count - 1 ∧ x.cache = l ∧
      x.order = q.order ++ [s.seq.nextId] ∧ x.stopped = q.stopped ∧ d ∈ (s.admitHead n q e).descs ∧ d.id = s.seq.nextId ∧
      (field e.bytes 0 1 ∉ [0x01, 0x02, 0x07, 0x48, 0x70] →
        (s.admitHead n q e).descs = s.descs ++ [d] ∧ d.sq = n ∧ d.bytes = e.bytes ∧ d.started = false) := by
  obtain ⟨st, hadmit⟩ := admitHead_admits (q := q) hcause
  rw [hadmit]
  have hdescs : (s.entryTaken n q e).descs = s.descs := (entryTaken_frame n q e).descs rfl
  refine ⟨(s.entryTaken n q e).headTaken q s.seq.nextId, ?_⟩
  have hsq := (settledFrom_sq (s.entryTaken n q e).modeNow n).trans
    ((s.entryTaken n q e).entryAdmitted_sq n s.seq.nextId q e st ((s.entryTaken n q e).checksRun e.bytes st))
  have hdrop : q.cache.drop 1 = l := by rw [hcache]; rfl
  by_cases hplain : field e.bytes 0 1 ∉ [0x01, 0x02, 0x07, 0x48, 0x70]
  · have hplainDescs := entryAdmitted_plain (s := s.entryTaken n q e) n s.seq.nextId q st hplain
    rw [hdescs] at hplainDescs
    refine ⟨_, hsq, rfl, rfl, hdrop, rfl, rfl, ?_, rfl, fun _ => ⟨hplainDescs, rfl, rfl, rfl⟩⟩
    rw [hplainDescs]
    exact List.mem_append_right _ (List.mem_singleton.2 rfl)
  · have hid := mem_entryAdmitted_ids (s := s.entryTaken n q e) n s.seq.nextId q e st ((s.entryTaken n q e).checksRun e.bytes st)
    rw [← settledFrom_ids (s.entryTaken n q e).modeNow] at hid
    obtain ⟨d, hmem, hid⟩ := List.mem_map.1 hid
    exact ⟨d, hsq, rfl, rfl, hdrop, rfl, rfl, hmem, hid, fun h => absurd h hplain⟩

/-- An entry with a stop cause stops its queue and is logged (R212). -/
theorem admitHead_bad {n : Nat} {q : SQ} {e : Cached} (hcause : s.entryCause n e ≠ 0) :
    ∃ x d, (s.admitHead n q e).sq n = some x ∧ x.stopped = true ∧ x.cache = [] ∧ x.order = q.order ++ [s.seq.nextId] ∧
      (s.admitHead n q e).descs = s.descs ++ [d] ∧ d.id = s.seq.nextId ∧ d.status = some St.queueStopped ∧
      (s.admitHead n q e).getBit (R.Q_STOPPED 0) n = true ∧ (s.admitHead n q e).getF F.Q_EVENT_QUEUE_STOP = 1 ∧
      ((s.admitHead n q e).getR R.Q_STOP_LOG).toNat = (e.slot + n * 2 ^ 16 + s.entryCause n e * 2 ^ 26) % 2 ^ 32 := by
  rw [admitHead_stops hcause]
  have hshown := stopShown_frame (s := (s.entryTaken n q e).admittedInto n
      { ((s.entryTaken n q e).headTaken q s.seq.nextId).dropCopies with stopped := true }
      ((s.entryTaken n q e).stopDesc n s.seq.nextId q e (s.entryCause n e))) n e.slot (s.entryCause n e)
  refine ⟨_, (s.entryTaken n q e).stopDesc n s.seq.nextId q e (s.entryCause n e), (hshown.sq rfl n).trans (admittedInto_sq ..), rfl, rfl,
    rfl, (hshown.descs rfl).trans ?_, rfl, rfl, stopShown_shows ..⟩
  exact congrArg (· ++ _) ((entryTaken_frame n q e).descs rfl)

end State

open State

/-- What the fetch or the recheck of an entry comes to: it is cached, or waits to be read again, or is cached with its stop cause. -/
theorem cacheEntry_outcomes {s : State} {n : Nat} {p : SQ} {b : Bytes} {c : Nat → Instr}
    (hexec : ∀ resp, exec (c resp) s = .next (s.cacheEntry n p b resp)) :
    (bit (field b 1 1) 7 = true → ∃ t, exec (c 0) s = .next t ∧
      t.sq n = some (p.cached { slot := p.nextSlot, bytes := slice b 0 64 }) ∧ Frame (may [.queues, .sram]) s t) ∧
    (bit (field b 1 1) 7 = false → ∃ t, exec (c 0) s = .next t ∧ t.sq n = some p.awaitsOwn ∧ Frame (may [.queues, .sram]) s t) ∧
    (∃ t, exec (c 1) s = .next t ∧ t.sq n = some (p.cached { slot := p.nextSlot, bytes := [], bad := 5 }) ∧
      Frame (may [.queues, .sram]) s t) := by
  refine ⟨fun hown => ⟨_, hexec 0, ?_⟩, fun hown => ⟨_, hexec 0, ?_⟩, ⟨_, hexec 1, ?_⟩⟩
  · rw [cacheEntry_owned n p hown]
    exact ⟨sq_setSq_same .., refetched_setSq_frame ..⟩
  · rw [cacheEntry_unowned n p hown]
    exact ⟨sq_setSq_same .., refetched_setSq_frame ..⟩
  · rw [cacheEntry_failed]
    exact ⟨sq_setSq_same .., refetched_setSq_frame ..⟩

/-- Settles O25. That the next fetch begins by a step of its own, and that an entry whose read failed is cached with stop cause 5 and
without the other checks, is the model's choice (assumption log 96); so is what is discarded behind a slot with OWN at 0, of which R205
and R208 only say that the slot is read again. -/
theorem entriesAreCachedAndAdmitted : Obligations.EntriesAreCachedAndAdmitted := by
  unfold Obligations.EntriesAreCachedAndAdmitted
  refine ⟨fun s n resp q b hsq hadmits hstopped hdeleting hcount hprefetch hcached hown => ?_, fun s n q p b c hsq harrives => ?_,
    fun s n slot q b l hsq hruns hstale => ?_, fun s n ptr q e l hpick hn hsq hcache => ?_⟩
  · have hfetches : s.fetches n q = true := by
      simp [State.fetches, SQ.ahead, hadmits, hstopped, hdeleting, hcount, hprefetch, hcached]
    exact ⟨_, execEntryFetch_begins b resp hsq hfetches hown, sq_setSq_same .., fun m hm => sq_setSq_ne _ hm, State.setSq_frame ..⟩
  · rcases harrives with ⟨hc, hruns, hstale, hfetching, rfl⟩ | ⟨hc, hfetches, hown, rfl⟩
    · exact cacheEntry_outcomes fun resp => by rw [hc]; exact execEntryFetch_arrives b resp hsq hruns hstale hfetching
    · exact cacheEntry_outcomes fun resp => by rw [hc]; exact execOwnRecheckExpiry_reads b resp hsq hfetches hown
  · exact ⟨_, execEntryFetch_discards b hsq hruns hstale, sq_setSq_same .., State.setSq_frame ..⟩
  · have hexec := execAdmission_picks hpick hsq hcache
    refine ⟨fun hcause => ?_, fun hcause => ?_⟩
    · obtain ⟨x, d, hadmitted⟩ := admitHead_good (s := { s with q := { s.q with ptr := ptr % 1024 } }) hcause hcache
      exact ⟨_, x, d, hexec, hadmitted⟩
    · obtain ⟨x, d, hstops⟩ := admitHead_bad (s := { s with q := { s.q with ptr := ptr % 1024 } }) (q := q) hcause
      exact ⟨_, x, d, hexec, hstops⟩

end Sys2Proof.Machine
end

section
/-! PROOFS. Completions are written, acknowledged and kept by a faulted CQ (R216 to R219, R221). -/

namespace Sys2Proof.Machine

/-! ### Batches (R219) -/

/-- The oldest descriptor of an SQ heads the finished ones, once it has its status. -/
theorem State.finishedRun_of_head {s : State} {q : SQ} {d : Desc} (hhead : q.order.head?.bind s.desc? = some d)
    (hdone : d.status.isSome = true) : ∃ l, s.finishedRun q = d :: l := by
  unfold State.finishedRun
  cases horder : q.order with
  | nil => rw [horder] at hhead; cases hhead
  | cons id ids =>
    rw [horder] at hhead
    have hdesc : s.desc? id = some d := hhead
    rw [List.filterMap_cons_some hdesc, List.takeWhile_cons_of_pos (p := fun x : Desc => x.status.isSome) hdone]
    exact ⟨_, rfl⟩

/-- A completion that is in no mailbag is a batch of its own. -/
theorem State.writableAt_plain {s : State} {q : SQ} {d : Desc} {w l : Nat} (hhead : q.order.head?.bind s.desc? = some d)
    (hdone : d.status.isSome = true) (hplain : d.mailbag = false) (hheld : q.mailHeld = 0) (hwritable : s.writableAt q = some (w, l)) :
    l = 1 := by
  obtain ⟨rest, hrun⟩ := State.finishedRun_of_head hhead hdone
  have hlen : batchLen q.quota (s.finishedRun q) 0 = some 1 := by
    rw [hrun]
    exact if_pos (Or.inl hplain)
  unfold State.writableAt at hwritable
  rw [if_neg (by omega), hlen] at hwritable
  exact (Prod.mk.inj (Option.some.inj hwritable)).2.symm

/-! ### Writing a completion (R216 to R218) -/

/-- A CQ once a completion of SQ `n` has gone to its tail slot, `left` of its batch not yet written before it. -/
def CQ.written (c : CQ) (n left : Nat) (b : Bytes) : CQ :=
  { c with
    tail := (c.tail + 1) % c.size
    phase := if c.tail + 1 = c.size then !c.phase else c.phase
    batch := if left = 1 then none else some n
    inflight := some (n, decide (left = 1), c.base + 16 * c.tail, b) }

namespace State

variable {s : State}

theorem writeCompletion_eq {n cqn left st : Nat} {q : SQ} {c : CQ} {d : Desc} {b : Bytes} (hst : d.status = some st)
    (hb : b = completionBytes (field d.bytes 2 2) q.head d.count (s.nowNs - d.admitNs) st n c.phase) :
    s.writeCompletion n q cqn c d left =
      (((s.fab (c.base + 16 * c.tail) b).setCq cqn (some (c.written n left b))).setSq n (some { q with mailHeld := left - 1 })) := by
  subst hb
  unfold State.writeCompletion CQ.written
  simp only [hst, Option.getD_some, decide_eq_true_eq]

theorem execCompletionWrite_writes {n w l : Nat} {q : SQ} {c : CQ} {d : Desc} (hsq : s.sq n = some q) (hcq : s.cq q.cq = some c)
    (hhead : q.order.head?.bind s.desc? = some d) (hwritable : s.writableAt q = some (w, l)) (hturn : s.writesNext q.cq c = some n)
    (hout : s.writesOut = true) (hown : n ∉ s.q.owns) (hfault : c.fault = false) (hfree : c.inflight = none)
    (hroom : c.unreleased < c.size - 1) : execCompletionWrite n s = .next (s.writeCompletion n q q.cq c d l) := by
  unfold execCompletionWrite
  simp only [hsq, hcq, hhead, hwritable]
  rw [if_pos ⟨hout, hown, hfault, by rw [hfree]; rfl, hroom, hturn⟩]

/-- A mailbag batch that times out closes with what has finished (R219). -/
theorem execMailbagTimeout_closes {n : Nat} {q : SQ} (hsq : s.sq n = some q) (hheld : q.mailHeld = 0)
    (hopen : batchLen q.quota (s.finishedRun q) 0 = none) : execMailbagTimeout n s =
      .next (s.fresh.2.setSq n (some { q with mailHeld := (s.finishedRun q).length, closedAt := s.seq.nextId })) := by
  unfold execMailbagTimeout
  simp only [hsq]
  rw [if_neg]
  · rfl
  · simp [hheld, hopen]

/-! ### The end of a completion's write (R218, R221) -/

/-- The completion in flight to CQ `n` is visible: its entry, the oldest of SQ `m`, is released. -/
def entryReleased (s : State) (n m : Nat) (c : CQ) (q : SQ) (id : Nat) (l : List Nat) : State :=
  { (s.setCq n (some { c with inflight := none })).fresh.2.setSq m (some { q with order := l, frontAt := s.seq.nextId }) with
    descs := s.descs.filter fun d => d.id ≠ id }

theorem execCqWriteAck_releases {n m a id : Nat} {last : Bool} {b : Bytes} {c : CQ} {q : SQ} {l : List Nat} (hcq : s.cq n = some c)
    (hinflight : c.inflight = some (m, last, a, b)) (hfault : c.fault = false) (hsq : s.sq m = some q) (horder : q.order = id :: l) :
    execCqWriteAck n s = .next (if last ∧ 64 ≤ c.notice then (s.entryReleased n m c q id l).fire c.notice
      else s.entryReleased n m c q id l) := by
  have hsq' : ((s.setCq n (some { c with inflight := none })).fresh.2).sq m = some q := hsq
  unfold execCqWriteAck
  simp only [hcq, hinflight]
  rw [if_neg (by simp [hfault]), hsq']
  unfold entryReleased
  simp only [horder, List.drop_one, List.tail_cons, List.head?_cons, Option.some.injEq, ne_eq]
  rfl

theorem entryReleased_frame (n m : Nat) (c : CQ) (q : SQ) (id : Nat) (l : List Nat) :
    Frame (may [.queues, .descs, .flash]) s (s.entryReleased n m c q id l) := by
  have hmoved : Frame (may [.queues, .descs, .flash]) s ((s.setCq n (some { c with inflight := none })).fresh.2.setSq m
      (some { q with order := l, frontAt := s.seq.nextId })) :=
    ((State.setCq_frame ..).mono rfl).trans (((State.fresh_frame _).mono rfl).trans ((State.setSq_frame ..).mono rfl))
  exact { hmoved with descs := fun h => absurd h (by decide) }

/-- A write that fails puts its CQ in fault (R221). -/
def cqFaulted (s : State) (n : Nat) (c : CQ) : State :=
  ((s.setCq n (some { c with fault := true })).setBit (R.Q_CQ_FAULT 0) n true).raise F.Q_EVENT_CQ_FAULT

theorem execCqWriteError_faults {n : Nat} {c : CQ} (hcq : s.cq n = some c) (hinflight : c.inflight ≠ none) (hfault : c.fault = false) :
    execCqWriteError n s = .next (s.cqFaulted n c) := by
  unfold execCqWriteError
  simp only [hcq]
  rw [if_neg]
  · rfl
  · simp [hinflight, hfault]

theorem cqFaulted_shows (n : Nat) (c : CQ) : (s.cqFaulted n c).cq n = some { c with fault := true } ∧
    (s.cqFaulted n c).getBit (R.Q_CQ_FAULT 0) n = true ∧ (s.cqFaulted n c).getF F.Q_EVENT_CQ_FAULT = 1 := by
  unfold cqFaulted
  refine ⟨?_, ?_, raise_getF _ (by decide) rfl (by decide)⟩
  · rw [(State.raise_frame (m := 0x41150012) _ _ rfl rfl rfl).cq rfl]
    exact cq_setCq_same ..
  · rw [getBit_raise_ne (by decide), getBit_setBit_same]

/-! ### A fired source is pending (R249) -/

theorem srcPend_of_getR {t : State} {src : Nat} (h : t.getR (R.NTC_PEND 0 + 4 * (src / 32 % 32)) = s.getR (R.NTC_PEND 0 + 4 * (src / 32 % 32))) :
    t.srcPend src = s.srcPend src := by
  unfold State.srcPend State.getBit
  rw [h]

theorem moderate_srcPend (src x : Nat) : (s.moderate src).srcPend x = s.srcPend x :=
  srcPend_of_getR (getR_of_frame (State.moderate_frame ..) (by decide) _)

theorem watchWake_srcPend (src x : Nat) : (s.watchWake src).srcPend x = s.srcPend x :=
  srcPend_of_getR (getR_of_frame (State.watchWake_frame ..) (by decide) _)

theorem holdWake_srcPend (cause src x : Nat) : (s.holdWake cause src).srcPend x = s.srcPend x :=
  srcPend_of_getR (holdWake_getR _ _ _ (by unfold R.NTC_PEND R.MODE; omega) (by unfold R.NTC_PEND R.PWR_WAKE; omega))

/-- A source that may fire and is not active is pending when it has fired. -/
theorem fire_srcPend {src : Nat} (hsrc : src < 256) (hkind : ¬(19 ≤ src ∧ src ≤ 31)) (hen : s.srcEn src = true)
    (hactive : s.srcActive src = false) : (s.fire src).srcPend src = true := by
  have hset : (s.setBit (R.NTC_PEND 0) src true).srcPend src = true := getBit_setBit_same ..
  unfold State.fire
  rw [if_neg (by simp [hen, hkind, hsrc]), if_neg (by simp [hactive])]
  split
  next hpend => rw [moderate_srcPend, hpend]
  next =>
    dsimp only
    split
    · rw [holdWake_srcPend, watchWake_srcPend, moderate_srcPend, hset]
    · rw [watchWake_srcPend, moderate_srcPend, hset]

end State

open State

/-- The write of a completion reaches the DRAM and moves its CQ's tail on. -/
theorem completionWrite_goes {s : State} {n st w l : Nat} {q : SQ} {c : CQ} {d : Desc} {b : Bytes} (hsq : s.sq n = some q) (hcq : s.cq q.cq = some c)
    (hhead : q.order.head?.bind s.desc? = some d) (hst : d.status = some st) (hwritable : s.writableAt q = some (w, l))
    (hturn : s.writesNext q.cq c = some n) (hout : s.writesOut = true) (hown : n ∉ s.q.owns) (hfault : c.fault = false)
    (hfree : c.inflight = none) (hroom : c.unreleased < c.size - 1) (hawake : s.getF F.PWR_DRAM_SR = 0)
    (hb : b = completionBytes (field d.bytes 2 2) q.head d.count (s.nowNs - d.admitNs) st n c.phase) :
    ∃ t, exec (.completionWrite n) s = .next t ∧ t.out = s.out ++ dramOuts s.pieces [(c.base + 16 * c.tail, b)] ∧
      t.cq q.cq = some (c.written n l b) ∧ t.sq n = some { q with mailHeld := l - 1 } ∧
      (d.mailbag = false → q.mailHeld = 0 → l = 1) ∧ Frame (may [.queues, .outputs]) s t := by
  refine ⟨_, execCompletionWrite_writes hsq hcq hhead hwritable hturn hout hown hfault hfree hroom, ?_⟩
  rw [writeCompletion_eq hst hb]
  refine ⟨fab_out _ _ hawake, cq_setCq_same .., sq_setSq_same .., fun hplain hheld => ?_, ?_⟩
  · exact writableAt_plain hhead (by rw [hst]; rfl) hplain hheld hwritable
  · exact ((fab_frame_awake _ _ hawake).mono rfl).trans (((State.setCq_frame ..).mono rfl).trans ((State.setSq_frame ..).mono rfl))

/-- What an acknowledged completion write leaves (R218). -/
theorem cqWriteAck_releases {s : State} {n m a id : Nat} {last : Bool} {b : Bytes} {c : CQ} {q : SQ} {l : List Nat} (hcq : s.cq n = some c)
    (hinflight : c.inflight = some (m, last, a, b)) (hfault : c.fault = false) (hsq : s.sq m = some q) (horder : q.order = id :: l) :
    ∃ t, exec (.cqWriteAck n) s = .next t ∧ t.cq n = some { c with inflight := none } ∧
      t.sq m = some { q with order := l, frontAt := s.seq.nextId } ∧ t.descs = s.descs.filter (fun d => d.id ≠ id) ∧
      (last = true → 64 ≤ c.notice → c.notice < 256 → s.srcEn c.notice = true → s.srcActive c.notice = false →
        t.srcPend c.notice = true) ∧
      (last = false → Frame (may [.queues, .descs, .flash]) s t) := by
  have hreleased : (s.entryReleased n m c q id l).cq n = some { c with inflight := none } ∧
      (s.entryReleased n m c q id l).sq m = some { q with order := l, frontAt := s.seq.nextId } :=
    ⟨cq_setCq_same .., tget_tset_same ..⟩
  obtain ⟨hnewCq, hnewSq⟩ := hreleased
  have hexec := execCqWriteAck_releases hcq hinflight hfault hsq horder
  by_cases hnotice : last = true ∧ 64 ≤ c.notice
  · rw [if_pos hnotice] at hexec
    obtain ⟨hlast, hlow⟩ := hnotice
    have hfired := State.fire_frame (s.entryReleased n m c q id l) c.notice
    refine ⟨_, hexec, (hfired.cq rfl n).trans hnewCq, (hfired.sq rfl m).trans hnewSq, hfired.descs rfl,
      fun _ _ hhigh hen hactive => ?_, fun h => absurd (hlast.symm.trans h) (by decide)⟩
    exact fire_srcPend hhigh (by omega) hen hactive
  · rw [if_neg hnotice] at hexec
    exact ⟨_, hexec, hnewCq, hnewSq, rfl, fun hlast hlow => absurd ⟨hlast, hlow⟩ hnotice, fun _ => entryReleased_frame ..⟩

/-- Settles O26: a completion's write and its end are `State.writeCompletion`, `State.entryReleased` and `State.cqFaulted`. -/
theorem completionsAreWrittenAndEnd : Obligations.CompletionsAreWrittenAndEnd := by
  unfold Obligations.CompletionsAreWrittenAndEnd
  refine ⟨⟨fun s n st w l q c d hsq hcq hhead hst hwritable hturn hout hown hfault hfree hroom hawake => ?_,
      fun s n q hsq hheld hopen => ?_⟩,
    fun s n m a id last b c q l hcq hinflight hfault hsq horder => cqWriteAck_releases hcq hinflight hfault hsq horder,
    fun s n c hn hcq hinflight hfault => ?_⟩
  · exact completionWrite_goes hsq hcq hhead hst hwritable hturn hout hown hfault hfree hroom hawake rfl
  · exact ⟨_, execMailbagTimeout_closes hsq hheld hopen, sq_setSq_same ..,
      ((State.fresh_frame s).mono rfl).trans ((State.setSq_frame ..).mono rfl)⟩
  · exact ⟨_, execCqWriteError_faults hcq hinflight hfault, cqFaulted_shows n c⟩

end Sys2Proof.Machine
end

section
/-! PROOFS. The dead-letter ring and the spare area (R216, R296, R297), and the acknowledgements of fabric writes (R217, R286, R383). -/

namespace Sys2Proof.Machine
namespace State

variable {s : State}

/-! ### The dead-letter ring's registers (R216, R297) -/

theorem writeReg_dlCfg {v : W32} (h : s.takes R.FI_DL_CFG) : s.writeReg R.FI_DL_CFG v = s.dlCfgWrite v.toNat :=
  writeReg_acts h rfl ⟨rfl, rfl⟩ rfl (State.dlCfgWrite_frame s v.toNat) rfl

theorem writeReg_dlHead {v : W32} (h : s.takes R.FI_DL_HEAD) : s.writeReg R.FI_DL_HEAD v = s.dlHeadWrite v.toNat :=
  writeReg_acts h rfl ⟨rfl, rfl⟩ rfl (State.dlHeadWrite_frame s v.toNat) rfl

/-- The ring with base and size as a write `v` that sets EN takes them. -/
def dlTaken (s : State) (v : Nat) : Fi :=
  { s.fi with dlBase := s.getF F.FI_DL_LO_ADDR * 64 + s.getF F.FI_DL_HI_ADDR * 2 ^ 32, dlK := clampNat 4 16 (bits v 1 5) }

/-- The registers of an enabled, empty ring. -/
def dlEmpty (s : State) : State := (((s.setF F.FI_DL_CFG_EN 1).setF F.FI_DL_CFG_PHASE 1).setR R.FI_DL_HEAD 0).setR R.FI_DL_TAIL 0

theorem dlEmpty_frame : Frame (may [.regs 8]) s s.dlEmpty :=
  Frame.step (State.setR_frame _ _ _ rfl rfl) (Frame.step (State.setR_frame _ _ _ rfl rfl)
    (Frame.step (State.setF_frame _ _ _ rfl rfl) (State.setF_frame _ _ _ rfl rfl)))

theorem dlEmpty_shows : s.dlEmpty.getF F.FI_DL_CFG_EN = 1 ∧ s.dlEmpty.getF F.FI_DL_CFG_PHASE = 1 ∧ s.dlEmpty.getR R.FI_DL_HEAD = 0 ∧
    s.dlEmpty.getR R.FI_DL_TAIL = 0 := by
  unfold dlEmpty
  refine ⟨?_, ?_, ?_, getR_setR_same ..⟩
  · rw [getF_setR_ne _ _ (by decide), getF_setR_ne _ _ (by decide), getF_setF_ne _ _ (by decide) (by decide),
      getF_setF_same _ _ _ (by decide)]
    rfl
  · rw [getF_setR_ne _ _ (by decide), getF_setR_ne _ _ (by decide), getF_setF_same _ _ _ (by decide)]
    rfl
  · rw [getR_setR_ne _ _ (by decide), getR_setR_same]

theorem dlCfgWrite_enables {v : Nat} (hoff : s.getF F.FI_DL_CFG_EN = 0) (hen : bit v 0 = true) :
    s.dlCfgWrite v = ({ s.setF F.FI_DL_CFG_LOG2 (bits v 1 5) with fi := s.dlTaken v } : State).dlEmpty := by
  unfold State.dlCfgWrite
  dsimp only
  rw [if_pos ⟨hen, by rw [hoff]; decide⟩, getF_setF_ne _ _ (by decide) (by decide), getF_setF_ne _ _ (by decide) (by decide)]
  rfl

/-- With no finding ready, no letter is made. -/
theorem lettersGo_idle (h : ∀ f ∈ s.fi.findings, f.ready = false) : s.lettersGo = s.setF F.FI_STATUS_PATROL_PAUSED 0 := by
  have hnone : s.fi.findings.filter (·.ready) = [] := List.filter_eq_nil_iff.2 fun f hf => by simp [h f hf]
  unfold State.lettersGo
  rw [hnone]
  exact if_neg (by simp)

/-- A head write within the letters of the ring releases their slots. -/
theorem dlHeadWrite_releases {v : Nat} (hv : v < 2 ^ s.fi.dlK)
    (hroom : (v + 2 ^ s.fi.dlK - s.getF F.FI_DL_HEAD_HEAD % 2 ^ s.fi.dlK) % 2 ^ s.fi.dlK ≤ s.dlUnreleased)
    (hidle : ∀ f ∈ s.fi.findings, f.ready = false) :
    s.dlHeadWrite v = (s.setF F.FI_DL_HEAD_HEAD v).setF F.FI_STATUS_PATROL_PAUSED 0 := by
  unfold State.dlHeadWrite
  rw [if_neg (by omega), lettersGo_idle (s := s.setF F.FI_DL_HEAD_HEAD v) hidle]

theorem dlHeadWrite_ignored {v : Nat} (h : 2 ^ s.fi.dlK ≤ v ∨
    s.dlUnreleased < (v + 2 ^ s.fi.dlK - s.getF F.FI_DL_HEAD_HEAD % 2 ^ s.fi.dlK) % 2 ^ s.fi.dlK) :
    s.dlHeadWrite v = s.refuse R.FI_DL_HEAD := if_pos h

/-! ### Letters (R297, R383) -/

theorem letterWrite_eq {b : Bytes} {l : List Bytes} (h : s.fi.letters = b :: l) :
    s.letterWrite = s.fab (s.fi.dlBase + 64 * s.getF F.FI_DL_TAIL_TAIL) (s.letterOut b) := by
  unfold State.letterWrite
  split
  next hcons =>
    obtain ⟨rfl, -⟩ := List.cons.inj (h.symm.trans hcons)
    rfl
  next hnil => rw [h] at hnil; cases hnil

/-- The oldest letter goes out, whatever is noted of it. -/
theorem letterWrite_goes {b : Bytes} {l : List Bytes} (x : Fi) (h : s.fi.letters = b :: l) (hawake : s.getF F.PWR_DRAM_SR = 0) :
    s.letterWrite.out = s.out ++ dramOuts s.pieces [(s.fi.dlBase + 64 * s.getF F.FI_DL_TAIL_TAIL, s.letterOut b)] ∧
      Frame (may [.integrity, .outputs]) s { s.letterWrite with fi := x } := by
  rw [letterWrite_eq h]
  exact ⟨fab_out _ _ hawake, ((fab_frame_awake _ _ hawake).mono rfl).trans ((withFi_frame x).mono rfl)⟩

theorem execDeadLetterWrite_writes {b : Bytes} {l : List Bytes} (h : s.fi.letters = b :: l) (hout : s.writesOut = true)
    (hen : s.getF F.FI_DL_CFG_EN = 1) (hidle : s.fi.writing = false) (hroom : s.dlFull = false) :
    execDeadLetterWrite s = .next { s.letterWrite with fi := { s.fi with writing := true } } :=
  if_pos ⟨hen, by rw [h]; simp, hidle, hroom, hout⟩

theorem execDlWriteRetry_writes (hout : s.writesOut = true) (hwriting : s.fi.writing = true) (hfailed : s.fi.dlFailed = true) :
    execDlWriteRetry s = .next { s.letterWrite with fi := { s.fi with dlFailed := false } } := if_pos ⟨hwriting, hfailed, hout⟩

/-- The ring whose oldest held letter is visible. -/
def letterSeen (s : State) : Fi := { s.fi with letters := s.fi.letters.drop 1, writing := false, dlFailed := false }

/-- The tail moves on to `tail`, or to the first slot with the phase flipped. -/
def tailMoved (s : State) (wrap : Bool) (tail : Nat) : State :=
  if wrap then (s.setF F.FI_DL_TAIL_TAIL 0).setF F.FI_DL_CFG_PHASE (1 - (s.setF F.FI_DL_TAIL_TAIL 0).getF F.FI_DL_CFG_PHASE)
  else s.setF F.FI_DL_TAIL_TAIL tail

/-- The slot of the letter that is visible is taken, and how many letters are held is shown. -/
def slotTaken (s : State) : State :=
  (({ s with fi := s.letterSeen } : State).tailMoved (decide (2 ^ s.fi.dlK ≤ s.getF F.FI_DL_TAIL_TAIL + 1))
    (s.getF F.FI_DL_TAIL_TAIL + 1)).dlShow

theorem tailMoved_frame (wrap : Bool) (tail : Nat) : Frame (may [.regs 8]) s (s.tailMoved wrap tail) := by
  unfold tailMoved
  split
  · exact Frame.step (State.setF_frame _ _ _ rfl rfl) (State.setF_frame _ _ _ rfl rfl)
  · exact State.setF_frame _ _ _ rfl rfl

theorem slotTaken_frame : Frame (may [.integrity, .regs 8]) s s.slotTaken :=
  ((withFi_frame _).mono rfl).trans (((tailMoved_frame ..).mono rfl).trans ((State.dlShow_frame _).mono rfl))

theorem slotTaken_fi : s.slotTaken.fi = s.letterSeen :=
  ((State.dlShow_frame _).fi rfl).trans ((tailMoved_frame ..).fi rfl)

theorem slotTaken_goesOn (h : s.getF F.FI_DL_TAIL_TAIL + 1 < 2 ^ s.fi.dlK) (hk : s.fi.dlK ≤ 16) :
    s.slotTaken.getF F.FI_DL_TAIL_TAIL = s.getF F.FI_DL_TAIL_TAIL + 1 ∧
      s.slotTaken.getF F.FI_DL_CFG_PHASE = s.getF F.FI_DL_CFG_PHASE := by
  have hsize : 2 ^ s.fi.dlK ≤ 2 ^ 16 := Nat.pow_le_pow_right (by decide) hk
  unfold slotTaken tailMoved State.dlShow
  rw [if_neg (by simpa using h), getF_setF_ne _ _ (by decide) (by decide), getF_setF_same _ _ _ (by decide),
    getF_setF_ne _ _ (by decide) (by decide), getF_setF_ne _ _ (by decide) (by decide)]
  exact ⟨Nat.mod_eq_of_lt (lt_of_lt_of_le h hsize), rfl⟩

theorem slotTaken_wraps (h : 2 ^ s.fi.dlK ≤ s.getF F.FI_DL_TAIL_TAIL + 1) :
    s.slotTaken.getF F.FI_DL_TAIL_TAIL = 0 ∧ s.slotTaken.getF F.FI_DL_CFG_PHASE = 1 - s.getF F.FI_DL_CFG_PHASE := by
  unfold slotTaken tailMoved State.dlShow
  rw [if_pos (by simpa using h), getF_setF_ne _ _ (by decide) (by decide), getF_setF_ne _ _ (by decide) (by decide),
    getF_setF_same _ _ _ (by decide), getF_setF_ne _ _ (by decide) (by decide), getF_setF_same _ _ _ (by decide),
    getF_setF_ne _ _ (by decide) (by decide)]
  exact ⟨rfl, Nat.mod_eq_of_lt (by show 1 - _ < 2; omega)⟩

/-- A visible letter's slot is taken and source 11 is raised. -/
theorem letterAck_eq (hidle : ∀ f ∈ s.fi.findings, f.ready = false) :
    s.letterAck = (s.slotTaken.fire 11).setF F.FI_STATUS_PATROL_PAUSED 0 := by
  have hack : s.letterAck = (s.slotTaken.fire 11).lettersGo := by
    unfold State.letterAck slotTaken tailMoved letterSeen
    by_cases hwrap : 2 ^ s.fi.dlK ≤ s.getF F.FI_DL_TAIL_TAIL + 1
    · simp only [hwrap, decide_true, if_true]
    · simp only [hwrap, decide_false, Bool.false_eq_true, if_false]
  rw [hack]
  refine lettersGo_idle fun f hf => hidle f ?_
  rwa [(State.fire_frame ..).fi rfl, slotTaken_fi] at hf

/-- What an acknowledged letter leaves. -/
theorem letterAck_shows (hidle : ∀ f ∈ s.fi.findings, f.ready = false) : s.letterAck.fi = s.letterSeen ∧
    s.letterAck.getF F.FI_DL_TAIL_TAIL = s.slotTaken.getF F.FI_DL_TAIL_TAIL ∧
    s.letterAck.getF F.FI_DL_CFG_PHASE = s.slotTaken.getF F.FI_DL_CFG_PHASE ∧
    (s.srcEn 11 = true → s.srcActive 11 = false → s.letterAck.srcPend 11 = true) := by
  have hregs := slotTaken_frame (s := s)
  have hen : s.slotTaken.srcEn 11 = s.srcEn 11 := by
    unfold State.srcEn
    rw [hregs.getF rfl]
  have hactive : s.slotTaken.srcActive 11 = s.srcActive 11 := by
    unfold State.srcActive State.getBit
    rw [hregs.reg _ rfl]
  rw [letterAck_eq hidle]
  refine ⟨((State.fire_frame ..).fi rfl).trans slotTaken_fi, ?_, ?_, fun h11 hnot => ?_⟩
  · rw [getF_setF_ne _ _ (by decide) (by decide), fire_getF _ _ (by decide)]
  · rw [getF_setF_ne _ _ (by decide) (by decide), fire_getF _ _ (by decide)]
  · rw [srcPend_of_getR (getR_setF_ne _ _ (by decide))]
    exact fire_srcPend (by decide) (by decide) (by rw [hen, h11]) (by rw [hactive, hnot])

/-! ### Map writes (R286, R383) -/

/-- An operation, its map write acknowledged where it is an erase of descriptor `id`. -/
def mapWrittenOp (o : DieOp) (id : Nat) : DieOp := if o.purpose.contains (.eraseDesc id) then { o with mapWait := false } else o

/-- A row, its map write acknowledged where descriptor `id` waits for it. -/
def mapWrittenRow (r : Row) (id : Nat) : Row := if r.mapAck = false ∧ r.waits.any (·.1 = id) then { r with mapAck := true } else r

theorem mapWritten_erase (o : DieOp) (id : Nat) (h : .eraseDesc id ∈ (mapWrittenOp o id).purpose) : (mapWrittenOp o id).mapWait = false := by
  unfold mapWrittenOp at *
  split
  · rfl
  next hnot =>
    rw [if_neg hnot] at h
    exact absurd (List.contains_iff_mem.2 h) hnot

theorem mapWritten_row (r : Row) (id : Nat) (h : id ∈ (mapWrittenRow r id).waits.map Prod.fst) : (mapWrittenRow r id).mapAck = true := by
  unfold mapWrittenRow at *
  split
  · rfl
  next hnot =>
    rw [if_neg hnot] at h
    obtain ⟨x, hx, hid⟩ := List.mem_map.1 h
    exact Bool.not_eq_false _ |>.mp fun hack => hnot ⟨hack, List.any_eq_true.2 ⟨x, hx, decide_eq_true hid⟩⟩

theorem mapDone_seq {id : Nat} (h : id ∉ s.fi.mapWrites) : (s.mapDone id).seq.waiting = s.seq.waiting.map (mapWrittenOp · id) ∧
    (s.mapDone id).seq.rows = s.seq.rows.map (mapWrittenRow · id) := by
  unfold State.mapDone
  rw [if_neg (by simpa using h)]
  dsimp only
  split <;> exact ⟨rfl, rfl⟩

theorem execFabricWriteAcknowledgement_map {id : Nat} {l : List Nat} (ok : Bool) (h : s.fi.mapWrites = id :: l) :
    execFabricWriteAcknowledgement 0 ok s =
      .next (if ok then ({ s with fi := { s.fi with mapWrites := l } } : State).mapDone id else s.mapFailed id) := by
  unfold execFabricWriteAcknowledgement
  simp only [h]

/-- Dropping the pending line of an address leaves the descriptors and the flash alone. -/
theorem lineEnds_dropped_frame (a : Nat) : Frame 0x42150812 s (s.lineEnds a false) := by
  unfold State.lineEnds
  split
  · exact State.phDrop_frame ..
  · exact Frame.refl s

/-- The rows that wait for a map write of descriptor `id`. -/
def rowsWaiting (s : State) (id : Nat) : List Row := s.seq.rows.filter fun r => r.mapAck = false && r.waits.any (·.1 = id)

/-- The pending lines of the rows `rows` are dropped. -/
def rowLinesDropped (s : State) (rows : List Row) : State :=
  rows.foldl (fun s r => (List.range r.filled.length).foldl (fun s i => s.lineEnds (s.rowAddr r i) false) s) s

/-- A failed map write drops the rows and the map writes of its descriptor. -/
def mapDropped (s : State) (id : Nat) : State :=
  { s.rowLinesDropped (s.rowsWaiting id) with
    seq := { (s.rowLinesDropped (s.rowsWaiting id)).seq with
      rows := (s.rowLinesDropped (s.rowsWaiting id)).seq.rows.filter fun r => !(s.rowsWaiting id).any (·.id = r.id) }
    fi := { (s.rowLinesDropped (s.rowsWaiting id)).fi with
      mapWrites := (s.rowLinesDropped (s.rowsWaiting id)).fi.mapWrites.filter (· ≠ id) } }

theorem mapFailed_eq (id : Nat) : s.mapFailed id = ((s.mapDropped id).dropDescOps id).finish id St.bufferFault 0 := rfl

theorem rowLinesDropped_frame (rows : List Row) : Frame 0x42150812 s (s.rowLinesDropped rows) :=
  Frame.foldl (Frame.refl s) fun u _ => Frame.foldl (Frame.refl u) fun _ _ => lineEnds_dropped_frame _

/-- What the failed map write of a descriptor leaves: the descriptor ended, its map writes and its erases gone. -/
theorem mapFailed_ends {id : Nat} {e : Desc} (hdesc : s.desc? id = some e) (hopen : e.status = none) (hbuf : e.bufferFault = false) :
    (s.mapFailed id).ended id St.bufferFault 0 ∧ id ∉ (s.mapFailed id).fi.mapWrites ∧
      ∀ o ∈ (s.mapFailed id).seq.waiting, .eraseDesc id ∉ o.purpose := by
  have hended := State.finish_frame ((s.mapDropped id).dropDescOps id) id St.bufferFault 0
  rw [mapFailed_eq]
  refine ⟨ended_finish _ _ ?_ hopen hbuf, ?_, fun o ho => ?_⟩
  · exact ((rowLinesDropped_frame (s.rowsWaiting id)).desc? (by decide) id).trans hdesc
  · rw [hended.fi rfl]
    show id ∉ List.filter (· ≠ id) _
    simp
  · rw [hended.waiting rfl] at ho
    obtain ⟨-, -, hnot⟩ := waiting_dropDescOps ho
    exact hnot

/-! ### The spare area (R296) -/

theorem writeReg_spareRange {v : W32} (h : s.takes R.FI_SPARE_RANGE) : s.writeReg R.FI_SPARE_RANGE v = s.spareWrite true v.toNat :=
  writeReg_acts h rfl ⟨rfl, rfl⟩ rfl (State.spareWrite_frame s true v.toNat) rfl

theorem writeReg_spare {v : W32} (h : s.takes R.FI_SPARE) : s.writeReg R.FI_SPARE v = s.spareWrite false v.toNat :=
  writeReg_acts h rfl ⟨rfl, rfl⟩ rfl (State.spareWrite_frame s false v.toNat) rfl

theorem spareWrite_range (v : W32) : (s.spareWrite true v.toNat).getR R.FI_SPARE_RANGE = v ∧
    (s.spareWrite true v.toNat).getR R.FI_SPARE_CURSOR = BitVec.ofNat 32 (bits v.toNat 0 16) := by
  have hfirst : (s.setR R.FI_SPARE_RANGE v).getF F.FI_SPARE_RANGE_FIRST = bits v.toNat 0 16 := getF_setR_same s F.FI_SPARE_RANGE_FIRST v
  have hwrite : s.spareWrite true v.toNat = (s.setR R.FI_SPARE_RANGE v).setR R.FI_SPARE_CURSOR (BitVec.ofNat 32 (bits v.toNat 0 16)) := by
    have hword : BitVec.ofNat 32 v.toNat = v := by simp
    unfold State.spareWrite
    dsimp only
    rw [if_pos rfl, hword, hfirst]
  rw [hwrite]
  exact ⟨by rw [getR_setR_ne _ _ (by decide), getR_setR_same], getR_setR_same ..⟩

theorem spareWrite_die (v : Nat) : (s.spareWrite false v).getR R.FI_SPARE = BitVec.ofNat 32 (v % 2 ^ 10) ∧
    (s.spareWrite false v).getR R.FI_SPARE_CURSOR = BitVec.ofNat 32 (s.getF F.FI_SPARE_RANGE_FIRST) := by
  have hfirst : (s.setR R.FI_SPARE (BitVec.ofNat 32 (v % 2 ^ 10))).getF F.FI_SPARE_RANGE_FIRST = s.getF F.FI_SPARE_RANGE_FIRST :=
    getF_setR_ne _ _ (by decide)
  have hwrite : s.spareWrite false v = (s.setR R.FI_SPARE (BitVec.ofNat 32 (v % 2 ^ 10))).setR R.FI_SPARE_CURSOR
      (BitVec.ofNat 32 (s.getF F.FI_SPARE_RANGE_FIRST)) := by
    rw [← hfirst]
    rfl
  rw [hwrite]
  exact ⟨by rw [getR_setR_ne _ _ (by decide), getR_setR_same], getR_setR_same ..⟩

end State

open State

/-- Settles O49: an acknowledgement of kind 0 is that of a map line, of kind 1 a letter's, of kind 2 the beacon's, of kind 3 that of an
OWN-clearing write. That an OWN-clearing write counts as answered when it is rejected too is the model's choice (assumption log 96), as
are that the ring's tail moves at the acknowledgement (log 58) and that a failed map write drops its row (log 47). -/
theorem lettersAndMapWritesAreAcknowledged : Obligations.LettersAndMapWritesAreAcknowledged := by
  unfold Obligations.LettersAndMapWritesAreAcknowledged
  refine ⟨fun s v htakes hoff hen => ?enable, fun s v n htakes hn hk hidle => ?head,
    fun s b l hletters hout hawake => ⟨fun hen hnot hroom => ?write, fun hwriting hfailed => ?retry⟩,
    fun s b l tail hletters hwriting hfailed htail hk hidle => ⟨?visible, ?failed⟩,
    fun s id l hmap => ⟨fun hlast => ?mapDone, fun e hdesc hopen hbuf => ?mapFailed⟩, fun s => ?beacon, fun s n l ok howns => ?own,
    fun s v => ⟨fun htakes => ?range, fun htakes => ?die⟩⟩
  case enable =>
    have hwrite := writeReg_dlCfg (v := v) htakes
    rw [dlCfgWrite_enables hoff hen] at hwrite
    obtain ⟨hon, hphase, hhead, htail⟩ :=
      dlEmpty_shows (s := { s.setF F.FI_DL_CFG_LOG2 (bits v.toNat 1 5) with fi := s.dlTaken v.toNat })
    have hlog : Frame (may [.integrity, .regs 8]) s (s.setF F.FI_DL_CFG_LOG2 (bits v.toNat 1 5)) := State.setF_frame _ _ _ rfl rfl
    exact ⟨_, congrArg Host.Outcome.next hwrite, hon, hphase, hhead, htail, dlEmpty_frame.fi rfl,
      hlog.trans (((withFi_frame _).mono rfl).trans (dlEmpty_frame.mono rfl))⟩
  case head =>
    subst hn
    have hwrite := writeReg_dlHead (v := v) htakes
    refine ⟨fun hv hroom => ?_, fun hbad => ?_⟩
    · have hsize : 2 ^ s.fi.dlK ≤ 2 ^ 16 := Nat.pow_le_pow_right (by decide) hk
      rw [dlHeadWrite_releases hv hroom hidle] at hwrite
      refine ⟨_, congrArg Host.Outcome.next hwrite, ?_, Frame.step (State.setF_frame _ _ _ rfl rfl) (State.setF_frame _ _ _ rfl rfl)⟩
      rw [getF_setF_ne _ _ (by decide) (by decide), getF_setF_same _ _ _ (by decide)]
      exact Nat.mod_eq_of_lt (lt_of_lt_of_le hv hsize)
    · rw [dlHeadWrite_ignored hbad] at hwrite
      exact ⟨_, congrArg Host.Outcome.next hwrite, (State.refuse_frame ..).getF rfl, (State.refuse_frame ..).fi rfl⟩
  case write =>
    obtain ⟨hgone, hframe⟩ := letterWrite_goes { s.fi with writing := true } hletters hawake
    exact ⟨_, execDeadLetterWrite_writes hletters hout hen hnot hroom, hgone, rfl, hframe⟩
  case retry =>
    obtain ⟨hgone, hframe⟩ := letterWrite_goes { s.fi with dlFailed := false } hletters hawake
    exact ⟨_, execDlWriteRetry_writes hout hwriting hfailed, hgone, rfl, hframe⟩
  case visible =>
    obtain ⟨hfi, hslot, hphase, hnotice⟩ := letterAck_shows hidle
    subst htail
    refine ⟨s.letterAck, if_neg (by simp [hwriting, hfailed]), ?_, fun hroom => ?_, fun hend => ?_, hnotice⟩
    · rw [hfi, letterSeen, hletters, ← hfailed]
      rfl
    · obtain ⟨htail, hpass⟩ := slotTaken_goesOn hroom hk
      exact ⟨hslot.trans htail, hphase.trans hpass⟩
    · obtain ⟨htail, hpass⟩ := slotTaken_wraps hend
      exact ⟨hslot.trans htail, hphase.trans hpass⟩
  case failed =>
    exact ⟨_, if_neg (by simp [hwriting, hfailed]), rfl, withFi_frame _⟩
  case mapDone =>
    obtain ⟨hwaiting, hrows⟩ := mapDone_seq (s := { s with fi := { s.fi with mapWrites := l } }) hlast
    have hdone := State.mapDone_frame { s with fi := { s.fi with mapWrites := l } } id
    refine ⟨_, execFabricWriteAcknowledgement_map true hmap, congrArg Fi.mapWrites (hdone.fi rfl), fun o ho herase => ?_,
      fun r hr hwaits => ?_, ((withFi_frame _).mono rfl).trans (hdone.mono rfl)⟩
    · rw [if_pos rfl, hwaiting] at ho
      obtain ⟨x, -, rfl⟩ := List.mem_map.1 ho
      exact mapWritten_erase x id herase
    · rw [if_pos rfl, hrows] at hr
      obtain ⟨x, -, rfl⟩ := List.mem_map.1 hr
      exact mapWritten_row x id hwaits
  case mapFailed => exact ⟨_, execFabricWriteAcknowledgement_map false hmap, mapFailed_ends hdesc hopen hbuf⟩
  case beacon => exact ⟨s.raise F.PM_BCN_EVENT_BEACON_FAIL, rfl, raise_getF _ (by decide) rfl (by decide)⟩
  case own =>
    refine ⟨{ s with q := { s.q with owns := s.q.owns.tail } }, rfl, ?_, withQ_frame _⟩
    rw [howns]
    rfl
  case range =>
    obtain ⟨hrange, hcursor⟩ := spareWrite_range (s := s) v
    exact ⟨_, congrArg Host.Outcome.next (writeReg_spareRange htakes), hrange, hcursor, State.spareWrite_frame ..⟩
  case die =>
    obtain ⟨hdie, hcursor⟩ := spareWrite_die (s := s) v.toNat
    exact ⟨_, congrArg Host.Outcome.next (writeReg_spare htakes), hdie, hcursor, State.spareWrite_frame ..⟩

end Sys2Proof.Machine
end
